-- ==== Sys2Proof/Word.lean ====
section
/-!
DEFINITION. Sys2Proof/Word.lean: the word and byte types and their plainest conversions.
-/

namespace Sys2Proof

/-- A 32-bit register word. -/
abbrev Word := BitVec 32

/-- One byte. -/
abbrev Byte := BitVec 8

/-- A string of bytes, lowest address (or first sent) first. -/
abbrev Bytes := List Byte

/-- The value of a string of bytes, least significant byte first (R4). -/
def leNat : Bytes → Nat
  | [] => 0
  | b :: bs => b.toNat + 256 * leNat bs

/-- `n` bytes of a value, least significant byte first (R4). -/
def toLE : Nat → Nat → Bytes
  | 0, _ => []
  | n + 1, v => BitVec.ofNat 8 v :: toLE n (v / 256)

/-- The value of a string of bytes, most significant byte first. -/
def beNat (bs : Bytes) : Nat := leNat bs.reverse

/-- `n` bytes of a value, most significant byte first. -/
def toBE (n v : Nat) : Bytes := (toLE n v).reverse

/-- Bits `[hi:lo]` of a value. -/
def bitsN (v hi lo : Nat) : Nat := v / 2 ^ lo % 2 ^ (hi + 1 - lo)

/-- Bit `k` of a value. -/
def bitN (v k : Nat) : Bool := v / 2 ^ k % 2 == 1

/-- The bytes from offset `off`, `n` of them; bytes past the end read as 0. -/
def Bytes.slice (bs : Bytes) (off n : Nat) : Bytes :=
  let d := (bs.drop off).take n
  d ++ List.replicate (n - d.length) 0#8

/-- The little-endian value of `n` bytes from offset `off`. -/
def Bytes.le (bs : Bytes) (off n : Nat) : Nat := leNat (Bytes.slice bs off n)

/-- The big-endian value of `n` bytes from offset `off`. -/
def Bytes.be (bs : Bytes) (off n : Nat) : Nat := beNat (Bytes.slice bs off n)

/-- Every byte of a string is 0. -/
def Bytes.zero (bs : Bytes) : Bool := bs.all (· == 0#8)

/-- The two's-complement value of the low `w` bits of `v`. -/
def signedN (w v : Nat) : Int :=
  let u := v % 2 ^ w
  if u < 2 ^ (w - 1) then (u : Int) else (u : Int) - (2 ^ w : Nat)

/-- The `w`-bit two's-complement code of an integer. -/
def codeN (w : Nat) (i : Int) : Nat := (i % ((2 ^ w : Nat) : Int)).toNat

end Sys2Proof
end

