-- ==== Sys2Proof/Syntax.lean ====
section
/-!
DEFINITION. Sys2Proof/Syntax.lean: the commands the device takes (host-ring commands, doorbells, register writes,
and the events of its pins, links, radios, engines and timers), one constructor per row of spec/opcode_table.json.
-/

namespace Sys2Proof

/-- How a DMA transfer of the device fails (R473). -/
inductive DmaErr where
  | ur | ca | timeout
  deriving DecidableEq, Repr

/-- A descriptor the device fetches from a submission ring, with what the host memory it names returns. -/
structure Cmd where
  /-- Submission ring. -/
  sq : Fin 64
  /-- Descriptor byte 2. -/
  gen : Byte
  /-- Descriptor byte 3: bit 0 `fence`, the rest reserved. -/
  b3 : Byte
  /-- Descriptor bytes 4 to 7. -/
  tag : Word
  /-- Descriptor bytes 8 to 31. -/
  body : Bytes
  /-- What the command's DMA reads return, in the order it reads. -/
  rd : Bytes
  /-- The DMA read fails after those bytes (R473). -/
  rdErr : Option DmaErr
  /-- The command's own result write cannot be transmitted (R473). -/
  wrFail : Bool
  deriving DecidableEq, Repr

/-- Which transfer of a ring fails (R473). -/
inductive RingFail where
  | fetch | completion | event
  deriving DecidableEq, Repr

/-- The host losses that `HOST_LOSS` stands for (R481). -/
inductive LossKind where
  | linkDown | pllPcie | d3hot | busMaster
  deriving DecidableEq, Repr

/-- The levels on the strap balls when they are sampled (R42). -/
structure Straps where
  rescue : Bool
  pref : Bool
  id : Bool
  deriving DecidableEq, Repr

/-- What a carrier of Radio S (or of a mesh channel of Radio L) carries, as the link layer knows it. -/
inductive TxWhat where
  | beacon
  | down (addr frame : Nat)
  | circular (id copy : Nat)
  | receipt (addr : Nat) (defer : Bool)
  | keepAlive (addr : Nat)
  | notice (addr epoch : Nat)
  | joinResp (eui : Nat)
  | test
  deriving DecidableEq, Repr

/-- One carrier of a transmission (R167): channel, profile (0 P1, 1 P2, 2 P3), preamble bits, PSDU. -/
structure Carrier where
  ch : Nat
  prof : Nat
  preamble : Nat
  receipt : Bool
  psdu : Bytes
  what : TxWhat
  deriving DecidableEq, Repr

/-- A transmit request of Courier S (R175); times on the mesh timebase, ns.  `burst` marks a receipt burst. -/
structure TxReq where
  start : Nat
  deadline : Nat
  endLimit : Nat
  cca : Bool
  burst : Bool
  carriers : List Carrier
  deriving DecidableEq, Repr

/-- The parameters that the firmware gives a new connection (R223, R242). -/
structure ConnOp where
  map : Nat
  base : Nat
  inc : Nat
  interval : Nat
  latency : Nat
  timeout : Nat
  anchor : Nat
  deriving DecidableEq, Repr

/-- The fields of a SUN FSK PHR (R155). -/
structure Phr where
  modeSwitch : Bool
  fcsType : Bool
  whitening : Bool
  len : Nat
  deriving DecidableEq, Repr

/-- A data frame received by Radio L (`h` false) or H from a link address: TID, key ID and PN of a protected one,
whether its MIC holds, the sender's power-save bit, its payload as an Ethernet II frame, RSSI in dBm, the buffer it
reports; `dst` is the receiver's address.  `clip`: the PPDU is marked `clip`; `step`: a chain of L has stepped (R319,
R320). -/
structure WRx where
  h : Bool
  src : Nat
  dst : Nat
  tid : Fin 8
  keyId : Option Nat
  pn : Nat
  micOk : Bool
  pm : Bool
  frame : Bytes
  rssi : Int
  buf : Option Nat
  clip : Bool
  step : Bool
  deriving DecidableEq, Repr

/-- The kinds of management frame that R343 tells apart; `host` stands for those it gives to the host.  A TWT teardown
names one of the client's agreements on the radio, by its place among them, or all. -/
inductive MgmtKind where
  | addba | delba | saQuery | twtTeardown (which : Option Nat) | tidMap | host
  deriving DecidableEq, Repr

/-- A received management frame; a protected one with its key ID, PN and whether its MIC holds; `clip` and `step` as
in `WRx`. -/
structure WMgmt where
  h : Bool
  bss : Fin 16
  src : Nat
  kind : MgmtKind
  frame : Bytes
  rssi : Int
  prot : Option (Nat × Nat × Bool)
  clip : Bool
  step : Bool
  deriving DecidableEq, Repr

/-- A TWT setup request (R354): wake interval and nominal wake duration in µs, the first service period's start
in ns. -/
structure TwtReq where
  h : Bool
  src : Nat
  interval : Nat
  dur : Nat
  start : Nat
  trigger : Bool
  announced : Bool
  broadcast : Bool
  deriving DecidableEq, Repr

/-- A TXOP that the device has won: radio, access category (0 BE, 1 BK, 2 VI, 3 VO), whether it is used for uplink,
the level of COXA_GNT, and what the rates in use allow: MPDUs for each user, the airtime of one, of the
acknowledgements and of a trigger in ns, and the predicted SINR loss of clients in units of 0.5 dB. -/
structure Txop where
  h : Bool
  ac : Fin 4
  ul : Bool
  gnt : Bool
  mpdus : Nat
  mpduNs : Nat
  ackNs : Nat
  trigNs : Nat
  loss : List (Nat × Nat)
  deriving DecidableEq, Repr

/-- An entry of a slot record (R502): address, counter, epoch, and whether the frame was a duplicate. -/
structure TRec where
  addr : Nat
  ctr : Nat
  epoch : Nat
  dup : Bool
  deriving DecidableEq, Repr

/-- The content of a twin link message (R502).  `heard`: the peer has accepted this unit's HELLO (R501); `boundary`:
the slot's boundary on this unit's time, the link's latency corrected, in ns. -/
inductive TBody where
  | hello (claim mode role : Nat) (absent heard : Bool)
  | time (slot boundary : Nat)
  | slotRec (slot : Nat) (link inner : List TRec)
  | lease (epoch leaseEnd : Nat)
  | leaseAck (epoch leaseEnd : Nat)
  | revert (slot : Nat)
  | status (body : Bytes)
  deriving DecidableEq, Repr

/-- What every twin link message carries (R501): session and sequence number, and whether its tag verifies. -/
structure THdr where
  session : Nat
  seq : Nat
  tagOk : Bool
  deriving DecidableEq, Repr

/-- A twin link message. -/
structure TMsg where
  hdr : THdr
  body : TBody
  deriving DecidableEq, Repr

/-- A frame received on a mesh channel of Radio L: its index, its SFD-end time, ns, its marks `clip` and `step`
(R319). -/
structure LRx where
  ch : Fin 8
  sfdEnd : Nat
  clip : Bool
  step : Bool
  deriving DecidableEq, Repr

/-- A failure that a Dusk test finds (R540): macro or group, kind, address, bit. -/
structure DskHit where
  inst : Nat
  kind : Nat
  addr : Nat
  bit : Nat
  deriving DecidableEq, Repr

/-- Why a Triplicate lane is marked disagreeing (R128, R129, R131). -/
inductive LaneWhat where
  | compare | memory | readBack
  deriving DecidableEq, Repr

/-- A record that MRAM or flash holds in two copies, and the copy that fails its CRC; the lease record loses both. -/
inductive RecordAt where
  | lease
  | floor (second : Bool)
  | directory (second : Bool)
  | snapshot (second : Bool)
  | vault (slot : Fin 64) (second : Bool)
  deriving DecidableEq, Repr

/-- Where an uncorrectable memory error lies (R549, R588, R594). -/
inductive ErrAt where
  /-- A packet buffer cell: the queue and the place in it of the packet it belongs to. -/
  | cell (queue place : Nat)
  | connection (k : Fin 16384)
  /-- A working copy of key SRAM: the vault slot. -/
  | keyCopy (slot : Fin 64)
  | l2
  | courier (n : Fin 3)
  /-- The reduced-image region of Courier S local memory. -/
  | reducedImage
  | sorter (n : Fin 4)
  | wifi
  | queueDescriptors
  /-- DRAM outside the spill region, at an address. -/
  | dram (addr : Nat)
  /-- The SRAM of Triplicate lane 0 in Rescue. -/
  | lane0
  /-- A word of the backup RAM that is read (R123). -/
  | backupRam
  /-- The write of the newest event-log entry fails (R552). -/
  | logWrite
  | record (r : RecordAt)
  deriving DecidableEq, Repr

/-- The commands of the device: one constructor per row of spec/opcode_table.json.  The first operand `t` of
each is the instant it comes about, in ns. -/
inductive Instr where
  /-- NOP: Command that completes OK once it passes the common descriptor checks (R485) -/
  | nop (t : Nat) (c : Cmd) (opcode : Nat)
  /-- DEV_STATUS: Command that writes the 64-byte device status buffer to host memory (R485) -/
  | devStatus (t : Nat) (c : Cmd)
  /-- MODE_REQUEST: Command that requests a move to Hibernate, Doze, Dawn, Full or Dusk and completes DEFERRED, then OK when the target mode is reached (R55) -/
  | modeRequest (t : Nat) (c : Cmd)
  /-- LOG_READ: Command that copies event-log entries, starting at a requested sequence number, into a host buffer (R597) -/
  | logRead (t : Nat) (c : Cmd)
  /-- MESH_SF_SET: Command that announces a slotframe pattern change for an activation slot (R230) -/
  | meshSfSet (t : Nat) (c : Cmd)
  /-- MESH_CONN_SET: Command that creates connections, or schedules connection updates, from host parameter blocks (R232) -/
  | meshConnSet (t : Nat) (c : Cmd)
  /-- MESH_CONN_GET: Command that fills host parameter blocks from the connection table (R233) -/
  | meshConnGet (t : Nat) (c : Cmd)
  /-- MESH_CONN_CLOSE: Command that frees a connection at once, or after a notified CONN_CLOSE (R234) -/
  | meshConnClose (t : Nat) (c : Cmd)
  /-- MESH_ADMIT: Command that allows, denies or removes node contexts by EUI-64 (R264) -/
  | meshAdmit (t : Nat) (c : Cmd)
  /-- MESH_ROUTE: Command that gets, sets or deletes node route entries (R264) -/
  | meshRoute (t : Nat) (c : Cmd)
  /-- MESH_JOIN_DECIDE: Command by which the host admits or refuses a pending join (R265) -/
  | meshJoinDecide (t : Nat) (c : Cmd)
  /-- MESH_CIRC_SEND: Command that queues a root circular built from a host IPv6 packet (R266) -/
  | meshCircSend (t : Nat) (c : Cmd)
  /-- MESH_EPOCH_SET: Command that schedules a key-epoch rotation or ends the grace period now (R292) -/
  | meshEpochSet (t : Nat) (c : Cmd)
  /-- KV_LETTER: Command that queues a sealed letter for checking and commit (R315) -/
  | kvLetter (t : Nat) (c : Cmd)
  /-- KV_INFO: Command that writes the state of every vault slot to a host buffer (R315) -/
  | kvInfo (t : Nat) (c : Cmd)
  /-- KV_UNIT_PUB: Command that writes the unit ID and the transport public key to a host buffer (R315) -/
  | kvUnitPub (t : Nat) (c : Cmd)
  /-- KV_CMAC: Command that computes AES-CMAC over host data with a host_cmac vault slot (R315) -/
  | kvCmac (t : Nat) (c : Cmd)
  /-- WLN_BSS_SET: Command that sets or deletes BSS records (R363) -/
  | wlnBssSet (t : Nat) (c : Cmd)
  /-- WLN_CLIENT_SET: Command that creates, updates or deletes Wi-Fi clients (R364) -/
  | wlnClientSet (t : Nat) (c : Cmd)
  /-- WLN_KEY_SET: Command that installs or deletes Wi-Fi keys, or sets tx_use (R365) -/
  | wlnKeySet (t : Nat) (c : Cmd)
  /-- WLN_MGMT_TX: Command that transmits an 802.11 management frame from host memory (R367) -/
  | wlnMgmtTx (t : Nat) (c : Cmd)
  /-- WLN_CHAN_SWITCH: Command that switches a radio's channel after CSA beacons and a channel calibration (R367) -/
  | wlnChanSwitch (t : Nat) (c : Cmd)
  /-- WLN_CLIENT_GET: Command that fills host client records from the client contexts (R368) -/
  | wlnClientGet (t : Nat) (c : Cmd)
  /-- PCT_WRITE: Command that sets or deletes entries of Postcode tables 3 to 5 (R403) -/
  | pctWrite (t : Nat) (c : Cmd)
  /-- PCT_READ: Command that reads table entries by key into host records (R403) -/
  | pctRead (t : Nat) (c : Cmd)
  /-- PCT_DUMP: Command that dumps the records of one or more table segments (R404) -/
  | pctDump (t : Nat) (c : Cmd)
  /-- PCT_AUDIT: Command that writes a table's sequence number, segment digests and dirty bitmap (R405) -/
  | pctAudit (t : Nat) (c : Cmd)
  /-- PCT_FLUSH: Command that removes matching Ethernet MAC entries (R406) -/
  | pctFlush (t : Nat) (c : Cmd)
  /-- SRT_VLAN_SET: Command that sets or deletes VLAN records (R438) -/
  | srtVlanSet (t : Nat) (c : Cmd)
  /-- QMS_SHAPER_SET: Command that configures shapers, applied at each shaper's next refill (R451) -/
  | qmsShaperSet (t : Nat) (c : Cmd)
  /-- QMS_SHAPER_GET: Command that reads shaper parameters and state into host records (R458) -/
  | qmsShaperGet (t : Nat) (c : Cmd)
  /-- QMS_QUEUE_SET: Command that sets queue class, weight and shaper attachment (R459) -/
  | qmsQueueSet (t : Nat) (c : Cmd)
  /-- QMS_QUEUE_GET: Command that reads queue configuration and occupancy into host records (R459) -/
  | qmsQueueGet (t : Nat) (c : Cmd)
  /-- TWN_ROLE_REQUEST: Command that holds, releases or clears a stand-down of the twin role (R513) -/
  | twnRoleRequest (t : Nat) (c : Cmd)
  /-- TWN_STATUS: Command that writes twin status to a host buffer (R514) -/
  | twnStatus (t : Nat) (c : Cmd)
  /-- UPD_STAGE: Command that writes a chunk of an image set into flash (R531) -/
  | updStage (t : Nat) (c : Cmd)
  /-- UPD_VERIFY: Command that verifies an image set, and in Full loads its DRAM copy (R531) -/
  | updVerify (t : Nat) (c : Cmd)
  /-- UPD_ACTIVATE: Command that activates or commits an image set (R523) -/
  | updActivate (t : Nat) (c : Cmd) (straps : Straps)
  /-- UPD_STATUS: Command that writes the update status buffer (R587) -/
  | updStatus (t : Nat) (c : Cmd)
  /-- UPD_LETTER: Command that submits a sealed letter, as KV_LETTER does, including in Dawn (R531) -/
  | updLetter (t : Nat) (c : Cmd)
  /-- DSK_RESULT: Command that writes a Dusk run summary and its failure records (R547) -/
  | dskResult (t : Nat) (c : Cmd)
  /-- FLT_SET: Command that sets or clears fault-injection rules, or closes the window (R558) -/
  | fltSet (t : Nat) (c : Cmd)
  /-- TEL_READ: Command that writes the newest telemetry sample set (R556) -/
  | telRead (t : Nat) (c : Cmd)
  /-- PKT_TX: Command that sends a host packet into a Sorter, or directly to a destination (R474) -/
  | pktTx (t : Nat) (c : Cmd)
  /-- PKT_RX_POST: Command that posts a receive buffer to a receive ring (R475) -/
  | pktRxPost (t : Nat) (c : Cmd)
  /-- LETTER_PROCESS: At its turn, a queued letter is checked, committed and given its final completion (R310) -/
  | letterProcess (t : Nat) (mramOk : Bool) (otpOk : Bool)
  /-- UPD_STAGE_DONE: A staged chunk's flash write and read-back complete, and the final completion is posted (R531) -/
  | updStageDone (t : Nat) (ok : Bool)
  /-- UPD_VERIFY_DONE: Verification of a set completes, and its state and final status are posted (R519) -/
  | updVerifyDone (t : Nat)
  /-- PCT_DUMP_DONE: The segment dump completes, and the header and final OK are written (R404) -/
  | pctDumpDone (t : Nat)
  /-- PCT_FLUSH_DONE: The MAC flush completes, and its final OK is posted (R406) -/
  | pctFlushDone (t : Nat)
  /-- SUBMISSION_DOORBELL: A doorbell write that sets a submission ring's tail after the generation checks (R470) -/
  | submissionDoorbell (t : Nat) (n : Fin 64) (narrow : Bool) (val : Word)
  /-- COMPLETION_DOORBELL: A doorbell write that returns completion ring space (R470) -/
  | completionDoorbell (t : Nat) (n : Fin 64) (narrow : Bool) (val : Word)
  /-- DESCRIPTOR_FETCH_FAILURE: A descriptor fetch or a completion write fails, and the ring stops with a ring-error event (R473) -/
  | descriptorFetchFailure (t : Nat) (what : RingFail) (n : Fin 64) (err : DmaErr)
  /-- MSIX_COALESCE_TIMER: coal_us expires after a completion entry, and the ring's MSI-X vector is raised (R484) -/
  | msixCoalesceTimer (t : Nat) (n : Fin 64)
  /-- SQ_ENABLE: A write of en = 1 that enables a submission ring with head and tail at 0 (R483) -/
  | sqEnable (t : Nat) (n : Fin 64) (val : Word)
  /-- SQ_DISABLE: A write of en = 0 that stops fetching and abandons unfetched descriptors (R483) -/
  | sqDisable (t : Nat) (n : Fin 64) (val : Word)
  /-- CQ_ENABLE: A write of en = 1 that enables a completion ring in phase 1 (R483) -/
  | cqEnable (t : Nat) (n : Fin 64) (val : Word)
  /-- CQ_DISABLE: A write of en = 0 to a completion ring, ignored with cfg_err set while an enabled ring names it (R483) -/
  | cqDisable (t : Nat) (n : Fin 64) (val : Word)
  /-- HIF_BUMP: A keyed HIF_CTRL write that discards host work with cause 0x6 (R480) -/
  | hifBump (t : Nat) (val : Word)
  /-- HOST_WDOG_KICK: A HIF_HOST_WDOG write that restarts the host watchdog (R481) -/
  | hostWdogKick (t : Nat) (val : Word)
  /-- HOST_WDOG_EXPIRY: The host watchdog expires, and the host is treated as lost (R481) -/
  | hostWdogExpiry (t : Nat)
  /-- HOST_LOSS: A link down, a PLL_PCIE loss, D3hot entry or Bus Master Enable cleared stops ring DMA and discards with cause 0x4 (R482) -/
  | hostLoss (t : Nat) (cause : LossKind)
  /-- PERST_N_ASSERT: PERST_N resets the PCIe endpoint and the host rings only (R73) -/
  | perstNAssert (t : Nat)
  /-- PERST_N_RELEASE: Configuration space becomes ready within 100 ms of PERST_N release (R61) -/
  | perstNRelease (t : Nat) (speed : Nat) (width : Nat)
  /-- SOFTWARE_RESET: A keyed PWR_RESET_CMD write resets all but the backup domain (R73) -/
  | softwareReset (t : Nat) (val : Word) (straps : Straps)
  /-- DSK_ABORT: A keyed DSK_CTRL abort write is a service request that ends a Dusk run early (R545) -/
  | dskAbort (t : Nat) (val : Word)
  /-- RTC_SET: A write of RTC_SEC_HI completes a time set, with its delta applied to the connection anchors (R104) -/
  | rtcSet (t : Nat) (hi : Word)
  /-- RTC_SHIFT: An RTC_CMD shift moves the time by n/32,768 s at the next backup tick (R110) -/
  | rtcShift (t : Nat) (n : BitVec 16)
  /-- RTC_ADD_HOUR: An RTC_CMD add-hour raises the local offset by 3,600 s at the next whole second (R109) -/
  | rtcAddHour (t : Nat)
  /-- RTC_SUB_HOUR: An RTC_CMD subtract-hour lowers the local offset by 3,600 s at the next whole second (R109) -/
  | rtcSubHour (t : Nat)
  /-- ALM1_CLEAR_MARK: An RTC_CMD action that clears the alarm 1 high-water mark (R113) -/
  | alm1ClearMark (t : Nat)
  /-- SRX_CAL_QUICK: An SRX_CAL_CMD write that requests a quick calibration of Radio S (R180) -/
  | srxCalQuick (t : Nat)
  /-- SRX_CAL_FULL: An SRX_CAL_CMD write that requests a full calibration of Radio S (R180) -/
  | srxCalFull (t : Nat)
  /-- LH_CAL_FULL: A CAL_CMD write that requests a full calibration of Radio L or H (R331) -/
  | lhCalFull (t : Nat) (h : Bool)
  /-- LH_CAL_CHANNEL: A CAL_CMD write that requests a channel calibration of Radio L or H (R331) -/
  | lhCalChannel (t : Nat) (h : Bool)
  /-- GPI_SET: A write that sets GPI_OUT bits (R580) -/
  | gpiSet (t : Nat) (val : Word)
  /-- GPI_CLR: A write that clears GPI_OUT bits (R580) -/
  | gpiClr (t : Nat) (val : Word)
  /-- PAIR_LO_READ: A read of a _LO register that loads the _HI read latch (R8) -/
  | pairLoRead (t : Nat) (off : Nat)
  /-- REGISTER_WRITE: Any other BAR0 write, applied under its field types, with the narrow and gated-block cases recorded (R9) -/
  | registerWrite (t : Nat) (off : Nat) (len : Nat) (val : Nat)
  /-- PBOX_POP: A Postmaster pops one Post-box word (R144) -/
  | pboxPop (t : Nat) (upset : BitVec 64)
  /-- VIN_OK_RISE: VIN_OK rises, and a power-on or start from Hibernate begins the staged start (R47) -/
  | vinOkRise (t : Nat) (straps : Straps)
  /-- VIN_OK_FALL: VIN_OK falls; outputs are released, the backup domain goes to VBAT, and Hibernate is entered (R70) -/
  | vinOkFall (t : Nat)
  /-- VBACK_BROWN_OUT: VBACK falls below 1.40 V, and the backup domain restarts cold (R121) -/
  | vbackBrownOut (t : Nat)
  /-- RESET_N_ASSERT: A filtered low on RESET_N puts the whole reset scope into reset (R593) -/
  | resetNAssert (t : Nat) (width : Nat) (acts : Bool)
  /-- RESET_N_RELEASE: RESET_N rises; the straps are sampled and the staged start begins (R593) -/
  | resetNRelease (t : Nat) (straps : Straps)
  /-- WAKE_IN_RISE: A rising edge on WAKE_IN wakes the device from Hibernate or Doze, or aborts Dusk (R75) -/
  | wakeInRise (t : Nat) (straps : Straps)
  /-- GPIO_WAKE: A GPIO held at its wake level for 1 µs ends Doze (R567) -/
  | gpioWake (t : Nat) (n : Fin 8) (level : Bool)
  /-- ETH_SIGNAL_DETECT: Ethernet signal detect wakes the device from Doze (R75) -/
  | ethSignalDetect (t : Nat) (port : Fin 2)
  /-- DAWN_IMAGE_VERIFIED: Franking completes verification of the Dawn image and the reduced Courier S image (R142) -/
  | dawnImageVerified (t : Nat) (flashOk : Bool)
  /-- DAWN_ON_AIR: Dawn service goes on air, and the boot watchdog is armed for the full load (R60) -/
  | dawnOnAir (t : Nat)
  /-- DRAM_TRAINING_DONE: DRAM training completes, or fails, which leaves the device in Dawn (R62) -/
  | dramTrainingDone (t : Nat) (vddq : Bool) (ok : Bool)
  /-- VDDQ_RETRY: The 1 s retry of DRAM training while VDDQ_DDR is missing or training fails (R62) -/
  | vddqRetry (t : Nat) (vddq : Bool)
  /-- FULL_SET_LOADED: The full image set is loaded into DRAM and verified (R521) -/
  | fullSetLoaded (t : Nat) (straps : Straps)
  /-- ENGINES_LOADED: Postmaster 0 completes loading every engine and restoring the tables (R21) -/
  | enginesLoaded (t : Nat) (ok : Bool) (lost : List Nat) (straps : Straps)
  /-- FULL_REACHED: Dawn service hands the mesh to Courier S at a slot boundary, and the device is in Full (R63) -/
  | fullReached (t : Nat) (copyOk : Bool) (lost : List Nat)
  /-- BOOT_WATCHDOG_EXPIRY: The boot watchdog expires during the full load (R522) -/
  | bootWatchdogExpiry (t : Nat) (straps : Straps)
  /-- DOZE_ENTRY: The move into Doze: BSSs stop, state is copied to DRAM, and the domains are lowered (R52) -/
  | dozeEntry (t : Nat)
  /-- DOZE_HOLD_LIMIT: Held payloads reach hold_cells or hold_max_s, and Doze ends with a move to Full (R53) -/
  | dozeHoldLimit (t : Nat)
  /-- DOZE_SLOT_WAKE: The mesh slot timer powers the mesh domain and starts the fast clocks for a slot (R183) -/
  | dozeSlotWake (t : Nat)
  /-- HIBERNATE_ENTRY: A requested move into Hibernate writes the snapshot and posts the final OK (R56) -/
  | hibernateEntry (t : Nat)
  /-- REQUESTED_DAWN_ENTRY: At the slot boundary, Dawn service takes the mesh and the control and data domains power off (R51) -/
  | requestedDawnEntry (t : Nat)
  /-- DUSK_ENTRY: The Dusk run starts after the snapshot, claim 0000 and engine stop (R534) -/
  | duskEntry (t : Nat)
  /-- DUSK_GROUP_END: A stagger group's test ends and its blocks are re-initialised (R537) -/
  | duskGroupEnd (t : Nat) (fails : List DskHit) (peakMw : Nat)
  /-- DUSK_RUN_END: The Dusk run ends, with fuse programming, and the device leaves for Full or Hibernate (R546) -/
  | duskRunEnd (t : Nat) (fuseOk : List Bool)
  /-- SNAPSHOT_PERIODIC: The periodic connection snapshot is written at drizzle priority (R65) -/
  | snapshotPeriodic (t : Nat) (ok : Bool)
  /-- RC_OSC_FAIL_ONE: One RC oscillator stops or drifts, and rc_one is set (R80) -/
  | rcOscFailOne (t : Nat)
  /-- RC_OSC_FAIL_TWO: Two RC oscillators stop; the claim drops and the device is held in reset (R80) -/
  | rcOscFailTwo (t : Nat)
  /-- RC_HOLD_END: The voted RC clock has run for 1 ms, and the staged start begins (R80) -/
  | rcHoldEnd (t : Nat) (straps : Straps)
  /-- RC_TRIM_TICK: The once-per-second RC measurement steps the trim code (R81) -/
  | rcTrimTick (t : Nat) (count : Nat)
  /-- REFCLK_STOP_DETECT: REFCLK_IN stops; outputs are forced safe and the PLL domains are stopped (R94) -/
  | refclkStopDetect (t : Nat)
  /-- REFCLK_FREQ_DETECT: REFCLK frequency is out of range in two consecutive windows, handled as a REFCLK failure (R92) -/
  | refclkFreqDetect (t : Nat) (c1 : Nat) (c2 : Nat)
  /-- REFCLK_ABSENT_100MS: REFCLK_IN has been absent for 100 ms, and FAULT_N is asserted (R94) -/
  | refclkAbsent100ms (t : Nat)
  /-- REFCLK_RETURN: Both REFCLK detectors have been clear for 10 ms; the device recovers as from a fatal fault (R95) -/
  | refclkReturn (t : Nat)
  /-- XTAL32_STOP: XTAL32 stops with VIN present, and the backup tick switches to the REFCLK divider (R98) -/
  | xtal32Stop (t : Nat)
  /-- XTAL32_RESTART: XTAL32 has run for 1 s, and the tick returns to it (R98) -/
  | xtal32Restart (t : Nat)
  /-- XTAL32_GAP_HIBERNATE: XTAL32 stops in Hibernate, latching xtal_gap and time_lost (R118) -/
  | xtal32GapHibernate (t : Nat)
  /-- PLL_UNLOCK: A PLL loses lock for more than 1 µs, handled by its row of R99 (R99) -/
  | pllUnlock (t : Nat) (pll : Fin 7)
  /-- PLL_RELOCK_ATTEMPT: The 10 ms attempt to relock an unlocked PLL (R598) -/
  | pllRelockAttempt (t : Nat) (pll : Fin 7) (ok : Bool)
  /-- OP_STEP_DONE: A voltage-frequency sequence completes, and any later target starts a new sequence (R85) -/
  | opStepDone (t : Nat)
  /-- THERMAL_CAP_CHANGE: The junction temperature crosses a threshold and changes the thermal cap (R88) -/
  | thermalCapChange (t : Nat) (temp : Int)
  /-- GATE_CLOSE_TIMEOUT: A forced gate closure waits 1,024 cycles without idle and closes with errors (R90) -/
  | gateCloseTimeout (t : Nat) (block : Fin 23) (engine : Option (Fin 15)) (host : List Nat)
  /-- BACKUP_TICK: A backup tick advances the RTC, applying trim pulses and pending sets, shifts and offsets (R103) -/
  | backupTick (t : Nat)
  /-- ALARM0_FIRE: The seconds count reaches alarm 0, which fires and disarms (R112) -/
  | alarm0Fire (t : Nat) (straps : Straps)
  /-- ALARM1_FIRE: The calendar matches alarm 1 beyond its mark, and it fires (R113) -/
  | alarm1Fire (t : Nat) (straps : Straps)
  /-- RTC_TRIM_WINDOW: The 64 s trim window ends, and auto trim updates pulses and dir (R117) -/
  | rtcTrimWindow (t : Nat) (count : Nat) (clear : Bool)
  /-- VBAT_MEASURE: VBAT is measured at the start and every 60 s (R122) -/
  | vbatMeasure (t : Nat) (mv : Nat)
  /-- LANE_DISAGREEMENT: One lane differs or has an uncorrectable SRAM error; it is isolated and resynchronised, or retired (R128) -/
  | laneDisagreement (t : Nat) (lane : Fin 3) (what : LaneWhat)
  /-- RESYNC_REJOIN: The lane copy ends; the pair halts, copies its registers, and three-lane voting resumes (R130) -/
  | resyncRejoin (t : Nat)
  /-- PAIR_DISAGREEMENT: The two lanes of the pair disagree; the claim drops and FAULT_N is asserted (R133) -/
  | pairDisagreement (t : Nat)
  /-- TPL_FATAL_RESET: 10 µs after a pair disagreement, the Triplicate fatal reset begins (R133) -/
  | tplFatalReset (t : Nat) (straps : Straps)
  /-- PBOX_STATE_REFRESH: The once-per-second state-refresh item is pushed to the Post-box (R146) -/
  | pboxStateRefresh (t : Nat)
  /-- SLOT_BOUNDARY: A 25 ms slot starts; the slot number advances and slot-boundary settings take effect (R190) -/
  | slotBoundary (t : Nat)
  /-- RX_WINDOW_OPEN: A U-slot or node-receipt receive window opens (R589) -/
  | rxWindowOpen (t : Nat) (receipt : Bool) (p0 : Int) (p1 : Int)
  /-- RX_WINDOW_CLOSE: A receive window closes; the demodulators stop and truncated frames are delivered (R166) -/
  | rxWindowClose (t : Nat)
  /-- PREAMBLE_DETECT: A demodulator detects a preamble and freezes the chain's AGC (R161) -/
  | preambleDetect (t : Nat) (demod : Fin 64) (chain : Fin 2)
  /-- DIVERSITY_DECISION: 16 bit periods after detection, the chain with the higher SNR is chosen (R163) -/
  | diversityDecision (t : Nat) (demod : Fin 64) (snr0 : Int) (snr1 : Int)
  /-- ADC_CLIP: Clipping on a frozen chain takes the 12 dB step, or marks the frames clip (R158) -/
  | adcClip (t : Nat) (chain : Fin 2)
  /-- SFD_FOUND: The SFD is found within tolerance and the PHR is read (R164) -/
  | sfdFound (t : Nat) (demod : Fin 64) (errs : Nat) (phr : Phr)
  /-- SFD_SEARCH_TIMEOUT: No SFD is found within 1,024 bit periods, and the demodulator returns to search (R164) -/
  | sfdSearchTimeout (t : Nat) (demod : Fin 64)
  /-- FRAME_DELIVERY: Radio S delivers a PSDU with its record to Courier S (R165) -/
  | frameDelivery (t : Nat) (demod : Fin 64) (l : Option LRx) (psdu : Bytes) (rssi : Int) (cfo : Int)
  /-- KEY_REQUEST: Courier S or L requests a node key once a frame's src has arrived (R272) -/
  | keyRequest (t : Nat) (addr : Nat) (epoch : Nat)
  /-- KEY_DERIVATION: Franking derives K_dev and K_ep on a cache miss and inserts them in the cache (R271) -/
  | keyDerivation (t : Nat)
  /-- FRAME_DECISION: A U-slot frame is checked, counted and given a burst place, DUP or DEFER, or no receipt (R204) -/
  | frameDecision (t : Nat) (mirrorFail : Bool)
  /-- DAWN_FRAME: A frame received in Dawn gets a DEFER receipt or is dropped (R137) -/
  | dawnFrame (t : Nat)
  /-- INNER_BLOCK_CHECK: The inner block of a relayed uplink is checked against the origin's key and counter (R248) -/
  | innerBlockCheck (t : Nat) (mirrorFail : Bool)
  /-- ADMISSION: Postmaster firmware decides an accepted join or re-attach request (R239) -/
  | admission (t : Nat) (par : ConnOp)
  /-- JOIN_DECIDE_DEADLINE: No host decision by the deadline, and result 0x03 is sent (R243) -/
  | joinDecideDeadline (t : Nat) (token : BitVec 16)
  /-- RECEIPT_BURST: The U-slot receipt burst is requested for 20.900 ms, with one carrier per place (R207) -/
  | receiptBurst (t : Nat)
  /-- D_SLOT_TX: The carriers of a D slot are chosen by precedence and transmitted at 2.000 ms (R210) -/
  | dSlotTx (t : Nat)
  /-- NODE_RECEIPT: A node receipt in the node-receipt window confirms or defers a downlink frame (R211) -/
  | nodeReceipt (t : Nat)
  /-- CONNECTION_EVENT: At a connection event, supervision is checked, and the connection lapses if it has timed out (R220) -/
  | connectionEvent (t : Nat) (conn : Fin 16384)
  /-- CONN_UPDATE_INSTANT: A pending parameter change takes effect at its instant (R222) -/
  | connUpdateInstant (t : Nat) (conn : Fin 16384)
  /-- LAPSE_HOLD_EXPIRY: A lapsed connection becomes Free after hold_s (R221) -/
  | lapseHoldExpiry (t : Nat) (conn : Fin 16384)
  /-- POSTMARK_EXPIRY: A postmark ages past 120 s and leaves the cache (R254) -/
  | postmarkExpiry (t : Nat)
  /-- FRAGMENT_TIMEOUT: A reassembly exceeds timeout_s and is discarded (R262) -/
  | fragmentTimeout (t : Nat)
  /-- MIC_WINDOW_END: The 60 s MIC-failure window ends, and posts a security event if the count reached mic_evt (R281) -/
  | micWindowEnd (t : Nat)
  /-- LEASE_EXTEND: 2^16 values remain below lease_end, and the next lease is written and sent (R283) -/
  | leaseExtend (t : Nat) (ok : Bool)
  /-- LEASE_WRITE_RETRY: A failed lease record write is retried at the slot boundary (R283) -/
  | leaseWriteRetry (t : Nat) (ok : Bool)
  /-- EPOCH_ROTATION: A pending rotation takes effect at its slot in Full and starts the grace period (R286) -/
  | epochRotation (t : Nat)
  /-- GRACE_END: The grace period ends; the previous epoch is removed and an event is posted (R289) -/
  | graceEnd (t : Nat)
  /-- DL_COUNTER_WARN: The downlink counter reaches MSH_DL_WARN, and a security event is posted (R290) -/
  | dlCounterWarn (t : Nat)
  /-- DL_COUNTER_EXHAUSTED: The downlink counter reaches 2^40, and secured transmission stops (R290) -/
  | dlCounterExhausted (t : Nat)
  /-- TX_REQUEST: Courier S issues a transmit request; its effective start is computed, or LATE (R175) -/
  | txRequest (t : Nat) (req : TxReq)
  /-- TX_DECISION_DEADLINE: The synthesiser is not ready by deadline − 96 µs, and the request completes LATE (R176) -/
  | txDecisionDeadline (t : Nat)
  /-- RX_TO_TX_TURNAROUND: Reception stops and the front-end pins sequence into transmission, after the CCA, COXB and claim samples (R171) -/
  | rxToTxTurnaround (t : Nat) (energy : List Int) (gnt : Bool)
  /-- TX_END: The last carrier ends, and the TX-to-RX turnaround returns the radio to receive (R172) -/
  | txEnd (t : Nat)
  /-- TX_CUT: The claim gate closes or the clock force acts during a transmission, which is cut (R174) -/
  | txCut (t : Nat)
  /-- SYNTH_LOCK_LOSS: The Radio S synthesiser loses lock and relocks with the stored band code (R176) -/
  | synthLockLoss (t : Nat)
  /-- SRX_CAL_START: A due or requested Radio S calibration runs at the start of the next D slot (R181) -/
  | srxCalStart (t : Nat)
  /-- SRX_CAL_DONE: A Radio S calibration ends, and a second failure stops the radio (R182) -/
  | srxCalDone (t : Nat) (ok : Bool) (temp : Int)
  /-- SRX_CAL_DUE: A temperature change or the period makes a quick calibration due (R180) -/
  | srxCalDue (t : Nat) (temp : Int)
  /-- COXB_EXT_REQ_RISE: The external radio requests the medium on COXB_EXT_REQ (R187) -/
  | coxbExtReqRise (t : Nat)
  /-- COXB_EXT_REQ_FALL: COXB_EXT_REQ falls, and the grant falls within 2 µs (R187) -/
  | coxbExtReqFall (t : Nat)
  /-- COXB_PREEMPT: An external grant is withdrawn preempt_lead before an S transmission, or the transmission goes LATE (R188) -/
  | coxbPreempt (t : Nat)
  /-- COXA_EXT_REQ_RISE: The external 2.4 GHz radio requests the medium on COXA_EXT_REQ (R335) -/
  | coxaExtReqRise (t : Nat)
  /-- COXA_EXT_REQ_FALL: COXA_EXT_REQ falls, and the grant falls (R335) -/
  | coxaExtReqFall (t : Nat)
  /-- COXA_PREEMPT: An external grant is withdrawn before a mesh transmit interval on L, or the mesh goes LATE (R336) -/
  | coxaPreempt (t : Nat)
  /-- RESERVED_INTERVAL_START: A reserved mesh interval on L starts, and Wi-Fi reception is abandoned if the mesh transmits (R329) -/
  | reservedIntervalStart (t : Nat) (gnt : Bool) (busy : Bool)
  /-- LH_TX_START: A Wi-Fi PPDU or mesh transmission on L or H starts its pin sequence (R324) -/
  | lhTxStart (t : Nat) (h : Bool) (gnt : Bool) (dur : Nat)
  /-- LH_TX_END: A transmission on L or H ends and its pins return to receive (R325) -/
  | lhTxEnd (t : Nat) (h : Bool) (acked : Nat) (giveUp : Nat) (reports : List Nat)
  /-- LH_TX_CUT: The claim gate closes during an L or H transmission, which is cut (R326) -/
  | lhTxCut (t : Nat) (h : Bool)
  /-- LH_CAL_DONE: An L or H calibration ends, and a second failure stops the radio (R332) -/
  | lhCalDone (t : Nat) (h : Bool) (ok : Bool) (temp : Int)
  /-- LH_TRACKING_PIECE: A tracking calibration piece runs in a gap (R331) -/
  | lhTrackingPiece (t : Nat) (h : Bool) (last : Bool) (temp : Int)
  /-- PROBE_REQUEST: Firmware answers a probe request from the BSS records (R341) -/
  | probeRequest (t : Nat) (h : Bool) (src : Nat) (ssid : Bytes)
  /-- WIFI_MGMT_RX: A received management frame is handled by firmware or delivered to the host ring (R343) -/
  | wifiMgmtRx (t : Nat) (m : WMgmt)
  /-- TWT_SETUP_REQUEST: Firmware accepts, counters or rejects a TWT setup request (R354) -/
  | twtSetupRequest (t : Nat) (q : TwtReq)
  /-- WIFI_DATA_RX: A received data frame is decrypted, replay-checked and admitted, or dropped (R343) -/
  | wifiDataRx (t : Nat) (f : WRx) (respNs : Nat)
  /-- TXOP_WON: The scheduler builds SU, OFDMA or MU-MIMO downlink, or triggers, for a TXOP it has won (R348) -/
  | txopWon (t : Nat) (x : Txop)
  /-- BSRP_TRIGGER: A BSRP trigger is sent every bsrp_ms (R350) -/
  | bsrpTrigger (t : Nat) (h : Bool) (dur : Nat) (polled : List Nat)
  /-- SOUNDING: Beamformee clients are sounded every sound_ms (R349) -/
  | sounding (t : Nat) (dur : Nat)
  /-- TBTT_BEACON: BSS 0 sends its beacon at each TBTT (R341) -/
  | tbttBeacon (t : Nat) (h : Bool)
  /-- CLIENT_UNREACHABLE: 32 consecutive unacknowledged PPDUs post a client-unreachable event (R344) -/
  | clientUnreachable (t : Nat) (client : Fin 512)
  /-- PN_LEASE_EXTEND: 2^12 PNs remain in a key's lease, and a new lease is written (R359) -/
  | pnLeaseExtend (t : Nat) (key : Nat) (ok : Bool)
  /-- ETH_FRAME_RX: A frame received on an Ethernet port is admitted or dropped and passed to a Sorter (R424) -/
  | ethFrameRx (t : Nat) (port : Fin 2) (frame : Bytes) (fcsOk : Bool)
  /-- SORTER_PACKET: A Sorter parses, classifies, looks up and enqueues a packet (R410) -/
  | sorterPacket (t : Nat) (n : Fin 4)
  /-- LEARN_UPDATE: A queued learning request is applied at the MAC table update port (R388) -/
  | learnUpdate (t : Nat)
  /-- LEARN_FAIL_RECORD: The once-per-second learn-failure record is posted (R389) -/
  | learnFailRecord (t : Nat)
  /-- ROUND_VISIT: The Round visits an entry and clears, strikes or removes it (R392) -/
  | roundVisit (t : Nat) (node : Bool) (hitNow : Bool)
  /-- TABLE_ECC_ERROR: An uncorrectable table error removes the entry and marks its segment dirty (R400) -/
  | tableEccError (t : Nat) (table : Fin 6) (key : Nat) (corrected : Bool)
  /-- DIGEST_RESCAN: A dirty segment's digest is recomputed by a table scan (R400) -/
  | digestRescan (t : Nat)
  /-- SPILL_MOVE: Occupancy at spill_on starts the spill engine moving queue tails to DRAM (R419) -/
  | spillMove (t : Nat)
  /-- SPILL_FETCH_DONE: Spilled packets are fetched back on chip (R420) -/
  | spillFetchDone (t : Nat) (queue : Nat) (bad : BitVec 8)
  /-- XOFF_REPEAT: XOFF is repeated every 32,768 quanta while the condition holds (R432) -/
  | xoffRepeat (t : Nat) (port : Fin 2) (unit : Fin 8)
  /-- PAUSE_RX: A received pause or PFC frame pauses egress classes (R434) -/
  | pauseRx (t : Nat) (port : Fin 2) (pfc : Bool) (classes : BitVec 8) (quanta : List Nat)
  /-- PAUSE_TIMER_EXPIRY: A received pause timer runs out and the classes resume (R434) -/
  | pauseTimerExpiry (t : Nat) (port : Fin 2) (cls : Fin 8)
  /-- ETH_LINK_DOWN: A port's link goes down; queued frames and pauses are cleared and MAC entries flushed (R435) -/
  | ethLinkDown (t : Nat) (port : Fin 2)
  /-- SHAPER_REFILL: A shaper refills its tokens each period and applies any pending record (R447) -/
  | shaperRefill (t : Nat) (n : Fin 8192)
  /-- EGRESS_DEQUEUE: An egress point chooses an eligible queue and dequeues a packet, charging its shapers (R442) -/
  | egressDequeue (t : Nat) (e : Fin 7)
  /-- CLAIM_IN_CHANGE: A synchronised CLAIM_IN change closes the gate and restarts the stability count (R495) -/
  | claimInChange (t : Nat) (value : Fin 16)
  /-- GATE_OPEN: After six stable cycles with the own claim higher, the gate opens and the role is derived (R495) -/
  | gateOpen (t : Nat)
  /-- HELLO: A HELLO message from the peer brings the link up and carries claim, mode and planned absence (R501) -/
  | hello (t : Nat) (m : THdr) (claim : Nat) (mode : Nat) (role : Nat) (absent : Bool) (heard : Bool)
  /-- TIME: A TIME message aligns the Shadow timebase and its slot number (R500) -/
  | time (t : Nat) (m : THdr) (slot : Nat) (boundary : Nat)
  /-- SLOT_REC: A SLOT_REC message confirms which frames the Shadow records (R499) -/
  | slotRec (t : Nat) (m : THdr) (slot : Nat) (link : List TRec) (inner : List TRec)
  /-- LEASE: A LEASE message is recorded as peer_end and acknowledged (R505) -/
  | lease (t : Nat) (m : THdr) (epoch : Nat) (leaseEnd : Nat) (ok : Bool)
  /-- LEASE_ACK: A LEASE_ACK lets the Lead use its new lease (R504) -/
  | leaseAck (t : Nat) (m : THdr) (epoch : Nat) (leaseEnd : Nat)
  /-- REVERT: A REVERT message stops the peer's Wi-Fi activity past 24.500 ms (R508) -/
  | revert (t : Nat) (m : THdr) (slot : Nat)
  /-- STATUS: A STATUS message reports the peer's serviceable conditions and holdoff (R502) -/
  | status (t : Nat) (m : THdr) (body : Bytes)
  /-- HELLO_TX: The 1 ms HELLO transmission (R502) -/
  | helloTx (t : Nat)
  /-- STATUS_TX: The 100 ms STATUS transmission (R502) -/
  | statusTx (t : Nat)
  /-- LEASE_RESEND: An unacknowledged LEASE is resent every 10 ms (R504) -/
  | leaseResend (t : Nat)
  /-- TWIN_LINK_TIMEOUT: No valid message for 10 ms takes the twin link down (R501) -/
  | twinLinkTimeout (t : Nat)
  /-- TWIN_LINK_RETRAIN: A down twin link retrains every 100 ms (R501) -/
  | twinLinkRetrain (t : Nat)
  /-- HOLDOFF_EXPIRY: The holdoff expires, and the preferred bit may rise (R493) -/
  | holdoffExpiry (t : Nat)
  /-- PREFERRED_RAISE: At 24.500 ms the preferred bit rises, or a hold clears serviceable (R508) -/
  | preferredRaise (t : Nat)
  /-- RECOVERY_WINDOW_CLOSE: Serviceable has held for 60 s, and the recovery window closes (R509) -/
  | recoveryWindowClose (t : Nat)
  /-- PEER_LOST: The peer's alive bit or the twin link has been lost for 1 s, and FAULT_N is asserted (R510) -/
  | peerLost (t : Nat)
  /-- STAND_DOWN: A second claim fault in the recovery window with a serviceable peer stands the device down (R509) -/
  | standDown (t : Nat)
  /-- REMASK_PASS: The 50 ms re-masking pass renews the key SRAM masks (R297) -/
  | remaskPass (t : Nat) (late : Bool)
  /-- REWRAP_SCHEDULED: The 86,400 s re-wrap of every loaded vault slot (R301) -/
  | rewrapScheduled (t : Nat)
  /-- PAUSE_START: At t0 Dawn service takes the mesh for an activation, with a discard and a flush (R523) -/
  | pauseStart (t : Nat)
  /-- TRIPLICATE_UPDATE: At a slot boundary the new Dawn image is broadcast into the lanes (R526) -/
  | triplicateUpdate (t : Nat) (ok : Bool)
  /-- ACTIVATION_LOAD_DONE: Every engine is reloaded and Full takes the mesh at t0 + 25 ms (R523) -/
  | activationLoadDone (t : Nat) (ok : Bool) (lost : List Nat) (straps : Straps)
  /-- ACTIVATION_TIMEOUT: Full is not reached by t0 + 100 ms, and the previous set is restored (R525) -/
  | activationTimeout (t : Nat) (straps : Straps)
  /-- TRIAL_COMMIT_TIMER: A Trial set runs commit_s in Full and is committed (R524) -/
  | trialCommitTimer (t : Nat)
  /-- XMODEM_DOWNLOAD: The Rescue loader receives a set file over the UART (R528) -/
  | xmodemDownload (t : Nat) (file : Bytes) (ok : Bool)
  /-- TFTP_WRITE_REQUEST: The Rescue loader accepts a TFTP write of the file set (R528) -/
  | tftpWriteRequest (t : Nat) (name : Bytes) (octet : Bool) (file : Bytes) (ok : Bool)
  /-- ENGINE_WATCHDOG_EXPIRY: An engine gives no heartbeat for 10 ms (R550) -/
  | engineWatchdogExpiry (t : Nat) (engine : Fin 15)
  /-- UNCORRECTABLE_ERROR: An uncorrectable memory error is classified and handled (R549) -/
  | uncorrectableError (t : Nat) (what : ErrAt) (straps : Straps)
  /-- SCRUB_PASS: A scrub pass of SRAM or DRAM completes, or overruns (R554) -/
  | scrubPass (t : Nat) (dram : Bool) (late : Bool) (ecc : Nat × Nat × Nat)
  /-- MRAM_PAGE_MIGRATE: A worn MRAM page is copied to a spare and remapped (R555) -/
  | mramPageMigrate (t : Nat) (page : Nat) (writes : Nat) (ok : Bool)
  /-- TELEMETRY_SAMPLE: Telemetry is sampled every tel_ms (R556) -/
  | telemetrySample (t : Nat) (temps : List Int) (rails : List (Nat × Nat)) (vin : Nat) (power : Nat)
  /-- FAULT_WINDOW_EXPIRY: duration_s elapses and the fault-injection window closes (R557) -/
  | faultWindowExpiry (t : Nat)
  /-- REORDER_HOLD_EXPIRY: A frame held by a reorder rule is released after 1 ms (R559) -/
  | reorderHoldExpiry (t : Nat)
  /-- TWN_HOLD_TIMEOUT: A hold on a Lead whose role has not become Shadow within 50 ms is withdrawn and TWN_ROLE_REQUEST completes TIMEOUT (R513) -/
  | twnHoldTimeout (t : Nat)
  /-- SYNTH_RELOCK_DONE: The Radio S synthesiser relock ends within 200 µs, setting ready, or fails and is handled as a failed quick calibration (R176) -/
  | synthRelockDone (t : Nat) (ok : Bool)
  /-- ETH_LINK_UP: An Ethernet port's link comes up after enable, auto-negotiation or the partner's return, and ETH_STAT.link and the link LED follow (R598) -/
  | ethLinkUp (t : Nat) (port : Fin 2) (speed : Fin 6)
  /-- PCIE_LINK_UP: The PCIe Data Link Layer comes up again after a host-side link loss, so that the host can return and held events can be posted (R482) -/
  | pcieLinkUp (t : Nat) (speed : Nat) (width : Nat)
  /-- PCIE_CONFIG_WRITE: The host writes configuration space, such as a return from D3hot to D0, setting Bus Master Enable, or clearing PME_Status, which releases WAKE_N (R462) -/
  | pcieConfigWrite (t : Nat) (memSpace : Bool) (busMaster : Bool) (dstate : Fin 4) (relaxed : Bool) (clearPme : Bool)
  /-- TWT_SERVICE_PERIOD: A TWT service period starts, its clients become eligible, and in a trigger-enabled period the first trigger is sent within 1 ms (R354) -/
  | twtServicePeriod (t : Nat) (client : Fin 512) (idx : Nat)
  /-- RAIL_OUT_OF_RANGE: A rail of R69 leaves or returns to ±5 % of its target while VIN_OK holds, which drives PWR_GOOD and PWR_STAT.rails_ok (R70) -/
  | railOutOfRange (t : Nat) (inRange : Bool)
  deriving DecidableEq, Repr

end Sys2Proof
end

