-- ==== Sys2Proof/Decode.lean ====
section
/-!
DEFINITION. Sys2Proof/Decode.lean: the command a word spells by the bits of spec/opcode_table.json.
-/

namespace Sys2Proof

/-- No row of spec/opcode_table.json gives its command bits, so no word spells a command
(notes/assumptions/1.md). -/
def decodeTableWord (_nbits _w : Nat) : Option Instr := none

end Sys2Proof
end

