-- ==== Sys2Proof/Config.lean ====
section
/-!
DEFINITION. Sys2Proof/Config.lean: the free values, that is, the values the spec leaves open.  Each is an opaque
constant with no body, so that no proof can see a value of it (notes/assumptions gives the entry for each).
-/

namespace Sys2Proof.Config

/-- A draw of the device's random-number generator, and every other value the spec leaves open at one moment:
applied to the state's counter `free`, which each use advances. -/
opaque freeBits (w : Nat) (n : Nat) : BitVec w

/-- The same as a string of `len` bytes. -/
opaque freeBytes (len : Nat) (n : Nat) : Bytes

/-- The keyed hash of a cuckoo table: seed, table, bank, key (R370 gives no function). -/
opaque cuckooHash (seed table bank key : Nat) : Nat

/-- The hash that spreads flows over the four Sorters, over the fields R407 names (no function is given). -/
opaque flowHash (fields : Bytes) : Fin 4

/-- The set of the derived-key cache that a short address and epoch fall into (R271 gives no function). -/
opaque cacheSet (addr epoch : Nat) : Nat

/-- The storage key that the hardware derives from the unit secret in OTP, and the private half of the unit
transport key (R300, R304): they never leave the device. -/
opaque storageKey : Bytes
opaque transportKey : Nat

/-- The LPM trie has too little free pool space for a prefix beside those present (R387 gives no pool size). -/
opaque lpmPoolShort (present : List Nat) (key : Nat) : Bool

/-- The pseudo-random draw number `n` of a fault-injection rule with a seed (R558 gives no generator), and the bit that
a corruption inverts (R559). -/
opaque fltDraw (seed n : Nat) : BitVec 16
opaque fltBit (seed n : Nat) : Nat

/-- The layout of the 128 bytes of TELEMETRY's sample set that TEL_READ writes (R556 names its contents and gives no
layout; nor does it say what is written before the first sample): temperatures, rails in mV and mA, VIN, power, RTC
seconds. -/
opaque telBuffer (temps : List Int) (rails : List (Nat × Nat)) (vin power sec : Nat) : Bytes

/-- The DRAM fitted, in GiB: 2, 4, 6 or 8 (R35). -/
opaque dramGiB : Nat

end Sys2Proof.Config
end

