-- ==== Sys2Proof/Machine/RegMap.lean ====
section
/-!
DEFINITION. Sys2Proof/Machine/RegMap.lean: the BAR0 registers, written from the register tables of the
chapters of spec/ (R38 gives the block bases; each chapter gives its registers' offsets, fields, access types
and reset values).  A row of a `regs…` list is one register or one regular array of registers.
A definition `F.<REGISTER>_<field>` names one field; for an array of registers it takes the index.
-/

namespace Sys2Proof.Machine

/-- One register, or one regular array of registers (`n1` × `n2` of them, at strides `s1` and `s2`), with the
bits of each access type of R9.  Bits in no mask are RO or reserved (R7). -/
structure RegFam where
  name : String
  base : Nat
  s1 : Nat
  n1 : Nat
  s2 : Nat
  n2 : Nat
  reset : Nat
  rw : Nat := 0
  rwl : Nat := 0
  rwq : Nat := 0
  w1c : Nat := 0
  wo : Nat := 0
  deriving DecidableEq, Repr

/-- A field of a register: BAR0 offset and bit range. -/
structure Fld where
  off : Nat
  hi : Nat
  lo : Nat
  deriving DecidableEq, Repr

/-- The registers of the `TOP_` block. -/
def regsTOP : List RegFam :=
  [ { name := "TOP_ID", base := 0x0, s1 := 0x10000000, n1 := 1, s2 := 0x10000000, n2 := 1, reset := 0x96800A01 }
    , { name := "TOP_HWTYPE", base := 0x4, s1 := 0x10000000, n1 := 1, s2 := 0x10000000, n2 := 1, reset := 0x9680A01 }
    , { name := "TOP_CAPS_0", base := 0x8, s1 := 0x10000000, n1 := 1, s2 := 0x10000000, n2 := 1, reset := 0x3344F40 }
    , { name := "TOP_CAPS_1", base := 0xC, s1 := 0x10000000, n1 := 1, s2 := 0x10000000, n2 := 1, reset := 0x2000C11 }
    , { name := "TOP_MODE", base := 0x10, s1 := 0x10000000, n1 := 1, s2 := 0x10000000, n2 := 1, reset := 0x2 }
    , { name := "TOP_STRAP", base := 0x14, s1 := 0x10000000, n1 := 1, s2 := 0x10000000, n2 := 1, reset := 0x0 }
    , { name := "TOP_ENGINE_STAT", base := 0x18, s1 := 0x10000000, n1 := 1, s2 := 0x10000000, n2 := 1, reset := 0x0 }
    , { name := "TOP_SCRATCH", base := 0x1C, s1 := 0x10000000, n1 := 1, s2 := 0x10000000, n2 := 1, reset := 0x0, rw := 0xFFFFFFFF }
    , { name := "TOP_UNIT_ID_W", base := 0x20, s1 := 0x4, n1 := 4, s2 := 0x10000000, n2 := 1, reset := 0x0 } ]

/-- The registers of the `PWR_` block. -/
def regsPWR : List RegFam :=
  [ { name := "PWR_STAT", base := 0x10000, s1 := 0x10000000, n1 := 1, s2 := 0x10000000, n2 := 1, reset := 0x1C }
    , { name := "PWR_RADIO_PERS", base := 0x10004, s1 := 0x10000000, n1 := 1, s2 := 0x10000000, n2 := 1, reset := 0xB, rwl := 0xF }
    , { name := "PWR_WAKE_EN", base := 0x10008, s1 := 0x10000000, n1 := 1, s2 := 0x10000000, n2 := 1, reset := 0xE, rw := 0x3FFE }
    , { name := "PWR_WAKE_CAUSE", base := 0x1000C, s1 := 0x10000000, n1 := 1, s2 := 0x10000000, n2 := 1, reset := 0x0, w1c := 0xFFFE }
    , { name := "PWR_RESET_CAUSE", base := 0x10010, s1 := 0x10000000, n1 := 1, s2 := 0x10000000, n2 := 1, reset := 0x0, w1c := 0x3F }
    , { name := "PWR_RESET_CMD", base := 0x10014, s1 := 0x10000000, n1 := 1, s2 := 0x10000000, n2 := 1, reset := 0x0, wo := 0xFFFF0000 }
    , { name := "PWR_SNAP_CFG", base := 0x10018, s1 := 0x10000000, n1 := 1, s2 := 0x10000000, n2 := 1, reset := 0x103C, rw := 0x1000, rwl := 0xFFF }
    , { name := "PWR_SNAP_STAT", base := 0x1001C, s1 := 0x10000000, n1 := 1, s2 := 0x10000000, n2 := 1, reset := 0x0, w1c := 0x1 }
    , { name := "PWR_DOZE_CFG", base := 0x10020, s1 := 0x10000000, n1 := 1, s2 := 0x10000000, n2 := 1, reset := 0x3841000, rw := 0xFFFFFFFF }
    , { name := "PWR_START_TIME", base := 0x10024, s1 := 0x10000000, n1 := 1, s2 := 0x10000000, n2 := 1, reset := 0x0 } ]

/-- The registers of the `CLK_` block. -/
def regsCLK : List RegFam :=
  [ { name := "CLK_STAT", base := 0x20000, s1 := 0x10000000, n1 := 1, s2 := 0x10000000, n2 := 1, reset := 0x47 }
    , { name := "CLK_FAIL", base := 0x20004, s1 := 0x10000000, n1 := 1, s2 := 0x10000000, n2 := 1, reset := 0x0, w1c := 0xFFF }
    , { name := "CLK_OP_CFG", base := 0x20008, s1 := 0x10000000, n1 := 1, s2 := 0x10000000, n2 := 1, reset := 0x3, rwl := 0x3 }
    , { name := "CLK_OP_STAT", base := 0x2000C, s1 := 0x10000000, n1 := 1, s2 := 0x10000000, n2 := 1, reset := 0x70 }
    , { name := "CLK_SSC_CFG", base := 0x20010, s1 := 0x10000000, n1 := 1, s2 := 0x10000000, n2 := 1, reset := 0x0, rwl := 0xF }
    , { name := "CLK_OBS_CFG", base := 0x20014, s1 := 0x10000000, n1 := 1, s2 := 0x10000000, n2 := 1, reset := 0x0, rw := 0xF0F }
    , { name := "CLK_GATE_STAT", base := 0x20018, s1 := 0x10000000, n1 := 1, s2 := 0x10000000, n2 := 1, reset := 0x1 }
    , { name := "CLK_GATE_ERR", base := 0x2001C, s1 := 0x10000000, n1 := 1, s2 := 0x10000000, n2 := 1, reset := 0x0 }
    , { name := "CLK_RC_TRIM", base := 0x20020, s1 := 0x10000000, n1 := 1, s2 := 0x10000000, n2 := 1, reset := 0x80 }
    , { name := "CLK_REF_COUNT", base := 0x20024, s1 := 0x10000000, n1 := 1, s2 := 0x10000000, n2 := 1, reset := 0x0 } ]

/-- The registers of the `RTC_` block. -/
def regsRTC : List RegFam :=
  [ { name := "RTC_STAT", base := 0x30000, s1 := 0x10000000, n1 := 1, s2 := 0x10000000, n2 := 1, reset := 0x2, w1c := 0x600 }
    , { name := "RTC_SEC_LO", base := 0x30004, s1 := 0x10000000, n1 := 1, s2 := 0x10000000, n2 := 1, reset := 0x0, rw := 0xFFFFFFFF }
    , { name := "RTC_SEC_HI", base := 0x30008, s1 := 0x10000000, n1 := 1, s2 := 0x10000000, n2 := 1, reset := 0x0, rw := 0x7FFFFFFF }
    , { name := "RTC_LOCAL_OFS", base := 0x3000C, s1 := 0x10000000, n1 := 1, s2 := 0x10000000, n2 := 1, reset := 0x0, rwl := 0x1FFFF }
    , { name := "RTC_CAL_DATE", base := 0x30010, s1 := 0x10000000, n1 := 1, s2 := 0x10000000, n2 := 1, reset := 0x60010 }
    , { name := "RTC_CAL_TIME", base := 0x30014, s1 := 0x10000000, n1 := 1, s2 := 0x10000000, n2 := 1, reset := 0x1000000 }
    , { name := "RTC_CMD", base := 0x30018, s1 := 0x10000000, n1 := 1, s2 := 0x10000000, n2 := 1, reset := 0x0, wo := 0x7FFFF }
    , { name := "RTC_TRIM", base := 0x3001C, s1 := 0x10000000, n1 := 1, s2 := 0x10000000, n2 := 1, reset := 0x80000000, rw := 0x80000000, rwl := 0x7FF }
    , { name := "RTC_ALM0_LO", base := 0x30020, s1 := 0x10000000, n1 := 1, s2 := 0x10000000, n2 := 1, reset := 0x0, rw := 0xFFFFFFFF }
    , { name := "RTC_ALM0_HI", base := 0x30024, s1 := 0x10000000, n1 := 1, s2 := 0x10000000, n2 := 1, reset := 0x0, rw := 0x8000FFFF }
    , { name := "RTC_ALM1_CFG", base := 0x30028, s1 := 0x10000000, n1 := 1, s2 := 0x10000000, n2 := 1, reset := 0x30840000, rw := 0xBFFFFFFE }
    , { name := "RTC_ALM_STAT", base := 0x3002C, s1 := 0x10000000, n1 := 1, s2 := 0x10000000, n2 := 1, reset := 0x0, w1c := 0xF }
    , { name := "RTC_VBAT", base := 0x30030, s1 := 0x10000000, n1 := 1, s2 := 0x10000000, n2 := 1, reset := 0x0 }
    , { name := "RTC_BRAM", base := 0x30100, s1 := 0x4, n1 := 112, s2 := 0x10000000, n2 := 1, reset := 0x0, rw := 0xFFFFFFFF }
    , { name := "RTC_BKLOG", base := 0x302C0, s1 := 0x4, n1 := 16, s2 := 0x10000000, n2 := 1, reset := 0x0 } ]

/-- The registers of the `TPL_` block. -/
def regsTPL : List RegFam :=
  [ { name := "TPL_STAT", base := 0x40000, s1 := 0x10000000, n1 := 1, s2 := 0x10000000, n2 := 1, reset := 0x7 }
    , { name := "TPL_DISAGREE", base := 0x40004, s1 := 0x10000000, n1 := 1, s2 := 0x10000000, n2 := 1, reset := 0x0, w1c := 0x1 }
    , { name := "TPL_RESYNC", base := 0x40008, s1 := 0x10000000, n1 := 1, s2 := 0x10000000, n2 := 1, reset := 0x0 }
    , { name := "TPL_LANE_ECC", base := 0x4000C, s1 := 0x10000000, n1 := 1, s2 := 0x10000000, n2 := 1, reset := 0x0 }
    , { name := "TPL_DAWN_CFG", base := 0x40010, s1 := 0x10000000, n1 := 1, s2 := 0x10000000, n2 := 1, reset := 0x1E, rwl := 0xFF }
    , { name := "TPL_DAWN_SLOTS", base := 0x40014, s1 := 0x10000000, n1 := 1, s2 := 0x10000000, n2 := 1, reset := 0x0 }
    , { name := "TPL_DAWN_DEFER", base := 0x40018, s1 := 0x10000000, n1 := 1, s2 := 0x10000000, n2 := 1, reset := 0x0 }
    , { name := "TPL_DAWN_KA", base := 0x4001C, s1 := 0x10000000, n1 := 1, s2 := 0x10000000, n2 := 1, reset := 0x0 }
    , { name := "TPL_DAWN_DROP", base := 0x40020, s1 := 0x10000000, n1 := 1, s2 := 0x10000000, n2 := 1, reset := 0x0 }
    , { name := "TPL_PBOX_STAT", base := 0x40024, s1 := 0x10000000, n1 := 1, s2 := 0x10000000, n2 := 1, reset := 0x0 }
    , { name := "TPL_PBOX_ERR", base := 0x40028, s1 := 0x10000000, n1 := 1, s2 := 0x10000000, n2 := 1, reset := 0x0 }
    , { name := "TPL_PBOX_FLUSH", base := 0x4002C, s1 := 0x10000000, n1 := 1, s2 := 0x10000000, n2 := 1, reset := 0x0 } ]

/-- The registers of the `HIF_` block. -/
def regsHIF : List RegFam :=
  [ { name := "HIF_STAT", base := 0x50000, s1 := 0x10000000, n1 := 1, s2 := 0x10000000, n2 := 1, reset := 0x0 }
    , { name := "HIF_GEN", base := 0x50004, s1 := 0x10000000, n1 := 1, s2 := 0x10000000, n2 := 1, reset := 0x1 }
    , { name := "HIF_CTRL", base := 0x50008, s1 := 0x10000000, n1 := 1, s2 := 0x10000000, n2 := 1, reset := 0x0, wo := 0xFFFF0001 }
    , { name := "HIF_HOST_WDOG", base := 0x5000C, s1 := 0x10000000, n1 := 1, s2 := 0x10000000, n2 := 1, reset := 0x0, rw := 0xFFFF, wo := 0x80000000 }
    , { name := "HIF_MGMT_CFG", base := 0x50010, s1 := 0x10000000, n1 := 1, s2 := 0x10000000, n2 := 1, reset := 0x0, rwl := 0x3F }
    , { name := "HIF_LOSS", base := 0x50014, s1 := 0x10000000, n1 := 1, s2 := 0x10000000, n2 := 1, reset := 0x0, w1c := 0x3F }
    , { name := "HIF_ACC_ERR", base := 0x50018, s1 := 0x10000000, n1 := 1, s2 := 0x10000000, n2 := 1, reset := 0x0 }
    , { name := "HIF_ACC_LAST", base := 0x5001C, s1 := 0x10000000, n1 := 1, s2 := 0x10000000, n2 := 1, reset := 0x0 }
    , { name := "HIF_EVT_CNT", base := 0x50020, s1 := 0x10000000, n1 := 1, s2 := 0x10000000, n2 := 1, reset := 0x0 }
    , { name := "HIF_RX_DROP", base := 0x50024, s1 := 0x10000000, n1 := 1, s2 := 0x10000000, n2 := 1, reset := 0x0 }
    , { name := "HIF_DB_ERR", base := 0x50028, s1 := 0x10000000, n1 := 1, s2 := 0x10000000, n2 := 1, reset := 0x0 }
    , { name := "HIF_SQ_BASE_LO", base := 0x51000, s1 := 0x20, n1 := 64, s2 := 0x10000000, n2 := 1, reset := 0x0, rwq := 0xFFFFF000 }
    , { name := "HIF_SQ_BASE_HI", base := 0x51004, s1 := 0x20, n1 := 64, s2 := 0x10000000, n2 := 1, reset := 0x0, rwq := 0xFFFFFFFF }
    , { name := "HIF_SQ_CFG", base := 0x51008, s1 := 0x20, n1 := 64, s2 := 0x10000000, n2 := 1, reset := 0x2806, rw := 0x80000000, rwq := 0xFF3F1F }
    , { name := "HIF_SQ_STAT", base := 0x5100C, s1 := 0x20, n1 := 64, s2 := 0x10000000, n2 := 1, reset := 0x0 }
    , { name := "HIF_SQ_ERR", base := 0x51010, s1 := 0x20, n1 := 64, s2 := 0x10000000, n2 := 1, reset := 0x0, w1c := 0x4 }
    , { name := "HIF_CQ_BASE_LO", base := 0x52000, s1 := 0x20, n1 := 64, s2 := 0x10000000, n2 := 1, reset := 0x0, rwq := 0xFFFFF000 }
    , { name := "HIF_CQ_BASE_HI", base := 0x52004, s1 := 0x20, n1 := 64, s2 := 0x10000000, n2 := 1, reset := 0x0, rwq := 0xFFFFFFFF }
    , { name := "HIF_CQ_CFG", base := 0x52008, s1 := 0x20, n1 := 64, s2 := 0x10000000, n2 := 1, reset := 0x6, rw := 0x80000000, rwl := 0x3F0000, rwq := 0x4000001F }
    , { name := "HIF_CQ_COAL", base := 0x5200C, s1 := 0x20, n1 := 64, s2 := 0x10000000, n2 := 1, reset := 0x1, rwl := 0xFFFF00FF }
    , { name := "HIF_CQ_STAT", base := 0x52010, s1 := 0x20, n1 := 64, s2 := 0x10000000, n2 := 1, reset := 0x0 }
    , { name := "HIF_CQ_ERR", base := 0x52014, s1 := 0x20, n1 := 64, s2 := 0x10000000, n2 := 1, reset := 0x10, w1c := 0x4 } ]

/-- The registers of the `MSIX_` block. -/
def regsMSIX : List RegFam :=
  [ { name := "MSIX_ADDR_LO", base := 0x5E000, s1 := 0x10, n1 := 64, s2 := 0x10000000, n2 := 1, reset := 0x0, rw := 0xFFFFFFFC }
    , { name := "MSIX_ADDR_HI", base := 0x5E004, s1 := 0x10, n1 := 64, s2 := 0x10000000, n2 := 1, reset := 0x0, rw := 0xFFFFFFFF }
    , { name := "MSIX_DATA", base := 0x5E008, s1 := 0x10, n1 := 64, s2 := 0x10000000, n2 := 1, reset := 0x0, rw := 0xFFFFFFFF }
    , { name := "MSIX_CTRL", base := 0x5E00C, s1 := 0x10, n1 := 64, s2 := 0x10000000, n2 := 1, reset := 0x1, rw := 0x1 }
    , { name := "MSIX_PBA", base := 0x5F000, s1 := 0x4, n1 := 2, s2 := 0x10000000, n2 := 1, reset := 0x0 } ]

/-- The registers of the `TWN_` block. -/
def regsTWN : List RegFam :=
  [ { name := "TWN_STAT", base := 0x60000, s1 := 0x10000000, n1 := 1, s2 := 0x10000000, n2 := 1, reset := 0x0, w1c := 0x400000 }
    , { name := "TWN_CFG", base := 0x60004, s1 := 0x10000000, n1 := 1, s2 := 0x10000000, n2 := 1, reset := 0x0, rw := 0x3, rwq := 0x3F00 }
    , { name := "TWN_HOLD", base := 0x60008, s1 := 0x10000000, n1 := 1, s2 := 0x10000000, n2 := 1, reset := 0x12C, rwl := 0xFFFF }
    , { name := "TWN_PEER_END_LO", base := 0x6000C, s1 := 0x10000000, n1 := 1, s2 := 0x10000000, n2 := 1, reset := 0x0 }
    , { name := "TWN_PEER_END_HI", base := 0x60010, s1 := 0x10000000, n1 := 1, s2 := 0x10000000, n2 := 1, reset := 0x0 }
    , { name := "TWN_ACKED_LO", base := 0x60014, s1 := 0x10000000, n1 := 1, s2 := 0x10000000, n2 := 1, reset := 0x0 }
    , { name := "TWN_ACKED_HI", base := 0x60018, s1 := 0x10000000, n1 := 1, s2 := 0x10000000, n2 := 1, reset := 0x0 }
    , { name := "TWN_HEARD_LO", base := 0x6001C, s1 := 0x10000000, n1 := 1, s2 := 0x10000000, n2 := 1, reset := 0x0 }
    , { name := "TWN_HEARD_HI", base := 0x60020, s1 := 0x10000000, n1 := 1, s2 := 0x10000000, n2 := 1, reset := 0x0 }
    , { name := "TWN_TIME", base := 0x60024, s1 := 0x10000000, n1 := 1, s2 := 0x10000000, n2 := 1, reset := 0xFFFF0000 }
    , { name := "TWN_ROLE_CNT", base := 0x60028, s1 := 0x10000000, n1 := 1, s2 := 0x10000000, n2 := 1, reset := 0x0 }
    , { name := "TWN_SLOT_REC", base := 0x6002C, s1 := 0x10000000, n1 := 1, s2 := 0x10000000, n2 := 1, reset := 0x0 }
    , { name := "TWN_LINK_ERR", base := 0x60030, s1 := 0x10000000, n1 := 1, s2 := 0x10000000, n2 := 1, reset := 0x0 }
    , { name := "TWN_LEASE_CNT", base := 0x60034, s1 := 0x10000000, n1 := 1, s2 := 0x10000000, n2 := 1, reset := 0x0 } ]

/-- The registers of the `KV_` block. -/
def regsKV : List RegFam :=
  [ { name := "KV_STAT", base := 0x70000, s1 := 0x10000000, n1 := 1, s2 := 0x10000000, n2 := 1, reset := 0x0, w1c := 0x6 }
    , { name := "KV_CTR_LO", base := 0x70004, s1 := 0x10000000, n1 := 1, s2 := 0x10000000, n2 := 1, reset := 0x0 }
    , { name := "KV_CTR_HI", base := 0x70008, s1 := 0x10000000, n1 := 1, s2 := 0x10000000, n2 := 1, reset := 0x0 }
    , { name := "KV_SLOTS_LO", base := 0x7000C, s1 := 0x10000000, n1 := 1, s2 := 0x10000000, n2 := 1, reset := 0x0 }
    , { name := "KV_SLOTS_HI", base := 0x70010, s1 := 0x10000000, n1 := 1, s2 := 0x10000000, n2 := 1, reset := 0x0 }
    , { name := "KV_LOST_LO", base := 0x70014, s1 := 0x10000000, n1 := 1, s2 := 0x10000000, n2 := 1, reset := 0x0 }
    , { name := "KV_LOST_HI", base := 0x70018, s1 := 0x10000000, n1 := 1, s2 := 0x10000000, n2 := 1, reset := 0x0 }
    , { name := "KV_AUTH", base := 0x7001C, s1 := 0x10000000, n1 := 1, s2 := 0x10000000, n2 := 1, reset := 0x0 }
    , { name := "KV_LETTER_CNT", base := 0x70020, s1 := 0x10000000, n1 := 1, s2 := 0x10000000, n2 := 1, reset := 0x0 }
    , { name := "KV_LETTER_LAST", base := 0x70024, s1 := 0x10000000, n1 := 1, s2 := 0x10000000, n2 := 1, reset := 0x0 }
    , { name := "KV_REMASK", base := 0x70028, s1 := 0x10000000, n1 := 1, s2 := 0x10000000, n2 := 1, reset := 0x0 }
    , { name := "KV_WRAP", base := 0x7002C, s1 := 0x10000000, n1 := 1, s2 := 0x10000000, n2 := 1, reset := 0x15180 } ]

/-- The registers of the `UPD_` block. -/
def regsUPD : List RegFam :=
  [ { name := "UPD_STAT", base := 0x80000, s1 := 0x10000000, n1 := 1, s2 := 0x10000000, n2 := 1, reset := 0x0 }
    , { name := "UPD_CFG", base := 0x80004, s1 := 0x10000000, n1 := 1, s2 := 0x10000000, n2 := 1, reset := 0xBB82258, rw := 0xFFFFFFFF }
    , { name := "UPD_FLOOR", base := 0x80008, s1 := 0x10000000, n1 := 1, s2 := 0x10000000, n2 := 1, reset := 0x0 }
    , { name := "UPD_SVN_A", base := 0x8000C, s1 := 0x10000000, n1 := 1, s2 := 0x10000000, n2 := 1, reset := 0x0 }
    , { name := "UPD_SVN_B", base := 0x80010, s1 := 0x10000000, n1 := 1, s2 := 0x10000000, n2 := 1, reset := 0x0 }
    , { name := "UPD_VER_A", base := 0x80014, s1 := 0x10000000, n1 := 1, s2 := 0x10000000, n2 := 1, reset := 0x0 }
    , { name := "UPD_VER_B", base := 0x80018, s1 := 0x10000000, n1 := 1, s2 := 0x10000000, n2 := 1, reset := 0x0 }
    , { name := "UPD_CNT", base := 0x8001C, s1 := 0x10000000, n1 := 1, s2 := 0x10000000, n2 := 1, reset := 0x0 } ]

/-- The registers of the `DSK_` block. -/
def regsDSK : List RegFam :=
  [ { name := "DSK_STAT", base := 0x90000, s1 := 0x10000000, n1 := 1, s2 := 0x10000000, n2 := 1, reset := 0x0, w1c := 0x40 }
    , { name := "DSK_CFG", base := 0x90004, s1 := 0x10000000, n1 := 1, s2 := 0x10000000, n2 := 1, reset := 0xFF02, rwl := 0xFF03 }
    , { name := "DSK_CTRL", base := 0x90008, s1 := 0x10000000, n1 := 1, s2 := 0x10000000, n2 := 1, reset := 0x0, wo := 0xFFFF0001 }
    , { name := "DSK_RUN", base := 0x9000C, s1 := 0x10000000, n1 := 1, s2 := 0x10000000, n2 := 1, reset := 0x0 }
    , { name := "DSK_REPAIR", base := 0x90010, s1 := 0x10000000, n1 := 1, s2 := 0x10000000, n2 := 1, reset := 0x0 } ]

/-- The registers of the `FLT_` block. -/
def regsFLT : List RegFam :=
  [ { name := "FLT_STAT", base := 0xA0000, s1 := 0x10000000, n1 := 1, s2 := 0x10000000, n2 := 1, reset := 0x0 }
    , { name := "FLT_REMAIN", base := 0xA0004, s1 := 0x10000000, n1 := 1, s2 := 0x10000000, n2 := 1, reset := 0x0 }
    , { name := "FLT_RULES", base := 0xA0008, s1 := 0x10000000, n1 := 1, s2 := 0x10000000, n2 := 1, reset := 0x0 }
    , { name := "FLT_CNT", base := 0xA0040, s1 := 0x4, n1 := 16, s2 := 0x10000000, n2 := 1, reset := 0x0 } ]

/-- The registers of the `TEL_` block. -/
def regsTEL : List RegFam :=
  [ { name := "TEL_STAT", base := 0xB0000, s1 := 0x10000000, n1 := 1, s2 := 0x10000000, n2 := 1, reset := 0x0, w1c := 0x6 }
    , { name := "TEL_FAULT", base := 0xB0004, s1 := 0x10000000, n1 := 1, s2 := 0x10000000, n2 := 1, reset := 0x0, w1c := 0xE0 }
    , { name := "TEL_SCRUB_CFG", base := 0xB0008, s1 := 0x10000000, n1 := 1, s2 := 0x10000000, n2 := 1, reset := 0x18001E, rw := 0xFFFFFFFF }
    , { name := "TEL_SCRUB_CNT", base := 0xB000C, s1 := 0x10000000, n1 := 1, s2 := 0x10000000, n2 := 1, reset := 0x0 }
    , { name := "TEL_MRAM", base := 0xB0010, s1 := 0x10000000, n1 := 1, s2 := 0x10000000, n2 := 1, reset := 0x0 }
    , { name := "TEL_LOG", base := 0xB0014, s1 := 0x10000000, n1 := 1, s2 := 0x10000000, n2 := 1, reset := 0x0 }
    , { name := "TEL_CFG", base := 0xB0018, s1 := 0x10000000, n1 := 1, s2 := 0x10000000, n2 := 1, reset := 0x64, rw := 0xFFFF }
    , { name := "TEL_TEMP", base := 0xB001C, s1 := 0x10000000, n1 := 1, s2 := 0x10000000, n2 := 1, reset := 0x0 } ]

/-- The registers of the `SRX_` block. -/
def regsSRX : List RegFam :=
  [ { name := "SRX_STAT", base := 0x100000, s1 := 0x10000000, n1 := 1, s2 := 0x10000000, n2 := 1, reset := 0x0, w1c := 0x800 }
    , { name := "SRX_SYNTH_CFG", base := 0x100004, s1 := 0x10000000, n1 := 1, s2 := 0x10000000, n2 := 1, reset := 0xD3EA0, rwq := 0x10FFFFF }
    , { name := "SRX_SEL_0", base := 0x100008, s1 := 0x10000000, n1 := 1, s2 := 0x10000000, n2 := 1, reset := 0x0, rwl := 0xFFFFFFFF }
    , { name := "SRX_SEL_1", base := 0x10000C, s1 := 0x10000000, n1 := 1, s2 := 0x10000000, n2 := 1, reset := 0xFFFFFFFF, rwl := 0xFFFFFFFF }
    , { name := "SRX_SEL_2", base := 0x100010, s1 := 0x10000000, n1 := 1, s2 := 0x10000000, n2 := 1, reset := 0xFFFFFFFF, rwl := 0xFFFFFFFF }
    , { name := "SRX_SEL_3", base := 0x100014, s1 := 0x10000000, n1 := 1, s2 := 0x10000000, n2 := 1, reset := 0x0, rwl := 0xFFFFFFFF }
    , { name := "SRX_PROF_MAP", base := 0x100018, s1 := 0x4, n1 := 4, s2 := 0x10000000, n2 := 1, reset := 0x0, rwl := 0xFFFFFFFF }
    , { name := "SRX_SFD_CFG", base := 0x100028, s1 := 0x10000000, n1 := 1, s2 := 0x10000000, n2 := 1, reset := 0x1904E, rwl := 0x30000, rwq := 0xFFFF }
    , { name := "SRX_AGC_CFG", base := 0x10002C, s1 := 0x10000000, n1 := 1, s2 := 0x10000000, n2 := 1, reset := 0xDD0101, rwl := 0x1FFF0301 }
    , { name := "SRX_DIV_CFG", base := 0x100030, s1 := 0x10000000, n1 := 1, s2 := 0x10000000, n2 := 1, reset := 0x0, rwl := 0x3 }
    , { name := "SRX_TX_CFG", base := 0x100034, s1 := 0x10000000, n1 := 1, s2 := 0x10000000, n2 := 1, reset := 0x3000C, rwl := 0x301FF }
    , { name := "SRX_PA_TIMING", base := 0x100038, s1 := 0x10000000, n1 := 1, s2 := 0x10000000, n2 := 1, reset := 0x4C, rwq := 0x7F }
    , { name := "SRX_CCA_CFG", base := 0x10003C, s1 := 0x10000000, n1 := 1, s2 := 0x10000000, n2 := 1, reset := 0xAB, rwl := 0xFF }
    , { name := "SRX_CAL_CFG", base := 0x100040, s1 := 0x10000000, n1 := 1, s2 := 0x10000000, n2 := 1, reset := 0xA003C, rw := 0xFFFFF }
    , { name := "SRX_CAL_CMD", base := 0x100044, s1 := 0x10000000, n1 := 1, s2 := 0x10000000, n2 := 1, reset := 0x0, wo := 0x3 }
    , { name := "SRX_CAL_STAT", base := 0x100048, s1 := 0x10000000, n1 := 1, s2 := 0x10000000, n2 := 1, reset := 0x0, w1c := 0x20 }
    , { name := "SRX_RX_FRAMES", base := 0x10004C, s1 := 0x10000000, n1 := 1, s2 := 0x10000000, n2 := 1, reset := 0x0 }
    , { name := "SRX_RX_ERR", base := 0x100050, s1 := 0x10000000, n1 := 1, s2 := 0x10000000, n2 := 1, reset := 0x0 }
    , { name := "SRX_AGC_EVT", base := 0x100054, s1 := 0x10000000, n1 := 1, s2 := 0x10000000, n2 := 1, reset := 0x0 }
    , { name := "SRX_DIV_STAT", base := 0x100058, s1 := 0x10000000, n1 := 1, s2 := 0x10000000, n2 := 1, reset := 0x0 }
    , { name := "SRX_TX_CNT", base := 0x10005C, s1 := 0x10000000, n1 := 1, s2 := 0x10000000, n2 := 1, reset := 0x0 }
    , { name := "SRX_TX_ERR", base := 0x100060, s1 := 0x10000000, n1 := 1, s2 := 0x10000000, n2 := 1, reset := 0x0 }
    , { name := "SRX_TX_LIM", base := 0x100064, s1 := 0x10000000, n1 := 1, s2 := 0x10000000, n2 := 1, reset := 0x0 } ]

/-- The registers of the `MSH_` block. -/
def regsMSH : List RegFam :=
  [ { name := "MSH_CTRL", base := 0x140000, s1 := 0x10000000, n1 := 1, s2 := 0x10000000, n2 := 1, reset := 0x1, rw := 0x1 }
    , { name := "MSH_STAT", base := 0x140004, s1 := 0x10000000, n1 := 1, s2 := 0x10000000, n2 := 1, reset := 0x1, w1c := 0x8 }
    , { name := "MSH_SLOT_LO", base := 0x140008, s1 := 0x10000000, n1 := 1, s2 := 0x10000000, n2 := 1, reset := 0x0 }
    , { name := "MSH_SLOT_HI", base := 0x14000C, s1 := 0x10000000, n1 := 1, s2 := 0x10000000, n2 := 1, reset := 0x0 }
    , { name := "MSH_SF_CFG", base := 0x140010, s1 := 0x10000000, n1 := 1, s2 := 0x10000000, n2 := 1, reset := 0x400, rwq := 0xFFFF }
    , { name := "MSH_SF_PATTERN", base := 0x140014, s1 := 0x10000000, n1 := 1, s2 := 0x10000000, n2 := 1, reset := 0x8, rwq := 0xFFFFFFFF }
    , { name := "MSH_SF_NEXT", base := 0x140018, s1 := 0x10000000, n1 := 1, s2 := 0x10000000, n2 := 1, reset := 0x0 }
    , { name := "MSH_SF_NEXT_MAP", base := 0x14001C, s1 := 0x10000000, n1 := 1, s2 := 0x10000000, n2 := 1, reset := 0x0 }
    , { name := "MSH_SF_NEXT_AT", base := 0x140020, s1 := 0x10000000, n1 := 1, s2 := 0x10000000, n2 := 1, reset := 0x0 }
    , { name := "MSH_RCPT_CFG", base := 0x140024, s1 := 0x10000000, n1 := 1, s2 := 0x10000000, n2 := 1, reset := 0x40, rwl := 0x7F }
    , { name := "MSH_DL_CFG", base := 0x140028, s1 := 0x10000000, n1 := 1, s2 := 0x10000000, n2 := 1, reset := 0x84003, rwl := 0xFFF107 }
    , { name := "MSH_BCN_CFG", base := 0x14002C, s1 := 0x10000000, n1 := 1, s2 := 0x10000000, n2 := 1, reset := 0x5100100, rwl := 0xFFFFFFF3 }
    , { name := "MSH_BCN_CH", base := 0x140030, s1 := 0x10000000, n1 := 1, s2 := 0x10000000, n2 := 1, reset := 0x0, rwl := 0x3F3F3F3F }
    , { name := "MSH_CONT_LO", base := 0x140034, s1 := 0x10000000, n1 := 1, s2 := 0x10000000, n2 := 1, reset := 0x6, rwq := 0xFFFFFFFF }
    , { name := "MSH_CONT_HI", base := 0x140038, s1 := 0x10000000, n1 := 1, s2 := 0x10000000, n2 := 1, reset := 0x0, rwq := 0xFFFFFFFF }
    , { name := "MSH_CONT_BE", base := 0x14003C, s1 := 0x10000000, n1 := 1, s2 := 0x10000000, n2 := 1, reset := 0x2580262, rw := 0xFFFF0000, rwl := 0xFF, rwq := 0xFF00 }
    , { name := "MSH_LAPSE_CFG", base := 0x140040, s1 := 0x10000000, n1 := 1, s2 := 0x10000000, n2 := 1, reset := 0xE10, rw := 0xFFFFFFFF }
    , { name := "MSH_CONN_CNT", base := 0x140044, s1 := 0x10000000, n1 := 1, s2 := 0x10000000, n2 := 1, reset := 0x0 }
    , { name := "MSH_RX_CNT", base := 0x140048, s1 := 0x10000000, n1 := 1, s2 := 0x10000000, n2 := 1, reset := 0x0 }
    , { name := "MSH_RX_DROP", base := 0x14004C, s1 := 0x10000000, n1 := 1, s2 := 0x10000000, n2 := 1, reset := 0x0 }
    , { name := "MSH_RX_ERR", base := 0x140050, s1 := 0x10000000, n1 := 1, s2 := 0x10000000, n2 := 1, reset := 0x0 }
    , { name := "MSH_RCPT_CNT", base := 0x140054, s1 := 0x10000000, n1 := 1, s2 := 0x10000000, n2 := 1, reset := 0x0 }
    , { name := "MSH_DEFER_CNT", base := 0x140058, s1 := 0x10000000, n1 := 1, s2 := 0x10000000, n2 := 1, reset := 0x0 }
    , { name := "MSH_DL_CNT", base := 0x14005C, s1 := 0x10000000, n1 := 1, s2 := 0x10000000, n2 := 1, reset := 0x0 }
    , { name := "MSH_DL_SENT", base := 0x140060, s1 := 0x10000000, n1 := 1, s2 := 0x10000000, n2 := 1, reset := 0x0 }
    , { name := "MSH_SUPV_CNT", base := 0x140064, s1 := 0x10000000, n1 := 1, s2 := 0x10000000, n2 := 1, reset := 0x0 }
    , { name := "MSH_OFFCELL", base := 0x140068, s1 := 0x10000000, n1 := 1, s2 := 0x10000000, n2 := 1, reset := 0x0 }
    , { name := "MSH_NET_ID", base := 0x140100, s1 := 0x10000000, n1 := 1, s2 := 0x10000000, n2 := 1, reset := 0x0, rwq := 0xFFFF }
    , { name := "MSH_JOIN_CFG", base := 0x140104, s1 := 0x10000000, n1 := 1, s2 := 0x10000000, n2 := 1, reset := 0x143C0412, rw := 0xFF000000, rwl := 0xFF0F33 }
    , { name := "MSH_ADDR_LO", base := 0x140108, s1 := 0x10000000, n1 := 1, s2 := 0x10000000, n2 := 1, reset := 0x1, rwq := 0xFFFFFF }
    , { name := "MSH_ADDR_HI", base := 0x14010C, s1 := 0x10000000, n1 := 1, s2 := 0x10000000, n2 := 1, reset := 0x20000, rwq := 0xFFFFFF }
    , { name := "MSH_ADDR_CFG", base := 0x140110, s1 := 0x10000000, n1 := 1, s2 := 0x10000000, n2 := 1, reset := 0x18, rw := 0xFF }
    , { name := "MSH_CTX_LO", base := 0x140120, s1 := 0x8, n1 := 4, s2 := 0x10000000, n2 := 1, reset := 0x0, rwl := 0xFFFFFFFF }
    , { name := "MSH_CTX_HI", base := 0x140124, s1 := 0x8, n1 := 4, s2 := 0x10000000, n2 := 1, reset := 0x0, rwl := 0xFFFFFFFF }
    , { name := "MSH_CTX_VALID", base := 0x140140, s1 := 0x10000000, n1 := 1, s2 := 0x10000000, n2 := 1, reset := 0x0, rwl := 0xF }
    , { name := "MSH_CIRC_CFG", base := 0x140144, s1 := 0x10000000, n1 := 1, s2 := 0x10000000, n2 := 1, reset := 0x8101C662, rwl := 0xFFFFFFFE }
    , { name := "MSH_CIRC_ID", base := 0x140148, s1 := 0x10000000, n1 := 1, s2 := 0x10000000, n2 := 1, reset := 0x0 }
    , { name := "MSH_FRAG_CFG", base := 0x14014C, s1 := 0x10000000, n1 := 1, s2 := 0x10000000, n2 := 1, reset := 0x3C, rw := 0xFF }
    , { name := "MSH_JOIN_CNT", base := 0x140150, s1 := 0x10000000, n1 := 1, s2 := 0x10000000, n2 := 1, reset := 0x0 }
    , { name := "MSH_REATT_CNT", base := 0x140154, s1 := 0x10000000, n1 := 1, s2 := 0x10000000, n2 := 1, reset := 0x0 }
    , { name := "MSH_CIRC_CNT", base := 0x140158, s1 := 0x10000000, n1 := 1, s2 := 0x10000000, n2 := 1, reset := 0x0 }
    , { name := "MSH_NET_ERR", base := 0x14015C, s1 := 0x10000000, n1 := 1, s2 := 0x10000000, n2 := 1, reset := 0x0 }
    , { name := "MSH_LOWPAN_ERR", base := 0x140160, s1 := 0x10000000, n1 := 1, s2 := 0x10000000, n2 := 1, reset := 0x0 }
    , { name := "MSH_FRAG_CNT", base := 0x140164, s1 := 0x10000000, n1 := 1, s2 := 0x10000000, n2 := 1, reset := 0x0 }
    , { name := "MSH_NODE_CNT", base := 0x140168, s1 := 0x10000000, n1 := 1, s2 := 0x10000000, n2 := 1, reset := 0x0 }
    , { name := "MSH_SEC_EPOCH", base := 0x140200, s1 := 0x10000000, n1 := 1, s2 := 0x10000000, n2 := 1, reset := 0x0 }
    , { name := "MSH_SEC_ROOT", base := 0x140204, s1 := 0x10000000, n1 := 1, s2 := 0x10000000, n2 := 1, reset := 0x0 }
    , { name := "MSH_SEC_GRACE", base := 0x140208, s1 := 0x10000000, n1 := 1, s2 := 0x10000000, n2 := 1, reset := 0x0 }
    , { name := "MSH_SEC_CFG", base := 0x14020C, s1 := 0x10000000, n1 := 1, s2 := 0x10000000, n2 := 1, reset := 0x110, rw := 0x1FF }
    , { name := "MSH_DL_CTR_LO", base := 0x140210, s1 := 0x10000000, n1 := 1, s2 := 0x10000000, n2 := 1, reset := 0x0 }
    , { name := "MSH_DL_CTR_HI", base := 0x140214, s1 := 0x10000000, n1 := 1, s2 := 0x10000000, n2 := 1, reset := 0x0 }
    , { name := "MSH_DL_LEASE_LO", base := 0x140218, s1 := 0x10000000, n1 := 1, s2 := 0x10000000, n2 := 1, reset := 0x0 }
    , { name := "MSH_DL_LEASE_HI", base := 0x14021C, s1 := 0x10000000, n1 := 1, s2 := 0x10000000, n2 := 1, reset := 0x0 }
    , { name := "MSH_DL_WARN_LO", base := 0x140220, s1 := 0x10000000, n1 := 1, s2 := 0x10000000, n2 := 1, reset := 0x0, rw := 0xFFFFFFFF }
    , { name := "MSH_DL_WARN_HI", base := 0x140224, s1 := 0x10000000, n1 := 1, s2 := 0x10000000, n2 := 1, reset := 0xF0, rw := 0xFF }
    , { name := "MSH_SEC_STAT", base := 0x140228, s1 := 0x10000000, n1 := 1, s2 := 0x10000000, n2 := 1, reset := 0x0, w1c := 0x1D }
    , { name := "MSH_SEC_LAST", base := 0x14022C, s1 := 0x10000000, n1 := 1, s2 := 0x10000000, n2 := 1, reset := 0x0 }
    , { name := "MSH_KCACHE_HIT", base := 0x140230, s1 := 0x10000000, n1 := 1, s2 := 0x10000000, n2 := 1, reset := 0x0 }
    , { name := "MSH_KCACHE_MISS", base := 0x140234, s1 := 0x10000000, n1 := 1, s2 := 0x10000000, n2 := 1, reset := 0x0 }
    , { name := "MSH_SEC_ERR", base := 0x140238, s1 := 0x10000000, n1 := 1, s2 := 0x10000000, n2 := 1, reset := 0x0 }
    , { name := "MSH_SEC_ERR2", base := 0x14023C, s1 := 0x10000000, n1 := 1, s2 := 0x10000000, n2 := 1, reset := 0x0 }
    , { name := "MSH_SEC_ERR3", base := 0x140240, s1 := 0x10000000, n1 := 1, s2 := 0x10000000, n2 := 1, reset := 0x0 }
    , { name := "MSH_SEC_NOTICE", base := 0x140244, s1 := 0x10000000, n1 := 1, s2 := 0x10000000, n2 := 1, reset := 0x0 } ]

/-- The registers of the `LRX_` block. -/
def regsLRX : List RegFam :=
  [ { name := "LRX_STAT", base := 0x180000, s1 := 0x10000000, n1 := 1, s2 := 0x10000000, n2 := 1, reset := 0x0, w1c := 0x100 }
    , { name := "LRX_CHAN_CFG", base := 0x180004, s1 := 0x10000000, n1 := 1, s2 := 0x10000000, n2 := 1, reset := 0x6, rwq := 0x30F }
    , { name := "LRX_MESH_CH_0", base := 0x180008, s1 := 0x10000000, n1 := 1, s2 := 0x10000000, n2 := 1, reset := 0x1A17140F, rwq := 0xFFFFFFFF }
    , { name := "LRX_MESH_CH_1", base := 0x18000C, s1 := 0x10000000, n1 := 1, s2 := 0x10000000, n2 := 1, reset := 0x0, rwq := 0xFFFFFFFF }
    , { name := "LRX_MESH_CFG", base := 0x180010, s1 := 0x10000000, n1 := 1, s2 := 0x10000000, n2 := 1, reset := 0x1403, rwl := 0xFF0F }
    , { name := "LRX_ANT_CFG", base := 0x180014, s1 := 0x10000000, n1 := 1, s2 := 0x10000000, n2 := 1, reset := 0x3C0000, rw := 0xFFFF0000, rwl := 0x3 }
    , { name := "LRX_FEM_CFG", base := 0x180018, s1 := 0x10000000, n1 := 1, s2 := 0x10000000, n2 := 1, reset := 0x314, rwl := 0x300, rwq := 0x1F }
    , { name := "LRX_CAL_CFG", base := 0x18001C, s1 := 0x10000000, n1 := 1, s2 := 0x10000000, n2 := 1, reset := 0x5012C, rw := 0xFFFFF }
    , { name := "LRX_CAL_CMD", base := 0x180020, s1 := 0x10000000, n1 := 1, s2 := 0x10000000, n2 := 1, reset := 0x0, wo := 0x3 }
    , { name := "LRX_CAL_STAT", base := 0x180024, s1 := 0x10000000, n1 := 1, s2 := 0x10000000, n2 := 1, reset := 0x0, w1c := 0x4 }
    , { name := "LRX_ERR", base := 0x180028, s1 := 0x10000000, n1 := 1, s2 := 0x10000000, n2 := 1, reset := 0x0 } ]

/-- The registers of the `HRX_` block. -/
def regsHRX : List RegFam :=
  [ { name := "HRX_STAT", base := 0x1C0000, s1 := 0x10000000, n1 := 1, s2 := 0x10000000, n2 := 1, reset := 0x0, w1c := 0x100 }
    , { name := "HRX_CHAN_CFG", base := 0x1C0004, s1 := 0x10000000, n1 := 1, s2 := 0x10000000, n2 := 1, reset := 0x2002A00, rwq := 0x8700FF0F }
    , { name := "HRX_FEM_CFG", base := 0x1C0018, s1 := 0x10000000, n1 := 1, s2 := 0x10000000, n2 := 1, reset := 0xF314, rwl := 0x300, rwq := 0xF01F }
    , { name := "HRX_CAL_CFG", base := 0x1C001C, s1 := 0x10000000, n1 := 1, s2 := 0x10000000, n2 := 1, reset := 0x5012C, rw := 0xFFFFF }
    , { name := "HRX_CAL_CMD", base := 0x1C0020, s1 := 0x10000000, n1 := 1, s2 := 0x10000000, n2 := 1, reset := 0x0, wo := 0x3 }
    , { name := "HRX_CAL_STAT", base := 0x1C0024, s1 := 0x10000000, n1 := 1, s2 := 0x10000000, n2 := 1, reset := 0x0, w1c := 0x4 }
    , { name := "HRX_ERR", base := 0x1C0028, s1 := 0x10000000, n1 := 1, s2 := 0x10000000, n2 := 1, reset := 0x0 } ]

/-- The registers of the `WLN_` block. -/
def regsWLN : List RegFam :=
  [ { name := "WLN_STAT", base := 0x200000, s1 := 0x10000000, n1 := 1, s2 := 0x10000000, n2 := 1, reset := 0x0 }
    , { name := "WLN_CTRL", base := 0x200004, s1 := 0x10000000, n1 := 1, s2 := 0x10000000, n2 := 1, reset := 0x0, rwl := 0x3 }
    , { name := "WLN_SCHED_L", base := 0x200010, s1 := 0x10000000, n1 := 1, s2 := 0x10000000, n2 := 1, reset := 0x40320E02, rwl := 0xFFFF0FFF }
    , { name := "WLN_SCHED_H", base := 0x200014, s1 := 0x10000000, n1 := 1, s2 := 0x10000000, n2 := 1, reset := 0x40321E02, rwl := 0xFFFF1FFF }
    , { name := "WLN_SCHED_TIME", base := 0x200018, s1 := 0x10000000, n1 := 1, s2 := 0x10000000, n2 := 1, reset := 0x14320620, rwl := 0xFFFFFFFF }
    , { name := "WLN_TRIM_CFG", base := 0x20001C, s1 := 0x10000000, n1 := 1, s2 := 0x10000000, n2 := 1, reset := 0x4B1E, rwl := 0xFFFF }
    , { name := "WLN_MLO_CFG", base := 0x200020, s1 := 0x10000000, n1 := 1, s2 := 0x10000000, n2 := 1, reset := 0x4, rwl := 0x7 }
    , { name := "WLN_TWT_CFG", base := 0x200024, s1 := 0x10000000, n1 := 1, s2 := 0x10000000, n2 := 1, reset := 0x203, rw := 0xF03 }
    , { name := "WLN_TWIN_CFG", base := 0x200028, s1 := 0x10000000, n1 := 1, s2 := 0x10000000, n2 := 1, reset := 0x10, rw := 0x1F }
    , { name := "WLN_CLIENT_CNT", base := 0x20002C, s1 := 0x10000000, n1 := 1, s2 := 0x10000000, n2 := 1, reset := 0x0 }
    , { name := "WLN_TRIG_CNT", base := 0x200030, s1 := 0x10000000, n1 := 1, s2 := 0x10000000, n2 := 1, reset := 0x0 }
    , { name := "WLN_MU_CNT", base := 0x200034, s1 := 0x10000000, n1 := 1, s2 := 0x10000000, n2 := 1, reset := 0x0 }
    , { name := "WLN_TRIM_CNT", base := 0x200038, s1 := 0x10000000, n1 := 1, s2 := 0x10000000, n2 := 1, reset := 0x0 }
    , { name := "WLN_RX_DROP", base := 0x20003C, s1 := 0x10000000, n1 := 1, s2 := 0x10000000, n2 := 1, reset := 0x0 }
    , { name := "WLN_SEC_ERR", base := 0x200040, s1 := 0x10000000, n1 := 1, s2 := 0x10000000, n2 := 1, reset := 0x0 }
    , { name := "WLN_SEC_ERR2", base := 0x200044, s1 := 0x10000000, n1 := 1, s2 := 0x10000000, n2 := 1, reset := 0x0 } ]

/-- The registers of the `PCT_` block. -/
def regsPCT : List RegFam :=
  [ { name := "PCT_STAT", base := 0x300000, s1 := 0x10000000, n1 := 1, s2 := 0x10000000, n2 := 1, reset := 0x0, w1c := 0x2 }
    , { name := "PCT_LEARN_CFG", base := 0x300004, s1 := 0x10000000, n1 := 1, s2 := 0x10000000, n2 := 1, reset := 0x78000017, rwl := 0xFFFF801F }
    , { name := "PCT_ROUND_CFG", base := 0x300008, s1 := 0x10000000, n1 := 1, s2 := 0x10000000, n2 := 1, reset := 0xA80096, rwl := 0xFFFFFFFF }
    , { name := "PCT_SEQ", base := 0x300020, s1 := 0x4, n1 := 6, s2 := 0x10000000, n2 := 1, reset := 0x0 }
    , { name := "PCT_COUNT", base := 0x300040, s1 := 0x4, n1 := 6, s2 := 0x10000000, n2 := 1, reset := 0x0 }
    , { name := "PCT_DIRTY", base := 0x300058, s1 := 0x10000000, n1 := 1, s2 := 0x10000000, n2 := 1, reset := 0x0 }
    , { name := "PCT_FLOOD", base := 0x300060, s1 := 0x10000000, n1 := 1, s2 := 0x10000000, n2 := 1, reset := 0x0 }
    , { name := "PCT_LEARN_CNT", base := 0x300064, s1 := 0x10000000, n1 := 1, s2 := 0x10000000, n2 := 1, reset := 0x0 }
    , { name := "PCT_LEARN_ERR", base := 0x300068, s1 := 0x10000000, n1 := 1, s2 := 0x10000000, n2 := 1, reset := 0x0 }
    , { name := "PCT_LEARN_ERR2", base := 0x30006C, s1 := 0x10000000, n1 := 1, s2 := 0x10000000, n2 := 1, reset := 0x0 }
    , { name := "PCT_ROUND_CNT", base := 0x300070, s1 := 0x10000000, n1 := 1, s2 := 0x10000000, n2 := 1, reset := 0x0 }
    , { name := "PCT_ROUND_SAVED", base := 0x300074, s1 := 0x10000000, n1 := 1, s2 := 0x10000000, n2 := 1, reset := 0x0 }
    , { name := "PCT_ECC", base := 0x300078, s1 := 0x10000000, n1 := 1, s2 := 0x10000000, n2 := 1, reset := 0x0 }
    , { name := "PCT_MIRROR", base := 0x30007C, s1 := 0x10000000, n1 := 1, s2 := 0x10000000, n2 := 1, reset := 0x0 } ]

/-- The registers of the `SRT_` block. -/
def regsSRT : List RegFam :=
  [ { name := "SRT_CTRL", base := 0x340000, s1 := 0x10000000, n1 := 1, s2 := 0x10000000, n2 := 1, reset := 0x5, rw := 0x1, rwl := 0x4, rwq := 0x2 }
    , { name := "SRT_STAT", base := 0x340004, s1 := 0x10000000, n1 := 1, s2 := 0x10000000, n2 := 1, reset := 0x0, w1c := 0x2 }
    , { name := "SRT_ROUTER_MAC_LO", base := 0x340008, s1 := 0x10000000, n1 := 1, s2 := 0x10000000, n2 := 1, reset := 0x0, rwq := 0xFFFFFFFF }
    , { name := "SRT_ROUTER_MAC_HI", base := 0x34000C, s1 := 0x10000000, n1 := 1, s2 := 0x10000000, n2 := 1, reset := 0x0, rwq := 0xFFFF }
    , { name := "SRT_EXC_CFG", base := 0x340010, s1 := 0x10000000, n1 := 1, s2 := 0x10000000, n2 := 1, reset := 0x0, rwl := 0x3F }
    , { name := "SRT_ADM_LOW", base := 0x340014, s1 := 0x10000000, n1 := 1, s2 := 0x10000000, n2 := 1, reset := 0x88008000, rwl := 0xFFFFFFFF }
    , { name := "SRT_ADM_HIGH", base := 0x340018, s1 := 0x10000000, n1 := 1, s2 := 0x10000000, n2 := 1, reset := 0xA0009800, rwl := 0xFFFFFFFF }
    , { name := "SRT_ADM_CFG", base := 0x34001C, s1 := 0x10000000, n1 := 1, s2 := 0x10000000, n2 := 1, reset := 0x2000004, rwl := 0x7, rwq := 0xFFFF0000 }
    , { name := "SRT_SPILL_CFG", base := 0x340020, s1 := 0x10000000, n1 := 1, s2 := 0x10000000, n2 := 1, reset := 0x104, rwl := 0x100, rwq := 0x3F }
    , { name := "SRT_SPILL_THR", base := 0x340024, s1 := 0x10000000, n1 := 1, s2 := 0x10000000, n2 := 1, reset := 0x60005000, rwl := 0xFFFFFFFF }
    , { name := "SRT_QLIM_NODE", base := 0x340028, s1 := 0x10000000, n1 := 1, s2 := 0x10000000, n2 := 1, reset := 0x200004, rwl := 0xFFFF00FF }
    , { name := "SRT_QLIM_CLIENT", base := 0x34002C, s1 := 0x10000000, n1 := 1, s2 := 0x10000000, n2 := 1, reset := 0x10000800, rwl := 0xFFFFFFFF }
    , { name := "SRT_QLIM_PORT", base := 0x340030, s1 := 0x10000000, n1 := 1, s2 := 0x10000000, n2 := 1, reset := 0x20000400, rwl := 0xFFFFFFFF }
    , { name := "SRT_POOL", base := 0x340034, s1 := 0x10000000, n1 := 1, s2 := 0x10000000, n2 := 1, reset := 0x0 }
    , { name := "SRT_SPILL_STAT", base := 0x340038, s1 := 0x10000000, n1 := 1, s2 := 0x10000000, n2 := 1, reset := 0x0 }
    , { name := "SRT_DROP_Q", base := 0x340040, s1 := 0x10000000, n1 := 1, s2 := 0x10000000, n2 := 1, reset := 0x0 }
    , { name := "SRT_DROP_Q2", base := 0x340044, s1 := 0x10000000, n1 := 1, s2 := 0x10000000, n2 := 1, reset := 0x0 }
    , { name := "SRT_DROP_ADM", base := 0x340048, s1 := 0x10000000, n1 := 1, s2 := 0x10000000, n2 := 1, reset := 0x0 }
    , { name := "SRT_EXC_CNT", base := 0x34004C, s1 := 0x10000000, n1 := 1, s2 := 0x10000000, n2 := 1, reset := 0x0 }
    , { name := "SRT_SHADOW_DROP", base := 0x340050, s1 := 0x10000000, n1 := 1, s2 := 0x10000000, n2 := 1, reset := 0x0 }
    , { name := "SRT_PIPE_PKTS", base := 0x340060, s1 := 0x4, n1 := 4, s2 := 0x10000000, n2 := 1, reset := 0x0 } ]

/-- The registers of the `QMS_` block. -/
def regsQMS : List RegFam :=
  [ { name := "QMS_CTRL", base := 0x380000, s1 := 0x10000000, n1 := 1, s2 := 0x10000000, n2 := 1, reset := 0x1, rw := 0x1 }
    , { name := "QMS_STAT", base := 0x380004, s1 := 0x10000000, n1 := 1, s2 := 0x10000000, n2 := 1, reset := 0x0, w1c := 0x2 }
    , { name := "QMS_EGRESS", base := 0x380010, s1 := 0x4, n1 := 7, s2 := 0x10000000, n2 := 1, reset := 0x4, rwl := 0x9FFF0007 }
    , { name := "QMS_DROP", base := 0x380030, s1 := 0x10000000, n1 := 1, s2 := 0x10000000, n2 := 1, reset := 0x0 }
    , { name := "QMS_DROP2", base := 0x380034, s1 := 0x10000000, n1 := 1, s2 := 0x10000000, n2 := 1, reset := 0x0 }
    , { name := "QMS_WEIGHT_LO", base := 0x380040, s1 := 0x8, n1 := 7, s2 := 0x10000000, n2 := 1, reset := 0x1010101, rwl := 0xFFFFFFFF }
    , { name := "QMS_WEIGHT_HI", base := 0x380044, s1 := 0x8, n1 := 7, s2 := 0x10000000, n2 := 1, reset := 0x1010101, rwl := 0xFFFFFFFF }
    , { name := "QMS_CLASS_SHP", base := 0x380100, s1 := 0x20, n1 := 7, s2 := 0x4, n2 := 8, reset := 0x0, rwl := 0x80001FFF }
    , { name := "QMS_TX_PKTS", base := 0x380400, s1 := 0x40, n1 := 7, s2 := 0x8, n2 := 8, reset := 0x0 }
    , { name := "QMS_TX_BYTES", base := 0x380404, s1 := 0x40, n1 := 7, s2 := 0x8, n2 := 8, reset := 0x0 }
    , { name := "QMS_AIR_CFG", base := 0x381000, s1 := 0x10, n1 := 8, s2 := 0x10000000, n2 := 1, reset := 0x0, rwq := 0x80003F3F }
    , { name := "QMS_AIR_RATE", base := 0x381004, s1 := 0x10, n1 := 8, s2 := 0x10000000, n2 := 1, reset := 0x8CA00064, rwl := 0xFFFF3FFF }
    , { name := "QMS_AIR_TOKENS", base := 0x381008, s1 := 0x10, n1 := 8, s2 := 0x10000000, n2 := 1, reset := 0x0 }
    , { name := "QMS_AIR_CNT", base := 0x38100C, s1 := 0x10, n1 := 8, s2 := 0x10000000, n2 := 1, reset := 0x0 } ]

/-- The registers of the `ETH_` block. -/
def regsETH : List RegFam :=
  [ { name := "ETH_CTRL", base := 0x400000, s1 := 0x1000, n1 := 2, s2 := 0x10000000, n2 := 1, reset := 0x0, rw := 0x1, rwq := 0xE }
    , { name := "ETH_STAT", base := 0x400004, s1 := 0x1000, n1 := 2, s2 := 0x10000000, n2 := 1, reset := 0x0, w1c := 0x2 }
    , { name := "ETH_MAC_CFG", base := 0x400008, s1 := 0x1000, n1 := 2, s2 := 0x10000000, n2 := 1, reset := 0x5F21001, rwl := 0x1FFF, rwq := 0x3FFF0000 }
    , { name := "ETH_FC_CFG", base := 0x40000C, s1 := 0x1000, n1 := 2, s2 := 0x10000000, n2 := 1, reset := 0x10000, rwl := 0x10000, rwq := 0xFF03 }
    , { name := "ETH_FC_THR", base := 0x400010, s1 := 0x1000, n1 := 2, s2 := 0x10000000, n2 := 1, reset := 0x8000600, rwl := 0xFFFFFFFF }
    , { name := "ETH_HEADROOM", base := 0x400014, s1 := 0x1000, n1 := 2, s2 := 0x10000000, n2 := 1, reset := 0x180, rwq := 0xFFF }
    , { name := "ETH_PCP_MAP", base := 0x400018, s1 := 0x1000, n1 := 2, s2 := 0x10000000, n2 := 1, reset := 0xFAC688, rwl := 0xFFFFFF }
    , { name := "ETH_RX_FRAMES", base := 0x400020, s1 := 0x1000, n1 := 2, s2 := 0x10000000, n2 := 1, reset := 0x0 }
    , { name := "ETH_TX_FRAMES", base := 0x400024, s1 := 0x1000, n1 := 2, s2 := 0x10000000, n2 := 1, reset := 0x0 }
    , { name := "ETH_RX_ERR", base := 0x400028, s1 := 0x1000, n1 := 2, s2 := 0x10000000, n2 := 1, reset := 0x0 }
    , { name := "ETH_DROP", base := 0x40002C, s1 := 0x1000, n1 := 2, s2 := 0x10000000, n2 := 1, reset := 0x0 }
    , { name := "ETH_DROP2", base := 0x400030, s1 := 0x1000, n1 := 2, s2 := 0x10000000, n2 := 1, reset := 0x0 }
    , { name := "ETH_PAUSE_CNT", base := 0x400034, s1 := 0x1000, n1 := 2, s2 := 0x10000000, n2 := 1, reset := 0x0 }
    , { name := "ETH_CT", base := 0x400038, s1 := 0x1000, n1 := 2, s2 := 0x10000000, n2 := 1, reset := 0x0 } ]

/-- The registers of the `COX_` block. -/
def regsCOX : List RegFam :=
  [ { name := "COX_A_CFG", base := 0x440000, s1 := 0x10000000, n1 := 1, s2 := 0x10000000, n2 := 1, reset := 0x4F, rwl := 0xEF }
    , { name := "COX_A_TIME", base := 0x440004, s1 := 0x10000000, n1 := 1, s2 := 0x10000000, n2 := 1, reset := 0x640014, rwl := 0x3FF00FF }
    , { name := "COX_A_STAT", base := 0x440008, s1 := 0x10000000, n1 := 1, s2 := 0x10000000, n2 := 1, reset := 0x0 }
    , { name := "COX_B_CFG", base := 0x440100, s1 := 0x10000000, n1 := 1, s2 := 0x10000000, n2 := 1, reset := 0x4F, rwl := 0xFF }
    , { name := "COX_B_TIME", base := 0x440104, s1 := 0x10000000, n1 := 1, s2 := 0x10000000, n2 := 1, reset := 0xC80064, rwl := 0x3FF03FF }
    , { name := "COX_B_STAT", base := 0x440108, s1 := 0x10000000, n1 := 1, s2 := 0x10000000, n2 := 1, reset := 0x0 } ]

/-- The registers of the `GPI_` block. -/
def regsGPI : List RegFam :=
  [ { name := "GPI_FUNC", base := 0x480000, s1 := 0x10000000, n1 := 1, s2 := 0x10000000, n2 := 1, reset := 0x0, rw := 0xF0000300 }
    , { name := "GPI_DIR", base := 0x480004, s1 := 0x10000000, n1 := 1, s2 := 0x10000000, n2 := 1, reset := 0x0, rw := 0xFFFFFFFF }
    , { name := "GPI_OUT", base := 0x480008, s1 := 0x10000000, n1 := 1, s2 := 0x10000000, n2 := 1, reset := 0x0, rw := 0xFFFFFFFF }
    , { name := "GPI_SET", base := 0x48000C, s1 := 0x10000000, n1 := 1, s2 := 0x10000000, n2 := 1, reset := 0x0, wo := 0xFFFFFFFF }
    , { name := "GPI_CLR", base := 0x480010, s1 := 0x10000000, n1 := 1, s2 := 0x10000000, n2 := 1, reset := 0x0, wo := 0xFFFFFFFF }
    , { name := "GPI_IN", base := 0x480014, s1 := 0x10000000, n1 := 1, s2 := 0x10000000, n2 := 1, reset := 0x0 }
    , { name := "GPI_PULL_LO", base := 0x480018, s1 := 0x10000000, n1 := 1, s2 := 0x10000000, n2 := 1, reset := 0x55555555, rw := 0xFFFFFFFF }
    , { name := "GPI_PULL_HI", base := 0x48001C, s1 := 0x10000000, n1 := 1, s2 := 0x10000000, n2 := 1, reset := 0x55555555, rw := 0xFFFFFFFF }
    , { name := "GPI_WAKE_LVL", base := 0x480020, s1 := 0x10000000, n1 := 1, s2 := 0x10000000, n2 := 1, reset := 0xFF, rw := 0xFF }
    , { name := "GPI_DRIVE", base := 0x480024, s1 := 0x10000000, n1 := 1, s2 := 0x10000000, n2 := 1, reset := 0x19, rw := 0x3F }
    , { name := "GPI_I2C_CFG", base := 0x480028, s1 := 0x10000000, n1 := 1, s2 := 0x10000000, n2 := 1, reset := 0x1, rwl := 0x3 } ]

def F.TOP_ID_part_number : Fld := ⟨0x0, 31, 16⟩
def F.TOP_ID_rev_major : Fld := ⟨0x0, 15, 8⟩
def F.TOP_ID_rev_minor : Fld := ⟨0x0, 7, 0⟩
def F.TOP_HWTYPE_hw_type : Fld := ⟨0x4, 31, 0⟩
def F.TOP_CAPS_0_tpl_lanes : Fld := ⟨0x8, 27, 24⟩
def F.TOP_CAPS_0_couriers : Fld := ⟨0x8, 23, 20⟩
def F.TOP_CAPS_0_sorters : Fld := ⟨0x8, 19, 16⟩
def F.TOP_CAPS_0_postmasters : Fld := ⟨0x8, 15, 12⟩
def F.TOP_CAPS_0_engines : Fld := ⟨0x8, 11, 8⟩
def F.TOP_CAPS_0_srx_channels : Fld := ⟨0x8, 7, 0⟩
def F.TOP_CAPS_1_max_clients : Fld := ⟨0xC, 31, 16⟩
def F.TOP_CAPS_1_pct_mib : Fld := ⟨0xC, 12, 8⟩
def F.TOP_CAPS_1_node_ctx_log2 : Fld := ⟨0xC, 4, 0⟩
def F.TOP_MODE_mode_changes : Fld := ⟨0x10, 15, 8⟩
def F.TOP_MODE_prev_mode : Fld := ⟨0x10, 6, 4⟩
def F.TOP_MODE_in_transition : Fld := ⟨0x10, 3, 3⟩
def F.TOP_MODE_mode : Fld := ⟨0x10, 2, 0⟩
def F.TOP_STRAP_rescue : Fld := ⟨0x14, 2, 2⟩
def F.TOP_STRAP_twin_pref : Fld := ⟨0x14, 1, 1⟩
def F.TOP_STRAP_twin_id : Fld := ⟨0x14, 0, 0⟩
def F.TOP_ENGINE_STAT_franking : Fld := ⟨0x18, 14, 14⟩
def F.TOP_ENGINE_STAT_sorter : Fld := ⟨0x18, 13, 10⟩
def F.TOP_ENGINE_STAT_courier : Fld := ⟨0x18, 9, 7⟩
def F.TOP_ENGINE_STAT_postmaster : Fld := ⟨0x18, 6, 3⟩
def F.TOP_ENGINE_STAT_tpl_lane : Fld := ⟨0x18, 2, 0⟩
def F.TOP_SCRATCH_scratch : Fld := ⟨0x1C, 31, 0⟩
def F.TOP_UNIT_ID_W_unit_id (n : Nat) : Fld := ⟨0x20 + 0x4 * n, 31, 0⟩

def F.PWR_STAT_vddq_missing : Fld := ⟨0x10000, 5, 5⟩
def F.PWR_STAT_rails_ok : Fld := ⟨0x10000, 4, 4⟩
def F.PWR_STAT_vin_ok : Fld := ⟨0x10000, 3, 3⟩
def F.PWR_STAT_pwr_good : Fld := ⟨0x10000, 2, 2⟩
def F.PWR_STAT_hib_source : Fld := ⟨0x10000, 1, 0⟩
def F.PWR_RADIO_PERS_h_eff : Fld := ⟨0x10004, 19, 19⟩
def F.PWR_RADIO_PERS_l_eff : Fld := ⟨0x10004, 18, 17⟩
def F.PWR_RADIO_PERS_s_eff : Fld := ⟨0x10004, 16, 16⟩
def F.PWR_RADIO_PERS_h_en : Fld := ⟨0x10004, 3, 3⟩
def F.PWR_RADIO_PERS_l_mode : Fld := ⟨0x10004, 2, 1⟩
def F.PWR_RADIO_PERS_s_en : Fld := ⟨0x10004, 0, 0⟩
def F.PWR_WAKE_EN_gpio : Fld := ⟨0x10008, 13, 6⟩
def F.PWR_WAKE_EN_eth1 : Fld := ⟨0x10008, 5, 5⟩
def F.PWR_WAKE_EN_eth0 : Fld := ⟨0x10008, 4, 4⟩
def F.PWR_WAKE_EN_pcie : Fld := ⟨0x10008, 3, 3⟩
def F.PWR_WAKE_EN_rtc_alarm : Fld := ⟨0x10008, 2, 2⟩
def F.PWR_WAKE_EN_wake_in : Fld := ⟨0x10008, 1, 1⟩
def F.PWR_WAKE_CAUSE_vin_return : Fld := ⟨0x1000C, 15, 15⟩
def F.PWR_WAKE_CAUSE_doze_hold : Fld := ⟨0x1000C, 14, 14⟩
def F.PWR_WAKE_CAUSE_gpio : Fld := ⟨0x1000C, 13, 6⟩
def F.PWR_WAKE_CAUSE_eth1 : Fld := ⟨0x1000C, 5, 5⟩
def F.PWR_WAKE_CAUSE_eth0 : Fld := ⟨0x1000C, 4, 4⟩
def F.PWR_WAKE_CAUSE_pcie : Fld := ⟨0x1000C, 3, 3⟩
def F.PWR_WAKE_CAUSE_rtc_alarm : Fld := ⟨0x1000C, 2, 2⟩
def F.PWR_WAKE_CAUSE_wake_in : Fld := ⟨0x1000C, 1, 1⟩
def F.PWR_RESET_CAUSE_wdog : Fld := ⟨0x10010, 5, 5⟩
def F.PWR_RESET_CAUSE_tpl : Fld := ⟨0x10010, 4, 4⟩
def F.PWR_RESET_CAUSE_soft : Fld := ⟨0x10010, 3, 3⟩
def F.PWR_RESET_CAUSE_pin : Fld := ⟨0x10010, 2, 2⟩
def F.PWR_RESET_CAUSE_vin : Fld := ⟨0x10010, 1, 1⟩
def F.PWR_RESET_CAUSE_por : Fld := ⟨0x10010, 0, 0⟩
def F.PWR_RESET_CMD_key : Fld := ⟨0x10014, 31, 16⟩
def F.PWR_SNAP_CFG_enable : Fld := ⟨0x10018, 12, 12⟩
def F.PWR_SNAP_CFG_interval_s : Fld := ⟨0x10018, 11, 0⟩
def F.PWR_SNAP_STAT_seq : Fld := ⟨0x1001C, 31, 4⟩
def F.PWR_SNAP_STAT_restore : Fld := ⟨0x1001C, 3, 2⟩
def F.PWR_SNAP_STAT_bank : Fld := ⟨0x1001C, 1, 1⟩
def F.PWR_SNAP_STAT_write_err : Fld := ⟨0x1001C, 0, 0⟩
def F.PWR_DOZE_CFG_hold_max_s : Fld := ⟨0x10020, 31, 16⟩
def F.PWR_DOZE_CFG_hold_cells : Fld := ⟨0x10020, 15, 0⟩
def F.PWR_START_TIME_full_ms : Fld := ⟨0x10024, 31, 16⟩
def F.PWR_START_TIME_dawn_ms : Fld := ⟨0x10024, 15, 0⟩

def F.CLK_STAT_timebase_src : Fld := ⟨0x20000, 11, 11⟩
def F.CLK_STAT_tick_src : Fld := ⟨0x20000, 10, 10⟩
def F.CLK_STAT_twin_lock : Fld := ⟨0x20000, 9, 9⟩
def F.CLK_STAT_eth1_lock : Fld := ⟨0x20000, 8, 8⟩
def F.CLK_STAT_eth0_lock : Fld := ⟨0x20000, 7, 7⟩
def F.CLK_STAT_pcie_lock : Fld := ⟨0x20000, 6, 6⟩
def F.CLK_STAT_ddr_lock : Fld := ⟨0x20000, 5, 5⟩
def F.CLK_STAT_b_lock : Fld := ⟨0x20000, 4, 4⟩
def F.CLK_STAT_a_lock : Fld := ⟨0x20000, 3, 3⟩
def F.CLK_STAT_rc_count : Fld := ⟨0x20000, 2, 2⟩
def F.CLK_STAT_xtal_ok : Fld := ⟨0x20000, 1, 1⟩
def F.CLK_STAT_ref_ok : Fld := ⟨0x20000, 0, 0⟩
def F.CLK_FAIL_gate_timeout : Fld := ⟨0x20004, 11, 11⟩
def F.CLK_FAIL_rc_one : Fld := ⟨0x20004, 10, 10⟩
def F.CLK_FAIL_pll_unlock : Fld := ⟨0x20004, 9, 3⟩
def F.CLK_FAIL_xtal_stop : Fld := ⟨0x20004, 2, 2⟩
def F.CLK_FAIL_ref_freq : Fld := ⟨0x20004, 1, 1⟩
def F.CLK_FAIL_ref_stop : Fld := ⟨0x20004, 0, 0⟩
def F.CLK_OP_CFG_target : Fld := ⟨0x20008, 1, 0⟩
def F.CLK_OP_STAT_changes : Fld := ⟨0x2000C, 31, 16⟩
def F.CLK_OP_STAT_busy : Fld := ⟨0x2000C, 8, 8⟩
def F.CLK_OP_STAT_limit_src : Fld := ⟨0x2000C, 7, 6⟩
def F.CLK_OP_STAT_cap : Fld := ⟨0x2000C, 5, 4⟩
def F.CLK_OP_STAT_op : Fld := ⟨0x2000C, 1, 0⟩
def F.CLK_SSC_CFG_active : Fld := ⟨0x20010, 4, 4⟩
def F.CLK_SSC_CFG_depth : Fld := ⟨0x20010, 3, 1⟩
def F.CLK_SSC_CFG_enable : Fld := ⟨0x20010, 0, 0⟩
def F.CLK_OBS_CFG_div_eff : Fld := ⟨0x20014, 15, 12⟩
def F.CLK_OBS_CFG_div : Fld := ⟨0x20014, 11, 8⟩
def F.CLK_OBS_CFG_sel : Fld := ⟨0x20014, 3, 0⟩
def F.CLK_GATE_STAT_open : Fld := ⟨0x20018, 31, 0⟩
def F.CLK_GATE_ERR_count : Fld := ⟨0x2001C, 31, 16⟩
def F.CLK_GATE_ERR_block : Fld := ⟨0x2001C, 4, 0⟩
def F.CLK_RC_TRIM_frozen : Fld := ⟨0x20020, 24, 24⟩
def F.CLK_RC_TRIM_error : Fld := ⟨0x20020, 15, 8⟩
def F.CLK_RC_TRIM_code : Fld := ⟨0x20020, 7, 0⟩
def F.CLK_REF_COUNT_count : Fld := ⟨0x20024, 15, 0⟩

def F.RTC_STAT_bram_err : Fld := ⟨0x30000, 10, 10⟩
def F.RTC_STAT_cmd_err : Fld := ⟨0x30000, 9, 9⟩
def F.RTC_STAT_trim_sat : Fld := ⟨0x30000, 8, 8⟩
def F.RTC_STAT_dst_repeat : Fld := ⟨0x30000, 7, 7⟩
def F.RTC_STAT_cal_range : Fld := ⟨0x30000, 6, 6⟩
def F.RTC_STAT_busy : Fld := ⟨0x30000, 5, 5⟩
def F.RTC_STAT_vbat_absent : Fld := ⟨0x30000, 4, 4⟩
def F.RTC_STAT_vbat_low : Fld := ⟨0x30000, 3, 3⟩
def F.RTC_STAT_xtal_gap : Fld := ⟨0x30000, 2, 2⟩
def F.RTC_STAT_time_lost : Fld := ⟨0x30000, 1, 1⟩
def F.RTC_SEC_LO_sec_lo : Fld := ⟨0x30004, 31, 0⟩
def F.RTC_SEC_HI_frac : Fld := ⟨0x30008, 30, 16⟩
def F.RTC_SEC_HI_sec_hi : Fld := ⟨0x30008, 15, 0⟩
def F.RTC_LOCAL_OFS_offset : Fld := ⟨0x3000C, 16, 0⟩
def F.RTC_CAL_DATE_wday : Fld := ⟨0x30010, 18, 16⟩
def F.RTC_CAL_DATE_year : Fld := ⟨0x30010, 15, 8⟩
def F.RTC_CAL_DATE_month : Fld := ⟨0x30010, 7, 4⟩
def F.RTC_CAL_TIME_day : Fld := ⟨0x30014, 28, 24⟩
def F.RTC_CAL_TIME_hour : Fld := ⟨0x30014, 20, 16⟩
def F.RTC_CAL_TIME_minute : Fld := ⟨0x30014, 13, 8⟩
def F.RTC_CAL_TIME_second : Fld := ⟨0x30014, 5, 0⟩
def F.RTC_CMD_alm1_clear_mark : Fld := ⟨0x30018, 18, 18⟩
def F.RTC_CMD_sub_hour : Fld := ⟨0x30018, 17, 17⟩
def F.RTC_CMD_add_hour : Fld := ⟨0x30018, 16, 16⟩
def F.RTC_CMD_shift : Fld := ⟨0x30018, 15, 0⟩
def F.RTC_TRIM_auto : Fld := ⟨0x3001C, 31, 31⟩
def F.RTC_TRIM_dir : Fld := ⟨0x3001C, 10, 10⟩
def F.RTC_TRIM_pulses : Fld := ⟨0x3001C, 9, 0⟩
def F.RTC_ALM0_LO_alm_lo : Fld := ⟨0x30020, 31, 0⟩
def F.RTC_ALM0_HI_enable : Fld := ⟨0x30024, 31, 31⟩
def F.RTC_ALM0_HI_alm_hi : Fld := ⟨0x30024, 15, 0⟩
def F.RTC_ALM1_CFG_enable : Fld := ⟨0x30028, 31, 31⟩
def F.RTC_ALM1_CFG_mask_wday : Fld := ⟨0x30028, 29, 29⟩
def F.RTC_ALM1_CFG_mask_day : Fld := ⟨0x30028, 28, 28⟩
def F.RTC_ALM1_CFG_mask_hour : Fld := ⟨0x30028, 27, 27⟩
def F.RTC_ALM1_CFG_mask_min : Fld := ⟨0x30028, 26, 26⟩
def F.RTC_ALM1_CFG_wday : Fld := ⟨0x30028, 25, 23⟩
def F.RTC_ALM1_CFG_day : Fld := ⟨0x30028, 22, 18⟩
def F.RTC_ALM1_CFG_hour : Fld := ⟨0x30028, 17, 13⟩
def F.RTC_ALM1_CFG_minute : Fld := ⟨0x30028, 12, 7⟩
def F.RTC_ALM1_CFG_second : Fld := ⟨0x30028, 6, 1⟩
def F.RTC_ALM_STAT_late1 : Fld := ⟨0x3002C, 3, 3⟩
def F.RTC_ALM_STAT_late0 : Fld := ⟨0x3002C, 2, 2⟩
def F.RTC_ALM_STAT_fired1 : Fld := ⟨0x3002C, 1, 1⟩
def F.RTC_ALM_STAT_fired0 : Fld := ⟨0x3002C, 0, 0⟩
def F.RTC_VBAT_mv : Fld := ⟨0x30030, 11, 0⟩
def F.RTC_BRAM_data (n : Nat) : Fld := ⟨0x30100 + 0x4 * n, 31, 0⟩
def F.RTC_BKLOG_data (n : Nat) : Fld := ⟨0x302C0 + 0x4 * n, 31, 0⟩

def F.TPL_STAT_image_set : Fld := ⟨0x40000, 20, 20⟩
def F.TPL_STAT_code : Fld := ⟨0x40000, 19, 18⟩
def F.TPL_STAT_dawn_active : Fld := ⟨0x40000, 17, 17⟩
def F.TPL_STAT_retired : Fld := ⟨0x40000, 10, 8⟩
def F.TPL_STAT_resync_lane : Fld := ⟨0x40000, 6, 5⟩
def F.TPL_STAT_resync_busy : Fld := ⟨0x40000, 4, 4⟩
def F.TPL_STAT_pair_mode : Fld := ⟨0x40000, 3, 3⟩
def F.TPL_STAT_voting : Fld := ⟨0x40000, 2, 0⟩
def F.TPL_DISAGREE_count : Fld := ⟨0x40004, 31, 16⟩
def F.TPL_DISAGREE_cause : Fld := ⟨0x40004, 9, 8⟩
def F.TPL_DISAGREE_lane : Fld := ⟨0x40004, 5, 4⟩
def F.TPL_DISAGREE_event : Fld := ⟨0x40004, 0, 0⟩
def F.TPL_RESYNC_count : Fld := ⟨0x40008, 31, 16⟩
def F.TPL_RESYNC_last_us : Fld := ⟨0x40008, 10, 0⟩
def F.TPL_LANE_ECC_lane2 : Fld := ⟨0x4000C, 23, 16⟩
def F.TPL_LANE_ECC_lane1 : Fld := ⟨0x4000C, 15, 8⟩
def F.TPL_LANE_ECC_lane0 : Fld := ⟨0x4000C, 7, 0⟩
def F.TPL_DAWN_CFG_retry_hint : Fld := ⟨0x40010, 7, 0⟩
def F.TPL_DAWN_SLOTS_slots : Fld := ⟨0x40014, 31, 0⟩
def F.TPL_DAWN_DEFER_defers : Fld := ⟨0x40018, 31, 0⟩
def F.TPL_DAWN_KA_keepalives : Fld := ⟨0x4001C, 31, 0⟩
def F.TPL_DAWN_DROP_join_ignored : Fld := ⟨0x40020, 31, 16⟩
def F.TPL_DAWN_DROP_mic_fail : Fld := ⟨0x40020, 15, 0⟩
def F.TPL_PBOX_STAT_words : Fld := ⟨0x40024, 21, 11⟩
def F.TPL_PBOX_STAT_items : Fld := ⟨0x40024, 10, 0⟩
def F.TPL_PBOX_ERR_crc_drop : Fld := ⟨0x40028, 31, 16⟩
def F.TPL_PBOX_ERR_overflow : Fld := ⟨0x40028, 15, 0⟩
def F.TPL_PBOX_FLUSH_flush_drop : Fld := ⟨0x4002C, 31, 16⟩
def F.TPL_PBOX_FLUSH_flushes : Fld := ⟨0x4002C, 15, 0⟩

def F.HIF_STAT_dstate : Fld := ⟨0x50000, 8, 7⟩
def F.HIF_STAT_width : Fld := ⟨0x50000, 6, 4⟩
def F.HIF_STAT_speed : Fld := ⟨0x50000, 3, 1⟩
def F.HIF_STAT_link_up : Fld := ⟨0x50000, 0, 0⟩
def F.HIF_GEN_bumps : Fld := ⟨0x50004, 31, 16⟩
def F.HIF_GEN_cause : Fld := ⟨0x50004, 11, 8⟩
def F.HIF_GEN_gen : Fld := ⟨0x50004, 7, 0⟩
def F.HIF_CTRL_key : Fld := ⟨0x50008, 31, 16⟩
def F.HIF_CTRL_bump : Fld := ⟨0x50008, 0, 0⟩
def F.HIF_HOST_WDOG_kick : Fld := ⟨0x5000C, 31, 31⟩
def F.HIF_HOST_WDOG_timeout_ms : Fld := ⟨0x5000C, 15, 0⟩
def F.HIF_MGMT_CFG_ring : Fld := ⟨0x50010, 5, 0⟩
def F.HIF_LOSS_cause : Fld := ⟨0x50014, 5, 0⟩
def F.HIF_ACC_ERR_gated : Fld := ⟨0x50018, 31, 16⟩
def F.HIF_ACC_ERR_narrow_wr : Fld := ⟨0x50018, 15, 0⟩
def F.HIF_ACC_LAST_kind : Fld := ⟨0x5001C, 25, 24⟩
def F.HIF_ACC_LAST_ofs : Fld := ⟨0x5001C, 23, 0⟩
def F.HIF_EVT_CNT_lost : Fld := ⟨0x50020, 31, 16⟩
def F.HIF_EVT_CNT_held : Fld := ⟨0x50020, 15, 0⟩
def F.HIF_RX_DROP_no_mgmt : Fld := ⟨0x50024, 31, 16⟩
def F.HIF_RX_DROP_too_big : Fld := ⟨0x50024, 15, 0⟩
def F.HIF_DB_ERR_stale_db : Fld := ⟨0x50028, 31, 16⟩
def F.HIF_DB_ERR_bad_db : Fld := ⟨0x50028, 15, 0⟩
def F.HIF_SQ_BASE_LO_base (n : Nat) : Fld := ⟨0x51000 + 0x20 * n, 31, 12⟩
def F.HIF_SQ_BASE_HI_base (n : Nat) : Fld := ⟨0x51004 + 0x20 * n, 31, 0⟩
def F.HIF_SQ_CFG_en (n : Nat) : Fld := ⟨0x51008 + 0x20 * n, 31, 31⟩
def F.HIF_SQ_CFG_cq (n : Nat) : Fld := ⟨0x51008 + 0x20 * n, 23, 18⟩
def F.HIF_SQ_CFG_kind (n : Nat) : Fld := ⟨0x51008 + 0x20 * n, 17, 16⟩
def F.HIF_SQ_CFG_buf_256 (n : Nat) : Fld := ⟨0x51008 + 0x20 * n, 13, 8⟩
def F.HIF_SQ_CFG_size_log2 (n : Nat) : Fld := ⟨0x51008 + 0x20 * n, 4, 0⟩
def F.HIF_SQ_STAT_head (n : Nat) : Fld := ⟨0x5100C + 0x20 * n, 31, 16⟩
def F.HIF_SQ_STAT_tail (n : Nat) : Fld := ⟨0x5100C + 0x20 * n, 15, 0⟩
def F.HIF_SQ_ERR_err (n : Nat) : Fld := ⟨0x51010 + 0x20 * n, 5, 4⟩
def F.HIF_SQ_ERR_held (n : Nat) : Fld := ⟨0x51010 + 0x20 * n, 3, 3⟩
def F.HIF_SQ_ERR_cfg_err (n : Nat) : Fld := ⟨0x51010 + 0x20 * n, 2, 2⟩
def F.HIF_SQ_ERR_active (n : Nat) : Fld := ⟨0x51010 + 0x20 * n, 0, 0⟩
def F.HIF_CQ_BASE_LO_base (n : Nat) : Fld := ⟨0x52000 + 0x20 * n, 31, 12⟩
def F.HIF_CQ_BASE_HI_base (n : Nat) : Fld := ⟨0x52004 + 0x20 * n, 31, 0⟩
def F.HIF_CQ_CFG_en (n : Nat) : Fld := ⟨0x52008 + 0x20 * n, 31, 31⟩
def F.HIF_CQ_CFG_event (n : Nat) : Fld := ⟨0x52008 + 0x20 * n, 30, 30⟩
def F.HIF_CQ_CFG_vector (n : Nat) : Fld := ⟨0x52008 + 0x20 * n, 21, 16⟩
def F.HIF_CQ_CFG_size_log2 (n : Nat) : Fld := ⟨0x52008 + 0x20 * n, 4, 0⟩
def F.HIF_CQ_COAL_coal_us (n : Nat) : Fld := ⟨0x5200C + 0x20 * n, 31, 16⟩
def F.HIF_CQ_COAL_coal_count (n : Nat) : Fld := ⟨0x5200C + 0x20 * n, 7, 0⟩
def F.HIF_CQ_STAT_head (n : Nat) : Fld := ⟨0x52010 + 0x20 * n, 31, 16⟩
def F.HIF_CQ_STAT_tail (n : Nat) : Fld := ⟨0x52010 + 0x20 * n, 15, 0⟩
def F.HIF_CQ_ERR_err (n : Nat) : Fld := ⟨0x52014 + 0x20 * n, 6, 5⟩
def F.HIF_CQ_ERR_phase (n : Nat) : Fld := ⟨0x52014 + 0x20 * n, 4, 4⟩
def F.HIF_CQ_ERR_full (n : Nat) : Fld := ⟨0x52014 + 0x20 * n, 3, 3⟩
def F.HIF_CQ_ERR_cfg_err (n : Nat) : Fld := ⟨0x52014 + 0x20 * n, 2, 2⟩
def F.HIF_CQ_ERR_active (n : Nat) : Fld := ⟨0x52014 + 0x20 * n, 0, 0⟩

def F.MSIX_ADDR_LO_addr (n : Nat) : Fld := ⟨0x5E000 + 0x10 * n, 31, 2⟩
def F.MSIX_ADDR_HI_addr (n : Nat) : Fld := ⟨0x5E004 + 0x10 * n, 31, 0⟩
def F.MSIX_DATA_data (n : Nat) : Fld := ⟨0x5E008 + 0x10 * n, 31, 0⟩
def F.MSIX_CTRL_mask (n : Nat) : Fld := ⟨0x5E00C + 0x10 * n, 0, 0⟩
def F.MSIX_PBA_pend (n : Nat) : Fld := ⟨0x5F000 + 0x4 * n, 31, 0⟩

def F.TWN_STAT_cfg_err : Fld := ⟨0x60000, 22, 22⟩
def F.TWN_STAT_peer_lost : Fld := ⟨0x60000, 21, 21⟩
def F.TWN_STAT_hold : Fld := ⟨0x60000, 20, 20⟩
def F.TWN_STAT_strap_err : Fld := ⟨0x60000, 19, 19⟩
def F.TWN_STAT_id_clash : Fld := ⟨0x60000, 18, 18⟩
def F.TWN_STAT_stood_down : Fld := ⟨0x60000, 17, 17⟩
def F.TWN_STAT_window : Fld := ⟨0x60000, 16, 16⟩
def F.TWN_STAT_time_src : Fld := ⟨0x60000, 15, 14⟩
def F.TWN_STAT_link : Fld := ⟨0x60000, 13, 12⟩
def F.TWN_STAT_peer_claim : Fld := ⟨0x60000, 11, 8⟩
def F.TWN_STAT_own_claim : Fld := ⟨0x60000, 7, 4⟩
def F.TWN_STAT_gate : Fld := ⟨0x60000, 3, 3⟩
def F.TWN_STAT_role : Fld := ⟨0x60000, 1, 0⟩
def F.TWN_CFG_key_slot : Fld := ⟨0x60004, 13, 8⟩
def F.TWN_CFG_link_en : Fld := ⟨0x60004, 1, 1⟩
def F.TWN_CFG_pair_en : Fld := ⟨0x60004, 0, 0⟩
def F.TWN_HOLD_remain_s : Fld := ⟨0x60008, 31, 16⟩
def F.TWN_HOLD_holdoff_s : Fld := ⟨0x60008, 15, 0⟩
def F.TWN_PEER_END_LO_peer_end : Fld := ⟨0x6000C, 31, 0⟩
def F.TWN_PEER_END_HI_peer_end : Fld := ⟨0x60010, 7, 0⟩
def F.TWN_ACKED_LO_acked : Fld := ⟨0x60014, 31, 0⟩
def F.TWN_ACKED_HI_acked : Fld := ⟨0x60018, 7, 0⟩
def F.TWN_HEARD_LO_heard : Fld := ⟨0x6001C, 31, 0⟩
def F.TWN_HEARD_HI_heard : Fld := ⟨0x60020, 7, 0⟩
def F.TWN_TIME_age_ms : Fld := ⟨0x60024, 31, 16⟩
def F.TWN_TIME_offset : Fld := ⟨0x60024, 15, 0⟩
def F.TWN_ROLE_CNT_reverts : Fld := ⟨0x60028, 31, 16⟩
def F.TWN_ROLE_CNT_changes : Fld := ⟨0x60028, 15, 0⟩
def F.TWN_SLOT_REC_missed : Fld := ⟨0x6002C, 31, 16⟩
def F.TWN_SLOT_REC_received : Fld := ⟨0x6002C, 15, 0⟩
def F.TWN_LINK_ERR_tag_fail : Fld := ⟨0x60030, 31, 16⟩
def F.TWN_LINK_ERR_downs : Fld := ⟨0x60030, 15, 0⟩
def F.TWN_LEASE_CNT_stall : Fld := ⟨0x60034, 31, 16⟩
def F.TWN_LEASE_CNT_skips : Fld := ⟨0x60034, 15, 0⟩

def F.KV_STAT_letters_closed : Fld := ⟨0x70000, 7, 7⟩
def F.KV_STAT_jtag_open : Fld := ⟨0x70000, 6, 6⟩
def F.KV_STAT_lifecycle : Fld := ⟨0x70000, 5, 4⟩
def F.KV_STAT_busy : Fld := ⟨0x70000, 3, 3⟩
def F.KV_STAT_store_err : Fld := ⟨0x70000, 2, 2⟩
def F.KV_STAT_remask_late : Fld := ⟨0x70000, 1, 1⟩
def F.KV_STAT_ready : Fld := ⟨0x70000, 0, 0⟩
def F.KV_CTR_LO_ctr : Fld := ⟨0x70004, 31, 0⟩
def F.KV_CTR_HI_ctr : Fld := ⟨0x70008, 31, 0⟩
def F.KV_SLOTS_LO_loaded : Fld := ⟨0x7000C, 31, 0⟩
def F.KV_SLOTS_HI_loaded : Fld := ⟨0x70010, 31, 0⟩
def F.KV_LOST_LO_lost : Fld := ⟨0x70014, 31, 0⟩
def F.KV_LOST_HI_lost : Fld := ⟨0x70018, 31, 0⟩
def F.KV_AUTH_last_signer : Fld := ⟨0x7001C, 9, 8⟩
def F.KV_AUTH_revoked : Fld := ⟨0x7001C, 7, 4⟩
def F.KV_AUTH_programmed : Fld := ⟨0x7001C, 3, 0⟩
def F.KV_LETTER_CNT_refused : Fld := ⟨0x70020, 31, 16⟩
def F.KV_LETTER_CNT_accepted : Fld := ⟨0x70020, 15, 0⟩
def F.KV_LETTER_LAST_step : Fld := ⟨0x70024, 23, 16⟩
def F.KV_LETTER_LAST_status : Fld := ⟨0x70024, 15, 8⟩
def F.KV_LETTER_LAST_type : Fld := ⟨0x70024, 7, 0⟩
def F.KV_REMASK_passes : Fld := ⟨0x70028, 31, 0⟩
def F.KV_WRAP_rewraps : Fld := ⟨0x7002C, 31, 17⟩
def F.KV_WRAP_next_s : Fld := ⟨0x7002C, 16, 0⟩

def F.UPD_STAT_rescue_cause : Fld := ⟨0x80000, 10, 8⟩
def F.UPD_STAT_pause : Fld := ⟨0x80000, 7, 7⟩
def F.UPD_STAT_busy : Fld := ⟨0x80000, 6, 6⟩
def F.UPD_STAT_boot_state : Fld := ⟨0x80000, 5, 3⟩
def F.UPD_STAT_boot_set : Fld := ⟨0x80000, 2, 2⟩
def F.UPD_STAT_running_set : Fld := ⟨0x80000, 1, 1⟩
def F.UPD_STAT_trial : Fld := ⟨0x80000, 0, 0⟩
def F.UPD_CFG_wdog_ms : Fld := ⟨0x80004, 31, 16⟩
def F.UPD_CFG_trial_tries : Fld := ⟨0x80004, 15, 12⟩
def F.UPD_CFG_commit_s : Fld := ⟨0x80004, 11, 0⟩
def F.UPD_FLOOR_floor : Fld := ⟨0x80008, 31, 0⟩
def F.UPD_SVN_A_svn : Fld := ⟨0x8000C, 31, 0⟩
def F.UPD_SVN_B_svn : Fld := ⟨0x80010, 31, 0⟩
def F.UPD_VER_A_fw_version : Fld := ⟨0x80014, 31, 0⟩
def F.UPD_VER_B_fw_version : Fld := ⟨0x80018, 31, 0⟩
def F.UPD_CNT_fallbacks : Fld := ⟨0x8001C, 31, 16⟩
def F.UPD_CNT_activations : Fld := ⟨0x8001C, 15, 0⟩

def F.DSK_STAT_group : Fld := ⟨0x90000, 11, 8⟩
def F.DSK_STAT_otp_full : Fld := ⟨0x90000, 7, 7⟩
def F.DSK_STAT_unrepairable : Fld := ⟨0x90000, 6, 6⟩
def F.DSK_STAT_derated : Fld := ⟨0x90000, 5, 5⟩
def F.DSK_STAT_incomplete : Fld := ⟨0x90000, 4, 4⟩
def F.DSK_STAT_reinit : Fld := ⟨0x90000, 3, 3⟩
def F.DSK_STAT_aborting : Fld := ⟨0x90000, 2, 2⟩
def F.DSK_STAT_memory_only : Fld := ⟨0x90000, 1, 1⟩
def F.DSK_STAT_running : Fld := ⟨0x90000, 0, 0⟩
def F.DSK_CFG_group_mask : Fld := ⟨0x90004, 15, 8⟩
def F.DSK_CFG_peer_abort : Fld := ⟨0x90004, 1, 1⟩
def F.DSK_CFG_fuse_en : Fld := ⟨0x90004, 0, 0⟩
def F.DSK_CTRL_key : Fld := ⟨0x90008, 31, 16⟩
def F.DSK_CTRL_abort : Fld := ⟨0x90008, 0, 0⟩
def F.DSK_RUN_run : Fld := ⟨0x9000C, 31, 0⟩
def F.DSK_REPAIR_otp_used : Fld := ⟨0x90010, 31, 24⟩
def F.DSK_REPAIR_soft_cols : Fld := ⟨0x90010, 23, 12⟩
def F.DSK_REPAIR_soft_rows : Fld := ⟨0x90010, 11, 0⟩

def F.FLT_STAT_paths : Fld := ⟨0xA0000, 15, 8⟩
def F.FLT_STAT_open : Fld := ⟨0xA0000, 0, 0⟩
def F.FLT_REMAIN_remain_s : Fld := ⟨0xA0004, 16, 0⟩
def F.FLT_RULES_set : Fld := ⟨0xA0008, 15, 0⟩
def F.FLT_CNT_acted (n : Nat) : Fld := ⟨0xA0040 + 0x4 * n, 31, 0⟩

def F.TEL_STAT_scrub_late : Fld := ⟨0xB0000, 2, 2⟩
def F.TEL_STAT_log_err : Fld := ⟨0xB0000, 1, 1⟩
def F.TEL_STAT_sample_valid : Fld := ⟨0xB0000, 0, 0⟩
def F.TEL_FAULT_twin : Fld := ⟨0xB0004, 9, 9⟩
def F.TEL_FAULT_vault_lost : Fld := ⟨0xB0004, 8, 8⟩
def F.TEL_FAULT_otp : Fld := ⟨0xB0004, 7, 7⟩
def F.TEL_FAULT_unrepairable : Fld := ⟨0xB0004, 6, 6⟩
def F.TEL_FAULT_mram : Fld := ⟨0xB0004, 5, 5⟩
def F.TEL_FAULT_clock_supply : Fld := ⟨0xB0004, 4, 4⟩
def F.TEL_FAULT_radio : Fld := ⟨0xB0004, 3, 3⟩
def F.TEL_FAULT_voted : Fld := ⟨0xB0004, 2, 2⟩
def F.TEL_FAULT_fatal_hold : Fld := ⟨0xB0004, 1, 1⟩
def F.TEL_SCRUB_CFG_dram_h : Fld := ⟨0xB0008, 31, 16⟩
def F.TEL_SCRUB_CFG_sram_s : Fld := ⟨0xB0008, 15, 0⟩
def F.TEL_SCRUB_CNT_dram_passes : Fld := ⟨0xB000C, 31, 16⟩
def F.TEL_SCRUB_CNT_sram_passes : Fld := ⟨0xB000C, 15, 0⟩
def F.TEL_MRAM_spares : Fld := ⟨0xB0010, 31, 24⟩
def F.TEL_MRAM_max_writes : Fld := ⟨0xB0010, 23, 0⟩
def F.TEL_LOG_seq : Fld := ⟨0xB0014, 31, 0⟩
def F.TEL_CFG_tel_ms : Fld := ⟨0xB0018, 15, 0⟩
def F.TEL_TEMP_sensor : Fld := ⟨0xB001C, 10, 8⟩
def F.TEL_TEMP_max_c : Fld := ⟨0xB001C, 7, 0⟩

def F.SRX_STAT_sel_over : Fld := ⟨0x100000, 12, 12⟩
def F.SRX_STAT_cfg_err : Fld := ⟨0x100000, 11, 11⟩
def F.SRX_STAT_step1 : Fld := ⟨0x100000, 10, 10⟩
def F.SRX_STAT_step0 : Fld := ⟨0x100000, 9, 9⟩
def F.SRX_STAT_frozen1 : Fld := ⟨0x100000, 8, 8⟩
def F.SRX_STAT_frozen0 : Fld := ⟨0x100000, 7, 7⟩
def F.SRX_STAT_lna_byp : Fld := ⟨0x100000, 6, 6⟩
def F.SRX_STAT_tx_active : Fld := ⟨0x100000, 5, 5⟩
def F.SRX_STAT_rx_active : Fld := ⟨0x100000, 4, 4⟩
def F.SRX_STAT_cal : Fld := ⟨0x100000, 3, 2⟩
def F.SRX_STAT_cal_valid : Fld := ⟨0x100000, 1, 1⟩
def F.SRX_STAT_lock : Fld := ⟨0x100000, 0, 0⟩
def F.SRX_SYNTH_CFG_grid : Fld := ⟨0x100004, 24, 24⟩
def F.SRX_SYNTH_CFG_centre_khz : Fld := ⟨0x100004, 19, 0⟩
def F.SRX_SEL_0_sel : Fld := ⟨0x100008, 31, 0⟩
def F.SRX_SEL_1_sel : Fld := ⟨0x10000C, 31, 0⟩
def F.SRX_SEL_2_sel : Fld := ⟨0x100010, 31, 0⟩
def F.SRX_SEL_3_sel : Fld := ⟨0x100014, 31, 0⟩
def F.SRX_PROF_MAP_prof (n : Nat) : Fld := ⟨0x100018 + 0x4 * n, 31, 0⟩
def F.SRX_SFD_CFG_sfd_err : Fld := ⟨0x100028, 17, 16⟩
def F.SRX_SFD_CFG_sfd : Fld := ⟨0x100028, 15, 0⟩
def F.SRX_AGC_CFG_ext_gain_db : Fld := ⟨0x10002C, 28, 24⟩
def F.SRX_AGC_CFG_lna_thresh : Fld := ⟨0x10002C, 23, 16⟩
def F.SRX_AGC_CFG_lna_mode : Fld := ⟨0x10002C, 9, 8⟩
def F.SRX_AGC_CFG_step_en : Fld := ⟨0x10002C, 0, 0⟩
def F.SRX_DIV_CFG_div_mode : Fld := ⟨0x100030, 1, 0⟩
def F.SRX_TX_CFG_pa_mode : Fld := ⟨0x100034, 17, 16⟩
def F.SRX_TX_CFG_pwr_mode : Fld := ⟨0x100034, 8, 8⟩
def F.SRX_TX_CFG_level : Fld := ⟨0x100034, 7, 0⟩
def F.SRX_PA_TIMING_pa_en_lead : Fld := ⟨0x100038, 6, 0⟩
def F.SRX_CCA_CFG_cca_thresh : Fld := ⟨0x10003C, 7, 0⟩
def F.SRX_CAL_CFG_temp_delta : Fld := ⟨0x100040, 19, 16⟩
def F.SRX_CAL_CFG_period_min : Fld := ⟨0x100040, 15, 0⟩
def F.SRX_CAL_CMD_full : Fld := ⟨0x100044, 1, 1⟩
def F.SRX_CAL_CMD_quick : Fld := ⟨0x100044, 0, 0⟩
def F.SRX_CAL_STAT_count : Fld := ⟨0x100048, 31, 16⟩
def F.SRX_CAL_STAT_last_temp : Fld := ⟨0x100048, 15, 8⟩
def F.SRX_CAL_STAT_failed : Fld := ⟨0x100048, 5, 5⟩
def F.SRX_CAL_STAT_pending : Fld := ⟨0x100048, 4, 4⟩
def F.SRX_CAL_STAT_last_type : Fld := ⟨0x100048, 3, 2⟩
def F.SRX_CAL_STAT_stored_valid : Fld := ⟨0x100048, 0, 0⟩
def F.SRX_RX_FRAMES_frames : Fld := ⟨0x10004C, 31, 0⟩
def F.SRX_RX_ERR_truncated : Fld := ⟨0x100050, 31, 16⟩
def F.SRX_RX_ERR_len_err : Fld := ⟨0x100050, 15, 0⟩
def F.SRX_AGC_EVT_steps : Fld := ⟨0x100054, 31, 16⟩
def F.SRX_AGC_EVT_clip_frames : Fld := ⟨0x100054, 15, 0⟩
def F.SRX_DIV_STAT_chain1 : Fld := ⟨0x100058, 31, 16⟩
def F.SRX_DIV_STAT_chain0 : Fld := ⟨0x100058, 15, 0⟩
def F.SRX_TX_CNT_transmissions : Fld := ⟨0x10005C, 31, 0⟩
def F.SRX_TX_ERR_late : Fld := ⟨0x100060, 31, 16⟩
def F.SRX_TX_ERR_cut : Fld := ⟨0x100060, 15, 0⟩
def F.SRX_TX_LIM_cca_drop : Fld := ⟨0x100064, 31, 16⟩
def F.SRX_TX_LIM_cap_reduced : Fld := ⟨0x100064, 15, 0⟩

def F.MSH_CTRL_run : Fld := ⟨0x140000, 0, 0⟩
def F.MSH_STAT_cfg_err : Fld := ⟨0x140004, 3, 3⟩
def F.MSH_STAT_sf_pending : Fld := ⟨0x140004, 2, 2⟩
def F.MSH_STAT_slot_type : Fld := ⟨0x140004, 1, 1⟩
def F.MSH_STAT_running : Fld := ⟨0x140004, 0, 0⟩
def F.MSH_SLOT_LO_slot_lo : Fld := ⟨0x140008, 31, 0⟩
def F.MSH_SLOT_HI_slot_hi : Fld := ⟨0x14000C, 7, 0⟩
def F.MSH_SF_CFG_len : Fld := ⟨0x140010, 15, 8⟩
def F.MSH_SF_CFG_map_hi : Fld := ⟨0x140010, 7, 0⟩
def F.MSH_SF_PATTERN_map_lo : Fld := ⟨0x140014, 31, 0⟩
def F.MSH_SF_NEXT_length : Fld := ⟨0x140018, 23, 16⟩
def F.MSH_SF_NEXT_map_hi : Fld := ⟨0x140018, 15, 8⟩
def F.MSH_SF_NEXT_at_hi : Fld := ⟨0x140018, 7, 0⟩
def F.MSH_SF_NEXT_MAP_map_lo : Fld := ⟨0x14001C, 31, 0⟩
def F.MSH_SF_NEXT_AT_at_lo : Fld := ⟨0x140020, 31, 0⟩
def F.MSH_RCPT_CFG_burst_width : Fld := ⟨0x140024, 6, 0⟩
def F.MSH_DL_CFG_dl_preamble : Fld := ⟨0x140028, 23, 16⟩
def F.MSH_DL_CFG_pend_chain : Fld := ⟨0x140028, 15, 12⟩
def F.MSH_DL_CFG_dl_cca : Fld := ⟨0x140028, 8, 8⟩
def F.MSH_DL_CFG_dl_retries : Fld := ⟨0x140028, 2, 0⟩
def F.MSH_BCN_CFG_root_ppm : Fld := ⟨0x14002C, 31, 24⟩
def F.MSH_BCN_CFG_bcn_preamble : Fld := ⟨0x14002C, 23, 16⟩
def F.MSH_BCN_CFG_bcn_every : Fld := ⟨0x14002C, 15, 8⟩
def F.MSH_BCN_CFG_bcn_l_en : Fld := ⟨0x14002C, 7, 7⟩
def F.MSH_BCN_CFG_bcn_l_ch : Fld := ⟨0x14002C, 6, 4⟩
def F.MSH_BCN_CFG_bcn_count : Fld := ⟨0x14002C, 1, 0⟩
def F.MSH_BCN_CH_ch : Fld := ⟨0x140030, 31, 0⟩
def F.MSH_CONT_LO_cont : Fld := ⟨0x140034, 31, 0⟩
def F.MSH_CONT_HI_cont : Fld := ⟨0x140038, 31, 0⟩
def F.MSH_CONT_BE_announce_s : Fld := ⟨0x14003C, 31, 16⟩
def F.MSH_CONT_BE_cont_l : Fld := ⟨0x14003C, 15, 8⟩
def F.MSH_CONT_BE_be_max : Fld := ⟨0x14003C, 7, 4⟩
def F.MSH_CONT_BE_be_min : Fld := ⟨0x14003C, 3, 0⟩
def F.MSH_LAPSE_CFG_hold_s : Fld := ⟨0x140040, 31, 0⟩
def F.MSH_CONN_CNT_lapsed : Fld := ⟨0x140044, 31, 16⟩
def F.MSH_CONN_CNT_active : Fld := ⟨0x140044, 15, 0⟩
def F.MSH_RX_CNT_accepted : Fld := ⟨0x140048, 31, 0⟩
def F.MSH_RX_DROP_dup : Fld := ⟨0x14004C, 31, 16⟩
def F.MSH_RX_DROP_truncated : Fld := ⟨0x14004C, 15, 0⟩
def F.MSH_RX_ERR_fcs_err : Fld := ⟨0x140050, 31, 16⟩
def F.MSH_RX_ERR_other_dst : Fld := ⟨0x140050, 15, 0⟩
def F.MSH_RCPT_CNT_receipts : Fld := ⟨0x140054, 31, 0⟩
def F.MSH_DEFER_CNT_lost : Fld := ⟨0x140058, 31, 16⟩
def F.MSH_DEFER_CNT_deferred : Fld := ⟨0x140058, 15, 0⟩
def F.MSH_DL_CNT_dropped : Fld := ⟨0x14005C, 31, 16⟩
def F.MSH_DL_CNT_retries : Fld := ⟨0x14005C, 15, 0⟩
def F.MSH_DL_SENT_sent : Fld := ⟨0x140060, 31, 0⟩
def F.MSH_SUPV_CNT_lapses : Fld := ⟨0x140064, 15, 0⟩
def F.MSH_OFFCELL_contention : Fld := ⟨0x140068, 31, 16⟩
def F.MSH_OFFCELL_off_cell : Fld := ⟨0x140068, 15, 0⟩
def F.MSH_NET_ID_net_id : Fld := ⟨0x140100, 15, 0⟩
def F.MSH_JOIN_CFG_relay_wait : Fld := ⟨0x140104, 31, 24⟩
def F.MSH_JOIN_CFG_retry_hint : Fld := ⟨0x140104, 23, 16⟩
def F.MSH_JOIN_CFG_join_wait : Fld := ⟨0x140104, 11, 8⟩
def F.MSH_JOIN_CFG_policy : Fld := ⟨0x140104, 5, 4⟩
def F.MSH_JOIN_CFG_reattach_en : Fld := ⟨0x140104, 1, 1⟩
def F.MSH_JOIN_CFG_open : Fld := ⟨0x140104, 0, 0⟩
def F.MSH_ADDR_LO_addr : Fld := ⟨0x140108, 23, 0⟩
def F.MSH_ADDR_HI_addr : Fld := ⟨0x14010C, 23, 0⟩
def F.MSH_ADDR_CFG_reuse_h : Fld := ⟨0x140110, 7, 0⟩
def F.MSH_CTX_LO_prefix (n : Nat) : Fld := ⟨0x140120 + 0x8 * n, 31, 0⟩
def F.MSH_CTX_HI_prefix (n : Nat) : Fld := ⟨0x140124 + 0x8 * n, 31, 0⟩
def F.MSH_CTX_VALID_valid : Fld := ⟨0x140140, 3, 0⟩
def F.MSH_CIRC_CFG_def_ttl : Fld := ⟨0x140144, 31, 28⟩
def F.MSH_CIRC_CFG_ch1 : Fld := ⟨0x140144, 27, 22⟩
def F.MSH_CIRC_CFG_ch1_en : Fld := ⟨0x140144, 21, 21⟩
def F.MSH_CIRC_CFG_ch0 : Fld := ⟨0x140144, 20, 15⟩
def F.MSH_CIRC_CFG_repeat : Fld := ⟨0x140144, 14, 13⟩
def F.MSH_CIRC_CFG_circ_k : Fld := ⟨0x140144, 12, 9⟩
def F.MSH_CIRC_CFG_circ_be : Fld := ⟨0x140144, 8, 5⟩
def F.MSH_CIRC_CFG_circ_every : Fld := ⟨0x140144, 4, 1⟩
def F.MSH_CIRC_ID_next_id : Fld := ⟨0x140148, 15, 0⟩
def F.MSH_FRAG_CFG_timeout_s : Fld := ⟨0x14014C, 7, 0⟩
def F.MSH_JOIN_CNT_refused : Fld := ⟨0x140150, 31, 16⟩
def F.MSH_JOIN_CNT_admitted : Fld := ⟨0x140150, 15, 0⟩
def F.MSH_REATT_CNT_refused : Fld := ⟨0x140154, 31, 16⟩
def F.MSH_REATT_CNT_reattached : Fld := ⟨0x140154, 15, 0⟩
def F.MSH_CIRC_CNT_dup : Fld := ⟨0x140158, 31, 16⟩
def F.MSH_CIRC_CNT_evict_early : Fld := ⟨0x140158, 15, 0⟩
def F.MSH_NET_ERR_no_route : Fld := ⟨0x14015C, 31, 16⟩
def F.MSH_NET_ERR_unknown_origin : Fld := ⟨0x14015C, 15, 0⟩
def F.MSH_LOWPAN_ERR_inner_dup : Fld := ⟨0x140160, 31, 16⟩
def F.MSH_LOWPAN_ERR_lowpan_err : Fld := ⟨0x140160, 15, 0⟩
def F.MSH_FRAG_CNT_timed_out : Fld := ⟨0x140164, 31, 16⟩
def F.MSH_FRAG_CNT_reassembled : Fld := ⟨0x140164, 15, 0⟩
def F.MSH_NODE_CNT_contexts : Fld := ⟨0x140168, 17, 0⟩
def F.MSH_SEC_EPOCH_none : Fld := ⟨0x140200, 18, 18⟩
def F.MSH_SEC_EPOCH_pending : Fld := ⟨0x140200, 17, 17⟩
def F.MSH_SEC_EPOCH_grace : Fld := ⟨0x140200, 16, 16⟩
def F.MSH_SEC_EPOCH_prev : Fld := ⟨0x140200, 15, 8⟩
def F.MSH_SEC_EPOCH_epoch : Fld := ⟨0x140200, 7, 0⟩
def F.MSH_SEC_ROOT_prev_net : Fld := ⟨0x140204, 29, 24⟩
def F.MSH_SEC_ROOT_prev_node : Fld := ⟨0x140204, 21, 16⟩
def F.MSH_SEC_ROOT_net_slot : Fld := ⟨0x140204, 13, 8⟩
def F.MSH_SEC_ROOT_node_slot : Fld := ⟨0x140204, 5, 0⟩
def F.MSH_SEC_GRACE_remain_s : Fld := ⟨0x140208, 24, 0⟩
def F.MSH_SEC_CFG_notice_en : Fld := ⟨0x14020C, 8, 8⟩
def F.MSH_SEC_CFG_mic_evt : Fld := ⟨0x14020C, 7, 0⟩
def F.MSH_DL_CTR_LO_ctr : Fld := ⟨0x140210, 31, 0⟩
def F.MSH_DL_CTR_HI_ctr : Fld := ⟨0x140214, 7, 0⟩
def F.MSH_DL_LEASE_LO_lease_end : Fld := ⟨0x140218, 31, 0⟩
def F.MSH_DL_LEASE_HI_lease_end : Fld := ⟨0x14021C, 7, 0⟩
def F.MSH_DL_WARN_LO_warn : Fld := ⟨0x140220, 31, 0⟩
def F.MSH_DL_WARN_HI_warn : Fld := ⟨0x140224, 7, 0⟩
def F.MSH_SEC_STAT_mic_evt : Fld := ⟨0x140228, 4, 4⟩
def F.MSH_SEC_STAT_lease_err : Fld := ⟨0x140228, 3, 3⟩
def F.MSH_SEC_STAT_ul_warn : Fld := ⟨0x140228, 2, 2⟩
def F.MSH_SEC_STAT_dl_exhausted : Fld := ⟨0x140228, 1, 1⟩
def F.MSH_SEC_STAT_dl_warn : Fld := ⟨0x140228, 0, 0⟩
def F.MSH_SEC_LAST_reason : Fld := ⟨0x14022C, 26, 24⟩
def F.MSH_SEC_LAST_addr : Fld := ⟨0x14022C, 23, 0⟩
def F.MSH_KCACHE_HIT_hits : Fld := ⟨0x140230, 31, 0⟩
def F.MSH_KCACHE_MISS_misses : Fld := ⟨0x140234, 31, 0⟩
def F.MSH_SEC_ERR_mic_fail : Fld := ⟨0x140238, 31, 16⟩
def F.MSH_SEC_ERR_replay : Fld := ⟨0x140238, 15, 0⟩
def F.MSH_SEC_ERR2_bad_epoch : Fld := ⟨0x14023C, 31, 16⟩
def F.MSH_SEC_ERR2_no_context : Fld := ⟨0x14023C, 15, 0⟩
def F.MSH_SEC_ERR3_join_mic : Fld := ⟨0x140240, 31, 16⟩
def F.MSH_SEC_ERR3_same_slot : Fld := ⟨0x140240, 15, 0⟩
def F.MSH_SEC_NOTICE_lease_stall : Fld := ⟨0x140244, 31, 16⟩
def F.MSH_SEC_NOTICE_notices : Fld := ⟨0x140244, 15, 0⟩

def F.LRX_STAT_cfg_err : Fld := ⟨0x180000, 8, 8⟩
def F.LRX_STAT_antsel : Fld := ⟨0x180000, 7, 7⟩
def F.LRX_STAT_reserved_ivl : Fld := ⟨0x180000, 6, 6⟩
def F.LRX_STAT_step : Fld := ⟨0x180000, 5, 5⟩
def F.LRX_STAT_tx_active : Fld := ⟨0x180000, 4, 4⟩
def F.LRX_STAT_cal : Fld := ⟨0x180000, 3, 2⟩
def F.LRX_STAT_cal_valid : Fld := ⟨0x180000, 1, 1⟩
def F.LRX_STAT_lock : Fld := ⟨0x180000, 0, 0⟩
def F.LRX_CHAN_CFG_sec : Fld := ⟨0x180004, 9, 8⟩
def F.LRX_CHAN_CFG_primary : Fld := ⟨0x180004, 3, 0⟩
def F.LRX_MESH_CH_0_ch : Fld := ⟨0x180008, 31, 0⟩
def F.LRX_MESH_CH_1_ch : Fld := ⟨0x18000C, 31, 0⟩
def F.LRX_MESH_CFG_level : Fld := ⟨0x180010, 15, 8⟩
def F.LRX_MESH_CFG_div_mode : Fld := ⟨0x180010, 3, 2⟩
def F.LRX_MESH_CFG_step_en : Fld := ⟨0x180010, 1, 1⟩
def F.LRX_MESH_CFG_u_protect : Fld := ⟨0x180010, 0, 0⟩
def F.LRX_ANT_CFG_train_s : Fld := ⟨0x180014, 31, 16⟩
def F.LRX_ANT_CFG_antsel : Fld := ⟨0x180014, 1, 0⟩
def F.LRX_FEM_CFG_pa_mode : Fld := ⟨0x180018, 9, 8⟩
def F.LRX_FEM_CFG_pa_en_lead : Fld := ⟨0x180018, 4, 0⟩
def F.LRX_CAL_CFG_temp_delta : Fld := ⟨0x18001C, 19, 16⟩
def F.LRX_CAL_CFG_track_s : Fld := ⟨0x18001C, 15, 0⟩
def F.LRX_CAL_CMD_full : Fld := ⟨0x180020, 1, 1⟩
def F.LRX_CAL_CMD_channel : Fld := ⟨0x180020, 0, 0⟩
def F.LRX_CAL_STAT_count : Fld := ⟨0x180024, 31, 16⟩
def F.LRX_CAL_STAT_last_temp : Fld := ⟨0x180024, 15, 8⟩
def F.LRX_CAL_STAT_failed : Fld := ⟨0x180024, 2, 2⟩
def F.LRX_CAL_STAT_pending : Fld := ⟨0x180024, 1, 1⟩
def F.LRX_ERR_wifi_abandoned : Fld := ⟨0x180028, 31, 16⟩
def F.LRX_ERR_cut : Fld := ⟨0x180028, 15, 8⟩
def F.LRX_ERR_clip : Fld := ⟨0x180028, 7, 0⟩

def F.HRX_STAT_cfg_err : Fld := ⟨0x1C0000, 8, 8⟩
def F.HRX_STAT_tx_active : Fld := ⟨0x1C0000, 4, 4⟩
def F.HRX_STAT_cal : Fld := ⟨0x1C0000, 3, 2⟩
def F.HRX_STAT_cal_valid : Fld := ⟨0x1C0000, 1, 1⟩
def F.HRX_STAT_lock : Fld := ⟨0x1C0000, 0, 0⟩
def F.HRX_CHAN_CFG_band : Fld := ⟨0x1C0004, 31, 31⟩
def F.HRX_CHAN_CFG_width : Fld := ⟨0x1C0004, 26, 24⟩
def F.HRX_CHAN_CFG_centre : Fld := ⟨0x1C0004, 15, 8⟩
def F.HRX_CHAN_CFG_p20 : Fld := ⟨0x1C0004, 3, 0⟩
def F.HRX_FEM_CFG_chains : Fld := ⟨0x1C0018, 15, 12⟩
def F.HRX_FEM_CFG_pa_mode : Fld := ⟨0x1C0018, 9, 8⟩
def F.HRX_FEM_CFG_pa_en_lead : Fld := ⟨0x1C0018, 4, 0⟩
def F.HRX_CAL_CFG_temp_delta : Fld := ⟨0x1C001C, 19, 16⟩
def F.HRX_CAL_CFG_track_s : Fld := ⟨0x1C001C, 15, 0⟩
def F.HRX_CAL_CMD_full : Fld := ⟨0x1C0020, 1, 1⟩
def F.HRX_CAL_CMD_channel : Fld := ⟨0x1C0020, 0, 0⟩
def F.HRX_CAL_STAT_count : Fld := ⟨0x1C0024, 31, 16⟩
def F.HRX_CAL_STAT_last_temp : Fld := ⟨0x1C0024, 15, 8⟩
def F.HRX_CAL_STAT_failed : Fld := ⟨0x1C0024, 2, 2⟩
def F.HRX_CAL_STAT_pending : Fld := ⟨0x1C0024, 1, 1⟩
def F.HRX_ERR_cut : Fld := ⟨0x1C0028, 15, 8⟩
def F.HRX_ERR_clip : Fld := ⟨0x1C0028, 7, 0⟩

def F.WLN_STAT_running_h : Fld := ⟨0x200000, 1, 1⟩
def F.WLN_STAT_running_l : Fld := ⟨0x200000, 0, 0⟩
def F.WLN_CTRL_run_h : Fld := ⟨0x200004, 1, 1⟩
def F.WLN_CTRL_run_l : Fld := ⟨0x200004, 0, 0⟩
def F.WLN_SCHED_L_ul_len : Fld := ⟨0x200010, 31, 24⟩
def F.WLN_SCHED_L_miss_max : Fld := ⟨0x200010, 23, 20⟩
def F.WLN_SCHED_L_ra_ru : Fld := ⟨0x200010, 19, 16⟩
def F.WLN_SCHED_L_ul_ofdma_en : Fld := ⟨0x200010, 11, 11⟩
def F.WLN_SCHED_L_dl_ofdma_en : Fld := ⟨0x200010, 10, 10⟩
def F.WLN_SCHED_L_max_users : Fld := ⟨0x200010, 9, 5⟩
def F.WLN_SCHED_L_min_users : Fld := ⟨0x200010, 4, 0⟩
def F.WLN_SCHED_H_ul_len : Fld := ⟨0x200014, 31, 24⟩
def F.WLN_SCHED_H_miss_max : Fld := ⟨0x200014, 23, 20⟩
def F.WLN_SCHED_H_ra_ru : Fld := ⟨0x200014, 19, 16⟩
def F.WLN_SCHED_H_mu_mimo_en : Fld := ⟨0x200014, 12, 12⟩
def F.WLN_SCHED_H_ul_ofdma_en : Fld := ⟨0x200014, 11, 11⟩
def F.WLN_SCHED_H_dl_ofdma_en : Fld := ⟨0x200014, 10, 10⟩
def F.WLN_SCHED_H_max_users : Fld := ⟨0x200014, 9, 5⟩
def F.WLN_SCHED_H_min_users : Fld := ⟨0x200014, 4, 0⟩
def F.WLN_SCHED_TIME_bsrp_ms : Fld := ⟨0x200018, 31, 24⟩
def F.WLN_SCHED_TIME_sound_ms : Fld := ⟨0x200018, 23, 16⟩
def F.WLN_SCHED_TIME_mu_loss : Fld := ⟨0x200018, 15, 8⟩
def F.WLN_SCHED_TIME_quantum : Fld := ⟨0x200018, 7, 0⟩
def F.WLN_TRIM_CFG_min_txop : Fld := ⟨0x20001C, 15, 8⟩
def F.WLN_TRIM_CFG_trim_guard : Fld := ⟨0x20001C, 7, 0⟩
def F.WLN_MLO_CFG_avoid_ivl : Fld := ⟨0x200020, 2, 2⟩
def F.WLN_MLO_CFG_link_pref : Fld := ⟨0x200020, 1, 0⟩
def F.WLN_TWT_CFG_max_per_client : Fld := ⟨0x200024, 11, 8⟩
def F.WLN_TWT_CFG_l_align : Fld := ⟨0x200024, 1, 1⟩
def F.WLN_TWT_CFG_en : Fld := ⟨0x200024, 0, 0⟩
def F.WLN_TWIN_CFG_pn_gap_log2 : Fld := ⟨0x200028, 4, 0⟩
def F.WLN_CLIENT_CNT_links : Fld := ⟨0x20002C, 26, 16⟩
def F.WLN_CLIENT_CNT_clients : Fld := ⟨0x20002C, 9, 0⟩
def F.WLN_TRIG_CNT_ul_triggers : Fld := ⟨0x200030, 31, 16⟩
def F.WLN_TRIG_CNT_ul_missed : Fld := ⟨0x200030, 15, 0⟩
def F.WLN_MU_CNT_mu_mimo : Fld := ⟨0x200034, 31, 16⟩
def F.WLN_MU_CNT_ofdma : Fld := ⟨0x200034, 15, 0⟩
def F.WLN_TRIM_CNT_withheld : Fld := ⟨0x200038, 31, 16⟩
def F.WLN_TRIM_CNT_trimmed : Fld := ⟨0x200038, 15, 0⟩
def F.WLN_RX_DROP_unauth : Fld := ⟨0x20003C, 31, 16⟩
def F.WLN_RX_DROP_unknown : Fld := ⟨0x20003C, 15, 0⟩
def F.WLN_SEC_ERR_mic_fail : Fld := ⟨0x200040, 31, 16⟩
def F.WLN_SEC_ERR_replay : Fld := ⟨0x200040, 15, 0⟩
def F.WLN_SEC_ERR2_pn_stall : Fld := ⟨0x200044, 31, 16⟩
def F.WLN_SEC_ERR2_key_gone : Fld := ⟨0x200044, 15, 0⟩

def F.PCT_STAT_learn_on : Fld := ⟨0x300000, 5, 5⟩
def F.PCT_STAT_shadow : Fld := ⟨0x300000, 4, 4⟩
def F.PCT_STAT_hold : Fld := ⟨0x300000, 3, 3⟩
def F.PCT_STAT_rebuilding : Fld := ⟨0x300000, 2, 2⟩
def F.PCT_STAT_round_late : Fld := ⟨0x300000, 1, 1⟩
def F.PCT_STAT_ready : Fld := ⟨0x300000, 0, 0⟩
def F.PCT_LEARN_CFG_learn_max : Fld := ⟨0x300004, 31, 15⟩
def F.PCT_LEARN_CFG_flush_on_down : Fld := ⟨0x300004, 4, 4⟩
def F.PCT_LEARN_CFG_host : Fld := ⟨0x300004, 3, 3⟩
def F.PCT_LEARN_CFG_wifi : Fld := ⟨0x300004, 2, 2⟩
def F.PCT_LEARN_CFG_eth1 : Fld := ⟨0x300004, 1, 1⟩
def F.PCT_LEARN_CFG_eth0 : Fld := ⟨0x300004, 0, 0⟩
def F.PCT_ROUND_CFG_node_period_h : Fld := ⟨0x300008, 31, 16⟩
def F.PCT_ROUND_CFG_mac_period_s : Fld := ⟨0x300008, 15, 0⟩
def F.PCT_SEQ_seq (n : Nat) : Fld := ⟨0x300020 + 0x4 * n, 31, 0⟩
def F.PCT_COUNT_stash (n : Nat) : Fld := ⟨0x300040 + 0x4 * n, 31, 24⟩
def F.PCT_COUNT_entries (n : Nat) : Fld := ⟨0x300040 + 0x4 * n, 17, 0⟩
def F.PCT_DIRTY_dirty : Fld := ⟨0x300058, 5, 0⟩
def F.PCT_FLOOD_flood_unknown : Fld := ⟨0x300060, 31, 0⟩
def F.PCT_LEARN_CNT_moves : Fld := ⟨0x300064, 31, 16⟩
def F.PCT_LEARN_CNT_learned : Fld := ⟨0x300064, 15, 0⟩
def F.PCT_LEARN_ERR_fail : Fld := ⟨0x300068, 31, 16⟩
def F.PCT_LEARN_ERR_static_conflict : Fld := ⟨0x300068, 15, 0⟩
def F.PCT_LEARN_ERR2_queue_drop : Fld := ⟨0x30006C, 31, 16⟩
def F.PCT_LEARN_ERR2_capped : Fld := ⟨0x30006C, 15, 0⟩
def F.PCT_ROUND_CNT_node_aged : Fld := ⟨0x300070, 31, 16⟩
def F.PCT_ROUND_CNT_mac_aged : Fld := ⟨0x300070, 15, 0⟩
def F.PCT_ROUND_SAVED_saved : Fld := ⟨0x300074, 15, 0⟩
def F.PCT_ECC_lost : Fld := ⟨0x300078, 31, 16⟩
def F.PCT_ECC_corrected : Fld := ⟨0x300078, 15, 0⟩
def F.PCT_MIRROR_ctx_lost : Fld := ⟨0x30007C, 31, 16⟩
def F.PCT_MIRROR_write_err : Fld := ⟨0x30007C, 15, 0⟩

def F.SRT_CTRL_ct_en : Fld := ⟨0x340000, 2, 2⟩
def F.SRT_CTRL_dist_mode : Fld := ⟨0x340000, 1, 1⟩
def F.SRT_CTRL_run : Fld := ⟨0x340000, 0, 0⟩
def F.SRT_STAT_pipes : Fld := ⟨0x340004, 9, 6⟩
def F.SRT_STAT_spill_full : Fld := ⟨0x340004, 5, 5⟩
def F.SRT_STAT_spill_active : Fld := ⟨0x340004, 4, 4⟩
def F.SRT_STAT_pool_state : Fld := ⟨0x340004, 3, 2⟩
def F.SRT_STAT_cfg_err : Fld := ⟨0x340004, 1, 1⟩
def F.SRT_STAT_running : Fld := ⟨0x340004, 0, 0⟩
def F.SRT_ROUTER_MAC_LO_mac : Fld := ⟨0x340008, 31, 0⟩
def F.SRT_ROUTER_MAC_HI_mac : Fld := ⟨0x34000C, 15, 0⟩
def F.SRT_EXC_CFG_ring : Fld := ⟨0x340010, 5, 0⟩
def F.SRT_ADM_LOW_on : Fld := ⟨0x340014, 31, 16⟩
def F.SRT_ADM_LOW_off : Fld := ⟨0x340014, 15, 0⟩
def F.SRT_ADM_HIGH_on : Fld := ⟨0x340018, 31, 16⟩
def F.SRT_ADM_HIGH_off : Fld := ⟨0x340018, 15, 0⟩
def F.SRT_ADM_CFG_ctrl_reserve : Fld := ⟨0x34001C, 31, 16⟩
def F.SRT_ADM_CFG_protect_class : Fld := ⟨0x34001C, 2, 0⟩
def F.SRT_SPILL_CFG_spill_en : Fld := ⟨0x340020, 8, 8⟩
def F.SRT_SPILL_CFG_size_64m : Fld := ⟨0x340020, 5, 0⟩
def F.SRT_SPILL_THR_spill_on : Fld := ⟨0x340024, 31, 16⟩
def F.SRT_SPILL_THR_spill_off : Fld := ⟨0x340024, 15, 0⟩
def F.SRT_QLIM_NODE_node_cells : Fld := ⟨0x340028, 31, 16⟩
def F.SRT_QLIM_NODE_node_pkts : Fld := ⟨0x340028, 7, 0⟩
def F.SRT_QLIM_CLIENT_client_cells : Fld := ⟨0x34002C, 31, 16⟩
def F.SRT_QLIM_CLIENT_tid_cells : Fld := ⟨0x34002C, 15, 0⟩
def F.SRT_QLIM_PORT_eth_cells : Fld := ⟨0x340030, 31, 16⟩
def F.SRT_QLIM_PORT_host_cells : Fld := ⟨0x340030, 15, 0⟩
def F.SRT_POOL_headroom_used : Fld := ⟨0x340034, 31, 16⟩
def F.SRT_POOL_shared_used : Fld := ⟨0x340034, 15, 0⟩
def F.SRT_SPILL_STAT_ecc_drop : Fld := ⟨0x340038, 31, 24⟩
def F.SRT_SPILL_STAT_cells : Fld := ⟨0x340038, 23, 0⟩
def F.SRT_DROP_Q_client_drop : Fld := ⟨0x340040, 31, 16⟩
def F.SRT_DROP_Q_node_drop : Fld := ⟨0x340040, 15, 0⟩
def F.SRT_DROP_Q2_host_drop : Fld := ⟨0x340044, 31, 16⟩
def F.SRT_DROP_Q2_eth_q_drop : Fld := ⟨0x340044, 15, 0⟩
def F.SRT_DROP_ADM_wifi_refused : Fld := ⟨0x340048, 31, 16⟩
def F.SRT_DROP_ADM_no_vlan : Fld := ⟨0x340048, 15, 0⟩
def F.SRT_EXC_CNT_ipv4_mesh : Fld := ⟨0x34004C, 31, 16⟩
def F.SRT_EXC_CNT_exceptions : Fld := ⟨0x34004C, 15, 0⟩
def F.SRT_SHADOW_DROP_drops : Fld := ⟨0x340050, 31, 0⟩
def F.SRT_PIPE_PKTS_packets (n : Nat) : Fld := ⟨0x340060 + 0x4 * n, 31, 0⟩

def F.QMS_CTRL_run : Fld := ⟨0x380000, 0, 0⟩
def F.QMS_STAT_cfg_err : Fld := ⟨0x380004, 1, 1⟩
def F.QMS_STAT_running : Fld := ⟨0x380004, 0, 0⟩
def F.QMS_EGRESS_shp_en (n : Nat) : Fld := ⟨0x380010 + 0x4 * n, 31, 31⟩
def F.QMS_EGRESS_shaper (n : Nat) : Fld := ⟨0x380010 + 0x4 * n, 28, 16⟩
def F.QMS_EGRESS_sp_min (n : Nat) : Fld := ⟨0x380010 + 0x4 * n, 2, 0⟩
def F.QMS_DROP_mode_drop : Fld := ⟨0x380030, 31, 16⟩
def F.QMS_DROP_too_long : Fld := ⟨0x380030, 15, 0⟩
def F.QMS_DROP2_ctx_drop : Fld := ⟨0x380034, 15, 0⟩
def F.QMS_WEIGHT_LO_w (n : Nat) : Fld := ⟨0x380040 + 0x8 * n, 31, 0⟩
def F.QMS_WEIGHT_HI_w (n : Nat) : Fld := ⟨0x380044 + 0x8 * n, 31, 0⟩
def F.QMS_CLASS_SHP_en (e c : Nat) : Fld := ⟨0x380100 + 0x20 * e + 0x4 * c, 31, 31⟩
def F.QMS_CLASS_SHP_shaper (e c : Nat) : Fld := ⟨0x380100 + 0x20 * e + 0x4 * c, 12, 0⟩
def F.QMS_TX_PKTS_count (e c : Nat) : Fld := ⟨0x380400 + 0x40 * e + 0x8 * c, 31, 0⟩
def F.QMS_TX_BYTES_count (e c : Nat) : Fld := ⟨0x380404 + 0x40 * e + 0x8 * c, 31, 0⟩
def F.QMS_AIR_CFG_en (n : Nat) : Fld := ⟨0x381000 + 0x10 * n, 31, 31⟩
def F.QMS_AIR_CFG_hi_ch (n : Nat) : Fld := ⟨0x381000 + 0x10 * n, 13, 8⟩
def F.QMS_AIR_CFG_lo_ch (n : Nat) : Fld := ⟨0x381000 + 0x10 * n, 5, 0⟩
def F.QMS_AIR_RATE_burst_ms (n : Nat) : Fld := ⟨0x381004 + 0x10 * n, 31, 16⟩
def F.QMS_AIR_RATE_duty (n : Nat) : Fld := ⟨0x381004 + 0x10 * n, 13, 0⟩
def F.QMS_AIR_TOKENS_tokens (n : Nat) : Fld := ⟨0x381008 + 0x10 * n, 31, 0⟩
def F.QMS_AIR_CNT_withheld (n : Nat) : Fld := ⟨0x38100C + 0x10 * n, 31, 16⟩
def F.QMS_AIR_CNT_overdrawn (n : Nat) : Fld := ⟨0x38100C + 0x10 * n, 15, 0⟩

def F.ETH_CTRL_mode (n : Nat) : Fld := ⟨0x400000 + 0x1000 * n, 3, 1⟩
def F.ETH_CTRL_en (n : Nat) : Fld := ⟨0x400000 + 0x1000 * n, 0, 0⟩
def F.ETH_STAT_xoff_sent (n : Nat) : Fld := ⟨0x400004 + 0x1000 * n, 20, 13⟩
def F.ETH_STAT_paused (n : Nat) : Fld := ⟨0x400004 + 0x1000 * n, 12, 5⟩
def F.ETH_STAT_speed (n : Nat) : Fld := ⟨0x400004 + 0x1000 * n, 4, 2⟩
def F.ETH_STAT_cfg_err (n : Nat) : Fld := ⟨0x400004 + 0x1000 * n, 1, 1⟩
def F.ETH_STAT_link (n : Nat) : Fld := ⟨0x400004 + 0x1000 * n, 0, 0⟩
def F.ETH_MAC_CFG_max_frame (n : Nat) : Fld := ⟨0x400008 + 0x1000 * n, 29, 16⟩
def F.ETH_MAC_CFG_accept_untagged (n : Nat) : Fld := ⟨0x400008 + 0x1000 * n, 12, 12⟩
def F.ETH_MAC_CFG_pvid (n : Nat) : Fld := ⟨0x400008 + 0x1000 * n, 11, 0⟩
def F.ETH_FC_CFG_rx_honour (n : Nat) : Fld := ⟨0x40000C + 0x1000 * n, 16, 16⟩
def F.ETH_FC_CFG_pfc_en (n : Nat) : Fld := ⟨0x40000C + 0x1000 * n, 15, 8⟩
def F.ETH_FC_CFG_fc_mode (n : Nat) : Fld := ⟨0x40000C + 0x1000 * n, 1, 0⟩
def F.ETH_FC_THR_xoff (n : Nat) : Fld := ⟨0x400010 + 0x1000 * n, 31, 16⟩
def F.ETH_FC_THR_xon (n : Nat) : Fld := ⟨0x400010 + 0x1000 * n, 15, 0⟩
def F.ETH_HEADROOM_cells (n : Nat) : Fld := ⟨0x400014 + 0x1000 * n, 11, 0⟩
def F.ETH_PCP_MAP_class (n : Nat) : Fld := ⟨0x400018 + 0x1000 * n, 23, 0⟩
def F.ETH_RX_FRAMES_frames (n : Nat) : Fld := ⟨0x400020 + 0x1000 * n, 31, 0⟩
def F.ETH_TX_FRAMES_frames (n : Nat) : Fld := ⟨0x400024 + 0x1000 * n, 31, 0⟩
def F.ETH_RX_ERR_fcs_err (n : Nat) : Fld := ⟨0x400028 + 0x1000 * n, 31, 16⟩
def F.ETH_RX_ERR_len_err (n : Nat) : Fld := ⟨0x400028 + 0x1000 * n, 15, 0⟩
def F.ETH_DROP_headroom_drop (n : Nat) : Fld := ⟨0x40002C + 0x1000 * n, 31, 16⟩
def F.ETH_DROP_adm_drop (n : Nat) : Fld := ⟨0x40002C + 0x1000 * n, 15, 0⟩
def F.ETH_DROP2_link_down (n : Nat) : Fld := ⟨0x400030 + 0x1000 * n, 15, 0⟩
def F.ETH_PAUSE_CNT_tx (n : Nat) : Fld := ⟨0x400034 + 0x1000 * n, 31, 16⟩
def F.ETH_PAUSE_CNT_rx (n : Nat) : Fld := ⟨0x400034 + 0x1000 * n, 15, 0⟩
def F.ETH_CT_stomped (n : Nat) : Fld := ⟨0x400038 + 0x1000 * n, 31, 16⟩
def F.ETH_CT_cut_through (n : Nat) : Fld := ⟨0x400038 + 0x1000 * n, 15, 0⟩

def F.COX_A_CFG_pri_vo : Fld := ⟨0x440000, 7, 7⟩
def F.COX_A_CFG_ext_preempt : Fld := ⟨0x440000, 6, 6⟩
def F.COX_A_CFG_req_rx : Fld := ⟨0x440000, 5, 5⟩
def F.COX_A_CFG_rcpt_override : Fld := ⟨0x440000, 3, 3⟩
def F.COX_A_CFG_honour_gnt : Fld := ⟨0x440000, 2, 2⟩
def F.COX_A_CFG_ext_en : Fld := ⟨0x440000, 1, 1⟩
def F.COX_A_CFG_en : Fld := ⟨0x440000, 0, 0⟩
def F.COX_A_TIME_preempt_lead : Fld := ⟨0x440004, 25, 16⟩
def F.COX_A_TIME_req_lead : Fld := ⟨0x440004, 7, 0⟩
def F.COX_A_STAT_denied : Fld := ⟨0x440008, 31, 16⟩
def F.COX_A_STAT_preempt : Fld := ⟨0x440008, 15, 8⟩
def F.COX_A_STAT_ext_gnt : Fld := ⟨0x440008, 2, 2⟩
def F.COX_A_STAT_ext_req : Fld := ⟨0x440008, 1, 1⟩
def F.COX_A_STAT_gnt : Fld := ⟨0x440008, 0, 0⟩
def F.COX_B_CFG_ext_rx_deny : Fld := ⟨0x440100, 7, 7⟩
def F.COX_B_CFG_ext_preempt : Fld := ⟨0x440100, 6, 6⟩
def F.COX_B_CFG_req_rx : Fld := ⟨0x440100, 5, 5⟩
def F.COX_B_CFG_pri_data : Fld := ⟨0x440100, 4, 4⟩
def F.COX_B_CFG_rcpt_override : Fld := ⟨0x440100, 3, 3⟩
def F.COX_B_CFG_honour_gnt : Fld := ⟨0x440100, 2, 2⟩
def F.COX_B_CFG_ext_en : Fld := ⟨0x440100, 1, 1⟩
def F.COX_B_CFG_en : Fld := ⟨0x440100, 0, 0⟩
def F.COX_B_TIME_preempt_lead : Fld := ⟨0x440104, 25, 16⟩
def F.COX_B_TIME_req_lead : Fld := ⟨0x440104, 9, 0⟩
def F.COX_B_STAT_denied : Fld := ⟨0x440108, 31, 16⟩
def F.COX_B_STAT_preempt : Fld := ⟨0x440108, 15, 8⟩
def F.COX_B_STAT_ext_gnt : Fld := ⟨0x440108, 2, 2⟩
def F.COX_B_STAT_ext_req : Fld := ⟨0x440108, 1, 1⟩
def F.COX_B_STAT_gnt : Fld := ⟨0x440108, 0, 0⟩

def F.GPI_FUNC_eth_led : Fld := ⟨0x480000, 31, 28⟩
def F.GPI_FUNC_dslot : Fld := ⟨0x480000, 9, 9⟩
def F.GPI_FUNC_pps : Fld := ⟨0x480000, 8, 8⟩
def F.GPI_DIR_out : Fld := ⟨0x480004, 31, 0⟩
def F.GPI_OUT_level : Fld := ⟨0x480008, 31, 0⟩
def F.GPI_SET_level : Fld := ⟨0x48000C, 31, 0⟩
def F.GPI_CLR_level : Fld := ⟨0x480010, 31, 0⟩
def F.GPI_IN_level : Fld := ⟨0x480014, 31, 0⟩
def F.GPI_PULL_LO_pull : Fld := ⟨0x480018, 31, 0⟩
def F.GPI_PULL_HI_pull : Fld := ⟨0x48001C, 31, 0⟩
def F.GPI_WAKE_LVL_level : Fld := ⟨0x480020, 7, 0⟩
def F.GPI_DRIVE_clkobs : Fld := ⟨0x480024, 5, 4⟩
def F.GPI_DRIVE_fem : Fld := ⟨0x480024, 3, 2⟩
def F.GPI_DRIVE_gpio : Fld := ⟨0x480024, 1, 0⟩
def F.GPI_I2C_CFG_speed : Fld := ⟨0x480028, 1, 0⟩

end Sys2Proof.Machine
end

