-- ==== Sys2Proof/Machine/Tbl.lean ====
section
/-!
DEFINITION. Sys2Proof/Machine/Tbl.lean: sparse tables.  A table is a list of (key, value) pairs in ONE canonical
form, keys strictly rising; `Tbl.put` and `Tbl.del` keep it.  Register words, and every table the spec keys by
a number (connections, contexts, clients, shapers, vault slots), are such tables.
-/

namespace Sys2Proof.Machine

/-- A sparse table keyed by numbers. -/
abbrev Tbl (α : Type) := List (Nat × α)

variable {α : Type}

/-- The value at a key, if the key is listed. -/
def Tbl.get? : Tbl α → Nat → Option α
  | [], _ => none
  | (k, v) :: t, n => if k = n then some v else Tbl.get? t n

/-- The value at a key, or `d` where the key is not listed. -/
def Tbl.getD (t : Tbl α) (n : Nat) (d : α) : α := (Tbl.get? t n).getD d

/-- Set the value at a key, keeping the keys strictly rising. -/
def Tbl.put : Tbl α → Nat → α → Tbl α
  | [], n, v => [(n, v)]
  | (k, w) :: t, n, v =>
    if n < k then (n, v) :: (k, w) :: t
    else if n = k then (n, v) :: t
    else (k, w) :: Tbl.put t n v

/-- Remove a key. -/
def Tbl.del (t : Tbl α) (n : Nat) : Tbl α := t.filter (fun p => p.1 != n)

/-- Change the value at a listed key. -/
def Tbl.upd (t : Tbl α) (n : Nat) (f : α → α) : Tbl α :=
  match Tbl.get? t n with
  | some v => Tbl.put t n (f v)
  | none => t

/-- The listed keys. -/
def Tbl.keys (t : Tbl α) : List Nat := t.map (·.1)

/-- Write a word under the rule that an entry equal to the default is not listed, so that equal memories are
equal lists. -/
def Tbl.putDef [DecidableEq α] (t : Tbl α) (n : Nat) (v d : α) : Tbl α :=
  if v = d then Tbl.del t n else Tbl.put t n v

/-- The keys rise strictly. -/
def Tbl.sorted : Tbl α → Bool
  | [] => true
  | (k, _) :: t => t.all (fun p => decide (k < p.1)) && Tbl.sorted t

/-- The first number not below `lo` and below `lo + fuel` that is not listed. -/
def Tbl.firstFree (t : Tbl α) : Nat → Nat → Option Nat
  | _, 0 => none
  | lo, fuel + 1 => if (Tbl.get? t lo).isNone then some lo else Tbl.firstFree t (lo + 1) fuel

end Sys2Proof.Machine
end

