-- ==== Sys2Proof/Machine/State.lean ====
section
/-!
DEFINITION. Sys2Proof/Machine/State.lean: the state of the PM9680 as plain data, one structure per subject of
spec/, the reasons a step can stop, and the state right after reset.
`Nv` holds what survives every reset (MRAM, OTP, flash); `Rtc` is the backup domain; every other part is
volatile and takes the values below at a reset of R73.
-/

namespace Sys2Proof.Machine

/-- The two reasons a command could stop the model with a fault.  No meaning of this model raises either of them:
every command of the table is given an effect (or comes about with none) by the spec.  Safe. -/
inductive Fault where
  /-- Never raised: kept so that the type has a name for a stuck machine.  Safe. -/
  | stuck
  deriving DecidableEq, Repr

/-- The reasons for a refusal. -/
inductive Refusal where
  /-- Raised by an arm of `exec` whose command has no meaning yet.  Safe. -/
  | notModelled (mnemonic : String)
  deriving DecidableEq, Repr

/-- The operating modes of R45, with their codes. -/
inductive Mode where
  | hibernate | doze | dawn | full | dusk | rescue
  deriving DecidableEq, Repr

/-- The mode code of R45. -/
def Mode.code : Mode → Nat
  | .hibernate => 0 | .doze => 1 | .dawn => 2 | .full => 3 | .dusk => 4 | .rescue => 5

/-- Twin roles of R13. -/
inductive Role where
  | solo | lead | shadow
  deriving DecidableEq, Repr

/-- The role codes of R13. -/
def Role.code : Role → Nat
  | .solo => 0 | .lead => 1 | .shadow => 2

/-! ## Host interface (16_host_rings) -/

/-- A command that completed DEFERRED and still lacks its final completion (R18). -/
structure Dfr where
  sq : Nat
  /-- Its place in the order in which descriptors were fetched. -/
  idx : Nat
  gen : Nat
  tag : Nat
  opcode : Nat
  /-- A number the owning chapter needs to find the command again. -/
  key : Nat := 0
  deriving DecidableEq, Repr

/-- A posted receive buffer not yet filled (R475). -/
structure RxBuf where
  sq : Nat
  idx : Nat
  addr : Nat
  tag : Nat
  gen : Nat
  /-- A descriptor of the ring that was turned away: the status it completes with at its turn; 0: a buffer. -/
  status : Nat := 0
  deriving DecidableEq, Repr

/-- An event that has taken its `seq` and waits to be posted (R476, R477). -/
structure Ev where
  type : Nat
  seq : Nat
  gen : Nat
  body : Bytes
  deriving DecidableEq, Repr

/-- A completion due to a completion ring (R468); `sq_head` and `phase` are those at the write. -/
structure Cpl where
  sq : Nat
  tag : Nat
  status : Nat
  result : Nat := 0
  gen : Nat
  final : Bool := false
  rx : Bool := false
  deriving DecidableEq, Repr

/-- MSI-X coalescing of one completion ring: entries since the last message, and when the first was written. -/
structure Coal where
  count : Nat := 0
  first : Nat := 0
  deriving DecidableEq, Repr

/-- Why the host is lost (R481). -/
inductive LossCause where
  | perst | linkDown | pllPcie | d3hot | busMaster | watchdog
  deriving DecidableEq, Repr

/-- The host interface beside its registers. -/
structure Hif where
  /-- Descriptors fetched so far. -/
  serial : Nat := 0
  /-- DEFERRED commands awaiting their final completion, oldest first. -/
  deferred : List Dfr := []
  /-- The next key of a PKT_TX, and the statuses of those that are over and wait for earlier ones of their ring
  (R478). -/
  txKey : Nat := 0
  txDone : Tbl Nat := []
  /-- Posted, unfilled receive buffers in posting order. -/
  rxBufs : List RxBuf := []
  /-- Completions held for a completion ring that is full or not active, oldest first (R466). -/
  cqHeld : List (Nat × Cpl) := []
  coal : Tbl Coal := []
  /-- Events held in order (R477). -/
  evHeld : List Ev := []
  /-- The next event's `seq` (R476). -/
  evSeq : Nat := 0
  /-- Events dropped since the previous event posted (R476). -/
  evLost : Nat := 0
  /-- The host is lost (R481) and has not returned. -/
  lost : Option LossCause := none
  /-- Bus Master Enable of configuration space. -/
  busMaster : Bool := false
  /-- PME_Status of configuration space. -/
  pme : Bool := false
  /-- Relaxed Ordering enabled in Device Control (R462). -/
  relaxed : Bool := false
  /-- Memory Space Enable of configuration space. -/
  memSpace : Bool := false
  /-- WAKE_N is asserted (R462). -/
  wakeN : Bool := false
  /-- PERST_N is asserted. -/
  perst : Bool := false
  /-- Link in L2. -/
  l2 : Bool := false
  /-- Configuration space is ready (R61). -/
  cfgReady : Bool := false
  /-- Instant of the last host watchdog restart, ns. -/
  wdogAt : Nat := 0
  deriving DecidableEq, Repr

/-- What the device has put out on its ports, newest first.  The list is the model's own: the spec gives the
device the outputs, and the list keeps them. -/
inductive Out where
  /-- A write to host memory: a result, a completion, an event or a packet. -/
  | dma (addr : Nat) (data : Bytes)
  /-- An MSI-X message. -/
  | msix (vector addr : Nat) (data : Nat)
  /-- A carrier sent by Radio S: channel, profile, instant, PSDU. -/
  | radioS (channel profile at_ns : Nat) (psdu : Bytes)
  /-- A frame sent on a mesh channel of Radio L. -/
  | radioLMesh (channel at_ns : Nat) (psdu : Bytes)
  /-- An 802.11 PPDU of a radio (false L, true H): kind and the users it carries. -/
  | wifi (h : Bool) (kind : String) (users : List Nat) (data : Bytes)
  /-- An Ethernet frame sent on a port. -/
  | eth (port : Nat) (frame : Bytes)
  /-- A pause or PFC frame sent on a port: class enable vector and timer value. -/
  | pause (port classes quanta : Nat)
  /-- A twin link message: type, sequence number, body. -/
  | twin (type seq : Nat) (body : Bytes)
  /-- A word popped from the Post-box by a Postmaster. -/
  | pbox (w : BitVec 64)
  /-- A value returned for a register read. -/
  | readData (off : Nat) (w : Word)
  /-- A TFTP or XMODEM reply of the Rescue loader. -/
  | loader (text : String)
  deriving DecidableEq, Repr

/-- Registers, host interface and outputs: what nearly every command touches. -/
structure Io where
  /-- Register words that differ from their reset value, by BAR0 offset. -/
  regs : Tbl Word := []
  /-- The words in effect of registers with RW-L fields, where they differ from the reset value. -/
  eff : Tbl Word := []
  /-- Read latches of `_HI` registers (R8), by the `_HI` offset. -/
  latch : Tbl Word := []
  /-- `_LO` words written and held, by the `_LO` offset (R8). -/
  heldLo : Tbl Word := []
  hf : Hif := {}
  out : List Out := []
  deriving DecidableEq, Repr

/-! ## Modes, power and start (02_modes_power_start) -/

/-- How far the staged start of R60 has come. -/
inductive Stage where
  | off | held | rom | verified | onAir | training | loading | engines | done
  deriving DecidableEq, Repr

/-- A mode transition in progress (R48, R599). -/
inductive Trans where
  | toFull | toDoze | fromDoze | toDawn | toDusk | toHibernate | pause | fromDusk
  deriving DecidableEq, Repr

/-- Why the device is held in reset. -/
inductive Hold where
  | pin | rc | rescueTpl
  deriving DecidableEq, Repr

/-- A payload held in Doze (R53): cells and the instant it was received. -/
structure Held where
  cells : Nat
  at_ns : Nat
  data : Bytes
  src : Nat
  /-- Its channel and level. -/
  ch : Nat := 0
  rssi : Int := 0
  deriving DecidableEq, Repr

structure Pw where
  mode : Mode := .dawn
  prevMode : Nat := 0
  changes : Nat := 0
  trans : Option Trans := none
  stage : Stage := .rom
  hold : Option Hold := none
  /-- VIN_OK is true. -/
  vin : Bool := true
  /-- The instant the start's milestones are counted from (R60), ns. -/
  startAt : Nat := 0
  /-- The Dawn is a requested Dawn (R51). -/
  requestedDawn : Bool := false
  /-- The single retry of Full after a fatal fault is under way (R50). -/
  retry : Bool := false
  /-- A class-0x4 fault was found during the load under way (R588). -/
  loadFault : Bool := false
  /-- When Full was last reached after a fatal fault, ns (R50). -/
  returnedAt : Option Nat := none
  /-- The boot watchdog is armed (R522), with the instant it expires. -/
  wdog : Option Nat := none
  /-- DRAM is trained. -/
  dram : Bool := false
  /-- A wake source has begun the return from Doze (R75). -/
  woken : Bool := false
  /-- The Full load under way was asked for in a requested Dawn (R51). -/
  asked : Bool := false
  /-- The Full load follows the return of REFCLK_IN, which counts as a fatal fault (R95). -/
  refBack : Bool := false
  /-- Target after a Dusk run is Full (R54). -/
  duskThenFull : Bool := false
  /-- The Dusk run is memory-only (R54). -/
  duskMemOnly : Bool := false
  /-- Payloads held in Doze, oldest first (R53). -/
  held : List Held := []
  /-- When the last snapshot was written, ns. -/
  snapAt : Nat := 0
  /-- The mesh domain is powered for a Doze slot (R183). -/
  slotPowered : Bool := false
  /-- The fault log entries that wait in always-on registers for a restart (R552): class and source. -/
  faultHeld : List (Nat × Nat) := []
  deriving DecidableEq, Repr

/-- One connection of a snapshot (R64). -/
structure SnapConn where
  idx : Nat
  counter : Nat
  chanMap : Nat
  hop : Nat
  interval : Nat
  latency : Nat
  timeout : Nat
  /-- Base channel, without which no channel follows at the restore (R218). -/
  base : Nat
  /-- RTC time of the anchor in 1/32,768 s. -/
  anchor : Int
  deriving DecidableEq, Repr

/-- One snapshot bank (R64). -/
structure Snap where
  seq : Nat
  /-- RTC time of the write in 1/32,768 s. -/
  at_rtc : Int
  pers : Nat
  conns : List SnapConn
  /-- Each connection's address and radio (true L), by index. -/
  addrs : List (Nat × Nat × Bool)
  sfLen : Nat
  sfMap : Nat
  phase : Nat
  slot : Nat
  /-- Journal records of R65: (connection, counter at which it takes effect, new parameters). -/
  journal : List (Nat × Nat × SnapConn) := []
  deriving DecidableEq, Repr

/-! ## Clocks (03_clocks) -/

structure Ck where
  /-- A sequence runs towards this point (R85, R86). -/
  seqTo : Option Nat := none
  /-- The core voltage in mV. -/
  vcore : Nat := 600
  /-- Junction temperature, °C. -/
  temp : Int := 25
  /-- Point the Dusk controller sets. -/
  duskPoint : Nat := 3
  /-- REFCLK_IN has failed (R94). -/
  refFailed : Bool := false
  /-- Both REFCLK outputs force (R93) is on. -/
  forced : Bool := false
  deriving DecidableEq, Repr

/-! ## Real-time clock and backup domain (04_rtc_backup) -/

/-- A calendar reading. -/
structure Cal where
  year : Nat
  month : Nat
  day : Nat
  wday : Nat
  hour : Nat
  minute : Nat
  second : Nat
  deriving DecidableEq, Repr

/-- An action of `RTC_CMD` that waits (R111). -/
inductive RtcAct where
  | shift (n : Int) | addHour | subHour | clearMark
  deriving DecidableEq, Repr

structure Rtc where
  sec : Nat := 0
  frac : Nat := 0
  /-- The offset in effect (R108). -/
  offset : Int := 0
  /-- An offset written and waiting for the next whole second. -/
  offsetNext : Option Int := none
  /-- A set waiting for the next backup tick: seconds and fraction (R104). -/
  setNext : Option (Nat × Nat) := none
  act : Option RtcAct := none
  /-- `dst_repeat` reads 1 until the calendar passes this value (R109). -/
  dstUntil : Option Int := none
  /-- Alarm 1's high-water mark, in calendar seconds (R113). -/
  mark : Option Int := none
  /-- Tick within the trim window, and the window's direction (true skip) and pulses. -/
  tick : Nat := 0
  skip : Bool := false
  pulses : Nat := 0
  /-- Latched calendar of the last `RTC_SEC_LO` read. -/
  calLatch : Option (Word × Word) := none
  /-- Backup log entries, newest first, at most 8 (R124). -/
  blog : List Bytes := []
  blogSeq : Nat := 0
  /-- Writes to other registers of the block that wait for the next backup tick (R104, R105). -/
  wr : List (Nat × Word) := []
  /-- Alarm 0 is due, with its `late0` (R112, R114). -/
  due0 : Option Bool := none
  /-- Alarm 1 is due: its `late1` and the mark it leaves (R113, R114). -/
  due1 : Option (Bool × Int) := none
  /-- Wakes from Hibernate latched while VIN is absent: causes of R124 (R76). -/
  wakes : List Nat := []
  /-- The domain has restarted cold with VIN absent (R121). -/
  cold : Bool := false
  /-- The word of `PWR_WAKE_EN` that the wake logic holds in Hibernate (R75). -/
  wakeEn : Word := 0x0000000E#32
  deriving DecidableEq, Repr

/-! ## Triplicate (05_triplicate) -/

/-- A word of the Post-box. -/
abbrev PWord := BitVec 64

/-- A connection's Dawn record (R138). -/
structure DawnRec where
  ctr : Nat
  deriving DecidableEq, Repr

structure Tp where
  /-- Post-box items in order, each its words (R143). -/
  pbox : List (List PWord) := []
  /-- Words of the first item that the consumer has already popped. -/
  read : List PWord := []
  pseq : Nat := 0
  plost : Nat := 0
  /-- Instants of disagreements of each lane, newest first: (lane, ns). -/
  marks : List (Nat × Nat) := []
  resyncAt : Nat := 0
  copyRestarted : Bool := false
  /-- Highest counter authenticated in the current Dawn period, by connection (R138). -/
  dawn : Tbl DawnRec := []
  /-- R133 in progress since this instant. -/
  pairFail : Option Nat := none
  /-- The reduced Courier S image is being reloaded (R550): until the next slot boundary only beacons are sent. -/
  reload : Bool := false
  deriving DecidableEq, Repr

/-! ## Radio S -/
/-- What a demodulator of Radio S is doing (R161 to R165). -/
inductive DemodState where
  /-- Preamble detected: on which chains, and when first. -/
  | preamble (c0 c1 : Bool) (at_ns : Nat)
  /-- Diversity decided: the chain chosen, and whether the other chain had detected the preamble too. -/
  | decided (chain : Nat) (both : Bool) (at_ns : Nat)
  /-- SFD found and PHR accepted: chain, SFD-end time, PSDU length, FCS type, flags `step` and `clip`. -/
  | psdu (chain sfdEnd len fcs : Nat) (step clip : Bool)
  deriving DecidableEq, Repr

/-- A frame Radio S has delivered to Courier S, with its record (R165). -/
structure RxFrame where
  ch : Nat
  demod : Nat
  chain : Nat
  prof : Nat
  sfdEnd : Nat
  rssi : Int
  cfo : Int
  step : Bool
  clip : Bool
  truncated : Bool
  fcs : Nat
  psdu : Bytes
  /-- When the PSDU ended, ns. -/
  endAt : Nat
  /-- Received on a mesh channel of Radio L (index), not on S. -/
  onL : Option Nat := none
  deriving DecidableEq, Repr

/-- An accepted transmit request (R175). -/
structure TxJob where
  req : TxReq
  accepted : Nat
  /-- The effective start, once decided. -/
  eff : Option Nat := none
  /-- The turnaround has started; the transmission is in progress. -/
  started : Bool := false
  deriving DecidableEq, Repr

/-- Radio S beside its registers (06_radio_s). -/
structure Rs where
  /-- Demodulators that are not searching, by number. -/
  demods : Tbl DemodState := []
  /-- The open receive window: false U slot, true node receipt. -/
  window : Option Bool := none
  /-- Delivered frames that wait for Courier S's decision, oldest first. -/
  rx : List RxFrame := []
  tx : Option TxJob := none
  /-- Status of the last completed request (R177); 0xFF before the first. -/
  outcome : Nat := 0xFF
  /-- End of the previous transmission, ns. -/
  prevEnd : Nat := 0
  /-- The synthesiser is locked and no calibration runs, since. -/
  ready : Option Nat := none
  /-- The pending calibration is full (R181). -/
  calFull : Bool := false
  /-- A calibration was requested outside Full (R180): quick, full. -/
  calHeld : Nat := 0
  /-- A calibration has failed once and is repeated in the next D slot (R182). -/
  calRetry : Bool := false
  /-- The radio stopped after a second failure (R182). -/
  stopped : Bool := false
  calTemp : Int := 0
  calAt : Nat := 0
  /-- S is being switched on and passes its full calibration (R59). -/
  switching : Bool := false
  /-- Levels of S_PA_EN, S_PA_MODE, S_TRSW. -/
  paEn : Bool := false
  paMode : Nat := 0
  trsw : Bool := false
  /-- Receive value of S_LNA_BYP (R160). -/
  lnaRx : Bool := false
  coxbReq : Bool := false
  coxbPri : Bool := false
  deriving DecidableEq, Repr
/-! ## Mesh link layer (07_mesh_link) -/

/-- The parameters of a connection (R216).  `anchor` and `ctr` are those of its next event. -/
structure ConnPar where
  map : Nat
  base : Nat
  inc : Nat
  interval : Nat
  latency : Nat
  timeout : Nat
  anchor : Nat
  ctr : Nat
  deriving DecidableEq, Repr

/-- One connection of the mesh connection table. -/
structure Conn where
  addr : Nat
  radioL : Bool := false
  /-- The state code of R221: 1 Active, 2 Updating, 3 Lapsed; a Free connection is not listed. -/
  state : Nat := 1
  par : ConnPar
  /-- The event under way: its anchor and counter. -/
  cur : Option (Nat × Nat) := none
  /-- The event under way: the node was heard in its U cell; its receipt carried `pend`; the event is due. -/
  heardIn : Bool := false
  pendSent : Bool := false
  due : Bool := true
  /-- Events in a row that the node has not attended (R219). -/
  missed : Nat := 0
  /-- Last-heard time (R220), ns. -/
  heard : Nat := 0
  lapsedAt : Nat := 0
  /-- RTC time of the anchor of the event before the next one, in 1/32,768 s (R64, R106). -/
  anchorRtc : Int := 0
  /-- A pending update: its `ctr` is the instant (R222). -/
  upd : Option ConnPar := none
  /-- The node was deferred in the previous U slot it used (R206). -/
  deferred : Bool := false
  /-- The follow-on D slot owed (R214): channel, and frames of the chain so far. -/
  follow : Option (Nat × Nat) := none
  /-- Slot in which the node last gained its channel over another (R223). -/
  gained : Nat := 0
  /-- The copy of the node's context (R378): EUI-64, record byte 11, counter record. -/
  eui : Nat := 0
  b11 : Nat := 0
  ep : Nat := 0
  fc : Nat := 0
  deriving DecidableEq, Repr

/-- A receipt to be sent (R201): channel, profile, fields. -/
structure Rcpt where
  l : Bool
  ch : Nat
  prof : Nat
  addr : Nat
  ctrEcho : Nat
  micEcho : Nat
  status : Nat
  tcorr : Int
  aux : Int
  deriving DecidableEq, Repr

/-- What a downlink frame is (R210). -/
inductive DlKind where
  | update
  | close (reason : Nat)
  | keepAlive
  | notice
  /-- A frame of a datagram (0: not fragmented). -/
  | data (dgram : Nat)
  | joinResp (eui : Nat)
  deriving DecidableEq, Repr

/-- A downlink frame of the link layer until it is confirmed or dropped (R210 to R214). -/
structure DlFrame where
  id : Nat
  kind : DlKind
  dst : Nat
  l : Bool
  /-- The plaintext payload, until the frame is first placed. -/
  payload : Bytes
  /-- The frame as first encrypted; empty before. -/
  psdu : Bytes := []
  fc : Nat := 0
  /-- Times sent that count under R212. -/
  sent : Nat := 0
  /-- Sent in the D slot under way, a node receipt being awaited. -/
  waiting : Bool := false
  /-- Not sent again before this instant (R211), ns. -/
  notBefore : Nat := 0
  /-- Data: the network header byte, the source route below the depth-1 ancestor, the final node's EUI-64 (R246,
  R249); `payload` is then the content. -/
  nh : Option Nat := none
  route : List Nat := []
  eui : Nat := 0
  /-- A join response: its channel, the D slots of its window still to come, the current one among them, and the
  connection it brings (R238, R242). -/
  chan : Nat := 0
  window : Nat := 0
  par : Option ConnPar := none
  deriving DecidableEq, Repr

/-- The mesh link layer beside its registers. -/
structure Ml where
  /-- The 40-bit slot number (R191) and the instant of its boundary, ns. -/
  slot : Nat := 0
  slotAt : Nat := 0
  /-- The pattern in effect (R192). -/
  sfLen : Nat := 4
  sfMap : Nat := 8
  /-- An announced pattern: length, bitmap, activation slot (R193). -/
  next : Option (Nat × Nat × Nat) := none
  conns : Tbl Conn := []
  /-- U slot: places reserved (radio, address), receipts that hold a place, nodes with a frame decided (R280). -/
  reserved : List (Bool × Nat) := []
  places : List Rcpt := []
  decided : List Nat := []
  /-- DEFER receipts owed to the next D slot, oldest first. -/
  owed : List Rcpt := []
  dl : List DlFrame := []
  dlId : Nat := 1
  /-- D slots since the start of mesh service, for `bcn_every` (R210). -/
  dCount : Nat := 0
  /-- Beacons of Radio S moved out of a calibration slot to the following D slot (R181). -/
  bcnMoved : Bool := false
  /-- The D slot under way has been planned. -/
  planned : Bool := false
  /-- What this U slot's record for the Shadow holds (R502): an inner block (true) or a link frame. -/
  recs : List (Bool × TRec) := []
  deriving DecidableEq, Repr

/-! ## Mesh network layer (08_mesh_network) -/

/-- A join or re-attach request that awaits admission (R237, R251). -/
structure JoinReq where
  eui : Nat
  epoch : Nat
  fc : Nat
  caps : Nat
  interval : Nat
  reattach : Bool
  /-- Short address of a re-attaching node; 0 for a joiner. -/
  addr : Nat := 0
  /-- The route record of a relayed request, from the origin's parent upwards; empty for a direct one. -/
  route : List Nat := []
  ch : Nat
  l : Bool
  at_ns : Nat
  /-- D slots of the join window still to come, the current one among them. -/
  window : Nat
  /-- The host has admitted it, with this fixed address or 0 (R265). -/
  approved : Option Nat := none
  deriving DecidableEq, Repr

/-- A join that waits for the host (R243). -/
structure PendJoin where
  token : Nat
  req : JoinReq
  issued : Nat
  deriving DecidableEq, Repr

/-- A circular that waits for its copies to be sent (R256). -/
structure Circ where
  /-- The MESH_CIRC_SEND command it came with; 0: none. -/
  key : Nat
  payload : Bytes
  psdu : Bytes := []
  /-- Copies still to be sent, and channels of the copy under way still to be sent. -/
  left : Nat
  chans : List Nat := []
  deriving DecidableEq, Repr

/-- A relayed uplink whose inner block waits for its check (R248), or a joiner's request carried in it. -/
structure Inner where
  src : Nat
  payload : Bytes
  ch : Nat
  l : Bool
  rssi : Int
  deriving DecidableEq, Repr

/-- A datagram being reassembled (R262). -/
structure Reasm where
  origin : Nat
  tag : Nat
  size : Nat
  started : Nat
  /-- Received pieces: offset and bytes. -/
  parts : List (Nat × Bytes)
  deriving DecidableEq, Repr

structure Mn where
  joins : List JoinReq := []
  pend : List PendJoin := []
  /-- Tokens whose deadline has passed, with the instant each was issued (R265). -/
  past : List (Nat × Nat) := []
  token : Nat := 0
  /-- Postmarks: origin, id, instant of insertion; newest first (R254). -/
  marks : List (Nat × Nat × Nat) := []
  circs : List Circ := []
  circKey : Nat := 0
  /-- Highest root `id` heard as Shadow (R263). -/
  heardId : Option Nat := none
  inner : List Inner := []
  frags : List Reasm := []
  /-- Tag of the next downlink datagram (R262). -/
  dtag : Nat := 0
  dgram : Nat := 0
  deriving DecidableEq, Repr

/-! ## Mesh security (09_mesh_security) -/

/-- The roots of an epoch: vault slots of RK_node and RK_net (R267). -/
structure Roots where
  node : Nat
  net : Nat
  deriving DecidableEq, Repr

/-- A rotation that is pending (R286). -/
structure Rot where
  epoch : Nat
  roots : Roots
  graceH : Nat
  at_slot : Nat
  deriving DecidableEq, Repr

/-- The lease record of MRAM (R283): what it restores at a start. -/
structure LeaseRec where
  epoch : Nat
  roots : Roots
  leaseEnd : Nat
  prev : Option (Nat × Roots) := none
  /-- The grace period ends at this instant, ns. -/
  graceEnd : Nat := 0
  pending : Option Rot := none
  /-- The highest lease end recorded for the peer (R503). -/
  peerEnd : Nat := 0
  deriving DecidableEq, Repr

/-- An entry of the derived-key cache (R271): the key XORed with a mask. -/
structure KeyEnt where
  addr : Nat
  epoch : Nat
  sel : Bool
  x : Bytes
  deriving DecidableEq, Repr

structure Ms where
  /-- The epochs in force, restored from the lease record; none where no epoch is in force (R590). -/
  rec_ : Option LeaseRec := none
  /-- The rotation that waits where no epoch is in force. -/
  first : Option Rot := none
  /-- The downlink counter (R282). -/
  ctr : Nat := 0
  /-- A lease record write has failed and is retried (R283). -/
  retry : Bool := false
  /-- Secured transmission has stopped at `lease_end` (R283), and this has been counted. -/
  stalled : Bool := false
  /-- The downlink warning and exhaustion have been reported in this epoch (R290). -/
  warned : Bool := false
  exhausted : Bool := false
  /-- Derived-key cache, most recently used first. -/
  cache : List KeyEnt := []
  mask0 : Bytes := []
  mask1 : Bytes := []
  maskSel : Bool := false
  /-- Key requests that wait for derivation, in arrival order (R272). -/
  kreq : List (Nat × Nat) := []
  /-- MIC failures of the window, and the last failing address (R281). -/
  micCount : Nat := 0
  micAddr : Nat := 0
  /-- The RTC second at which the window ends. -/
  micEnd : Nat := 60
  /-- Nodes that have been sent an epoch notice in this rotation (R287). -/
  noticed : List Nat := []
  deriving DecidableEq, Repr

/-! ## Key vault (10_key_vault) -/

/-- One stored record of a vault slot (R300). -/
structure KvRec where
  gen : Nat
  empty : Bool
  share : Bytes
  wrapped : Bytes
  policy : Nat
  size : Nat
  auth : Nat
  ctr : Nat
  /-- The record's CRC-32 holds. -/
  crc : Bool := true
  deriving DecidableEq, Repr

/-- The working copy of a slot (R297): two pairs of mask and masked key, and the select bit. -/
structure KvWork where
  policy : Nat
  size : Nat
  auth : Nat
  ctr : Nat
  m0 : Bytes
  x0 : Bytes
  m1 : Bytes
  x1 : Bytes
  sel : Bool
  deriving DecidableEq, Repr

/-- A letter that waits or is in progress (R315), under the key of its DEFERRED command. -/
structure Letter where
  key : Nat
  opcode : Nat
  len : Nat
  data : Bytes
  deriving DecidableEq, Repr

structure Kv where
  work : Tbl KvWork := []
  letters : List Letter := []
  letterKey : Nat := 0
  /-- Slots found lost (R302). -/
  lost : List Nat := []
  ready : Bool := false
  /-- JTAG opened by DEBUG_UNLOCK until the next reset (R305). -/
  unlocked : Bool := false
  remaskAt : Nat := 0
  rewrapAt : Nat := 0
  deriving DecidableEq, Repr

/-- One authority slot of OTP (R303). -/
structure Authority where
  hash : Bytes := []
  programmed : Bool := false
  revoked : Bool := false
  deriving DecidableEq, Repr

/-! ## Postcode tables (13_postcode_tables) -/

/-- A node context (R374). -/
structure Ctx where
  eui : Nat
  addr : Nat := 0
  deny : Bool := false
  relay : Bool := false
  p2 : Bool := false
  p3 : Bool := false
  radioL : Bool := false
  /-- A counter record is present, with its epoch and counter. -/
  rec_ : Bool := false
  ep : Nat := 0
  ctr : Nat := 0
  lastHeard : Nat := 0
  conn : Option Nat := none
  hit : Bool := true
  strike : Bool := false
  deriving DecidableEq, Repr

/-- A node route entry (R375). -/
structure Route where
  parent : Nat
  depth : Nat
  ctx : Nat
  children : Nat := 0
  deriving DecidableEq, Repr

/-- An Ethernet MAC entry (R372); its key is FID × 2^48 + MAC. -/
structure MacEnt where
  dest : Nat
  static_ : Bool := false
  sticky : Bool := false
  discardSrc : Bool := false
  hit : Bool := true
  strike : Bool := false
  deriving DecidableEq, Repr

/-- An IPv6 host or LPM entry (R373). -/
structure IpEnt where
  dest : Nat
  nextHop : Nat
  vlan : Nat
  hit : Bool := true
  deriving DecidableEq, Repr

/-- The placement of a cuckoo table (R370, R384): slot number to key, and the stash. -/
structure Place where
  slots : Tbl Nat := []
  stash : List Nat := []
  deriving DecidableEq, Repr

/-- A learning request (R388): key and destination code learnt. -/
structure Learn where
  key : Nat
  dest : Nat
  deriving DecidableEq, Repr

/-- A context's mirror record in MRAM (R377). -/
structure Mirror where
  eui : Nat
  addr : Nat
  b11 : Nat
  ep : Nat
  ctr : Nat
  deriving DecidableEq, Repr

structure Pt where
  ctx : Tbl Ctx := []
  route : Tbl Route := []
  ident : Tbl Nat := []
  mac : Tbl MacEnt := []
  /-- Key: (1 for IPv4) × 2^128 + address. -/
  host : Tbl IpEnt := []
  /-- Key: ((1 for IPv4) × 256 + length) × 2^128 + prefix. -/
  lpm : Tbl IpEnt := []
  pRoute : Place := {}
  pIdent : Place := {}
  pMac : Place := {}
  pHost : Place := {}
  /-- The seeds of the hashes, drawn at the start (R370). -/
  seed : Nat := 0
  learn : List Learn := []
  /-- Failures since the last learn-failure record. -/
  learnFail : Nat := 0
  /-- Dirty segments: table × 4,096 + segment (R400). -/
  dirty : List Nat := []
  /-- Freed addresses, with the RTC second of each (R240). -/
  freed : List (Nat × Nat) := []
  /-- Freed context numbers, with the instant of each (R376). -/
  freedCtx : List (Nat × Nat) := []
  /-- Next slots of the Round's sweeps. -/
  macPtr : Nat := 0
  nodePtr : Nat := 0
  /-- Entries still to be treated as hit at their first visit after a role change (R402). -/
  macGrace : List Nat := []
  nodeGrace : List Nat := []
  /-- Instants of the last Round visits and of the starts of the sweeps, ns; when the Round stopped (R380). -/
  macAt : Nat := 0
  nodeAt : Nat := 0
  macSweep : Nat := 0
  nodeSweep : Nat := 0
  stopAt : Option Nat := none
  /-- When the last learn-failure record was posted, ns (R389). -/
  failAt : Option Nat := none
  /-- Dumps and flushes accepted and not yet done, by key. -/
  jobs : Tbl (List Nat) := []
  jobKey : Nat := 0
  deriving DecidableEq, Repr

/-! ## Sorters and packet buffer (14_sorter_buffering), queues and shapers (15_shaping) -/

/-- Where a packet entered (R407). -/
inductive Ingress where
  | eth (port : Nat)
  | wifi (client : Nat) (h : Bool)
  | host (ring : Nat)
  | mesh (origin : Nat)
  | ctrl
  deriving DecidableEq, Repr

/-- What a packet's cells are charged to (R417, R425): a headroom names its port and unit. -/
inductive Charge where
  | none
  | shared
  | headroom (port unit : Nat)
  | control
  deriving DecidableEq, Repr

/-- A packet in the buffer. -/
structure Packet where
  src : Ingress
  data : Bytes
  cls : Nat := 0
  vid : Nat := 0
  rssi : Int := 0
  /-- `reason` of the receive header, where the host receives it (R475). -/
  reason : Nat := 0
  cells : Nat := 0
  charge : Charge := .none
  /-- The flow-control unit whose usage it counts in (R432): port and unit. -/
  unit : Option (Nat × Nat) := Option.none
  spilled : Bool := false
  /-- The datagram a mesh fragment belongs to; 0: none. -/
  dgram : Nat := 0
  /-- The PKT_TX command it answers, and the destination code of a direct one. -/
  key : Option Nat := Option.none
  direct : Option Nat := Option.none
  /-- It ended with an FCS error, or as a runt or too long (R415). -/
  bad : Bool := false
  /-- The BSS a Wi-Fi management frame came through. -/
  bss : Option Nat := Option.none
  /-- It may not take cut-through: injection held it (R559). -/
  noCt : Bool := false
  deriving DecidableEq, Repr

/-! ## Radios L and H (11_radios_l_h) and Wi-Fi access (12_wifi_access) -/

/-- What a PPDU is (R339, R341, R348 to R350, R367). -/
inductive PpduKind where
  | beacon | csa | su | ofdma | muMimo | basic | bsrp | sounding | mgmt | deauth | answer
  deriving DecidableEq, Repr

/-- One MPDU of a PPDU: the client, its TID, the key it was encrypted with and its PN, and the packet it carries. -/
structure Mpdu where
  client : Nat
  tid : Nat
  keyId : Option Nat
  pn : Nat
  pkt : Packet
  deriving DecidableEq, Repr

/-- A PPDU that waits for its pin sequence, or is on air. -/
structure Ppdu where
  kind : PpduKind
  users : List Nat := []
  mpdus : List Mpdu := []
  data : Bytes := []
  /-- Duration, ns. -/
  dur : Nat
  /-- The WLN_MGMT_TX command it answers, and whether that waits for the acknowledgement. -/
  key : Option Nat := none
  wait : Bool := false
  /-- Its TXOP has been granted already; it is a response to a received PPDU; it is for access category VO. -/
  granted : Bool := false
  resp : Bool := false
  vo : Bool := false
  deriving DecidableEq, Repr

/-- A transmission on air on L or H. -/
inductive LhTx where
  | wifi (p : Ppdu) (start : Nat)
  | mesh (cs : List Carrier) (start : Nat)
  deriving DecidableEq, Repr

/-- Radio L or H beside its registers. -/
structure Radio where
  /-- PPDUs that wait, first first. -/
  queue : List Ppdu := []
  tx : Option LhTx := none
  /-- When the calibration under way began, ns. -/
  calAt : Nat := 0
  /-- A calibration that waits: 0 none, 1 channel, 2 full. -/
  held : Nat := 0
  /-- The calibration under way repeats one that failed (R332). -/
  repeated : Bool := false
  /-- The radio stopped after a second failure (R332). -/
  stopped : Bool := false
  /-- The radio is being switched on and passes its full calibration (R59). -/
  switching : Bool := false
  /-- The last tracking cycle: its instant and temperature (R331). -/
  trackAt : Nat := 0
  trackTemp : Int := 0
  /-- Levels of PA_EN, PA_MODE and H_TRSW. -/
  paEn : Nat := 0
  paMode : Nat := 0
  trsw : Nat := 0
  /-- A channel switch under way: the new word, the puncturing bitmap, and 0 while its calibration runs, else 1 more
  than the CSA beacons left (R367). -/
  switch : Option (Word × Nat × Nat) := none
  /-- The puncturing bitmap in use. -/
  punct : Nat := 0
  /-- When the next BSRP trigger and the next sounding are due, ns (R349, R350). -/
  bsrpAt : Nat := 0
  soundAt : Nat := 0
  deriving DecidableEq, Repr

structure Lh where
  l : Radio := {}
  h : Radio := {}
  /-- Mesh carriers that Courier L is to send: their instant and the carriers. -/
  mesh : Option (Nat × List Carrier) := none
  coxaReq : Bool := false
  coxaPri : Bool := false
  /-- The reserved interval under way ends at this instant (R328), ns; its mesh carriers are refused (R334, R336). -/
  ivlEnd : Option Nat := none
  ivlDenied : Bool := false
  deriving DecidableEq, Repr

/-- A BSS (R363), by radio (0 L, 1 H) × 16 + index. -/
structure Bss where
  mld : Nat
  bssid : Nat
  ssid : Bytes
  flags : Nat
  bcnInt : Nat
  dtim : Nat
  cipher : Nat
  maxClients : Nat
  /-- Its next TBTT, ns (BSS 0). -/
  tbtt : Nat := 0
  deriving DecidableEq, Repr

/-- A link context (R342). -/
structure WLink where
  addr : Nat
  bss : Nat
  rssi : Option Int := none
  /-- When the last frame was received on it, ns. -/
  heard : Option Nat := none
  /-- Airtime deficits downlink and uplink, ns (R348, R350). -/
  dl : Int := 0
  ul : Int := 0
  /-- Buffer the client has reported, bytes; triggers it has missed in a row; removed from Basic triggers (R351). -/
  buf : Nat := 0
  missed : Nat := 0
  out : Bool := false
  /-- The TWT service period under way ends at this instant, ns. -/
  sp : Option Nat := none
  deriving DecidableEq, Repr

/-- A TWT agreement (R354): radio (true H), wake interval and duration in µs, its next service period in ns. -/
structure Twt where
  h : Bool
  interval : Nat
  dur : Nat
  start : Nat
  trigger : Bool
  announced : Bool
  broadcast : Bool
  deriving DecidableEq, Repr

/-- A Wi-Fi client (R342, R364). -/
structure Client where
  mld : Nat
  links : Nat
  l : Option WLink := none
  h : Option WLink := none
  caps : Nat
  flags : Nat
  /-- Asleep in power save. -/
  asleep : Bool := false
  /-- Consecutive PPDUs not acknowledged; the client-unreachable event is due or has been posted (R344). -/
  unacked : Nat := 0
  told : Bool := false
  /-- When its last channel report was made, ns (R349). -/
  report : Option Nat := none
  twts : List Twt := []
  /-- MPDUs in retry, oldest first (R346). -/
  retry : List Mpdu := []
  deriving DecidableEq, Repr

/-- A Wi-Fi key (R365). -/
structure WKey where
  target : Nat
  kind : Nat
  id : Nat
  cipher : Nat
  txUse : Bool
  key : Bytes
  /-- Next transmit PN, the end of its lease, the PN it was installed with (R359). -/
  pn : Nat
  lease : Nat
  start : Nat
  stalled : Bool := false
  /-- Highest PN heard from the Lead (R360). -/
  heard : Nat := 0
  /-- Highest PN received, by TID; 16: management frames (R358). -/
  rx : Tbl Nat := []
  deriving DecidableEq, Repr

/-- A record of a key's transmit lease in MRAM (R359). -/
structure PnRec where
  target : Nat
  kind : Nat
  id : Nat
  leaseEnd : Nat
  deriving DecidableEq, Repr

structure Wl where
  bss : Tbl Bss := []
  clients : Tbl Client := []
  keys : List WKey := []
  mgmtKey : Nat := 0
  deriving DecidableEq, Repr

/-- A VLAN record (R438). -/
structure Vlan where
  fid : Nat
  eth0 : Bool
  eth1 : Bool
  host : Bool
  routeEn : Bool
  untag0 : Bool
  untag1 : Bool
  ring : Nat
  bssL : Nat
  bssH : Nat
  deriving DecidableEq, Repr

structure Sr where
  vlans : Tbl Vlan := []
  /-- Packets waiting at the Sorters' inputs, in order of arrival: Sorter and packet. -/
  input : List (Nat × Packet) := []
  /-- A cut-through frame under way at an Ethernet egress, by port. -/
  cutting : Tbl Packet := []
  /-- When a received pause of (port × 8 + class) runs out, ns (R434). -/
  paused : Tbl Nat := []
  /-- When XOFF of (port × 8 + unit) was last sent, ns (R432). -/
  xoff : Tbl Nat := []
  /-- Cells in use of the control reserve. -/
  ctrl : Nat := 0
  deriving DecidableEq, Repr

/-- A queue of R439. -/
structure Queue where
  cls : Nat := 0
  weight : Nat := 1
  shaper : Option Nat := none
  deficit : Int := 0
  pkts : List Packet := []
  /-- Class and weight that apply when the queue next joins its round (R459). -/
  next : Option (Nat × Nat) := none
  deriving DecidableEq, Repr

/-- The parameters of a shaper (R458). -/
structure ShpPar where
  en : Bool := false
  /-- 0: 1 µs, 1: 8 µs, 2: 64 µs, 3: 512 µs. -/
  period : Nat := 0
  overhead : Int := 0
  inc : Nat := 0
  burst : Nat := 0
  idleCap : Nat := 0
  deriving DecidableEq, Repr

/-- A shaper (R447); `tokens` in 1/256 byte. -/
structure Shaper where
  par : ShpPar := {}
  tokens : Int := 0
  pkts : Nat := 0
  bytes : Nat := 0
  /-- A record that applies at the next refill, with its `reset` (R451). -/
  pend : Option (ShpPar × Nat) := none
  /-- The instant of the next refill, ns. -/
  at_ns : Nat := 0
  deriving DecidableEq, Repr

structure Qm where
  /-- Airtime buckets: tokens in ns (R453). -/
  air : Tbl Int := []
  queues : Tbl Queue := []
  shapers : Tbl Shaper := []
  /-- Deficit of each class of an egress point, by egress × 8 + class (R442). -/
  clsDef : Tbl Int := []
  /-- The class round of an egress point: the class being served. -/
  clsAt : Tbl Nat := []
  /-- The round of queues of (egress × 8 + class), head first (R443). -/
  rounds : Tbl (List Nat) := []
  /-- Base-length bytes dequeued at (egress × 8 + class) that `QMS_TX_BYTES` does not show yet, below 64 (R456). -/
  txRem : Tbl Nat := []
  deriving DecidableEq, Repr
/-- The twin link's state (R501). -/
inductive TwinLink where
  | down | training | up
  deriving DecidableEq, Repr

/-- A frame a Shadow has checked and not yet confirmed (R499). -/
structure ShadowFrame where
  slot : Nat
  addr : Nat
  ctr : Nat
  epoch : Nat
  micEcho : Nat
  /-- The Lead's receipt for it was heard. -/
  heard : Bool := false
  at_ns : Nat
  deriving DecidableEq, Repr

/-- Twin pairing beside its registers (17_twin). -/
structure Tw where
  role : Role := .solo
  /-- The claim driven on CLAIM_OUT (R492). -/
  claim : Nat := 0
  /-- Synchronised CLAIM_IN. -/
  claimIn : Nat := 0
  /-- The output gate is open (R495). -/
  gate : Bool := false
  /-- When one of the two claims last changed, ns. -/
  changedAt : Nat := 0
  preferred : Bool := false
  /-- A hold is in force; it has cleared serviceable (R513). -/
  hold : Bool := false
  holdClr : Bool := false
  /-- When the hold command was accepted on a Lead, ns. -/
  holdAt : Option Nat := none
  /-- Serviceable has been 1 since, ns (R493, R509). -/
  servSince : Option Nat := none
  /-- The recovery window is open (R509). -/
  window : Bool := false
  /-- The peer's alive bit has been 0 since, ns; the peer has been seen alive. -/
  peerDeadAt : Option Nat := some 0
  peerSeen : Bool := false
  /-- The peer's last HELLO announced a planned absence (R512). -/
  absent : Bool := false
  /-- This unit announces a planned absence. -/
  absence : Bool := false
  link : TwinLink := .down
  linkDownAt : Nat := 0
  /-- The last valid message arrived at, ns. -/
  lastMsg : Nat := 0
  session : Nat := 0
  peerSession : Option Nat := none
  txSeq : Nat := 0
  rxSeq : Nat := 0
  /-- The peer has accepted our HELLO, as its HELLO shows. -/
  peerHeard : Bool := false
  peerMode : Nat := 0xFF
  /-- The peer's last STATUS. -/
  peerStatus : Bytes := []
  /-- A revert or a hand-over is prepared for this slot: REVERT has been sent (R508, R512). -/
  revertSlot : Option Nat := none
  /-- A REVERT received: nothing of L and H may end after 24.500 ms of this slot. -/
  peerRevert : Option Nat := none
  /-- A Dusk hand-over is in its step 2 since (R512). -/
  duskWait : Option Nat := none
  dusk : Bool := false
  /-- A LEASE sent and not yet acknowledged: epoch and end; when last sent (R504). -/
  leaseOut : Option (Nat × Nat) := none
  leaseAt : Nat := 0
  /-- The lease that waits was granted while Solo, and may be used already (R504). -/
  leaseFree : Bool := false
  /-- A first LEASE or Lead frame has fixed `peer_end` since the start (R505). -/
  peerFixed : Bool := false
  /-- Frames waiting for confirmation (R499), and the slots whose SLOT_REC has arrived. -/
  shadow : List ShadowFrame := []
  recSlot : Option Nat := none
  alignedAt : Option Nat := none
  /-- The next boundary adopts this slot number (R500). -/
  adopt : Option Nat := none
  /-- The slot in which this unit took the lead: it sends nothing in it (R507). -/
  tookSlot : Option Nat := none
  /-- The slot record of this U slot has been sent. -/
  recSent : Bool := false
  /-- A second claim fault has come inside the recovery window, with a serviceable peer: the device stands down
  (R509). -/
  standDue : Bool := false
  /-- The last change of the two claims was a rise of this unit's own. -/
  ownRose : Bool := false
  deriving DecidableEq, Repr
/-! ## Firmware images (18_update_rescue) -/

/-- One set's entry of a directory copy (R517): the state code, `svn`, `fw_version`, `tries`. -/
structure SetEnt where
  state : Nat := 0
  svn : Nat := 0
  fw : Nat := 0
  tries : Nat := 0
  deriving DecidableEq, Repr

/-- A directory copy (R517); `boot` is true for set B. -/
structure Dir where
  seq : Nat
  boot : Bool
  a : SetEnt
  b : SetEnt
  deriving DecidableEq, Repr

/-- How far an activation has come (R523, R525): Triplicate's update waits for a slot boundary; the pause waits
for a slot boundary; the pause; the previous set is being reloaded, with the status of the failure. -/
inductive ActPhase where
  | update | ready | pause | back (status : Nat)
  deriving DecidableEq, Repr

/-- The UPD_STAGE, UPD_VERIFY or UPD_ACTIVATE that runs (R531). -/
inductive UpJob where
  | stage (b : Bool) (off : Nat) (data : Bytes) (erase : Bool)
  | verify (b : Bool)
  | activate (b : Bool) (phase : ActPhase)
  deriving DecidableEq, Repr

structure Up where
  /-- The set that executes; none: the ROM or the Rescue loader. -/
  running : Option Bool := none
  job : Option UpJob := none
  /-- The set that the Full load under way loads, where it is not the running one (R522, R530). -/
  load : Option Bool := none
  /-- The pause start t0 of an activation, ns. -/
  t0 : Nat := 0
  /-- The DRAM copies of sets A and B, loaded since the last reset other than PERST_N and still those of flash. -/
  copyA : Bool := false
  copyB : Bool := false
  /-- When Full was reached with the Trial set, or the last fatal fault was over, ns (R524). -/
  trialAt : Option Nat := none
  deriving DecidableEq, Repr

/-! ## Dusk (19_dusk_selftest) -/

/-- A failure record (R540). -/
structure DskFail where
  inst : Nat
  kind : Nat
  addr : Nat
  bit : Nat
  rep : Bool := false
  soft : Bool := false
  fused : Bool := false
  unrep : Bool := false
  deriving DecidableEq, Repr

/-- A run record (R540, R547). -/
structure DskRun where
  run : Nat
  memOnly : Bool
  thenFull : Bool
  incomplete : Bool := true
  derated : Bool := false
  unrep : Bool := false
  otpFull : Bool := false
  abort : Nat := 0
  nFail : Nat := 0
  startSec : Nat
  durMs : Nat := 0
  done : Nat := 0
  failed : Nat := 0
  peakMw : Nat := 0
  fused : Nat := 0
  fails : List DskFail := []
  deriving DecidableEq, Repr

structure Dk where
  /-- The groups still to run, the one under test first. -/
  groups : List Nat := []
  startAt : Nat := 0
  /-- A service request has ended the run: its cause and instant (R545). -/
  abort : Nat := 0
  abortAt : Nat := 0
  deriving DecidableEq, Repr

/-! ## Faults, log and injection (20_faults_background) -/

/-- A log entry of R552. -/
structure LogEntry where
  seq : Nat
  sec : Nat
  kind : Nat
  source : Nat
  detail : Nat
  mode : Nat
  role : Nat
  gen : Nat
  deriving DecidableEq, Repr

/-- A fault-injection rule (R558). -/
structure FltRule where
  path : Nat
  action : Nat
  rate : Nat
  depth : Nat
  fcsFix : Bool
  limit : Nat
  match_ : Nat
  seed : Nat
  draws : Nat := 0
  done : Nat := 0
  deriving DecidableEq, Repr

/-- A frame held by a reorder rule (R559). -/
structure FltHeld where
  rule : Nat
  depth : Nat
  path : Nat
  ring : Nat
  passed : Nat
  at_ns : Nat
  data : Bytes
  /-- Path 0x4 and 0x5: the packet. -/
  pkt : Option Packet := none
  /-- Path 0x3: the message. -/
  msg : Option TMsg := none
  deriving DecidableEq, Repr

/-- A telemetry sample set (R556): eight temperatures in °C, voltage and current of each rail of R69 (mV, mA), VIN in
mV, power in mW, and the RTC seconds. -/
structure Sample where
  temps : List Int
  rails : List (Nat × Nat)
  vin : Nat
  power : Nat
  sec : Nat
  deriving DecidableEq, Repr

structure Fl where
  /-- When the window closes, ns. -/
  until_ns : Nat := 0
  addrs : List Nat := []
  rules : Tbl FltRule := []
  held : List FltHeld := []
  /-- Newest telemetry sample set. -/
  sample : Option Sample := none
  sampleAt : Nat := 0
  /-- Bits of `TEL_FAULT` whose condition holds now. -/
  live : Nat := 0
  /-- Failed DRAM training attempts in a row (R578). -/
  trainFails : Nat := 0
  deriving DecidableEq, Repr

structure Pn where
  /-- Levels put on the GPIO balls from outside. -/
  gpioExt : Nat := 0
  /-- RESET_N is held low long enough to act (R593). -/
  resetLow : Bool := false
  /-- Two RC oscillators have stopped, and the voted clock has not yet run for 1 ms again (R80). -/
  rcDown : Bool := false
  /-- A rail of R69 is out of range (R70). -/
  railBad : Bool := false
  deriving DecidableEq, Repr

structure Nv where
  /-- Event log, newest first, at most 2,048 (R552). -/
  log : List LogEntry := []
  logSeq : Nat := 0
  snap0 : Option Snap := none
  snap1 : Option Snap := none
  /-- Stored calibration results of Radio S: centre, grid, die temperature (R179). -/
  calS : Option (Nat × Nat × Int) := none
  /-- The lease record (R283) and the recorded root circular `id` (R257). -/
  lease : Option LeaseRec := none
  /-- The device has stood down (R509). -/
  stoodDown : Bool := false
  circId : Option Nat := none
  /-- The context mirror (R377), by context number. -/
  mirror : Tbl Mirror := []
  /-- Vault records: each slot's two, the letter counter record (R300, R312). -/
  vault : Tbl (Option KvRec × Option KvRec) := []
  letterCtr : Nat := 0
  /-- OTP: the four authority slots, the lifecycle code, the unit ID in the byte order of `TOP_UNIT_ID` (R303,
  R305, R44). -/
  auth : Tbl Authority := []
  lifecycle : Nat := 0
  unitId : Bytes := List.replicate 16 0#8
  /-- Transmit PN leases (R359). -/
  pnRecs : List PnRec := []
  /-- The two directory copies, the pages of 256 bytes of the image sets in flash that are not erased, the two copies
  of the rollback floor (R516, R517, R520). -/
  dir0 : Option Dir := none
  dir1 : Option Dir := none
  flashA : Tbl Bytes := []
  flashB : Tbl Bytes := []
  floor0 : Option Nat := some 0
  floor1 : Option Nat := some 0
  /-- The records of the last two Dusk runs, newest first (R540), and the OTP repair area: macro, row or column
  number, column; a void entry is none (R542). -/
  runs : List DskRun := []
  fuses : List (Option DskFail) := []
  /-- Stored full-calibration results of L and H: the channel word they were made for (R330). -/
  calL : Option Word := none
  calH : Option Word := none
  /-- Write counts of the mapped MRAM pages, by page, and the spare pages left (R555). -/
  pageWr : Tbl Nat := []
  spares : Nat := 64
  deriving DecidableEq, Repr

/-! ## The whole state -/

/-- The state of the device.  `pending` is the queue of commands that wait, first in first out; `now` is the
instant of the last event in ns; `free` counts the uses of free values. -/
structure State where
  now : Nat := 0
  pending : List Instr := []
  free : Nat := 0
  io : Io := {}
  pw : Pw := {}
  ck : Ck := {}
  rt : Rtc := {}
  tp : Tp := {}
  rs : Rs := {}
  ml : Ml := {}
  mn : Mn := {}
  ms : Ms := {}
  kv : Kv := {}
  lh : Lh := {}
  wl : Wl := {}
  pt : Pt := {}
  sr : Sr := {}
  qm : Qm := {}
  tw : Tw := {}
  up : Up := {}
  dk : Dk := {}
  fl : Fl := {}
  pn : Pn := {}
  nv : Nv := {}
  deriving DecidableEq, Repr

/-- The device right after RESET_N is released (the Reset column's reset, 00_scope), with VIN present: the staged
start has begun, `TOP_MODE.mode` reads Dawn, and every register holds its reset value.  The values that the spec
does not give are named in notes/assumptions/2.md. -/
def State.reset : State :=
  { io := { regs := [(0x010010, 0x00000004#32)] } }

end Sys2Proof.Machine
end

