-- ==== Sys2Proof/Machine/Ops.lean ====
section
/-!
DEFINITION. Sys2Proof/Machine/Ops.lean: the operations every family shares: the wrapper of a meaning, register
words and fields, read latches, completions, events, MSI-X messages, the event log, faults, free values.
-/

namespace Sys2Proof.Machine

/-! ## The wrapper of a meaning -/

/-- The state at a later instant. -/
def State.at (s : State) (t : Nat) : State := { s with now := max s.now t }

/-- A command's effect: it comes about at `t` and leaves the queue as it is. -/
def run (t : Nat) (s : State) (f : State → State) : Host.Outcome State Fault Refusal :=
  .next { f (s.at t) with pending := s.pending }

/-! ## Blocks and registers -/

/-- A BAR0 block of R38: number in the block order, range, registers. -/
structure Block where
  num : Nat
  lo : Nat
  hi : Nat
  fams : List RegFam

/-- The block map of R38. -/
def blocks : List Block :=
  [ ⟨0, 0x000000, 0x00FFFF, regsTOP⟩, ⟨1, 0x010000, 0x01FFFF, regsPWR⟩, ⟨2, 0x020000, 0x02FFFF, regsCLK⟩,
    ⟨3, 0x030000, 0x03FFFF, regsRTC⟩, ⟨4, 0x040000, 0x04FFFF, regsTPL⟩,
    ⟨5, 0x050000, 0x05FFFF, regsHIF ++ regsMSIX⟩, ⟨6, 0x060000, 0x06FFFF, regsTWN⟩,
    ⟨7, 0x070000, 0x07FFFF, regsKV⟩, ⟨8, 0x080000, 0x08FFFF, regsUPD⟩, ⟨9, 0x090000, 0x09FFFF, regsDSK⟩,
    ⟨10, 0x0A0000, 0x0AFFFF, regsFLT⟩, ⟨11, 0x0B0000, 0x0BFFFF, regsTEL⟩, ⟨12, 0x100000, 0x13FFFF, regsSRX⟩,
    ⟨13, 0x140000, 0x17FFFF, regsMSH⟩, ⟨14, 0x180000, 0x1BFFFF, regsLRX⟩, ⟨15, 0x1C0000, 0x1FFFFF, regsHRX⟩,
    ⟨16, 0x200000, 0x2FFFFF, regsWLN⟩, ⟨17, 0x300000, 0x33FFFF, regsPCT⟩, ⟨18, 0x340000, 0x37FFFF, regsSRT⟩,
    ⟨19, 0x380000, 0x3FFFFF, regsQMS⟩, ⟨20, 0x400000, 0x43FFFF, regsETH⟩, ⟨21, 0x440000, 0x47FFFF, regsCOX⟩,
    ⟨22, 0x480000, 0x4BFFFF, regsGPI⟩ ]

/-- An offset outside the `HIF_` block: no completion, event or message writes a register there. -/
def offHif (off : Nat) : Prop := off < 0x050000 ∨ 0x060000 ≤ off

/-- The block an offset lies in. -/
def blockOf (off : Nat) : Option Block := blocks.find? fun b => decide (b.lo ≤ off) && decide (off ≤ b.hi)

/-- An offset is one of the registers of a family. -/
def RegFam.hit (f : RegFam) (off : Nat) : Bool :=
  decide (f.base ≤ off) &&
    let d := off - f.base
    decide (d / f.s1 < f.n1) && decide (d % f.s1 / f.s2 < f.n2) && decide (d % f.s1 % f.s2 = 0)

/-- The register defined at an offset, if one is (R6). -/
def famOf (off : Nat) : Option RegFam := (blockOf off).bind fun b => b.fams.find? (·.hit off)

/-- The reset value of the register at an offset; 0 where none is defined (R6). -/
def regReset (off : Nat) : Word :=
  match famOf off with
  | some f => BitVec.ofNat 32 f.reset
  | none => 0#32

/-- Put a value into bits `[hi:lo]` of a word. -/
def setBits (w : Word) (hi lo v : Nat) : Word :=
  let m : Word := BitVec.ofNat 32 ((2 ^ (hi + 1 - lo) - 1) * 2 ^ lo)
  (w &&& ~~~m) ||| (BitVec.ofNat 32 (v % 2 ^ (hi + 1 - lo) * 2 ^ lo) &&& m)

/-- The width of a field in bits. -/
def Fld.width (f : Fld) : Nat := f.hi + 1 - f.lo

/-- A field of a word. -/
def Fld.of (f : Fld) (w : Word) : Nat := bitsN w.toNat f.hi f.lo

def Io.word (io : Io) (off : Nat) : Word := Tbl.getD io.regs off (regReset off)
def Io.setWord (io : Io) (off : Nat) (w : Word) : Io :=
  { io with regs := Tbl.putDef io.regs off w (regReset off) }
def Io.fld (io : Io) (f : Fld) : Nat := f.of (io.word f.off)
def Io.setFld (io : Io) (f : Fld) (v : Nat) : Io := io.setWord f.off (setBits (io.word f.off) f.hi f.lo v)
/-- The word in effect of a register with RW-L fields (R11). -/
def Io.eWord (io : Io) (off : Nat) : Word := Tbl.getD io.eff off (regReset off)
def Io.setEWord (io : Io) (off : Nat) (w : Word) : Io :=
  { io with eff := Tbl.putDef io.eff off w (regReset off) }
def Io.eFld (io : Io) (f : Fld) : Nat := f.of (io.eWord f.off)
/-- Add to a counter that saturates at its maximum. -/
def Io.count (io : Io) (f : Fld) (n : Nat) : Io := io.setFld f (min (io.fld f + n) (2 ^ f.width - 1))
/-- The RW-L boundary of a register: what was last written takes effect (R11). -/
def Io.latchReg (io : Io) (off : Nat) : Io :=
  match famOf off with
  | some f =>
    let m : Word := BitVec.ofNat 32 f.rwl
    io.setEWord off ((io.eWord off &&& ~~~m) ||| (io.word off &&& m))
  | none => io
/-- The RW-L boundary of one field. -/
def Io.latchFld (io : Io) (f : Fld) : Io := io.setEWord f.off (setBits (io.eWord f.off) f.hi f.lo (io.fld f))
/-- The RW-L boundary of several registers. -/
def Io.latchRegs (io : Io) : List Nat → Io
  | [] => io
  | o :: os => (io.latchReg o).latchRegs os

def State.word (s : State) (off : Nat) : Word := s.io.word off
def State.setWord (s : State) (off : Nat) (w : Word) : State := { s with io := s.io.setWord off w }
def State.fld (s : State) (f : Fld) : Nat := s.io.fld f
def State.flag (s : State) (f : Fld) : Bool := s.io.fld f != 0
def State.setFld (s : State) (f : Fld) (v : Nat) : State := { s with io := s.io.setFld f v }
def State.eFld (s : State) (f : Fld) : Nat := s.io.eFld f
def State.eFlag (s : State) (f : Fld) : Bool := s.io.eFld f != 0
def State.count (s : State) (f : Fld) (n : Nat := 1) : State := { s with io := s.io.count f n }
/-- Add 1 to a counter that counts modulo its width. -/
def State.countMod (s : State) (f : Fld) : State := s.setFld f (s.fld f + 1)
def State.latchRegs (s : State) (l : List Nat) : State := { s with io := s.io.latchRegs l }
def State.latchFld (s : State) (f : Fld) : State := { s with io := s.io.latchFld f }
def State.put (s : State) (o : Out) : State := { s with io := { s.io with out := o :: s.io.out } }
/-- Apply `f` where `b` holds. -/
def State.when (s : State) (b : Bool) (f : State → State) : State := if b then f s else s
/-- Apply a function for each element of a list, in order. -/
def State.each {α : Type} (s : State) : List α → (State → α → State) → State
  | [], _ => s
  | a :: as, f => (f s a).each as f

/-- A value the spec leaves open, `w` bits. -/
def State.freeVal (s : State) (w : Nat) : Nat := (Config.freeBits w s.free).toNat
/-- The state after a free value is used. -/
def State.useFree (s : State) : State := { s with free := s.free + 1 }

/-! ## Completion rings (16_host_rings) -/

/-- The device may write host memory: the host is not lost (R482) and the link is up. -/
def Io.hostOk (io : Io) : Bool :=
  io.hf.lost.isNone && io.hf.busMaster && io.fld F.HIF_STAT_link_up != 0

def Io.cqActive (io : Io) (n : Nat) : Bool := io.fld (F.HIF_CQ_ERR_active n) != 0
def Io.cqSize (io : Io) (n : Nat) : Nat := 2 ^ io.fld (F.HIF_CQ_CFG_size_log2 n)
def Io.sqSize (io : Io) (n : Nat) : Nat := 2 ^ io.fld (F.HIF_SQ_CFG_size_log2 n)
/-- The ring is full: (tail + 1) mod size equals head (R464). -/
def Io.cqFull (io : Io) (n : Nat) : Bool :=
  (io.fld (F.HIF_CQ_STAT_tail n) + 1) % io.cqSize n == io.fld (F.HIF_CQ_STAT_head n)
def Io.cqBase (io : Io) (n : Nat) : Nat :=
  (io.word (F.HIF_CQ_BASE_HI_base n).off).toNat * 2 ^ 32 + (io.word (F.HIF_CQ_BASE_LO_base n).off).toNat
def Io.put (io : Io) (o : Out) : Io := { io with out := o :: io.out }

/-- Raise an MSI-X vector: a masked one sets its PBA bit (R484). -/
def Io.raiseVector (io : Io) (v : Nat) : Io :=
  if io.fld (F.MSIX_CTRL_mask v) != 0 then
    let o := (F.MSIX_PBA_pend (v / 32)).off
    io.setWord o (io.word o ||| BitVec.ofNat 32 (2 ^ (v % 32)))
  else
    io.put (.msix v
      ((io.word (F.MSIX_ADDR_HI_addr v).off).toNat * 2 ^ 32 + (io.word (F.MSIX_ADDR_LO_addr v).off).toNat)
      (io.fld (F.MSIX_DATA_data v)))

/-- Raise a completion ring's vector and start its coalescing anew; `vector` takes effect at the message (R484). -/
def Io.ringMessage (io : Io) (n : Nat) : Io :=
  let io := io.latchReg (F.HIF_CQ_CFG_vector n).off
  let io := { io with hf := { io.hf with coal := Tbl.del io.hf.coal n } }
  io.raiseVector (io.eFld (F.HIF_CQ_CFG_vector n))

/-- Account for one written entry under the coalescing rules of R484. -/
def Io.coalesce (io : Io) (now n : Nat) : Io :=
  let io := io.latchReg (F.HIF_CQ_COAL_coal_us n).off
  let c := Tbl.getD io.hf.coal n {}
  if io.eFld (F.HIF_CQ_COAL_coal_us n) == 0 || c.count + 1 ≥ max 1 (io.eFld (F.HIF_CQ_COAL_coal_count n)) then
    io.ringMessage n
  else
    let c' : Coal := { count := c.count + 1, first := if c.count = 0 then now else c.first }
    { io with hf := { io.hf with coal := Tbl.put io.hf.coal n c' } }

/-- Write one entry of `body` bytes, whose last byte holds the phase bit, and advance the tail (R464, R465). -/
def Io.writeEntry (io : Io) (now n : Nat) (body : Bytes) : Io :=
  let tail := io.fld (F.HIF_CQ_STAT_tail n)
  let phase := io.fld (F.HIF_CQ_ERR_phase n)
  let entry := body ++ [BitVec.ofNat 8 phase]
  let io := io.put (.dma (io.cqBase n + tail * entry.length) entry)
  let tail' := (tail + 1) % io.cqSize n
  let io := io.setFld (F.HIF_CQ_STAT_tail n) tail'
  let io := if tail' = 0 then io.setFld (F.HIF_CQ_ERR_phase n) (1 - phase) else io
  io.coalesce now n

/-- Bytes 0 to 14 of a completion (R468); `sq_head` is the head at the moment of the write. -/
def Cpl.bytes (c : Cpl) (sqHead : Nat) : Bytes :=
  toLE 4 c.tag ++ toLE 2 sqHead ++ toLE 1 c.sq ++ toLE 1 c.status ++ toLE 4 c.result ++ toLE 1 c.gen ++
    toLE 1 (c.final.toNat + 2 * c.rx.toNat) ++ toLE 1 0

/-- The completion can be written to its ring now. -/
def Io.cqReady (io : Io) (n : Nat) : Bool := io.cqActive n && !io.cqFull n

/-- Post a completion: write it, or hold it while its ring is full or not active (R466).  Nothing is written
while the host is lost (R482). -/
def Io.complete (io : Io) (now : Nat) (c : Cpl) : Io :=
  if !io.hostOk then io
  else
    let n := io.fld (F.HIF_SQ_CFG_cq c.sq)
    if io.cqReady n && io.hf.cqHeld.all (fun p => p.1 != n) then
      io.writeEntry now n (c.bytes (io.fld (F.HIF_SQ_STAT_head c.sq)))
    else { io with hf := { io.hf with cqHeld := io.hf.cqHeld ++ [(n, c)] } }

/-- Write the held completions of a ring while it has room. -/
def Io.flushHeld (io : Io) (now n : Nat) : List (Nat × Cpl) → Io
  | [] => io
  | p :: ps =>
    if p.1 = n && io.cqReady n && io.hostOk then
      let io := { io with hf := { io.hf with cqHeld := io.hf.cqHeld.erase p } }
      (io.writeEntry now n (p.2.bytes (io.fld (F.HIF_SQ_STAT_head p.2.sq)))).flushHeld now n ps
    else io.flushHeld now n ps

/-! ## The event ring -/

/-- The active completion ring set as the event ring, if any (R463). -/
def Io.eventRing (io : Io) : Option Nat :=
  (List.range 64).find? fun n => io.fld (F.HIF_CQ_CFG_event n) != 0 && io.cqActive n

/-- Bytes 0 to 30 of an event (R476), with the count of dropped events it carries. -/
def Ev.bytes (e : Ev) (lost : Nat) : Bytes :=
  toLE 1 e.type ++ toLE 1 (min 255 lost) ++ toLE 2 e.seq ++ toLE 1 e.gen ++ toLE 3 0 ++ Bytes.slice e.body 0 23

/-- Write held events in order while the event ring has room (R477). -/
def Io.drain (io : Io) (now : Nat) (ok : Bool) : List Ev → Io
  | [] => io
  | e :: es =>
    match io.eventRing with
    | some n =>
      -- the generation event of a discard follows every DISCARDED completion of it (R478)
      let waits := e.type == 0x02 && io.hf.cqHeld.any fun p => p.2.status == 0x02
      if ok && io.hostOk && io.cqReady n && !waits then
        let lost := io.hf.evLost
        let io := { io with hf := { io.hf with evHeld := io.hf.evHeld.tail, evLost := 0 } }
        (io.writeEntry now n (e.bytes lost)).drain now ok es
      else io
    | none => io

/-- An event arises: it takes its `seq`, and is posted or held; it is dropped when 256 are held (R476, R477).
WAKE_N and PME_Status are asserted while the function is in D3hot, the link in L2 or PERST_N asserted (R462). -/
def Io.event (io : Io) (now : Nat) (ok : Bool) (type : Nat) (body : Bytes) : Io :=
  let h := io.hf
  let wake : Bool := h.perst || h.l2 || io.fld F.HIF_STAT_dstate == 3
  let h := { h with wakeN := h.wakeN || wake, pme := h.pme || wake }
  let e : Ev := { type := type, seq := h.evSeq, gen := io.fld F.HIF_GEN_gen, body := body }
  let h := { h with evSeq := (h.evSeq + 1) % 65536 }
  if h.evHeld.length < 256 then
    let io := { io with hf := { h with evHeld := h.evHeld ++ [e] } }
    io.drain now ok io.hf.evHeld
  else
    ({ io with hf := { h with evLost := h.evLost + 1 } }).count F.HIF_EVT_CNT_lost 1

/-- Events are posted in Doze, Dawn and Full (R477). -/
def State.evOk (s : State) : Bool := s.pw.mode == .doze || s.pw.mode == .dawn || s.pw.mode == .full

def State.event (s : State) (type : Nat) (body : Bytes) : State :=
  { s with io := s.io.event s.now s.evOk type body }
/-- Post what events are held, as far as the ring allows. -/
def State.drainEvents (s : State) : State := { s with io := s.io.drain s.now s.evOk s.io.hf.evHeld }
def State.complete (s : State) (c : Cpl) : State := { s with io := s.io.complete s.now c }

/-! ## The event log and faults (20_faults_background) -/

/-- The sequence number after `n` (R552): 0 and 0xFFFF_FFFF are never used. -/
def nextLogSeq (n : Nat) : Nat := if n ≥ 0xFFFFFFFE then 1 else n + 1

/-- Write an event-log entry (R552, R596).  `detail` is the little-endian value of its bytes 12 to 15. -/
def State.log (s : State) (kind source detail : Nat) : State :=
  let q := nextLogSeq s.nv.logSeq
  let e : LogEntry :=
    { seq := q, sec := s.rt.sec, kind := kind, source := source, detail := detail, mode := s.pw.mode.code,
      role := s.tw.role.code, gen := s.fld F.HIF_GEN_gen }
  { s with nv := { s.nv with log := (e :: s.nv.log).take 2048, logSeq := q } }

/-- Log a fault of class 0x2 to 0x7 and post its event (R549, R551). -/
def State.faultEv (s : State) (cls source detail : Nat) : State :=
  let s := s.log cls source detail
  s.event 0x09 (toLE 1 cls ++ toLE 1 source ++ toLE 4 detail ++ toLE 4 s.nv.logSeq)

/-- FAULT_N is asserted while any bit of `TEL_FAULT` is 1 (R551). -/
def State.faultN (s : State) : Bool := s.word 0x0B0004 != 0#32

/-- An MRAM record write failed its retry: a class 0x6 fault (R549). -/
def State.mramFault (s : State) (source detail : Nat) : State :=
  (s.setFld F.TEL_FAULT_mram 1).faultEv 0x6 source detail

/-! ## Roles, claims, time -/

/-- The mode is Full, and the PLL-fed domains run (R94). -/
def State.inFull (s : State) : Bool := s.pw.mode == .full && !s.ck.refFailed

/-- Courier S and Franking are clocked: from PLL_A (R588). -/
def State.pllA (s : State) : Bool := !s.ck.refFailed && s.flag F.CLK_STAT_a_lock

/-- The device transmits: Lead or Solo, with its output stages enabled. -/
def State.isShadow (s : State) : Bool := s.tw.role == .shadow

/-- The device only listens: it is Shadow, or took the lead in this slot (R507). -/
def State.listens (s : State) : Bool := s.isShadow || s.tw.tookSlot == some s.ml.slot

/-- Send a twin link message (R501, R502): while the link is up, and a HELLO while it trains. -/
def State.twinSend (s : State) (type : Nat) (body : Bytes) : State :=
  if s.tw.link == .up || (s.tw.link == .training && type == 1) then
    let q := s.tw.txSeq + 1
    ({ s with tw := { s.tw with txSeq := q } }).put (.twin type q body)
  else s

/-- Send the LEASE that waits for its acknowledgement (R504). -/
def State.sendLease (s : State) : State :=
  match s.tw.leaseOut with
  | some (e, n) => ({ s with tw := { s.tw with leaseAt := s.now } }).twinSend 4 (toLE 1 e ++ toLE 5 n)
  | none => s

/-- RTC time in 1/32,768 s. -/
def State.rtc (s : State) : Int := (s.rt.sec * 32768 + s.rt.frac : Nat)

/-- Add a delta to every anchor time of the connection table (R106). -/
def Ml.shiftAnchors (m : Ml) (d : Int) : Ml :=
  { m with conns := m.conns.map fun p => (p.1, { p.2 with anchorRtc := p.2.anchorRtc + d }) }

/-- A duration in seconds as ns. -/
def secNs (n : Nat) : Nat := n * 1000000000
/-- A duration in milliseconds as ns. -/
def msNs (n : Nat) : Nat := n * 1000000
/-- A duration in microseconds as ns. -/
def usNs (n : Nat) : Nat := n * 1000

/-- A value clamped to a range ("values outside act as the nearer limit"). -/
def clamp (lo hi v : Nat) : Nat := max lo (min hi v)

end Sys2Proof.Machine
end

