-- ==== Sys2Proof/Machine/OpPoint.lean ====
section
/-!
DEFINITION. Sys2Proof/Machine/OpPoint.lean: the operating point (03_clocks, R84 to R88): the effective point, its
sequences and the thermal cap.
-/

namespace Sys2Proof.Machine

/-- VCORE of a point in mV (R84). -/
def vcoreOf : Nat → Nat
  | 0 => 600 | 1 => 700 | 2 => 800 | _ => 880

/-- The mode limit (R88). -/
def State.modeLimit (s : State) : Nat :=
  match s.pw.mode with
  | .full => 3
  | .dusk => min 3 s.ck.duskPoint
  | _ => 0

/-- The effective point: the lowest of target, mode limit and thermal cap. -/
def State.effPoint (s : State) : Nat :=
  min (s.eFld F.CLK_OP_CFG_target) (min s.modeLimit (s.fld F.CLK_OP_STAT_cap))

/-- What sets the effective point. -/
def State.limitSrc (s : State) : Nat :=
  let t := s.eFld F.CLK_OP_CFG_target
  let cap := s.fld F.CLK_OP_STAT_cap
  if t ≤ s.modeLimit ∧ t ≤ cap then 0 else if cap ≤ s.modeLimit then 2 else 1

/-- One of the values of R88 has changed: unless a sequence runs, the target written takes effect and a sequence starts
where the effective point differs.  A downward step switches the dividers at its start (R86). -/
def State.opStart (s : State) : State :=
  if s.ck.seqTo.isSome then s.setFld F.CLK_OP_STAT_limit_src s.limitSrc
  else
    let s := s.latchFld F.CLK_OP_CFG_target
    let s := s.setFld F.CLK_OP_STAT_limit_src s.limitSrc
    let p := s.effPoint
    let op := s.fld F.CLK_OP_STAT_op
    if p = op then s
    else
      let s : State := { s with ck := { s.ck with seqTo := some p } }
      let s := s.setFld F.CLK_OP_STAT_busy 1
      if op < p then s else s.setFld F.CLK_OP_STAT_op p

/-- The sequence that runs completes (R85, R86). -/
def State.opDone (s : State) : State :=
  match s.ck.seqTo with
  | none => s
  | some p =>
    let s : State := { s with ck := { s.ck with seqTo := none, vcore := vcoreOf p } }
    ((s.setFld F.CLK_OP_STAT_op p).setFld F.CLK_OP_STAT_busy 0).countMod F.CLK_OP_STAT_changes

/-- On a move from Full to Dawn the sequencer reaches OP0 before Dawn service takes the mesh (R88). -/
def State.opToZero (s : State) : State :=
  let s := s.opDone
  if s.fld F.CLK_OP_STAT_op = 0 then s
  else
    let s : State := { s with ck := { s.ck with vcore := vcoreOf 0 } }
    (s.setFld F.CLK_OP_STAT_op 0).countMod F.CLK_OP_STAT_changes

/-- The thermal cap at a junction temperature (R88): it falls at once, and rises by one point 5 °C below the threshold
that set it. -/
def capNext (cap : Nat) (temp : Int) : Nat :=
  if 120 ≤ temp then min cap 1
  else if 115 < temp then min cap 2
  else
    let c := max 2 cap
    if temp ≤ 110 then 3 else if 115 ≤ temp then min c 2 else c

/-- OP_STEP_DONE: the sequence ends, and the last target written starts another where it differs (R87). -/
def State.opStepDone (s : State) : State := if s.ck.seqTo.isSome then s.opDone.opStart else s

/-! ## Meaning -/

/-- OP_STEP_DONE (R85 to R87). -/
def execOpStepDone (t : Nat) (s : State) : Host.Outcome State Fault Refusal := run t s State.opStepDone

end Sys2Proof.Machine
end

