-- ==== Sys2Proof/Machine/Directory.lean ====
section
/-!
DEFINITION. Sys2Proof/Machine/Directory.lean: the directory of the image sets (R517).
-/

namespace Sys2Proof.Machine

/-- A set's entry of a directory copy. -/
def Dir.ent (d : Dir) (b : Bool) : SetEnt := if b then d.b else d.a
def Dir.setEnt (d : Dir) (b : Bool) (e : SetEnt) : Dir := if b then { d with b := e } else { d with a := e }

/-- The directory: the valid copy with the higher sequence number. -/
def State.dir (s : State) : Option Dir :=
  match s.nv.dir0, s.nv.dir1 with
  | none, d => d
  | d, none => d
  | some x, some y => if x.seq < y.seq then some y else some x

/-- Write the older copy with the next sequence number. -/
def State.putDir (s : State) (d : Dir) : State :=
  let seq := (s.dir.map (·.seq)).getD 0 + 1
  let older0 : Bool := match s.nv.dir0, s.nv.dir1 with
    | none, _ => true
    | some _, none => false
    | some x, some y => decide (x.seq < y.seq)
  let d := { d with seq := seq }
  { s with nv := if older0 then { s.nv with dir0 := some d } else { s.nv with dir1 := some d } }

/-- Change the directory, where one is valid. -/
def State.updDir (s : State) (f : Dir → Dir) : State :=
  match s.dir with
  | some d => s.putDir (f d)
  | none => s

/-- A set's entry. -/
def State.ent (s : State) (b : Bool) : SetEnt := (s.dir.map (·.ent b)).getD {}
/-- Change a set's entry. -/
def State.updEnt (s : State) (b : Bool) (f : SetEnt → SetEnt) : State := s.updDir fun d => d.setEnt b (f (d.ent b))

/-- `boot_set`; set A where no copy is valid. -/
def State.bootSet (s : State) : Bool := (s.dir.map (·.boot)).getD false

/-- A set may run: Verified, Trial or Confirmed. -/
def SetEnt.usable (e : SetEnt) : Bool := e.state == 2 || e.state == 3 || e.state == 4

/-- An activation of a set is undone: it is Verified again, and `boot_set` is the other set. -/
def State.undoActivate (s : State) (b : Bool) : State :=
  s.updDir fun d => { d.setEnt b { d.ent b with state := 2, tries := 0 } with boot := !b }

end Sys2Proof.Machine
end

