-- ==== Sys2Proof/Machine/Crypto.lean ====
section
/-!
DEFINITION. Sys2Proof/Machine/Crypto.lean: the cryptographic functions the spec names: AES-128 and AES-256 with
CMAC, CCM*, GCM and key wrap, SHA-384 with HMAC, and ECDSA and ECDH over P-384 (09_mesh_security, 10_key_vault,
17_twin, 18_update_rescue).  Each follows the public standard the spec cites.
-/

namespace Sys2Proof.Machine

/-- Byte-wise exclusive or of two strings, as long as the shorter. -/
def xorBytes (a b : Bytes) : Bytes := List.zipWith (· ^^^ ·) a b

/-! ## AES (FIPS 197) -/

/-- Multiplication by x in GF(2^8). -/
def gfX (b : Nat) : Nat := if b ≥ 128 then (b * 2 % 256) ^^^ 0x1B else b * 2

/-- Multiplication in GF(2^8), `k` low bits of `b` first. -/
def gfMul : Nat → Nat → Nat → Nat
  | 0, _, _ => 0
  | k + 1, a, b => (if b % 2 = 1 then a else 0) ^^^ gfMul k (gfX a) (b / 2)

/-- The S-box (FIPS 197, Figure 7): the sixteen rows, each its sixteen bytes from column 0 on. -/
def sboxRows : List Nat :=
  [0x637c777bf26b6fc53001672bfed7ab76, 0xca82c97dfa5947f0add4a2af9ca472c0,
   0xb7fd9326363ff7cc34a5e5f171d83115, 0x04c723c31896059a071280e2eb27b275,
   0x09832c1a1b6e5aa0523bd6b329e32f84, 0x53d100ed20fcb15b6acbbe394a4c58cf,
   0xd0efaafb434d338545f9027f503c9fa8, 0x51a3408f929d38f5bcb6da2110fff3d2,
   0xcd0c13ec5f974417c4a77e3d645d1973, 0x60814fdc222a908846eeb814de5e0bdb,
   0xe0323a0a4906245cc2d3ac629195e479, 0xe7c8376d8dd54ea96c56f4ea657aae08,
   0xba78252e1ca6b4c6e8dd741f4bbd8b8a, 0x703eb5664803f60e613557b986c11d9e,
   0xe1f8981169d98e949b1e87e9ce5528df, 0x8ca1890dbfe6426841992d0fb054bb16]

/-- The inverse S-box (FIPS 197, Figure 14), likewise. -/
def invSboxRows : List Nat :=
  [0x52096ad53036a538bf40a39e81f3d7fb, 0x7ce339829b2fff87348e4344c4dee9cb,
   0x547b9432a6c2233dee4c950b42fac34e, 0x082ea16628d924b2765ba2496d8bd125,
   0x72f8f66486689816d4a45ccc5d65b692, 0x6c704850fdedb9da5e154657a78d9d84,
   0x90d8ab008cbcd30af7e45805b8b34506, 0xd02c1e8fca3f0f02c1afbd0301138a6b,
   0x3a9111414f67dcea97f2cfcef0b4e673, 0x96ac7422e7ad3585e2f937e81c75df6e,
   0x47f11a711d29c5896fb7620eaa18be1b, 0xfc563e4bc6d279209adbc0fe78cd5af4,
   0x1fdda8338807c731b11210592780ec5f, 0x60517fa919b54a0d2de57a9f93c99cef,
   0xa0e03b4dae2af5b0c8ebbb3c83539961, 0x172b047eba77d626e169146355210c7d]

/-- The byte of a table for the byte `b`. -/
def subByte (rows : List Nat) (b : Byte) : Byte :=
  BitVec.ofNat 8 (rows.getD (b.toNat / 16) 0 / 256 ^ (15 - b.toNat % 16))

/-- The S-box on a byte. -/
def sbox (b : Byte) : Byte := subByte sboxRows b

/-- The inverse S-box on a byte. -/
def invSbox (b : Byte) : Byte := subByte invSboxRows b

/-- Round constants. -/
def rcon : Nat → Nat
  | 0 => 1
  | n + 1 => gfX (rcon n)

/-- The key schedule: words so far (newest first), with `nk` key words. -/
def keyWords (nk : Nat) : Nat → List Bytes → List Bytes
  | 0, ws => ws
  | n + 1, ws =>
    let i := ws.length
    let prev := ws.headD []
    let t := if i % nk = 0 then
        match (prev.drop 1 ++ prev.take 1).map sbox with
        | b :: bs => (b ^^^ BitVec.ofNat 8 (rcon (i / nk - 1))) :: bs
        | [] => []
      else if nk > 6 && i % nk == 4 then prev.map sbox
      else prev
    keyWords nk n (xorBytes (ws.getD (nk - 1) []) t :: ws)

/-- A string cut into pieces of `n` bytes, at most `fuel` of them. -/
def chunks (n : Nat) : Nat → Bytes → List Bytes
  | 0, _ => []
  | fuel + 1, bs => if bs.isEmpty then [] else bs.take n :: chunks n fuel (bs.drop n)

/-- The round keys of a 16-byte or 32-byte key, 16 bytes each. -/
def roundKeys (key : Bytes) : List Bytes :=
  let nk := key.length / 4
  let ws := (keyWords nk (4 * (nk + 7) - nk) (chunks 4 nk key).reverse).reverse
  chunks 16 (nk + 7) ws.flatten

/-- ShiftRows: output byte `i` comes from input byte `5 i mod 16`. -/
def shiftRows (s : Bytes) : Bytes := (List.range 16).map fun i => s.getD (5 * i % 16) 0#8

/-- The inverse of ShiftRows. -/
def invShiftRows (s : Bytes) : Bytes := (List.range 16).map fun i => s.getD (13 * i % 16) 0#8

/-- One output byte of a column under a matrix row, whose entries are below 16. -/
def mixByte (m : List Nat) (c : Bytes) : Byte :=
  BitVec.ofNat 8 ((List.zipWith (fun k b => gfMul 4 b.toNat k) m c).foldl (· ^^^ ·) 0)

/-- MixColumns with the circulant matrix whose first row is `m`. -/
def mixCols (m : List Nat) (s : Bytes) : Bytes :=
  ((chunks 4 4 s).map fun c =>
    (List.range 4).map fun r => mixByte ((List.range 4).map fun j => m.getD ((j + 4 - r) % 4) 0) c).flatten

/-- The middle and last rounds of encryption. -/
def aesRounds : List Bytes → Bytes → Bytes
  | [], s => s
  | [k], s => xorBytes (shiftRows (s.map sbox)) k
  | k :: ks, s => aesRounds ks (xorBytes (mixCols [2, 3, 1, 1] (shiftRows (s.map sbox))) k)

/-- AES encryption of one block. -/
def aesEnc (key block : Bytes) : Bytes :=
  match roundKeys key with
  | [] => block
  | k :: ks => aesRounds ks (xorBytes block k)

/-- The rounds of decryption over the reversed round keys. -/
def aesInvRounds : List Bytes → Bytes → Bytes
  | [], s => s
  | [k], s => xorBytes ((invShiftRows s).map invSbox) k
  | k :: ks, s => aesInvRounds ks (mixCols [14, 11, 13, 9] (xorBytes ((invShiftRows s).map invSbox) k))

/-- AES decryption of one block. -/
def aesDec (key block : Bytes) : Bytes :=
  match (roundKeys key).reverse with
  | [] => block
  | k :: ks => aesInvRounds ks (xorBytes block k)

/-! ## CMAC (NIST SP 800-38B) -/

/-- Doubling in GF(2^128) of a 16-byte string, most significant byte first. -/
def dbl128 (b : Bytes) : Bytes :=
  let v := beNat b * 2
  toBE 16 (if v ≥ 2 ^ 128 then (v - 2 ^ 128) ^^^ 0x87 else v)

/-- CBC-MAC over whole blocks. -/
def cbcMac (key : Bytes) : Bytes → List Bytes → Bytes
  | x, [] => x
  | x, b :: bs => cbcMac key (aesEnc key (xorBytes x b)) bs

/-- Sixteen zero bytes. -/
def zero16 : Bytes := List.replicate 16 0#8

/-- Pad a string with zeros to a multiple of 16 bytes. -/
def pad16 (bs : Bytes) : Bytes := bs ++ List.replicate ((16 - bs.length % 16) % 16) 0#8

/-- AES-CMAC. -/
def aesCmac (key msg : Bytes) : Bytes :=
  let k1 := dbl128 (aesEnc key zero16)
  let cs := chunks 16 (msg.length / 16 + 1) msg
  let front := if msg.isEmpty then [] else cs.dropLast
  let last := cs.getLastD []
  let fin := if last.length = 16 then xorBytes last k1
    else xorBytes (pad16 (last ++ [0x80#8])) (dbl128 k1)
  aesEnc key (xorBytes (cbcMac key zero16 front) fin)

/-- The bytes of an ASCII string. -/
def ascii (s : String) : Bytes := s.toList.map fun c => BitVec.ofNat 8 c.toNat

/-- The counter-mode KDF of R268, one iteration, 128 bits. -/
def kdf128 (kin : Bytes) (label : String) (context : Bytes) : Bytes :=
  aesCmac kin ([0x01#8] ++ ascii label ++ [0x00#8] ++ context ++ [0x00#8, 0x80#8])

/-! ## CCM* as R273 uses it: 8-byte MIC, length field of 2 bytes, 13-byte nonce -/

/-- Counter block `i` of a nonce. -/
def ccmBlock (nonce : Bytes) (i : Nat) : Bytes := [0x01#8] ++ nonce ++ toBE 2 i

/-- Exclusive or with the key stream from counter block `i` on. -/
def ctrXor (key nonce : Bytes) : Nat → List Bytes → Bytes
  | _, [] => []
  | i, b :: bs => xorBytes b (aesEnc key (ccmBlock nonce i)) ++ ctrXor key nonce (i + 1) bs

/-- Encrypt or decrypt a message. -/
def ccmCrypt (key nonce msg : Bytes) : Bytes := ctrXor key nonce 1 (chunks 16 (msg.length / 16 + 1) msg)

/-- The 8-byte MIC over authenticated data and a plaintext message. -/
def ccmMic (key nonce aad msg : Bytes) : Bytes :=
  let b0 : Bytes := [BitVec.ofNat 8 (0x40 + 8 * 3 + 1)] ++ nonce ++ toBE 2 msg.length
  let a := pad16 (toBE 2 aad.length ++ aad)
  let m := pad16 msg
  let t := cbcMac key zero16 (b0 :: (chunks 16 (a.length / 16) a ++ chunks 16 (m.length / 16) m))
  xorBytes (t.take 8) (aesEnc key (ccmBlock nonce 0))

/-- Seal a message: the ciphertext and its MIC. -/
def ccmSeal (key nonce aad msg : Bytes) : Bytes := ccmCrypt key nonce msg ++ ccmMic key nonce aad msg

/-- Open a sealed message: the plaintext where the MIC verifies. -/
def ccmOpen (key nonce aad sealed : Bytes) : Option Bytes :=
  let n := sealed.length - 8
  let msg := ccmCrypt key nonce (sealed.take n)
  if 8 ≤ sealed.length ∧ ccmMic key nonce aad msg = sealed.drop n then some msg else none

/-! ## AES key wrap (NIST SP 800-38F, KW) -/

/-- One pass of wrapping over the registers: step number, `A`, registers still to do and done. -/
def kwPass (key : Bytes) : Nat → Bytes → List Bytes → List Bytes → Nat × Bytes × List Bytes
  | t, a, [], done => (t, a, done.reverse)
  | t, a, r :: rs, done =>
    let b := aesEnc key (a ++ r)
    kwPass key (t + 1) (xorBytes (b.take 8) (toBE 8 t)) rs (b.drop 8 :: done)

/-- `n` passes of wrapping. -/
def kwPasses (key : Bytes) : Nat → Nat → Bytes → List Bytes → Bytes
  | 0, _, a, rs => a ++ rs.flatten
  | n + 1, t, a, rs =>
    let (t', a', rs') := kwPass key t a rs []
    kwPasses key n t' a' rs'

/-- AES key wrap. -/
def kwWrap (key plain : Bytes) : Bytes :=
  kwPasses key 6 1 (List.replicate 8 0xA6#8) (chunks 8 (plain.length / 8) plain)

/-- One pass of unwrapping over the reversed registers. -/
def kwUnpass (key : Bytes) : Nat → Bytes → List Bytes → List Bytes → Nat × Bytes × List Bytes
  | t, a, [], done => (t, a, done)
  | t, a, r :: rs, done =>
    let b := aesDec key (xorBytes a (toBE 8 t) ++ r)
    kwUnpass key (t - 1) (b.take 8) rs (b.drop 8 :: done)

/-- `n` passes of unwrapping. -/
def kwUnpasses (key : Bytes) : Nat → Nat → Bytes → List Bytes → Bytes × List Bytes
  | 0, _, a, rs => (a, rs)
  | n + 1, t, a, rs =>
    let (t', a', rs') := kwUnpass key t a rs.reverse []
    kwUnpasses key n t' a' rs'

/-- AES key unwrap: the plaintext where the integrity value verifies. -/
def kwUnwrap (key wrapped : Bytes) : Option Bytes :=
  let rs := chunks 8 (wrapped.length / 8 - 1) (wrapped.drop 8)
  let (a, out) := kwUnpasses key 6 (6 * rs.length) (wrapped.take 8) rs
  if a = List.replicate 8 0xA6#8 then some out.flatten else none

/-! ## GCM (NIST SP 800-38D) with a 12-byte IV and no authenticated data -/

/-- Multiplication in GF(2^128) in GCM's bit order, over the bits of `x` from the first. -/
def ghashMul : Nat → Nat → Nat → Nat → Nat
  | 0, _, _, z => z
  | k + 1, x, v, z =>
    let z' := if bitN x k then z ^^^ v else z
    ghashMul k x (if v % 2 = 1 then (v / 2) ^^^ (0xE1 * 2 ^ 120) else v / 2) z'

/-- GHASH over blocks. -/
def ghash (h : Nat) : Nat → List Bytes → Nat
  | y, [] => y
  | y, b :: bs => ghash h (ghashMul 128 (y ^^^ beNat (pad16 b)) h 0) bs

/-- The key stream of GCM from counter `i` on. -/
def gcmXor (key iv : Bytes) : Nat → List Bytes → Bytes
  | _, [] => []
  | i, b :: bs => xorBytes b (aesEnc key (iv ++ toBE 4 i)) ++ gcmXor key iv (i + 1) bs

/-- The tag of a ciphertext. -/
def gcmTag (key iv ct : Bytes) : Bytes :=
  let h := beNat (aesEnc key zero16)
  let y := ghash h 0 (chunks 16 (ct.length / 16 + 1) ct ++ [toBE 8 0 ++ toBE 8 (8 * ct.length)])
  xorBytes (toBE 16 y) (aesEnc key (iv ++ toBE 4 1))

/-- Decrypt: the plaintext where the tag verifies. -/
def gcmOpen (key iv ct tag : Bytes) : Option Bytes :=
  if gcmTag key iv ct = tag then some (gcmXor key iv 2 (chunks 16 (ct.length / 16 + 1) ct)) else none

/-! ## SHA-384 (FIPS 180-4) and HMAC -/

/-- The integer part of the `k`-th root approached from below by bits: the largest `r < 2^n` with `r^k ≤ v`. -/
def rootBits (k v : Nat) : Nat → Nat → Nat
  | 0, r => r
  | n + 1, r => rootBits k v n (if (r + 2 ^ n) ^ k ≤ v then r + 2 ^ n else r)

/-- A number has no divisor from 2 up to `d + 1`. -/
def noDivisor (n : Nat) : Nat → Bool
  | 0 => true
  | d + 1 => n % (d + 2) != 0 && noDivisor n d

/-- The primes below 410: the first 80. -/
def primes80 : List Nat := (List.range 410).filter fun n => decide (2 ≤ n) && noDivisor n (min (n - 2) 20)

/-- The first 64 bits of the fractional parts of the cube roots of the first 80 primes. -/
def sha512K : List Nat := primes80.map fun p => rootBits 3 (p * 2 ^ 192) 70 0 % 2 ^ 64

/-- The initial value of SHA-384: fractional parts of the square roots of the 9th to 16th primes. -/
def sha384Init : List Nat := ((primes80.drop 8).take 8).map fun p => rootBits 2 (p * 2 ^ 128) 70 0 % 2 ^ 64

/-- Rotate a 64-bit word right. -/
def rotr64 (x k : Nat) : Nat := x / 2 ^ k + x % 2 ^ k * 2 ^ (64 - k)

/-- The message schedule, newest word first. -/
def shaSchedule : Nat → List Nat → List Nat
  | 0, w => w
  | n + 1, w =>
    let a := w.getD 14 0
    let b := w.getD 1 0
    let s0 := rotr64 a 1 ^^^ rotr64 a 8 ^^^ (a / 2 ^ 7)
    let s1 := rotr64 b 19 ^^^ rotr64 b 61 ^^^ (b / 2 ^ 6)
    shaSchedule n ((w.getD 15 0 + s0 + w.getD 6 0 + s1) % 2 ^ 64 :: w)

/-- The 80 rounds on the working variables. -/
def shaRounds : List (Nat × Nat) → List Nat → List Nat
  | (k, w) :: r, [a, b, c, d, e, f, g, h] =>
    let t1 := (h + (rotr64 e 14 ^^^ rotr64 e 18 ^^^ rotr64 e 41) + ((e &&& f) ^^^ ((2 ^ 64 - 1 - e) &&& g)) + k + w)
      % 2 ^ 64
    let t2 := ((rotr64 a 28 ^^^ rotr64 a 34 ^^^ rotr64 a 39) + ((a &&& b) ^^^ (a &&& c) ^^^ (b &&& c))) % 2 ^ 64
    shaRounds r [(t1 + t2) % 2 ^ 64, a, b, c, (d + t1) % 2 ^ 64, e, f, g]
  | _, v => v

/-- The blocks of a padded message. -/
def shaBlocks : List Bytes → List Nat → List Nat
  | [], h => h
  | b :: bs, h =>
    let w := (shaSchedule 64 ((chunks 8 16 b).map beNat).reverse).reverse
    let v := shaRounds (sha512K.zip w) h
    shaBlocks bs (List.zipWith (fun x y => (x + y) % 2 ^ 64) h v)

/-- SHA-384: 48 bytes. -/
def sha384 (msg : Bytes) : Bytes :=
  let n := msg.length
  let padded := msg ++ [0x80#8] ++ List.replicate ((239 - n % 128) % 128) 0#8 ++ toBE 16 (8 * n)
  (((shaBlocks (chunks 128 (padded.length / 128) padded) sha384Init).map (toBE 8)).flatten).take 48

/-- HMAC-SHA-384 of a key of at most 128 bytes. -/
def hmacSha384 (key msg : Bytes) : Bytes :=
  let k := key ++ List.replicate (128 - key.length) 0#8
  let x (v : Byte) := k.map (· ^^^ v)
  sha384 (x 0x5C#8 ++ sha384 (x 0x36#8 ++ msg))

/-! ## P-384 -/

def p384P : Nat := 2 ^ 384 - 2 ^ 128 - 2 ^ 96 + 2 ^ 32 - 1
def p384N : Nat := 0xFFFFFFFFFFFFFFFFFFFFFFFFFFFFFFFFFFFFFFFFFFFFFFFFC7634D81F4372DDF581A0DB248B0A77AECEC196ACCC52973
def p384B : Nat := 0xB3312FA7E23EE7E4988E056BE3F82D19181D9C6EFE8141120314088F5013875AC656398D8A2ED19D2A85C8EDD3EC2AEF
def p384G : Nat × Nat :=
  (0xAA87CA22BE8B05378EB1C71EF320AD746E1D3B628BA79B9859F741E082542A385502F25DBF55296C3A545E3872760AB7,
   0x3617DE4A96262C6F5D9E98BF9292DC29F8F41DBD289A147CE9DA3113B5F0B8C00A60B1CE1D7E819D7A431D7C90EA0E5F)

/-- `a ^ e mod m`, over `k` bits of `e`. -/
def powMod (m : Nat) : Nat → Nat → Nat → Nat
  | 0, _, _ => 1 % m
  | k + 1, a, e => (if e % 2 = 1 then a else 1) * powMod m k (a * a % m) (e / 2) % m

/-- The inverse modulo a prime. -/
def invMod (m a : Nat) : Nat := powMod m 384 (a % m) (m - 2)

/-- A point of P-384 in Jacobian coordinates: x/z², y/z³; with z = 0 the point at infinity. -/
structure JPoint where
  x : Nat
  y : Nat
  z : Nat
  deriving DecidableEq, Repr

/-- Product and difference in the field of P-384, of elements below `p384P`. -/
def fMul (a b : Nat) : Nat := a * b % p384P
def fSub (a b : Nat) : Nat := (a + p384P - b) % p384P

/-- An affine point, and back; `none` is the point at infinity. -/
def ecPoint (q : Nat × Nat) : JPoint := ⟨q.1, q.2, 1⟩
def ecAffine (q : JPoint) : Option (Nat × Nat) :=
  if q.z = 0 then none
  else
    let i := invMod p384P q.z
    some (fMul q.x (fMul i i), fMul q.y (fMul i (fMul i i)))

/-- Doubling, with the curve's `a = -3`. -/
def ecDouble (q : JPoint) : JPoint :=
  let d := fMul q.z q.z
  let g := fMul q.y q.y
  let b := fMul q.x g
  let a := 3 * fSub q.x d * (q.x + d) % p384P
  let x := fSub (fMul a a) (8 * b % p384P)
  ⟨x, fSub (fMul a (fSub (4 * b % p384P) x)) (8 * g * g % p384P), 2 * q.y * q.z % p384P⟩

/-- Addition. -/
def ecAdd (p q : JPoint) : JPoint :=
  if p.z = 0 then q
  else if q.z = 0 then p
  else
    let a := fMul p.z p.z
    let b := fMul q.z q.z
    let u := fMul p.x b
    let s := p.y * q.z * b % p384P
    let h := fSub (fMul q.x a) u
    let r := fSub (q.y * p.z * a % p384P) s
    if h = 0 then if r = 0 then ecDouble p else ⟨1, 1, 0⟩
    else
      let hh := fMul h h
      let v := fMul u hh
      let x := fSub (fSub (fMul r r) (fMul h hh)) (2 * v % p384P)
      ⟨x, fSub (fMul r (fSub v x)) (s * h * hh % p384P), h * p.z * q.z % p384P⟩

/-- Scalar multiplication over `k` bits. -/
def ecMul : Nat → Nat → JPoint → JPoint
  | 0, _, _ => ⟨1, 1, 0⟩
  | k + 1, n, q =>
    let r := ecMul k (n / 2) (ecDouble q)
    if n % 2 = 1 then ecAdd q r else r

/-- A point lies on the curve. -/
def onCurve (q : Nat × Nat) : Bool :=
  decide (q.1 < p384P) && decide (q.2 < p384P) &&
    decide (q.2 * q.2 % p384P = (q.1 * q.1 * q.1 + (p384P - 3) * q.1 + p384B) % p384P)

/-- A point of 96 bytes: x then y, big-endian. -/
def pointOf (b : Bytes) : Nat × Nat := (beNat (b.take 48), beNat (b.drop 48))

/-- ECDSA with SHA-384: the signature `r` then `s` verifies. -/
def ecdsaOk (pub msg sig : Bytes) : Bool :=
  let q := pointOf pub
  let r := beNat (sig.take 48)
  let s := beNat (sig.drop 48)
  if sig.length ≠ 96 ∨ pub.length ≠ 96 ∨ !onCurve q ∨ r = 0 ∨ s = 0 ∨ p384N ≤ r ∨ p384N ≤ s then false
  else
    let w := invMod p384N s
    let z := beNat (sha384 msg)
    match ecAffine (ecAdd (ecMul 384 (z * w % p384N) (ecPoint p384G)) (ecMul 384 (r * w % p384N) (ecPoint q))) with
    | some (x, _) => x % p384N == r
    | none => false

/-- ECDH: the x coordinate of the shared point, 48 bytes. -/
def ecdh (priv : Nat) (pub : Nat × Nat) : Bytes :=
  match ecAffine (ecMul 384 priv (ecPoint pub)) with
  | some (x, _) => toBE 48 x
  | none => toBE 48 0

end Sys2Proof.Machine
end

