-- ==== Sys2Proof/Machine/Crc.lean ====
section
/-!
DEFINITION. Sys2Proof/Machine/Crc.lean: the cyclic redundancy checks the spec names.
-/

namespace Sys2Proof.Machine

/-- `k` steps of a reflected CRC register. -/
def crcStep (poly : Nat) : Nat → Nat → Nat
  | 0, c => c
  | k + 1, c => crcStep poly k (if c % 2 = 1 then (c / 2) ^^^ poly else c / 2)

/-- A reflected CRC over a byte string, from a register value. -/
def crcRefl (poly : Nat) : Nat → Bytes → Nat
  | c, [] => c
  | c, b :: bs => crcRefl poly (crcStep poly 8 (c ^^^ b.toNat)) bs

/-- The 2-byte FCS of IEEE 802.15.4 (R195): polynomial 0x1021 reflected, initial value 0. -/
def fcs16 (bs : Bytes) : Nat := crcRefl 0x8408 0 bs

/-- CRC-32C (R399): Castagnoli, reflected, initial value and final XOR all ones. -/
def crc32c (bs : Bytes) : Nat := crcRefl 0x82F63B78 0xFFFFFFFF bs ^^^ 0xFFFFFFFF

/-- The CRC-32 of IEEE 802.3. -/
def crc32 (bs : Bytes) : Nat := crcRefl 0xEDB88320 0xFFFFFFFF bs ^^^ 0xFFFFFFFF

/-- CRC-64/XZ (R399). -/
def crc64xz (bs : Bytes) : Nat := crcRefl 0xC96C5795D7870F42 0xFFFFFFFFFFFFFFFF bs ^^^ 0xFFFFFFFFFFFFFFFF

/-- A PSDU with its FCS appended (R195). -/
def withFcs (bs : Bytes) : Bytes := bs ++ toLE 2 (fcs16 bs)

/-- The FCS of a PSDU verifies. -/
def fcsOk (psdu : Bytes) : Bool :=
  decide (2 ≤ psdu.length) &&
    (fcs16 (psdu.take (psdu.length - 2)) == leNat (psdu.drop (psdu.length - 2)))

end Sys2Proof.Machine
end

