-- ==== Sys2Proof/Machine/Rings.lean ====
section
/-!
DEFINITION. Sys2Proof/Machine/Rings.lean: how a ring command runs (16_host_rings): the fetch, the common checks of
R472, completions and final completions, and the statuses of R15.
-/

namespace Sys2Proof.Machine

/-! ## Status codes (R15) -/

def stOK : Nat := 0x00
def stSTALE : Nat := 0x01
def stDISCARDED : Nat := 0x02
def stLATE : Nat := 0x03
def stNO_ROOM : Nat := 0x04
def stBAD_ARG : Nat := 0x05
def stBAD_SIGNATURE : Nat := 0x06
def stREPLAY : Nat := 0x07
def stBUSY_TEST : Nat := 0x08
def stNOT_LEAD : Nat := 0x09
def stUNSUPPORTED : Nat := 0x0A
def stDEFERRED : Nat := 0x0B
def stTIMEOUT : Nat := 0x0C
def stHW_FAULT : Nat := 0x0D

/-! ## The opcode list (R486) -/

/-- Ring kinds of `HIF_SQ_CFG_n.kind` (R463). -/
inductive RingKind where
  | command | transmit | receive
  deriving DecidableEq, Repr

def RingKind.code : RingKind → Nat
  | .command => 0 | .transmit => 1 | .receive => 2

/-- Every opcode of R486. -/
def opcodes : List Nat :=
  [0x0001, 0x0002, 0x0003, 0x0004, 0x0101, 0x0102, 0x0103, 0x0104, 0x0110, 0x0111, 0x0112, 0x0113, 0x0120,
   0x0201, 0x0202, 0x0203, 0x0204, 0x0301, 0x0302, 0x0303, 0x0304, 0x0305, 0x0306, 0x0401, 0x0402, 0x0403,
   0x0404, 0x0405, 0x0501, 0x0601, 0x0602, 0x0603, 0x0604, 0x0701, 0x0702, 0x0801, 0x0802, 0x0803, 0x0804,
   0x0805, 0x0901, 0x0A01, 0x0A02, 0x1001, 0x1002]

/-- The opcodes served in Dawn (R46, the Dawn column of R486). -/
def opcodesDawn : List Nat :=
  [0x0001, 0x0002, 0x0003, 0x0004, 0x0702, 0x0801, 0x0802, 0x0803, 0x0804, 0x0805, 0x0901, 0x0A01, 0x0A02]

/-- The opcodes served in Doze (R487). -/
def opcodesDoze : List Nat := [0x0001, 0x0002, 0x0003, 0x0702]

/-- The opcodes served in Rescue (R530). -/
def opcodesRescue : List Nat := [0x0801, 0x0802, 0x0803, 0x0804]

/-- The opcodes served while the mode reads Dusk (R544). -/
def opcodesDusk : List Nat := [0x0001, 0x0002, 0x0003, 0x0004, 0x0702, 0x0901]

/-- The ring kind an opcode belongs to (R463, R486). -/
def opcodeKind (op : Nat) : RingKind :=
  if op = 0x1001 then .transmit else if op = 0x1002 then .receive else .command

/-- Step 4 of R472 and R544: the status with which the current mode turns an opcode away, if it does. -/
def modeStatus (m : Mode) (op : Nat) : Option Nat :=
  match m with
  | .full => none
  | .dawn => if op ∈ opcodesDawn then none else some stUNSUPPORTED
  | .doze => if op ∈ opcodesDoze then none else some stUNSUPPORTED
  | .rescue => if op ∈ opcodesRescue then none else some stUNSUPPORTED
  | .dusk => if op ∈ opcodesDusk then none else some stBUSY_TEST
  | .hibernate => some stUNSUPPORTED

/-! ## What a command answers -/

/-- The answer of a command's own rules: its status (`none`: no completion now), its result word, the state it
leaves, the writes to host memory it makes, and the key under which a DEFERRED command is found again. -/
structure Reply where
  status : Option Nat
  result : Nat := 0
  st : State
  writes : List (Nat × Bytes) := []
  key : Nat := 0

/-- A refusing status: nothing changes (R17). -/
def Reply.err (s : State) (st : Nat) : Reply := { status := some st, st := s }
/-- OK with the state left and the writes made. -/
def Reply.ok (s : State) (writes : List (Nat × Bytes) := []) (result : Nat := 0) : Reply :=
  { status := some stOK, st := s, writes := writes, result := result }
/-- DEFERRED (R18). -/
def Reply.defer (s : State) (key : Nat := 0) : Reply := { status := some stDEFERRED, st := s, key := key }

end Sys2Proof.Machine

namespace Sys2Proof

/-- Body byte fields of a descriptor, little-endian (R467). -/
def Cmd.f (c : Cmd) (off n : Nat) : Nat := Bytes.le c.body off n
/-- Body bytes `off` to `off + n − 1` are reserved and must be 0. -/
def Cmd.zero (c : Cmd) (off n : Nat) : Bool := Bytes.zero (Bytes.slice c.body off n)
/-- The status of a failed DMA read (R473). -/
def DmaErr.status : DmaErr → Nat
  | .ur => Machine.stBAD_ARG | .ca => Machine.stBAD_ARG | .timeout => Machine.stTIMEOUT
/-- The code of a failure in a ring's `err` field. -/
def DmaErr.code : DmaErr → Nat
  | .ur => 1 | .ca => 2 | .timeout => 3

/-- A command that reads `n` bytes: the status if the read fails before they are all read (R473). -/
def Cmd.readFails (c : Cmd) (n : Nat) : Option Nat :=
  match c.rdErr with
  | some e => if c.rd.length < n then some e.status else none
  | none => none

end Sys2Proof

namespace Sys2Proof.Machine

/-! ## The host's way in -/

/-- BAR0 holds an address and the link carries its requests: configuration space is ready and enables memory, the link
is up in D0, and the device is neither in Hibernate nor held in reset (R61, R462). -/
def State.barUp (s : State) : Bool :=
  let h := s.io.hf
  h.cfgReady && h.memSpace && !h.perst && s.flag F.HIF_STAT_link_up && s.fld F.HIF_STAT_dstate == 0 &&
    s.pw.mode != .hibernate && s.pw.hold.isNone

/-! ## Rings in service -/

def Io.sqActive (io : Io) (n : Nat) : Bool := io.fld (F.HIF_SQ_ERR_active n) != 0
/-- Outstanding descriptors: (tail − head) mod size (R464). -/
def Io.outstanding (io : Io) (n : Nat) : Nat :=
  (io.fld (F.HIF_SQ_STAT_tail n) + io.sqSize n - io.fld (F.HIF_SQ_STAT_head n)) % io.sqSize n
/-- The completion ring of a submission ring holds its fetches: it is not active, or entries are held for it
(R466). -/
def Io.cqHolds (io : Io) (n : Nat) : Bool :=
  let q := io.fld (F.HIF_SQ_CFG_cq n)
  !io.cqActive q || io.hf.cqHeld.any (fun p => p.1 == q)
/-- A descriptor of the ring, or a buffer of it, still lacks its final completion. -/
def Hif.inFlight (h : Hif) (n : Nat) : Bool := h.deferred.any (fun d => d.sq == n) || h.rxBufs.any (fun b => b.sq == n)

/-- The engines that serve a ring's descriptors run: the device is up and its rings are fetched in this mode
(R487: in Doze command rings only). -/
def State.ringsServed (s : State) (command : Bool) : Bool :=
  match s.pw.mode with
  | .hibernate => false
  | .doze => command
  | .dawn => s.pw.stage != .off && s.pw.stage != .held && s.pw.stage != .rom
  | _ => s.pw.stage != .off && s.pw.stage != .held

/-- The next descriptor of ring `n` can be fetched (R464, R466, R471, R487; in Rescue only ring 0 of at most 256
entries, R527; behind a WLN_MGMT_TX only once that is complete). -/
def State.fetchable (s : State) (n : Nat) : Bool :=
  s.io.sqActive n && s.fld (F.HIF_SQ_CFG_en n) != 0 && s.io.hostOk && decide (0 < s.io.outstanding n) &&
    !s.io.cqHolds n && s.ringsServed (s.fld (F.HIF_SQ_CFG_kind n) == 0) &&
    (s.pw.mode != .rescue || (n == 0 && decide (s.io.sqSize n ≤ 256))) &&
    !s.io.hf.deferred.any (fun d => d.sq == n && d.opcode == 0x0304)

/-- A descriptor can be fetched and started: one with `fence` only after every earlier one of its ring (R478). -/
def State.canFetch (s : State) (c : Cmd) : Bool :=
  s.fetchable c.sq.val && !(bitN c.b3.toNat 0 && s.io.hf.inFlight c.sq.val)

/-- The head moves past the fetched descriptor. -/
def Io.fetched (io : Io) (n : Nat) : Io :=
  let io := io.setFld (F.HIF_SQ_STAT_head n) ((io.fld (F.HIF_SQ_STAT_head n) + 1) % io.sqSize n)
  { io with hf := { io.hf with serial := io.hf.serial + 1 } }

/-- A disabled ring becomes inactive once its started descriptors have completed (R483). -/
def Io.settle (io : Io) (n : Nat) : Io :=
  if io.fld (F.HIF_SQ_CFG_en n) == 0 && io.sqActive n && !io.hf.deferred.any (fun d => d.sq == n) then
    io.setFld (F.HIF_SQ_ERR_active n) 0
  else io

/-- A submission or completion ring stops on a failed transfer: `err` records the cause, `active` clears, and a
ring-error event is posted (R473). -/
def State.ringStops (s : State) (completion : Bool) (n : Nat) (err : Nat) : State :=
  let s := if completion then (s.setFld (F.HIF_CQ_ERR_err n) err).setFld (F.HIF_CQ_ERR_active n) 0
    else (s.setFld (F.HIF_SQ_ERR_err n) err).setFld (F.HIF_SQ_ERR_active n) 0
  s.event 0x0C (toLE 1 n ++ toLE 1 completion.toNat ++ toLE 1 err)

/-- The writes to host memory of a command's result, in order. -/
def Io.writes (io : Io) : List (Nat × Bytes) → Io
  | [] => io
  | (a, b) :: ws => (io.put (.dma a b)).writes ws

/-- A descriptor of a transmit ring waits for its completion behind those before it (R478); `done` is its status where
it is over already. -/
def State.queueTx (s : State) (n serial gen tag : Nat) (done : Option Nat) : State :=
  let k := s.io.hf.txKey + 1
  let d : Dfr := { sq := n, idx := serial, gen := gen, tag := tag, opcode := 0x1001, key := k }
  let fin := match done with
    | some st => Tbl.put s.io.hf.txDone k st
    | none => s.io.hf.txDone
  { s with io := { s.io with hf := { s.io.hf with txKey := k, txDone := fin, deferred := s.io.hf.deferred ++ [d] } } }

/-- A descriptor of a receive ring joins the buffers of the ring. -/
def State.queueRx (s : State) (b : RxBuf) : State :=
  { s with io := { s.io with hf := { s.io.hf with rxBufs := s.io.hf.rxBufs ++ [b] } } }

/-- Deliver a command's answer: its result writes, then its completion (R462); a DEFERRED command is kept until
its final completion.  A result write that cannot be transmitted stops the ring, with the effect standing and no
completion (R473). -/
def deliver (c : Cmd) (op : Nat) (serial : Nat) (r : Reply) : State :=
  let n := c.sq.val
  let cpl (st : Nat) : Cpl :=
    { sq := n, tag := c.tag.toNat, status := st, result := r.result, gen := c.gen.toNat }
  if c.wrFail && !r.writes.isEmpty then r.st.ringStops false n 3
  else
    let s := { r.st with io := r.st.io.writes r.writes }
    match r.status with
    | none => s
    | some st =>
      let kind := s.fld (F.HIF_SQ_CFG_kind n)
      if kind = 1 ∧ s.io.hf.deferred.any (fun d => d.sq == n) then s.queueTx n serial c.gen.toNat c.tag.toNat (some st)
      else if kind = 2 ∧ s.io.hf.rxBufs.any (fun b => b.sq == n) then
        s.queueRx { sq := n, idx := serial, addr := 0, tag := c.tag.toNat, gen := c.gen.toNat, status := st }
      else
      let s := s.complete (cpl st)
      if st = stDEFERRED then
        let d : Dfr := { sq := n, idx := serial, gen := c.gen.toNat, tag := c.tag.toNat, opcode := op, key := r.key }
        { s with io := { s.io with hf := { s.io.hf with deferred := s.io.hf.deferred ++ [d] } } }
      else s

/-- The common checks of R472 in order, then the command's own rules. -/
def checked (c : Cmd) (op : Nat) (kind : RingKind) (s : State) (h : State → Reply) : Reply :=
  if c.gen.toNat ≠ s.fld F.HIF_GEN_gen then Reply.err s stSTALE
  else if c.b3.toNat / 2 ≠ 0 then Reply.err s stBAD_ARG
  else if !opcodes.contains op ∨ kind.code ≠ s.fld (F.HIF_SQ_CFG_kind c.sq.val) then Reply.err s stUNSUPPORTED
  else match modeStatus s.pw.mode op with
    | some st => Reply.err s st
    | none => h s

/-- A wake source ends Doze (R75): bit `b` of `PWR_WAKE_CAUSE` records it, as it does a later one before the device has
left (R76). -/
def State.dozeWake (s : State) (b : Nat) : State :=
  if s.pw.mode == .doze && (s.pw.trans.isNone || s.pw.trans == some .fromDoze) then
    let s := s.setWord 0x01000C (s.word 0x01000C ||| BitVec.ofNat 32 (2 ^ b))
    { s with pw := { s.pw with trans := some .fromDoze, woken := true } }
  else s

/-- Bit `b` of `PWR_WAKE_EN` is set. -/
def State.wakeOn (s : State) (b : Nat) : Bool := bitN (s.word 0x010008).toNat b

/-- In Doze, a descriptor whose opcode is not served stops the ring's fetching; the stop wakes the device if
`PWR_WAKE_EN.pcie` is 1 (R487, R75). -/
def State.dozeStop (s : State) : State := if s.wakeOn 3 then s.dozeWake 3 else s

/-- A command of a submission ring: the fetch of its descriptor, the common checks, its own rules, its
completion.  Where the descriptor cannot be fetched now, it stays on the ring and nothing changes. -/
def ringRun (op : Nat) (kind : RingKind) (c : Cmd) (h : State → Reply) (s : State) : State :=
  if !s.canFetch c then s
  else if s.pw.mode == .doze && !(opcodesDoze.contains op) then s.dozeStop
  else
    let serial := s.io.hf.serial
    let s := { s with io := s.io.fetched c.sq.val }
    deliver c op serial (checked c op kind s h)

/-- A command of a command ring, as a meaning. -/
def ringCommand (op : Nat) (t : Nat) (c : Cmd) (h : State → Reply) (s : State) :
    Host.Outcome State Fault Refusal :=
  run t s (ringRun op .command c h)

/-! ## Commands over blocks in host memory (R231, R232) -/

/-- What processing one block answers: its status, the state it leaves, and what it writes into the block. -/
structure BlockReply where
  status : Nat
  st : State
  writes : List (Nat × Bytes) := []

/-- Process blocks in order up to the first that is not OK; the command's status is that block's (R232).  With `all`
every block is processed and the command completes OK (R233, R368). -/
def runBlocks (all : Bool) (f : State → Bytes → BlockReply) (base size statusAt : Nat) :
    List Bytes → State → List (Nat × Bytes) → Reply
  | [], s, ws => Reply.ok s ws.reverse
  | b :: bs, s, ws =>
    let r := f s b
    let ws := (base + statusAt, toLE 1 r.status) :: (r.writes.map fun w => (base + w.1, w.2)).reverse ++ ws
    if all || r.status == stOK then runBlocks all f (base + size) size statusAt bs r.st ws
    else { status := some r.status, st := r.st, writes := ws.reverse }

/-- Cut the first `n * size` bytes into `n` blocks. -/
def cutBlocks (size : Nat) : Nat → Bytes → List Bytes
  | 0, _ => []
  | n + 1, bs => Bytes.slice bs 0 size :: cutBlocks size n (bs.drop size)

/-- A command over blocks: bytes 0 to 7 the host address, aligned to 32 bytes; bytes 8 and 9 the count, 1 to
4,096; bytes from `rsv` on reserved (R230, R231). -/
def blockRun (c : Cmd) (size statusAt rsv : Nat) (s : State) (f : State → Bytes → BlockReply)
    (most : Nat := 4096) (all : Bool := false) : Reply :=
  let n := c.f 8 2
  if c.f 0 8 % 32 ≠ 0 ∨ n = 0 ∨ most < n ∨ !c.zero rsv (24 - rsv) then Reply.err s stBAD_ARG
  else match c.readFails (n * size) with
    | some st => Reply.err s st
    | none => runBlocks all f (c.f 0 8) size statusAt (cutBlocks size n c.rd) s []

/-! ## Final completions (R18) -/

/-- Give a DEFERRED command its final completion. -/
def State.finish (s : State) (d : Dfr) (status : Nat) (result : Nat := 0) : State :=
  let hf := { s.io.hf with deferred := s.io.hf.deferred.erase d }
  let s := { s with io := { s.io with hf := hf } }
  let s := s.complete { sq := d.sq, tag := d.tag, status := status, result := result, gen := d.gen, final := true }
  { s with io := s.io.settle d.sq }

/-- The oldest DEFERRED command of an opcode. -/
def State.deferredOp (s : State) (op : Nat) : Option Dfr := s.io.hf.deferred.find? (fun d => d.opcode == op)
/-- The DEFERRED command of an opcode and key. -/
def State.deferredKey (s : State) (op key : Nat) : Option Dfr :=
  s.io.hf.deferred.find? (fun d => d.opcode == op && d.key == key)

/-- Complete the descriptors of a transmit ring that are over, in descriptor order (R474, R478). -/
def State.flushTx (s : State) (n : Nat) : Nat → State
  | 0 => s
  | fuel + 1 =>
    match s.io.hf.deferred.find? (fun d => d.sq == n && d.opcode == 0x1001) with
    | none => s
    | some d =>
      match Tbl.get? s.io.hf.txDone d.key with
      | none => s
      | some st =>
        let hf := { s.io.hf with deferred := s.io.hf.deferred.erase d, txDone := Tbl.del s.io.hf.txDone d.key }
        let s := { s with io := { s.io with hf := hf } }
        let s := s.complete { sq := d.sq, tag := d.tag, status := st, gen := d.gen }
        ({ s with io := s.io.settle n }).flushTx n fuel

/-- The PKT_TX of a key is over. -/
def State.txOver (s : State) (key : Option Nat) (status : Nat) : State :=
  match key.bind fun k => s.deferredKey 0x1001 k with
  | none => s
  | some d =>
    let s := { s with io := { s.io with hf := { s.io.hf with txDone := Tbl.put s.io.hf.txDone d.key status } } }
    s.flushTx d.sq s.io.hf.deferred.length

/-- Complete the descriptors at the head of a receive ring that were turned away. -/
def State.flushRx (s : State) (n : Nat) : Nat → State
  | 0 => s
  | fuel + 1 =>
    match s.io.hf.rxBufs.find? (fun b => b.sq == n) with
    | none => s
    | some b =>
      if b.status = 0 then s
      else
        let s := { s with io := { s.io with hf := { s.io.hf with rxBufs := s.io.hf.rxBufs.erase b } } }
        (s.complete { sq := n, tag := b.tag, status := b.status, gen := b.gen }).flushRx n fuel

/-- Finish the oldest DEFERRED command of an opcode, if there is one. -/
def State.finishOp (s : State) (op status : Nat) (result : Nat := 0) : State :=
  match s.deferredOp op with
  | some d => s.finish d status result
  | none => s

/-- Finish the DEFERRED command of an opcode and key, if there is one. -/
def State.finishKey (s : State) (op key status : Nat) (result : Nat := 0) : State :=
  match s.deferredKey op key with
  | some d => s.finish d status result
  | none => s

end Sys2Proof.Machine
end

