-- ==== Sys2Proof/Machine/Tables.lean ====
section
/-!
DEFINITION. Sys2Proof/Machine/Tables.lean: the Postcode tables (13_postcode_tables): placement, records, digests,
change sequence numbers, node contexts with their routes, identities and mirror.
-/

namespace Sys2Proof.Machine

/-! ## Placement of the cuckoo tables (R369, R370, R384 to R386) -/

/-- Rated entries of each table (R369). -/
def ratedEntries : Nat → Nat
  | 3 => 65536
  | 4 => 32768
  | 5 => 4096
  | _ => 131072

/-- Buckets in each bank of a cuckoo table. -/
def bankBuckets : Nat → Nat
  | 3 => 9216
  | 4 => 4608
  | _ => 18432

/-- First slot of a key's candidate bucket in bank 0 or 1. -/
def candBucket (seed table bank key : Nat) : Nat :=
  4 * (bank * bankBuckets table + Config.cuckooHash seed table bank key % bankBuckets table)

/-- The four slots of a bucket. -/
def bucketSlots (b : Nat) : List Nat := [b, b + 1, b + 2, b + 3]

/-- The first free slot of a bucket. -/
def Place.free (p : Place) (b : Nat) : Option Nat := (bucketSlots b).find? fun k => (Tbl.get? p.slots k).isNone

/-- The other candidate bucket of the entry in a slot. -/
def Place.other (p : Place) (seed table k : Nat) : Nat :=
  let key := Tbl.getD p.slots k 0
  if k < 4 * bankBuckets table then candBucket seed table 1 key else candBucket seed table 0 key

/-- The search phase: paths of slots, newest first, in breadth-first order; one bucket read for each of `fuel`.
The result is a path with the free slot at its head (R384). -/
def Place.search (p : Place) (seed table : Nat) : Nat → List (List Nat) → Option (List Nat)
  | 0, _ => none
  | _ + 1, [] => none
  | fuel + 1, path :: rest =>
    let b := p.other seed table (path.headD 0)
    match p.free b with
    | some f => some (f :: path)
    | none =>
      let more := if path.length < 8 then (bucketSlots b).map (· :: path) else []
      p.search seed table fuel (rest ++ more)

/-- The execution phase, last move first: the keys moved, and the slot left for the new entry. -/
def Place.shift (slots : Tbl Nat) : List Nat → List Nat → Tbl Nat × List Nat × Option Nat
  | dst :: src :: rest, moved =>
    let key := Tbl.getD slots src 0
    Place.shift (Tbl.put slots dst key) (src :: rest) (key :: moved)
  | [last], moved => (slots, moved, some last)
  | [], moved => (slots, moved, none)

/-- Place a new key (R384): the placement and the keys moved, or none where there is no room. -/
def Place.insert (p : Place) (seed table key : Nat) : Option (Place × List Nat) :=
  let b0 := candBucket seed table 0 key
  let b1 := candBucket seed table 1 key
  match p.free b0, p.free b1 with
  | some k, _ => some ({ p with slots := Tbl.put p.slots k key }, [])
  | none, some k => some ({ p with slots := Tbl.put p.slots k key }, [])
  | none, none =>
    match p.search seed table 40 ((bucketSlots b0 ++ bucketSlots b1).map fun k => [k]) with
    | some path =>
      match Place.shift p.slots path [] with
      | (slots, moved, some k) => some ({ p with slots := Tbl.put slots k key }, moved)
      | _ => none
    | none =>
      if p.stash.length < 64 then some ({ p with stash := p.stash ++ [key] }, []) else none

/-- Take a key out; a freed slot takes a stash entry for which its bucket is a candidate (R386). -/
def Place.remove (p : Place) (seed table key : Nat) : Place × List Nat :=
  match p.slots.find? fun q => q.2 == key with
  | some (k, _) =>
    let slots := Tbl.del p.slots k
    let b := k / 4 * 4
    match p.stash.find? fun q => candBucket seed table 0 q == b || candBucket seed table 1 q == b with
    | some q => ({ slots := Tbl.put slots k q, stash := p.stash.erase q }, [q])
    | none => ({ p with slots := slots }, [])
  | none => ({ p with stash := p.stash.erase key }, [])

/-- The placement of a cuckoo table. -/
def Pt.place (p : Pt) : Nat → Place
  | 1 => p.pRoute | 2 => p.pIdent | 3 => p.pMac | _ => p.pHost

/-- Set a placement; a relocated entry has `hit` 1 and `strike` 0 (R386). -/
def Pt.setPlace (p : Pt) (table : Nat) (q : Place) (moved : List Nat) : Pt :=
  match table with
  | 1 => { p with pRoute := q }
  | 2 => { p with pIdent := q }
  | 3 =>
    { p with
      pMac := q
      mac := p.mac.map fun e => if moved.contains e.1 then (e.1, { e.2 with hit := true, strike := false }) else e }
  | _ =>
    { p with
      pHost := q
      host := p.host.map fun e => if moved.contains e.1 then (e.1, { e.2 with hit := true }) else e }

/-- Entries of a table. -/
def Pt.count (p : Pt) : Nat → Nat
  | 0 => p.ctx.length | 1 => p.route.length | 2 => p.ident.length
  | 3 => p.mac.length | 4 => p.host.length | _ => p.lpm.length

/-- Find a place for a new key of a cuckoo table. -/
def Pt.room (p : Pt) (table key : Nat) : Option Pt :=
  if ratedEntries table ≤ p.count table then none
  else (Place.insert (p.place table) p.seed table key).map fun r => p.setPlace table r.1 r.2

/-- Give up a key's place. -/
def Pt.unplace (p : Pt) (table key : Nat) : Pt :=
  let r := Place.remove (p.place table) p.seed table key
  p.setPlace table r.1 r.2

/-! ## Records (R372 to R375) and digests (R399) -/

/-- Record byte 11 of a context. -/
def Ctx.b11 (c : Ctx) : Nat :=
  c.deny.toNat + 2 * c.relay.toNat + 4 * c.p2.toNat + 8 * c.p3.toNat + 16 * c.radioL.toNat + 32 * c.rec_.toNat

/-- Bytes 0 to 45 of a node context record. -/
def Ctx.record (c : Ctx) (num : Nat) : Bytes :=
  toLE 8 c.eui ++ toLE 3 c.addr ++ toLE 1 c.b11 ++ toLE 1 c.ep ++ toLE 5 c.ctr ++ toLE 4 c.lastHeard ++
    toLE 2 (match c.conn with | some k => k | none => 0x8000) ++ toLE 1 (c.hit.toNat + 2 * c.strike.toNat) ++
    toLE 15 0 ++ toLE 3 num ++ toLE 3 0

/-- Bytes 0 to 45 of a node route record. -/
def Route.record (r : Route) (addr : Nat) : Bytes :=
  toLE 3 addr ++ toLE 3 r.parent ++ toLE 1 r.depth ++ toLE 3 r.ctx ++ toLE 3 r.children ++ toLE 33 0

/-- Bytes 0 to 45 of a node identity record. -/
def identRecord (eui ctx : Nat) : Bytes := toLE 8 eui ++ toLE 3 ctx ++ toLE 35 0

/-- Bytes 0 to 45 of an Ethernet MAC record. -/
def MacEnt.record (e : MacEnt) (key : Nat) : Bytes :=
  toBE 6 (key % 2 ^ 48) ++ toLE 2 (key / 2 ^ 48) ++ toLE 2 e.dest ++
    toLE 1 (e.static_.toNat + 2 * e.sticky.toNat + 4 * e.discardSrc.toNat + 64 * e.hit.toNat + 128 * e.strike.toNat) ++
    toLE 35 0

/-- Bytes 0 to 45 of an IPv6 host or LPM record. -/
def IpEnt.record (e : IpEnt) (addr len : Nat) (v4 host : Bool) : Bytes :=
  toBE 16 addr ++ toLE 1 len ++ toLE 1 (v4.toNat + (if host then 128 * e.hit.toNat else 0)) ++ toLE 2 e.dest ++
    toBE 6 e.nextHop ++ toLE 2 e.vlan ++ toLE 18 0

/-- Every record of a table, bytes 0 to 45, in key order. -/
def Pt.records (p : Pt) : Nat → List Bytes
  | 0 => p.ctx.map fun e => e.2.record e.1
  | 1 => p.route.map fun e => e.2.record e.1
  | 2 => p.ident.map fun e => identRecord e.1 e.2
  | 3 => p.mac.map fun e => e.2.record e.1
  | 4 => p.host.map fun e => e.2.record (e.1 % 2 ^ 128) 0 (decide (2 ^ 128 ≤ e.1)) true
  | _ => p.lpm.map fun e =>
      e.2.record (e.1 % 2 ^ 128) (e.1 / 2 ^ 128 % 256) (decide (256 * 2 ^ 128 ≤ e.1)) false

/-- Length of a record's key bytes (R399). -/
def keyLen : Nat → Nat
  | 1 => 3
  | 4 => 17
  | 5 => 17
  | _ => 8

/-- Clear bits of a byte of a record. -/
def maskByte (bs : Bytes) (i keep : Nat) : Bytes := bs.set i ((bs.getD i 0#8) &&& BitVec.ofNat 8 keep)

/-- Zero `n` bytes from offset `i`. -/
def zeroBytes (bs : Bytes) (i n : Nat) : Bytes := bs.take i ++ List.replicate n 0#8 ++ bs.drop (i + n)

/-- A record with its volatile fields 0 (R399). -/
def stable (table : Nat) (r : Bytes) : Bytes :=
  match table with
  | 0 => zeroBytes (zeroBytes (maskByte r 11 0xDF) 12 13) 40 3
  | 1 => zeroBytes r 7 6
  | 2 => zeroBytes r 8 3
  | 3 => maskByte r 10 0x3F
  | _ => maskByte r 17 0x7F

/-- The segment of a record (R399). -/
def segOf (table : Nat) (r : Bytes) : Nat := crc32c (r.take (keyLen table)) % 4096

/-- The digest of a segment (R399). -/
def Pt.digest (p : Pt) (table seg : Nat) : Nat :=
  (((p.records table).filter fun r => segOf table r == seg).map fun r => crc64xz (stable table r)).sum % 2 ^ 64

/-! ## Change sequence numbers and change records (R398) -/

/-- A table's change sequence number advances. -/
def State.seqNext (s : State) (table : Nat) : State := s.countMod (F.PCT_SEQ_seq table)

/-- The device posts table events: not as a Shadow, but for entry-lost and rebuild records (R401). -/
def State.tableEvent (s : State) (table subtype op cause dest : Nat) (key : Bytes) : State :=
  if s.isShadow && subtype != 2 && subtype != 4 then s
  else s.event 0x06 (toLE 1 (table + 16 * subtype) ++ toLE 1 (op + 4 * cause) ++
    toLE 4 (s.fld (F.PCT_SEQ_seq table)) ++ toLE 2 dest ++ Bytes.slice key 0 8)

/-- A change: the sequence number advances and, where a cause is given, a change record is posted. -/
def State.changed (s : State) (table op : Nat) (cause : Option Nat) (dest : Nat) (key : Bytes) : State :=
  let s := s.seqNext table
  match cause with
  | some c => if table = 2 then s else s.tableEvent table 1 op c dest key
  | none => s

/-- The key bytes of a route's change record. -/
def routeKey (addr parent depth : Nat) : Bytes := toLE 3 addr ++ toLE 3 parent ++ toLE 1 depth ++ toLE 1 0

/-! ## Node contexts (R374, R376 to R378) -/

/-- The context bound to an EUI-64. -/
def State.ctxOfEui (s : State) (eui : Nat) : Option (Nat × Ctx) :=
  (Tbl.get? s.pt.ident eui).bind fun n => (Tbl.get? s.pt.ctx n).map fun c => (n, c)

/-- The context bound to a short address, through its route entry. -/
def State.ctxOfAddr (s : State) (addr : Nat) : Option (Nat × Ctx) :=
  if addr = 0 then none else s.pt.ctx.find? fun p => p.2.addr == addr

/-- Write a context's mirror record (R377); `fail` is a write that fails its retry. -/
def State.mirror (s : State) (n : Nat) (c : Ctx) (fail : Bool := false) : State :=
  if fail then (s.count F.PCT_MIRROR_write_err).mramFault 17 n
  else
    let m : Mirror := { eui := c.eui, addr := c.addr, b11 := c.b11, ep := c.ep, ctr := c.ctr }
    { s with nv := { s.nv with mirror := Tbl.put s.nv.mirror n m } }

/-- Set a context, its connection's copy (R378) and, where a mirrored field changes, its mirror record. -/
def State.setCtx (s : State) (n : Nat) (c : Ctx) (fail : Bool := false) : State :=
  let old := Tbl.get? s.pt.ctx n
  let s := { s with pt := { s.pt with ctx := Tbl.put s.pt.ctx n c } }
  let s := match c.conn with
    | some k =>
      let f : Conn → Conn := fun x => { x with eui := c.eui, b11 := c.b11, ep := c.ep, fc := c.ctr }
      { s with ml := { s.ml with conns := Tbl.upd s.ml.conns k f } }
    | none => s
  let same := match old with
    | some o => o.eui == c.eui && o.addr == c.addr && o.b11 == c.b11 && o.ep == c.ep && o.ctr == c.ctr
    | none => false
  if same then s else s.mirror n c fail

/-- Context numbers that may be assigned: free, and not freed within the last second (R376). -/
def State.freeCtx (s : State) : Option Nat :=
  (List.range 131072).find? fun n =>
    (Tbl.get? s.pt.ctx n).isNone && s.pt.freedCtx.all fun p => p.1 != n || decide (p.2 + secNs 1 ≤ s.now)

/-- Count of contexts in use (`MSH_NODE_CNT`). -/
def State.nodeCnt (s : State) : State := s.setFld F.MSH_NODE_CNT_contexts s.pt.ctx.length

/-- Change the number of children of an address. -/
def Pt.childCount (p : Pt) (addr : Nat) (f : Nat → Nat) : Pt :=
  { p with route := Tbl.upd p.route addr fun r => { r with children := f r.children } }

/-- Write a route entry (R245): its parent and its depth; children are counted by the hardware (R376). -/
def State.setRoute (s : State) (addr parent depth ctx : Nat) (cause : Option Nat) : State :=
  match Tbl.get? s.pt.route addr with
  | some r =>
    let pt := (s.pt.childCount r.parent (· - 1)).childCount parent (· + 1)
    let pt := { pt with route := Tbl.upd pt.route addr fun q => { q with parent := parent, depth := depth, ctx := ctx } }
    { s with pt := pt }.changed 1 1 cause 0 (routeKey addr parent depth)
  | none =>
    match s.pt.room 1 addr with
    | some pt =>
      let pt := pt.childCount parent (· + 1)
      let pt := { pt with route := Tbl.put pt.route addr { parent := parent, depth := depth, ctx := ctx } }
      { s with pt := pt }.changed 1 0 cause 0 (routeKey addr parent depth)
    | none => s

/-- Remove a route entry. -/
def State.delRoute (s : State) (addr : Nat) (cause : Option Nat) : State :=
  match Tbl.get? s.pt.route addr with
  | some r =>
    let pt := s.pt.childCount r.parent (· - 1)
    let pt := { pt with route := Tbl.del pt.route addr }.unplace 1 addr
    { s with pt := pt }.changed 1 2 cause 0 (routeKey addr r.parent r.depth)
  | none => s

/-- Bring in a new context for an EUI-64 with its identity entry; none where there is no room. -/
def State.newCtx (s : State) (c : Ctx) (cause : Option Nat) : Option (Nat × State) :=
  match s.freeCtx, s.pt.room 2 c.eui with
  | some n, some pt =>
    let s := { s with pt := { pt with ident := Tbl.put pt.ident c.eui n } }
    let s := (s.setCtx n c).changed 0 0 cause 0 (toLE 8 c.eui)
    some (n, (s.seqNext 2).nodeCnt)
  | _, _ => none

/-- A node's path to the root (R245): the addresses from the node up to its depth-1 ancestor, at most six. -/
def State.path (s : State) : Nat → Nat → Option (List Nat)
  | 0, _ => none
  | k + 1, addr =>
    match Tbl.get? s.pt.route addr with
    | none => none
    | some r => if r.parent = 0 then some [addr] else (s.path k r.parent).map (addr :: ·)

/-- The connection of an address that is Active or Updating. -/
def Ml.connOf (m : Ml) (addr : Nat) : Option (Nat × Conn) :=
  m.conns.find? fun p => p.2.addr == addr && p.2.state != 3

/-- The connection of an address in any state but Free. -/
def Ml.connAny (m : Ml) (addr : Nat) : Option (Nat × Conn) := m.conns.find? fun p => p.2.addr == addr

/-- The route to a destination (R245): its path, and its depth-1 ancestor's connection; none where the walk finds
no route. -/
def State.routeTo (s : State) (addr : Nat) : Option (List Nat × Nat × Conn) :=
  match s.path 6 addr with
  | none => none
  | some p => (s.ml.connOf (p.getLastD 0)).map fun c => (p, c.1, c.2)

/-- An address is an ancestor of another, or the same. -/
def State.above (s : State) (anc : Nat) : Nat → Nat → Bool
  | 0, a => a == anc
  | k + 1, a => a == anc || match Tbl.get? s.pt.route a with
    | some r => r.parent != 0 && s.above anc k r.parent
    | none => false

/-- Depth of the deepest node below an address, counted from it. -/
def State.height (s : State) : Nat → Nat → Nat
  | 0, _ => 0
  | k + 1, addr =>
    ((s.pt.route.filter fun p => p.2.parent == addr).map fun p => s.height k p.1 + 1).foldl max 0

/-- Set the depths below an address again after it has moved. -/
def State.redepth (s : State) : Nat → Nat → State
  | 0, _ => s
  | k + 1, addr =>
    match Tbl.get? s.pt.route addr with
    | none => s
    | some r =>
      let kids := s.pt.route.filter fun p => p.2.parent == addr
      let pt := { s.pt with route := s.pt.route.map fun p =>
        if p.2.parent = addr then (p.1, { p.2 with depth := r.depth + 1 }) else p }
      ({ s with pt := pt }).each kids fun s p => s.redepth k p.1

end Sys2Proof.Machine
end

