-- ==== Sys2Proof/Machine/MeshSec.lean ====
section
/-!
DEFINITION. Sys2Proof/Machine/MeshSec.lean: mesh security (09_mesh_security): derived keys and their cache, the
checks on received frames, the downlink counter and its leases, key epochs.
-/

namespace Sys2Proof.Machine

/-- `n` random bytes, and the state after the draw. -/
def State.draw (s : State) (n : Nat) : Bytes × State := (Bytes.slice (Config.freeBytes n s.free) 0 n, s.useFree)

/-! ## Epochs and roots (R267, R590) -/

/-- The current key epoch. -/
def State.epoch? (s : State) : Option Nat := s.ms.rec_.map (·.epoch)

/-- The roots of an epoch that is current, or previous during grace. -/
def State.rootsOf (s : State) (epoch : Nat) : Option Roots :=
  s.ms.rec_.bind fun r =>
    if r.epoch = epoch then some r.roots
    else match r.prev with
      | some (p, ro) => if p = epoch then some ro else none
      | none => none

/-- A vault slot is in use (R296). -/
def State.slotInUse (s : State) (slot : Nat) : Bool :=
  match s.ms.rec_ with
  | none => s.ms.first.any fun p => p.roots.node == slot || p.roots.net == slot
  | some r => r.roots.node == slot || r.roots.net == slot ||
      r.prev.any (fun p => p.2.node == slot || p.2.net == slot) ||
      r.pending.any (fun p => p.roots.node == slot || p.roots.net == slot)

/-- `TEL_FAULT.vault_lost` follows its condition: a lost slot is in use (R302, R549). -/
def State.vaultFault (s : State) : State :=
  s.setFld F.TEL_FAULT_vault_lost (s.kv.lost.any s.slotInUse).toNat

/-- The key of a working copy: the live pair's mask taken off (R297). -/
def KvWork.key (w : KvWork) : Bytes := if w.sel then xorBytes w.m1 w.x1 else xorBytes w.m0 w.x0

/-- A loaded slot's key where its policy has the use bit (R294, R295). -/
def State.slotKey (s : State) (slot useBit : Nat) : Option Bytes :=
  match Tbl.get? s.kv.work slot with
  | some w => if bitN w.policy useBit then some w.key else none
  | none => none

/-! ## Derived keys (R268, R270) -/

/-- The device key of an EUI-64 under a node root. -/
def kDev (root : Bytes) (eui : Nat) : Bytes := kdf128 root "PML-dev" (toLE 8 eui)
/-- The epoch key. -/
def kEp (dev : Bytes) (epoch : Nat) : Bytes := kdf128 dev "PML-epoch" (toLE 1 epoch)
/-- The join key. -/
def kJoin (dev : Bytes) : Bytes := kdf128 dev "PML-join" []
/-- The group key. -/
def kGrp (root : Bytes) (epoch : Nat) : Bytes := kdf128 root "PML-group" (toLE 1 epoch)

/-- K_ep of an EUI-64 in an epoch; none where the root is absent. -/
def State.keyOf (s : State) (eui epoch : Nat) : Option Bytes :=
  (s.rootsOf epoch).bind fun r => (s.slotKey r.node 0).map fun k => kEp (kDev k eui) epoch

/-- K_join of an EUI-64 under the roots of an epoch. -/
def State.joinKey (s : State) (eui epoch : Nat) : Option Bytes :=
  (s.rootsOf epoch).bind fun r => (s.slotKey r.node 0).map fun k => kJoin (kDev k eui)

/-- K_grp of an epoch. -/
def State.groupKey (s : State) (epoch : Nat) : Option Bytes :=
  (s.rootsOf epoch).bind fun r => (s.slotKey r.net 0).map fun k => kGrp k epoch

/-- What the checks need of a node (R378): its EUI-64 and counter record. -/
structure NodeRec where
  eui : Nat
  rec_ : Bool
  ep : Nat
  ctr : Nat
  deriving DecidableEq, Repr

/-- The node of a short address: its context in Full, the copy in its connection in Dawn and Doze (R378). -/
def State.nodeRec (s : State) (addr : Nat) : Option NodeRec :=
  if s.pw.mode = .full then
    (s.ctxOfAddr addr).map fun p => { eui := p.2.eui, rec_ := p.2.rec_, ep := p.2.ep, ctr := p.2.ctr }
  else
    (s.ml.connAny addr).map fun p => { eui := p.2.eui, rec_ := bitN p.2.b11 5, ep := p.2.ep, ctr := p.2.fc }

/-! ## The derived-key cache (R271, R272) -/

/-- The mask a cache entry uses. -/
def Ms.mask (m : Ms) (sel : Bool) : Bytes := if sel then m.mask1 else m.mask0

/-- KEY_REQUEST: a hit is counted and becomes the most recently used; a miss is counted and waits, once for each
entry. -/
def State.keyRequest (s : State) (addr epoch : Nat) : State :=
  match s.ms.cache.find? fun e => e.addr == addr && e.epoch == epoch with
  | some e =>
    ({ s with ms := { s.ms with cache := e :: s.ms.cache.erase e } }).count F.MSH_KCACHE_HIT_hits
  | none =>
    let s := s.count F.MSH_KCACHE_MISS_misses
    if s.ms.kreq.contains (addr, epoch) then s
    else { s with ms := { s.ms with kreq := s.ms.kreq ++ [(addr, epoch)] } }

/-- Insert an entry, the least recently used of a full set of four giving way. -/
def cacheInsert (c : List KeyEnt) (e : KeyEnt) : List KeyEnt :=
  let set := Config.cacheSet e.addr e.epoch
  let same := c.filter fun x => Config.cacheSet x.addr x.epoch == set
  match if same.length < 4 then none else same.getLast? with
  | some old => e :: c.erase old
  | none => e :: c

/-- KEY_DERIVATION: the oldest waiting request is derived and inserted. -/
def State.keyDerive (s : State) : State :=
  if !s.pllA then s else match s.ms.kreq with
  | [] => s
  | (addr, epoch) :: rest =>
    let s := { s with ms := { s.ms with kreq := rest } }
    match (s.nodeRec addr).bind fun n => s.keyOf n.eui epoch with
    | some k =>
      let e : KeyEnt := { addr := addr, epoch := epoch, sel := s.ms.maskSel, x := xorBytes k (s.ms.mask s.ms.maskSel) }
      { s with ms := { s.ms with cache := cacheInsert s.ms.cache e } }
    | none => s

/-- Invalidate the cache entries that satisfy `p` (R272). -/
def State.cacheDrop (s : State) (p : KeyEnt → Bool) : State :=
  { s with ms := { s.ms with cache := s.ms.cache.filter fun e => !p e } }

/-- Re-mask one working copy: a fresh mask into the idle pair, then the flip (R297). -/
def KvWork.remask (w : KvWork) (m : Bytes) : KvWork :=
  if w.sel then { w with m0 := m, x0 := xorBytes w.key m, sel := false }
  else { w with m1 := m, x1 := xorBytes w.key m, sel := true }

/-- Re-mask every loaded slot in order. -/
def State.remaskSlots (s : State) : List Nat → State
  | [] => s
  | k :: ks =>
    let (m, s) := s.draw 32
    let s := { s with kv := { s.kv with
      work := Tbl.upd s.kv.work k fun w => w.remask (Bytes.slice m 0 w.size) } }
    s.remaskSlots ks

/-- The re-masking pass (R272, R297): every loaded slot, then the unused cache mask, to which the entries move. -/
def State.remask (s : State) : State :=
  let s := s.remaskSlots (Tbl.keys s.kv.work)
  let (m, s) := s.draw 16
  let old := s.ms.maskSel
  let ms := if old then { s.ms with mask0 := m, maskSel := false } else { s.ms with mask1 := m, maskSel := true }
  let cache := ms.cache.map fun e =>
    { e with sel := ms.maskSel, x := xorBytes (xorBytes e.x (s.ms.mask e.sel)) m }
  let s := { s with ms := { ms with cache := cache }, kv := { s.kv with remaskAt := s.now } }
  s.countMod F.KV_REMASK_passes

/-! ## CCM* framing (R273 to R275) -/

/-- The nonce of R274. -/
def nonceOf (kind sender counter epoch receiver : Nat) : Bytes :=
  toLE 1 kind ++ toLE 3 sender ++ toLE 5 counter ++ toLE 1 epoch ++ toLE 3 receiver

/-- Header bytes 0 to 12 of a secured frame (R196). -/
def secHeader (type dst src counter epoch : Nat) (pend ackReq : Bool) : Bytes :=
  toLE 1 (type + 8 + 16 * pend.toNat + 32 * ackReq.toNat) ++ toLE 3 dst ++ toLE 3 src ++ toLE 5 counter ++
    toLE 1 epoch

/-- A secured link frame the root sends, with its FCS. -/
def sealFrame (key : Bytes) (type dst counter epoch : Nat) (pend ackReq : Bool) (payload : Bytes) : Bytes :=
  let h := secHeader type dst 0 counter epoch pend ackReq
  withFcs (h ++ ccmSeal key (nonceOf 1 0 counter epoch dst) h payload)

/-- The authenticated data of an inner block (R275). -/
def innerAad (nh who : Nat) (head : Bytes) : Bytes := toLE 1 nh ++ toLE 3 who ++ head

/-- An inner block the root seals to a final destination. -/
def sealInner (key : Bytes) (nh dest counter epoch : Nat) (content : Bytes) : Bytes :=
  let h := toLE 5 counter ++ toLE 1 epoch
  h ++ ccmSeal key (nonceOf 2 0 counter epoch dest) (innerAad nh dest h) content

/-! ## Checks on received units (R278, R279) -/

/-- The outcome of the checks. -/
inductive SecCheck where
  | badEpoch | noContext | badMic | replay
  | dup (payload : Bytes)
  | new (payload : Bytes)
  deriving DecidableEq, Repr

/-- The counter judgement of R279: none is a replay, true is new, false a duplicate. -/
def judgeCtr (cur : Nat) (n : NodeRec) (epoch ctr : Nat) : Option Bool :=
  let cmp := if n.ctr < ctr then some true else if n.ctr = ctr then some false else none
  if epoch = cur then (if n.rec_ && n.ep == cur then cmp else some true)
  else if n.rec_ && n.ep == epoch then cmp
  else if n.rec_ && n.ep == cur then none
  else some true

/-- The checks of R278 in order, for a unit whose sender is `addr`. -/
def State.secCheck (s : State) (kind addr ctr epoch : Nat) (aad sealed : Bytes) : SecCheck :=
  match s.epoch?, s.rootsOf epoch with
  | some cur, some _ =>
    match s.nodeRec addr with
    | none => .noContext
    | some n =>
      match (s.keyOf n.eui epoch).bind fun k => ccmOpen k (nonceOf kind addr ctr epoch 0) aad sealed with
      | none => .badMic
      | some p =>
        match judgeCtr cur n epoch ctr with
        | none => .replay
        | some true => .new p
        | some false => .dup p
  | _, _ => .badEpoch

/-- Write the failing sender and reason (R281). -/
def State.secLast (s : State) (reason addr : Nat) : State :=
  (s.setFld F.MSH_SEC_LAST_reason reason).setFld F.MSH_SEC_LAST_addr addr

/-- Count a failed check (R278, R281). -/
def State.secFail (s : State) (c : SecCheck) (addr : Nat) : State :=
  match c with
  | .badEpoch => (s.count F.MSH_SEC_ERR2_bad_epoch).secLast 1 addr
  | .noContext => (s.count F.MSH_SEC_ERR2_no_context).secLast 2 addr
  | .badMic =>
    let s := (s.count F.MSH_SEC_ERR_mic_fail).secLast 3 addr
    { s with ms := { s.ms with micCount := s.ms.micCount + 1, micAddr := addr } }
  | .replay => (s.count F.MSH_SEC_ERR_replay).secLast 4 addr
  | _ => s

/-- Post a security event (R293). -/
def State.secEvent (s : State) (subtype addr value : Nat) : State :=
  s.event 0x05 (toLE 1 subtype ++ toLE 3 addr ++ toLE 5 value ++ toLE 1 (s.epoch?.getD 0) ++ toLE 6 0)

/-- MIC_WINDOW_END: at a multiple of 60 s of the RTC, or at a set or shift (R281). -/
def State.micWindowEnd (s : State) : State :=
  let n := s.ms.micCount
  let lim := s.fld F.MSH_SEC_CFG_mic_evt
  let s := if lim != 0 && decide (lim ≤ n) then
      (s.secEvent 1 s.ms.micAddr n).setFld F.MSH_SEC_STAT_mic_evt 1
    else s
  { s with ms := { s.ms with micCount := 0, micAddr := 0, micEnd := (s.rt.sec / 60 + 1) * 60 } }

/-- The uplink warning of R290, where a node's recorded counter first reaches it in an epoch. -/
def State.ulWarn (s : State) (n : NodeRec) (addr epoch ctr : Nat) : State :=
  let lim := 2 ^ 40 - 2 ^ 24
  let before := n.rec_ && n.ep == epoch && decide (lim ≤ n.ctr)
  if decide (lim ≤ ctr) && !before then (s.setFld F.MSH_SEC_STAT_ul_warn 1).secEvent 3 addr ctr else s

/-- Record an accepted frame's epoch and counter (R279, R377, R378): in Full in the context and its connection's
copy, in Doze in the copy alone, in Dawn nowhere (R291). -/
def State.recordCtr (s : State) (addr epoch ctr : Nat) (mirrorFail : Bool) : State :=
  let s := match s.nodeRec addr with
    | some n => if s.pw.mode = Mode.dawn then s else s.ulWarn n addr epoch ctr
    | none => s
  match s.pw.mode with
  | .full =>
    match s.ctxOfAddr addr with
    | some (k, c) => s.setCtx k { c with rec_ := true, ep := epoch, ctr := ctr } mirrorFail
    | none => s
  | .doze =>
    match s.ml.connAny addr with
    | some (k, _) =>
      { s with ml := { s.ml with conns := Tbl.upd s.ml.conns k fun c =>
          { c with ep := epoch, fc := ctr, b11 := c.b11 / 64 * 64 + c.b11 % 32 + 32 } } }
    | none => s
  | _ => s

/-! ## The downlink counter and its leases (R282 to R285, R290) -/

/-- Values below this may be used: the recorded `lease_end`; while a new lease waits for the Shadow's
acknowledgement, the end before it (R285, R504). -/
def State.leaseUsable (s : State) : Nat :=
  match s.ms.rec_ with
  | none => 0
  | some r => match s.tw.leaseOut with
    | some (_, e) => if e = r.leaseEnd ∧ !s.tw.leaseFree then r.leaseEnd - 2 ^ 20 else r.leaseEnd
    | none => r.leaseEnd

/-- A counter value can be taken now. -/
def State.canSecure (s : State) : Bool :=
  s.ms.rec_.isSome && decide (s.ms.ctr < s.leaseUsable) && decide (s.ms.ctr < 2 ^ 40)

/-- Take the next counter value (R282). -/
def State.takeCtr (s : State) : Nat × State := (s.ms.ctr, { s with ms := { s.ms with ctr := s.ms.ctr + 1 } })

/-- Record the lease end in MRAM; a failed write sets `lease_err` and is retried (R283). -/
def State.writeLease (s : State) (ok : Bool) : State :=
  match s.ms.rec_ with
  | none => s
  | some r =>
    if r.leaseEnd + 2 ^ 20 > 2 ^ 40 then s
    else if ok then
      let r := { r with leaseEnd := r.leaseEnd + 2 ^ 20 }
      let out := if s.tw.role == .lead then some (r.epoch, r.leaseEnd) else none
      let s : State := { s with
        ms := { s.ms with rec_ := some r, retry := false, stalled := false }
        nv := { s.nv with lease := some r }
        tw := { s.tw with leaseOut := out, leaseFree := false } }
      s.sendLease
    else ({ s with ms := { s.ms with retry := true } }).setFld F.MSH_SEC_STAT_lease_err 1

/-- 2^16 values remain below `lease_end` (R283). -/
def State.leaseLow (s : State) : Bool :=
  match s.ms.rec_ with
  | some r => decide (r.leaseEnd ≤ s.ms.ctr + 2 ^ 16)
  | none => false

/-- LEASE_EXTEND (R283). -/
def State.leaseExtend (s : State) (ok : Bool) : State :=
  if s.leaseLow && !s.ms.retry && !s.isShadow && s.tw.leaseOut.isNone then s.writeLease ok else s

/-- LEASE_WRITE_RETRY, at a slot boundary (R283). -/
def State.leaseRetry (s : State) (ok : Bool) : State := if s.ms.retry then s.writeLease ok else s

/-- The warning threshold (R290). -/
def State.dlWarnAt (s : State) : Nat := s.fld F.MSH_DL_WARN_HI_warn * 2 ^ 32 + s.fld F.MSH_DL_WARN_LO_warn

/-- DL_COUNTER_WARN (R290). -/
def State.dlWarn (s : State) : State :=
  if s.ms.rec_.isSome && !s.ms.warned && decide (s.dlWarnAt ≤ s.ms.ctr) then
    (({ s with ms := { s.ms with warned := true } }).setFld F.MSH_SEC_STAT_dl_warn 1).secEvent 2 0 s.ms.ctr
  else s

/-- DL_COUNTER_EXHAUSTED (R290). -/
def State.dlExhausted (s : State) : State :=
  if s.ms.rec_.isSome && !s.ms.exhausted && decide (2 ^ 40 ≤ s.ms.ctr) then
    (({ s with ms := { s.ms with exhausted := true } }).setFld F.MSH_SEC_STAT_dl_exhausted 1).secEvent 5 0 s.ms.ctr
  else s

/-- At a start (R284, R590): the counter resumes at the recorded `lease_end`, and the next lease is written. -/
def State.restoreLease (s : State) : State :=
  match s.nv.lease with
  | none => s
  | some r =>
    let start := max r.leaseEnd r.peerEnd
    let r' := if start + 2 ^ 20 ≤ 2 ^ 40 then { r with leaseEnd := start + 2 ^ 20 } else { r with leaseEnd := start }
    { s with ms := { s.ms with rec_ := some r', ctr := start }, nv := { s.nv with lease := some r' } }

/-! ## Key epochs (R286 to R289, R292) -/

/-- Contexts that hold no record of the current epoch (R289). -/
def State.notCurrent (s : State) : Nat :=
  (s.pt.ctx.filter fun p => !(p.2.rec_ && some p.2.ep == s.epoch?)).length

/-- The grace period ends: the previous epoch, its cache entries and its root slots are released (R289). -/
def State.endGrace (s : State) : State :=
  match s.ms.rec_ with
  | none => s
  | some r => match r.prev with
    | none => s
    | some (p, _) =>
      let n := s.notCurrent
      let r := { r with prev := none, graceEnd := 0 }
      let s := { s with ms := { s.ms with rec_ := some r }, nv := { s.nv with lease := some r } }
      ((s.cacheDrop fun e => e.epoch == p).secEvent 4 0 n).vaultFault

/-- GRACE_END. -/
def State.graceEnd (s : State) : State :=
  match s.ms.rec_ with
  | some r => if r.prev.isSome && decide (r.graceEnd ≤ s.now) then s.endGrace else s
  | none => s

/-- The pending rotation. -/
def State.pendingRot (s : State) : Option Rot :=
  match s.ms.rec_ with
  | some r => r.pending
  | none => s.ms.first

/-- Set or clear the pending rotation in the lease record.  With no epoch in force it waits beside it. -/
def State.setPending (s : State) (p : Option Rot) : State :=
  match s.ms.rec_ with
  | some r =>
    let r := { r with pending := p }
    { s with ms := { s.ms with rec_ := some r }, nv := { s.nv with lease := some r } }
  | none => { s with ms := { s.ms with first := p } }

/-- EPOCH_ROTATION (R286): at its slot boundary, in Full. -/
def State.rotate (s : State) : State :=
  match s.pendingRot with
  | none => s
  | some p =>
    if s.pw.mode ≠ .full ∨ s.ml.slot < p.at_slot then s
    else
      let prev := s.ms.rec_.map fun r => (r.epoch, r.roots)
      let r : LeaseRec :=
        { epoch := p.epoch, roots := p.roots, leaseEnd := 2 ^ 20, prev := prev, peerEnd := 2 ^ 20,
          graceEnd := if prev.isSome then s.now + secNs (p.graceH * 3600) else 0 }
      let s := { s with
        ms := { s.ms with
          rec_ := some r, first := none, ctr := 0, retry := false, stalled := false, warned := false,
          exhausted := false, noticed := [] }
        nv := { s.nv with lease := some r }
        tw := { s.tw with leaseOut := none } }
      let s := s.setFld F.MSH_SEC_STAT_dl_exhausted 0
      let s := s.cacheDrop fun _ => true
      (s.finishOp 0x0120 stOK).vaultFault

/-- A slot that MESH_EPOCH_SET may name: loaded, with mesh-root use. -/
def State.rootSlot (s : State) (slot : Nat) : Bool := (s.slotKey slot 0).isSome

/-- MESH_EPOCH_SET (R292, R590). -/
def State.epochSet (s : State) (c : Cmd) : Reply :=
  let op := c.f 0 1
  if op = 1 then
    match s.ms.rec_.bind (·.prev) with
    | some _ => Reply.ok s.endGrace
    | none => Reply.err s stBAD_ARG
  else
    let e := c.f 1 1
    let g := c.f 4 2
    let node := c.f 2 1
    let net := c.f 3 1
    let epochBad : Bool := match s.ms.rec_ with
      | some r => decide (e ≠ (r.epoch + 1) % 256)
      | none => false
    if op ≠ 0 ∨ epochBad ∨ g = 0 ∨ 8760 < g ∨ 64 ≤ node ∨ 64 ≤ net ∨ !s.rootSlot node ∨ !s.rootSlot net ∨
        !c.zero 11 13 then
      Reply.err s stBAD_ARG
    else if c.f 6 5 < s.ml.slot + 400 then Reply.err s stLATE
    else if s.pendingRot.isSome ∨ (s.ms.rec_.bind (·.prev)).isSome then Reply.err s stNO_ROOM
    else
      let p : Rot := { epoch := e, roots := ⟨node, net⟩, graceH := g, at_slot := c.f 6 5 }
      Reply.defer (s.setPending (some p))

/-- The pending rotation is cleared when its command is discarded (R292). -/
def State.undoEpochSet (s : State) : State := s.setPending none

/-! ## Views -/

/-- Registers of mesh security whose value lives in the state above. -/
def State.secView (s : State) (off : Nat) : Option Word :=
  let r := s.ms.rec_
  let none_ := r.isNone
  let w (n : Nat) : Option Word := some (BitVec.ofNat 32 n)
  let prev := r.bind (·.prev)
  if off = 0x140200 then
    w ((if none_ then 2 ^ 18 else 0) + (if s.pendingRot.isSome then 2 ^ 17 else 0) +
      (if prev.isSome then 2 ^ 16 else 0) + (prev.map (·.1)).getD 0 * 256 + s.epoch?.getD 0)
  else if off = 0x140204 then
    let p := (prev.map (·.2)).getD ⟨0, 0⟩
    let c := (r.map (·.roots)).getD ⟨0, 0⟩
    w (p.net * 2 ^ 24 + p.node * 2 ^ 16 + c.net * 2 ^ 8 + c.node)
  else if off = 0x140208 then
    w (if prev.isSome then ((r.map (·.graceEnd)).getD 0 - s.now + 999999999) / 1000000000 else 0)
  else if off = 0x140210 then w (s.ms.ctr % 2 ^ 32)
  else if off = 0x140214 then w (s.ms.ctr / 2 ^ 32 % 256)
  else if off = 0x140218 then w ((r.map (·.leaseEnd)).getD 0 % 2 ^ 32)
  else if off = 0x14021C then w ((r.map (·.leaseEnd)).getD 0 / 2 ^ 32 % 256)
  else none

/-! ## Meanings -/

/-- KEY_REQUEST (R270, R272). -/
def execKeyRequest (t : Nat) (addr epoch : Nat) (s : State) : Host.Outcome State Fault Refusal :=
  run t s fun s => s.keyRequest addr epoch

/-- KEY_DERIVATION (R268, R271). -/
def execKeyDerivation (t : Nat) (s : State) : Host.Outcome State Fault Refusal := run t s State.keyDerive

/-- REMASK_PASS (R297 to R299); `late` is a pass that has not completed within 50 ms of its start. -/
def execRemaskPass (t : Nat) (late : Bool) (s : State) : Host.Outcome State Fault Refusal :=
  run t s fun s => if s.kv.ready then s.remask.when late fun s => s.setFld F.KV_STAT_remask_late 1 else s

/-- MIC_WINDOW_END (R281). -/
def execMicWindowEnd (t : Nat) (s : State) : Host.Outcome State Fault Refusal :=
  run t s fun s => if s.ms.micEnd ≤ s.rt.sec then s.micWindowEnd else s

/-- LEASE_EXTEND (R283). -/
def execLeaseExtend (t : Nat) (ok : Bool) (s : State) : Host.Outcome State Fault Refusal :=
  run t s fun s => s.leaseExtend ok

/-- LEASE_WRITE_RETRY (R283). -/
def execLeaseWriteRetry (t : Nat) (ok : Bool) (s : State) : Host.Outcome State Fault Refusal :=
  run t s fun s => s.leaseRetry ok

/-- EPOCH_ROTATION (R286, R590). -/
def execEpochRotation (t : Nat) (s : State) : Host.Outcome State Fault Refusal := run t s State.rotate

/-- GRACE_END (R289). -/
def execGraceEnd (t : Nat) (s : State) : Host.Outcome State Fault Refusal := run t s State.graceEnd

/-- DL_COUNTER_WARN (R290). -/
def execDlCounterWarn (t : Nat) (s : State) : Host.Outcome State Fault Refusal := run t s State.dlWarn

/-- DL_COUNTER_EXHAUSTED (R290). -/
def execDlCounterExhausted (t : Nat) (s : State) : Host.Outcome State Fault Refusal := run t s State.dlExhausted

/-- MESH_EPOCH_SET (R292). -/
def execMeshEpochSet (t : Nat) (c : Cmd) (s : State) : Host.Outcome State Fault Refusal :=
  ringCommand 0x0120 t c (fun s => s.epochSet c) s

end Sys2Proof.Machine
end

