-- ==== Sys2Proof/Machine/Buffer.lean ====
section
/-!
DEFINITION. Sys2Proof/Machine/Buffer.lean: the packet buffer (14_sorter_buffering): cells, pool states, headroom,
the control reserve, admission and Ethernet flow control.
-/

namespace Sys2Proof.Machine

/-- Cells a packet of `n` bytes occupies (R416). -/
def cellsOf (n : Nat) : Nat := (n + 32 + 255) / 256

/-! ## Lossless units (R431) -/

/-- `fc_mode` in force: 0 none, 1 802.3x, 2 PFC; 0b11 acts as none. -/
def Io.fcMode (io : Io) (p : Nat) : Nat :=
  let m := io.fld (F.ETH_FC_CFG_fc_mode p)
  if m = 3 then 0 else m

/-- The lossless unit a frame of a priority belongs to. -/
def Io.unitOf (io : Io) (p prio : Nat) : Option (Nat × Nat) :=
  if io.fcMode p = 1 then some (p, 0)
  else if io.fcMode p = 2 && bitN (io.fld (F.ETH_FC_CFG_pfc_en p)) prio then some (p, prio)
  else none

/-- The lossless units of a port. -/
def Io.units (io : Io) (p : Nat) : List Nat :=
  if io.fcMode p = 1 then [0]
  else if io.fcMode p = 2 then (List.range 8).filter fun k => bitN (io.fld (F.ETH_FC_CFG_pfc_en p)) k
  else []

/-! ## Occupancy -/

/-- The MPDUs of the PPDUs that wait on a radio, or are on air. -/
def Radio.mpdus (r : Radio) : List Mpdu :=
  (r.queue.map (·.mpdus)).flatten ++ match r.tx with
    | some (.wifi p _) => p.mpdus
    | _ => []

/-- Every packet in the buffer: at the Sorters' inputs, in the queues, under cut-through. -/
def State.packets (s : State) : List Packet :=
  s.sr.input.map (·.2) ++ (s.qm.queues.map (·.2.pkts)).flatten ++ s.sr.cutting.map (·.2) ++
    ((s.wl.clients.map (·.2.retry)).flatten ++ s.lh.l.mpdus ++ s.lh.h.mpdus).map (·.pkt)

/-- Cells of the packets that satisfy a condition. -/
def cellSum (ps : List Packet) (f : Packet → Bool) : Nat := ((ps.filter f).map (·.cells)).sum

/-- Cells of the control frames: packets of the Postmasters and the link layer's own frames (R417). -/
def State.ctrlCells (s : State) : Nat :=
  cellSum s.packets (fun p => p.charge == .control) +
    (s.ml.dl.filter fun d => match d.kind with
      | .data _ => false
      | .keepAlive => false
      | _ => true).length

/-- Cells held by downlink mesh frames that wait for their receipt. -/
def State.dlCells (s : State) : Nat :=
  ((s.ml.dl.filter fun d => match d.kind with
    | .data _ => true
    | _ => false).map fun d => cellsOf (max d.psdu.length d.payload.length)).sum

/-- Cells of payloads held in Doze (R53). -/
def State.heldCells (s : State) : Nat := (s.pw.held.map (·.cells)).sum

/-- Cells of the control reserve. -/
def State.ctrlReserve (s : State) : Nat := s.fld F.SRT_ADM_CFG_ctrl_reserve

/-- Cells charged to the shared pool; control frames beyond the reserve are charged to it (R417). -/
def State.sharedUsed (s : State) : Nat :=
  cellSum s.packets (fun p => p.charge == .shared && !p.spilled) + s.dlCells + s.heldCells +
    (s.ctrlCells - s.ctrlReserve)

/-- Cells in a unit's headroom. -/
def State.headUsed (s : State) (p u : Nat) : Nat :=
  cellSum s.packets fun q => q.charge == .headroom p u && !q.spilled

/-- Cells in every headroom. -/
def State.headAll (s : State) : Nat :=
  cellSum s.packets fun q => match q.charge with
    | .headroom _ _ => !q.spilled
    | _ => false

/-- A unit's ingress usage (R432). -/
def State.unitUsage (s : State) (p u : Nat) : Nat :=
  cellSum s.packets fun q => q.unit == some (p, u) && !q.spilled

/-- Cells held in DRAM. -/
def State.spilledCells (s : State) : Nat := cellSum s.packets (·.spilled)

/-- Cells of the shared pool (R417). -/
def State.poolSize (s : State) : Nat :=
  let head (p : Nat) : Nat := (s.io.units p).length * s.fld (F.ETH_HEADROOM_cells p)
  49152 - head 0 - head 1 - s.ctrlReserve

/-- A threshold, no larger than the shared pool (R417). -/
def State.thr (s : State) (n : Nat) : Nat := min n s.poolSize

/-- Admission settings take effect at the next admission decision. -/
def admRegs : List Nat := [0x340010, 0x340014, 0x340018, 0x34001C, 0x340020, 0x340024, 0x340028, 0x34002C, 0x340030]

/-- The pool's next state (R423): 0 Normal, 1 Congested, 2 Full, by occupancy with hysteresis. -/
def State.poolNext (s : State) (st n : Nat) : Nat :=
  let lon := s.thr (s.eFld F.SRT_ADM_LOW_on)
  let loff := s.thr (min (s.eFld F.SRT_ADM_LOW_off) (s.eFld F.SRT_ADM_LOW_on))
  let hon := s.thr (s.eFld F.SRT_ADM_HIGH_on)
  let hoff := s.thr (min (s.eFld F.SRT_ADM_HIGH_off) (s.eFld F.SRT_ADM_HIGH_on))
  if st = 0 then (if lon ≤ n then (if hon ≤ n then 2 else 1) else 0)
  else if st = 1 then (if hon ≤ n then 2 else if n ≤ loff then 0 else 1)
  else (if n ≤ hoff then (if n ≤ loff then 0 else 1) else 2)

/-! ## Ethernet flow control (R432) -/

/-- Time of one pause quantum of a port, ns × 10: 512 bit times at its speed. -/
def Io.quantum10 (io : Io) (p : Nat) : Nat :=
  match io.fld (F.ETH_STAT_speed p) with
  | 0 => 512
  | 1 => 1024
  | 2 => 2048
  | 3 => 5120
  | 4 => 51200
  | _ => 512000

/-- Send a pause or PFC frame for a unit. -/
def State.sendPause (s : State) (p u quanta : Nat) : State :=
  let classes := if s.io.fcMode p = 1 then 0 else 2 ^ u
  (s.put (.pause p classes quanta)).count (F.ETH_PAUSE_CNT_tx p)

/-- XOFF is in force for a unit. -/
def State.xoffOn (s : State) (p u : Nat) : Bool := bitN (s.fld (F.ETH_STAT_xoff_sent p)) u

/-- Set or clear the `xoff_sent` bit of a unit. -/
def State.setXoff (s : State) (p u : Nat) (b : Bool) : State :=
  let w := s.fld (F.ETH_STAT_xoff_sent p)
  let w' := if b then (if bitN w u then w else w + 2 ^ u) else (if bitN w u then w - 2 ^ u else w)
  s.setFld (F.ETH_STAT_xoff_sent p) w'

/-- Send XOFF for a unit. -/
def State.sendXoff (s : State) (p u : Nat) : State :=
  let s := (s.sendPause p u 0xFFFF).setXoff p u true
  { s with sr := { s.sr with xoff := Tbl.put s.sr.xoff (8 * p + u) s.now } }

/-- Flow control runs: in Full, not as a Shadow (R436, R437). -/
def State.ethServes (s : State) : Bool := s.inFull && !s.isShadow

/-- XOFF and XON of every unit, after a change of usage or pool state (R432). -/
def State.flowControl (s : State) : State :=
  if !s.ethServes then s
  else s.each [0, 1] fun s p =>
    if s.fld (F.ETH_STAT_link p) = 0 then s
    else
      let s := s.latchRegs [(F.ETH_FC_THR_xoff p).off]
      s.each (s.io.units p) fun s u =>
        let use := s.unitUsage p u
        let xoff := s.thr (s.eFld (F.ETH_FC_THR_xoff p))
        let xon := min xoff (s.thr (s.eFld (F.ETH_FC_THR_xon p)))
        let pool := s.fld F.SRT_STAT_pool_state
        if s.xoffOn p u then
          if use ≤ xon ∧ pool = 0 then (s.sendPause p u 0).setXoff p u false else s
        else if xoff ≤ use ∨ pool ≠ 0 then s.sendXoff p u
        else s

/-- The pool's state follows its occupancy (R423), and flow control follows both. -/
def State.updatePool (s : State) : State :=
  let st := s.fld F.SRT_STAT_pool_state
  (s.setFld F.SRT_STAT_pool_state (s.poolNext st s.sharedUsed)).flowControl

/-- XOFF_REPEAT: XOFF is repeated every 32,768 quanta while it is in force (R432). -/
def State.xoffRepeat (s : State) (p u : Nat) : State :=
  if s.ethServes && s.xoffOn p u &&
      decide (Tbl.getD s.sr.xoff (8 * p + u) 0 + 32768 * s.io.quantum10 p / 10 ≤ s.now) then
    s.sendXoff p u
  else s

/-! ## Admission (R424 to R427) -/

/-- What admission does with a packet. -/
inductive Admit where
  | shared | headroom | drop | refuse | hold
  deriving DecidableEq, Repr

/-- Cells still free in the shared pool. -/
def State.roomFor (s : State) (cells : Nat) : Bool := decide (s.sharedUsed + cells ≤ s.poolSize)

/-- Ethernet: by unit and class (R424, R425). -/
def State.admitEth (s : State) (unit : Option (Nat × Nat)) (cls cells : Nat) : Admit :=
  let pool := s.fld F.SRT_STAT_pool_state
  match unit with
  | some (p, u) =>
    if pool ≠ 2 && s.roomFor cells then .shared
    else if s.headUsed p u + cells ≤ s.fld (F.ETH_HEADROOM_cells p) then .headroom
    else .drop
  | none =>
    if !s.roomFor cells then .drop
    else if pool = 0 then .shared
    else if pool = 1 && decide (s.eFld F.SRT_ADM_CFG_protect_class ≤ cls) then .shared
    else .drop

/-- Mesh uplink (R424, R426). -/
def State.admitMesh (s : State) (cells : Nat) : Bool :=
  decide (s.fld F.SRT_STAT_pool_state ≠ 2) && s.roomFor cells

/-- Wi-Fi MPDUs (R424, R427). -/
def State.admitWifi (s : State) (cls cells : Nat) : Bool :=
  let pool := s.fld F.SRT_STAT_pool_state
  s.roomFor cells && (pool == 0 || (pool == 1 && decide (s.eFld F.SRT_ADM_CFG_protect_class ≤ cls)))

/-- Host fetches (R424): false is a held fetch. -/
def State.admitHost (s : State) (cls cells : Nat) : Bool := s.admitWifi cls cells

/-- XOFF_REPEAT (R432). -/
def execXoffRepeat (t : Nat) (port : Fin 2) (unit : Fin 8) (s : State) : Host.Outcome State Fault Refusal :=
  run t s fun s => s.xoffRepeat port unit

end Sys2Proof.Machine
end

