-- ==== Sys2Proof/Machine/Shaping.lean ====
section
/-!
DEFINITION. Sys2Proof/Machine/Shaping.lean: queues, the class scheduler, token-bucket shapers and the QMS commands
(15_shaping).
-/

namespace Sys2Proof.Machine

/-! ## Queues (R439, R440) -/

/-- First queue number of each kind. -/
def wifiQ (client tid : Nat) : Nat := 0x20000 + client * 8 + tid
def ethQ (port cls : Nat) : Nat := 0x21000 + port * 8 + cls
def hostQ (ring : Nat) : Nat := 0x21010 + ring

/-- A queue number is valid. -/
def validQ (n : Nat) : Bool := decide (n < 0x21050)

/-- The reset class of a queue: node queues 2, Wi-Fi the TID, Ethernet the class, host 0 (R439). -/
def resetClass (n : Nat) : Nat :=
  if n < 0x20000 then 2 else if n < 0x21010 then n % 8 else 0

/-- The class is set per queue: mesh node and host queues. -/
def classSettable (n : Nat) : Bool := decide (n < 0x20000) || decide (0x21010 ≤ n)

/-- A queue as it stands, or as it is after reset. -/
def State.queue (s : State) (n : Nat) : Queue := Tbl.getD s.qm.queues n { cls := resetClass n }

/-- Store a queue; one that stands as after reset is not listed. -/
def State.setQueue (s : State) (n : Nat) (q : Queue) : State :=
  { s with qm := { s.qm with queues := Tbl.putDef s.qm.queues n q { cls := resetClass n } } }

/-- Cells of a queue, on chip and spilled. -/
def Queue.cells (q : Queue) : Nat := (q.pkts.map (·.cells)).sum

/-! ## Shapers (R446 to R451) -/

/-- A shaper as it stands. -/
def State.shaper (s : State) (n : Nat) : Shaper := Tbl.getD s.qm.shapers n {}
/-- Store a shaper. -/
def State.setShaper (s : State) (n : Nat) (x : Shaper) : State :=
  { s with qm := { s.qm with shapers := Tbl.put s.qm.shapers n x } }

/-- The egress point of an Ethernet or host queue. -/
def plainEgress (n : Nat) : Nat := if n < 0x21008 then 0 else if n < 0x21010 then 1 else 6

/-- The egress points a queue may drain through. -/
def State.egresses (s : State) (n : Nat) : List Nat :=
  if n < 0x20000 then
    match (Tbl.get? s.pt.ctx n).bind fun c => s.routeTo c.addr with
    | some (_, _, c) => [if c.radioL then 5 else 4]
    | none => [4, 5]
  else if n < 0x21000 then [2, 3]
  else [plainEgress n]

/-- The class- and egress-level shapers of an egress point and class. -/
def State.upperShapers (s : State) (e cls : Nat) : List Nat :=
  (if s.eFld (F.QMS_CLASS_SHP_en e cls) = 1 then [s.eFld (F.QMS_CLASS_SHP_shaper e cls)] else []) ++
    (if s.eFld (F.QMS_EGRESS_shp_en e) = 1 then [s.eFld (F.QMS_EGRESS_shaper e)] else [])

/-- The shapers on a queue's path through an egress point (R446). -/
def State.pathShapers (s : State) (e n : Nat) : List Nat :=
  let q := s.queue n
  q.shaper.toList ++ s.upperShapers e q.cls

/-- Every enabled shaper on the path holds tokens ≥ 0 (R441). -/
def State.shaperOk (s : State) (e n : Nat) : Bool :=
  (s.pathShapers e n).all fun k => let x := s.shaper k; !x.par.en || decide (0 ≤ x.tokens)

/-- A packet's counted length at a shaper (R448). -/
def ShpPar.counted (p : ShpPar) (base : Nat) : Nat := (max 1 ((base : Int) + p.overhead)).toNat

/-- Charge a packet to the enabled shapers of its path (R447). -/
def State.charge (s : State) (shapers : List Nat) (base : Nat) : State :=
  s.each shapers fun s k =>
    let x := s.shaper k
    if !x.par.en then s
    else
      let n := x.par.counted base
      let x := { x with tokens := x.tokens - 256 * (n : Int), pkts := (x.pkts + 1) % 2 ^ 32,
                        bytes := (x.bytes + n) % 2 ^ 48 }
      s.setShaper k x

/-- The shaper is idle: no queue beneath it holds a packet (R450). -/
def State.shaperIdle (s : State) (k : Nat) : Bool :=
  s.qm.queues.all fun p =>
    p.2.pkts.isEmpty || !(p.2.shaper == some k || (s.egresses p.1).any fun e => (s.upperShapers e p.2.cls).contains k)

/-- Refill period of a code, ns. -/
def periodNs (code : Nat) : Nat := if code = 0 then 1000 else if code = 1 then 8000 else if code = 2 then 64000 else 512000

/-- The refill of R447. -/
def Shaper.refill (x : Shaper) (idle : Bool) : Shaper :=
  let burst : Int := 256 * (x.par.burst : Int)
  let cap : Int := if idle then min burst (256 * (x.par.idleCap : Int)) else burst
  if x.tokens < cap then { x with tokens := min (x.tokens + x.par.inc) cap } else x

/-- One refill of a shaper: a pending record applies first (R451); a disabled shaper's tokens are held. -/
def Shaper.refillStep (x : Shaper) (now : Nat) (idle : Bool) : Shaper :=
  match x.pend with
  | some (p, reset) =>
    let burst : Int := 256 * (p.burst : Int)
    let x := { x with par := p, pend := none, at_ns := max now x.at_ns + periodNs p.period }
    if !p.en then x
    else if reset = 1 then { x with tokens := burst }
    else if reset = 2 then { x with tokens := 0 }
    else { x with tokens := min x.tokens burst }.refill idle
  | none =>
    let x' := { x with at_ns := max now x.at_ns + periodNs x.par.period }
    if x.par.en then x'.refill idle else x'

/-- SHAPER_REFILL: at the end of a shaper's period. -/
def State.shaperRefill (s : State) (k : Nat) : State :=
  let x := s.shaper k
  if s.now < x.at_ns ∨ (!x.par.en ∧ x.pend.isNone) then s
  else s.setShaper k (x.refillStep s.now (s.shaperIdle k))

/-! ## The rounds (R442, R443) -/

/-- The round of an egress point's class. -/
def State.round (s : State) (e c : Nat) : List Nat := Tbl.getD s.qm.rounds (8 * e + c) []
def State.setRound (s : State) (e c : Nat) (l : List Nat) : State :=
  { s with qm := { s.qm with rounds := Tbl.putDef s.qm.rounds (8 * e + c) l [] } }

/-- Give the queue at a round's head its quantum. -/
def State.giveHead (s : State) (e c : Nat) : State :=
  match s.round e c with
  | n :: _ =>
    let q := s.queue n
    s.setQueue n { q with deficit := q.deficit + 256 * (q.weight : Int) }
  | [] => s

/-- A queue that becomes non-empty joins the tail of its class's round with deficit 0; a changed class or weight
applies from here (R443, R459). -/
def State.joinRound (s : State) (e n : Nat) : State :=
  let q := s.queue n
  let q := match q.next with
    | some (c, w) => { q with cls := c, weight := w, next := none, deficit := 0 }
    | none => { q with deficit := 0 }
  let s := s.setQueue n q
  let r := s.round e q.cls
  if r.contains n then s
  else
    let s := s.setRound e q.cls (r ++ [n])
    if r.isEmpty then s.giveHead e q.cls else s

/-- A queue leaves its rounds. -/
def State.leaveRound (s : State) (n : Nat) : State :=
  let rounds : Tbl (List Nat) := (s.qm.rounds.map fun p => (p.1, p.2.erase n)).filter fun p => !p.2.isEmpty
  let s := { s with qm := { s.qm with rounds := rounds } }
  let q := s.queue n
  s.setQueue n { q with deficit := 0 }

/-- The first eligible queue of a class whose deficit covers its head packet, the round turning meanwhile. -/
def State.pickQueue (s : State) (e c : Nat) (elig : State → Nat → Bool) (len : State → Nat → Nat) :
    Nat → Option (Nat × State)
  | 0 => none
  | fuel + 1 =>
    match s.round e c with
    | [] => none
    | n :: rest =>
      if (n :: rest).all (fun m => !elig s m) then none
      else if elig s n && decide ((len s n : Int) ≤ (s.queue n).deficit) then some (n, s)
      else
        let s' := (s.setRound e c (rest ++ [n])).giveHead e c
        s'.pickQueue e c elig len fuel

/-- Weight of a class of an egress point; 0 acts as 1. -/
def State.classWeight (s : State) (e c : Nat) : Nat :=
  let w := if c < 4 then (s.io.eWord (F.QMS_WEIGHT_LO_w e).off).toNat else (s.io.eWord (F.QMS_WEIGHT_HI_w e).off).toNat
  max 1 (bitsN w (8 * (c % 4) + 7) (8 * (c % 4)))

/-- A class takes part: one of its queues is eligible. -/
def State.classLive (s : State) (e c : Nat) (elig : State → Nat → Bool) : Bool := (s.round e c).any fun n => elig s n

/-- Fuel for the rounds: every packet fits after 37 quanta. -/
def roundFuel (s : State) (e c : Nat) : Nat := 40 * ((s.round e c).length + 1)

/-- Deficit round robin over the classes below `sp_min` (R442). -/
def State.pickClass (s : State) (e spMin : Nat) (elig : State → Nat → Bool) (len : State → Nat → Nat) :
    Nat → Option (Nat × Nat × State)
  | 0 => none
  | fuel + 1 =>
    let live := (List.range spMin).filter fun c => s.classLive e c elig
    match live with
    | [] => none
    | first :: _ =>
      let cur := Tbl.getD s.qm.clsAt e first
      let at_ := if live.contains cur then cur else ((live.find? fun c => decide (cur < c)).getD first)
      match s.pickQueue e at_ elig len (roundFuel s e at_) with
      | none => none
      | some (n, s1) =>
        let d : Int := Tbl.getD s1.qm.clsDef (8 * e + at_) 0
        let l : Int := len s1 n
        if l ≤ d then
          some (at_, n, { s1 with qm := { s1.qm with
            clsAt := Tbl.put s1.qm.clsAt e at_, clsDef := Tbl.put s1.qm.clsDef (8 * e + at_) (d - l) } })
        else
          let nxt := (live.find? fun c => decide (at_ < c)).getD first
          let s2 := if nxt ≤ at_ then s.latchRegs [(F.QMS_WEIGHT_LO_w e).off, (F.QMS_WEIGHT_HI_w e).off] else s
          let dn : Int := Tbl.getD s2.qm.clsDef (8 * e + nxt) 0
          let s2 := { s2 with qm := { s2.qm with
            clsAt := Tbl.put s2.qm.clsAt e nxt
            clsDef := Tbl.put s2.qm.clsDef (8 * e + nxt) (dn + 256 * (s2.classWeight e nxt : Int)) } }
          s2.pickClass e spMin elig len fuel

/-- The class scheduler (R442): strict priority at and above `sp_min`, then deficit round robin. -/
def State.schedule (s : State) (e : Nat) (elig : State → Nat → Bool) (len : State → Nat → Nat) :
    Option (Nat × Nat × State) :=
  let s := s.latchRegs ((F.QMS_EGRESS_sp_min e).off :: (List.range 8).map fun c => (F.QMS_CLASS_SHP_en e c).off)
  let sp := s.eFld (F.QMS_EGRESS_sp_min e)
  let strict := ((List.range 8).reverse.filter fun c => decide (sp ≤ c)).find? fun c => s.classLive e c elig
  match strict with
  | some c => (s.pickQueue e c elig len (roundFuel s e c)).map fun r => (c, r.1, r.2)
  | none => s.pickClass e sp elig len (40 * 9)

/-- Count a dequeued packet (R456): `QMS_TX_BYTES` shows the bytes so far in units of 64, modulo 2^32. -/
def State.txCount (s : State) (e c base : Nat) : State :=
  let p := F.QMS_TX_PKTS_count e c
  let b := F.QMS_TX_BYTES_count e c
  let n := Tbl.getD s.qm.txRem (8 * e + c) 0 + base
  let s := { s with qm := { s.qm with txRem := Tbl.putDef s.qm.txRem (8 * e + c) (n % 64) 0 } }
  (s.setFld p (s.fld p + 1)).setFld b (s.fld b + n / 64)

/-- Take the head packet of a queue through an egress point: its deficit and its shapers are charged, and the
class's deficit clears when the class empties (R442, R443, R447). -/
def State.takeHead (s : State) (e n base : Nat) : Option (Packet × State) :=
  let q := s.queue n
  match q.pkts with
  | [] => none
  | p :: ps =>
    let sh := s.pathShapers e n
    let s := s.setQueue n { q with pkts := ps, deficit := q.deficit - (base : Int) }
    let s := if ps.isEmpty then s.leaveRound n else s
    let s := if (s.round e q.cls).isEmpty then
        { s with qm := { s.qm with clsDef := Tbl.del s.qm.clsDef (8 * e + q.cls) } }
      else s
    some (p, ((s.charge sh base).txCount e q.cls base).updatePool)

/-! ## Enqueue and queue limits (R428, R430) -/

/-- The limit of a packet's destination queue. -/
def State.overLimit (s : State) (n : Nat) (pkts cells : Nat) : Bool :=
  let s := s.latchRegs admRegs
  let q := s.queue n
  let lim (f : Fld) : Nat := max 1 (s.eFld f)
  if n < 0x20000 then
    decide (max 1 (bitsN (s.eFld F.SRT_QLIM_NODE_node_pkts) 7 0) < q.pkts.length + pkts) ||
      decide (lim F.SRT_QLIM_NODE_node_cells < q.cells + cells)
  else if n < 0x21000 then
    let c := (n - 0x20000) / 8
    let all := ((List.range 8).map fun t => (s.queue (wifiQ c t)).cells).sum
    decide (lim F.SRT_QLIM_CLIENT_tid_cells < q.cells + cells) ||
      decide (lim F.SRT_QLIM_CLIENT_client_cells < all + cells)
  else if n < 0x21010 then decide (lim F.SRT_QLIM_PORT_eth_cells < q.cells + cells)
  else decide (lim F.SRT_QLIM_PORT_host_cells < q.cells + cells)

/-- Count a queue-limit drop. -/
def State.limitDrop (s : State) (n : Nat) : State :=
  s.count (if n < 0x20000 then F.SRT_DROP_Q_node_drop else if n < 0x21000 then F.SRT_DROP_Q_client_drop
    else if n < 0x21010 then F.SRT_DROP_Q2_eth_q_drop else F.SRT_DROP_Q2_host_drop)

/-- Put packets at a queue's tail. -/
def State.enqueue (s : State) (n : Nat) (ps : List Packet) : State :=
  if ps.isEmpty then s
  else
    let q := s.queue n
    let s := s.setQueue n { q with pkts := q.pkts ++ ps }
    let s := if q.pkts.isEmpty then s.each (s.egresses n) fun s e => s.joinRound e n else s
    s.updatePool

/-- Enqueue a packet under its queue's limit: a drop frees its cells and is counted. -/
def State.enqueueLim (s : State) (n : Nat) (p : Packet) : State :=
  let p := { p with cells := cellsOf p.data.length }
  if s.overLimit n 1 p.cells then s.limitDrop n else s.enqueue n [p]

/-- Drop every packet of a queue. -/
def State.dropQueue (s : State) (n : Nat) : State :=
  let q := s.queue n
  ((s.setQueue n { q with pkts := [] }).leaveRound n).updatePool

/-- Drop every queued packet at a move out of Full, counted in `mode_drop`; `keep` names queues that stay (R52,
R422). -/
def State.dropAll (s : State) (keep : Nat → Bool) : State :=
  s.each (Tbl.keys s.qm.queues) fun s n =>
    if keep n then s
    else
      let k := (s.queue n).pkts.length
      (s.dropQueue n).count F.QMS_DROP_mode_drop k

/-! ## Ring commands (R458 to R460) -/

/-- Reserved bytes and bits of a shaper record are 0, and its values are in range. -/
def shaperRecOk (b : Bytes) : Bool :=
  let b2 := b.le 2 1
  decide (b.le 0 2 < 8192) && decide (b2 / 32 = 0) && decide (b2 / 2 % 4 ≠ 3) && decide (b.le 7 1 = 0) &&
    decide (b.le 11 1 = 0) && decide (b.le 15 1 = 0) && decide (b.le 30 1 = 0) && decide (b.le 8 3 ≠ 0) &&
    !(decide (b2 % 2 = 1) && decide (b.le 4 3 = 0)) && decide (-64 ≤ signedN 8 (b.le 3 1))

/-- QMS_SHAPER_SET on one record: it applies at the shaper's first refill after it (R451). -/
def State.shaperSet (s : State) (b : Bytes) : BlockReply :=
  if !shaperRecOk b then { status := stBAD_ARG, st := s }
  else
    let b2 := b.le 2 1
    let p : ShpPar :=
      { en := b2 % 2 = 1, period := b2 / 8 % 4, overhead := signedN 8 (b.le 3 1), inc := b.le 4 3, burst := b.le 8 3,
        idleCap := min (b.le 12 3) (b.le 8 3) }
    let k := b.le 0 2
    let x := s.shaper k
    { status := stOK, st := s.setShaper k { x with pend := some (p, b2 / 2 % 4) } }

/-- QMS_SHAPER_GET on one record. -/
def State.shaperGet (s : State) (b : Bytes) : BlockReply :=
  if 8192 ≤ b.le 0 2 then { status := stBAD_ARG, st := s }
  else
    let x := s.shaper (b.le 0 2)
    let p := x.par
    let out := toLE 1 (p.en.toNat + 8 * p.period) ++ toLE 1 (codeN 8 p.overhead) ++ toLE 3 p.inc ++ toLE 1 0 ++
      toLE 3 p.burst ++ toLE 1 0 ++ toLE 3 p.idleCap ++ toLE 1 0 ++ toLE 4 (codeN 32 (x.tokens / 256)) ++
      toLE 4 x.pkts ++ toLE 6 x.bytes ++ toLE 1 0
    { status := stOK, st := s, writes := [(2, out)] }

/-- QMS_QUEUE_SET on one record. -/
def State.queueSet (s : State) (b : Bytes) : BlockReply :=
  let n := b.le 0 3
  let b4 := b.le 4 1
  let sh := b.le 5 2
  if !validQ n ∨ b.le 3 1 ≠ 0 ∨ b4 / 8 % 2 ≠ 0 ∨ b4 / 16 = 0 ∨ sh / 8192 % 4 ≠ 0 ∨ b.le 7 1 ≠ 0 then
    { status := stBAD_ARG, st := s }
  else
    let q := s.queue n
    let c := if classSettable n then b4 % 8 else q.cls
    let shp := if 32768 ≤ sh then some (sh % 8192) else none
    let q := if q.pkts.isEmpty then { q with cls := c, weight := b4 / 16, shaper := shp, next := none }
      else { q with next := some (c, b4 / 16), shaper := shp }
    { status := stOK, st := s.setQueue n q }

/-- QMS_QUEUE_GET on one record. -/
def State.queueGet (s : State) (b : Bytes) : BlockReply :=
  let n := b.le 0 3
  if !validQ n then { status := stBAD_ARG, st := s }
  else
    let q := s.queue n
    let sh := match q.shaper with
      | some k => k + 32768
      | none => 0
    let c := match q.next with
      | some (c, w) => c + 16 * w
      | none => q.cls + 16 * q.weight
    let out := toLE 1 c ++ toLE 2 sh ++ toLE 1 0 ++ toLE 4 q.pkts.length ++ toLE 3 q.cells
    { status := stOK, st := s, writes := [(4, out)] }

/-! ## Meanings -/

/-- SHAPER_REFILL (R447, R449 to R451). -/
def execShaperRefill (t : Nat) (n : Fin 8192) (s : State) : Host.Outcome State Fault Refusal :=
  run t s fun s => s.shaperRefill n

/-- QMS_SHAPER_SET (R451, R458, R460). -/
def execQmsShaperSet (t : Nat) (c : Cmd) (s : State) : Host.Outcome State Fault Refusal :=
  ringCommand 0x0601 t c (fun s => blockRun c 32 31 10 s State.shaperSet) s

/-- QMS_SHAPER_GET (R458). -/
def execQmsShaperGet (t : Nat) (c : Cmd) (s : State) : Host.Outcome State Fault Refusal :=
  ringCommand 0x0602 t c (fun s => blockRun c 32 31 10 s State.shaperGet) s

/-- QMS_QUEUE_SET (R459, R460). -/
def execQmsQueueSet (t : Nat) (c : Cmd) (s : State) : Host.Outcome State Fault Refusal :=
  ringCommand 0x0603 t c (fun s => blockRun c 16 15 10 s State.queueSet) s

/-- QMS_QUEUE_GET (R459). -/
def execQmsQueueGet (t : Nat) (c : Cmd) (s : State) : Host.Outcome State Fault Refusal :=
  ringCommand 0x0604 t c (fun s => blockRun c 16 15 10 s State.queueGet) s

end Sys2Proof.Machine
end

