-- ==== Sys2Proof/Machine/MeshLink.lean ====
section
/-!
DEFINITION. Sys2Proof/Machine/MeshLink.lean: slots, slotframe patterns, connections, node contexts and routes as
commands change them, and the ring commands of the mesh link layer (07_mesh_link; R264).
-/

namespace Sys2Proof.Machine

/-! ## Slots and patterns (R190 to R193) -/

/-- A permitted pattern length. -/
def sfLenOk (n : Nat) : Bool := n == 2 || n == 4 || n == 5 || n == 8 || n == 10 || n == 20 || n == 40

/-- A pattern holds at least one U slot and one D slot within its length (R192). -/
def sfOk (len map : Nat) : Bool :=
  sfLenOk len && (List.range len).any (fun i => bitN map i) && (List.range len).any (fun i => !bitN map i)

/-- A slot is a D slot. -/
def Ml.isD (m : Ml) (slot : Nat) : Bool := bitN m.sfMap (slot % m.sfLen)

/-- The first slot of a type at or after a slot: D for true. -/
def Ml.firstOf (m : Ml) (d : Bool) : Nat → Nat → Nat
  | 0, slot => slot
  | k + 1, slot => if m.isD slot == d then slot else m.firstOf d k (slot + 1)

/-- An event's U cell: the first U slot at or after its anchor (R217). -/
def Ml.uCell (m : Ml) (anchor : Nat) : Nat := m.firstOf false 40 anchor
/-- An event's D cell: the first D slot after its U cell. -/
def Ml.dCell (m : Ml) (anchor : Nat) : Nat := m.firstOf true 40 (m.uCell anchor + 1)

/-- The pattern the registers hold. -/
def State.sfReg (s : State) : Nat × Nat :=
  (s.fld F.MSH_SF_CFG_len, s.fld F.MSH_SF_CFG_map_hi * 2 ^ 32 + s.fld F.MSH_SF_PATTERN_map_lo)

/-- Write a pattern to the registers and put it into effect. -/
def State.setPattern (s : State) (len map : Nat) : State :=
  let s := { s with ml := { s.ml with sfLen := len, sfMap := map } }
  ((s.setFld F.MSH_SF_CFG_len len).setFld F.MSH_SF_CFG_map_hi (map / 2 ^ 32)).setFld F.MSH_SF_PATTERN_map_lo map

/-- Show an announced pattern in `MSH_SF_NEXT` and `MSH_STAT.sf_pending`. -/
def State.showNext (s : State) : State :=
  let (len, map, at_) := s.ml.next.getD (0, 0, 0)
  ((((((s.setFld F.MSH_SF_NEXT_length len).setFld F.MSH_SF_NEXT_map_hi (map / 2 ^ 32)).setFld
    F.MSH_SF_NEXT_at_hi (at_ / 2 ^ 32)).setFld F.MSH_SF_NEXT_MAP_map_lo map).setFld
    F.MSH_SF_NEXT_AT_at_lo at_)).setFld F.MSH_STAT_sf_pending s.ml.next.isSome.toNat

/-- An announced pattern takes effect at its activation slot; its command completes (R193, R230). -/
def State.sfActivate (s : State) : State :=
  match s.ml.next with
  | some (len, map, at_) =>
    if at_ ≤ s.ml.slot then
      let s := (s.setPattern len map)
      ({ s with ml := { s.ml with next := none } }).showNext.finishOp 0x0101 stOK
    else s
  | none => s

/-- Mesh service starts or stops at a slot boundary (R193, `MSH_CTRL.run`). -/
def State.meshService (s : State) : State :=
  if !s.flag F.MSH_CTRL_run then s.setFld F.MSH_STAT_running 0
  else if s.flag F.MSH_STAT_running then s
  else
    let (len, map) := s.sfReg
    if sfOk len map then (s.setPattern len map).setFld F.MSH_STAT_running 1
    else s.setFld F.MSH_STAT_cfg_err 1

/-- The beacon announcement time of a pattern change in slots. -/
def State.announceSlots (s : State) : Nat := 40 * max 60 (s.fld F.MSH_CONT_BE_announce_s)

/-- MESH_SF_SET (R230). -/
def State.sfSet (s : State) (c : Cmd) : Reply :=
  let map := c.f 0 5
  let len := c.f 5 1
  let at_ := c.f 6 5
  if !sfOk len map ∨ !c.zero 11 13 then Reply.err s stBAD_ARG
  else if at_ < s.ml.slot + s.announceSlots then Reply.err s stLATE
  else if s.isShadow then Reply.err s stNOT_LEAD
  else if s.ml.next.isSome then Reply.err s stNO_ROOM
  else Reply.defer ({ s with ml := { s.ml with next := some (len, map, at_) } }).showNext

/-! ## Connections (R216 to R223) -/

/-- Contention channels on S or L (R226). -/
def Io.contMask (io : Io) (l : Bool) : Nat :=
  if l then io.fld F.MSH_CONT_BE_cont_l else io.fld F.MSH_CONT_HI_cont * 2 ^ 32 + io.fld F.MSH_CONT_LO_cont

/-- The number of channels of a radio's hopping. -/
def hopM (l : Bool) : Nat := if l then 8 else 64

/-- The channels of a map. -/
def mapChans (l : Bool) (map : Nat) : List Nat := (List.range (hopM l)).filter fun k => bitN map k

/-- The channel of event `e` (R218). -/
def ConnPar.channel (p : ConnPar) (l : Bool) (e : Nat) : Nat :=
  let u := (p.base + e * p.inc) % hopM l
  if bitN p.map u then u
  else
    let used := mapChans l p.map
    used.getD (u % used.length) 0

/-- Slots from one event to the next. -/
def ConnPar.period (p : ConnPar) : Nat := 40 * p.interval

/-- The parameters lie within R216, and the map leaves the contention channels out (R226). -/
def ConnPar.valid (p : ConnPar) (l : Bool) (cont : Nat) : Bool :=
  decide (1 ≤ p.interval) && decide (p.interval ≤ 512) && p.inc % 2 == 1 && decide (p.inc < hopM l) &&
    decide (p.base < hopM l) && decide (p.map ≠ 0) && decide (p.map < 2 ^ hopM l) &&
    decide (2 * (p.latency + 1) * p.interval ≤ p.timeout) && (l || decide (p.map &&& cont = 0))

/-- The parameters with the next event at or after a slot (R217). -/
def ConnPar.project (p : ConnPar) (slot : Nat) : ConnPar :=
  if slot ≤ p.anchor then p
  else
    let k := (slot - p.anchor + p.period - 1) / p.period
    { p with anchor := p.anchor + k * p.period, ctr := (p.ctr + k) % 65536 }

/-- Read a connection parameter record, bytes 4 to 27 of a block (R231). -/
def connParOf (b : Bytes) : ConnPar :=
  { map := b.le 5 8, base := b.le 13 1, inc := b.le 14 1, interval := b.le 15 2, latency := b.le 17 1,
    timeout := b.le 18 3, anchor := b.le 21 5, ctr := b.le 26 2 }

/-- The connection parameter record, 24 bytes (R200). -/
def ConnPar.record (p : ConnPar) (b4 : Nat) : Bytes :=
  toLE 1 b4 ++ toLE 8 p.map ++ toLE 1 p.base ++ toLE 1 p.inc ++ toLE 2 p.interval ++ toLE 1 p.latency ++
    toLE 3 p.timeout ++ toLE 5 p.anchor ++ toLE 2 p.ctr

/-- Store a connection. -/
def State.setConn (s : State) (k : Nat) (c : Conn) : State :=
  { s with ml := { s.ml with conns := Tbl.put s.ml.conns k c } }

/-- `MSH_CONN_CNT` follows the table. -/
def State.connCnt (s : State) : State :=
  let n (f : Conn → Bool) : Nat := (s.ml.conns.filter fun p => f p.2).length
  (s.setFld F.MSH_CONN_CNT_active (n fun c => c.state != 3)).setFld F.MSH_CONN_CNT_lapsed (n fun c => c.state == 3)

/-- Bind a connection to its node's context, with the copy of R378. -/
def State.bindConn (s : State) (k addr : Nat) : State :=
  match s.ctxOfAddr addr with
  | some (n, c) => s.setCtx n { c with conn := some k }
  | none => s

/-- The connection becomes Free (R221): its entry goes, with the link layer's own frames to its node. -/
def State.freeConn (s : State) (k : Nat) : State :=
  match Tbl.get? s.ml.conns k with
  | none => s
  | some c =>
    let own (d : DlFrame) : Bool := d.dst == c.addr && match d.kind with
      | .update => true
      | .close _ => true
      | .keepAlive => true
      | _ => false
    let s := { s with ml := { s.ml with conns := Tbl.del s.ml.conns k, dl := s.ml.dl.filter fun d => !own d } }
    let s := match s.pt.ctx.find? fun p => p.2.conn == some k with
      | some (n, x) => s.setCtx n { x with conn := none }
      | none => s
    (s.finishKey 0x0104 c.addr stOK).connCnt

/-- Close the connection of an address without notice, if it has one. -/
def State.closeAddr (s : State) (addr : Nat) : State :=
  match s.ml.connAny addr with
  | some (k, _) => s.freeConn k
  | none => s

/-- RTC time of a slot's boundary, in 1/32,768 s. -/
def State.rtcOfSlot (s : State) (n : Int) : Int :=
  s.rtc + ((n - s.ml.slot) * 25000000 - ((s.now - s.ml.slotAt : Nat) : Int)) * 32768 / 1000000000

/-- RTC time of the event before a connection's next one. -/
def State.rtcBefore (s : State) (p : ConnPar) : Int := s.rtcOfSlot ((p.anchor : Int) - p.period)

/-- Create a connection for an address (R232): one that is Lapsed is replaced. -/
def State.newConn (s : State) (addr : Nat) (l : Bool) (p : ConnPar) : Option State :=
  let s := s.closeAddr addr
  match Tbl.firstFree s.ml.conns 0 16384 with
  | none => none
  | some k =>
    let q := p.project s.ml.slot
    let c : Conn := { addr := addr, radioL := l, par := q, heard := s.now, anchorRtc := s.rtcBefore q }
    some ((s.setConn k c).bindConn k addr).connCnt

/-- The connection lapses (R220): it uses no cells, and frames of its own are dropped. -/
def State.lapseConn (s : State) (k : Nat) (c : Conn) : State :=
  let s := s.setConn k { c with state := 3, lapsedAt := s.now, cur := none, upd := none, follow := none }
  let own (d : DlFrame) : Bool := d.dst == c.addr && match d.kind with
    | .update => true
    | .keepAlive => true
    | _ => false
  ({ s with ml := { s.ml with dl := s.ml.dl.filter fun d => !own d } }).connCnt

/-- At the event whose counter is the instant, the new parameters apply (R222). -/
def Conn.atInstant (c : Conn) : Conn :=
  match c.upd with
  | some u => if c.par.ctr = u.ctr then { c with par := u, upd := none, state := 1 } else c
  | none => c

/-- CONN_UPDATE_INSTANT. -/
def State.connInstant (s : State) (k : Nat) : State :=
  match Tbl.get? s.ml.conns k with
  | some c =>
    if c.upd.any fun u => u.ctr == c.par.ctr then
      let x := c.atInstant
      (s.setConn k { x with anchorRtc := s.rtcBefore x.par }).connCnt
    else s
  | none => s

/-- Supervision (R220). -/
def Conn.timedOut (c : Conn) (now : Nat) : Bool := decide (c.heard + secNs c.par.timeout < now)

/-- CONNECTION_EVENT: the next event of a connection begins once its anchor slot has come; the node's attendance
is followed (R219), and supervision is checked, but for Dawn service, which ends no connection (R138). -/
def State.connEvent (s : State) (k : Nat) : State :=
  match Tbl.get? s.ml.conns k with
  | none => s
  | some c =>
    let c := c.atInstant
    if c.state = 3 ∨ s.ml.slot < c.par.anchor then s
    else
      let attended := c.heardIn || c.due
      let missed := match c.cur with
        | none => 0
        | some _ => if attended then 0 else c.missed + 1
      let c := { c with
        cur := some (c.par.anchor, c.par.ctr), heardIn := false, pendSent := false, missed := missed,
        due := decide (c.par.latency ≤ missed), anchorRtc := s.rtcOfSlot c.par.anchor,
        par := { c.par with anchor := c.par.anchor + c.par.period, ctr := (c.par.ctr + 1) % 65536 } }
      if c.timedOut s.now && s.pw.mode != .dawn then (s.lapseConn k c).count F.MSH_SUPV_CNT_lapses
      else s.setConn k c

/-- LAPSE_HOLD_EXPIRY: `hold_s` seconds in Lapsed (R221). -/
def State.lapseHold (s : State) (k : Nat) : State :=
  match Tbl.get? s.ml.conns k with
  | some c =>
    if c.state = 3 ∧ c.lapsedAt + secNs (s.fld F.MSH_LAPSE_CFG_hold_s) ≤ s.now then s.freeConn k else s
  | none => s

/-- The event's U cell lies in the present slot: its channel. -/
def State.uHere (s : State) (c : Conn) : Option Nat :=
  match c.cur with
  | some (a, e) => if c.state ≠ 3 ∧ s.ml.uCell a = s.ml.slot then some (c.par.channel c.radioL e) else none
  | none => none

/-- The node attends a D cell in the present slot (R219) or owes a follow-on slot (R214): its channel. -/
def State.dHere (s : State) (c : Conn) : Option Nat :=
  if c.state = 3 then none
  else match c.follow with
    | some (ch, _) => some ch
    | none => match c.cur with
      | some (a, e) =>
        if s.ml.dCell a = s.ml.slot ∧ (c.due ∨ c.pendSent) then some (c.par.channel c.radioL e) else none
      | none => none

/-! ## The snapshot's journal (R65) -/

/-- One connection as a snapshot holds it (R64). -/
def Conn.snap (c : Conn) (k : Nat) : SnapConn :=
  { idx := k, counter := (c.par.ctr + 65535) % 65536, chanMap := c.par.map, hop := c.par.inc,
    interval := c.par.interval, latency := c.par.latency, timeout := c.par.timeout, base := c.par.base,
    anchor := c.anchorRtc }

/-- A change of parameters at an instant, as the journal holds it. -/
def State.snapUpd (s : State) (k : Nat) (p : ConnPar) : SnapConn :=
  { idx := k, counter := p.ctr, chanMap := p.map, hop := p.inc, interval := p.interval, latency := p.latency,
    timeout := p.timeout, base := p.base, anchor := s.rtcOfSlot p.anchor }

/-- Write a full snapshot into the older bank; bank 0 where none is valid (R65).  A change still pending is journalled
in the new bank as well, since the restore takes it from there (R139). -/
def State.writeSnap (s : State) : State :=
  let seq := max ((s.nv.snap0.map (·.seq)).getD 0) ((s.nv.snap1.map (·.seq)).getD 0) + 1
  let sn : Snap :=
    { seq := seq, at_rtc := s.rtc, pers := (s.io.eWord 0x010004).toNat % 16,
      conns := s.ml.conns.filterMap (fun p => if p.2.state = 3 then none else some (p.2.snap p.1)),
      addrs := s.ml.conns.map (fun p => (p.1, p.2.addr, p.2.radioL)),
      sfLen := s.ml.sfLen, sfMap := s.ml.sfMap, phase := s.now - s.ml.slotAt, slot := s.ml.slot,
      journal := s.ml.conns.filterMap fun p => p.2.upd.map fun u => (p.1, u.ctr, s.snapUpd p.1 u) }
  let s := { s with pw := { s.pw with snapAt := s.now } }
  let older : Bool := match s.nv.snap0, s.nv.snap1 with
    | none, _ => true
    | some _, none => false
    | some a, some b => decide (a.seq < b.seq)
  if older then { s with nv := { s.nv with snap0 := some sn } } else { s with nv := { s.nv with snap1 := some sn } }

/-- Journal a change of parameters in the newer bank; where no bank is valid a full snapshot comes first (R65). -/
def State.journal (s : State) (k : Nat) (p : ConnPar) : State :=
  let s := if s.nv.snap0.isNone && s.nv.snap1.isNone then s.writeSnap else s
  let newer0 : Bool := match s.nv.snap0, s.nv.snap1 with
    | some _, none => true
    | some a, some b => decide (b.seq ≤ a.seq)
    | none, _ => false
  let add (x : Snap) : Snap := { x with journal := x.journal ++ [(k, p.ctr, s.snapUpd k p)] }
  if newer0 then { s with nv := { s.nv with snap0 := s.nv.snap0.map add } }
  else { s with nv := { s.nv with snap1 := s.nv.snap1.map add } }

/-! ## MESH_CONN_SET, MESH_CONN_GET, MESH_CONN_CLOSE (R231 to R234) -/

/-- Queue a downlink frame of the link layer. -/
def State.queueDl (s : State) (kind : DlKind) (dst : Nat) (l : Bool) (payload : Bytes) : State :=
  let d : DlFrame := { id := s.ml.dlId, kind := kind, dst := dst, l := l, payload := payload }
  { s with ml := { s.ml with dl := s.ml.dl ++ [d], dlId := s.ml.dlId + 1 } }

/-- The distance of an instant from the connection's next event (R222). -/
def instantAhead (instant c : Nat) : Nat := (instant + 65536 - c) % 65536

/-- Events from the next one to the next due one (R219). -/
def Conn.toDue (c : Conn) : Nat :=
  if c.cur.isNone || c.heardIn || c.due then c.par.latency else c.par.latency - (c.missed + 1)

/-- An update's instant lies in the future and at least latency + 2 events after the next due event (R222). -/
def Conn.instantOk (c : Conn) (instant : Nat) : Bool :=
  let d := instantAhead instant c.par.ctr
  decide (1 ≤ d) && decide (d ≤ 32767) && decide (c.toDue + c.par.latency + 2 ≤ d)

/-- MESH_CONN_SET on one block (R232). -/
def State.connSet (s : State) (b : Bytes) : BlockReply :=
  let bad (st : Nat) : BlockReply := { status := st, st := s }
  let addr := b.le 0 3
  let op := b.le 3 1
  let l := b.le 4 1 % 2 == 1
  let p := connParOf b
  if 2 ≤ op ∨ addr = 0 ∨ addr = 0xFFFFFF ∨ b.le 28 3 ≠ 0 ∨ !p.valid l (s.io.contMask l) then bad stBAD_ARG
  else if op = 0 then
    match s.ml.connOf addr with
    | some _ => bad stBAD_ARG
    | none =>
      match s.newConn addr l p with
      | none => bad stNO_ROOM
      | some s' => { status := stOK, st := s' }
  else match s.ml.connOf addr with
    | none => bad stBAD_ARG
    | some (k, c) =>
      if c.upd.isSome then bad stBAD_ARG
      else if !c.instantOk p.ctr then bad stLATE
      else
        let s' := (s.journal k p).setConn k { c with upd := some p, state := 2 }
        let s' := if s.isShadow then s' else s'.queueDl .update addr c.radioL (toLE 1 1 ++ p.record l.toNat)
        { status := stOK, st := s' }

/-- MESH_CONN_GET on one block (R233). -/
def State.connGet (s : State) (b : Bytes) : BlockReply :=
  match s.ml.connAny (b.le 0 3) with
  | none => { status := stBAD_ARG, st := s }
  | some (_, c) =>
    let p := c.par.project s.ml.slot
    { status := stOK, st := s, writes := [(4, p.record (c.radioL.toNat + 2 * c.state))] }

/-- MESH_CONN_CLOSE (R234). -/
def State.connClose (s : State) (c : Cmd) : Reply :=
  let addr := c.f 0 3
  let reason := c.f 3 1
  let b4 := c.f 4 1
  match s.ml.connAny addr with
  | none => Reply.err s stBAD_ARG
  | some (k, x) =>
    if 2 < reason ∨ 2 ≤ b4 ∨ !c.zero 5 19 then Reply.err s stBAD_ARG
    else if b4 = 0 then Reply.ok (s.freeConn k)
    else if s.isShadow then Reply.err s stNOT_LEAD
    else if (s.ml.dl.any fun d => d.dst == addr && match d.kind with
        | .close _ => true
        | _ => false) || !(decide (s.ctrlCells < s.ctrlReserve) || s.roomFor 1) then Reply.err s stNO_ROOM
    else Reply.defer (s.queueDl (.close reason) addr x.radioL (toLE 1 2 ++ toLE 1 reason)) addr

/-! ## Removing and admitting contexts (R264, R396) -/

/-- Remove a node context: its connection, route, identity, mirror record and cache entries, the frames in its
queue; its address is freed (R240, R264, R396). -/
def State.removeCtx (s : State) (n : Nat) (cause : Option Nat) : State :=
  match Tbl.get? s.pt.ctx n with
  | none => s
  | some c =>
    let s := match c.conn with
      | some k => s.freeConn k
      | none => s
    let s := if c.addr = 0 then s else s.delRoute c.addr cause
    let pt := { s.pt with
      ctx := Tbl.del s.pt.ctx n
      ident := Tbl.del s.pt.ident c.eui
      freed := if c.addr = 0 then s.pt.freed else (c.addr, s.rt.sec) :: s.pt.freed
      freedCtx := (n, s.now) :: s.pt.freedCtx }
    let s := { s with pt := pt.unplace 2 c.eui, nv := { s.nv with mirror := Tbl.del s.nv.mirror n } }
    let s := (s.changed 0 2 cause 0 (toLE 8 c.eui)).seqNext 2
    let s := s.cacheDrop fun e => e.addr == c.addr
    let k := (s.queue n).pkts.length
    ((s.dropQueue n).count F.QMS_DROP2_ctx_drop k).nodeCnt

/-- Give a context an address with its route entry; an address it held before is freed. -/
def State.setAddr (s : State) (n addr : Nat) : State :=
  match Tbl.get? s.pt.ctx n with
  | none => s
  | some c =>
    if c.addr = addr then s
    else
      let old := Tbl.get? s.pt.route c.addr
      let s := if c.addr = 0 then s else
        let s := s.closeAddr c.addr
        let s := s.delRoute c.addr none
        { s with pt := { s.pt with freed := (c.addr, s.rt.sec) :: s.pt.freed } }
      let s := match Tbl.get? s.pt.ctx n with
        | some x => (s.setCtx n { x with addr := addr }).seqNext 0
        | none => s
      s.setRoute addr ((old.map (·.parent)).getD 0) ((old.map (·.depth)).getD 1) n none

/-- MESH_ADMIT on one entry (R264). -/
def State.admitBlock (s : State) (b : Bytes) : BlockReply :=
  let eui := b.le 0 8
  let addr := b.le 8 3
  let op := b.le 11 1
  let bad (st : Nat) : BlockReply := { status := st, st := s }
  let known := s.ctxOfEui eui
  let taken : Bool := match s.ctxOfAddr addr with
    | some (_, c) => c.eui != eui
    | none => false
  if 2 < op ∨ b.le 12 3 ≠ 0 ∨ addr = 0xFFFFFF ∨ taken then bad stBAD_ARG
  else if op = 2 then
    match known with
    | some (n, _) => { status := stOK, st := s.removeCtx n none }
    | none => { status := stOK, st := s }
  else match known with
    | some (n, c) =>
      let s' := (s.setCtx n { c with deny := op == 1, hit := true }).seqNext 0
      { status := stOK, st := if addr = 0 then s' else s'.setAddr n addr }
    | none =>
      match s.newCtx { eui := eui, deny := op == 1 } none with
      | none => bad stNO_ROOM
      | some (n, s') => { status := stOK, st := if addr = 0 then s' else s'.setAddr n addr }

/-- MESH_ROUTE on one entry (R264). -/
def State.routeCmd (s : State) (b : Bytes) : BlockReply :=
  let addr := b.le 0 3
  let op := b.le 3 1
  let parent := b.le 4 3
  let bad : BlockReply := { status := stBAD_ARG, st := s }
  if 2 < op ∨ b.le 11 4 ≠ 0 then bad
  else if op = 1 then
    match s.ctxOfAddr addr with
    | none => bad
    | some (n, c) =>
      let depth := if parent = 0 then 1 else ((Tbl.get? s.pt.route parent).map (·.depth)).getD 1 + 1
      if (parent ≠ 0 ∧ s.above addr 6 parent) ∨ 6 < depth + s.height 6 addr then bad
      else
        let s' := if parent = 0 then s else s.closeAddr addr
        let s' := (s'.setRoute addr parent depth n none).redepth 6 addr
        let s' := match Tbl.get? s'.pt.ctx n with
          | some x => s'.setCtx n { x with hit := c.hit || true }
          | none => s'
        { status := stOK, st := s' }
  else match Tbl.get? s.pt.route addr with
    | none => bad
    | some r =>
      if op = 2 then { status := stOK, st := s.delRoute addr none }
      else
        let child := ((s.path 6 addr).map fun p => p.getLastD 0).getD 0
        let s' := match s.ctxOfAddr addr with
          | some (n, x) => s.setCtx n { x with hit := true }
          | none => s
        { status := stOK, st := s',
          writes := [(4, toLE 3 r.parent ++ toLE 1 r.depth ++ toLE 3 child)] }

/-! ## Meanings -/

/-- MESH_SF_SET (R230). -/
def execMeshSfSet (t : Nat) (c : Cmd) (s : State) : Host.Outcome State Fault Refusal :=
  ringCommand 0x0101 t c (fun s => s.sfSet c) s

/-- MESH_CONN_SET (R232). -/
def execMeshConnSet (t : Nat) (c : Cmd) (s : State) : Host.Outcome State Fault Refusal :=
  ringCommand 0x0102 t c (fun s => blockRun c 32 31 10 s State.connSet) s

/-- MESH_CONN_GET (R233). -/
def execMeshConnGet (t : Nat) (c : Cmd) (s : State) : Host.Outcome State Fault Refusal :=
  ringCommand 0x0103 t c (fun s => blockRun c 32 31 10 s State.connGet (all := true)) s

/-- MESH_CONN_CLOSE (R234). -/
def execMeshConnClose (t : Nat) (c : Cmd) (s : State) : Host.Outcome State Fault Refusal :=
  ringCommand 0x0104 t c (fun s => s.connClose c) s

/-- MESH_ADMIT (R264). -/
def execMeshAdmit (t : Nat) (c : Cmd) (s : State) : Host.Outcome State Fault Refusal :=
  ringCommand 0x0110 t c (fun s => blockRun c 16 15 10 s State.admitBlock) s

/-- MESH_ROUTE (R264). -/
def execMeshRoute (t : Nat) (c : Cmd) (s : State) : Host.Outcome State Fault Refusal :=
  ringCommand 0x0111 t c (fun s => blockRun c 16 15 10 s State.routeCmd) s

/-- CONNECTION_EVENT (R217 to R221). -/
def execConnectionEvent (t : Nat) (conn : Fin 16384) (s : State) : Host.Outcome State Fault Refusal :=
  run t s fun s => s.connEvent conn

/-- CONN_UPDATE_INSTANT (R222). -/
def execConnUpdateInstant (t : Nat) (conn : Fin 16384) (s : State) : Host.Outcome State Fault Refusal :=
  run t s fun s => s.connInstant conn

/-- LAPSE_HOLD_EXPIRY (R221). -/
def execLapseHoldExpiry (t : Nat) (conn : Fin 16384) (s : State) : Host.Outcome State Fault Refusal :=
  run t s fun s => s.lapseHold conn

end Sys2Proof.Machine
end

