-- ==== Sys2Proof/Machine/Flt.lean ====
section
/-!
DEFINITION. Sys2Proof/Machine/Flt.lean: fault-injection rules and the test of a frame against them (R557 to R560).
-/

namespace Sys2Proof.Machine

/-- What a rule does with a frame. -/
inductive FltHit where
  | pass
  | drop
  /-- Invert a bit; with `fix` the FCS is recomputed. -/
  | corrupt (fix : Bool) (bit : Nat)
  | hold (rule depth : Nat)
  deriving DecidableEq, Repr

/-- A window is open. -/
def State.fltOpen (s : State) : Bool := s.flag F.FLT_STAT_open

/-- One rule against one frame of a path with mesh source `addr`: its action, where it acts, and the rule after its
draw. -/
def FltRule.test (r : FltRule) (path addr : Nat) : Bool × FltRule :=
  if r.path ≠ path ∨ (r.match_ ≠ 0 ∧ r.match_ ≠ addr) then (false, r)
  else ((decide ((Config.fltDraw r.seed r.draws).toNat < max 1 r.rate)), { r with draws := r.draws + 1 })

/-- The action of a rule. -/
def FltRule.hit (r : FltRule) (k : Nat) : FltHit :=
  if r.action = 1 then .drop
  else if r.action = 2 then .corrupt r.fcsFix (Config.fltBit r.seed r.draws)
  else .hold k r.depth

/-- Test a frame against rules in order; at most one acts, and a rule that has acted `limit` times clears itself. -/
def State.fltScan (s : State) (path addr : Nat) : List Nat → FltHit × State
  | [] => (.pass, s)
  | k :: ks =>
    match Tbl.get? s.fl.rules k with
    | none => s.fltScan path addr ks
    | some r =>
      let (acts, r') := r.test path addr
      if acts then
        let r' := { r' with done := r'.done + 1 }
        let rules := if r'.limit ≠ 0 && decide (r'.limit ≤ r'.done) then Tbl.del s.fl.rules k else Tbl.put s.fl.rules k r'
        (r.hit k, ({ s with fl := { s.fl with rules := rules } }).count (F.FLT_CNT_acted k))
      else ({ s with fl := { s.fl with rules := Tbl.put s.fl.rules k r' } }).fltScan path addr ks

/-- The action that injection takes on a frame, if a window is open. -/
def State.fltTest (s : State) (path addr : Nat) : FltHit × State :=
  if s.fltOpen then s.fltScan path addr (Tbl.keys s.fl.rules) else (.pass, s)

/-- Invert one bit of a frame beyond its first `lo` bytes. -/
def flipBit (b : Bytes) (lo k : Nat) : Bytes :=
  if b.length ≤ lo then b
  else
    let n := lo * 8 + k % ((b.length - lo) * 8)
    b.set (n / 8) ((b.getD (n / 8) 0#8) ^^^ BitVec.ofNat 8 (2 ^ (n % 8)))

/-- Hold a frame. -/
def State.fltHold (s : State) (h : FltHeld) : State := { s with fl := { s.fl with held := s.fl.held ++ [h] } }

/-- A frame of a path (and ring) has passed: the frames held there that have now seen `depth` later frames come free,
in the order of arrival. -/
def State.fltPassed (s : State) (path ring : Nat) : List FltHeld × State :=
  let mine (h : FltHeld) : Bool := h.path == path && h.ring == ring
  let up := s.fl.held.map fun h => if mine h then { h with passed := h.passed + 1 } else h
  let free (h : FltHeld) : Bool := mine h && decide (h.depth ≤ h.passed)
  (up.filter free, { s with fl := { s.fl with held := up.filter fun h => !free h } })

end Sys2Proof.Machine
end

