-- ==== Sys2Proof/Machine/Reset.lean ====
section
/-!
DEFINITION. Sys2Proof/Machine/Reset.lean: the resets of R73, the backup log of R124, the sampling of the straps
(R42), the entry to Hibernate and the wake from it (R75, R76), and the start that follows.
-/

namespace Sys2Proof.Machine

/-- The offset lies in the `RTC_` block, which lives in the backup domain. -/
def isRtcOff (off : Nat) : Bool := decide (0x030000 ≤ off) && decide (off ≤ 0x03FFFF)

/-! ## Backup log -/

/-- Write a backup-log entry (R124): cause, mode before and mode after. -/
def State.backupLog (s : State) (cause fromMode toMode : Nat) : State :=
  let q := (s.rt.blogSeq + 1) % 256
  let e : Bytes := toLE 4 s.rt.sec ++ toLE 1 q ++ toLE 1 cause ++ toLE 1 (fromMode + 16 * toMode) ++ toLE 1 0
  { s with rt := { s.rt with blog := (e :: s.rt.blog).take 8, blogSeq := q } }

/-! ## Resets (R73) -/

/-- Registers that keep their word through a reset of R73 other than power-on: the backup domain's, the causes
not yet cleared (R78), the record of the last Hibernate entry, the wake causes, and `TOP_SCRATCH` through a
software reset. -/
def keptReg (soft : Bool) (off : Nat) : Bool :=
  isRtcOff off || off == 0x010010 || off == 0x01000C || (soft && off == 0x00001C)

/-- The twin's part of a reset: the peer's claim is outside, and the recovery window with a stand-down that is due
outlasts it (R509). -/
def Tw.afterReset (x : Tw) (now : Nat) : Tw :=
  let alive := bitN x.claimIn 3
  { claimIn := x.claimIn, role := if alive then .shadow else .solo, changedAt := now, window := x.window,
    standDue := x.standDue, peerSeen := alive, peerDeadAt := if alive then none else some now, linkDownAt := now }

/-- What a reset of R73 other than PERST_N leaves: MRAM, OTP and flash (`nv`), the backup domain, and what lies
outside the device (the levels at its pins, the temperature, the state of the oscillators).  Every other part
takes its reset value.  The queue of waiting commands is the model's own and stays. -/
def State.hardReset (s : State) (soft : Bool) : State :=
  let hib := s.fld F.PWR_STAT_hib_source
  let keep : Tbl Word → Tbl Word := fun t => t.filter (fun p => keptReg soft p.1)
  let io : Io :=
    { regs := keep s.io.regs, eff := s.io.eff.filter (fun p => isRtcOff p.1),
      latch := s.io.latch.filter (fun p => isRtcOff p.1), heldLo := s.io.heldLo.filter (fun p => isRtcOff p.1),
      hf := { perst := s.io.hf.perst }, out := s.io.out }
  let s' : State :=
    { now := s.now, pending := s.pending, free := s.free, io := io,
      pw := { startAt := s.now, vin := s.pw.vin, faultHeld := s.pw.faultHeld },
      ck := { temp := s.ck.temp, refFailed := s.ck.refFailed, forced := s.ck.refFailed },
      rt := s.rt, tw := s.tw.afterReset s.now, pn := s.pn, nv := s.nv }
  s'.setFld F.PWR_STAT_hib_source hib

/-- A backup cold start (R121): every backup register takes its reset value, backup RAM is cleared,
`time_lost` reads 1 and the log entry is written. -/
def State.backupCold (s : State) : State :=
  let drop : Tbl Word → Tbl Word := fun t => t.filter (fun p => !isRtcOff p.1)
  let io := { s.io with regs := drop s.io.regs, eff := drop s.io.eff, latch := drop s.io.latch,
                        heldLo := drop s.io.heldLo }
  ({ s with io := io, rt := {} }).backupLog 0x8 0 0

/-- Sample the straps (R42), with the check of R489. -/
def State.sampleStraps (s : State) (x : Straps) : State :=
  (((s.setFld F.TOP_STRAP_rescue x.rescue.toNat).setFld F.TOP_STRAP_twin_pref x.pref.toNat).setFld
    F.TOP_STRAP_twin_id x.id.toNat).setFld F.TWN_STAT_strap_err (x.pref && x.id).toNat

end Sys2Proof.Machine
end

