-- ==== Sys2Proof/Machine/Rtc.lean ====
section
/-!
DEFINITION. Sys2Proof/Machine/Rtc.lean: the real-time clock's operations (04_rtc_backup): the calendar, sets,
shifts, offsets, the alarm conditions, the trim, the registers of the `RTC_` block.  The meanings
stand in Machine/Clocks.lean and Machine/Power.lean.
-/

namespace Sys2Proof.Machine

/-! ## Calendar (R107) -/

/-- Leap years of the calendar: divisible by 4, except 2100 (R107). -/
def leapYear (y : Nat) : Bool := y % 4 == 0 && y != 2100

def yearDays (y : Nat) : Nat := if leapYear y then 366 else 365

def monthDays (y m : Nat) : Nat :=
  if m = 2 then (if leapYear y then 29 else 28) else if m = 4 ∨ m = 6 ∨ m = 9 ∨ m = 11 then 30 else 31

/-- Year and day within it, from the days since `y`-01-01. -/
def splitYear : Nat → Nat → Nat → Nat × Nat
  | 0, y, d => (y, d)
  | fuel + 1, y, d => if d < yearDays y then (y, d) else splitYear fuel (y + 1) (d - yearDays y)

/-- Month and day of the month (from 1), from the day within the year. -/
def splitMonth (y : Nat) : Nat → Nat → Nat → Nat × Nat
  | 0, m, d => (m, d + 1)
  | fuel + 1, m, d => if d < monthDays y m then (m, d + 1) else splitMonth y fuel (m + 1) (d - monthDays y m)

/-- The last calendar second, 2199-12-31 23:59:59. -/
def calMax : Int := 6311433599

/-- The calendar reading at a count of calendar seconds; none outside the range of R107. -/
def calendar (c : Int) : Option Cal :=
  if c < 0 ∨ calMax < c then none
  else
    let n := c.toNat
    let day := n / 86400
    let r := n % 86400
    let yd := splitYear 200 2000 day
    let md := splitMonth yd.1 12 1 yd.2
    some { year := yd.1 - 2000, month := md.1, day := md.2, wday := (day + 5) % 7 + 1,
           hour := r / 3600, minute := r % 3600 / 60, second := r % 60 }

/-- Calendar seconds now: seconds count plus the offset in effect (R107). -/
def State.calSec (s : State) : Int := s.rt.sec + s.rt.offset

/-- The word of `RTC_CAL_DATE`. -/
def calDateWord (c : Option Cal) : Word :=
  match c with
  | some c => BitVec.ofNat 32 (c.wday * 65536 + c.year * 256 + c.month * 16)
  | none => 0#32
/-- The word of `RTC_CAL_TIME`. -/
def calTimeWord (c : Option Cal) : Word :=
  match c with
  | some c => BitVec.ofNat 32 (c.day * 16777216 + c.hour * 65536 + c.minute * 256 + c.second)
  | none => 0#32

/-! ## Alarm 1 matches (R113) -/

/-- The day at a day number matches the day and weekday fields of `RTC_ALM1_CFG`. -/
def alm1DayMatch (io : Io) (day : Nat) : Bool :=
  match calendar (day * 86400 : Nat) with
  | some c =>
    (io.fld F.RTC_ALM1_CFG_mask_wday == 1 || io.fld F.RTC_ALM1_CFG_wday == c.wday) &&
      (io.fld F.RTC_ALM1_CFG_mask_day == 1 || io.fld F.RTC_ALM1_CFG_day == c.day)
  | none => false

/-- The match instants within a day, in seconds from its start. -/
def alm1Times (io : Io) : List Nat :=
  let hs := if io.fld F.RTC_ALM1_CFG_mask_hour == 1 then List.range 24 else [io.fld F.RTC_ALM1_CFG_hour]
  let ms := if io.fld F.RTC_ALM1_CFG_mask_min == 1 then List.range 60 else [io.fld F.RTC_ALM1_CFG_minute]
  let sec := io.fld F.RTC_ALM1_CFG_second
  if sec < 60 then
    (hs.filter (· < 24)).flatMap fun h => (ms.filter (· < 60)).map fun m => h * 3600 + m * 60 + sec
  else []

/-- A match lies in the calendar seconds `lo` to `hi` (both included), looking at `fuel` days from `day`. -/
def alm1Between (io : Io) (lo hi : Int) : Nat → Nat → Bool
  | 0, _ => false
  | fuel + 1, day =>
    (alm1DayMatch io day &&
      (alm1Times io).any fun x =>
        let c : Int := (day * 86400 + x : Nat)
        decide (lo ≤ c) && decide (c ≤ hi)) || alm1Between io lo hi fuel (day + 1)

/-- Alarm 1 matches at some calendar second from `lo` to `hi` within the calendar's range. -/
def alm1Match (io : Io) (lo hi : Int) : Bool :=
  let lo := max lo 0
  let hi := min hi calMax
  if hi < lo then false
  else alm1Between io lo hi ((hi.toNat / 86400) - (lo.toNat / 86400) + 1) (lo.toNat / 86400)

/-! ## Time changes -/

/-- Alarm 0's instant in seconds. -/
def State.alm0 (s : State) : Nat := s.fld F.RTC_ALM0_HI_alm_hi * 2 ^ 32 + s.fld F.RTC_ALM0_LO_alm_lo

/-- What a change of the time or of the offset makes due (R112 to R114): `old` and `new` are times in 1/32,768 s,
`oldCal` and `newCal` calendar seconds, `jump` a set, a shift or an hour command. -/
def State.alarms (s : State) (old new oldCal newCal : Int) (jump : Bool) : State :=
  let a0 : Int := s.alm0 * 32768
  let due0 :=
    if s.flag F.RTC_ALM0_HI_enable && decide (old < a0) && decide (a0 ≤ new) then
      some (jump && decide ((s.alm0 : Int) < new / 32768))
    else s.rt.due0
  let from1 := match s.rt.mark with
    | some m => max (oldCal + 1) (m + 1)
    | none => oldCal + 1
  let due1 :=
    if s.flag F.RTC_ALM1_CFG_enable && decide (oldCal < newCal) && alm1Match s.io from1 newCal then
      if jump && alm1Match s.io from1 (newCal - 1) then some (true, newCal)
      else if alm1Match s.io (max from1 newCal) newCal then some (false, newCal) else some (true, newCal)
    else s.rt.due1
  { s with rt := { s.rt with due0 := due0, due1 := due1 } }

/-- Add a delta, in 1/32,768 s, to the anchors of a snapshot bank (R106). -/
def Snap.shift (b : Snap) (d : Int) : Snap :=
  { b with conns := b.conns.map fun c => { c with anchor := c.anchor + d } }

/-- A set or a shift moves the time by a delta: the same delta is added to every anchor of the connection table
and of both snapshot banks (R106). -/
def State.anchorsBy (s : State) (d : Int) : State :=
  { s with
    nv := { s.nv with snap0 := s.nv.snap0.map (·.shift d), snap1 := s.nv.snap1.map (·.shift d) }
    ml := s.ml.shiftAnchors d }

/-- The fraction's advance at a tick under the trim of R116. -/
def trimStep (tick pulses : Nat) (skip : Bool) : Nat :=
  let seg := tick / 2048
  if tick % 2048 = 0 ∧ seg * pulses % 1024 < pulses then (if skip then 0 else 2) else 1

/-- The time becomes `new` (in 1/32,768 s). -/
def State.setTime (s : State) (new : Int) : State :=
  let n := new.toNat
  { s with rt := { s.rt with sec := n / 32768, frac := n % 32768 } }

/-- At a whole second: a written offset takes effect, clamped to ±50,400 s (R108); an hour command changes the
offset, or is ignored with `cmd_err` where it would leave the range (R109).  `before`: the calendar just before. -/
def State.wholeSecond (s : State) (before : Int) : State :=
  let s := match s.rt.offsetNext with
    | some o => { s with rt := { s.rt with offset := max (-50400) (min 50400 o), offsetNext := none } }
    | none => s
  let hour (d : Int) (s : State) : State :=
    let o := s.rt.offset + d
    let s := { s with rt := { s.rt with act := none } }
    if o < -50400 ∨ 50400 < o then s.setFld F.RTC_STAT_cmd_err 1
    else
      let s := { s with rt := { s.rt with offset := o, dstUntil := if d < 0 then some before else s.rt.dstUntil } }
      s.setFld F.RTC_LOCAL_OFS_offset (codeN 17 o)
  match s.rt.act with
  | some .addHour => hour 3600 s
  | some .subHour => hour (-3600) s
  | _ => s

/-- The time goes on to `new` without a jump; a change of the offset at a whole second is one for alarm 1. -/
def State.goesOn (s : State) (new : Int) : State :=
  let old := s.rtc
  let oldCal := s.calSec
  let s := s.setTime new
  if new / 32768 = old / 32768 then s.alarms old new oldCal oldCal false
  else
    let o := s.rt.offset
    let s := s.wholeSecond oldCal
    s.alarms old new oldCal s.calSec (decide (s.rt.offset ≠ o))

/-- The repeated hour is over once the calendar has passed the value it held before the command (R109). -/
def State.repeatEnds (s : State) : State :=
  match s.rt.dstUntil with
  | some c => if c < s.calSec then { s with rt := { s.rt with dstUntil := none } } else s
  | none => s

/-- A write to a register of the block reaches the backup domain (R104). -/
def State.rtcTransfer (s : State) (p : Nat × Word) : State :=
  let off := p.1
  let w := p.2
  if off = 0x03000C then
    let s := s.setFld F.RTC_LOCAL_OFS_offset w.toNat
    { s with rt := { s.rt with offsetNext := some (signedN 17 w.toNat) } }
  else if off = 0x030028 then
    -- any write to RTC_ALM1_CFG clears the mark (R113)
    let s := s.setWord off (w &&& BitVec.ofNat 32 0xBFFFFFFE)
    { s with rt := { s.rt with mark := none } }
  else if off = 0x03001C then
    -- while auto is 1, writes to dir and pulses are ignored (R117)
    if s.flag F.RTC_TRIM_auto then s.setFld F.RTC_TRIM_auto (w.toNat / 2 ^ 31)
    else s.setWord off (w &&& BitVec.ofNat 32 0x800007FF)
  else
    match famOf off with
    | some f =>
      let rw : Word := BitVec.ofNat 32 f.rw
      let w1c : Word := BitVec.ofNat 32 f.w1c
      let cur := s.word off
      s.setWord off ((((cur &&& ~~~rw) ||| (w &&& rw))) &&& ~~~(w &&& w1c))
    | none => s

/-- The trim values of the new window take effect (R116). -/
def State.newWindow (s : State) : State :=
  { s with rt := { s.rt with tick := 0, skip := s.flag F.RTC_TRIM_dir, pulses := s.fld F.RTC_TRIM_pulses } }

/-- One backup tick (R103): pending writes reach the domain, a set or a shift takes effect with its delta on
every anchor (R106), the trim is applied (R116), and at a whole second the offset changes. -/
def State.backupTick (s : State) : State :=
  let s := s.each s.rt.wr State.rtcTransfer
  let s := { s with rt := { s.rt with wr := [] } }
  let old := s.rtc
  let oldCal := s.calSec
  let inc : Int := trimStep s.rt.tick s.rt.pulses s.rt.skip
  let s := match s.rt.act with
    | some .clearMark => { s with rt := { s.rt with mark := none, act := none } }
    | _ => s
  let s' := match s.rt.setNext, s.rt.act with
    | some (sec, frac), _ =>
      let new : Int := (sec * 32768 + frac : Nat)
      let s := s.anchorsBy (new - (old + inc))
      let s := { s with rt := { s.rt with setNext := none } }
      let s := (s.setFld F.RTC_STAT_time_lost 0).setFld F.RTC_STAT_xtal_gap 0
      (s.setTime new).alarms old new oldCal (new / 32768 + s.rt.offset) true
    | none, some (.shift n) =>
      let new := max 0 (old + 1 + n)
      let s := s.anchorsBy n
      let s := { s with rt := { s.rt with act := none } }
      (s.setTime new).alarms old new oldCal (new / 32768 + s.rt.offset) (decide (n ≠ 0))
    | none, _ => s.goesOn (old + inc)
  let s' := s'.repeatEnds
  if s'.rt.tick + 1 = 2 ^ 21 then s'.newWindow else { s' with rt := { s'.rt with tick := s'.rt.tick + 1 } }

/-! ## Register writes of the block -/

/-- A write of `RTC_SEC_HI` completes a set (R104): the seconds' low half is the `RTC_SEC_LO` last written, or the
current one (R8). -/
def State.rtcSet (s : State) (hi : Word) : State :=
  let lo := match Tbl.get? s.io.heldLo 0x030004 with
    | some w => w.toNat
    | none => s.rt.sec % 2 ^ 32
  { s with rt := { s.rt with setNext := some (bitsN hi.toNat 15 0 * 2 ^ 32 + lo, bitsN hi.toNat 30 16) } }

/-- A write of `RTC_CMD` (R111): exactly one action, or it is ignored and sets `cmd_err`; a shift of −32,768 is
invalid (R110); the action replaces one still pending. -/
def State.rtcCmd (s : State) (w : Word) : State :=
  let n := bitsN w.toNat 15 0
  let acts : List RtcAct :=
    (if n ≠ 0 then [.shift (signedN 16 n)] else []) ++ (if bitN w.toNat 16 then [.addHour] else []) ++
      (if bitN w.toNat 17 then [.subHour] else []) ++ (if bitN w.toNat 18 then [.clearMark] else [])
  match acts with
  | [] => s
  | [a] => if a = .shift (-32768) then s.setFld F.RTC_STAT_cmd_err 1 else { s with rt := { s.rt with act := some a } }
  | _ => s.setFld F.RTC_STAT_cmd_err 1

/-- A write to any register of the `RTC_` block. -/
def State.rtcWrite (s : State) (off : Nat) (w : Word) : State :=
  if off = 0x030004 ∨ off = 0x030020 then { s with io := { s.io with heldLo := Tbl.put s.io.heldLo off w } }
  else if off = 0x030008 then s.rtcSet w
  else if off = 0x030018 then s.rtcCmd w
  else if off = 0x030024 then
    let lo := Tbl.getD s.io.heldLo 0x030020 (s.word 0x030020)
    { s with rt := { s.rt with wr := s.rt.wr ++ [(0x030020, lo), (0x030024, w)] } }
  else { s with rt := { s.rt with wr := s.rt.wr ++ [(off, w)] } }

/-! ## Views of registers held elsewhere -/

/-- `RTC_STAT` with its computed bits. -/
def State.rtcStat (s : State) : Word :=
  let s := s.setFld F.RTC_STAT_dst_repeat s.rt.dstUntil.isSome.toNat
  let s := s.setFld F.RTC_STAT_cal_range (calendar s.calSec).isNone.toNat
  let busy := s.rt.setNext.isSome || s.rt.act.isSome || !s.rt.wr.isEmpty
  (s.setFld F.RTC_STAT_busy busy.toNat).word 0x030000

/-- The `RTC_` registers whose value is computed (R103, R104, R107, R124). -/
def State.rtcView (s : State) (off : Nat) : Option Word :=
  if off = 0x030000 then some s.rtcStat
  else if off = 0x030004 then some (BitVec.ofNat 32 s.rt.sec)
  else if off = 0x030008 then some (BitVec.ofNat 32 (s.rt.frac * 65536 + s.rt.sec / 2 ^ 32 % 65536))
  else if off = 0x030010 then some ((s.rt.calLatch.getD (calDateWord (calendar s.calSec), 0)).1)
  else if off = 0x030014 then some ((s.rt.calLatch.getD (0, calTimeWord (calendar s.calSec))).2)
  else if 0x0302C0 ≤ off ∧ off ≤ 0x0302FC then
    let i := (off - 0x0302C0) / 8
    -- the ring of 8: the entry with sequence number q lies at place q mod 8
    match s.rt.blog.find? (fun e => Bytes.le e 4 1 % 8 == i) with
    | some e => some (BitVec.ofNat 32 (Bytes.le e ((off - 0x0302C0) % 8) 4))
    | none => some 0#32
  else none

end Sys2Proof.Machine
end

