-- ==== Sys2Proof/Machine/Postbox.lean ====
section
/-!
DEFINITION. Sys2Proof/Machine/Postbox.lean: the Post-box (05_triplicate, R143 to R147).
-/

namespace Sys2Proof.Machine

/-- One byte through the CRC-8 of polynomial 0x07 (R143). -/
def crc8Bits : Nat → Nat → Nat
  | 0, c => c
  | k + 1, c => crc8Bits k (if c ≥ 128 then (c * 2) % 256 ^^^ 0x07 else c * 2)

/-- CRC-8, polynomial 0x07, initial value 0x00 (R143). -/
def crc8 : Nat → Bytes → Nat
  | c, [] => c
  | c, b :: bs => crc8 (crc8Bits 8 (c ^^^ b.toNat)) bs

/-- The bytes of an item, each word little-endian. -/
def itemBytes : List PWord → Bytes
  | [] => []
  | w :: ws => toLE 8 w.toNat ++ itemBytes ws

/-- The header of an item without its CRC (R143). -/
def itemHeader (type len seq lost slot : Nat) : Nat :=
  type % 256 + len % 16 * 2 ^ 8 + seq % 256 * 2 ^ 16 + min 255 lost * 2 ^ 24 + slot % 2 ^ 24 * 2 ^ 40

/-- An item: its header carries the CRC-8 over all its bytes with the CRC field 0. -/
def mkItem (type seq lost slot : Nat) (payload : List PWord) : List PWord :=
  let h := itemHeader type (payload.length + 1) seq lost slot
  let c := crc8 0 (itemBytes (BitVec.ofNat 64 h :: payload))
  BitVec.ofNat 64 (h + c * 2 ^ 32) :: payload

/-- The `crc8` field of an item agrees with its bytes (R146). -/
def itemOk : List PWord → Bool
  | [] => true
  | h :: ws =>
    let hn := h.toNat
    crc8 0 (itemBytes (BitVec.ofNat 64 (hn - bitsN hn 39 32 * 2 ^ 32) :: ws)) == bitsN hn 39 32

/-- Words occupied. -/
def Tp.words (p : Tp) : Nat := (p.pbox.map List.length).sum

/-- Triplicate pushes an item (R145): one that does not fit is dropped whole and counted. -/
def State.pushItem (s : State) (type : Nat) (payload : List PWord := []) : State :=
  let q := s.tp.pseq
  let s := { s with tp := { s.tp with pseq := (q + 1) % 256 } }
  if s.tp.words + payload.length + 1 ≤ 1024 then
    let it := mkItem type q s.tp.plost s.ml.slot payload
    { s with tp := { s.tp with pbox := s.tp.pbox ++ [it], plost := 0 } }
  else
    ({ s with tp := { s.tp with plost := s.tp.plost + 1 } }).count F.TPL_PBOX_ERR_overflow

/-- A state-refresh item (R146). -/
def State.stateRefresh (s : State) : State := s.pushItem 0x06

/-- A Postmaster pops one word (R144); `upset` is what the unprotected SRAM has changed in it.  At the end of an
item a CRC-8 mismatch drops the item and is counted (R146). -/
def State.popWord (s : State) (upset : PWord) : State :=
  match s.tp.pbox with
  | [] => s.put (.pbox 0#64)
  | [] :: rest => ({ s with tp := { s.tp with pbox := rest, read := [] } }).put (.pbox 0#64)
  | (w :: ws) :: rest =>
    let w' := w ^^^ upset
    let got := s.tp.read ++ [w']
    if ws.isEmpty then
      let s := ({ s with tp := { s.tp with pbox := rest, read := [] } }).put (.pbox w')
      if itemOk got then s else s.count F.TPL_PBOX_ERR_crc_drop
    else ({ s with tp := { s.tp with pbox := ws :: rest, read := got } }).put (.pbox w')

/-- A flush empties the Post-box in one cycle and is counted; the unread words of an item being read are
discarded (R147).  Triplicate pushes whole items here, so a flush cuts none that is being written. -/
def State.flushPbox (s : State) : State :=
  ({ s with tp := { s.tp with pbox := [], read := [] } }).count F.TPL_PBOX_FLUSH_flushes

end Sys2Proof.Machine
end

