-- ==== Sys2Proof/Machine/RadioS.lean ====
section
/-!
DEFINITION. Sys2Proof/Machine/RadioS.lean: Radio S's receive path, calibration requests, transmit checks and
airtime buckets (06_radio_s; R452 to R455), and the meanings of its receive events.
-/

namespace Sys2Proof.Machine

/-! ## Serving -/

/-- Radio S serves now (R151, R184). -/
def State.sServes (s : State) : Bool :=
  s.flag F.PWR_RADIO_PERS_s_eff && s.pllA &&
    match s.pw.mode with
    | .full => true
    | .dawn => s.flag F.TPL_STAT_dawn_active
    | .doze => s.pw.slotPowered
    | _ => false

/-- Output stages may be enabled: the gate is open and the clock-failure force is off (R58, R93, R495). -/
def State.outEnabled (s : State) : Bool := s.tw.gate && !s.ck.forced

/-- 100 kHz grid (R149). -/
def State.grid100 (s : State) : Bool := s.flag F.SRX_SYNTH_CFG_grid

/-- Channels of the selection mask in effect, lowest first (R149, R150). -/
def Io.selChannels (io : Io) : List Nat :=
  (List.range 128).filter fun k =>
    bitN (io.eWord (if k < 32 then 0x100008 else if k < 64 then 0x10000C else if k < 96 then 0x100010 else 0x100014)).toNat
      (k % 32)

/-- The channel demodulator `j` serves; none where it is idle (R149, R150). -/
def State.demodChannel (s : State) (j : Nat) : Option Nat :=
  if s.grid100 then (s.io.selChannels.take 64)[j]? else if j < 64 then some j else none

/-- The profile of demodulator `j` in the slot: 0 P1, 1 P2, 2 P3; none where it is off (R153). -/
def State.demodProfile (s : State) (j : Nat) : Option Nat :=
  let v := bitsN (s.io.eWord (0x100018 + 4 * (j / 16))).toNat (2 * (j % 16) + 1) (2 * (j % 16))
  if v = 3 then none else if s.grid100 then some 0 else some v

/-- The largest PSDU of a profile (R152). -/
def maxPsdu (prof : Nat) : Nat :=
  if prof = 0 then 96 else if prof = 1 then 200 else if prof = 2 then 255 else 127

/-- At a slot boundary the selection mask and the profile map written take effect (R150, R153). -/
def State.srxSlotLatch (s : State) : State :=
  let s := s.latchRegs [0x100008, 0x10000C, 0x100010, 0x100014, 0x100018, 0x10001C, 0x100020, 0x100024]
  s.setFld F.SRX_STAT_sel_over (s.grid100 && decide (64 < s.io.selChannels.length)).toNat

/-! ## Receive windows and AGC -/

/-- Fields whose boundary is the next receive window take effect (R589). -/
def State.windowLatch (s : State) : State := s.latchRegs [0x100028, 0x10002C, 0x100030, 0x440100, 0x440104]

/-- A value written as a signed byte. -/
def s8 (n : Nat) : Int := signedN 8 n

/-- RX_WINDOW_OPEN: chains tracking, `lna_mode` decided from the powers at the two S_ANTn_RX balls in dBm (R157,
R160); with `req_rx` COXB_REQ is high over the window, with COXB_PRI low (R185). -/
def State.openWindow (s : State) (rcpt : Bool) (p0 p1 : Int) : State :=
  if !s.sServes || s.rs.window.isSome || s.rs.tx.any (·.started) || s.fld F.SRX_STAT_cal != 0 then s
  else
    let s := s.windowLatch
    let s := { s with rs := { s.rs with window := some rcpt, demods := [] } }
    let s := ((((s.setFld F.SRX_STAT_frozen0 0).setFld F.SRX_STAT_frozen1 0).setFld F.SRX_STAT_step0 0).setFld
      F.SRX_STAT_step1 0).setFld F.SRX_STAT_rx_active 1
    let m := s.eFld F.SRX_AGC_CFG_lna_mode
    let g : Int := s.eFld F.SRX_AGC_CFG_ext_gain_db
    -- the power referred through the external gain: at the antenna side while the LNA is in use
    let ref (p : Int) : Int := if s.rs.lnaRx then p else p - g
    let th := s8 (s.eFld F.SRX_AGC_CFG_lna_thresh)
    let byp := if m = 0 then false else if m = 2 then true else decide (th < ref p0) || decide (th < ref p1)
    let s := { s with rs := { s.rs with lnaRx := byp } }
    let s := s.setFld F.SRX_STAT_lna_byp byp.toNat
    if s.eFlag F.COX_B_CFG_en && s.eFlag F.COX_B_CFG_req_rx && !s.isShadow then
      { s with rs := { s.rs with coxbReq := true, coxbPri := false } }
    else s

/-- Hand a frame to Courier S, and count it with its chain (R165). -/
def State.toCourier (s : State) (f : RxFrame) : State :=
  let s : State := { s with rs := { s.rs with rx := s.rs.rx ++ [f] } }
  (s.count F.SRX_RX_FRAMES_frames).count (if f.chain = 0 then F.SRX_DIV_STAT_chain0 else F.SRX_DIV_STAT_chain1)

/-- A frame in progress is cut off: delivered `truncated` with no PSDU and counted (R166). -/
def State.truncate (s : State) (p : Nat × DemodState) : State :=
  match p.2 with
  | .psdu chain sfdEnd _ fcs st cl =>
    let f : RxFrame :=
      { ch := (s.demodChannel p.1).getD 0, demod := p.1, chain := chain, prof := (s.demodProfile p.1).getD 0,
        sfdEnd := sfdEnd, rssi := 0, cfo := 0, step := st, clip := cl, truncated := true, fcs := fcs, psdu := [],
        endAt := s.now }
    (s.toCourier f).count F.SRX_RX_ERR_truncated
  | _ => s

/-- Every demodulator stops (R166). -/
def State.stopDemods (s : State) : State :=
  let s := s.each s.rs.demods State.truncate
  { s with rs := { s.rs with demods := [] } }

/-- COXB_EXT_GNT as R187 and R189 give it, with the present requests and transmissions; a Shadow grants nothing. -/
def State.coxbGrant (s : State) : State :=
  let req := s.flag F.COX_B_STAT_ext_req
  let lead := usNs (clamp 50 1000 (s.eFld F.COX_B_TIME_preempt_lead))
  let busy := match s.rs.tx with
    | some j => j.started || (match j.eff with
        | some e => decide (e ≤ s.now + usNs 96 + lead)
        | none => decide (j.req.start ≤ s.now + usNs 96 + lead))
    | none => s.rs.paEn
  let deny := s.eFlag F.COX_B_CFG_ext_rx_deny && s.rs.window.isSome
  let g := if s.isShadow then false else if !s.eFlag F.COX_B_CFG_ext_en || !s.sServes then req
    else req && (s.flag F.COX_B_STAT_ext_gnt || (!busy && !deny))
  s.setFld F.COX_B_STAT_ext_gnt g.toNat

/-- The window closes: demodulators stop, the AGC returns to free tracking (R159, R166); COXB_REQ of `req_rx`
falls (R185), and a grant refused inside the window is decided again (R187). -/
def State.closeWindow (s : State) : State :=
  match s.rs.window with
  | none => s
  | some _ =>
    let s := s.stopDemods
    let s := { s with rs := { s.rs with window := none } }
    let s := (s.setFld F.SRX_STAT_frozen0 0).setFld F.SRX_STAT_frozen1 0
    let s := if s.rs.paEn || s.rs.tx.any (·.started) then s
      else { s with rs := { s.rs with coxbReq := false, coxbPri := false } }
    s.coxbGrant

/-- PREAMBLE_DETECT: the first detection freezes that chain's AGC; the demodulator notes the chain (R157, R161). -/
def State.preamble (s : State) (j chain : Nat) : State :=
  if s.rs.window.isNone || (s.demodChannel j).isNone || (s.demodProfile j).isNone then s
  else
    let dm := s.eFld F.SRX_DIV_CFG_div_mode
    if (dm = 1 && chain == 1) || (dm = 2 && chain == 0) then s
    else
      let fr := if chain = 0 then F.SRX_STAT_frozen0 else F.SRX_STAT_frozen1
      match Tbl.get? s.rs.demods j with
      | none =>
        let d := DemodState.preamble (decide (chain = 0)) (decide (chain = 1)) s.now
        ({ s with rs := { s.rs with demods := Tbl.put s.rs.demods j d } }).setFld fr 1
      | some (.preamble c0 c1 a) =>
        let d := DemodState.preamble (c0 || decide (chain = 0)) (c1 || decide (chain = 1)) a
        ({ s with rs := { s.rs with demods := Tbl.put s.rs.demods j d } }).setFld fr 1
      | some _ => s.setFld fr 1

/-- DIVERSITY_DECISION: the detecting chain with the higher SNR, equal estimates chain 0 (R162, R163). -/
def State.diversity (s : State) (j : Nat) (snr0 snr1 : Int) : State :=
  match Tbl.get? s.rs.demods j with
  | some (.preamble c0 c1 a) =>
    let chain := if c0 && c1 then (if snr0 < snr1 then 1 else 0) else if c0 then 0 else 1
    { s with rs := { s.rs with demods := Tbl.put s.rs.demods j (.decided chain (c0 && c1) a) } }
  | _ => s

/-- What a 12 dB step does to a demodulator whose chosen chain stepped (R159); `other` is whether the other
chain has stepped. -/
def DemodState.stepped (chain : Nat) (other : Bool) (d : DemodState) : DemodState :=
  match d with
  | .decided c both a => if c = chain && both && !other then .decided (1 - c) both a else d
  | .psdu c e l f _ cl => if c = chain then .psdu c e l f true cl else d
  | d => d

/-- Mark the frames in progress on a chain `clip` (R158). -/
def DemodState.clipped (chain : Nat) (d : DemodState) : DemodState :=
  match d with
  | .psdu c e l f st _ => if c = chain then .psdu c e l f st true else d
  | d => d

/-- Frames in progress on a chain. -/
def inProgress (chain : Nat) (t : Tbl DemodState) : Nat :=
  (t.filter fun p => match p.2 with
    | .psdu c _ _ _ _ _ => c == chain
    | _ => false).length

/-- ADC_CLIP on a frozen chain: the first takes the 12 dB step where `step_en` allows it, any other marks the
frames in progress (R158, R159). -/
def State.adcClip (s : State) (chain : Nat) : State :=
  let fr := if chain = 0 then F.SRX_STAT_frozen0 else F.SRX_STAT_frozen1
  let st := if chain = 0 then F.SRX_STAT_step0 else F.SRX_STAT_step1
  if s.rs.window.isNone || !s.flag fr then s
  else if s.eFlag F.SRX_AGC_CFG_step_en && !s.flag st then
    let other := s.flag (if chain = 0 then F.SRX_STAT_step1 else F.SRX_STAT_step0)
    let s := (s.setFld st 1).count F.SRX_AGC_EVT_steps
    { s with rs := { s.rs with demods := s.rs.demods.map fun p => (p.1, p.2.stepped chain other) } }
  else
    let fresh := inProgress chain (s.rs.demods.filter fun p => match p.2 with
      | .psdu _ _ _ _ _ cl => !cl
      | _ => false)
    let s := s.count F.SRX_AGC_EVT_clip_frames fresh
    { s with rs := { s.rs with demods := s.rs.demods.map fun p => (p.1, p.2.clipped chain) } }

/-- SFD_FOUND: the received SFD differs in `errs` bits; the PHR is judged (R155, R164). -/
def State.sfdFound (s : State) (j errs : Nat) (phr : Phr) : State :=
  match Tbl.get? s.rs.demods j with
  | some (.decided chain _ _) =>
    if s.eFld F.SRX_SFD_CFG_sfd_err < errs then s
    else if phr.modeSwitch || phr.len = 0 || decide (maxPsdu ((s.demodProfile j).getD 0) < phr.len) then
      ({ s with rs := { s.rs with demods := Tbl.del s.rs.demods j } }).count F.SRX_RX_ERR_len_err
    else
      let d := DemodState.psdu chain s.now phr.len phr.fcsType.toNat false false
      { s with rs := { s.rs with demods := Tbl.put s.rs.demods j d } }
  | _ => s

/-- SFD_SEARCH_TIMEOUT: no SFD within 1,024 bit periods; the demodulator returns to searching (R164). -/
def State.sfdTimeout (s : State) (j : Nat) : State :=
  match Tbl.get? s.rs.demods j with
  | some (.preamble _ _ _) => { s with rs := { s.rs with demods := Tbl.del s.rs.demods j } }
  | some (.decided _ _ _) => { s with rs := { s.rs with demods := Tbl.del s.rs.demods j } }
  | _ => s

/-- Fault injection on mesh reception: a dropped frame was never received; a corrupted one has a payload bit inverted
and its FCS recomputed (R559). -/
def State.injectMesh (s : State) (path : Nat) (f : RxFrame) : Option RxFrame × State :=
  let n := f.psdu.length - 2
  match s.fltTest path (f.psdu.le 4 3) with
  | (.drop, s) => (none, s)
  | (.corrupt _ k, s) => (some { f with psdu := withFcs (flipBit (f.psdu.take n) (min 13 (n - 1)) k) }, s)
  | (_, s) => (some f, s)

/-- FRAME_DELIVERY: the PSDU and its record reach Courier S (R165). -/
def State.deliverFrame (s : State) (j : Nat) (psdu : Bytes) (rssi cfo : Int) : State :=
  match Tbl.get? s.rs.demods j with
  | some (.psdu chain sfdEnd len fcs st cl) =>
    let f : RxFrame :=
      { ch := (s.demodChannel j).getD 0, demod := j, chain := chain, prof := (s.demodProfile j).getD 0,
        sfdEnd := sfdEnd, rssi := rssi, cfo := cfo, step := st, clip := cl, truncated := false, fcs := fcs,
        psdu := Bytes.slice psdu 0 len, endAt := s.now }
    let s : State := { s with rs := { s.rs with demods := Tbl.del s.rs.demods j } }
    match s.injectMesh 6 f with
    | (some f, s) => s.toCourier f
    | (none, s) => s
  | _ => s

/-- A mesh index of Radio L is enabled (R318). -/
def Io.lIndexOn (io : Io) (k : Nat) : Bool :=
  decide (k < 8) && bitN (io.fld (if k < 4 then F.LRX_MESH_CH_0_ch else F.LRX_MESH_CH_1_ch)) (8 * (k % 4) + 7)

/-- The mesh runs on Radio L in Full, on this index (R228, R318). -/
def State.lServes (s : State) (k : Nat) : Bool :=
  s.pw.mode == .full && decide (2 ≤ s.fld F.PWR_RADIO_PERS_l_eff) && s.io.lIndexOn k

/-- An instant lies in a receive window of the slot: of a U slot, or the node-receipt window of a D slot (R202,
R203, R209). -/
def Ml.inWindow (m : Ml) (t : Nat) : Bool :=
  if bitN m.sfMap (m.slot % m.sfLen) then
    decide (m.slotAt + 20700000 ≤ t) && decide (t ≤ m.slotAt + 24950000)
  else decide (m.slotAt + 1000000 ≤ t) && decide (t ≤ m.slotAt + 20500000)

/-- A frame received on a mesh channel of Radio L (R228). -/
def State.deliverL (s : State) (x : LRx) (psdu : Bytes) (rssi cfo : Int) : State :=
  if s.lServes x.ch && s.ml.inWindow x.sfdEnd && s.ml.inWindow s.now then
    let f : RxFrame :=
      { ch := x.ch, demod := 0, chain := 0, prof := 3, sfdEnd := x.sfdEnd, rssi := rssi, cfo := cfo, step := x.step,
        clip := x.clip, truncated := false, fcs := 1, psdu := Bytes.slice psdu 0 (min 127 psdu.length), endAt := s.now,
        onL := some x.ch }
    let s := (s.count F.LRX_ERR_clip x.clip.toNat).setFld F.LRX_STAT_step x.step.toNat
    let (f, s) := s.injectMesh 7 f
    { s with rs := { s.rs with rx := s.rs.rx ++ f.toList } }
  else s

/-! ## Durations and limits of a transmission -/

/-- Duration of a carrier, ns (R152, R154, R167); profile 3 is O-QPSK on Radio L (R228). -/
def Carrier.dur (c : Carrier) : Nat :=
  let n := c.psdu.length
  if c.prof = 0 then (c.preamble + 32 + 8 * n) * 20000
  else if c.prof = 1 then (c.preamble + 32 + 8 * n) * 10000
  else if c.prof = 2 then (c.preamble + 16) * 10000 + (16 + 8 * n) * 5000
  else (6 + n) * 32000

/-- Duration of a transmission: its longest carrier (R167). -/
def TxReq.dur (r : TxReq) : Nat := (r.carriers.map Carrier.dur).foldl max 0

/-- The limits of R153 and R167; a request outside them completes BAD_ARG. -/
def TxReq.valid (r : TxReq) (grid100 : Bool) : Bool :=
  let cs := r.carriers
  decide (1 ≤ cs.length) && decide (cs.length ≤ 64) &&
    decide ((cs.filter fun c => !c.receipt).length ≤ 16) && decide ((cs.map (·.ch)).Nodup) &&
    cs.all fun c =>
      decide (c.ch < if grid100 then 128 else 64) && decide (c.prof ≤ 2) && (!grid100 || c.prof == 0) &&
        decide (c.psdu.length ≤ maxPsdu c.prof) &&
        (if c.receipt then c.preamble == 32 && c.psdu.length == 12
         else decide (64 ≤ c.preamble) && decide (c.preamble ≤ 1024) && c.preamble % 8 == 0)

/-! ## Airtime buckets (R452 to R455) -/

/-- The channel index of R194 that a grid channel has: on the 100 kHz grid its demodulator's number. -/
def Io.cellOf (io : Io) (ch : Nat) : Option Nat :=
  if io.fld F.SRX_SYNTH_CFG_grid != 0 then (io.selChannels.take 64).findIdx? (· == ch) else some ch

/-- The bucket's sub-band is in use and holds the channel (R452). -/
def Io.inBand (io : Io) (b ch : Nat) : Bool :=
  io.fld (F.QMS_AIR_CFG_en b) != 0 && (io.cellOf ch).any fun k =>
    decide (io.fld (F.QMS_AIR_CFG_lo_ch b) ≤ k) && decide (k ≤ io.fld (F.QMS_AIR_CFG_hi_ch b))

/-- The charge of a transmission to sub-band `b`, ns (R452). -/
def Io.charge (io : Io) (cs : List Carrier) (b : Nat) : Nat :=
  ((cs.filter fun c => io.inBand b c.ch).map Carrier.dur).foldl max 0

/-- Tokens of a bucket, ns. -/
def State.airTokens (s : State) (b : Nat) : Int := Tbl.getD s.qm.air b 0

def State.setAir (s : State) (b : Nat) (v : Int) : State :=
  { s with qm := { s.qm with air := Tbl.putDef s.qm.air b v 0 } }

/-- Charge a transmission to its sub-bands; a charge that takes a bucket below zero is counted (R453, R454). -/
def State.airCharge (s : State) (cs : List Carrier) : State :=
  s.each (List.range 8) fun s b =>
    let c := s.io.charge cs b
    if c = 0 then s
    else
      let old := s.airTokens b
      let new := old - c
      let s := s.setAir b new
      if 0 ≤ old ∧ new < 0 then s.count (F.QMS_AIR_CNT_overdrawn b) else s

/-- Refund the difference between what was charged and what was sent, per bucket (R453). -/
def State.airRefund (s : State) (charged sent : Nat → Nat) : State :=
  s.each (List.range 8) fun s b => s.setAir b (s.airTokens b + (charged b - sent b : Nat))

/-- At every slot boundary each enabled bucket gains duty × 2.5 µs, up to its size (R453). -/
def State.airRefill (s : State) : State :=
  s.each (List.range 8) fun s b =>
    let s := s.latchRegs [(F.QMS_AIR_RATE_duty b).off]
    if s.fld (F.QMS_AIR_CFG_en b) = 0 then s
    else
      let gain : Int := min 10000 (s.eFld (F.QMS_AIR_RATE_duty b)) * 2500
      let cap : Int := msNs (max 1 (s.eFld (F.QMS_AIR_RATE_burst_ms b)))
      let t := s.airTokens b
      s.setAir b (if t ≤ cap then min cap (t + gain) else t)

/-- `QMS_AIR_TOKENS_b`: signed µs. -/
def State.airView (s : State) (b : Nat) : Word := BitVec.ofNat 32 (codeN 32 (s.airTokens b / 1000))

/-! ## Calibration (R178 to R182) -/

/-- The stored results are valid: centre and grid unchanged, temperature within 40 °C (R179). -/
def State.storedValid (s : State) : Bool :=
  match s.nv.calS with
  | some (c, g, t) =>
    c == s.fld F.SRX_SYNTH_CFG_centre_khz && g == s.fld F.SRX_SYNTH_CFG_grid && decide ((s.ck.temp - t).natAbs ≤ 40)
  | none => false

/-- A calibration is requested or due: pending for the next D slot, merged into one, full if any is (R181); in a
mode other than Full a requested one is held until Full (R180). -/
def State.calPend (s : State) (full : Bool) : State :=
  let s := { s with rs := { s.rs with calFull := s.rs.calFull || full } }
  s.setFld F.SRX_CAL_STAT_pending 1

/-- `SRX_CAL_CMD`: quick or full as written, full if both (R180). -/
def State.srxCalCmd (s : State) (quick full : Bool) : State :=
  if !quick && !full then s
  else if s.pw.mode == .full then s.calPend full
  else { s with rs := { s.rs with calHeld := max s.rs.calHeld (if full then 2 else 1) } }

/-- SRX_CAL_DUE: a temperature change of `temp_delta` in Doze, Dawn or Full, or the period in Full, makes a quick
calibration due (R180). -/
def State.srxCalDue (s : State) (temp : Int) : State :=
  let s := { s with ck := { s.ck with temp := temp } }
  let d := max 2 (s.fld F.SRX_CAL_CFG_temp_delta)
  let p := s.fld F.SRX_CAL_CFG_period_min
  let byTemp := decide (d ≤ (temp - s.rs.calTemp).natAbs) &&
    (s.pw.mode == .doze || s.pw.mode == .dawn || s.pw.mode == .full)
  let byTime := p != 0 && s.pw.mode == .full && decide (s.rs.calAt + secNs (p * 60) ≤ s.now)
  if s.flag F.PWR_RADIO_PERS_s_eff && (byTemp || byTime) then s.calPend false else s

/-- SRX_CAL_START: at the start of a D slot, a pending calibration runs; a quick one only from valid stored
results (R179, R181). -/
def State.srxCalStart (s : State) (dSlot : Bool) : State :=
  if !s.flag F.SRX_CAL_STAT_pending || s.fld F.SRX_STAT_cal != 0 || !dSlot || !(s.sServes || s.rs.switching) then s
  else
    let full := s.rs.calFull || !s.storedValid
    let s := { s with rs := { s.rs with calFull := false, ready := none } }
    let s := s.setFld F.SRX_CAL_STAT_pending 0
    s.setFld F.SRX_STAT_cal (if full then 2 else 1)

/-- A loss of lock while Radio S serves: it relocks at once (R176). -/
def State.synthLost (s : State) : State :=
  if s.flag F.PWR_RADIO_PERS_s_eff then
    ({ s with rs := { s.rs with ready := none } }).setFld F.SRX_STAT_lock 0
  else s

/-- Every output of Radio S at its safe state (R93, R174). -/
def Rs.safe (r : Rs) : Rs :=
  { r with paEn := false, paMode := 0, trsw := false, coxbReq := false, coxbPri := false }

/-! ## Meanings -/

/-- RX_WINDOW_OPEN (R157, R160, R185, R589). -/
def execRxWindowOpen (t : Nat) (receipt : Bool) (p0 p1 : Int) (s : State) : Host.Outcome State Fault Refusal :=
  run t s fun s => s.openWindow receipt p0 p1

/-- RX_WINDOW_CLOSE (R159, R166, R185, R187). -/
def execRxWindowClose (t : Nat) (s : State) : Host.Outcome State Fault Refusal := run t s State.closeWindow

/-- PREAMBLE_DETECT (R157, R161). -/
def execPreambleDetect (t : Nat) (demod : Fin 64) (chain : Fin 2) (s : State) : Host.Outcome State Fault Refusal :=
  run t s fun s => s.preamble demod chain

/-- DIVERSITY_DECISION (R162, R163). -/
def execDiversityDecision (t : Nat) (demod : Fin 64) (snr0 snr1 : Int) (s : State) :
    Host.Outcome State Fault Refusal :=
  run t s fun s => s.diversity demod snr0 snr1

/-- ADC_CLIP (R158, R159). -/
def execAdcClip (t : Nat) (chain : Fin 2) (s : State) : Host.Outcome State Fault Refusal :=
  run t s fun s => s.adcClip chain

/-- SFD_FOUND (R155, R164). -/
def execSfdFound (t : Nat) (demod : Fin 64) (errs : Nat) (phr : Phr) (s : State) :
    Host.Outcome State Fault Refusal :=
  run t s fun s => s.sfdFound demod errs phr

/-- SFD_SEARCH_TIMEOUT (R164). -/
def execSfdSearchTimeout (t : Nat) (demod : Fin 64) (s : State) : Host.Outcome State Fault Refusal :=
  run t s fun s => s.sfdTimeout demod

/-- FRAME_DELIVERY (R156, R165, R322). -/
def execFrameDelivery (t : Nat) (demod : Fin 64) (l : Option LRx) (psdu : Bytes) (rssi cfo : Int) (s : State) :
    Host.Outcome State Fault Refusal :=
  run t s fun s => match l with
    | none => s.deliverFrame demod psdu rssi cfo
    | some x => s.deliverL x psdu rssi cfo

/-- SRX_CAL_DUE (R180). -/
def execSrxCalDue (t : Nat) (temp : Int) (s : State) : Host.Outcome State Fault Refusal :=
  run t s fun s => s.srxCalDue temp

/-- SYNTH_LOCK_LOSS (R176). -/
def execSynthLockLoss (t : Nat) (s : State) : Host.Outcome State Fault Refusal := run t s State.synthLost

end Sys2Proof.Machine
end

