-- ==== Sys2Proof/Machine/Lowpan.lean ====
section
/-!
DEFINITION. Sys2Proof/Machine/Lowpan.lean: 6LoWPAN compression, expansion, fragmentation and reassembly (R260 to
R262), in the layout of RFC 4944 and RFC 6282, which the spec cites.
-/

namespace Sys2Proof.Machine

/-- The interface identifier of a mesh address (R261). -/
def meshIid (short : Nat) : Bytes := [0#8, 0#8, 0#8, 0xFF#8, 0xFE#8] ++ toBE 3 short

/-- A context's prefix, where it is usable (R260). -/
def Io.ctxPrefix (io : Io) (n : Nat) : Option Bytes :=
  if n < 4 ∧ bitN (io.eFld F.MSH_CTX_VALID_valid) n then
    some (toBE 4 (io.eFld (F.MSH_CTX_HI_prefix n)) ++ toBE 4 (io.eFld (F.MSH_CTX_LO_prefix n)))
  else none

/-- The mesh registers that take effect at the next packet parsed. -/
def State.ctxLatch (s : State) : State :=
  s.latchRegs (0x140140 :: ((List.range 4).map fun n => [0x140120 + 8 * n, 0x140124 + 8 * n]).flatten)

/-- The mesh address of a short address under context 0 (R261). -/
def Io.meshAddr (io : Io) (short : Nat) : Option Bytes := (io.ctxPrefix 0).map (· ++ meshIid short)

/-- The short address of a mesh address under context 0. -/
def Io.shortOf (io : Io) (a : Bytes) : Option Nat :=
  match io.ctxPrefix 0 with
  | some p => if a.take 8 = p ∧ (a.drop 8).take 5 = [0#8, 0#8, 0#8, 0xFF#8, 0xFE#8] then some (beNat (a.drop 13)) else none
  | none => none

/-- The link-local prefix. -/
def linkLocal : Bytes := [0xFE#8, 0x80#8, 0#8, 0#8, 0#8, 0#8, 0#8, 0#8]
/-- The interface identifier of a 16-bit inline address. -/
def iid16 (b : Bytes) : Bytes := [0#8, 0#8, 0#8, 0xFF#8, 0xFE#8, 0#8] ++ b

/-! ## Expansion -/

/-- Take `n` bytes off the front. -/
def takeN (n : Nat) (b : Bytes) : Option (Bytes × Bytes) := if n ≤ b.length then some (b.take n, b.drop n) else none

/-- A unicast address under a prefix, by its mode: 1 eight bytes, 2 two bytes, 3 elided. -/
def unicastOf (pre : Bytes) (mode short : Nat) (b : Bytes) : Option (Bytes × Bytes) :=
  if mode = 1 then (takeN 8 b).map fun r => (pre ++ r.1, r.2)
  else if mode = 2 then (takeN 2 b).map fun r => (pre ++ iid16 r.1, r.2)
  else some (pre ++ meshIid short, b)

/-- A source address: SAC, SAM, context, and the short address that elides it. -/
def srcOf (io : Io) (sac : Bool) (sam ctx short : Nat) (b : Bytes) : Option (Bytes × Bytes) :=
  if sac then
    if sam = 0 then some (List.replicate 16 0#8, b)
    else (io.ctxPrefix ctx).bind fun p => unicastOf p sam short b
  else if sam = 0 then takeN 16 b
  else unicastOf linkLocal sam short b

/-- A destination address: M, DAC, DAM (R260: M = 1 with DAC = 1 is dropped). -/
def dstOf (io : Io) (m dac : Bool) (dam ctx short : Nat) (b : Bytes) : Option (Bytes × Bytes) :=
  if m then
    if dac then none
    else if dam = 0 then takeN 16 b
    else if dam = 1 then (takeN 6 b).map fun r =>
      ([0xFF#8] ++ r.1.take 1 ++ List.replicate 9 0#8 ++ r.1.drop 1, r.2)
    else if dam = 2 then (takeN 4 b).map fun r =>
      ([0xFF#8] ++ r.1.take 1 ++ List.replicate 11 0#8 ++ r.1.drop 1, r.2)
    else (takeN 1 b).map fun r => ([0xFF#8, 0x02#8] ++ List.replicate 13 0#8 ++ r.1, r.2)
  else if dac then
    if dam = 0 then none else (io.ctxPrefix ctx).bind fun p => unicastOf p dam short b
  else if dam = 0 then takeN 16 b
  else unicastOf linkLocal dam short b

/-- Traffic class and flow label: the first four bytes of the IPv6 header. -/
def tfOf (tf : Nat) (b : Bytes) : Option (Bytes × Bytes) :=
  let mk (ecn dscp fl : Nat) : Bytes := toBE 4 (6 * 2 ^ 28 + (dscp * 4 + ecn) * 2 ^ 20 + fl)
  if tf = 0 then (takeN 4 b).map fun r => let v := beNat r.1; (mk (v / 2 ^ 30) (v / 2 ^ 24 % 64) (v % 2 ^ 20), r.2)
  else if tf = 1 then (takeN 3 b).map fun r => let v := beNat r.1; (mk (v / 2 ^ 22) 0 (v % 2 ^ 20), r.2)
  else if tf = 2 then (takeN 1 b).map fun r => let v := beNat r.1; (mk (v / 64) (v % 64) 0, r.2)
  else some (mk 0 0 0, b)

/-- The UDP header of a compressed next header: ports, then the inline checksum; `len` is the UDP length. -/
def udpOf (b : Bytes) (len : Nat → Nat) : Option (Bytes × Bytes) :=
  match b with
  | [] => none
  | h :: r =>
    let h := h.toNat
    if h / 8 ≠ 0x1E ∨ h / 4 % 2 = 1 then none
    else
      let p := h % 4
      let ports : Option (Bytes × Bytes) :=
        if p = 0 then takeN 4 r
        else if p = 1 then (takeN 3 r).map fun x => (x.1.take 2 ++ [0xF0#8] ++ x.1.drop 2, x.2)
        else if p = 2 then (takeN 3 r).map fun x => ([0xF0#8] ++ x.1, x.2)
        else (takeN 1 r).map fun x =>
          let v := beNat x.1
          (toBE 2 (0xF0B0 + v / 16) ++ toBE 2 (0xF0B0 + v % 16), x.2)
      ports.bind fun (pp, r) => (takeN 2 r).map fun (ck, r) => (pp ++ toBE 2 (len r.length) ++ ck, r)

/-- Expand IPHC content to an IPv6 packet.  `src` and `dst` are the short addresses that elided identifiers are
derived from (R261); `size` is the datagram's size where this is its first fragment. -/
def iphcExpand (io : Io) (src dst : Nat) (size : Option Nat) (b : Bytes) : Option Bytes :=
  match b with
  | b0 :: b1 :: r =>
    let x := b0.toNat
    let y := b1.toNat
    if x / 32 ≠ 3 then none
    else
      let cid : Option (Nat × Bytes) := if 128 ≤ y then (takeN 1 r).map fun q => (beNat q.1, q.2) else some (0, r)
      cid.bind fun (ci, r) =>
      (tfOf (x / 8 % 4) r).bind fun (tf, r) =>
      (if x / 4 % 2 = 1 then some ([17#8], r) else takeN 1 r).bind fun (nh, r) =>
      (match x % 4 with
        | 0 => takeN 1 r
        | 1 => some ([1#8], r)
        | 2 => some ([64#8], r)
        | _ => some ([255#8], r)).bind fun (hl, r) =>
      (srcOf io (bitN y 6) (y / 16 % 4) (ci / 16) src r).bind fun (sa, r) =>
      (dstOf io (bitN y 3) (bitN y 2) (y % 4) (ci % 16) dst r).bind fun (da, r) =>
      let udpLen (n : Nat) : Nat := match size with
        | some k => k - 40
        | none => n + 8
      let udp : Option (Bytes × Bytes) := if x / 4 % 2 = 1 then udpOf r udpLen else some ([], r)
      udp.map fun (ur : Bytes × Bytes) =>
      let plen := match size with
        | some k => k - 40
        | none => ur.1.length + ur.2.length
      tf ++ toBE 2 plen ++ nh ++ hl ++ sa ++ da ++ ur.1 ++ ur.2
  | _ => none

/-- Expand unfragmented content: IPHC, or the uncompressed dispatch 0x41. -/
def lowpanExpand (io : Io) (src dst : Nat) (size : Option Nat) (b : Bytes) : Option Bytes :=
  match b with
  | 0x41#8 :: r => some r
  | _ => iphcExpand io src dst size b

/-! ## Compression: always the shortest encoding (R260) -/

/-- One way to encode an address: mode bits (context flag, mode), context, bytes. -/
structure AddrEnc where
  ac : Bool
  am : Nat
  ctx : Nat
  bytes : Bytes
  deriving DecidableEq, Repr

/-- Encodings of a unicast address's identifier under a prefix that matches. -/
def iidEncs (ac : Bool) (ctx : Nat) (iid : Bytes) (short : Nat) : List AddrEnc :=
  (if iid = meshIid short then [⟨ac, 3, ctx, []⟩] else []) ++
    (if iid.take 6 = [0#8, 0#8, 0#8, 0xFF#8, 0xFE#8, 0#8] then [⟨ac, 2, ctx, iid.drop 6⟩] else []) ++
    [⟨ac, 1, ctx, iid⟩]

/-- Every encoding of a unicast address. -/
def addrEncs (io : Io) (a : Bytes) (short : Nat) (source : Bool) : List AddrEnc :=
  let ctxs := (List.range 4).filter fun n => io.ctxPrefix n == some (a.take 8)
  (if source && a == List.replicate 16 0#8 then [⟨true, 0, 0, []⟩] else []) ++
    (ctxs.map fun n => iidEncs true n (a.drop 8) short).flatten ++
    (if a.take 8 = linkLocal then iidEncs false 0 (a.drop 8) short else []) ++ [⟨false, 0, 0, a⟩]

/-- Encodings of a multicast destination. -/
def mcastEncs (a : Bytes) : List AddrEnc :=
  (if a.take 15 = [0xFF#8, 0x02#8] ++ List.replicate 13 0#8 then [⟨false, 3, 0, a.drop 15⟩] else []) ++
    (if (a.drop 2).take 11 = List.replicate 11 0#8 then [⟨false, 2, 0, (a.drop 1).take 1 ++ a.drop 13⟩] else []) ++
    (if (a.drop 2).take 9 = List.replicate 9 0#8 then [⟨false, 1, 0, (a.drop 1).take 1 ++ a.drop 11⟩] else []) ++
    [⟨false, 0, 0, a⟩]

/-- The length a pair of encodings takes, with the context byte where a context other than 0 is named. -/
def pairLen (p : AddrEnc × AddrEnc) : Nat :=
  p.1.bytes.length + p.2.bytes.length + if p.1.ctx = 0 ∧ p.2.ctx = 0 then 0 else 1

/-- The first shortest pair. -/
def bestPair : List (AddrEnc × AddrEnc) → AddrEnc × AddrEnc → AddrEnc × AddrEnc
  | [], b => b
  | p :: ps, b => bestPair ps (if pairLen p < pairLen b then p else b)

/-- Compress an IPv6 packet: the compressed headers, and the bytes of the packet that they stand for. -/
def iphcHeader (io : Io) (src dst : Nat) (pkt : Bytes) : Bytes × Nat :=
  let v := pkt.be 0 4
  let tc := v / 2 ^ 20 % 256
  let ecn := tc % 4
  let dscp := tc / 4
  let fl := v % 2 ^ 20
  let tf : Nat × Bytes :=
    if fl = 0 ∧ tc = 0 then (3, []) else if fl = 0 then (2, toBE 1 (ecn * 64 + dscp))
    else if dscp = 0 then (1, toBE 3 (ecn * 2 ^ 22 + fl)) else (0, toBE 4 (ecn * 2 ^ 30 + dscp * 2 ^ 24 + fl))
  let nh := pkt.be 6 1
  let plen := pkt.be 4 2
  let udp : Bool := decide (nh = 17) && decide (48 ≤ pkt.length) && decide (pkt.be 44 2 = plen)
  let hl := pkt.be 7 1
  let h : Nat × Bytes := if hl = 1 then (1, []) else if hl = 64 then (2, []) else if hl = 255 then (3, []) else (0, toBE 1 hl)
  let sa := Bytes.slice pkt 8 16
  let da := Bytes.slice pkt 24 16
  let m : Bool := da.be 0 1 == 0xFF
  let ds := if m then mcastEncs da else addrEncs io da dst false
  let full : AddrEnc × AddrEnc := (⟨false, 0, 0, sa⟩, ⟨false, 0, 0, da⟩)
  let pairs := ((addrEncs io sa src true).map fun a => ds.map fun d => (a, d)).flatten
  let (a, d) := bestPair pairs full
  let cid : Bool := !(a.ctx == 0 && d.ctx == 0)
  let b0 := 0x60 + tf.1 * 8 + (if udp then 4 else 0) + h.1
  let b1 := cid.toNat * 128 + a.ac.toNat * 64 + a.am * 16 + m.toNat * 8 + d.ac.toNat * 4 + d.am
  let base := toLE 1 b0 ++ toLE 1 b1 ++ (if cid then toLE 1 (a.ctx * 16 + d.ctx) else []) ++ tf.2 ++
    (if udp then [] else toLE 1 nh) ++ h.2 ++ a.bytes ++ d.bytes
  if udp then
    let sp := pkt.be 40 2
    let dp := pkt.be 42 2
    let ports : Nat × Bytes :=
      if sp / 16 = 0xF0B ∧ dp / 16 = 0xF0B then (3, toBE 1 (sp % 16 * 16 + dp % 16))
      else if dp / 256 = 0xF0 then (1, toBE 2 sp ++ toBE 1 (dp % 256))
      else if sp / 256 = 0xF0 then (2, toBE 1 (sp % 256) ++ toBE 2 dp)
      else (0, toBE 2 sp ++ toBE 2 dp)
    (base ++ toLE 1 (0xF0 + ports.1) ++ ports.2 ++ Bytes.slice pkt 46 2, 48)
  else (base, 40)

/-- Fragments after the first: offset in bytes, the rest of the packet. -/
def fragRest (size tag cap : Nat) : Nat → Nat → Bytes → List Bytes
  | 0, _, _ => []
  | k + 1, off, r =>
    if r.isEmpty then []
    else
      let n := if r.length + 5 ≤ cap then r.length else (cap - 5) / 8 * 8
      (toBE 2 (0xE000 + size) ++ toBE 2 tag ++ toBE 1 (off / 8) ++ r.take n) :: fragRest size tag cap k (off + n) (r.drop n)

/-- Compress a packet into the contents of its frames: one, or FRAG1 and FRAGN fragments, none longer than `cap`
(R260, R262). -/
def lowpanCompress (io : Io) (src dst tag cap : Nat) (pkt : Bytes) : List Bytes :=
  let (h, u) := iphcHeader io src dst pkt
  let whole := h ++ pkt.drop u
  if whole.length ≤ cap then [whole]
  else
    let room := cap - 4 - h.length
    let n := (u + room) / 8 * 8 - u
    (toBE 2 (0xC000 + pkt.length) ++ toBE 2 tag ++ h ++ (pkt.drop u).take n) ::
      fragRest pkt.length tag cap 200 (u + n) (pkt.drop (u + n))

/-! ## Reassembly (R262) -/

/-- Two pieces overlap inconsistently: they do not have the same place and bytes. -/
def clash (a b : Nat × Bytes) : Bool :=
  decide (a.1 < b.1 + b.2.length) && decide (b.1 < a.1 + a.2.length) && !(a == b)

/-- The bytes of a complete datagram, its pieces in order; none while one is missing. -/
def assemble (parts : List (Nat × Bytes)) (size : Nat) : Nat → Nat → Bytes → Option Bytes
  | 0, _, _ => none
  | k + 1, off, acc =>
    if size ≤ off then some acc
    else match parts.find? fun p => p.1 == off with
      | some p => if p.2.isEmpty then none else assemble parts size k (off + p.2.length) (acc ++ p.2)
      | none => none

/-- What a piece of 6LoWPAN content comes to. -/
inductive Reas where
  | drop | wait | packet (p : Bytes)
  deriving DecidableEq, Repr

/-- Bring in one fragment of a datagram. -/
def State.addPart (s : State) (origin tag size : Nat) (part : Nat × Bytes) : State × Reas :=
  let same (r : Reasm) : Bool := r.origin == origin && r.tag == tag && r.size == size
  let lose (s : State) : State := s.count F.MSH_FRAG_CNT_timed_out
  if 1280 < size then (s.count F.MSH_LOWPAN_ERR_lowpan_err, .drop)
  else match s.mn.frags.find? same with
  | none =>
    if 2048 ≤ s.mn.frags.length then (lose s, .drop)
    else if size < part.1 + part.2.length then (lose s, .drop)
    else
      let r : Reasm := { origin := origin, tag := tag, size := size, started := s.now, parts := [part] }
      ({ s with mn := { s.mn with frags := s.mn.frags ++ [r] } }, .wait)
  | some r =>
    let rest := s.mn.frags.filter fun x => !same x
    if size < part.1 + part.2.length ∨ r.parts.any (clash part) then
      (lose { s with mn := { s.mn with frags := rest } }, .drop)
    else
      let parts := if r.parts.contains part then r.parts else part :: r.parts
      match assemble parts size 200 0 [] with
      | some p =>
        (({ s with mn := { s.mn with frags := rest } }).count F.MSH_FRAG_CNT_reassembled, .packet (p.take size))
      | none =>
        ({ s with mn := { s.mn with frags := s.mn.frags.map fun x => if same x then { x with parts := parts } else x } },
          .wait)

/-- 6LoWPAN content of an uplink: an IPv6 packet, nothing yet, or a drop counted in `lowpan_err` (R260 to R262). -/
def State.lowpanIn (s : State) (origin src dst : Nat) (b : Bytes) : State × Reas :=
  let s := s.ctxLatch
  let err : State × Reas := (s.count F.MSH_LOWPAN_ERR_lowpan_err, .drop)
  let x := b.be 0 1
  if x / 8 = 0x18 then
    let size := b.be 0 2 % 2048
    match lowpanExpand s.io src dst (some size) (b.drop 4) with
    | some p => if b.length < 4 then err else s.addPart origin (b.be 2 2) size (0, p)
    | none => err
  else if x / 8 = 0x1C then
    if b.length < 5 then err else s.addPart origin (b.be 2 2) (b.be 0 2 % 2048) (8 * b.be 4 1, b.drop 5)
  else match lowpanExpand s.io src dst none b with
    | some p => (s, .packet p)
    | none => err

/-- FRAGMENT_TIMEOUT: the reassemblies older than `timeout_s` seconds are discarded and counted (R262). -/
def State.fragTimeout (s : State) : State :=
  let lim := secNs (max 1 (s.fld F.MSH_FRAG_CFG_timeout_s))
  let old := s.mn.frags.filter fun r => decide (r.started + lim ≤ s.now)
  ({ s with mn := { s.mn with frags := s.mn.frags.filter fun r => decide (s.now < r.started + lim) } }).count
    F.MSH_FRAG_CNT_timed_out old.length

/-- FRAGMENT_TIMEOUT (R262). -/
def execFragmentTimeout (t : Nat) (s : State) : Host.Outcome State Fault Refusal := run t s State.fragTimeout

end Sys2Proof.Machine
end

