-- ==== Sys2Proof/Machine/Parse.lean ====
section
/-!
DEFINITION. Sys2Proof/Machine/Parse.lean: what the Sorters read in a frame (R407, R410) and how packets are spread
over the four pipelines.
-/

namespace Sys2Proof.Machine

/-- What the parse stage finds in an Ethernet II frame without FCS. -/
structure Parsed where
  dst : Nat
  src : Nat
  /-- The 802.1Q tag's TCI, where there is one. -/
  tag : Option Nat
  ethertype : Nat
  /-- Offset of the payload. -/
  off : Nat
  deriving DecidableEq, Repr

/-- Parse the Ethernet header. -/
def parseEth (f : Bytes) : Parsed :=
  let t := f.be 12 2
  if t = 0x8100 then
    { dst := f.be 0 6, src := f.be 6 6, tag := some (f.be 14 2), ethertype := f.be 16 2, off := 18 }
  else { dst := f.be 0 6, src := f.be 6 6, tag := none, ethertype := t, off := 14 }

/-- The frame carries IPv6, or IPv4. -/
def Parsed.v6 (p : Parsed) (f : Bytes) : Bool := p.ethertype == 0x86DD && f.be p.off 1 / 16 == 6
def Parsed.v4 (p : Parsed) (f : Bytes) : Bool := p.ethertype == 0x0800 && f.be p.off 1 / 16 == 4

/-- Source and destination addresses, next header and, for TCP and UDP, the ports. -/
def ipFields (v6 : Bool) (f : Bytes) (off : Nat) : Bytes :=
  if v6 then
    let nh := f.be (off + 6) 1
    Bytes.slice f (off + 8) 32 ++ toLE 1 nh ++ (if nh = 6 ∨ nh = 17 then Bytes.slice f (off + 40) 4 else [])
  else
    let nh := f.be (off + 9) 1
    let h := 4 * (f.be off 1 % 16)
    Bytes.slice f (off + 12) 8 ++ toLE 1 nh ++ (if nh = 6 ∨ nh = 17 then Bytes.slice f (off + h) 4 else [])

/-- The ingress as the flow hash sees it. -/
def Ingress.code : Ingress → Nat
  | .eth p => p
  | .wifi c _ => 0x1000 + c
  | .host r => 0x2000 + r
  | .mesh o => 0x1000000 + o
  | .ctrl => 0x3000

/-- The fields that the flow hash covers (R407). -/
def Packet.flowFields (p : Packet) : Bytes :=
  match p.src with
  | .mesh o => toLE 3 o
  | _ =>
    let q := parseEth p.data
    let head := toLE 4 p.src.code ++ toLE 2 (match q.tag with
      | some t => t % 4096
      | none => p.vid)
    if q.v6 p.data then head ++ ipFields true p.data q.off
    else if q.v4 p.data then head ++ ipFields false p.data q.off
    else head ++ Bytes.slice p.data 0 12

/-- The Sorter a packet is assigned to (R407). -/
def State.sorterOf (s : State) (p : Packet) : Nat :=
  if s.flag F.SRT_CTRL_dist_mode then
    match p.src with
    | .eth k => k
    | .mesh _ => 2
    | .wifi _ h => if h then 3 else 2
    | .host _ => 3
    | .ctrl => 3
  else (Config.flowHash p.flowFields).val

/-- Hand an admitted packet to its Sorter's input. -/
def State.toSorter (s : State) (p : Packet) : State :=
  { s with sr := { s.sr with input := s.sr.input ++ [(s.sorterOf p, p)] } }.updatePool

end Sys2Proof.Machine
end

