-- ==== Sys2Proof/Machine/MeshNet.lean ====
section
/-!
DEFINITION. Sys2Proof/Machine/MeshNet.lean: the mesh network layer (08_mesh_network): admission, re-attach, inner
blocks, circulars.
-/

namespace Sys2Proof.Machine

/-! ## Join requests (R237, R277) -/

/-- A join request's payload (R237) with every field in the table: 26 bytes. -/
def joinPayloadOk (b : Bytes) : Bool :=
  b.length == 26 && b.le 0 1 == 1 && decide (b.le 15 1 < 16) && decide (b.le 16 2 ≤ 512)

/-- The check of a join request (R277): epoch and MIC first, then the counter.  As for a frame, `dup` and `new`
carry the payload. -/
def State.joinCheck (s : State) (b : Bytes) : SecCheck :=
  let eui := b.le 1 8
  let ep := b.le 9 1
  match s.epoch? with
  | none => .badEpoch
  | some cur =>
    let key := match s.joinKey eui ep with
      | some k => some k
      | none => s.joinKey eui cur
    match key with
    | none => .badMic
    | some k =>
      if (aesCmac k (b.take 18)).take 8 ≠ Bytes.slice b 18 8 then .badMic
      else if (s.rootsOf ep).isNone then .badEpoch
      else match s.ctxOfEui eui with
        | some (_, c) =>
          if c.rec_ ∧ c.ep = ep then
            match judgeCtr cur { eui := eui, rec_ := true, ep := c.ep, ctr := c.ctr } ep (b.le 10 5) with
            | none => .replay
            | some true => .new b
            | some false => .dup b
          else .new b
        | none => .new b

/-- Count a failed join check; the sender reads 0xFFFFFF (R281). -/
def State.joinFail (s : State) (c : SecCheck) : State :=
  match c with
  | .badMic => (s.count F.MSH_SEC_ERR3_join_mic).secLast 5 0xFFFFFF
  | c => s.secFail c 0xFFFFFF

/-- The D slots of a join window: `join_wait` as beacons carry it. -/
def State.joinWait (s : State) : Nat := max 1 (s.eFld F.MSH_JOIN_CFG_join_wait)

/-- Record a join request's epoch and counter where its EUI-64 has a context (R277). -/
def State.recordJoin (s : State) (eui ep ctr : Nat) (mirrorFail : Bool) : State :=
  match s.ctxOfEui eui with
  | some (n, c) => s.setCtx n { c with rec_ := true, ep := ep, ctr := ctr } mirrorFail
  | none => s

/-- An accepted join request waits for admission. -/
def joinReqOf (b : Bytes) (route : List Nat) (ch : Nat) (l : Bool) (now window : Nat) : JoinReq :=
  { eui := b.le 1 8, epoch := b.le 9 1, fc := b.le 10 5, caps := b.le 15 1, interval := b.le 16 2, reattach := false,
    route := route, ch := ch, l := l, at_ns := now, window := window }

/-- A request waits for admission. -/
def State.addJoin (s : State) (r : JoinReq) : State := { s with mn := { s.mn with joins := s.mn.joins ++ [r] } }

/-- Take a response of this EUI-64 that has not been sent out of the queue: it is never sent (R242). -/
def State.dropUnsent (s : State) (eui : Nat) : State :=
  let keep (d : DlFrame) : Bool := !(match d.kind with
    | .joinResp e => e == eui && d.sent == 0
    | _ => false)
  { s with ml := { s.ml with dl := s.ml.dl.filter keep } }

/-- A request has been received: it is answered only while `open`, or `reattach_en`, says so (R235, R236).  An earlier
one of the same EUI-64 whose response has not been sent is not answered any more (R242). -/
def State.joinArrives (s : State) (r : JoinReq) : State :=
  if (if r.reattach then s.eFlag F.MSH_JOIN_CFG_reattach_en else s.eFlag F.MSH_JOIN_CFG_open) then
    let s := s.dropUnsent r.eui
    let mn := { s.mn with
      joins := s.mn.joins.filter fun q => q.eui != r.eui, pend := s.mn.pend.filter fun q => q.req.eui != r.eui }
    { s with mn := mn }.addJoin r
  else s

/-! ## Addresses (R240) -/

/-- An address has not been freed within the last `reuse_h` hours. -/
def State.notRecent (s : State) (a : Nat) : Bool :=
  s.pt.freed.all fun p => p.1 != a || decide (p.2 + 3600 * s.fld F.MSH_ADDR_CFG_reuse_h ≤ s.rt.sec)

/-- The lowest assignable address of the pool (R240). -/
def State.freeAddr (s : State) : Option Nat :=
  let lo := s.fld F.MSH_ADDR_LO_addr
  let hi := s.fld F.MSH_ADDR_HI_addr
  ((List.range (hi + 1 - lo)).map (· + lo)).find? fun a =>
    a != 0 && a != 0xFFFFFF && (s.ctxOfAddr a).isNone && s.notRecent a

/-! ## Responses (R241, R242) -/

/-- The response's payload but for its last byte, the current epoch, which is put in when it is sent (R241). -/
def respPayload (reattach : Bool) (result addr hint eui : Nat) (record : Bytes) : Bytes :=
  toLE 1 (if reattach then 4 else 2) ++ toLE 1 result ++ toLE 3 addr ++ toLE 1 hint ++ record ++ toLE 8 eui

/-- Twenty-four zero bytes: the record of a relayed join or a refusal. -/
def noRecord : Bytes := List.replicate 24 0#8

/-- Queue the response to a request: for a direct one on its channel within the join window, for a relayed one as
a routed downlink with `join` = 1. -/
def State.respond (s : State) (r : JoinReq) (result addr hint : Nat) (par : Option ConnPar) : State :=
  let s := s.dropUnsent r.eui
  let id := s.ml.dlId
  let s := { s with ml := { s.ml with dlId := id + 1 } }
  let s := if r.reattach then s.count (if result = 0 then F.MSH_REATT_CNT_reattached else F.MSH_REATT_CNT_refused)
    else s.count (if result = 0 then F.MSH_JOIN_CNT_admitted else F.MSH_JOIN_CNT_refused)
  let d : DlFrame :=
    if r.route.isEmpty then
      let rec_ := match par with
        | some p => p.record r.l.toNat
        | none => noRecord
      { id := id, kind := .joinResp r.eui, dst := addr, l := r.l,
        payload := respPayload r.reattach result addr hint r.eui rec_, eui := r.eui, chan := r.ch,
        window := r.window, par := par }
    else
      { id := id, kind := .joinResp r.eui, dst := r.route.getLastD 0, l := r.l,
        payload := respPayload r.reattach result addr hint r.eui noRecord, eui := r.eui, nh := some 6,
        route := r.route.dropLast.reverse ++ [addr] }
  if s.isShadow then s else { s with ml := { s.ml with dl := s.ml.dl ++ [d] } }

/-- The retry hint in effect at a response. -/
def State.hint (s : State) : Nat × State :=
  let s := s.latchRegs [F.MSH_JOIN_CFG_retry_hint.off]
  (s.eFld F.MSH_JOIN_CFG_retry_hint, s)

/-- Refuse a request with `retry_hint`. -/
def State.refuseJoin (s : State) (r : JoinReq) (result : Nat) : State :=
  let (h, s) := s.hint
  s.respond r result 0 h none

/-! ## Admission (R239, R243, R252) -/

/-- Steps 3 to 5 of R239: the result where one fails. -/
def State.admitRoom (s : State) (r : JoinReq) (fixed : Nat) : Option Nat :=
  let known := s.ctxOfEui r.eui
  if r.route.isEmpty ∧ (Tbl.firstFree s.ml.conns 0 16384).isNone ∧ (known.bind fun k => k.2.conn).isNone then some 1
  else if known.isNone ∧ (s.freeCtx.isNone ∨ (s.pt.room 2 r.eui).isNone) then some 1
  else if fixed = 0 ∧ !(known.any fun k => k.2.addr != 0) ∧ s.freeAddr.isNone then some 1
  else none

/-- Write the routes of a relayed join's record (R247). -/
def State.writeRecord (s : State) (addr : Nat) : List Nat → State
  | [] =>
    match s.ctxOfAddr addr with
    | some (n, _) => s.setRoute addr 0 1 n (some 3)
    | none => s
  | p :: ps =>
    let s := s.writeRecord p ps
    match s.ctxOfAddr addr with
    | some (n, _) => (s.setRoute addr p (ps.length + 2) n (some 3)).redepth 6 addr
    | none => s

/-- The capability bits of a request, in a context. -/
def Ctx.caps (c : Ctx) (caps : Nat) : Ctx :=
  { c with relay := bitN caps 0, p2 := bitN caps 1, p3 := bitN caps 2, radioL := bitN caps 3 }

/-- The node supports the profile of every channel of a map (R242). -/
def State.profilesOk (s : State) (caps : Nat) (l : Bool) (map : Nat) : Bool :=
  if l then bitN caps 3
  else (mapChans l map).all fun j => match s.demodProfile j with
    | some 1 => bitN caps 1
    | some 2 => bitN caps 2
    | some _ => true
    | none => false

/-- The connection that the firmware gives a direct join, its anchor after the join window (R242). -/
def State.offered (s : State) (r : JoinReq) (o : ConnOp) : Option ConnPar :=
  let p : ConnPar :=
    { map := o.map, base := o.base, inc := o.inc, interval := o.interval, latency := o.latency, timeout := o.timeout,
      anchor := o.anchor, ctr := 0 }
  if p.valid r.l (s.io.contMask r.l) && s.profilesOk r.caps r.l o.map && decide (s.ml.slot < o.anchor) then some p
  else none

/-- Admit a request: context, address, the routes of a relayed one, response.  A held address is kept (R240); the route
of a direct one is written with its connection (R242). -/
def State.grant (s : State) (r : JoinReq) (par : Option ConnPar) : State :=
  let fixed := r.approved.getD 0
  let bound : Option (Nat × State) := match s.ctxOfEui r.eui with
    | some (n, _) => some (n, s)
    | none => s.newCtx { eui := r.eui } (some 2)
  match bound with
  | none => s.refuseJoin r 1
  | some (n, s) =>
    let c := Tbl.getD s.pt.ctx n { eui := r.eui }
    let addr := if c.addr ≠ 0 then c.addr else if fixed ≠ 0 then fixed else s.freeAddr.getD 0
    let s := if c.addr = addr then s else s.setAddr n addr
    let c := Tbl.getD s.pt.ctx n c
    let c := if r.reattach then c.caps r.caps
      else { c.caps r.caps with rec_ := true, ep := r.epoch, ctr := r.fc, hit := true }
    let s := (s.setCtx n c).changed 0 1 (some 2) 0 (toLE 8 r.eui)
    let s := if r.route.isEmpty then s else (s.closeAddr addr).writeRecord addr r.route
    s.respond r 0 addr 0 par

/-- Post a join event and wait for the host (R243). -/
def State.askHost (s : State) (r : JoinReq) : State :=
  let tok := s.mn.token
  let known := (s.ctxOfEui r.eui).isSome
  let s := { s with mn := { s.mn with
    token := (tok + 1) % 65536, pend := s.mn.pend ++ [(⟨tok, r, s.now⟩ : PendJoin)] } }
  s.event 0x04 (toLE 2 tok ++ toLE 8 r.eui ++ toLE 1 r.caps ++ toLE 2 r.interval ++ toLE 3 (r.route.headD 0) ++
    toLE 1 (r.ch % 64 + 64 * known.toNat) ++ toLE 3 0)

/-- ADMISSION: the oldest waiting request, with the connection the firmware would give it. -/
def State.admission (s : State) (o : ConnOp) : State :=
  match s.mn.joins with
  | [] => s
  | r :: rest =>
    if s.isShadow ∨ s.pw.mode ≠ .full then { s with mn := { s.mn with joins := rest } }
    else
      let s := s.latchRegs [F.MSH_JOIN_CFG_policy.off]
      let par := if r.route.isEmpty then s.offered r o else none
      if r.route.isEmpty ∧ par.isNone then s
      else
        let s := { s with mn := { s.mn with joins := rest } }
        let known := s.ctxOfEui r.eui
        let pol := s.eFld F.MSH_JOIN_CFG_policy
        if known.any (fun k => k.2.deny) then s.refuseJoin r 2
        else if r.reattach then
          if r.route.isEmpty ∧ (Tbl.firstFree s.ml.conns 0 16384).isNone ∧ (known.bind fun k => k.2.conn).isNone then
            s.refuseJoin r 1
          else s.grant r par
        else if r.approved.isNone ∧ (pol = 1 ∨ pol = 3) ∧ known.isNone then s.refuseJoin r 2
        else if r.approved.isNone ∧ pol = 2 then s.askHost r
        else match s.admitRoom r (r.approved.getD 0) with
          | some res => s.refuseJoin r res
          | none => s.grant r par

/-- A pending join's deadline has come (R243). -/
def State.joinLate (s : State) (p : PendJoin) : Bool :=
  if p.req.route.isEmpty then decide (p.req.window ≤ 1) && s.ml.isD s.ml.slot
  else decide (p.req.at_ns + secNs (max 1 (s.fld F.MSH_JOIN_CFG_relay_wait)) ≤ s.now)

/-- JOIN_DECIDE_DEADLINE: no decision has arrived, and result 0x03 is sent (R243). -/
def State.joinDeadline (s : State) (tok : Nat) : State :=
  match s.mn.pend.find? fun p => p.token == tok with
  | some p =>
    if s.joinLate p then
      let mn := { s.mn with pend := s.mn.pend.filter (fun q => q.token != tok), past := (tok, p.issued) :: s.mn.past }
      { s with mn := mn }.refuseJoin p.req 3
    else s
  | none => s

/-- MESH_JOIN_DECIDE (R265). -/
def State.joinDecide (s : State) (c : Cmd) : Reply :=
  let tok := c.f 0 2
  let refuse := c.f 2 1
  let fixed := c.f 3 3
  match s.mn.pend.find? fun p => p.token == tok with
  | none =>
    if s.mn.past.any fun p => p.1 == tok && decide (s.now ≤ p.2 + secNs 60) then Reply.err s stLATE
    else Reply.err s stBAD_ARG
  | some p =>
    let taken : Bool := match s.ctxOfAddr fixed with
      | some (_, x) => x.eui != p.req.eui
      | none => false
    if s.joinLate p then Reply.err s stLATE
    else if 2 ≤ refuse ∨ fixed = 0xFFFFFF ∨ taken ∨ !c.zero 7 17 then Reply.err s stBAD_ARG
    else if s.isShadow then Reply.err s stNOT_LEAD
    else
      let s := { s with mn := { s.mn with pend := s.mn.pend.filter fun q => q.token != tok } }
      if refuse = 1 then Reply.ok (s.respond p.req 2 0 (c.f 6 1) none)
      else match s.admitRoom p.req fixed with
        | some _ => { status := some stNO_ROOM, st := s.refuseJoin p.req 1 }
        | none => Reply.ok (s.addJoin { p.req with approved := some fixed })

/-! ## Circulars (R253 to R258, R266) -/

/-- The postmark is present: younger than 120 s (R254). -/
def State.marked (s : State) (origin id : Nat) : Bool :=
  s.mn.marks.any fun m => m.1 == origin && m.2.1 == id && decide (s.now < m.2.2 + secNs 120)

/-- Insert a postmark; a full cache gives up its oldest entry (R254). -/
def State.mark (s : State) (origin id : Nat) : State :=
  let live := s.mn.marks.filter fun m => decide (s.now < m.2.2 + secNs 120)
  let full := decide (4096 ≤ live.length)
  let s := { s with mn := { s.mn with marks := (origin, id, s.now) :: (if full then live.dropLast else live) } }
  if full then s.count F.MSH_CIRC_CNT_evict_early else s

/-- POSTMARK_EXPIRY: postmarks of 120 s leave the cache. -/
def State.markExpiry (s : State) : State :=
  { s with mn := { s.mn with marks := s.mn.marks.filter fun m => decide (s.now < m.2.2 + secNs 120) } }

/-- Queue a circular for its copies (R256); the list holds 64. -/
def State.addCirc (s : State) (key : Nat) (payload : Bytes) : State :=
  if 64 ≤ s.mn.circs.length then s
  else
    let n := max 1 (s.eFld F.MSH_CIRC_CFG_repeat)
    { s with mn := { s.mn with circs := s.mn.circs ++ [{ key := key, payload := payload, left := n }] } }

/-- Hand uplink content to the Sorters. -/
def State.uplink (s : State) (origin : Nat) (content : Bytes) (rssi : Int) : State :=
  let p : Packet :=
    { src := .mesh origin, data := content, rssi := rssi, cells := cellsOf content.length, charge := .shared }
  s.toSorter p

/-- CIRCULAR_RECEIVE (R255): deduplicate by postmark, deliver, re-flood. -/
def State.circReceive (s : State) (payload : Bytes) (rssi : Int) : State :=
  let origin := payload.le 0 3
  let id := payload.le 3 2
  let b5 := payload.le 5 1
  let ttl := b5 % 16
  let scope := b5 / 16 % 4
  if payload.length < 9 ∨ 64 ≤ b5 ∨ scope = 3 then s
  else if s.marked origin id then s.count F.MSH_CIRC_CNT_dup
  else
    let s := (s.mark origin id).uplink origin (payload.drop 9) rssi
    if 0 < ttl ∧ scope ≠ 0 ∧ !s.isShadow then
      s.addCirc 0 (payload.take 5 ++ toLE 1 (b5 - 1) ++ payload.drop 6)
    else s

/-- The next root `id`, recorded in MRAM at each multiple of 256 (R257). -/
def State.takeCircId (s : State) : Nat × State :=
  let id := s.fld F.MSH_CIRC_ID_next_id
  let next := (id + 1) % 65536
  let s := s.setFld F.MSH_CIRC_ID_next_id next
  (id, if next % 256 = 0 then { s with nv := { s.nv with circId := some next } } else s)

/-- Originate a circular (R257): header, postmark, list. -/
def State.originate (s : State) (key ttl scope target : Nat) (content : Bytes) : State :=
  let (id, s) := s.takeCircId
  (s.mark 0 id).addCirc key
    (toLE 3 0 ++ toLE 2 id ++ toLE 1 (ttl + 16 * scope) ++ toLE 3 (if scope = 2 then target else 0) ++ content)

/-- The largest content of a circular on the broadcast channels (R253). -/
def State.circMax (s : State) : Nat :=
  let cap (ch : Nat) : Nat := maxPsdu ((s.demodProfile ch).getD 0) - 23 - 9
  let c0 := cap (s.eFld F.MSH_CIRC_CFG_ch0)
  if s.eFlag F.MSH_CIRC_CFG_ch1_en then min c0 (cap (s.eFld F.MSH_CIRC_CFG_ch1)) else c0

/-- MESH_CIRC_SEND (R266). -/
def State.circSend (s : State) (c : Cmd) : Reply :=
  let len := c.f 8 2
  let b := c.f 10 1
  let scope := b / 16
  match c.readFails len with
  | some st => Reply.err s st
  | none =>
    let pkt : Bytes := c.rd.take len
    let content := ((lowpanCompress s.ctxLatch.io 0 0xFFFFFF 0 2047 pkt).headD [])
    if c.f 0 8 % 32 ≠ 0 ∨ len < 40 ∨ pkt.be 24 1 ≠ 0xFF ∨ (scope ≠ 1 ∧ scope ≠ 2) ∨ !c.zero 14 10 ∨
        s.circMax < content.length then
      Reply.err s stBAD_ARG
    else if s.isShadow then Reply.err s stNOT_LEAD
    else if 64 ≤ s.mn.circs.length then Reply.err s stNO_ROOM
    else
      let key := s.mn.circKey + 1
      let s := { s with mn := { s.mn with circKey := key } }
      Reply.defer (s.originate key (b % 16) scope (c.f 11 3) content) key

/-! ## Inner blocks of relayed uplinks (R246 to R248) -/

/-- The three-byte addresses of a route record. -/
def addrsOf (n : Nat) (b : Bytes) : List Nat := (List.range n).map fun i => b.le (3 * i) 3

/-- A node's context or connection was heard: `last_heard` and `hit` (R220, R248, R393). -/
def State.heardCtx (s : State) (addr : Nat) : State :=
  match s.ctxOfAddr addr with
  | some (n, c) =>
    let pt := { s.pt with ctx := Tbl.put s.pt.ctx n { c with lastHeard := s.rt.sec % 2 ^ 32, hit := true } }
    { s with pt := pt }
  | none => s

/-- A relayed uplink's fields are malformed: `nh`'s reserved bits, `n`, or the lengths. -/
def relayedOk (p : Bytes) : Bool :=
  let join := bitN (p.le 0 1) 2
  let n := p.le 4 1
  decide (p.le 0 1 < 8) && decide (5 + 3 * n ≤ p.length) &&
    (if join then decide (1 ≤ n) && decide (n ≤ 5) else decide (n = 0))

/-- The route record is accepted (R247): its last address is the link source, and every address in it has a node
context. -/
def State.recordOk (s : State) (src : Nat) (route : List Nat) : Bool :=
  route.getLastD 0 == src && route.all fun a => (s.ctxOfAddr a).isSome

/-- An entry of the U slot's record for the Shadow, at most 64 of each kind (R502). -/
def State.noteRec (s : State) (inner : Bool) (addr ctr epoch : Nat) (dup : Bool) : State :=
  if 64 ≤ (s.ml.recs.filter fun r => r.1 == inner).length then s
  else { s with ml := { s.ml with recs := s.ml.recs ++ [(inner, ⟨addr, ctr, epoch, dup⟩)] } }

/-- INNER_BLOCK_CHECK: the oldest relayed uplink (R247, R248). -/
def State.innerCheck (s : State) (mirrorFail : Bool) : State :=
  match s.mn.inner with
  | [] => s
  | f :: rest =>
    let s := { s with mn := { s.mn with inner := rest } }
    let p : Bytes := f.payload
    let nh := p.le 0 1
    let join := bitN nh 2
    let origin := p.le 1 3
    let n := p.le 4 1
    let route := addrsOf n (p.drop 5)
    let block : Bytes := p.drop (5 + 3 * n)
    if !relayedOk p then s.count F.MSH_LOWPAN_ERR_lowpan_err
    else if join ∧ !s.recordOk f.src route then s.count F.MSH_NET_ERR_unknown_origin
    else if origin = 0xFFFFFF then
      if !join then s.count F.MSH_NET_ERR_unknown_origin
      else if !joinPayloadOk block then s.count F.MSH_RX_ERR_fcs_err
      else match s.joinCheck block with
        | .new b =>
          let s := s.recordJoin (b.le 1 8) (b.le 9 1) (b.le 10 5) mirrorFail
          s.joinArrives (joinReqOf b route f.ch f.l s.now 0)
        | .dup _ => s
        | c => s.joinFail c
    else
      let ctr := block.le 0 5
      let ep := block.le 5 1
      let c := s.secCheck 2 origin ctr ep (innerAad nh origin (block.take 6)) (block.drop 6)
      match c with
      | .noContext => (s.secFail c origin).count F.MSH_NET_ERR_unknown_origin
      | .dup _ => s.count F.MSH_LOWPAN_ERR_inner_dup
      | .new content =>
        let s := ((s.noteRec true origin ctr ep false).recordCtr origin ep ctr mirrorFail).heardCtx origin
        if join then
          match s.ctxOfAddr origin with
          | some (_, x) =>
            if content.length = 4 ∧ content.le 0 1 = 3 ∧ content.le 1 1 < 16 ∧ content.le 2 2 ≤ 512 then
              s.joinArrives
                { eui := x.eui, epoch := ep, fc := ctr, caps := content.le 1 1, interval := content.le 2 2,
                  reattach := true, addr := origin, route := route, ch := f.ch, l := f.l, at_ns := s.now, window := 0 }
            else s
          | none => s
        else s.uplink origin content f.rssi
      | c => s.secFail c origin

/-! ## Meanings -/

/-- ADMISSION (R239, R240, R242, R243, R252). -/
def execAdmission (t : Nat) (par : ConnOp) (s : State) : Host.Outcome State Fault Refusal :=
  run t s fun s => s.admission par

/-- JOIN_DECIDE_DEADLINE (R243). -/
def execJoinDecideDeadline (t : Nat) (token : BitVec 16) (s : State) : Host.Outcome State Fault Refusal :=
  run t s fun s => s.joinDeadline token.toNat

/-- MESH_JOIN_DECIDE (R265). -/
def execMeshJoinDecide (t : Nat) (c : Cmd) (s : State) : Host.Outcome State Fault Refusal :=
  ringCommand 0x0112 t c (fun s => s.joinDecide c) s

/-- MESH_CIRC_SEND (R266). -/
def execMeshCircSend (t : Nat) (c : Cmd) (s : State) : Host.Outcome State Fault Refusal :=
  ringCommand 0x0113 t c (fun s => s.circSend c) s

/-- POSTMARK_EXPIRY (R254). -/
def execPostmarkExpiry (t : Nat) (s : State) : Host.Outcome State Fault Refusal := run t s State.markExpiry

/-- INNER_BLOCK_CHECK (R246 to R248, R275, R278). -/
def execInnerBlockCheck (t : Nat) (mirrorFail : Bool) (s : State) : Host.Outcome State Fault Refusal :=
  run t s fun s => s.innerCheck mirrorFail

end Sys2Proof.Machine
end

