-- ==== Sys2Proof/Machine/TxPath.lean ====
section
/-!
DEFINITION. Sys2Proof/Machine/TxPath.lean: the transmit path of Radio S (06_radio_s, R167 to R177, R185 to R189):
requests, turnarounds, outcomes, and what a sent or unsent carrier means to the link layer.
-/

namespace Sys2Proof.Machine

/-! ## What a carrier's end means to the link layer -/

/-- Change one downlink frame. -/
def Ml.updDl (m : Ml) (id : Nat) (f : DlFrame → DlFrame) : Ml :=
  { m with dl := m.dl.map fun d => if d.id = id then f d else d }

/-- The number that names a circular in a carrier: its origin and its identifier. -/
def Circ.num (c : Circ) : Nat := Bytes.le c.payload 0 5

/-- A copy of a circular was sent on a channel: with its last channel the copy is done, and with its last copy the
circular and its command are (R256, R266). -/
def State.circSent (s : State) (num ch : Nat) : State :=
  match s.mn.circs.find? fun c => c.num == num with
  | none => s
  | some c =>
    let c' := { c with chans := c.chans.filter (· != ch) }
    let c' := if c'.chans.isEmpty then { c' with left := c'.left - 1 } else c'
    if c'.left = 0 then
      let s := { s with mn := { s.mn with circs := s.mn.circs.erase c } }
      if c.key = 0 then s else s.finishKey 0x0113 c.key stOK
    else
      { s with mn := { s.mn with circs := s.mn.circs.map fun x => if x.num = num then c' else x } }

/-- The first admitting response sent creates the connection, in place of one the node had; the route entry's parent
becomes 0x000000 (R242). -/
def State.joinSent (s : State) (d : DlFrame) : State :=
  match d.kind, d.par with
  | .joinResp eui, some p =>
    match s.ctxOfEui eui with
    | some (n, c) =>
      let s := (s.setRoute c.addr 0 1 n (some 2)).redepth 6 c.addr
      (s.newConn c.addr d.l p).getD s
    | none => s
  | _, _ => s

/-- The frame is an epoch notice: a keep-alive, or an empty routed downlink (R287). -/
def DlFrame.isNotice (d : DlFrame) : Bool :=
  match d.kind with
  | .notice => true
  | .data _ => d.payload.isEmpty
  | _ => false

/-- The connection whose D cell a frame uses, and the cell's channel. -/
def State.dCellOf (s : State) (addr : Nat) : Option (Nat × Conn × Nat) :=
  match s.ml.connOf addr with
  | some (k, c) => (s.dHere c).map fun ch => (k, c, ch)
  | none => none

/-- The follow-on slot that a sent frame leads to (R214). -/
def Conn.followed (c : Conn) (ch : Nat) (pend : Bool) : Conn :=
  let n := match c.follow with
    | some (_, k) => k
    | none => 0
  { c with follow := if pend then some (ch, n + 1) else none }

/-- A frame in its node's D cell has been sent: the node has gained the channel (R223), and listens in the following D
slot where `pend` is set (R214). -/
def State.cellGained (s : State) (d : DlFrame) : State :=
  match d.kind, d.nh with
  | .joinResp _, none => s
  | _, _ => match s.dCellOf d.dst with
    | some (k, c, ch) =>
      { s with ml := { s.ml with
          conns := Tbl.put s.ml.conns k { c.followed ch (bitN (d.psdu.le 0 1) 4) with gained := s.ml.slot } } }
    | none => s

/-- A downlink frame has been sent: a repeat is counted unless the node had deferred the frame, and a node receipt is
awaited (R211, R212). -/
def State.downSent (s : State) (id : Nat) : State :=
  match s.ml.dl.find? fun d => d.id == id with
  | none => s
  | some d =>
    let s :=
      if d.notBefore ≠ 0 then s
      else if d.sent ≠ 0 then s.count F.MSH_DL_CNT_retries
      else if d.isNotice then s.count F.MSH_SEC_NOTICE_notices
      else s.joinSent d
    let s := s.cellGained d
    { s with ml := s.ml.updDl id fun d => { d with sent := d.sent + 1, waiting := true, notBefore := 0 } }

/-- A carrier has been sent. -/
def State.linkSent (s : State) (c : Carrier) : State :=
  match c.what with
  | .receipt _ defer =>
    let s := s.count F.MSH_RCPT_CNT_receipts
    let s := if defer ∧ s.pw.mode = .dawn then s.count F.TPL_DAWN_DEFER_defers else s
    if bitsN (c.psdu.le 7 1) 1 0 = 1 then s.count F.MSH_RX_DROP_dup else s
  | .down _ id => s.downSent id
  | .circular num ch => s.circSent num ch
  | .keepAlive addr =>
    let s := match s.ml.connOf addr with
      | some (k, x) => { s with ml := { s.ml with conns := Tbl.put s.ml.conns k { x with gained := s.ml.slot } } }
      | none => s
    s.count F.TPL_DAWN_KA_keepalives
  | _ => s

/-- A node finds no receipt in its U cell: it listens in the D cell (R219). -/
def State.noReceipt (s : State) (addr : Nat) : State :=
  match s.ml.connOf addr with
  | some (k, c) =>
    if (s.uHere c).isSome then { s with ml := { s.ml with conns := Tbl.put s.ml.conns k { c with pendSent := true } } }
    else s
  | none => s

/-- A carrier has not been sent: a DEFER receipt is lost (R208); everything else stays as if it had not been
chosen (R210), and no receipt of a burst is sent later (R207). -/
def State.linkUnsent (s : State) (c : Carrier) : State :=
  match c.what with
  | .receipt addr defer =>
    let s := s.noReceipt addr
    if defer then s.count F.MSH_DEFER_CNT_lost else s
  | _ => s

/-! ## Requests (R175 to R177) -/

/-- A request ends: its outcome is recorded, and what was charged for carriers not sent is refunded (R453). -/
def State.txFinish (s : State) (charged sent : List Carrier) (st : Nat) : State :=
  let s := s.airRefund (s.io.charge charged) (s.io.charge sent)
  let s := { s with rs := { s.rs with tx := none, outcome := st } }
  (s.each sent State.linkSent).each (charged.filter fun c => !sent.contains c) State.linkUnsent

/-- The request completes LATE: nothing is transmitted. -/
def State.txLate (s : State) (j : TxJob) : State :=
  (s.txFinish j.req.carriers [] stLATE).count F.SRX_TX_ERR_late

/-- The effective start of R175. -/
def TxJob.effStart (j : TxJob) (ready prevEnd : Nat) : Nat :=
  max (max j.req.start (j.accepted + usNs 96)) (max (ready + usNs 96) (prevEnd + usNs 32))

/-- Decide a waiting request once `ready` is known (R175, R176). -/
def State.txDecide (s : State) : State :=
  match s.rs.tx, s.rs.ready with
  | some j, some r =>
    if j.eff.isSome then s
    else
      let e := j.effStart r s.rs.prevEnd
      if j.req.deadline < e ∨ j.req.endLimit < e + TxReq.dur j.req then s.txLate j
      else { s with rs := { s.rs with tx := some { j with eff := some e } } }
  | _, _ => s

/-- TX_REQUEST: Courier S issues one request at a time, while Radio S serves (R167, R175). -/
def State.txRequest (s : State) (r : TxReq) : State :=
  if !s.sServes || s.rs.tx.isSome then s
  else if !TxReq.valid r s.grid100 then { s with rs := { s.rs with outcome := stBAD_ARG } }
  else
    let s := s.airCharge r.carriers
    { s with rs := { s.rs with tx := some { req := r, accepted := s.now } } }.txDecide

/-- TX_DECISION_DEADLINE (R176). -/
def State.txDeadline (s : State) : State :=
  match s.rs.tx with
  | some j => if j.eff.isNone ∧ j.req.deadline ≤ s.now + usNs 96 then s.txLate j else s
  | none => s

/-! ## Coexistence (R185 to R189) -/

/-- COXB_PREEMPT: a transmission falls due while the external radio holds a grant (R188). -/
def State.coxbPreempt (s : State) : State :=
  match s.rs.tx with
  | none => s
  | some j =>
    match j.eff with
    | none => s
    | some e =>
      let lead := usNs (clamp 50 1000 (s.eFld F.COX_B_TIME_preempt_lead))
      if j.started || !s.flag F.COX_B_STAT_ext_gnt || !s.eFlag F.COX_B_CFG_ext_en || s.isShadow ||
          decide (s.now + usNs 96 + lead < e) then s
      else if s.eFlag F.COX_B_CFG_ext_preempt then
        (s.setFld F.COX_B_STAT_ext_gnt 0).count F.COX_B_STAT_preempt
      else s.txLate j

/-- COXB_EXT_REQ rises or falls (R187, R189). -/
def State.coxbReq (s : State) (level : Bool) : State := (s.setFld F.COX_B_STAT_ext_req level.toNat).coxbGrant

/-! ## Turnarounds (R170 to R174) -/

/-- The carriers that clear-channel assessment leaves: those whose channel's energy does not exceed the threshold. -/
def ccaKeep (th : Int) (cs : List Carrier) (energy : List Int) : List Carrier :=
  (cs.zip energy).filterMap fun p => if th < p.2 then none else some p.1

/-- Per-carrier power would exceed the limit of R168: `level` in steps of 0.5 dB. -/
def capReduced (level : Int) (n : Nat) : Bool :=
  let l : Int := max (-80) (min 12 level)
  decide (10 ^ (12 - l).toNat < n ^ 20)

/-- Reception stops, and the front-end pins go to transmission (R171, R185). -/
def State.txPins (s : State) (burst : Bool) : State :=
  let s := s.closeWindow
  let req := s.eFlag F.COX_B_CFG_en
  let pri := req && (burst || s.eFlag F.COX_B_CFG_pri_data)
  let s := { s with rs := { s.rs with
    paEn := true, paMode := s.eFld F.SRX_TX_CFG_pa_mode, trsw := true, coxbReq := req, coxbPri := pri } }
  ((s.setFld F.SRX_STAT_rx_active 0).setFld F.SRX_STAT_tx_active 1).setFld F.SRX_STAT_lna_byp 1

/-- The registers whose boundary is the next transmission. -/
def txRegs : List Nat := [0x100034, 0x100038, 0x10003C, 0x440100, 0x440104]

/-- The request of a turnaround is refused, with the status it takes (R174, R186). -/
def State.txRefused (s : State) (j : TxJob) (gnt : Bool) : Option State :=
  if !s.outEnabled then some ((s.txFinish j.req.carriers [] stDISCARDED).count F.SRX_TX_ERR_cut)
  else if s.eFlag F.COX_B_CFG_en && !gnt && s.eFlag F.COX_B_CFG_honour_gnt &&
      !(j.req.burst && s.eFlag F.COX_B_CFG_rcpt_override) then
    some ((s.txLate j).count F.COX_B_STAT_denied)
  else none

/-- The carriers leave: those dropped by CCA are reported, and the others are put out (R167, R170). -/
def State.txLaunch (s : State) (j : TxJob) (e : Nat) (energy : List Int) : State :=
  let all := j.req.carriers
  let th := s8 (s.eFld F.SRX_CCA_CFG_cca_thresh)
  let kept := if j.req.cca then ccaKeep th all energy else all
  let s := s.count F.SRX_TX_LIM_cca_drop (all.length - kept.length)
  if kept.isEmpty then s.txLate j
  else
    let dropped := all.filter fun c => !kept.contains c
    let s := (s.airRefund (s.io.charge all) (s.io.charge kept)).each dropped State.linkUnsent
    let s := s.txPins j.req.burst
    let s := { s with rs := { s.rs with
      tx := some { j with started := true, eff := some e, req := { j.req with carriers := kept } } } }
    let s := if s.eFld F.SRX_TX_CFG_pwr_mode = 1 && capReduced (s8 (s.eFld F.SRX_TX_CFG_level)) kept.length then
        s.count F.SRX_TX_LIM_cap_reduced
      else s
    s.each kept fun s c => s.put (.radioS c.ch c.prof e c.psdu)

/-- RX_TO_TX_TURNAROUND, 96 µs before the first preamble bit: the gate, COXB_GNT and the channels' energies are
sampled (R170, R171, R174, R186, R188). -/
def State.turnaround (s : State) (energy : List Int) (gnt : Bool) : State :=
  let s := (s.latchRegs txRegs).coxbPreempt
  match s.rs.tx with
  | none => s
  | some j =>
    match j.eff with
    | none => s
    | some e =>
      if j.started ∨ s.now + usNs 96 < e then s
      else
        let s := s.setFld F.COX_B_STAT_gnt gnt.toNat
        match s.txRefused j gnt with
        | some s' => s'
        | none => s.txLaunch j e energy

/-- The pins of Radio S return to reception (R172). -/
def State.rxPins (s : State) : State :=
  let s := { s with rs := { s.rs with
    paEn := false, paMode := 0, trsw := false, coxbReq := false, coxbPri := false, prevEnd := s.now } }
  (((s.setFld F.SRX_STAT_tx_active 0).setFld F.SRX_STAT_rx_active 1).setFld F.SRX_STAT_lna_byp
    s.rs.lnaRx.toNat).coxbGrant

/-- The bytes of slot record entries. -/
def recBytes (l : List (Bool × TRec)) (inner : Bool) : Bytes :=
  let mine := (l.filter fun r => r.1 == inner).map (·.2)
  toLE 1 mine.length ++ (mine.map fun r => toLE 3 r.addr ++ toLE 5 r.ctr ++ toLE 1 r.epoch ++ toLE 1 r.dup.toNat).flatten

/-- The Lead sends the record of a U slot, once (R502). -/
def State.sendSlotRec (s : State) : State :=
  if s.tw.role != .lead || s.ml.isD s.ml.slot || s.tw.recSent then s
  else
    ({ s with tw := { s.tw with recSent := true } }).twinSend 3
      (toLE 5 s.ml.slot ++ recBytes s.ml.recs false ++ recBytes s.ml.recs true)

/-- TX_CUT: the outputs go to their safe state at once, and the request completes DISCARDED (R174, R177).  What had
been charged for the time not sent is refunded. -/
def State.txCut (s : State) : State :=
  match s.rs.tx with
  | none => s
  | some j =>
    if !j.started then s
    else
      let gone := s.now - j.eff.getD s.now
      let part (b : Nat) : Nat := min gone (s.io.charge j.req.carriers b)
      let s := s.airRefund (s.io.charge j.req.carriers) part
      let s := { s with rs := { s.rs with tx := none, outcome := stDISCARDED } }
      ((s.each j.req.carriers State.linkUnsent).count F.SRX_TX_ERR_cut).rxPins

/-- TX_END: the longest carrier ends (R172, R177); a transmission whose outputs were withdrawn was cut (R174). -/
def State.txEnd (s : State) : State :=
  match s.rs.tx with
  | some j =>
    match j.eff with
    | some e =>
      if j.started && !s.outEnabled then s.txCut
      else if j.started ∧ e + TxReq.dur j.req ≤ s.now then
        let s := (s.txFinish j.req.carriers j.req.carriers stOK).count F.SRX_TX_CNT_transmissions
        if j.req.burst then s.rxPins.sendSlotRec else s.rxPins
      else s
    | none => s
  | none => s

/-- A request that has not reached its turnaround is withdrawn with a change of mode or of the service's owner
(R177). -/
def State.txWithdraw (s : State) : State :=
  match s.rs.tx with
  | some j => if j.started then s.txCut else s.txFinish j.req.carriers [] stDISCARDED
  | none => s

/-! ## Meanings -/

/-- TX_REQUEST (R167, R175, R453). -/
def execTxRequest (t : Nat) (req : TxReq) (s : State) : Host.Outcome State Fault Refusal :=
  run t s fun s => s.txRequest req

/-- TX_DECISION_DEADLINE (R176). -/
def execTxDecisionDeadline (t : Nat) (s : State) : Host.Outcome State Fault Refusal := run t s State.txDeadline

/-- RX_TO_TX_TURNAROUND (R170, R171, R174, R186); `energy` is each carrier's channel energy in dBm, in order. -/
def execRxToTxTurnaround (t : Nat) (energy : List Int) (gnt : Bool) (s : State) :
    Host.Outcome State Fault Refusal :=
  run t s fun s => s.turnaround energy gnt

/-- TX_END (R172, R177). -/
def execTxEnd (t : Nat) (s : State) : Host.Outcome State Fault Refusal := run t s State.txEnd

/-- TX_CUT: the gate has closed or the force of R93 acts (R174). -/
def execTxCut (t : Nat) (s : State) : Host.Outcome State Fault Refusal :=
  run t s fun s => if s.outEnabled then s else s.txCut

/-- COXB_EXT_REQ_RISE (R187, R189). -/
def execCoxbExtReqRise (t : Nat) (s : State) : Host.Outcome State Fault Refusal := run t s fun s => s.coxbReq true

/-- COXB_EXT_REQ_FALL (R187). -/
def execCoxbExtReqFall (t : Nat) (s : State) : Host.Outcome State Fault Refusal := run t s fun s => s.coxbReq false

/-- COXB_PREEMPT (R188). -/
def execCoxbPreempt (t : Nat) (s : State) : Host.Outcome State Fault Refusal := run t s State.coxbPreempt

end Sys2Proof.Machine
end

