-- ==== Sys2Proof/Machine/Service.lean ====
section
/-!
DEFINITION. Sys2Proof/Machine/Service.lean: what every change of service shares: discards and the service generation
(R479, R480), host loss (R481, R482), the claim, the output gate and the twin role (R492 to R497), claim faults
(R509).
-/

namespace Sys2Proof.Machine

/-! ## Discards (R479, R480) -/

/-- A MODE_REQUEST that is discarded before its mode is reached has made no change: its move is dropped.  A return from
Doze that a wake source has begun too goes on; so does a Dusk run. -/
def State.undoMode (s : State) (target : Nat) : State :=
  let drop : State := { s with pw := { s.pw with trans := none } }
  match target, s.pw.trans with
  | 0, some .toHibernate => { drop with tw := { drop.tw with absence := false } }
  | 1, some .toDoze => drop
  | 2, some .toDawn => drop
  | 3, some .fromDoze => if s.pw.woken then s else drop
  | 3, some .toFull =>
    if !s.pw.asked then s
    else { s with pw := { s.pw with trans := none, requestedDawn := true, stage := .onAir, wdog := none } }
  | 4, some .toDusk => { drop with tw := { drop.tw with absence := false, dusk := false, duskWait := none } }
  | _, _ => s

/-- What a discarded command had begun is taken back (R230, R234, R266, R292, R404, R406). -/
def State.undo (s : State) (d : Dfr) : State :=
  if d.opcode = 0x0003 then s.undoMode d.key
  else if d.opcode = 0x0101 then ({ s with ml := { s.ml with next := none } }).showNext
  else if d.opcode = 0x0104 then
    let close (f : DlFrame) : Bool := f.dst == d.key && match f.kind with
      | .close _ => true
      | _ => false
    { s with ml := { s.ml with dl := s.ml.dl.filter fun f => !close f } }
  else if d.opcode = 0x0113 then
    { s with mn := { s.mn with circs := s.mn.circs.filter fun c => c.key != d.key } }
  else if d.opcode = 0x0304 then
    let drop (r : Radio) : Radio := { r with queue := r.queue.filter fun p => p.key != some d.key }
    { s with lh := { s.lh with l := drop s.lh.l, h := drop s.lh.h } }
  else if d.opcode = 0x0120 then s.undoEpochSet
  else if d.opcode = 0x0201 ∨ d.opcode = 0x0805 then
    { s with kv := { s.kv with letters := s.kv.letters.filter fun l => l.key != d.key } }
  else if d.opcode = 0x0403 ∨ d.opcode = 0x0405 then
    { s with pt := { s.pt with jobs := Tbl.del s.pt.jobs d.key } }
  else if d.opcode = 0x0801 ∨ d.opcode = 0x0802 ∨ d.opcode = 0x0803 then
    -- an activation that has come to its pause goes on without the command
    if s.pw.trans = some .pause then s
    else
      let s := match s.up.job with
        | some (.activate b _) => s.undoActivate b
        | _ => s
      { s with up := { s.up with job := none, load := none } }
  else s

/-- Complete a fetched command DISCARDED: a second completion where it had completed DEFERRED. -/
def State.discardOne (s : State) (d : Dfr) : State :=
  let pkt := d.opcode == 0x1001
  let s := s.complete
    { sq := d.sq, tag := d.tag, status := stDISCARDED, gen := d.gen, final := !pkt && d.opcode != 0x0304 }
  if pkt then
    { s with
      sr := { s.sr with input := s.sr.input.filter fun p => p.2.key != some d.key }
      fl := { s.fl with held := s.fl.held.filter fun f => (f.pkt.bind (·.key)) != some d.key } }
  else s.undo d

/-- Complete a posted buffer that is not filled DISCARDED. -/
def State.discardBuf (s : State) (b : RxBuf) : State :=
  s.complete { sq := b.sq, tag := b.tag, status := stDISCARDED, gen := b.gen }

/-- The service generation advances (R479), with its event and its log entry. -/
def State.nextGen (s : State) (cause n : Nat) : State :=
  let s := (s.setFld F.HIF_GEN_gen (s.fld F.HIF_GEN_gen + 1)).setFld F.HIF_GEN_cause cause
  let s := (s.count F.HIF_GEN_bumps).log 0x12 0xFF cause
  s.event 0x02 (toLE 1 (s.fld F.HIF_GEN_gen) ++ toLE 1 cause ++ toLE 4 n)

/-- A discard (R480): every fetched command without its final completion, but those that `keep` exempts, and every
unfilled buffer, completes DISCARDED ring by ring in descriptor order; then the generation advances. -/
def State.discard (s : State) (cause : Nat) (keep : Dfr → Bool) : State :=
  let gone := s.io.hf.deferred.filter fun d => !keep d
  let bufs := s.io.hf.rxBufs
  let s := { s with io := { s.io with hf := { s.io.hf with
    deferred := s.io.hf.deferred.filter keep, rxBufs := [], txDone := [] } } }
  let s := s.each (List.range 64) fun s n =>
    let s := s.each (gone.filter fun d => d.sq == n) State.discardOne
    let s := s.each (bufs.filter fun b => b.sq == n) State.discardBuf
    { s with io := s.io.settle n }
  s.updatePool.nextGen cause (gone.length + bufs.length)

/-- No command is exempt. -/
def keepNone (_ : Dfr) : Bool := false

/-! ## Host loss (R481, R482) -/

/-- The bit of a cause in `HIF_LOSS`. -/
def LossCause.bit : LossCause → Nat
  | .perst => 0 | .linkDown => 1 | .pllPcie => 2 | .d3hot => 3 | .busMaster => 4 | .watchdog => 5

/-- Some ring is enabled. -/
def Io.anyRing (io : Io) : Bool :=
  (List.range 64).any fun n => io.fld (F.HIF_SQ_CFG_en n) != 0 || io.fld (F.HIF_CQ_CFG_en n) != 0

/-- Every ring's `en` clears, and with it `active`; entries held for them are lost. -/
def Io.dropRings (io : Io) : Io :=
  let io := (List.range 64).foldl (fun io n =>
    (((io.setFld (F.HIF_SQ_CFG_en n) 0).setFld (F.HIF_SQ_ERR_active n) 0).setFld (F.HIF_CQ_CFG_en n) 0).setFld
      (F.HIF_CQ_ERR_active n) 0) io
  { io with hf := { io.hf with cqHeld := [], coal := [] } }

/-- Host queues are emptied, and their packets counted (R482). -/
def State.emptyHost (s : State) : State :=
  s.each ((Tbl.keys s.qm.queues).filter fun n => decide (0x21010 ≤ n)) fun s n =>
    let k := (s.queue n).pkts.length
    (s.dropQueue n).count F.SRT_DROP_Q2_host_drop k

/-- The host is lost: nothing more is written to its memory, host work is discarded with cause 0x4, and every ring
stops. -/
def State.hostLoss (s : State) (c : LossCause) : State :=
  let w := s.word F.HIF_LOSS_cause.off
  let s := s.setWord F.HIF_LOSS_cause.off (w ||| BitVec.ofNat 32 (2 ^ c.bit))
  if s.io.hf.lost.isSome then s
  else
    let s := { s with io := { s.io with hf := { s.io.hf with
      lost := some c
      busMaster := s.io.hf.busMaster && c != LossCause.busMaster } } }
    let s := s.discard 0x4 keepNone
    let s := { s with io := s.io.dropRings }
    s.emptyHost

/-! ## The claim (R492, R493) -/

/-- alive: at least two lanes vote, in Doze, Dawn or Full, and the device has not stood down. -/
def State.aliveNow (s : State) : Bool :=
  s.tp.pairFail.isNone && s.pw.hold.isNone && s.pw.stage != .off && s.pw.stage != .held && !s.nv.stoodDown && !s.tw.standDue &&
    (s.pw.mode == .doze || s.pw.mode == .dawn || s.pw.mode == .full)

/-- serviceable, but for a hold. -/
def State.servNow (s : State) : Bool :=
  s.aliveNow && (s.pw.mode == .full || s.pw.mode == .doze || (s.pw.mode == .dawn && s.pw.trans == some .pause)) &&
    s.fld F.TPL_STAT_retired == 0 && !s.ck.refFailed && !s.flag F.TEL_FAULT_radio && s.tw.duskWait.isNone &&
    !s.tw.holdClr

/-- The claim that the conditions of R492 give. -/
def State.claimNow (s : State) : Nat :=
  if s.aliveNow then
    8 + 4 * s.servNow.toNat + 2 * (s.servNow && s.tw.preferred).toNat + s.fld F.TOP_STRAP_twin_id
  else 0

/-- The peer is alive; it is serviceable. -/
def State.peerAlive (s : State) : Bool := bitN s.tw.claimIn 3
def State.peerServ (s : State) : Bool := bitN s.tw.claimIn 2

/-! ## The twin event and role changes (R497, R515) -/

/-- Post a twin event. -/
def State.twinEvent (s : State) (subtype : Nat) (old : Role) (cause ctr : Nat) : State :=
  s.event 0x08 (toLE 1 subtype ++ toLE 1 s.tw.role.code ++ toLE 1 old.code ++
    toLE 1 (s.tw.claim + 16 * s.tw.claimIn) ++ toLE 1 cause ++ toLE 5 s.ml.slot ++ toLE 5 ctr)

/-- The peer's lease end as it counts (R505): with 2^30 added while none has been fixed since the start. -/
def State.peerEnd (s : State) : Nat :=
  let e := (s.ms.rec_.map (·.peerEnd)).getD 0
  if s.tw.peerSeen && !s.tw.peerFixed then e + 2 ^ 30 else e

/-- A new Lead's downlink counter starts at the higher of the ends recorded (R285, R503, R505), and its lease
record follows. -/
def State.leadCounter (s : State) : State :=
  match s.ms.rec_ with
  | none => s
  | some r =>
    let skip := s.tw.peerSeen && !s.tw.peerFixed && decide (max r.leaseEnd r.peerEnd < s.peerEnd)
    let start := min (max (max r.leaseEnd s.peerEnd) s.ms.ctr) (2 ^ 40)
    let r' := { r with leaseEnd := min (start + 2 ^ 20) (2 ^ 40) }
    let out := if s.peerAlive then some (r'.epoch, r'.leaseEnd) else none
    let s : State := { s with
      ms := { s.ms with rec_ := some r', ctr := start, stalled := false }
      nv := { s.nv with lease := some r' }
      tw := { s.tw with leaseOut := out, leaseFree := false } }
    let s := s.sendLease
    if skip then (s.count F.TWN_LEASE_CNT_skips).twinEvent 5 s.tw.role 0 start else s

/-- What was queued on the old Lead is lost (R457, R507): receipts, downlink frames, circulars, packets.  Every
transmission has stopped with the gate. -/
def State.leadGone (s : State) : State :=
  let s := { s with
    ml := { s.ml with owed := [], dl := [], places := [], reserved := [] }
    mn := { s.mn with circs := [] }
    tw := { s.tw with leaseOut := none } }
  let s := s.each (Tbl.keys s.qm.queues) fun s n => s.dropQueue n
  (s.setFld (F.ETH_STAT_xoff_sent 0) 0).setFld (F.ETH_STAT_xoff_sent 1) 0

/-- What starts when the device becomes Lead or Solo (R263, R360, R402); it sends nothing in this slot (R507). -/
def State.leadStarts (s : State) : State :=
  let s := s.leadCounter
  let s := match s.mn.heardId with
    | some k => s.setFld F.MSH_CIRC_ID_next_id ((k + 512) % 65536)
    | none => s
  let gap := 2 ^ clamp 10 31 (s.fld F.WLN_TWIN_CFG_pn_gap_log2)
  let keys := s.wl.keys.map fun k =>
    let rec_ := ((s.nv.pnRecs.find? fun r => r.target == k.target && r.kind == k.kind && r.id == k.id).map
      (·.leaseEnd)).getD 0
    let pn := max (max k.heard k.start) rec_ + gap
    { k with pn := pn, lease := pn + 65536, stalled := false }
  let recs := keys.map fun k => (⟨k.target, k.kind, k.id, k.lease⟩ : PnRec)
  let s := { s with wl := { s.wl with keys := keys }, nv := { s.nv with pnRecs := recs } }
  { s with
    pt := { s.pt with macGrace := Tbl.keys s.pt.mac, nodeGrace := Tbl.keys s.pt.ctx }
    tw := { s.tw with tookSlot := some s.ml.slot }
    ml := { s.ml with planned := true } }

/-- The commands that a role change's discard leaves: the hold that causes it, and the MODE_REQUEST to Dusk or Dawn
under way (R51, R512, R513). -/
def keepRole (d : Dfr) : Bool := d.opcode == 0x0701 || (d.opcode == 0x0003 && (d.key == 4 || d.key == 2))

/-- The holds that wait for the role of Shadow complete OK (R513). -/
def State.holdDone (s : State) : State :=
  let s := { s with tw := { s.tw with holdAt := none } }
  s.each (s.io.hf.deferred.filter fun d => d.opcode == 0x0701) fun s d => s.finish d stOK

/-- A role change (R496, R497).  Causes: 0 peer claim fell, 1 own claim fell, 2 revert, 3 hold, 4 peer claim
rose. -/
def State.roleChange (s : State) (new : Role) (cause : Nat) : State :=
  let old := s.tw.role
  if new = old then s
  else
    let s := { s with tw := { s.tw with role := new } }
    let s := s.count F.TWN_ROLE_CNT_changes
    let s := if cause = 2 then s.count F.TWN_ROLE_CNT_reverts else s
    let s := s.log 0x11 0xFF (old.code + 256 * cause)
    match old, new with
    | .shadow, _ =>
      let s := s.leadStarts
      (s.twinEvent 1 old cause s.ms.ctr).discard 0x3 keepRole
    | _, .shadow => (((s.leadGone).twinEvent 1 old cause 0).discard 0x3 keepRole).holdDone
    | _, .lead =>
      let out := s.ms.rec_.map fun r => (r.epoch, r.leaseEnd)
      let s : State := { s with tw := { s.tw with leaseOut := out, leaseFree := true } }
      s.sendLease.twinEvent 1 old cause s.ms.ctr
    | _, .solo => ({ s with tw := { s.tw with leaseOut := none } }).twinEvent 1 old cause s.ms.ctr

/-! ## The output gate (R494 to R496) -/

/-- The role that the two claims give. -/
def State.roleOf (s : State) : Role :=
  if !s.peerAlive then .solo else if s.tw.claimIn < s.tw.claim then .lead else .shadow

/-- The gated pins of L and H are safe (R326). -/
def Lh.safe (x : Lh) : Lh :=
  { x with l := { x.l with paEn := 0, paMode := 0, trsw := 0 }, h := { x.h with paEn := 0, paMode := 0, trsw := 0 } }

/-- The gate closes: every gated output is safe, and the role follows. -/
def State.closeGate (s : State) (cause : Nat) : State :=
  let s := { s with tw := { s.tw with gate := false }, rs := s.rs.safe, lh := s.lh.safe }
  s.roleChange s.roleOf cause

/-- The conditions of the claim have changed: CLAIM_OUT follows, any fall of serviceable clears the preferred bit and
restarts the holdoff (R493), and the gate closes where the claim does not exceed CLAIM_IN.  `cause` is that of a role
change it brings. -/
def State.reclaim (s : State) (cause : Nat := 1) : State :=
  let serv := s.servNow
  let s := if serv && s.tw.servSince.isNone then s.latchFld F.TWN_HOLD_holdoff_s else s
  let tw : Tw := if serv then { s.tw with servSince := some (s.tw.servSince.getD s.now) }
    else { s.tw with servSince := none, preferred := false, revertSlot := none }
  let s : State := { s with tw := tw }
  let c := s.claimNow
  if c = s.tw.claim then s
  else
    let s : State := { s with tw := { s.tw with claim := c, changedAt := s.now, ownRose := decide (s.tw.claim < c) } }
    if c ≤ s.tw.claimIn then s.closeGate cause else s

/-- A claim fault (R509): it opens the recovery window; a second one inside it, with a serviceable peer, stands the
device down: alive falls at once, and STAND_DOWN records it. -/
def State.claimFault (s : State) : State :=
  if s.tw.window && s.peerServ then { s with tw := { s.tw with standDue := true } }.reclaim
  else { s with tw := { s.tw with window := true } }

/-- A fall of the claim that R509 counts: the claim follows its conditions, and where alive or serviceable fell with
it, the fault is counted. -/
def State.claimFell (s : State) : State :=
  let old := s.tw.claim
  let s := s.reclaim
  if s.tw.claim / 4 < old / 4 then s.claimFault else s

/-! ## Mode events and the transition bit (R552, R599) -/

/-- A mode transition completes: `TOP_MODE` follows, with its event (R476) and its log entry (R596). -/
def State.modeIs (s : State) (m : Mode) : State :=
  let old := s.pw.mode
  let n := (s.pw.changes + 1) % 256
  let s := { s with pw := { s.pw with mode := m, prevMode := old.code, changes := n, trans := none, woken := false } }
  let s := (s.log 0x10 0xFF (old.code + 256 * n)).pushItem 0x04
  s.stateRefresh.event 0x01 (toLE 1 m.code ++ toLE 1 old.code ++ toLE 1 n)

/-- A service request during a Dusk run (R545): the first ends it; of two at one instant the lower cause counts. -/
def State.duskService (s : State) (cause : Nat) : State :=
  let first : Bool := s.dk.abort == 0 || (s.dk.abortAt == s.now && decide (cause < s.dk.abort))
  if s.pw.mode = .dusk ∧ s.flag F.DSK_STAT_running ∧ first then
    ({ s with dk := { s.dk with abort := cause, abortAt := s.now } }).setFld F.DSK_STAT_aborting 1
  else s

/-- Finish the MODE_REQUEST to a target, where one waits. -/
def State.finishMode (s : State) (target status : Nat) : State := s.finishKey 0x0003 target status

end Sys2Proof.Machine
end

