-- ==== Sys2Proof/Machine/MeshRx.lean ====
section
/-!
DEFINITION. Sys2Proof/Machine/MeshRx.lean: the frames that Radios S and L deliver (07_mesh_link, R194 to R206; R137,
R138, R263, R280, R426, R498, R499): the checks, the decision, the places of the receipt burst.
-/

namespace Sys2Proof.Machine

/-! ## Frames (R195 to R197) -/

/-- What the header of R196 says. -/
structure Hdr where
  type : Nat
  sec : Bool
  pend : Bool
  ver : Nat
  dst : Nat
  src : Nat
  ctr : Nat
  epoch : Nat
  deriving DecidableEq, Repr

/-- Read a header. -/
def hdrOf (p : Bytes) : Hdr :=
  let b := p.le 0 1
  { type := b % 8, sec := bitN b 3, pend := bitN b 4, ver := b / 64, dst := p.le 1 3, src := p.le 4 3,
    ctr := p.le 7 5, epoch := p.le 12 1 }

/-- The frame has a 2-byte FCS that holds (R195). -/
def RxFrame.fcsGood (f : RxFrame) : Bool := (f.onL.isSome || f.fcs == 1) && fcsOk f.psdu

/-- The frame is not one that R197 discards, and is long enough for its header. -/
def headerGood (p : Bytes) : Bool :=
  let h := hdrOf p
  h.ver == 0 && h.type != 7 && h.type != 5 && (h.sec || h.type == 3) &&
    decide ((if h.sec then 23 else 9) ≤ p.length)

/-- The channel index of R194 of a received frame. -/
def State.cellIndex (s : State) (f : RxFrame) : Nat :=
  match f.onL with
  | some k => k
  | none => (s.io.cellOf f.ch).getD f.ch

/-- Offset of the expected SFD-end in its slot, ns (R203). -/
def RxFrame.expected (f : RxFrame) : Nat :=
  if f.onL.isSome then 2160000 else if f.prof = 0 then 3600000 else 2800000

/-- The timing correction of R205, µs. -/
def State.tcorr (s : State) (f : RxFrame) : Int :=
  let d : Int := (f.sfdEnd : Int) - (s.ml.slotAt + f.expected : Nat)
  max (-8191) (min 8191 ((d + 500) / 1000))

/-- The frequency offset in units of 200 Hz (R205). -/
def cfoUnits (cfo : Int) : Int := max (-127) (min 127 ((cfo + 100) / 200))

/-! ## Receipts (R201) -/

/-- The receipt of a frame: `who` is its sender, `ctr` its counter where it is secured. -/
def State.receiptFor (s : State) (f : RxFrame) (who : Nat) (sec : Bool) (ctr status : Nat) (aux : Int) : Rcpt :=
  let n := f.psdu.length
  { l := f.onL.isSome, ch := s.cellIndex f, prof := if f.onL.isSome then 3 else f.prof, addr := who,
    ctrEcho := if sec then ctr % 65536 else 0,
    micEcho := (f.psdu : Bytes).le (if sec then n - 3 else n - 2) 1, status := status, tcorr := s.tcorr f, aux := aux }

/-- The twelve bytes of a receipt. -/
def Rcpt.psdu (r : Rcpt) (pend : Bool) : Bytes :=
  let t := codeN 14 r.tcorr
  withFcs (toLE 1 (5 + 16 * pend.toNat) ++ toLE 3 r.addr ++ toLE 2 r.ctrEcho ++ toLE 1 r.micEcho ++
    toLE 1 (r.status + 4 * (t % 64)) ++ toLE 1 (t / 64) ++ toLE 1 (codeN 8 r.aux))

/-! ## Burst places (R206, R280) -/

/-- Width of a radio's burst: at most 8 carriers on L (R318). -/
def State.burstWidth (s : State) (l : Bool) : Nat :=
  let w := clamp 1 64 (s.eFld F.MSH_RCPT_CFG_burst_width)
  if l then min w 8 else w

/-- The place reserved for another node that has not yet taken it stands on this channel. -/
def State.heldForOther (s : State) (l : Bool) (ch who : Nat) : Bool :=
  s.ml.reserved.any fun p => p.1 == l && p.2 != who && (s.ml.places.all fun r => r.l != l || r.addr != p.2) &&
    match s.ml.connOf p.2 with
    | some (_, c) => s.uHere c == some ch
    | none => false

/-- A place is open to a sender's frame on a channel: its reserved one, or one not reserved; a channel has one place. -/
def State.placeOpen (s : State) (l : Bool) (ch who : Nat) : Bool :=
  let mine := s.ml.reserved.contains (l, who)
  let free := (s.ml.places.filter fun r => r.l == l && !s.ml.reserved.contains (r.l, r.addr)).length
  let res := (s.ml.reserved.filter fun p => p.1 == l).length
  (s.ml.places.all fun r => r.l != l || r.ch != ch) && !s.heldForOther l ch who && (mine || decide (free + res < s.burstWidth l))

/-- Take a place in the burst. -/
def State.takePlace (s : State) (r : Rcpt) : State := { s with ml := { s.ml with places := s.ml.places ++ [r] } }

/-- Owe a DEFER receipt to the next D slot. -/
def State.oweDefer (s : State) (r : Rcpt) : State :=
  ({ s with ml := { s.ml with owed := s.ml.owed ++ [{ r with status := 2 }] } }).count F.MSH_DEFER_CNT_deferred

/-- Change the connection of an address. -/
def State.updConnOf (s : State) (addr : Nat) (f : Conn → Conn) : State :=
  match s.ml.connAny addr with
  | some (k, _) => { s with ml := { s.ml with conns := Tbl.upd s.ml.conns k f } }
  | none => s

/-- The connection's own cell is this slot's, on this channel. -/
def State.ownCell (s : State) (c : Conn) (l : Bool) (ch : Nat) : Bool := c.radioL == l && s.uHere c == some ch

/-- A node was heard in a U slot: last-heard time, attendance, and whether it was deferred, in which case it listens in
the D cell (R206, R219, R220). -/
def State.heardU (s : State) (addr : Nat) (l : Bool) (ch : Nat) (heard deferred : Bool) : State :=
  let s := s.updConnOf addr fun c =>
    { c with heard := if heard then s.now else c.heard, deferred := deferred,
             heardIn := c.heardIn || s.ownCell c l ch, pendSent := c.pendSent || deferred && s.ownCell c l ch }
  if heard then s.heardCtx addr else s

/-- The counters of R226: frames on contention channels, and frames of connected nodes in cells not their own; a
connected node's frame on a contention channel is both. -/
def State.offCell (s : State) (addr : Nat) (l : Bool) (ch : Nat) : State :=
  let s := if bitN (s.io.contMask l) ch then s.count F.MSH_OFFCELL_contention else s
  match s.ml.connOf addr with
  | some (_, c) => if s.ownCell c l ch then s else s.count F.MSH_OFFCELL_off_cell
  | none => s

/-! ## What an accepted frame brings -/

/-- Cells that an uplink frame's payload takes (R426); in a slot of Doze it takes held cells (R53). -/
def State.admitFrame (s : State) (h : Hdr) (n : Nat) : Bool :=
  if h.type = 1 ∨ h.type = 6 then
    (if s.pw.mode = .doze then s.roomFor (cellsOf n) else s.admitMesh (cellsOf n))
  else true

/-- A payload held in Doze (R53): its frame type goes before it. -/
def State.holdPayload (s : State) (h : Hdr) (payload : Bytes) (ch : Nat) (rssi : Int) : State :=
  let e : Held :=
    { cells := cellsOf payload.length, at_ns := s.now, data := toLE 1 h.type ++ payload, src := h.src, ch := ch, rssi := rssi }
  { s with pw := { s.pw with held := s.pw.held ++ [e] } }

/-- The payload of a data frame (R246): local content to the Sorters, a relayed uplink to the inner block check. -/
def State.dataPayload (s : State) (src : Nat) (payload : Bytes) (ch : Nat) (l : Bool) (rssi : Int) : State :=
  let nh := payload.le 0 1
  if nh = 0 then s.uplink src (payload.drop 1) rssi
  else if nh % 4 = 1 ∧ nh < 8 then
    let i : Inner := { src := src, payload := payload, ch := ch, l := l, rssi := rssi }
    { s with mn := { s.mn with inner := s.mn.inner ++ [i] } }
  else s.count F.MSH_LOWPAN_ERR_lowpan_err

/-- A re-attach request that came in a join frame (R251). -/
def State.reattach (s : State) (h : Hdr) (p : Bytes) (ch : Nat) (l : Bool) : State :=
  match s.ctxOfAddr h.src with
  | some (_, x) =>
    if p.length = 4 ∧ p.le 0 1 = 3 ∧ p.le 1 1 < 16 ∧ p.le 2 2 ≤ 512 then
      s.joinArrives
        { eui := x.eui, epoch := h.epoch, fc := h.ctr, caps := p.le 1 1, interval := p.le 2 2, reattach := true,
          addr := h.src, ch := ch, l := l, at_ns := s.now, window := s.joinWait }
    else s
  | none => s

/-- What an accepted frame's payload does, by the frame's type; link commands are ignored (R200). -/
def State.payloadIn (s : State) (h : Hdr) (payload : Bytes) (ch : Nat) (l : Bool) (rssi : Int) : State :=
  if s.pw.mode = .doze then (if h.type = 1 ∨ h.type = 6 then s.holdPayload h payload ch rssi else s)
  else if h.type = 1 then s.dataPayload h.src payload ch l rssi
  else if h.type = 3 then s.reattach h payload ch l
  else if h.type = 6 then s.circReceive payload rssi
  else s

/-! ## Secured frames (R204, R278 to R280) -/

/-- The checks of R278 on a secured link frame. -/
def State.frameCheck (s : State) (h : Hdr) (p : Bytes) : SecCheck :=
  s.secCheck 1 h.src h.ctr h.epoch (p.take 13) ((p.drop 13).take (p.length - 15))

/-- Mark a sender as decided in this slot. -/
def State.decide1 (s : State) (who : Nat) : State := { s with ml := { s.ml with decided := who :: s.ml.decided } }

/-- A duplicate: DUP where it takes a place, else DEFER; it stays accepted (R204, R206). -/
def State.dupFrame (s : State) (f : RxFrame) (h : Hdr) : State :=
  let l := f.onL.isSome
  let ch := s.cellIndex f
  let r := s.receiptFor f h.src true h.ctr 1 (cfoUnits f.cfo)
  let s := s.offCell h.src l ch
  if s.placeOpen l ch h.src then ((s.takePlace r).noteRec false h.src h.ctr h.epoch true).heardU h.src l ch true false
  else (s.oweDefer { r with aux := 0 }).heardU h.src l ch false true

/-- A new frame: accepted with ACK where it takes a place and its cells are admitted, else DEFER (R204, R206,
R426). -/
def State.newFrame (s : State) (f : RxFrame) (h : Hdr) (payload : Bytes) (mirrorFail : Bool) : State :=
  let l := f.onL.isSome
  let ch := s.cellIndex f
  let r := s.receiptFor f h.src true h.ctr 0 (cfoUnits f.cfo)
  let s := s.offCell h.src l ch
  if s.placeOpen l ch h.src && s.admitFrame h payload.length then
    let s := ((s.takePlace r).noteRec false h.src h.ctr h.epoch false).count F.MSH_RX_CNT_accepted
    let s := (s.recordCtr h.src h.epoch h.ctr mirrorFail).heardU h.src l ch true false
    s.payloadIn h payload ch l f.rssi
  else (s.oweDefer { r with aux := 0 }).heardU h.src l ch false true

/-- A secured frame that a Lead or Solo device received in Full or Doze; in Doze a re-attach has no receipt (R252). -/
def State.securedFrame (s : State) (f : RxFrame) (h : Hdr) (mirrorFail : Bool) : State :=
  match s.frameCheck h f.psdu with
  | .dup _ =>
    if s.ml.decided.contains h.src then s.count F.MSH_SEC_ERR3_same_slot
    else if s.pw.mode = .doze ∧ h.type = 3 then s
    else (s.decide1 h.src).dupFrame f h
  | .new p =>
    if s.ml.decided.contains h.src then s.count F.MSH_SEC_ERR3_same_slot
    else if s.pw.mode = .doze ∧ h.type = 3 then s
    else (s.decide1 h.src).newFrame f h p mirrorFail
  | c => s.secFail c h.src

/-! ## Join requests (R204, R237, R238) -/

/-- The number under which a joiner counts as one sender of a slot. -/
def joinerKey (eui : Nat) : Nat := 2 ^ 24 + eui

/-- An unsecured join frame; one outside the table of R237 is discarded. -/
def State.joinFrame (s : State) (f : RxFrame) (h : Hdr) (mirrorFail : Bool) : State :=
  let b : Bytes := ((f.psdu : Bytes).drop 7).take (f.psdu.length - 9)
  let l := f.onL.isSome
  let ch := s.cellIndex f
  if s.pw.mode = .doze then s
  else if !joinPayloadOk b then s.count F.MSH_RX_ERR_fcs_err
  else
    let who := joinerKey (b.le 1 8)
    match s.joinCheck b with
    | .dup _ =>
      if s.ml.decided.contains who then s.count F.MSH_SEC_ERR3_same_slot
      else
        let s := (s.decide1 who).offCell 0xFFFFFF l ch
        if s.placeOpen l ch who then s.takePlace (s.receiptFor f h.src false 0 1 (cfoUnits f.cfo))
        else s.oweDefer (s.receiptFor f h.src false 0 2 0)
    | .new _ =>
      if s.ml.decided.contains who then s.count F.MSH_SEC_ERR3_same_slot
      else
        let s := (s.decide1 who).offCell 0xFFFFFF l ch
        if s.placeOpen l ch who then
          let s := (s.takePlace (s.receiptFor f h.src false 0 0 (cfoUnits f.cfo))).count F.MSH_RX_CNT_accepted
          let s := s.recordJoin (b.le 1 8) (b.le 9 1) (b.le 10 5) mirrorFail
          s.joinArrives (joinReqOf b [] ch l s.now s.joinWait)
        else s.oweDefer (s.receiptFor f h.src false 0 2 0)
    | c => s.joinFail c

/-! ## The listening Shadow (R229, R263, R498 to R500, R505) -/

/-- The Shadow has checked a node's frame: it waits for its confirmation (R499); a circular enters the postmark cache
(R263). -/
def State.shadowFrame (s : State) (f : RxFrame) (h : Hdr) : State :=
  match s.frameCheck h f.psdu with
  | .new p =>
    let e : ShadowFrame :=
      { slot := s.ml.slot, addr := h.src, ctr := h.ctr, epoch := h.epoch,
        micEcho := (f.psdu : Bytes).le (f.psdu.length - 3) 1, at_ns := s.now }
    let s := { s with tw := { s.tw with shadow := s.tw.shadow ++ [e] } }
    if h.type = 6 ∧ 9 ≤ p.length ∧ !s.marked (Bytes.le p 0 3) (Bytes.le p 3 2) then
      s.mark (Bytes.le p 0 3) (Bytes.le p 3 2)
    else s
  | .dup _ => s
  | c => s.secFail c h.src

/-- The Shadow has heard a receipt of the Lead: it confirms the frame it matches (R499). -/
def State.heardReceipt (s : State) (p : Bytes) : State :=
  let ok (e : ShadowFrame) : Bool :=
    e.slot == s.ml.slot && e.addr == p.le 1 3 && e.ctr % 65536 == p.le 4 2 && e.micEcho == p.le 6 1 &&
      decide (p.le 7 1 % 4 ≤ 1)
  { s with tw := { s.tw with shadow := s.tw.shadow.map fun e => if ok e then { e with heard := true } else e } }

/-- A downlink counter heard from the Lead in the current epoch (R505). -/
def State.heardCtr (s : State) (epoch ctr : Nat) : State :=
  match s.ms.rec_ with
  | none => s
  | some r =>
    if r.epoch ≠ epoch then s
    else
      let e := (ctr / 2 ^ 20 + 2) * 2 ^ 20
      let r' := { r with peerEnd := max r.peerEnd e }
      let old := s.fld F.TWN_HEARD_HI_heard * 2 ^ 32 + s.fld F.TWN_HEARD_LO_heard
      let hi := max old ctr
      let s := { s with
        ms := { s.ms with rec_ := some r' }, nv := { s.nv with lease := some r' }
        tw := { s.tw with peerFixed := true } }
      (s.setFld F.TWN_HEARD_LO_heard hi).setFld F.TWN_HEARD_HI_heard (hi / 2 ^ 32)

/-- The Shadow follows a beacon of the Lead (R199, R229, R498, R500). -/
def State.heardBeacon (s : State) (f : RxFrame) (p : Bytes) : State :=
  if p.length < 48 then s
  else
    let next := if p.le 11 1 = 0 then none else some (p.le 11 1, p.le 12 5, p.le 17 5)
    let s := { s with ml := { s.ml with sfLen := p.le 5 1, sfMap := p.le 6 5, next := next } }.showNext
    if s.tw.link = .up then s
    else
      let exp := if f.onL.isSome then 160000 else
        (if f.prof = 0 then 20000 else 10000) * (16 + 8 * clamp 8 128 (s.fld F.MSH_BCN_CFG_bcn_preamble))
      let at_ := f.sfdEnd - exp - 2000000
      let d : Int := (at_ : Int) - s.ml.slotAt
      let s := { s with
        ml := { s.ml with slotAt := at_ }
        tw := { s.tw with alignedAt := some s.now, adopt := if p.le 0 5 = s.ml.slot then none else some (p.le 0 5 + 1) } }
      (s.setFld F.TWN_STAT_time_src 2).setFld F.TWN_TIME_offset (codeN 16 (d / 100))

/-- A link command of the Lead that the Shadow decodes (R200, R498). -/
def State.heardCommand (s : State) (dst : Nat) (p : Bytes) : State :=
  match s.ml.connOf dst with
  | none => s
  | some (k, c) =>
    if p.le 0 1 = 1 then
      let q := connParOf (toLE 4 0 ++ p.drop 1)
      if q.valid c.radioL (s.io.contMask c.radioL) then s.setConn k { c with upd := some q, state := 2 } else s
    else if p.le 0 1 = 2 then s.freeConn k
    else s

/-- A frame of the Lead that the Shadow hears: beacons and circulars under the group key, frames to a node under that
node's key. -/
def State.heardLead (s : State) (f : RxFrame) (h : Hdr) : State :=
  let p : Bytes := f.psdu
  let key := if h.dst = 0xFFFFFF then s.groupKey h.epoch
    else (s.nodeRec h.dst).bind fun n => s.keyOf n.eui h.epoch
  match key.bind fun k => ccmOpen k (nonceOf 1 0 h.ctr h.epoch h.dst) (p.take 13) ((p.drop 13).take (p.length - 15)) with
  | none => s
  | some q =>
    let s := s.heardCtr h.epoch h.ctr
    if h.type = 0 then s.heardBeacon f q
    else if h.type = 6 ∧ 9 ≤ q.length then
      let o := Bytes.le q 0 3
      let id := Bytes.le q 3 2
      let s := if o = 0 then { s with mn := { s.mn with heardId := some (max (s.mn.heardId.getD 0) id) } } else s
      if s.marked o id then s else s.mark o id
    else if h.type = 2 then s.heardCommand h.dst q
    else s

/-! ## The decision (R204) -/

/-- One frame of a U slot, in Full or Doze.  A receipt has no link header, and no rule gives it an effect here except
on a Shadow: it is ignored. -/
def State.frameIn (s : State) (f : RxFrame) (mirrorFail : Bool) : State :=
  if f.truncated then s.count F.MSH_RX_DROP_truncated
  else if !f.fcsGood then s.count F.MSH_RX_ERR_fcs_err
  else if (hdrOf f.psdu).type == 5 then (if s.listens && f.psdu.length == 12 then s.heardReceipt f.psdu else s)
  else if !headerGood f.psdu then s.count F.MSH_RX_ERR_fcs_err
  else
    let h := hdrOf f.psdu
    if s.listens && h.src == 0 && h.sec then s.heardLead f h
    else if h.dst ≠ 0 then s.count F.MSH_RX_ERR_other_dst
    else if s.listens then (if h.sec then s.shadowFrame f h else s)
    else if h.sec then s.securedFrame f h mirrorFail
    else s.joinFrame f h mirrorFail

/-- Earlier in decision order: by the end of the PSDU, then by channel (R206). -/
def State.earlier (s : State) (a b : RxFrame) : Bool :=
  decide (a.endAt < b.endAt) || (a.endAt == b.endAt && decide (s.cellIndex a ≤ s.cellIndex b))

/-- The first of the delivered frames in decision order. -/
def State.firstFrame (s : State) : Option RxFrame :=
  s.rs.rx.foldl (fun o f => match o with
    | some g => if s.earlier g f then some g else some f
    | none => some f) none

/-- Take a frame for its decision. -/
def State.takeFrame (s : State) (f : RxFrame) : State := { s with rs := { s.rs with rx := s.rs.rx.erase f } }

/-- The slot's frames are decided: mesh service runs, in a U slot, or on a Shadow in any. -/
def State.decides (s : State) : Bool :=
  s.flag F.MSH_STAT_running && s.pllA && (s.listens || !s.ml.isD s.ml.slot)

/-- FRAME_DECISION in Full and Doze. -/
def State.frameDecision (s : State) (mirrorFail : Bool) : State :=
  match s.firstFrame with
  | some f =>
    if s.decides && (s.pw.mode == .full || s.pw.mode == .doze) then (s.takeFrame f).frameIn f mirrorFail else s
  | none => s

/-! ## Dawn (R137, R138) -/

/-- The retry hint of Dawn's DEFER receipts. -/
def State.dawnHint (s : State) : Nat := max 1 (s.eFld F.TPL_DAWN_CFG_retry_hint)

/-- A frame whose MIC holds updates the last-heard time unless its counter is not above the Dawn record (R138);
`defer`: it finds no place in the burst (R206, R229). -/
def State.dawnHeard (s : State) (addr ctr : Nat) (l : Bool) (ch : Nat) (defer : Bool) : State :=
  match s.ml.connAny addr with
  | none => s
  | some (k, _) =>
    let old := (Tbl.get? s.tp.dawn k).map (·.ctr)
    if old.any fun o => decide (ctr ≤ o) then s.heardU addr l ch false defer
    else { s with tp := { s.tp with dawn := Tbl.put s.tp.dawn k { ctr := ctr } } }.heardU addr l ch true defer

/-- The receipt of Dawn: DEFER in the burst, or in the next D slot beyond its width (R137). -/
def State.dawnReceipt (s : State) (f : RxFrame) (h : Hdr) : State :=
  let ch := s.cellIndex f
  let r := s.receiptFor f h.src true h.ctr 2 (signedN 8 s.dawnHint)
  if s.placeOpen false ch h.src then s.takePlace r else s.oweDefer r

/-- One frame that Dawn service received. -/
def State.dawnIn (s : State) (f : RxFrame) : State :=
  if f.truncated then s.count F.MSH_RX_DROP_truncated
  else if !f.fcsGood then s.count F.MSH_RX_ERR_fcs_err
  else if (hdrOf f.psdu).type == 5 then s
  else if !headerGood f.psdu then s.count F.MSH_RX_ERR_fcs_err
  else
    let h := hdrOf f.psdu
    if s.listens && h.src == 0 && h.sec then s.heardLead f h
    else if h.dst ≠ 0 then s.count F.MSH_RX_ERR_other_dst
    else if h.type = 3 then s.count F.TPL_DAWN_DROP_join_ignored
    else
      let c := s.frameCheck h f.psdu
      let go (s : State) : State :=
        if s.ml.decided.contains h.src then s.count F.MSH_SEC_ERR3_same_slot
        else
          let ch := s.cellIndex f
          let s := s.decide1 h.src
          if s.listens then s.dawnHeard h.src h.ctr false ch false
          else (s.dawnReceipt f h).dawnHeard h.src h.ctr false ch (!s.placeOpen false ch h.src)
      match c with
      | .new _ => go s
      | .dup _ => go s
      | .badMic => (s.secFail .badMic h.src).count F.TPL_DAWN_DROP_mic_fail
      | c => s.secFail c h.src

/-- DAWN_FRAME: the first delivered frame in decision order, in Dawn. -/
def State.dawnFrame (s : State) : State :=
  match s.firstFrame with
  | some f => if s.decides && s.pw.mode == .dawn && s.flag F.TPL_STAT_dawn_active && !s.tp.reload then (s.takeFrame f).dawnIn f else s
  | none => s

/-! ## Meanings -/

/-- FRAME_DECISION (R204 to R206, R278 to R280). -/
def execFrameDecision (t : Nat) (mirrorFail : Bool) (s : State) : Host.Outcome State Fault Refusal :=
  run t s fun s => s.frameDecision mirrorFail

/-- DAWN_FRAME (R137, R138). -/
def execDawnFrame (t : Nat) (s : State) : Host.Outcome State Fault Refusal := run t s State.dawnFrame

end Sys2Proof.Machine
end

