-- ==== Sys2Proof/Machine/MeshTx.lean ====
section
/-!
DEFINITION. Sys2Proof/Machine/MeshTx.lean: what the link layer sends (07_mesh_link, R197 to R215; R235, R236, R242,
R249, R256, R287, R444, R454): the receipt burst, the carriers of a D slot in their order of precedence, node
receipts, and the work of a slot boundary.
-/

namespace Sys2Proof.Machine

/-! ## Cells and carriers -/

/-- The profile of a cell: on S its demodulator's, on L O-QPSK, coded 3 (R194, R228). -/
def State.cellProfile (s : State) (l : Bool) (ch : Nat) : Option Nat := if l then some 3 else s.demodProfile ch

/-- The channel that Radio S tunes for a cell's channel index. -/
def State.physChannel (s : State) (l : Bool) (ch : Nat) : Option Nat := if l then some ch else s.demodChannel ch

/-- The radio can send on a cell in this slot; no carrier is planned for a calibration slot (R181). -/
def State.canSend (s : State) (l : Bool) (ch : Nat) : Bool :=
  if l then s.lServes ch
  else s.sServes && s.fld F.SRX_STAT_cal == 0 && s.rs.tx.isNone && (s.demodProfile ch).isSome

/-- A carrier for a cell. -/
def State.carrier (s : State) (l : Bool) (ch preamble : Nat) (receipt : Bool) (psdu : Bytes) (what : TxWhat) : Carrier :=
  { ch := (s.physChannel l ch).getD ch, prof := (s.cellProfile l ch).getD 0, preamble := preamble, receipt := receipt,
    psdu := psdu, what := what }

/-- The plan of a D slot: carriers by radio, in the order chosen. -/
structure Plan where
  st : State
  cs : List (Bool × Nat × Carrier) := []

/-- The carriers of a radio. -/
def Plan.of (p : Plan) (l : Bool) : List Carrier := (p.cs.filter fun x => x.1 == l).map (·.2.2)

/-- The channel is not taken, and the radio's limits leave room (R167, R210, R318). -/
def Plan.room (p : Plan) (l : Bool) (ch : Nat) (receipt : Bool) : Bool :=
  let mine := p.of l
  p.st.canSend l ch && (p.cs.all fun x => x.1 != l || x.2.1 != ch) && decide (mine.length < if l then 8 else 64) &&
    (receipt || decide ((mine.filter fun c => !c.receipt).length < if l then 8 else 16))

/-- Put a carrier into the plan. -/
def Plan.add (p : Plan) (st : State) (l : Bool) (ch : Nat) (c : Carrier) : Plan :=
  { st := st, cs := p.cs ++ [(l, ch, c)] }

/-- The sub-bands whose tokens do not allow one more carrier of steps 3 to 6 (R454). -/
def Plan.withheld (p : Plan) (l : Bool) (c : Carrier) : List Nat :=
  if l then []
  else (List.range 8).filter fun b =>
    p.st.io.inBand b c.ch && decide (p.st.airTokens b < p.st.io.charge (c :: p.of false) b)

/-- Downlink preamble in bits (R209). -/
def State.dlPreamble (s : State) : Nat := 8 * clamp 8 128 (s.eFld F.MSH_DL_CFG_dl_preamble)

/-- No secured frame can be sent now: the stall is counted once (R283, R504). -/
def State.noteStall (s : State) : State :=
  if s.canSecure || s.ms.stalled || s.ms.rec_.isNone then s
  else
    let s := ({ s with ms := { s.ms with stalled := true } }).count F.MSH_SEC_NOTICE_lease_stall
    if s.tw.leaseOut.isSome then (s.count F.TWN_LEASE_CNT_stall).twinEvent 4 s.tw.role 0 s.ms.ctr else s

/-! ## Step 1: beacons (R199, R210, R235, R236) -/

/-- `join_open` (R236). -/
def State.joinOpen (s : State) : Bool :=
  s.pw.mode == .full && !s.isShadow && s.flag F.MSH_JOIN_CFG_open && (Tbl.firstFree s.ml.conns 0 16384).isSome &&
    decide (s.pt.ctx.length < 131072) && s.freeAddr.isSome

/-- The payload of a beacon, 48 bytes. -/
def State.beacon (s : State) : Bytes :=
  let (nl, nm, na) := s.ml.next.getD (0, 0, 0)
  let beMin := min 10 (s.eFld F.MSH_CONT_BE_be_min)
  let beMax := max beMin (min 10 (s.eFld F.MSH_CONT_BE_be_max))
  let re := s.pw.mode == .full && !s.isShadow && s.flag F.MSH_JOIN_CFG_reattach_en
  let cfg (f : Fld) : Nat := s.eFld f
  toLE 5 s.ml.slot ++ toLE 1 s.ml.sfLen ++ toLE 5 s.ml.sfMap ++ toLE 1 nl ++ toLE 5 nm ++ toLE 5 na ++
    toLE 8 (s.io.contMask false) ++ toLE 1 (beMin + 16 * beMax) ++ toLE 1 (cfg F.MSH_BCN_CFG_root_ppm) ++ toLE 5 0 ++
    toLE 1 (s.joinOpen.toNat + 2 * re.toNat) ++ toLE 2 (s.fld F.MSH_NET_ID_net_id) ++ toLE 1 (s.joinWait % 16) ++
    toLE 1 (s.epoch?.getD 0) ++ toLE 2 (16384 - s.ml.conns.length) ++
    toLE 1 (cfg F.MSH_CIRC_CFG_ch0 + 64 * cfg F.MSH_CIRC_CFG_ch1_en) ++ toLE 1 (cfg F.MSH_CIRC_CFG_ch1) ++
    toLE 1 (max 1 (cfg F.MSH_CIRC_CFG_circ_every) + 16 * min 10 (cfg F.MSH_CIRC_CFG_circ_be)) ++
    toLE 1 (max 1 (cfg F.MSH_CIRC_CFG_circ_k))

/-- A broadcast frame under the group key; none without an epoch in force, a root or a counter value. -/
def State.sealBroadcast (s : State) (type : Nat) (payload : Bytes) : Option (Bytes × State) :=
  match s.epoch? with
  | none => none
  | some ep =>
    match s.groupKey ep with
    | none => none
    | some k =>
      if s.canSecure then
        let (c, s') := s.takeCtr
        some (sealFrame k type 0xFFFFFF c ep false false payload, s')
      else none

/-- A beacon on one channel. -/
def Plan.beaconOn (p : Plan) (l : Bool) (ch : Nat) : Plan :=
  if !p.room l ch false then p
  else match p.st.sealBroadcast 0 p.st.beacon with
    | some (f, s) => p.add s l ch (s.carrier l ch (8 * clamp 8 128 (s.eFld F.MSH_BCN_CFG_bcn_preamble)) false f .beacon)
    | none => { p with st := p.st.noteStall }

/-- Radio S calibrates in this slot, and what it was to send moves to the following D slot (R181). -/
def State.sCalSlot (s : State) : Bool := s.sServes && s.fld F.SRX_STAT_cal != 0

/-- The slot is one in which the slotframe places beacons (R210). -/
def State.beaconDue (s : State) : Bool := s.ml.dCount % max 1 (s.eFld F.MSH_BCN_CFG_bcn_every) == 0

/-- The beacon channels of a D slot. -/
def State.beaconChannels (s : State) : List (Bool × Nat) :=
  (if !s.beaconDue && !s.ml.bcnMoved then []
  else (List.range (s.eFld F.MSH_BCN_CFG_bcn_count + 1)).map fun n =>
    (false, bitsN (s.eFld F.MSH_BCN_CH_ch) (8 * n + 5) (8 * n))) ++
  (if s.beaconDue && s.eFlag F.MSH_BCN_CFG_bcn_l_en then [(true, s.eFld F.MSH_BCN_CFG_bcn_l_ch)] else [])

/-- Step 1. -/
def Plan.beacons (p : Plan) : Plan := p.st.beaconChannels.foldl (fun p x => p.beaconOn x.1 x.2) p

/-! ## Step 2: DEFER receipts (R206, R208) -/

/-- A downlink frame waits for an address, as the link layer's own frame or in a node queue behind it (R213). -/
def State.dlWaits (s : State) (addr : Nat) : Bool :=
  (s.ml.dl.any fun d => d.dst == addr) || (s.qm.queues.any fun q =>
    decide (q.1 < 0x20000) && !q.2.pkts.isEmpty && (match Tbl.get? s.pt.ctx q.1 with
      | some c => (s.path 6 c.addr).any fun p => p.getLastD 0 == addr
      | none => false))

/-- The carrier of a receipt. -/
def State.rcptCarrier (s : State) (r : Rcpt) (pend : Bool) : Carrier :=
  s.carrier r.l r.ch 32 true (r.psdu pend) (.receipt r.addr (r.status == 2))

/-- One DEFER receipt: it is placed, or lost; out of a calibration slot it moves to the following D slot (R181). -/
def Plan.deferOne (p : Plan) (r : Rcpt) : Plan :=
  if !r.l && p.st.sCalSlot then { p with st := { p.st with ml := { p.st.ml with owed := p.st.ml.owed ++ [r] } } }
  else if p.room r.l r.ch true then p.add p.st r.l r.ch (p.st.rcptCarrier r false)
  else { p with st := p.st.count F.MSH_DEFER_CNT_lost }

/-- Step 2. -/
def Plan.defers (p : Plan) : Plan :=
  let owed := p.st.ml.owed
  owed.foldl Plan.deferOne { p with st := { p.st with ml := { p.st.ml with owed := [] } } }

/-! ## Downlink frames (R212, R214, R249) -/

/-- The type of a downlink frame. -/
def DlKind.type : DlKind → Nat
  | .update => 2 | .close _ => 2 | .keepAlive => 4 | .notice => 4 | .data _ => 1 | .joinResp _ => 3

/-- The key and the plaintext of a downlink frame when it is first placed; a routed one takes a counter value for its
inner block too (R249, R276). -/
def State.framePlain (s : State) (d : DlFrame) (ep : Nat) : Option (Bytes × Bytes × State) :=
  let own := (s.nodeRec d.dst).bind fun n => s.keyOf n.eui ep
  match d.nh with
  | some nh =>
    let n := d.route.length
    let dest := d.route.getLastD 0
    let content := match d.kind with
      | .joinResp _ => d.payload ++ toLE 1 ep
      | _ => d.payload
    match own, s.keyOf d.eui ep with
    | some k, some ki =>
      let (c, s) := s.takeCtr
      some (k, toLE 1 nh ++ toLE 1 n ++ (d.route.map (toLE 3)).flatten ++ sealInner ki nh dest c ep content, s)
    | _, _ => none
  | none =>
    match d.kind with
    | .joinResp eui => (s.keyOf eui ep).map fun k => (k, d.payload ++ toLE 1 ep, s)
    | .data _ => own.map fun k => (k, toLE 1 0 ++ d.payload, s)
    | _ => own.map fun k => (k, d.payload, s)

/-- Encrypt a frame at its first placement (R212): it is stored as encrypted. -/
def State.sealDl (s : State) (d : DlFrame) (pend : Bool) : Option (DlFrame × State) :=
  match s.epoch? with
  | none => none
  | some ep =>
    if s.ms.ctr + 2 ≤ s.leaseUsable ∧ s.canSecure then
      match s.framePlain d ep with
      | some (k, plain, s') =>
        let (c, s') := s'.takeCtr
        some ({ d with psdu := sealFrame k d.kind.type d.dst c ep pend true plain, fc := c }, s')
      | none => none
    else none

/-- Another frame waits for the node of a frame (R214). -/
def State.moreFor (s : State) (d : DlFrame) : Bool :=
  (s.ml.dl.any fun x => x.dst == d.dst && x.id != d.id) || s.dlWaits d.dst && !(s.ml.dl.any fun x => x.id == d.id)

/-- A carrier of steps 3 to 6 fits the slot and its sub-bands; a withheld one is counted (R209, R454). -/
def Plan.fits (p : Plan) (l : Bool) (ch : Nat) (c : Carrier) : Bool × Plan :=
  if !p.room l ch false ∨ 18500000 < Carrier.dur c then (false, p)
  else match p.withheld l c with
    | [] => (true, p)
    | bs => (false, { p with st := p.st.each bs fun s b => s.count (F.QMS_AIR_CNT_withheld b) })

/-- Place a downlink frame on a cell; `pend` may be set in `pend_chain` consecutive frames (R214). -/
def Plan.place (p : Plan) (d : DlFrame) (l : Bool) (ch : Nat) (conn : Option (Nat × Conn)) : Plan :=
  let s := p.st
  let chain := match conn with
    | some (_, c) => (c.follow.map (·.2)).getD 0
    | none => 0
  let pend := conn.isSome && s.moreFor d && decide (chain < max 1 (s.eFld F.MSH_DL_CFG_pend_chain))
  match if d.psdu.isEmpty then s.sealDl d pend else some (d, s) with
  | none => { p with st := s.noteStall }
  | some (d', s') =>
    let c := s'.carrier l ch s'.dlPreamble false d'.psdu (.down d'.dst d'.id)
    let (ok, q) := p.fits l ch c
    if !ok then q
    else
      let old := s'.ml.dl.any fun x => x.id == d.id
      let s' := { s' with ml := if old then s'.ml.updDl d.id fun _ => d' else { s'.ml with dl := s'.ml.dl ++ [d'] } }
      p.add s' l ch c

/-- Place a frame of the link layer in its node's attended D cell; a join response in its window (R238, R242). -/
def Plan.placeOwn (p : Plan) (d : DlFrame) : Plan :=
  if d.waiting ∨ p.st.now < d.notBefore then p
  else match d.kind, d.nh with
    | .joinResp _, none => if d.window = 0 then p else p.place d d.l d.chan none
    | _, _ => match p.st.dCellOf d.dst with
      | some (k, c, ch) => p.place d c.radioL ch (some (k, c))
      | none => p

/-- Frames of the link layer of some kinds, those whose node gained a channel least recently first (R223). -/
def State.ownFrames (s : State) (f : DlFrame → Bool) : List DlFrame :=
  let gained (d : DlFrame) : Nat := match s.ml.connOf d.dst with
    | some (_, c) => c.gained
    | none => 0
  (s.ml.dl.filter f).mergeSort fun a b => decide (gained a ≤ gained b)

/-! ## Steps 3 to 5 -/

/-- Step 3: CONN_UPDATE, then CONN_CLOSE, then join and re-attach responses (R210, R238). -/
def Plan.commands (p : Plan) : Plan :=
  let go (f : DlFrame → Bool) (p : Plan) : Plan := (p.st.ownFrames f).foldl Plan.placeOwn p
  let p := go (fun d => d.kind == .update) p
  let p := go (fun d => match d.kind with
    | .close _ => true
    | _ => false) p
  go (fun d => match d.kind with
    | .joinResp _ => true
    | _ => false) p

/-- Of the nodes whose cells coincide on one channel, those that gained it least recently (R223). -/
def contest {α : Type} (cell : α → Option (Bool × Nat × Nat)) (xs : List α) : List α :=
  xs.filter fun x => match cell x with
    | some (l, ch, g) => xs.all fun y => match cell y with
      | some (l', ch', g') => l' != l || ch' != ch || decide (g ≤ g')
      | none => true
    | none => false

/-- A node's cell in this slot, and when the node last gained a channel. -/
def State.cellFor (s : State) (addr : Nat) : Option (Bool × Nat × Nat) :=
  (s.dCellOf addr).map fun x => (x.2.1.radioL, x.2.2, x.2.1.gained)

/-- No frame from the node within half its supervision timeout (R215). -/
def Conn.quiet (c : Conn) (now : Nat) : Bool := decide (c.heard + secNs c.par.timeout / 2 < now)

/-- A new frame of the link layer without a payload. -/
def State.emptyFrame (s : State) (kind : DlKind) (c : Conn) : DlFrame × State :=
  ({ id := s.ml.dlId, kind := kind, dst := c.addr, l := c.radioL, payload := [] },
    { s with ml := { s.ml with dlId := s.ml.dlId + 1 } })

/-- The node of a connection is to have an epoch notice (R287). -/
def State.noticeDue (s : State) (addr : Nat) : Bool :=
  s.flag F.MSH_SEC_CFG_notice_en && (s.ms.rec_.bind (·.prev)).isSome && !s.ms.noticed.contains addr &&
    match s.ctxOfAddr addr with
    | some (_, c) => !(c.rec_ && some c.ep == s.epoch?)
    | none => false

/-- One connection at step 4: an epoch notice, or a keep-alive where nothing is queued for the node. -/
def Plan.keepOne (p : Plan) (k : Nat) : Plan :=
  match Tbl.get? p.st.ml.conns k with
  | none => p
  | some c =>
    match p.st.dHere c with
    | none => p
    | some ch =>
      let s := p.st
      if s.noticeDue c.addr then
        let (d, s') := s.emptyFrame .notice c
        let q := { p with st := s' }.place d c.radioL ch (some (k, c))
        if q.cs.length = p.cs.length then q
        else
          { q with st := { q.st with ms := { q.st.ms with noticed := c.addr :: q.st.ms.noticed } } }
      else if c.quiet s.now && !s.dlWaits c.addr then
        let (d, s') := s.emptyFrame .keepAlive c
        { p with st := s' }.place d c.radioL ch (some (k, c))
      else p

/-- Step 4 in Full: where cells coincide, the node that gained its channel least recently goes first (R223). -/
def Plan.keepAlives (p : Plan) : Plan :=
  ((p.st.ml.conns.mergeSort fun a b => decide (a.2.gained ≤ b.2.gained)).map (·.1)).foldl Plan.keepOne p

/-- Step 5: retransmissions, in the order the frames were first sent (R444); of the nodes whose cells coincide, the one
that gained its channel least recently (R223). -/
def Plan.repeats (p : Plan) : Plan :=
  let own (d : DlFrame) : Bool := match d.kind with
    | .data _ => true
    | .keepAlive => true
    | .notice => true
    | _ => false
  (contest (fun d => p.st.cellFor d.dst)
    (p.st.ml.dl.filter fun d => own d && !d.waiting && decide (d.notBefore ≤ p.st.now))).foldl Plan.placeOwn p

/-! ## Step 6: circulars and node queues (R256, R444) -/

/-- D slots of the present second before this one. -/
def Ml.dIndex (m : Ml) : Nat := ((List.range (m.slot % 40)).filter fun i => m.isD (m.slot / 40 * 40 + i)).length

/-- The broadcast channels. -/
def State.circChannels (s : State) : List Nat :=
  s.eFld F.MSH_CIRC_CFG_ch0 :: (if s.eFlag F.MSH_CIRC_CFG_ch1_en then [s.eFld F.MSH_CIRC_CFG_ch1] else [])

/-- One copy of a circular on its channels. -/
def Plan.circOne (p : Plan) (c : Circ) : Plan :=
  let s := p.st
  match if c.psdu.isEmpty then s.sealBroadcast 6 c.payload else some (c.psdu, s) with
  | none => { p with st := s.noteStall }
  | some (f, s') =>
    let chans := if c.chans.isEmpty then s'.circChannels else c.chans
    let c' := { c with psdu := f, chans := chans }
    let s' := { s' with mn := { s'.mn with circs := s'.mn.circs.map fun x => if x.num = c.num then c' else x } }
    chans.foldl (fun p ch =>
      let x := p.st.carrier false ch p.st.dlPreamble false f (.circular c.num ch)
      let (ok, q) := p.fits false ch x
      if ok then q.add q.st false ch x else q) { p with st := s' }

/-- The circulars of a circular D slot. -/
def Plan.circulars (p : Plan) : Plan :=
  if p.st.ml.dIndex % max 1 (p.st.eFld F.MSH_CIRC_CFG_circ_every) ≠ 0 then p
  else p.st.mn.circs.foldl Plan.circOne p

/-- Length of the PSDU that a node queue's head packet takes (R448). -/
def State.meshLen (s : State) (n : Nat) : Nat :=
  match (s.queue n).pkts, Tbl.get? s.pt.ctx n with
  | q :: _, some c =>
    let deep := match s.path 6 c.addr with
      | some path => path.length - 1
      | none => 0
    23 + 1 + q.data.length + if deep = 0 then 0 else 1 + 3 * deep + 14
  | _, _ => 0

/-- A node queue can send now: its node's depth-1 ancestor attends a D cell here, on a channel not taken. -/
def Plan.ready (p : Plan) (l : Bool) (e : Nat) (s : State) (n : Nat) : Bool :=
  decide (n < 0x20000) && (s.queue n).pkts.head?.any (fun q => !q.spilled) && s.shaperOk e n && s.canSecure &&
    match (Tbl.get? s.pt.ctx n).bind fun c => s.routeTo c.addr with
    | some (_, _, c) => c.radioL == l && (match s.dHere c with
        | some ch => p.room l ch false &&
            (p.withheld l (s.carrier l ch s.dlPreamble false (List.replicate (s.meshLen n) 0#8) .test)).isEmpty
        | none => false)
    | none => false

/-- A node queue is offered: it can send, and no other that can has the same cell for a node that gained its channel less
recently (R223). -/
def Plan.elig (p : Plan) (l : Bool) (e : Nat) (s : State) (n : Nat) : Bool :=
  let gain (n : Nat) : Option (Nat × Nat) := ((Tbl.get? s.pt.ctx n).bind fun c => s.routeTo c.addr).bind fun x =>
    (s.dHere x.2.2).map fun ch => (ch, x.2.2.gained)
  p.ready l e s n && match gain n with
    | none => false
    | some (ch, g) => s.qm.queues.all fun q => match gain q.1 with
      | some (ch', g') => ch' != ch || decide (g ≤ g') || !p.ready l e s q.1
      | none => true

/-- The frame that a node queue's packet becomes. -/
def State.dataFrame (s : State) (n : Nat) (q : Packet) (path : List Nat) (conn : Conn) : DlFrame :=
  let eui := ((Tbl.get? s.pt.ctx n).map (·.eui)).getD 0
  { id := s.ml.dlId, kind := .data q.dgram, dst := conn.addr, l := conn.radioL, payload := q.data,
    nh := if path.length ≤ 1 then none else some 2, route := path.dropLast.reverse, eui := eui }

/-- New frames of one mesh egress point, one from each queue the schedulers choose (R442 to R444). -/
def Plan.newFrames (e : Nat) (l : Bool) : Nat → Plan → Plan
  | 0, p => p
  | fuel + 1, p =>
    match p.st.schedule e (fun s n => p.elig l e s n) (fun s n => s.meshLen n) with
    | none => p
    | some (_, n, s) =>
      match (Tbl.get? s.pt.ctx n).bind fun c => s.routeTo c.addr with
      | none => p
      | some (path, k, c) =>
        match s.dHere c, s.takeHead e n (s.meshLen n) with
        | some ch, some (q, s') =>
          let d := s'.dataFrame n q path c
          let s' := { s' with ml := { s'.ml with dlId := d.id + 1 } }
          let p' := { p with st := s' }.place d l ch (some (k, c))
          if p'.cs.length = p.cs.length then { p with st := p.st.noteStall } else Plan.newFrames e l fuel p'
        | _, _ => p

/-- Carriers that were withheld for their sub-band's tokens are counted once each (R454). -/
def Plan.countWithheld (p : Plan) : Plan :=
  let s := p.st
  let held := (s.qm.queues.filter fun q => decide (q.1 < 0x20000) && !q.2.pkts.isEmpty).filterMap fun q =>
    match (Tbl.get? s.pt.ctx q.1).bind fun c => s.routeTo c.addr with
    | some (_, _, c) =>
      match s.dHere c with
      | some ch =>
        if !c.radioL ∧ p.room false ch false ∧ s.shaperOk 4 q.1 then
          some (p.withheld false (s.carrier false ch s.dlPreamble false (List.replicate (s.meshLen q.1) 0#8) .test))
        else none
      | none => none
    | none => none
  { p with st := s.each held.flatten fun s b => s.count (F.QMS_AIR_CNT_withheld b) }

/-! ## The D slot (R209, R210) -/

/-- Registers whose boundary is the next D slot. -/
def dRegs : List Nat :=
  [F.MSH_DL_CFG_dl_cca.off, F.MSH_BCN_CFG_bcn_every.off, F.MSH_BCN_CH_ch.off, F.MSH_JOIN_CFG_join_wait.off,
   F.MSH_CIRC_CFG_repeat.off, F.MSH_CONT_BE_be_min.off]

/-- A frame that has used its attempts is dropped when its slot ends, with its datagram (R212). -/
def State.dropSpent (s : State) : State :=
  let limit := 1 + max 1 (s.eFld F.MSH_DL_CFG_dl_retries)
  let spent (d : DlFrame) : Bool := decide (limit ≤ d.sent) && !d.waiting && match d.kind with
    | .joinResp _ => d.nh.isSome
    | _ => true
  let gone := s.ml.dl.filter spent
  let s := { s with ml := { s.ml with dl := s.ml.dl.filter fun d => !spent d } }
  let s := s.each gone fun s d => match d.kind with
    | .close _ => s.freeConn ((s.ml.connAny d.dst).map (·.1) |>.getD 16384)
    | _ => s
  (s.count F.MSH_DL_CNT_dropped gone.length).updatePool

/-- The transmit request of a D slot for Radio S, and the carriers for Radio L. -/
def Plan.issue (p : Plan) : State :=
  let s := p.st
  let start := s.ml.slotAt + 2000000
  let s := { s with ml := { s.ml with planned := true, bcnMoved := s.sCalSlot && (s.beaconDue || s.ml.bcnMoved) } }
  let s := match p.of true with
    | [] => s
    | cs => { s with lh := { s.lh with mesh := some (start, cs) } }
  match p.of false with
  | [] => s
  | cs => s.txRequest
      { start := start, deadline := start, endLimit := s.ml.slotAt + 20500000, cca := s.eFlag F.MSH_DL_CFG_dl_cca,
        burst := false, carriers := cs }

/-- Notices to deeper nodes go to their queues as empty routed downlinks (R287). -/
def State.deepNotices (s : State) : State :=
  s.each s.pt.ctx fun s x =>
    let deep : Bool := match Tbl.get? s.pt.route x.2.addr with
      | some r => r.parent != 0
      | none => false
    if deep && s.noticeDue x.2.addr then
      let q : Packet := { src := .ctrl, data := [], cells := 1, charge := .control }
      { s with ms := { s.ms with noticed := x.2.addr :: s.ms.noticed } }.enqueue x.1 [q]
    else s

/-- Dawn's keep-alives: at most 16, the connection longest unheard first (R136); where cells coincide, the node that
gained its channel least recently (R223). -/
def Plan.dawnKeep (p : Plan) : Plan :=
  let due := (contest (fun x => (p.st.dHere x.2).map fun ch => (false, ch, x.2.gained))
    (p.st.ml.conns.filter fun x => x.2.quiet p.st.now && !x.2.radioL)).mergeSort fun a b => decide (a.2.heard ≤ b.2.heard)
  (due.take 16).foldl (fun p x =>
    match p.st.dHere x.2 with
    | none => p
    | some ch =>
      let (d, s) := p.st.emptyFrame .keepAlive x.2
      match s.sealDl d false with
      | none => { p with st := s.noteStall }
      | some (d', s') =>
        let c := s'.carrier false ch s'.dlPreamble false d'.psdu (.keepAlive x.2.addr)
        let (ok, q) := p.fits false ch c
        if ok then p.add s' false ch c else q) p

/-- The plan of the slot under way, by mode. -/
def State.planD (s : State) : Plan :=
  let b := Plan.beacons { st := s }
  let p := if s.tp.reload then b else Plan.defers b
  match s.pw.mode with
  | .full =>
    let p := p.commands.keepAlives.repeats.circulars
    let p := Plan.newFrames 4 false 64 p
    (Plan.newFrames 5 true 8 p).countWithheld
  | .dawn => if s.tp.reload then p else p.dawnKeep
  | _ => p

/-- The mesh transmits in this mode and role. -/
def State.meshSends (s : State) : Bool :=
  s.flag F.MSH_STAT_running && !s.isShadow && s.pllA &&
    (s.pw.mode == .full || s.pw.mode == .doze || (s.pw.mode == .dawn && s.flag F.TPL_STAT_dawn_active))

/-- D_SLOT_TX: once in each D slot (R209, R210). -/
def State.dSlotTx (s : State) : State :=
  if !s.meshSends || !s.ml.isD s.ml.slot || s.ml.planned then s
  else
    let s := s.latchRegs dRegs
    if s.pw.mode == .full then s.deepNotices.planD.issue else s.planD.issue

/-! ## The receipt burst (R206, R207, R213) -/

/-- Set `pend` in the receipts of nodes for which a downlink frame waits. -/
def State.burstCarriers (s : State) : List (Bool × Carrier) :=
  s.ml.places.map fun r => (r.l, s.rcptCarrier r (s.dlWaits r.addr && s.pw.mode == .full))

/-- A receipt with `pend` makes its node attend the D cell (R213). -/
def State.pendMarks (s : State) : State :=
  s.each s.ml.places fun s r =>
    if s.dlWaits r.addr && s.pw.mode == .full then s.updConnOf r.addr fun c => { c with pendSent := true } else s

/-- RECEIPT_BURST (R207). -/
def State.receiptBurst (s : State) : State :=
  if !s.meshSends || s.ml.isD s.ml.slot || s.ml.planned || s.tp.reload then s
  else
    let cs := s.burstCarriers
    let start := s.ml.slotAt + 20900000
    let s := { s.pendMarks with ml := { s.pendMarks.ml with planned := true } }
    let s := match (cs.filter (·.1)).map (·.2) with
      | [] => s
      | l => { s with lh := { s.lh with mesh := some (start, l) } }
    match (cs.filter fun c => !c.1).map (·.2) with
    | [] => s
    | l => s.txRequest
        { start := start, deadline := start, endLimit := s.ml.slotAt + 24952000, cca := false, burst := true,
          carriers := l }

/-! ## Node receipts (R211, R234) -/

/-- A node receipt matches a frame that waits for one. -/
def rcptMatches (p : Bytes) (d : DlFrame) : Bool :=
  let who := if d.kind.type = 3 then (d.payload.le 2 3) else d.dst
  d.waiting && (p.le 1 3 == who || p.le 1 3 == d.dst) && p.le 4 2 == d.fc % 65536 &&
    p.le 6 1 == d.psdu.le (d.psdu.length - 3) 1

/-- Every valid node receipt sets the node's last-heard time (R220). -/
def State.rcptHeard (s : State) (addr : Nat) : State :=
  (s.updConnOf addr fun c => { c with heard := s.now }).heardCtx addr

/-- Delivery is confirmed. -/
def State.confirmed (s : State) (d : DlFrame) : State :=
  let s := { s with ml := { s.ml with dl := s.ml.dl.filter fun x => x.id != d.id } }
  let s := (s.count F.MSH_DL_SENT_sent).rcptHeard d.dst
  match d.kind with
  | .close _ => s.freeConn ((s.ml.connAny d.dst).map (·.1) |>.getD 16384)
  | _ => s.updatePool

/-- One node receipt: ACK and DUP confirm, DEFER keeps the frame for the retry hint without counting the attempt. -/
def State.nodeReceipt (s : State) (f : RxFrame) : State :=
  let p : Bytes := f.psdu
  let inWin := decide (s.ml.slotAt + 20700000 ≤ f.sfdEnd) && decide (f.sfdEnd ≤ s.ml.slotAt + 24950000)
  if f.truncated then s
  else if !f.fcsGood then s.count F.MSH_RX_ERR_fcs_err
  else if p.length != 12 || p.le 0 1 % 16 != 5 || !inWin then s
  else match s.ml.dl.find? (rcptMatches p) with
    | none => s
    | some d =>
      let st := p.le 7 1 % 4
      if st = 0 ∨ st = 1 then s.confirmed d
      else if st = 2 then
        { s with ml := s.ml.updDl d.id fun d =>
            { d with waiting := false, sent := d.sent - 1, notBefore := s.now + secNs (p.le 9 1) } }.rcptHeard d.dst
      else s

/-- NODE_RECEIPT: the oldest frame that the node-receipt window delivered. -/
def State.nodeReceipts (s : State) : State :=
  match s.rs.rx with
  | [] => s
  | f :: rest =>
    if s.isShadow || !s.ml.isD s.ml.slot then s
    else { s with rs := { s.rs with rx := rest } }.nodeReceipt f

/-! ## The slot boundary (R190, R191, R193, R206, R242) -/

/-- Connections whose node was deferred and whose U cell lies in the new slot have a place reserved, one on a channel
(R206). -/
def State.reservePlaces (s : State) : State :=
  let mine (l : Bool) : List (Bool × Nat) :=
    let cs := (s.ml.conns.filter fun p => p.2.radioL == l && p.2.deferred).filterMap fun p =>
      (s.uHere p.2).map fun ch => (ch, p.2.addr)
    let one := cs.foldl (fun (xs : List (Nat × Nat)) c => if xs.any fun x => x.1 == c.1 then xs else xs ++ [c]) []
    (one.take (s.burstWidth l)).map fun c => (l, c.2)
  { s with ml := { s.ml with reserved := mine false ++ mine true } }

/-- What the link layer leaves behind at a boundary: receipts not awaited any longer, join windows that have passed a
D slot, follow-on slots not used. -/
def Ml.leaveSlot (m : Ml) : Ml :=
  let d := m.isD m.slot
  { m with
    dl := (m.dl.map fun x => { x with waiting := false, window := if d then x.window - 1 else x.window }).filter fun x =>
      !(match x.kind with
        | .joinResp _ => x.nh.isNone && x.window == 0
        | _ => false)
    conns := if d then m.conns.map fun p => (p.1, if m.planned && p.2.gained == m.slot then p.2 else { p.2 with follow := none })
      else m.conns
    places := [], decided := [], reserved := [], planned := false, recs := [], dCount := if d then m.dCount + 1 else m.dCount }

/-- Requests that wait for admission, or for the host, see their window pass. -/
def Mn.leaveSlot (m : Mn) (d : Bool) : Mn :=
  if !d then m
  else
    { m with
      joins := m.joins.map fun r => { r with window := r.window - 1 }
      pend := m.pend.map fun p => { p with req := { p.req with window := p.req.window - 1 } } }

/-- The mesh's part of a slot boundary: the slot number advances, or is adopted (R191, R500); settings take effect;
places are reserved. -/
def State.meshSlot (s : State) : State :=
  let d := s.ml.isD s.ml.slot
  let s := { s with ml := s.ml.leaveSlot, mn := s.mn.leaveSlot d, rs := { s.rs with rx := [] } }
  let s := if s.pw.mode == .full then s.dropSpent else s
  let s := match s.tw.adopt with
    | some n =>
      let delta : Int := (n : Int) - (s.ml.slot + 1 : Nat)
      let conns := s.ml.conns.map fun (p : Nat × Conn) =>
        let shift (a : Nat) : Nat := ((a : Int) + delta).toNat
        (p.1, { p.2 with
          par := { p.2.par with anchor := shift p.2.par.anchor }, cur := p.2.cur.map (fun (x : Nat × Nat) => (shift x.1, x.2))
          upd := p.2.upd.map (fun (u : ConnPar) => { u with anchor := shift u.anchor }) })
      let s := { s with
        ml := { s.ml with slot := n % 2 ^ 40, slotAt := s.now, conns := conns }, tw := { s.tw with adopt := none } }
      s.twinEvent 9 s.tw.role 0 0
    | none => { s with ml := { s.ml with slot := (s.ml.slot + 1) % 2 ^ 40, slotAt := s.now } }
  let s := s.sfActivate.meshService
  let s := s.setFld F.MSH_STAT_slot_type (s.ml.isD s.ml.slot).toNat
  let s := if s.ml.isD s.ml.slot then s.latchRegs dRegs else s.latchRegs [F.MSH_RCPT_CFG_burst_width.off]
  let s := (s.latchRegs [F.MSH_CONT_BE_be_min.off]).srxSlotLatch.airRefill
  if s.ml.isD s.ml.slot then s else s.reservePlaces

/-! ## Meanings -/

/-- RECEIPT_BURST (R206, R207, R213). -/
def execReceiptBurst (t : Nat) (s : State) : Host.Outcome State Fault Refusal := run t s State.receiptBurst

/-- D_SLOT_TX (R209, R210, R212 to R215, R256, R444, R454; R136 in Dawn). -/
def execDSlotTx (t : Nat) (s : State) : Host.Outcome State Fault Refusal := run t s State.dSlotTx

/-- NODE_RECEIPT (R211, R212, R234). -/
def execNodeReceipt (t : Nat) (s : State) : Host.Outcome State Fault Refusal := run t s State.nodeReceipts

end Sys2Proof.Machine
end

