-- ==== Sys2Proof/Machine/Pct.lean ====
section
/-!
DEFINITION. Sys2Proof/Machine/Pct.lean: the table commands PCT_WRITE to PCT_FLUSH, hardware learning, the Round,
table errors and the digest scan (13_postcode_tables).
-/

namespace Sys2Proof.Machine

/-! ## Keys and records -/

/-- A destination code is valid (R371). -/
def destOk (d : Nat) : Bool :=
  let lo := d % 4096
  match d / 4096 with
  | 0 => decide (lo < 2)
  | 1 => decide (lo < 1024)
  | 2 => decide (lo < 64)
  | k => decide (k < 6) && lo == 0

/-- The key of a record of a table (R399). -/
def recKey (table : Nat) (b : Bytes) : Nat :=
  match table with
  | 0 => b.le 0 8
  | 1 => b.le 0 3
  | 2 => b.le 0 8
  | 3 => b.le 6 2 % 4096 * 2 ^ 48 + b.be 0 6
  | 4 => b.le 17 1 % 2 * 2 ^ 128 + b.be 0 16
  | _ => (b.le 17 1 % 2 * 256 + b.le 16 1) * 2 ^ 128 + b.be 0 16

/-- The key fields of a record are in range: reserved bits 0, an IPv4 address in bytes 12 to 15, `len` in range and
no prefix bits beyond it (R372, R373). -/
def recKeyOk (table : Nat) (b : Bytes) : Bool :=
  if table = 3 then decide (b.le 6 2 < 4096)
  else
    let v4 : Bool := b.le 17 1 % 2 == 1
    let len := b.le 16 1
    let a := b.be 0 16
    let full := if v4 then 32 else 128
    (!v4 || decide (a < 2 ^ 32)) && b.le 17 1 / 2 % 64 == 0 &&
      (if table = 4 then len == 0 else decide (len ≤ full) && a % 2 ^ (full - len) == 0)

/-- The reserved fields outside the key are 0. -/
def recRsvOk (table : Nat) (b : Bytes) : Bool :=
  if table = 3 then b.le 10 1 / 8 % 8 == 0 && Bytes.zero (Bytes.slice b 11 35)
  else decide (b.le 26 2 < 4096) && Bytes.zero (Bytes.slice b 28 18)

/-- The destination code of a record. -/
def recDest (table : Nat) (b : Bytes) : Nat := if table = 3 then b.le 8 2 else b.le 18 2

/-- An entry of the key is present. -/
def Pt.has (p : Pt) (table key : Nat) : Bool :=
  match table with
  | 3 => (Tbl.get? p.mac key).isSome
  | 4 => (Tbl.get? p.host key).isSome
  | _ => (Tbl.get? p.lpm key).isSome

/-- Make room for a key in table 3, 4 or 5; a present key needs none. -/
def Pt.place? (p : Pt) (table key : Nat) : Option Pt :=
  if p.has table key then some p
  else if table = 5 then
    if 4096 ≤ p.lpm.length || Config.lpmPoolShort (Tbl.keys p.lpm) key then none else some p
  else p.room table key

/-- Write the entry of a record (R403): `hit` 1, `strike` 0. -/
def Pt.setRec (p : Pt) (table key : Nat) (b : Bytes) : Pt :=
  if table = 3 then
    let f := b.le 10 1
    let e : MacEnt := { dest := b.le 8 2, static_ := bitN f 0, sticky := bitN f 1, discardSrc := bitN f 2 }
    { p with mac := Tbl.put p.mac key e }
  else
    let e : IpEnt := { dest := b.le 18 2, nextHop := b.be 20 6, vlan := b.le 26 2 }
    if table = 4 then { p with host := Tbl.put p.host key e } else { p with lpm := Tbl.put p.lpm key e }

/-- Delete the entry of a key. -/
def Pt.delRec (p : Pt) (table key : Nat) : Pt :=
  match table with
  | 3 => { p with mac := Tbl.del p.mac key, macGrace := p.macGrace.filter (· != key) }.unplace 3 key
  | 4 => { p with host := Tbl.del p.host key }.unplace 4 key
  | _ => { p with lpm := Tbl.del p.lpm key }

/-- PCT_WRITE on one record (R403). -/
def State.pctWrite (s : State) (table : Nat) (b : Bytes) : BlockReply :=
  let bad (st : Nat) : BlockReply := { status := st, st := s }
  let op := b.le 46 1
  if table < 3 ∨ 5 < table ∨ 1 < op ∨ !recKeyOk table b ∨ !recRsvOk table b then bad stBAD_ARG
  else
    let key := recKey table b
    if op = 1 then
      if s.pt.has table key then
        { status := stOK, st := ({ s with pt := s.pt.delRec table key }).seqNext table }
      else bad stBAD_ARG
    else if !destOk (recDest table b) then bad stBAD_ARG
    else match s.pt.place? table key with
      | none => bad stNO_ROOM
      | some pt => { status := stOK, st := ({ s with pt := pt.setRec table key b }).seqNext table }

/-- The record of a key, bytes 0 to 45. -/
def State.recordOf (s : State) (table key : Nat) : Option Bytes :=
  match table with
  | 0 => (s.ctxOfEui key).map fun (p : Nat × Ctx) => p.2.record p.1
  | 1 => (Tbl.get? s.pt.route key).map fun r => r.record key
  | 2 => (Tbl.get? s.pt.ident key).map fun n => identRecord key n
  | 3 => (Tbl.get? s.pt.mac key).map fun e => e.record key
  | 4 => (Tbl.get? s.pt.host key).map fun e => e.record (key % 2 ^ 128) 0 (decide (2 ^ 128 ≤ key)) true
  | 5 => (Tbl.get? s.pt.lpm key).map fun e =>
      e.record (key % 2 ^ 128) (key / 2 ^ 128 % 256) (decide (256 * 2 ^ 128 ≤ key)) false
  | _ => none

/-- PCT_READ on one record (R403). -/
def State.pctRead (s : State) (table : Nat) (b : Bytes) : BlockReply :=
  let clean : Bool := match table with
    | 3 => decide (b.le 6 2 < 4096)
    | 4 => b.le 16 1 == 0
    | _ => true
  match (if clean then s.recordOf table (recKey table b) else none) with
  | some r => { status := stOK, st := s, writes := [(0, r)] }
  | none => { status := stBAD_ARG, st := s }

/-! ## PCT_DUMP, PCT_AUDIT, PCT_FLUSH (R404 to R406) -/

/-- The records of a segment of a table. -/
def Pt.segment (p : Pt) (table seg : Nat) : List Bytes := (p.records table).filter fun r => segOf table r == seg

/-- The records dumped from a segment on, and the next segment. -/
def Pt.dumpFrom (p : Pt) (table max : Nat) : Nat → Nat → List Bytes → List Bytes × Nat
  | 0, _, acc => (acc, 0x1000)
  | k + 1, seg, acc =>
    let l := p.segment table seg
    if max < acc.length + l.length then (acc, seg) else p.dumpFrom table max k (seg + 1) (acc ++ l)

/-- A command that runs in the background: its operands are kept under a fresh key. -/
def State.pctJob (s : State) (operands : List Nat) : Reply :=
  let k := s.pt.jobKey + 1
  Reply.defer { s with pt := { s.pt with jobs := Tbl.put s.pt.jobs k operands, jobKey := k } } k

/-- PCT_DUMP is accepted (R404). -/
def State.pctDump (s : State) (c : Cmd) : Reply :=
  let max := c.f 8 2
  if c.f 0 8 % 32 ≠ 0 ∨ max = 0 ∨ 4096 < max ∨ 5 < c.f 10 1 ∨ 1 < c.f 11 1 ∨ 0xFFF < c.f 12 2 ∨ !c.zero 14 10 then
    Reply.err s stBAD_ARG
  else s.pctJob [c.f 0 8, max, c.f 10 1, c.f 11 1, c.f 12 2, c.wrFail.toNat]

/-- The result write of a DEFERRED command cannot be transmitted: its ring stops, without a completion (R473). -/
def State.finalWriteFails (s : State) (d : Dfr) : State :=
  let hf := { s.io.hf with deferred := s.io.hf.deferred.erase d }
  ({ s with io := { s.io with hf := hf } }).ringStops false d.sq 3

/-- PCT_DUMP_DONE (R404). -/
def State.pctDumpDone (s : State) : State :=
  match s.deferredOp 0x0403 with
  | none => s
  | some d =>
    let job := Tbl.getD s.pt.jobs d.key []
    let s := { s with pt := { s.pt with jobs := Tbl.del s.pt.jobs d.key } }
    match job with
    | [addr, max, table, all, seg, wrFail] =>
      let r := s.pt.dumpFrom table max (if all = 1 then 4096 - seg else 1) seg []
      let first := s.pt.segment table seg
      if max < first.length then s.finish d stNO_ROOM
      else if wrFail = 1 then s.finalWriteFails d
      else
        let next := if all = 1 then r.2 else seg + 1
        let seq := s.fld (F.PCT_SEQ_seq table)
        let head := toLE 4 r.1.length ++ toLE 2 (if next = 4096 then 0x1000 else next) ++ toLE 4 seq ++ toLE 4 seq ++ toLE 2 0
        let recs := (r.1.map fun b => b ++ toLE 2 0).flatten
        ({ s with io := s.io.writes [(addr, head ++ recs)] }).finish d stOK
    | _ => s.finish d stOK

/-- A segment is dirty. -/
def Pt.isDirty (p : Pt) (table seg : Nat) : Bool := p.dirty.contains (table * 4096 + seg)

/-- The dirty bitmap of a table, 512 bytes. -/
def Pt.dirtyMap (p : Pt) (table : Nat) : Bytes :=
  (List.range 512).map fun i =>
    BitVec.ofNat 8 (((List.range 8).map fun k => if p.isDirty table (8 * i + k) then 2 ^ k else 0).sum)

/-- The buffer of PCT_AUDIT (R405). -/
def State.auditBytes (s : State) (table : Nat) : Bytes :=
  let dirty := (s.pt.dirty.filter fun k => k / 4096 == table).length
  toLE 4 (s.fld (F.PCT_SEQ_seq table)) ++ toLE 2 dirty ++ toLE 2 0 ++
    ((List.range 4096).map fun g => toLE 8 (if s.pt.isDirty table g then 0 else s.pt.digest table g)).flatten ++
    s.pt.dirtyMap table

/-- PCT_AUDIT (R405). -/
def State.pctAudit (s : State) (c : Cmd) : Reply :=
  if c.f 0 8 % 32 ≠ 0 ∨ 5 < c.f 10 1 ∨ !c.zero 8 2 ∨ !c.zero 11 13 then Reply.err s stBAD_ARG
  else Reply.ok s [(c.f 0 8, s.auditBytes (c.f 10 1))]

/-- PCT_FLUSH is accepted (R406). -/
def State.pctFlush (s : State) (c : Cmd) : Reply :=
  if 7 < c.f 0 1 ∨ c.f 10 1 ≠ 3 ∨ !c.zero 1 1 ∨ !c.zero 6 4 ∨ !c.zero 11 13 then Reply.err s stBAD_ARG
  else s.pctJob [c.f 0 1, c.f 2 2, c.f 4 2]

/-- Remove Ethernet MAC entries by key, each with its sequence number and, where a cause is given, its change
record. -/
def State.macRemove (s : State) (keys : List Nat) (cause : Option Nat) : State :=
  s.each keys fun s k =>
    ({ s with pt := s.pt.delRec 3 k }).changed 3 2 cause 0 (toBE 6 (k % 2 ^ 48) ++ toLE 2 (k / 2 ^ 48))

/-- The entries that PCT_FLUSH matches. -/
def Pt.flushKeys (p : Pt) (flags fid dest : Nat) : List Nat :=
  Tbl.keys (p.mac.filter fun e => (!bitN flags 0 || e.1 / 2 ^ 48 == fid) && (!bitN flags 1 || e.2.dest == dest) &&
    (bitN flags 2 || !e.2.static_))

/-- PCT_FLUSH_DONE (R406). -/
def State.pctFlushDone (s : State) : State :=
  match s.deferredOp 0x0405 with
  | none => s
  | some d =>
    let job := Tbl.getD s.pt.jobs d.key []
    let s := { s with pt := { s.pt with jobs := Tbl.del s.pt.jobs d.key } }
    match job with
    | [flags, fid, dest] => (s.macRemove (s.pt.flushKeys flags fid dest) none).finish d stOK
    | _ => s.finish d stOK

/-- The dynamic and sticky entries that name a destination are removed, each with a change record (R391). -/
def State.macForget (s : State) (dest : Nat) : State :=
  s.macRemove (Tbl.keys (s.pt.mac.filter fun e => e.2.dest == dest && !e.2.static_)) (some 4)

/-! ## Learning (R388, R389) -/

/-- Learning is active: Full, as Lead or Solo. -/
def State.learnOn (s : State) : Bool := s.inFull && !s.isShadow

/-- A learning request is made and queued. -/
def State.learnAsk (s : State) (key dest : Nat) : State :=
  if s.pt.learn.length < 256 then
    { s with pt := { s.pt with learn := s.pt.learn ++ [{ key := key, dest := dest }] } }
  else s.count F.PCT_LEARN_ERR2_queue_drop

/-- The table of R388 for one request. -/
def State.learn1 (s : State) (q : Learn) : State :=
  let key := toBE 6 (q.key % 2 ^ 48) ++ toLE 2 (q.key / 2 ^ 48)
  if bitN (q.key % 2 ^ 48 / 2 ^ 40) 0 then s
  else match Tbl.get? s.pt.mac q.key with
    | some e =>
      if e.discardSrc then s
      else if e.dest = q.dest then
        { s with pt := { s.pt with mac := Tbl.put s.pt.mac q.key { e with hit := true } } }
      else if e.static_ || e.sticky then s.count F.PCT_LEARN_ERR_static_conflict
      else
        let e' := { e with dest := q.dest, hit := true, strike := false }
        let s := { s with pt := { s.pt with mac := Tbl.put s.pt.mac q.key e' } }
        (s.changed 3 1 (some 0) q.dest key).count F.PCT_LEARN_CNT_moves
    | none =>
      let max := min 65536 (s.eFld F.PCT_LEARN_CFG_learn_max)
      if max ≤ (s.pt.mac.filter fun e => !e.2.static_).length then s.count F.PCT_LEARN_ERR2_capped
      else match s.pt.room 3 q.key with
        | some pt =>
          let s := { s with pt := { pt with mac := Tbl.put pt.mac q.key { dest := q.dest } } }
          (s.changed 3 0 (some 0) q.dest key).count F.PCT_LEARN_CNT_learned
        | none =>
          ({ s with pt := { s.pt with learnFail := s.pt.learnFail + 1 } }).count F.PCT_LEARN_ERR_fail

/-- LEARN_UPDATE: the oldest request reaches the update port. -/
def State.learnUpdate (s : State) : State :=
  match s.pt.learn with
  | [] => s
  | q :: qs =>
    let s := { s with pt := { s.pt with learn := qs } }
    if s.learnOn then (s.latchRegs [0x300004]).learn1 q else s

/-- LEARN_FAIL_RECORD: at most one record each second (R389). -/
def State.learnFailRecord (s : State) : State :=
  let due : Bool := match s.pt.failAt with
    | some a => decide (a + secNs 1 ≤ s.now)
    | none => true
  if s.pt.learnFail = 0 || !due then s
  else
    let s := s.tableEvent 3 3 0 0 0 (toLE 4 s.pt.learnFail ++ toLE 4 0)
    { s with pt := { s.pt with learnFail := 0, failAt := some s.now } }

/-! ## The Round (R392 to R397, R401, R402) -/

/-- Slots of the Ethernet MAC table that a sweep visits: the buckets', then the stash. -/
def macSlots : Nat := 73728 + 64

/-- The Round runs: in Full, with the tables ready. -/
def State.roundRuns (s : State) : Bool := s.inFull

/-- The periods in effect, ns. -/
def State.macPeriod (s : State) : Nat := secNs (max 1 (s.eFld F.PCT_ROUND_CFG_mac_period_s))
def State.nodePeriod (s : State) : Nat := secNs (3600 * max 1 (s.eFld F.PCT_ROUND_CFG_node_period_h))

/-- One visit to a MAC entry; `hitNow`: a hit is set in the cycle of the removal write (R395). -/
def State.visitMac (s : State) (key : Nat) (hitNow : Bool) : State :=
  match Tbl.get? s.pt.mac key with
  | none => s
  | some e =>
    let set (e : MacEnt) : State :=
      { s with pt := { s.pt with mac := Tbl.put s.pt.mac key e, macGrace := s.pt.macGrace.erase key } }
    if e.static_ then s
    else if e.hit || s.pt.macGrace.contains key then set { e with hit := false, strike := false }
    else if !e.strike then set { e with strike := true }
    else if s.isShadow then s
    else if hitNow then (set { e with hit := true }).count F.PCT_ROUND_SAVED_saved
    else (s.macRemove [key] (some 1)).count F.PCT_ROUND_CNT_mac_aged

/-- A context is exempt from ageing (R394). -/
def State.ageExempt (s : State) (c : Ctx) : Bool :=
  c.deny || c.addr == 0 || c.conn.isSome || (match Tbl.get? s.pt.route c.addr with
    | some r => decide (0 < r.children)
    | none => false)

/-- One visit to a node context. -/
def State.visitNode (s : State) (n : Nat) (hitNow : Bool) : State :=
  match Tbl.get? s.pt.ctx n with
  | none => s
  | some c =>
    let set (c : Ctx) : State :=
      { s with pt := { s.pt with ctx := Tbl.put s.pt.ctx n c, nodeGrace := s.pt.nodeGrace.erase n } }
    if c.hit || s.pt.nodeGrace.contains n || s.ageExempt c then set { c with hit := false, strike := false }
    else if !c.strike then set { c with strike := true }
    else if s.isShadow then s
    else if hitNow then (set { c with hit := true }).count F.PCT_ROUND_SAVED_saved
    else (s.removeCtx n (some 1)).count F.PCT_ROUND_CNT_node_aged

/-- The key in a slot of the MAC table. -/
def Place.keyAt (p : Place) (buckets slot : Nat) : Option Nat :=
  if slot < buckets then Tbl.get? p.slots slot else p.stash[slot - buckets]?

/-- ROUND_VISIT: the next slot of a sweep, once its interval has passed (R392). -/
def State.roundVisit (s : State) (node hitNow : Bool) : State :=
  if !s.roundRuns then s
  else
    let s := s.latchRegs [0x300008]
    let slots := if node then 131072 else macSlots
    let period := if node then s.nodePeriod else s.macPeriod
    let last := if node then s.pt.nodeAt else s.pt.macAt
    if s.now < last + period / slots then s
    else
      let ptr := if node then s.pt.nodePtr else s.pt.macPtr
      let sweep := if node then s.pt.nodeSweep else s.pt.macSweep
      let s := if sweep + period * 11 / 10 < s.now then s.setFld F.PCT_STAT_round_late 1 else s
      let s := if node then s.visitNode ptr hitNow
        else match s.pt.pMac.keyAt 73728 ptr with
          | some k => s.visitMac k hitNow
          | none => s
      let ptr' := (ptr + 1) % slots
      let sweep' := if ptr' = 0 then s.now else sweep
      if node then { s with pt := { s.pt with nodePtr := ptr', nodeAt := s.now, nodeSweep := sweep' } }
      else { s with pt := { s.pt with macPtr := ptr', macAt := s.now, macSweep := sweep' } }

/-! ## Table errors (R400) -/

/-- The key bytes of an entry, as its record has them. -/
def State.entryRecord (s : State) (table key : Nat) : Option Bytes :=
  if table = 0 then (Tbl.get? s.pt.ctx key).map fun c => c.record key else s.recordOf table key

/-- Remove an entry that an error has destroyed: a context goes with its route and identity (R376). -/
def State.eccRemove (s : State) (table key : Nat) : State :=
  let ctx (s : State) (n : Nat) : State := match Tbl.get? s.pt.ctx n with
    | some c => (s.delRoute c.addr (some 5)).removeCtx n none
    | none => s
  match table with
  | 0 => ctx s key
  | 1 => s.delRoute key none
  | 2 => match Tbl.get? s.pt.ident key with
    | some n => ctx s n
    | none => s
  | _ => ({ s with pt := s.pt.delRec table key }).seqNext table

/-- TABLE_ECC_ERROR: a corrected error is counted; an uncorrectable one removes the entry (R400), as a class 0x2
fault (R549).  For table 0 the key is the context number. -/
def State.tableEcc (s : State) (table key : Nat) (corrected : Bool) : State :=
  if !s.inFull then s
  else if corrected then s.count F.PCT_ECC_corrected
  else match s.entryRecord table key with
    | none => s
    | some r =>
      let g := segOf table r
      let s := (s.eccRemove table key).count F.PCT_ECC_lost
      let s := s.tableEvent table 2 2 5 0 (toLE 2 g ++ toLE 6 0)
      let d := table * 4096 + g
      let s := if s.pt.dirty.contains d then s else { s with pt := { s.pt with dirty := s.pt.dirty ++ [d] } }
      s.faultEv 0x2 17 (if table = 0 then key else 0)

/-- DIGEST_RESCAN: the scan of the oldest dirty segment ends. -/
def State.digestRescan (s : State) : State := { s with pt := { s.pt with dirty := s.pt.dirty.tail } }

/-! ## Register views -/

/-- `PCT_STAT`, `PCT_COUNT_n` and `PCT_DIRTY` as the tables stand. -/
def State.pctView (s : State) (off : Nat) : Option Word :=
  if off = 0x300000 then
    let w := s.word off
    some (setBits (setBits (setBits w 5 5 s.learnOn.toNat) 4 4 (s.pw.mode == .full && s.isShadow).toNat) 0 0
      (s.pw.mode == .full).toNat)
  else if 0x300040 ≤ off ∧ off ≤ 0x300054 then
    let n := (off - 0x300040) / 4
    let stash := if n = 0 ∨ n = 5 then 0 else (s.pt.place n).stash.length
    some (BitVec.ofNat 32 (stash * 2 ^ 24 + s.pt.count n))
  else if off = 0x300058 then
    some (BitVec.ofNat 32 (((List.range 6).map fun n =>
      if s.pt.dirty.any fun k => k / 4096 == n then 2 ^ n else 0).sum))
  else none

/-! ## Meanings -/

/-- PCT_WRITE (R403). -/
def execPctWrite (t : Nat) (c : Cmd) (s : State) : Host.Outcome State Fault Refusal :=
  ringCommand 0x0401 t c (fun s => blockRun c 48 47 11 s fun s b => s.pctWrite (c.f 10 1) b) s

/-- PCT_READ (R403). -/
def execPctRead (t : Nat) (c : Cmd) (s : State) : Host.Outcome State Fault Refusal :=
  ringCommand 0x0402 t c (fun s => blockRun c 48 47 11 s fun s b => s.pctRead (c.f 10 1) b) s

/-- PCT_DUMP (R404). -/
def execPctDump (t : Nat) (c : Cmd) (s : State) : Host.Outcome State Fault Refusal :=
  ringCommand 0x0403 t c (fun s => s.pctDump c) s

/-- PCT_AUDIT (R405). -/
def execPctAudit (t : Nat) (c : Cmd) (s : State) : Host.Outcome State Fault Refusal :=
  ringCommand 0x0404 t c (fun s => s.pctAudit c) s

/-- PCT_FLUSH (R406). -/
def execPctFlush (t : Nat) (c : Cmd) (s : State) : Host.Outcome State Fault Refusal :=
  ringCommand 0x0405 t c (fun s => s.pctFlush c) s

/-- PCT_DUMP_DONE (R404). -/
def execPctDumpDone (t : Nat) (s : State) : Host.Outcome State Fault Refusal := run t s State.pctDumpDone

/-- PCT_FLUSH_DONE (R406). -/
def execPctFlushDone (t : Nat) (s : State) : Host.Outcome State Fault Refusal := run t s State.pctFlushDone

/-- LEARN_UPDATE (R388). -/
def execLearnUpdate (t : Nat) (s : State) : Host.Outcome State Fault Refusal := run t s State.learnUpdate

/-- LEARN_FAIL_RECORD (R389). -/
def execLearnFailRecord (t : Nat) (s : State) : Host.Outcome State Fault Refusal := run t s State.learnFailRecord

/-- ROUND_VISIT (R392). -/
def execRoundVisit (t : Nat) (node hitNow : Bool) (s : State) : Host.Outcome State Fault Refusal :=
  run t s fun s => s.roundVisit node hitNow

/-- TABLE_ECC_ERROR (R400). -/
def execTableEccError (t : Nat) (table : Fin 6) (key : Nat) (corrected : Bool) (s : State) :
    Host.Outcome State Fault Refusal :=
  run t s fun s => s.tableEcc table.val key corrected

/-- DIGEST_RESCAN (R400). -/
def execDigestRescan (t : Nat) (s : State) : Host.Outcome State Fault Refusal := run t s State.digestRescan

end Sys2Proof.Machine
end

