-- ==== Sys2Proof/Machine/Sorter.lean ====
section
/-!
DEFINITION. Sys2Proof/Machine/Sorter.lean: the Sorter pipelines (14_sorter_buffering): classification, bridging,
routing, exceptions, flooding, the mesh and host egress, cut-through, Ethernet ports, spilling, VLAN records.
-/

namespace Sys2Proof.Machine

/-! ## Frames -/

/-- A frame without its 802.1Q tag. -/
def stripTag (f : Bytes) : Bytes := if f.be 12 2 = 0x8100 then f.take 12 ++ f.drop 16 else f

/-- A frame with a tag of the given TCI. -/
def tagFrame (f : Bytes) (tci : Nat) : Bytes :=
  let g := stripTag f
  g.take 12 ++ toBE 2 0x8100 ++ toBE 2 tci ++ g.drop 12

/-- A frame as sent on the wire: padded to 60 bytes, with its FCS, inverted where it is stomped. -/
def wireFrame (f : Bytes) (stomp : Bool) : Bytes :=
  let g := f ++ List.replicate (60 - f.length) 0#8
  g ++ toLE 4 (if stomp then crc32 g ^^^ 0xFFFFFFFF else crc32 g)

/-- Length of a frame with its FCS. -/
def wireLen (f : Bytes) : Nat := max 60 f.length + 4

/-- The Internet checksum of a header whose checksum field is 0. -/
def inetSum (b : Bytes) : Nat :=
  let words := (List.range (b.length / 2)).map fun i => b.be (2 * i) 2
  let t := words.sum
  let t := t % 65536 + t / 65536
  0xFFFF - (t % 65536 + t / 65536)

/-- An IPv6 packet with its hop limit less 1, or an IPv4 packet with its TTL less 1 and its checksum anew (R410). -/
def decHop (v6 : Bool) (ip : Bytes) : Bytes :=
  if v6 then ip.take 7 ++ toBE 1 (ip.be 7 1 - 1) ++ ip.drop 8
  else
    let n := 4 * (ip.be 0 1 % 16)
    let h := zeroBytes (ip.take 8 ++ toBE 1 (ip.be 8 1 - 1) ++ Bytes.slice ip 9 (n - 9)) 10 2
    h.take 10 ++ toBE 2 (inetSum h) ++ h.drop 12 ++ ip.drop n

/-! ## VLANs (R410, R412, R438) -/

/-- The router MAC. -/
def State.routerMac (s : State) : Nat :=
  s.fld F.SRT_ROUTER_MAC_HI_mac * 2 ^ 32 + s.fld F.SRT_ROUTER_MAC_LO_mac

/-- The VLAN that a BSS belongs to. -/
def State.bssVid (s : State) (h : Bool) (bss : Nat) : Option Nat :=
  (s.sr.vlans.find? fun v => bitN (if h then v.2.bssH else v.2.bssL) bss).map (·.1)

/-- The link of a client on a radio. -/
def Client.link (c : Client) (h : Bool) : Option WLink := if h then c.h else c.l

/-- The BSS through which a client's packet came. -/
def State.clientBss (s : State) (k : Nat) (h : Bool) : Nat :=
  (((Tbl.get? s.wl.clients k).bind fun c => c.link h).map (·.bss)).getD 0

/-- The VID of a packet (R410). -/
def State.classVid (s : State) (p : Packet) : Nat :=
  match p.src with
  | .wifi k h => (s.bssVid h (s.clientBss k h)).getD 4095
  | .host _ =>
    match (parseEth p.data).tag with
    | some t => t % 4096
    | none => p.vid
  | _ => p.vid

/-- The records of a bridge domain, that of the frame's own VID first. -/
def State.domain (s : State) (vid : Nat) (v : Vlan) : List (Nat × Vlan) :=
  (vid, v) :: s.sr.vlans.filter fun w => w.1 != vid && w.2.fid == v.fid

/-- SRT_VLAN_SET on one record (R438). -/
def State.vlanSet (s : State) (b : Bytes) : BlockReply :=
  let vid := b.le 0 2
  let f := b.le 4 1
  let op := b.le 14 1
  let bl := b.le 6 2
  let bh := b.le 8 2
  let clash : Bool := op == 0 && s.sr.vlans.any fun w => w.1 != vid && (w.2.bssL &&& bl != 0 || w.2.bssH &&& bh != 0)
  if vid = 0 ∨ 4094 < vid ∨ 4095 < b.le 2 2 ∨ 63 < f ∨ 63 < b.le 5 1 ∨ b.le 10 4 ≠ 0 ∨ 1 < op ∨ clash then
    { status := stBAD_ARG, st := s }
  else
    let v : Vlan :=
      { fid := b.le 2 2, eth0 := bitN f 0, eth1 := bitN f 1, host := bitN f 2, routeEn := bitN f 3, untag0 := bitN f 4,
        untag1 := bitN f 5, ring := b.le 5 1, bssL := bl, bssH := bh }
    let t := if op = 1 then Tbl.del s.sr.vlans vid else Tbl.put s.sr.vlans vid v
    { status := stOK, st := { s with sr := { s.sr with vlans := t } } }

/-- The port, client or host is where the packet came from. -/
def Packet.fromEth (p : Packet) (k : Nat) : Bool := p.src == .eth k
def Packet.fromClient (p : Packet) (k : Nat) : Bool := match p.src with
  | .wifi c _ => c == k
  | _ => false
def Packet.fromHost (p : Packet) : Bool := match p.src with
  | .host _ => true
  | _ => false

/-! ## Egress to Ethernet, Wi-Fi and the host -/

/-- The frame as it leaves an Ethernet port for a VLAN: untagged or tagged as the port's membership says. -/
def ethEgress (v : Nat × Vlan) (k : Nat) (p : Packet) : Bytes :=
  if if k = 0 then v.2.untag0 else v.2.untag1 then stripTag p.data
  else
    let pcp := match (parseEth p.data).tag with
      | some t => t / 4096
      | none => p.cls * 2
    tagFrame p.data (pcp * 4096 + v.1)

/-- The egress class of a port is paused (R434). -/
def State.paused (s : State) (k c : Nat) : Bool := bitN (s.fld (F.ETH_STAT_paused k)) c

/-- The cut-through conditions of R414 for a packet to an Ethernet port. -/
def State.cutOk (s : State) (p : Packet) (k : Nat) (n : Nat) : Bool :=
  match p.src with
  | .eth i =>
    s.eFlag F.SRT_CTRL_ct_en && decide (s.fld (F.ETH_STAT_speed i) ≤ s.fld (F.ETH_STAT_speed k)) &&
      decide (128 < p.data.length + 4) && (s.queue n).pkts.isEmpty && s.shaperOk k n && !s.paused k p.cls &&
      s.fld F.SRT_STAT_pool_state == 0 && !p.noCt && (Tbl.get? s.sr.cutting k).isNone
  | _ => false

/-- A frame to an Ethernet port: cut-through, or to the queue of its class.  `one`: it has this one egress. -/
def State.toEth (s : State) (k : Nat) (p : Packet) (one : Bool) : State :=
  let n := ethQ k p.cls
  let long : Bool := decide (s.fld (F.ETH_MAC_CFG_max_frame k) < wireLen p.data)
  if s.fld (F.ETH_STAT_link k) = 0 then (if p.bad then s else s.count (F.ETH_DROP2_link_down k))
  else if one && s.cutOk p k n then
    let s := (s.enqueue n [{ p with bad := p.bad || long }]).count (F.ETH_CT_cut_through k)
    match s.takeHead k n (wireLen p.data) with
    | some (q, s) => { s with sr := { s.sr with cutting := Tbl.put s.sr.cutting k q } }
    | none => s
  else if p.bad || long then s
  else s.enqueueLim n p

/-- A frame to a Wi-Fi client, in the queue of its TID; a client that does not exist has no queue (R371), and one that
is not authorised takes EAPOL frames of the host only (R344). -/
def State.toClient (s : State) (k : Nat) (p : Packet) : State :=
  match Tbl.get? s.wl.clients k with
  | some c =>
    if !bitN c.flags 0 && !(p.fromHost && (parseEth p.data).ethertype == 0x888E) then s
    else s.enqueueLim (wifiQ k p.cls) { p with data := stripTag p.data }
  | none => s

/-- A ring is enabled as a receive ring. -/
def Io.rxRing (io : Io) (r : Nat) : Bool :=
  io.fld (F.HIF_SQ_CFG_en r) != 0 && io.fld (F.HIF_SQ_CFG_kind r) == 2

/-- A packet to a host receive ring (R371, R428, R482). -/
def State.toHost (s : State) (r reason : Nat) (p : Packet) : State :=
  if s.io.hf.lost.isSome then s.count F.SRT_DROP_Q2_host_drop
  else if !s.io.rxRing r then s
  else s.enqueueLim (hostQ r) { p with reason := reason }

/-- The exception ring (R411). -/
def State.toException (s : State) (p : Packet) : State :=
  let s := s.latchRegs [0x340010]
  (s.toHost (s.eFld F.SRT_EXC_CFG_ring) 1 p).count F.SRT_EXC_CNT_exceptions

/-- Flood in a bridge domain: every member but the ingress (R412); a BSS is reached through its clients' queues. -/
def State.flood (s : State) (vid : Nat) (v : Vlan) (p : Packet) : State :=
  let dom := s.domain vid v
  let p : Packet := { p with noCt := true }
  let s := s.each [0, 1] fun s k =>
    match dom.find? (fun (w : Nat × Vlan) => if k = 0 then w.2.eth0 else w.2.eth1) with
    | some w => if p.fromEth k then s else s.toEth k { p with data := ethEgress w k p } false
    | none => s
  let member (c : Client) : Bool := dom.any fun w =>
    (match c.l with
      | some x => bitN w.2.bssL x.bss
      | none => false) || (match c.h with
      | some x => bitN w.2.bssH x.bss
      | none => false)
  let s := s.each (s.wl.clients.filter fun c => member c.2 && !p.fromClient c.1) fun s c => s.toClient c.1 p
  match dom.find? (fun (w : Nat × Vlan) => w.2.host) with
  | some w => if p.fromHost then s else s.toHost w.2.ring 3 p
  | none => s

/-! ## Egress to the mesh (R245, R250, R258, R262, R445) -/

/-- The profiles of the channels in a connection's map. -/
def State.connProfiles (s : State) (c : Conn) : List Nat :=
  if c.radioL then [3] else (mapChans false c.par.map).filterMap s.demodProfile

/-- The largest content of a frame to a node `deep` hops below its depth-1 ancestor. -/
def State.meshCap (s : State) (c : Conn) (deep : Nat) : Nat :=
  let psdu := ((s.connProfiles c).map maxPsdu).foldl min 255
  psdu - 24 - (if deep = 0 then 0 else 15 + 3 * deep)

/-- A frame with this content would end after 20.500 ms (R445). -/
def State.tooLong (s : State) (c : Conn) (deep n : Nat) : Bool :=
  let len := 24 + n + if deep = 0 then 0 else 15 + 3 * deep
  (s.connProfiles c).any fun prof =>
    let x : Carrier :=
      { ch := 0, prof := prof, preamble := s.dlPreamble, receipt := false, psdu := List.replicate len 0#8, what := .test }
    decide (18500000 < Carrier.dur x)

/-- An IPv6 packet to a node (R250, R261, R262): compressed, fragmented, checked and queued. -/
def State.toNode (s : State) (addr : Nat) (ip : Bytes) (p : Packet) : State :=
  match s.routeTo addr, Tbl.get? s.pt.route addr with
  | some (path, _, c), some r =>
    let deep := path.length - 1
    let s := s.ctxLatch
    let frags := lowpanCompress s.io 0 addr s.mn.dtag (s.meshCap c deep) ip
    if frags.any fun f => s.tooLong c deep f.length then s.count F.QMS_DROP_too_long
    else
      let many := decide (1 < frags.length)
      let mn := if many then { s.mn with dtag := (s.mn.dtag + 1) % 65536, dgram := s.mn.dgram + 1 } else s.mn
      let s := { s with mn := mn }
      let ps := frags.map fun f =>
        { p with data := f, cells := cellsOf f.length, dgram := if many then s.mn.dgram else 0 }
      if s.overLimit r.ctx ps.length (ps.map (·.cells)).sum then s.limitDrop r.ctx else s.enqueue r.ctx ps
  | _, _ => s.count F.MSH_NET_ERR_no_route

/-- An IPv6 packet to the mesh: to a node, or as a circular where its destination is multicast (R258). -/
def State.toMesh (s : State) (ip : Bytes) (p : Packet) : State :=
  let dst : Bytes := Bytes.slice ip 24 16
  if ip.be 24 1 = 0xFF then
    let content := (lowpanCompress s.ctxLatch.io 0 0xFFFFFF 0 2047 ip).headD []
    if s.circMax < content.length then s
    else s.originate 0 (s.eFld F.MSH_CIRC_CFG_def_ttl) 1 0 content
  else match s.ctxLatch.io.shortOf dst with
    | some a => s.toNode a ip p
    | none => s.count F.MSH_NET_ERR_no_route

/-! ## Routing (R411, R412) -/

/-- The longest LPM entry that matches an address (R387). -/
def Pt.lpmFind (p : Pt) (v4 : Bool) (a : Nat) : Option IpEnt :=
  let full := if v4 then 32 else 128
  let hit (e : Nat × IpEnt) : Bool :=
    let len := e.1 / 2 ^ 128 % 256
    (decide (256 * 2 ^ 128 ≤ e.1) == v4) && (e.1 % 2 ^ 128) / 2 ^ (full - len) == a / 2 ^ (full - len)
  let best := (p.lpm.filter hit).foldl
    (fun (b : Option (Nat × IpEnt)) e => match b with
      | some x => if x.1 / 2 ^ 128 % 256 < e.1 / 2 ^ 128 % 256 then some e else b
      | none => some e) none
  best.map (·.2)

/-- The lookup of a routed packet: the host entry, which it hits, before any LPM match (R373, R393). -/
def State.ipLookup (s : State) (v4 : Bool) (a : Nat) : Option IpEnt × State :=
  let key := v4.toNat * 2 ^ 128 + a
  match Tbl.get? s.pt.host key with
  | some e => (some e, { s with pt := { s.pt with host := Tbl.put s.pt.host key { e with hit := true } } })
  | none => (s.pt.lpmFind v4 a, s)

/-- The destination is an address of the device itself: its mesh address, or the link-local form of it. -/
def State.ownAddr (s : State) (dst : Bytes) : Bool :=
  s.io.meshAddr 0 == some dst || dst == linkLocal ++ meshIid 0

/-- The packet goes to the exception ring before any lookup (R411). -/
def State.exceptional (s : State) (v6 : Bool) (ip : Bytes) : Bool :=
  if v6 then
    let icmp : Bool := ip.be 6 1 == 58
    let t := ip.be 40 1
    s.ownAddr (Bytes.slice ip 24 16) || (icmp && decide (133 ≤ t) && decide (t ≤ 137)) || decide (ip.be 7 1 ≤ 1)
  else
    decide (ip.be 8 1 ≤ 1) || ip.be 0 1 % 16 != 5 || ip.be 6 2 % 16384 != 0

/-- A frame built around an IP packet. -/
def ipFrame (dst src : Nat) (vlan cls : Nat) (v6 : Bool) (ip : Bytes) : Bytes :=
  let f := toBE 6 dst ++ toBE 6 src ++ toBE 2 (if v6 then 0x86DD else 0x0800) ++ ip
  if vlan = 0 then f else tagFrame f (cls * 8192 + vlan)

/-- Route an IP packet: look it up and hand it to its egress. -/
def State.route (s : State) (v6 : Bool) (ip : Bytes) (p : Packet) : State :=
  let dst := if v6 then ip.be 24 16 else ip.be 16 4
  match s.ipLookup (!v6) dst with
  | (none, s) => s
  | (some e, s) =>
    let ip' := decHop v6 ip
    let frame (vlan : Nat) : Packet :=
      { p with data := ipFrame e.nextHop s.routerMac vlan p.cls v6 ip' }
    match e.dest / 4096 with
    | 0 => s.toEth (e.dest % 2) (frame e.vlan) true
    | 1 => s.toClient (e.dest % 1024) (frame 0)
    | 2 => s.toException { p with data := ipFrame e.nextHop s.routerMac 0 p.cls v6 ip }
    | 3 => if v6 then s.toMesh ip' p else s.count F.SRT_EXC_CNT_ipv4_mesh
    | 4 =>
      let vid := if e.vlan = 0 then p.vid else e.vlan
      match Tbl.get? s.sr.vlans vid with
      | some v => s.flood vid v (frame 0)
      | none => s.count F.SRT_DROP_ADM_no_vlan
    | _ => s

/-- A frame to the router MAC (R411). -/
def State.routeFrame (s : State) (p : Packet) : State :=
  let q := parseEth p.data
  let ip : Bytes := p.data.drop q.off
  if q.ethertype = 0x0806 then s.toException p
  else if q.v6 p.data || q.v4 p.data then
    let v6 := q.v6 p.data
    if s.exceptional v6 ip then s.toException p else s.route v6 ip p
  else s

/-! ## Bridging -/

/-- Whether learning is enabled for a packet's source, and the destination code learnt (R388). -/
def State.learnDest (s : State) (p : Packet) : Option Nat :=
  match p.src with
  | .eth k => if s.eFld (if k = 0 then F.PCT_LEARN_CFG_eth0 else F.PCT_LEARN_CFG_eth1) = 1 then some k else none
  | .wifi c _ => if s.eFlag F.PCT_LEARN_CFG_wifi then some (0x1000 + c) else none
  | .host r => if s.eFlag F.PCT_LEARN_CFG_host then some (0x2000 + r) else none
  | _ => none

/-- The learning request of a frame. -/
def State.learnFrame (s : State) (p : Packet) (key : Nat) : State :=
  let s := s.latchRegs [0x300004]
  match s.learnDest p with
  | some d => if s.learnOn && !bitN (key % 2 ^ 48 / 2 ^ 40) 0 then s.learnAsk key d else s
  | none => s

/-- Bridge a frame in its domain. -/
def State.bridge (s : State) (vid : Nat) (v : Vlan) (p : Packet) : State :=
  let dst := (parseEth p.data).dst
  if bitN (dst / 2 ^ 40) 0 then s.flood vid v p
  else match Tbl.get? s.pt.mac (v.fid * 2 ^ 48 + dst) with
    | none => (s.count F.PCT_FLOOD_flood_unknown).flood vid v p
    | some e =>
      match e.dest / 4096 with
      | 0 =>
        let k := e.dest % 2
        s.toEth k { p with data := ethEgress (vid, v) k p } true
      | 1 => s.toClient (e.dest % 1024) p
      | 2 => s.toHost (e.dest % 64) 0 p
      | 4 => s.flood vid v p
      | _ => s

/-- Classify, decide, look up and enqueue a frame with an Ethernet header. -/
def State.sortFrame (s : State) (p : Packet) : State :=
  let vid := s.classVid p
  let p := { p with vid := vid }
  match Tbl.get? s.sr.vlans vid with
  | none => if p.bad then s else s.count F.SRT_DROP_ADM_no_vlan
  | some v =>
    let q := parseEth p.data
    let key := v.fid * 2 ^ 48 + q.src
    let drop : Bool := match Tbl.get? s.pt.mac key with
      | some e => e.discardSrc
      | none => false
    let s := s.learnFrame p key
    if drop then s
    else if q.dst = s.routerMac ∧ v.routeEn then s.routeFrame p
    else s.bridge vid v p

/-- A packet from the mesh: expanded, checked against its origin's address, routed (R261, R410). -/
def State.sortMesh (s : State) (origin : Nat) (p : Packet) : State :=
  match s.lowpanIn origin origin 0 p.data with
  | (s, .packet ip) =>
    if s.io.meshAddr origin ≠ some (Bytes.slice ip 8 16) then s.count F.MSH_LOWPAN_ERR_lowpan_err
    else
      let p := { p with cls := ip.be 0 2 / 16 % 256 / 32, vid := 0 }
      if s.exceptional true ip then
        let (m, s) := s.draw 6
        s.toException { p with data := m ++ (ipFrame 0 s.routerMac 0 0 true ip).drop 6 }
      else s.route true ip p
  | (s, _) => s

/-- A PKT_TX with `direct` = 1: enqueued to its destination without lookup (R474). -/
def State.sortDirect (s : State) (dest : Nat) (p : Packet) : State :=
  let vid := s.classVid p
  let p := { p with vid := vid }
  let v? := Tbl.get? s.sr.vlans vid
  match dest / 4096 with
  | 0 =>
    let k := dest % 2
    match v? with
    | some v => s.toEth k { p with data := ethEgress (vid, v) k p } true
    | none => s.toEth k p true
  | 1 => s.toClient (dest % 1024) p
  | 3 =>
    let q := parseEth p.data
    if q.v6 p.data then s.toMesh (p.data.drop q.off) p
    else if q.v4 p.data then s.count F.SRT_EXC_CNT_ipv4_mesh
    else s
  | _ => match v? with
    | some v => s.flood vid v p
    | none => s.count F.SRT_DROP_ADM_no_vlan

/-- A frame that ended with an error leaves only by cut-through (R414, R415); it is worked on where it could. -/
def State.sortBad (s : State) (p : Packet) : State :=
  if s.eFlag F.SRT_CTRL_ct_en && decide (128 < p.data.length + 4) && !p.noCt then
    let s' := s.sortFrame p
    if s'.sr.cutting.length = s.sr.cutting.length then s else s'
  else s

/-- The Sorters run: in Full, with `run` = 1. -/
def State.sortersRun (s : State) : Bool := s.inFull && s.flag F.SRT_CTRL_run

/-- SORTER_PACKET: Sorter `n` works on the packet that has waited longest at its input (R410). -/
def State.sorterPacket (s : State) (n : Nat) : State :=
  match s.sr.input.find? (fun (x : Nat × Packet) => x.1 == n) with
  | none => s
  | some x =>
    let p := x.2
    let s : State := { s with sr := { s.sr with input := s.sr.input.erase x } }
    let s := s.latchRegs [0x340000]
    let s :=
      if !s.sortersRun || s.isShadow then s
      else
        let s := s.countMod (F.SRT_PIPE_PKTS_packets n)
        match p.direct, p.src with
        | some d, _ => s.sortDirect d p
        | none, .mesh o => s.sortMesh o p
        | none, _ => if p.bad then s.sortBad p else s.sortFrame p
    (s.txOver p.key stOK).updatePool

/-! ## Host packets (R474, R475) -/

/-- The receive header of a packet (R475). -/
def State.rxHeader (s : State) (p : Packet) : Bytes :=
  let (kind, src, origin, radio, bss) : Nat × Nat × Nat × Nat × Nat := match p.src with
    | .eth k => (0, k, 0, 0, 0)
    | .wifi c h => (1, c, 0, h.toNat, p.bss.getD (s.clientBss c h))
    | .mesh o => (2, 0, o, 0, 0)
    | .host r => (3, r, 0, 0, 0)
    | .ctrl => (1, 0, 0, 0, 0)
  let rssi : Int := if kind = 1 ∨ kind = 2 then p.rssi else 0
  toLE 1 kind ++ toLE 1 p.reason ++ toLE 2 src ++ toLE 3 origin ++ toLE 1 (radio + 2 * bss) ++ toLE 2 (p.vid % 4096) ++
    toLE 1 p.cls ++ toLE 1 (codeN 8 rssi) ++ toLE 4 0

/-- The ring can take a packet now: its first buffer is free. -/
def State.rxReady (s : State) (r : Nat) : Option RxBuf :=
  if s.io.rxRing r && s.io.sqActive r && s.io.hostOk && !s.io.cqHolds r then
    (s.io.hf.rxBufs.find? fun b => b.sq == r).bind fun b => if b.status = 0 then some b else none
  else none

/-- Fill the first buffer of a ring with a packet; one that is too long is dropped; without a buffer it goes back to
its queue. -/
def State.fillRx (s : State) (r : Nat) (p : Packet) : State :=
  match s.rxReady r with
  | none =>
    let q := s.queue (hostQ r)
    let s := s.setQueue (hostQ r) { q with pkts := p :: q.pkts }
    if q.pkts.isEmpty then s.joinRound 6 (hostQ r) else s
  | some b =>
    if s.fld (F.HIF_SQ_CFG_buf_256 r) * 256 < p.data.length + 16 then s.count F.HIF_RX_DROP_too_big
    else
      let hf := { s.io.hf with rxBufs := s.io.hf.rxBufs.erase b }
      let s := { s with io := { s.io with hf := hf } }.put (.dma b.addr (s.rxHeader p ++ p.data))
      let s := s.complete
        { sq := r, tag := b.tag, status := stOK, result := p.data.length, gen := b.gen, rx := true }
      s.flushRx r s.io.hf.rxBufs.length

/-- Deliver a packet to a receive ring, past fault injection on path 5 (R559). -/
def State.deliverRx (s : State) (r : Nat) (p : Packet) : State :=
  let pass (s : State) (p : Packet) : State :=
    let (free, s) := (s.fillRx r p).fltPassed 5 r
    s.each free fun s h => match h.pkt with
      | some q => s.fillRx r q
      | none => s
  match s.fltTest 5 0 with
  | (.pass, s) => pass s p
  | (.drop, s) => s
  | (.corrupt _ k, s) => pass s { p with data := flipBit p.data 0 k }
  | (.hold k d, s) =>
    s.fltHold { rule := k, depth := d, path := 5, ring := r, passed := 0, at_ns := s.now, data := [], pkt := some p }

/-- PKT_TX's own rules (R474); the packet goes to its Sorter past fault injection on path 4. -/
def State.pktTx (s : State) (c : Cmd) : Reply :=
  let len := c.f 8 2
  let b := c.f 10 1
  let direct := bitN b 0
  let dest := c.f 14 2
  let frame : Bytes := c.rd.take len
  let tagged : Bool := frame.be 12 2 == 0x8100
  let kind := dest / 4096
  if len < 14 ∨ 9212 < len ∨ 15 < b ∨ !c.zero 11 1 ∨ 4095 < c.f 12 2 ∨ !c.zero 16 8 ∨
      (direct ∧ !(destOk dest && (kind == 0 || kind == 1 || kind == 3 || kind == 4))) then Reply.err s stBAD_ARG
  else match c.readFails len with
  | some st => Reply.err s st
  | none =>
  if tagged ∧ c.f 12 2 ≠ 0 then Reply.err s stBAD_ARG
  else if s.isShadow then Reply.err s stNOT_LEAD
  else
    let r := c.sq.val
    let s := s.queueTx r (s.io.hf.serial - 1) c.gen.toNat c.tag.toNat none
    let p : Packet :=
      { src := .host r, data := frame, cls := b / 2 % 8, vid := c.f 12 2, cells := cellsOf len, charge := .shared,
        key := some s.io.hf.txKey, direct := if direct then some dest else none }
    let pass (s : State) (p : Packet) : State :=
      let (free, s) := (s.toSorter p).fltPassed 4 r
      s.each free fun s h => match h.pkt with
        | some q => s.toSorter q
        | none => s
    let s := match s.fltTest 4 0 with
      | (.pass, s) => pass s p
      | (.drop, s) => s.txOver p.key stOK
      | (.corrupt _ k, s) => pass s { p with data := flipBit frame 0 k }
      | (.hold k d, s) => s.fltHold
          { rule := k, depth := d, path := 4, ring := r, passed := 0, at_ns := s.now, data := [], pkt := some p }
    { status := none, st := s }

/-- PKT_TX: held on its ring while admission holds host fetches (R424). -/
def State.pktTxRun (s : State) (c : Cmd) : State :=
  let s := s.latchRegs admRegs
  if s.pw.mode == .full && !s.admitHost (c.f 10 1 / 2 % 8) (cellsOf (c.f 8 2)) then s
  else ringRun 0x1001 .transmit c (fun s => s.pktTx c) s

/-- PKT_RX_POST's own rules (R475). -/
def State.pktRxPost (s : State) (c : Cmd) : Reply :=
  if c.f 0 8 % 64 ≠ 0 ∨ !c.zero 8 16 then Reply.err s stBAD_ARG
  else
    { status := none
      st := s.queueRx { sq := c.sq.val, idx := s.io.hf.serial - 1, addr := c.f 0 8, tag := c.tag.toNat, gen := c.gen.toNat } }

/-! ## Ethernet ports -/

/-- The 802.1p priority of a frame: its PCP, or 0. -/
def pcpOf (q : Parsed) : Nat := (q.tag.getD 0) / 8192 % 8

/-- A frame that injection lets through is checked, admitted and handed to a Sorter (R424, R425, R431). -/
def State.ethAccept (s : State) (p : Nat) (frame : Bytes) (fcsOk noCt : Bool) : State :=
  let s := s.latchRegs (admRegs ++ [0x340000, (F.ETH_MAC_CFG_pvid p).off, (F.ETH_PCP_MAP_class p).off])
  let len := frame.length + 4
  let badLen : Bool := decide (len < 64) || decide (s.fld (F.ETH_MAC_CFG_max_frame p) < len)
  let s := if badLen then s.count (F.ETH_RX_ERR_len_err p) else if !fcsOk then s.count (F.ETH_RX_ERR_fcs_err p)
    else s.countMod (F.ETH_RX_FRAMES_frames p)
  let bad := badLen || !fcsOk
  let q := parseEth frame
  let vid := match q.tag with
    | some t => if t % 4096 = 0 then s.eFld (F.ETH_MAC_CFG_pvid p) else t % 4096
    | none => s.eFld (F.ETH_MAC_CFG_pvid p)
  let untagged : Bool := q.tag.isNone
  if (bad && (noCt || !s.eFlag F.SRT_CTRL_ct_en || decide (len ≤ 128))) ||
      (untagged && !s.eFlag (F.ETH_MAC_CFG_accept_untagged p)) then s
  else
    let prio := pcpOf q
    let cls := bitsN (s.eFld (F.ETH_PCP_MAP_class p)) (3 * prio + 2) (3 * prio)
    let unit := s.io.unitOf p prio
    let cells := cellsOf frame.length
    let pkt (c : Charge) : Packet :=
      { src := .eth p, data := frame, cls := cls, vid := vid, cells := cells, charge := c, unit := unit, bad := bad,
        noCt := noCt }
    match s.admitEth unit cls cells, unit with
    | .shared, _ => s.toSorter (pkt .shared)
    | .headroom, some (a, u) => s.toSorter (pkt (.headroom a u))
    | _, some _ => s.count (F.ETH_DROP_headroom_drop p)
    | _, none => s.count (F.ETH_DROP_adm_drop p)

/-- ETH_FRAME_RX: a frame without its FCS arrives on a port (R424, R436, R437, R559). -/
def State.ethFrameRx (s : State) (p : Nat) (frame : Bytes) (fcsOk : Bool) : State :=
  if s.fld (F.ETH_STAT_link p) = 0 then s
  else if !s.inFull then
    if s.pw.trans == some .pause then s.count (F.ETH_DROP_adm_drop p) else s
  else if s.isShadow then s.count F.SRT_SHADOW_DROP_drops
  else if !s.flag F.SRT_CTRL_run then s
  else
    let path := p + 1
    let pass (s : State) (f : Bytes) (ok : Bool) : State :=
      let (free, s) := (s.ethAccept p f ok false).fltPassed path 0
      s.each free fun s h => s.ethAccept p h.data true true
    match s.fltTest path 0 with
    | (.pass, s) => pass s frame fcsOk
    | (.drop, s) => s
    | (.corrupt fix k, s) => pass s (flipBit frame 14 k) (fix && fcsOk)
    | (.hold k d, s) =>
      if !fcsOk then s.count (F.ETH_RX_ERR_fcs_err p)
      else s.fltHold { rule := k, depth := d, path := path, ring := 0, passed := 0, at_ns := s.now, data := frame }

/-- ETH_LINK_UP: an enabled port's link comes up in Full, in the activation pause, or in Rescue (R436, R598); in the
modes of one speed the mode gives it. -/
def State.ethLinkUp (s : State) (p speed : Nat) : State :=
  let m := s.fld (F.ETH_CTRL_mode p)
  let lock := s.flag (if p = 0 then F.CLK_STAT_eth0_lock else F.CLK_STAT_eth1_lock)
  let on := lock && (s.pw.mode == .full || s.pw.mode == .rescue || s.pw.trans == some .pause)
  if !on || s.fld (F.ETH_CTRL_en p) = 0 || decide (4 < m) then s
  else
    let v := if m = 0 then 0 else if m = 2 then 1 else if m = 3 then 2 else speed
    (s.setFld (F.ETH_STAT_speed p) v).setFld (F.ETH_STAT_link p) 1

/-- A port's link is down: its queued frames are dropped, its units' usage returns to 0, the pauses it received are
cleared, and the MAC table is flushed of it (R391, R415, R435). -/
def State.ethDown (s : State) (p : Nat) : State :=
  if s.fld (F.ETH_STAT_link p) = 0 then s
  else
    let s := (((s.setFld (F.ETH_STAT_link p) 0).setFld (F.ETH_STAT_paused p) 0).setFld (F.ETH_STAT_xoff_sent p) 0)
    let qs := (List.range 8).map fun c => ethQ p c
    let n := (qs.map fun q => (s.queue q).pkts.length).sum + if (Tbl.get? s.sr.cutting p).isSome then 1 else 0
    let s := (s.each qs State.dropQueue).count (F.ETH_DROP2_link_down p) n
    let clear (k : Packet) : Packet := match k.unit with
      | some (a, _) => if a = p then { k with unit := none } else k
      | none => k
    let s := { s with
      sr := { s.sr with
        cutting := Tbl.del s.sr.cutting p
        paused := s.sr.paused.filter fun x => x.1 / 8 != p
        input := s.sr.input.map fun (x : Nat × Packet) => (x.1, clear x.2) }
      qm := { s.qm with queues := s.qm.queues.map fun (x : Nat × Queue) => (x.1, { x.2 with pkts := x.2.pkts.map clear }) } }
    let s := if s.pw.mode == .full && s.eFlag F.PCT_LEARN_CFG_flush_on_down then s.macForget p else s
    s.updatePool

/-- PAUSE_RX: a received pause or PFC frame (R434): a quantum count for each class of the frame's vector, or one for
the port. -/
def State.pauseRx (s : State) (p : Nat) (pfc : Bool) (classes : Nat) (quanta : List Nat) : State :=
  if s.fld (F.ETH_STAT_link p) = 0 || !s.inFull then s
  else
    let s := (s.latchRegs [(F.ETH_FC_CFG_rx_honour p).off, (F.ETH_PCP_MAP_class p).off]).count (F.ETH_PAUSE_CNT_rx p)
    if !s.eFlag (F.ETH_FC_CFG_rx_honour p) then s
    else
      let map := s.eFld (F.ETH_PCP_MAP_class p)
      let acts : List (Nat × Nat) :=
        if pfc then ((List.range 8).filter fun k => bitN classes k).map fun k =>
          (bitsN map (3 * k + 2) (3 * k), quanta.getD k 0)
        else (List.range 8).map fun k => (k, quanta.headD 0)
      s.each acts fun s (a : Nat × Nat) =>
        let w := s.fld (F.ETH_STAT_paused p)
        let w0 := if bitN w a.1 then w - 2 ^ a.1 else w
        if a.2 = 0 then
          { s.setFld (F.ETH_STAT_paused p) w0 with sr := { s.sr with paused := Tbl.del s.sr.paused (8 * p + a.1) } }
        else
          let until_ := s.now + min a.2 65535 * s.io.quantum10 p / 10
          { s.setFld (F.ETH_STAT_paused p) (w0 + 2 ^ a.1) with
            sr := { s.sr with paused := Tbl.put s.sr.paused (8 * p + a.1) until_ } }

/-- PAUSE_TIMER_EXPIRY: a received pause runs out. -/
def State.pauseExpiry (s : State) (p c : Nat) : State :=
  match Tbl.get? s.sr.paused (8 * p + c) with
  | none => s
  | some u =>
    if s.now < u then s
    else
      let w := s.fld (F.ETH_STAT_paused p)
      let s := s.setFld (F.ETH_STAT_paused p) (if bitN w c then w - 2 ^ c else w)
      { s with sr := { s.sr with paused := Tbl.del s.sr.paused (8 * p + c) } }

/-! ## Egress (R441, R442) -/

/-- A frame leaves a port. -/
def State.ethSend (s : State) (k : Nat) (p : Packet) : State :=
  let s := (s.put (.eth k (wireFrame p.data p.bad))).countMod (F.ETH_TX_FRAMES_frames k)
  if p.bad then s.count (F.ETH_CT_stomped k) else s

/-- EGRESS_DEQUEUE on an Ethernet port: the frame under cut-through ends, or the class scheduler chooses. -/
def State.dequeueEth (s : State) (k : Nat) : State :=
  match Tbl.get? s.sr.cutting k with
  | some p => (({ s with sr := { s.sr with cutting := Tbl.del s.sr.cutting k } }).ethSend k p).updatePool
  | none =>
    if !s.ethServes || s.fld (F.ETH_STAT_link k) = 0 then s
    else
      let len (s : State) (n : Nat) : Nat := match (s.queue n).pkts with
        | p :: _ => wireLen p.data
        | [] => 0
      let elig (s : State) (n : Nat) : Bool :=
        !(s.queue n).pkts.isEmpty && s.shaperOk k n && !s.paused k (s.queue n).cls
      match s.schedule k elig len with
      | none => s
      | some (_, n, s) =>
        match s.takeHead k n (len s n) with
        | some (p, s) => s.ethSend k p
        | none => s

/-- EGRESS_DEQUEUE at the host: a packet fills the next posted buffer of its ring. -/
def State.dequeueHost (s : State) : State :=
  let len (s : State) (n : Nat) : Nat := match (s.queue n).pkts with
    | p :: _ => p.data.length + 16
    | [] => 0
  let elig (s : State) (n : Nat) : Bool :=
    !(s.queue n).pkts.isEmpty && s.shaperOk 6 n && (s.rxReady (n - 0x21010)).isSome
  if !s.inFull then s
  else match s.schedule 6 elig len with
    | none => s
    | some (_, n, s) =>
      match s.takeHead 6 n (len s n) with
      | some (p, s) => s.deliverRx (n - 0x21010) p
      | none => s

/-- EGRESS_DEQUEUE (R440): Wi-Fi and mesh egress points are drained by their schedulers. -/
def State.egressDequeue (s : State) (e : Nat) : State :=
  if e < 2 then s.dequeueEth e else if e = 6 then s.dequeueHost else s

/-! ## Spilling (R418 to R421) -/

/-- Cells of the spill region. -/
def State.spillSize (s : State) : Nat :=
  let units := min (max 4 (s.fld F.SRT_SPILL_CFG_size_64m)) ((clamp 2 8 Config.dramGiB - 1) * 16)
  min 48 units * (64 * 1024 * 1024 / 256)

/-- The cells on chip of a queue. -/
def Queue.onChip (q : Queue) : Nat := cellSum q.pkts fun p => !p.spilled

/-- The place of the last packet on chip behind the head. -/
def Queue.tailAt (q : Queue) : Option Nat :=
  (List.range q.pkts.length).reverse.find? fun i => decide (0 < i) && (q.pkts[i]?).any fun p => !p.spilled

/-- The spillable queue with the most cells on chip that has a packet to move. -/
def State.spillFrom (s : State) : Option (Nat × Queue) :=
  (s.qm.queues.filter fun q => decide (q.1 < 0x21000) && q.2.tailAt.isSome).foldl
    (fun (b : Option (Nat × Queue)) q => match b with
      | some x => if x.2.onChip < q.2.onChip then some q else b
      | none => some q) none

/-- Move tails until occupancy falls to `spill_off`. -/
def State.spillLoop (s : State) (off : Nat) : Nat → State
  | 0 => s
  | fuel + 1 =>
    if s.sharedUsed ≤ off then s
    else match s.spillFrom with
      | none => s
      | some (n, q) =>
        match q.tailAt.bind fun i => (q.pkts[i]?).map fun p => (i, p) with
        | none => s
        | some (i, p) =>
          if s.spillSize < s.spilledCells + p.cells then s.setFld F.SRT_STAT_spill_full 1
          else (s.setQueue n { q with pkts := q.pkts.set i { p with spilled := true } }).spillLoop off fuel

/-- `spill_full` clears below 7/8 of the region. -/
def State.spillLow (s : State) : State :=
  if s.spilledCells * 8 < s.spillSize * 7 then s.setFld F.SRT_STAT_spill_full 0 else s

/-- SPILL_MOVE (R419). -/
def State.spillMove (s : State) : State :=
  let s := s.latchRegs admRegs
  let on := s.thr (s.eFld F.SRT_SPILL_THR_spill_on)
  let off := s.thr (s.eFld F.SRT_SPILL_THR_spill_off)
  let active := s.flag F.SRT_STAT_spill_active
  if !s.inFull || !s.eFlag F.SRT_SPILL_CFG_spill_en || s.flag F.SRT_STAT_spill_full then
    s.setFld F.SRT_STAT_spill_active 0
  else if !(decide (on ≤ s.sharedUsed) || (active && decide (off < s.sharedUsed))) then s.setFld F.SRT_STAT_spill_active 0
  else
    let s := (s.spillLoop off s.packets.length).updatePool
    s.setFld F.SRT_STAT_spill_active (decide (off < s.sharedUsed) && !s.flag F.SRT_STAT_spill_full).toNat

/-- Bring back spilled packets, in order, while cells are free; bit n of `bad` marks the nth as lost to a DRAM error
(R420, R421). -/
def State.fetchLoop (s : State) (n bad : Nat) : Nat → Nat → State
  | 0, _ => s
  | fuel + 1, i =>
    let q := s.queue n
    match (List.range q.pkts.length).find? fun k => (q.pkts[k]?).any (·.spilled) with
    | none => s
    | some k =>
      match q.pkts[k]? with
      | none => s
      | some p =>
        if bitN bad i then
          let s := s.setQueue n { q with pkts := q.pkts.eraseIdx k }
          let s := if (s.queue n).pkts.isEmpty then s.leaveRound n else s
          ((s.count F.SRT_SPILL_STAT_ecc_drop).faultEv 0x2 (0x80 + 18) 0).fetchLoop n bad fuel (i + 1)
        else if !s.roomFor p.cells then s
        else (s.setQueue n { q with pkts := q.pkts.set k { p with spilled := false } }).fetchLoop n bad fuel (i + 1)

/-- SPILL_FETCH_DONE (R420). -/
def State.spillFetch (s : State) (n bad : Nat) : State :=
  let chip := ((s.queue n).pkts.filter fun p => !p.spilled).length
  if !s.inFull || decide (2 ≤ chip) || (s.queue n).pkts.isEmpty then s
  else (s.fetchLoop n bad 8 0).spillLow.updatePool

/-! ## Meanings -/

/-- SRT_VLAN_SET (R438). -/
def execSrtVlanSet (t : Nat) (c : Cmd) (s : State) : Host.Outcome State Fault Refusal :=
  ringCommand 0x0501 t c (fun s => blockRun c 16 15 10 s State.vlanSet) s

/-- PKT_TX (R474). -/
def execPktTx (t : Nat) (c : Cmd) (s : State) : Host.Outcome State Fault Refusal := run t s fun s => s.pktTxRun c

/-- PKT_RX_POST (R475). -/
def execPktRxPost (t : Nat) (c : Cmd) (s : State) : Host.Outcome State Fault Refusal :=
  run t s fun s => ringRun 0x1002 .receive c (fun s => s.pktRxPost c) s

/-- SORTER_PACKET (R410). -/
def execSorterPacket (t : Nat) (n : Fin 4) (s : State) : Host.Outcome State Fault Refusal :=
  run t s fun s => s.sorterPacket n

/-- ETH_FRAME_RX (R424). -/
def execEthFrameRx (t : Nat) (port : Fin 2) (frame : Bytes) (fcsOk : Bool) (s : State) :
    Host.Outcome State Fault Refusal :=
  run t s fun s => s.ethFrameRx port frame fcsOk

/-- ETH_LINK_UP (R598). -/
def execEthLinkUp (t : Nat) (port : Fin 2) (speed : Fin 6) (s : State) : Host.Outcome State Fault Refusal :=
  run t s fun s => s.ethLinkUp port speed

/-- ETH_LINK_DOWN (R435). -/
def execEthLinkDown (t : Nat) (port : Fin 2) (s : State) : Host.Outcome State Fault Refusal :=
  run t s fun s => s.ethDown port

/-- PAUSE_RX (R434). -/
def execPauseRx (t : Nat) (port : Fin 2) (pfc : Bool) (classes : BitVec 8) (quanta : List Nat) (s : State) :
    Host.Outcome State Fault Refusal :=
  run t s fun s => s.pauseRx port pfc classes.toNat quanta

/-- PAUSE_TIMER_EXPIRY (R434). -/
def execPauseTimerExpiry (t : Nat) (port : Fin 2) (cls : Fin 8) (s : State) : Host.Outcome State Fault Refusal :=
  run t s fun s => s.pauseExpiry port cls

/-- EGRESS_DEQUEUE (R442). -/
def execEgressDequeue (t : Nat) (e : Fin 7) (s : State) : Host.Outcome State Fault Refusal :=
  run t s fun s => s.egressDequeue e

/-- SPILL_MOVE (R419). -/
def execSpillMove (t : Nat) (s : State) : Host.Outcome State Fault Refusal := run t s State.spillMove

/-- SPILL_FETCH_DONE (R420). -/
def execSpillFetchDone (t : Nat) (queue : Nat) (bad : BitVec 8) (s : State) : Host.Outcome State Fault Refusal :=
  run t s fun s => s.spillFetch queue bad.toNat

end Sys2Proof.Machine
end

