-- ==== Sys2Proof/Machine/Lh.lean ====
section
/-!
DEFINITION. Sys2Proof/Machine/Lh.lean: radios L and H (11_radios_l_h): service, channels, reserved mesh intervals,
COXA, front-end pins, calibration, and the fault of a radio.
-/

namespace Sys2Proof.Machine

/-! ## The two radios -/

/-- A field of the `LRX_` block, or the same of `HRX_`. -/
def Fld.on (f : Fld) (h : Bool) : Fld := if h then ⟨f.off + 0x40000, f.hi, f.lo⟩ else f

def State.radio (s : State) (h : Bool) : Radio := if h then s.lh.h else s.lh.l
def State.setRadio (s : State) (h : Bool) (r : Radio) : State :=
  { s with lh := if h then { s.lh with h := r } else { s.lh with l := r } }

/-- The effective field of a radio in `PWR_RADIO_PERS`. -/
def radioEff (h : Bool) : Fld := if h then F.PWR_RADIO_PERS_h_eff else F.PWR_RADIO_PERS_l_eff

/-- A channel or full calibration is under way. -/
def State.calBusy (s : State) (h : Bool) : Bool :=
  let c := s.fld (F.LRX_STAT_cal.on h)
  (c == 1 || c == 2) && decide ((s.radio h).calAt ≤ s.now)

/-- The radio serves: in Full, in its effective personality, calibrated (R59, R330, R332, R338). -/
def State.lhServes (s : State) (h : Bool) : Bool :=
  s.inFull && s.fld (radioEff h) != 0 && !(s.radio h).stopped && !(s.radio h).switching && !s.calBusy h

/-- `WLN_CTRL` takes effect for a radio at the end of the PPDU in progress. -/
def State.wlnLatch (s : State) (h : Bool) : State :=
  if (s.radio h).tx.isSome then s else s.latchFld (if h then F.WLN_CTRL_run_h else F.WLN_CTRL_run_l)

/-- Wi-Fi is served on the radio (R361). -/
def State.wifiOn (s : State) (h : Bool) : Bool :=
  let e := s.fld (radioEff h)
  s.lhServes h && (h || e == 1 || e == 2) && s.eFlag (if h then F.WLN_CTRL_run_h else F.WLN_CTRL_run_l)

/-! ## Channels (R316 to R318) -/

/-- A `LRX_CHAN_CFG` word is a channel of R316. -/
def lChanOk (w : Word) : Bool :=
  let p := bitsN w.toNat 3 0
  let sec := bitsN w.toNat 9 8
  decide (1 ≤ p) && decide (p ≤ 13) && sec != 3 && (sec != 1 || decide (p ≤ 9)) && (sec != 2 || decide (5 ≤ p)) &&
    bitsN w.toNat 7 4 == 0 && bitsN w.toNat 31 10 == 0

/-- The centre channels of each width in the 5 GHz and 6 GHz ranges, as IEEE 802.11 numbers them. -/
def hCentreOk (band width c : Nat) : Bool :=
  if band = 0 then
    let low (first step last : Nat) : Bool := decide (first ≤ c) && decide (c ≤ last) && (c - first) % step == 0
    match width with
    | 0 => low 36 4 64 || low 100 4 144 || low 149 4 177
    | 1 => low 38 8 62 || low 102 8 142 || low 151 8 175
    | 2 => low 42 16 58 || low 106 16 138 || low 155 16 171
    | 3 => c == 50 || c == 114 || c == 163
    | _ => false
  else
    let grid (first step last : Nat) : Bool := decide (first ≤ c) && decide (c ≤ last) && (c - first) % step == 0
    match width with
    | 0 => grid 1 4 233
    | 1 => grid 3 8 227
    | 2 => grid 7 16 215
    | 3 => grid 15 32 207
    | 4 => grid 31 64 159
    | 5 => grid 63 64 191
    | _ => false

/-- 20 MHz subchannels of a width code. -/
def subChans (width : Nat) : Nat := 2 ^ min 4 width

/-- A `HRX_CHAN_CFG` word is a channel of R316. -/
def hChanOk (w : Word) : Bool :=
  let n := w.toNat
  hCentreOk (bitsN n 31 31) (bitsN n 26 24) (bitsN n 15 8) && decide (bitsN n 3 0 < subChans (bitsN n 26 24)) &&
    bitsN n 30 27 == 0 && bitsN n 23 16 == 0 && bitsN n 7 4 == 0

/-- A channel word of a radio is valid (R317). -/
def chanOk (h : Bool) (w : Word) : Bool := if h then hChanOk w else lChanOk w

/-- A `LRX_MESH_CH` map is valid: numbers 11 to 26, none named twice (R318). -/
def meshMapOk (w0 w1 : Word) : Bool :=
  let bytes := (List.range 8).map fun k => bitsN (if k < 4 then w0 else w1).toNat (8 * (k % 4) + 7) (8 * (k % 4))
  let ch := (bytes.filter fun b => bitN b 7).map fun b => b % 32
  ch.all (fun c => decide (11 ≤ c) && decide (c ≤ 26)) && decide ch.Nodup && bytes.all fun b => b / 32 % 4 == 0

/-! ## Reserved intervals (R328, R352) -/

/-- The reserved intervals of a slot: start and end in ns from its boundary, and whether the mesh transmits. -/
def State.ivls (s : State) (slot : Nat) : List (Nat × Nat × Bool) :=
  if s.ml.isD slot then [(1950000, 6300000, true), (20700000, 21550000, false)]
  else (if s.eFlag F.LRX_MESH_CFG_u_protect then [(1000000, 7300000, false)] else []) ++ [(20850000, 21550000, true)]

/-- The intervals of this slot and the next, with absolute times. -/
def State.ivlsAbs (s : State) : List (Nat × Nat × Bool) :=
  let at_ (slot base : Nat) := (s.ivls slot).map fun (i : Nat × Nat × Bool) => (base + i.1, base + i.2.1, i.2.2)
  at_ s.ml.slot s.ml.slotAt ++ at_ (s.ml.slot + 1) (s.ml.slotAt + 25000000)

/-- Intervals are reserved on L: the mesh and Wi-Fi share it. -/
def State.reserves (s : State) : Bool := s.inFull && s.fld F.PWR_RADIO_PERS_l_eff == 2

/-- The interval that an instant lies in. -/
def State.ivlAt (s : State) (t : Nat) : Option (Nat × Nat × Bool) :=
  s.ivlsAbs.find? fun i => decide (i.1 ≤ t) && decide (t < i.2.1)

/-- Time left for Wi-Fi on L until the next reserved interval, less `trim_guard`; none where nothing is reserved. -/
def State.ivlLeft (s : State) (h : Bool) : Option Nat :=
  if h || !s.reserves then none
  else
    let guard := usNs (max 16 (s.eFld F.WLN_TRIM_CFG_trim_guard))
    if (s.ivlAt s.now).isSome then some 0
    else match (s.ivlsAbs.filter fun i => decide (s.now < i.1)).map (·.1) with
      | [] => some 0
      | t :: ts => some (ts.foldl min t - s.now - guard)

/-- Time left until 24.500 ms of a slot for which the peer has announced a revert (R508). -/
def State.revertLeft (s : State) : Option Nat :=
  if s.tw.peerRevert = some s.ml.slot then some (s.ml.slotAt + 24500000 - s.now) else none

/-- Time left for Wi-Fi on a radio. -/
def State.timeLeft (s : State) (h : Bool) : Option Nat :=
  match s.ivlLeft h, s.revertLeft with
  | some a, some b => some (min a b)
  | some a, none => some a
  | none, b => b

/-- The exchange of a duration fits before the next interval. -/
def State.fits (s : State) (h : Bool) (dur : Nat) : Bool := match s.timeLeft h with
  | some t => decide (dur ≤ t)
  | none => true

/-! ## COXA (R333 to R337) -/

def coxaRegs : List Nat := [0x440000, 0x440004]

/-- A mesh transmit interval starts within `preempt_lead`. -/
def State.meshSoon (s : State) : Bool :=
  let lead := usNs (clamp 20 1000 (s.eFld F.COX_A_TIME_preempt_lead))
  decide (2 ≤ s.fld F.PWR_RADIO_PERS_l_eff) &&
    s.ivlsAbs.any fun i => i.2.2 && decide (s.now < i.2.1) && decide (i.1 ≤ s.now + lead)

/-- The level of COXA_EXT_GNT follows its request, L's activity and the mesh (R335, R337). -/
def State.coxaGrant (s : State) : State :=
  let req := s.flag F.COX_A_STAT_ext_req
  let held := s.flag F.COX_A_STAT_ext_gnt
  let level : Bool :=
    if s.isShadow || !req then false
    else if !s.eFlag F.COX_A_CFG_ext_en || !s.lhServes false then true
    else held || (s.lh.l.tx.isNone && s.lh.l.queue.all (fun p => !p.granted && !p.resp) && !s.meshSoon)
  s.setFld F.COX_A_STAT_ext_gnt level.toNat

/-- COXA_EXT_REQ rises or falls. -/
def State.coxaReq (s : State) (level : Bool) : State := (s.setFld F.COX_A_STAT_ext_req level.toNat).coxaGrant

/-- COXA_GNT is sampled for a request; true: the request is refused, and counted (R334). -/
def State.coxaSample (s : State) (gnt : Bool) : Bool × State :=
  let s := (s.latchRegs coxaRegs).setFld F.COX_A_STAT_gnt gnt.toNat
  if s.eFlag F.COX_A_CFG_en && !gnt && s.eFlag F.COX_A_CFG_honour_gnt then (true, s.count F.COX_A_STAT_denied)
  else (false, s)

/-- The levels of COXA_REQ and COXA_PRI; both stay low with `en` = 0 and on a Shadow. -/
def State.coxaPins (s : State) (req pri : Bool) : State :=
  let on := s.eFlag F.COX_A_CFG_en && !s.isShadow
  { s with lh := { s.lh with coxaReq := req && on, coxaPri := pri && on } }

/-- Mesh carriers of L complete LATE: none is sent. -/
def State.meshLate (s : State) : State :=
  match s.lh.mesh with
  | none => s
  | some (_, cs) => ({ s with lh := { s.lh with mesh := none } }).each cs State.linkUnsent

/-- COXA_PREEMPT: a mesh transmit interval falls due while the external radio holds a grant (R336). -/
def State.coxaPreempt (s : State) : State :=
  let s := s.latchRegs coxaRegs
  if !s.flag F.COX_A_STAT_ext_gnt || !s.eFlag F.COX_A_CFG_ext_en || s.isShadow || !s.lhServes false || !s.meshSoon then s
  else if s.eFlag F.COX_A_CFG_ext_preempt then (s.setFld F.COX_A_STAT_ext_gnt 0).count F.COX_A_STAT_preempt
  else s.meshLate

/-- A reserved interval that has ended is over (R328, R333). -/
def State.ivlSettle (s : State) : State :=
  match s.lh.ivlEnd with
  | none => s
  | some e =>
    if s.now < e then s
    else
      let s := { s with lh := { s.lh with ivlEnd := none, ivlDenied := false } }
      ((s.setFld F.LRX_STAT_reserved_ivl 0).coxaPins false false).coxaGrant

/-- The carriers that wait are a receipt burst. -/
def State.meshBurst (s : State) : Bool := match s.lh.mesh with
  | some (_, cs) => cs.all (·.receipt) && !s.ml.isD s.ml.slot
  | none => !s.ml.isD s.ml.slot

/-- RESERVED_INTERVAL_START: the interval of this instant begins (R328, R329, R333, R334, R336); `busy`: a Wi-Fi PPDU
is in reception on L. -/
def State.ivlStart (s : State) (gnt busy : Bool) : State :=
  let s := s.ivlSettle
  if !s.inFull || decide (s.fld F.PWR_RADIO_PERS_l_eff < 2) || s.lh.ivlEnd.isSome || !s.lhServes false then s
  else match s.ivlAt s.now with
    | none => s
    | some (_, e, tx) =>
      let s := (s.latchRegs coxaRegs).setFld F.LRX_STAT_reserved_ivl 1
      let s := { s with lh := { s.lh with ivlEnd := some e } }
      if !tx then (if s.eFlag F.COX_A_CFG_req_rx then s.coxaPins true false else s)
      else
        let s := if busy && s.reserves && !s.isShadow then s.count F.LRX_ERR_wifi_abandoned else s
        if s.isShadow then s
        else
          let s := s.coxaPreempt
          let s := s.coxaPins true true
          let ext := s.flag F.COX_A_STAT_ext_gnt && s.eFlag F.COX_A_CFG_ext_en
          if s.meshBurst && s.eFlag F.COX_A_CFG_rcpt_override && !ext then s.setFld F.COX_A_STAT_gnt gnt.toNat
          else
            let (no, s) := s.coxaSample gnt
            if no || ext then { s with lh := { s.lh with ivlDenied := true } }.meshLate else s

/-! ## Front-end pins (R324 to R326) -/

/-- The chains a transmission uses. -/
def State.chains (s : State) (h mesh : Bool) : Nat :=
  if h then s.fld F.HRX_FEM_CFG_chains else if mesh then 1 else 3

/-- The pins go to transmission. -/
def State.lhPins (s : State) (h mesh : Bool) : State :=
  let s := s.latchFld (F.LRX_FEM_CFG_pa_mode.on h)
  let c := s.chains h mesh
  let r := { s.radio h with paEn := c, paMode := s.eFld (F.LRX_FEM_CFG_pa_mode.on h), trsw := if h then c else 0 }
  (s.setRadio h r).setFld (F.LRX_STAT_tx_active.on h) 1

/-- The pins return to receive; the transmission is over. -/
def State.lhPinsOff (s : State) (h : Bool) : State :=
  let r := { s.radio h with paEn := 0, paMode := 0, trsw := 0, tx := none }
  (s.setRadio h r).setFld (F.LRX_STAT_tx_active.on h) 0

/-! ## Calibration (R330 to R332) -/

/-- The offset of a radio's channel word. -/
def chanOff (h : Bool) : Nat := if h then 0x1C0004 else 0x180004

/-- A calibration begins on the channel of a switch that waited for one (R367). -/
def Radio.swStart (r : Radio) : Radio := match r.switch with
  | some (w, p, 1) => { r with switch := some (w, p, 0) }
  | _ => r

/-- Begin a calibration: 1 channel, 2 full.  A channel calibration of L beside the mesh waits for 6.300 ms of the next
D slot. -/
def State.calBegin (s : State) (h : Bool) (kind : Nat) : State :=
  let r := s.radio h
  if !h && kind = 1 && s.reserves then
    (s.setRadio h { r with held := max r.held kind }).setFld (F.LRX_CAL_STAT_pending.on h) 1
  else (s.setRadio h { r.swStart with calAt := s.now }).setFld (F.LRX_STAT_cal.on h) kind

/-- At a D slot's boundary a channel calibration that waits is placed at 6.300 ms (R331). -/
def State.calSlot (s : State) : State :=
  let r := s.lh.l
  if r.held = 1 ∧ s.fld F.LRX_STAT_cal = 0 ∧ s.ml.isD s.ml.slot then
    ((s.setRadio false { r.swStart with held := 0, calAt := s.ml.slotAt + 6300000 }).setFld F.LRX_CAL_STAT_pending 0).setFld
      F.LRX_STAT_cal 1
  else s

/-- A calibration is requested in Full: it is held while one is under way (R331). -/
def State.calRequest (s : State) (h : Bool) (kind : Nat) : State :=
  if !s.inFull || s.fld (radioEff h) = 0 || (s.radio h).stopped then s
  else if s.fld (F.LRX_STAT_cal.on h) ≠ 0 then
    let r := s.radio h
    (s.setRadio h { r with held := max r.held kind }).setFld (F.LRX_CAL_STAT_pending.on h) 1
  else s.calBegin h kind

/-- MPDUs that were not acknowledged go back to their clients, first in line. -/
def State.retryBack (s : State) (ms : List Mpdu) : State :=
  let put (k : Nat) (c : Client) : Client := { c with retry := (ms.filter fun m => m.client == k) ++ c.retry }
  { s with wl := { s.wl with clients := s.wl.clients.map fun c => (c.1, put c.1 c.2) } }

/-- A PPDU that does not leave: its MPDUs go back, a management frame stays first in the queue, a response is lost. -/
def State.ppduBack (s : State) (h : Bool) (p : Ppdu) : State :=
  let s := s.retryBack p.mpdus
  if p.key.isSome then
    let r := s.radio h
    s.setRadio h { r with queue := p :: r.queue }
  else s

/-- A transmission under way on a radio ends without being sent out whole. -/
def State.lhAbort (s : State) (h : Bool) : State :=
  match (s.radio h).tx with
  | none => s
  | some (.wifi p _) => (s.lhPinsOff h).ppduBack h p
  | some (.mesh cs _) => (s.lhPinsOff h).each cs State.linkUnsent

/-- The PPDUs that wait on a radio go back where they came from. -/
def State.lhFlush (s : State) (h : Bool) : State :=
  let r := s.radio h
  let s := s.setRadio h { r with queue := r.queue.filter fun p => p.key.isSome }
  s.each r.queue fun s p => s.retryBack p.mpdus

/-- A radio stops after a second failure: a class 0x3 fault, with serviceable falling (R332, R492, R549). -/
def State.lhStops (s : State) (h : Bool) : State :=
  let s := (s.lhAbort h).lhFlush h
  let r := s.radio h
  let s := (s.setRadio h { r with stopped := true, switching := false, held := 0, repeated := false }).setFld (radioEff h) 0
  let s := (s.setFld (F.LRX_CAL_STAT_pending.on h) 0).setFld F.TEL_FAULT_radio 1
  let s := if r.switch.isSome then (s.setRadio h { s.radio h with switch := none }).finishKey 0x0305 h.toNat stHW_FAULT else s
  (s.faultEv 0x3 (if h then 15 else 14) 0).claimFell

/-- The `radio` bit of `TEL_FAULT` follows its condition: a radio has stopped (R549); serviceable follows it. -/
def State.radioFault (s : State) : State :=
  (s.setFld F.TEL_FAULT_radio (s.rs.stopped || s.lh.l.stopped || s.lh.h.stopped).toNat).reclaim

/-- A radio's calibration results are in use; the full calibration of a radio that is being switched on ends its
fault. -/
def State.calGood (s : State) (h : Bool) (kind : Nat) (temp : Int) : State :=
  let s := (((s.setFld (F.LRX_STAT_cal_valid.on h) 1).setFld (F.LRX_STAT_lock.on h) 1).count
    (F.LRX_CAL_STAT_count.on h)).setFld (F.LRX_CAL_STAT_last_temp.on h) (codeN 8 temp)
  let w := s.word (chanOff h)
  let s := if kind = 2 then { s with nv := if h then { s.nv with calH := some w } else { s.nv with calL := some w } } else s
  let r := s.radio h
  let s := s.setRadio h
    { r with repeated := false, switching := false, stopped := r.stopped && !r.switching, trackAt := s.now, trackTemp := temp }
  if r.switching then s.radioFault.setFld (radioEff h) (s.fld (if h then F.PWR_RADIO_PERS_h_en else F.PWR_RADIO_PERS_l_mode)) else s

/-- LH_CAL_DONE: a channel or full calibration ends (R331, R332, R367). -/
def State.calDone (s : State) (h ok : Bool) (temp : Int) : State :=
  let kind := s.fld (F.LRX_STAT_cal.on h)
  let r := s.radio h
  if (kind ≠ 1 ∧ kind ≠ 2) ∨ s.now < r.calAt then s
  else
    let s := s.setFld (F.LRX_STAT_cal.on h) 0
    if ok then
      let s := s.calGood h kind temp
      let s := match (s.radio h).switch with
        | some (_, _, 0) =>
          (s.setRadio h { s.radio h with switch := none }).finishKey 0x0305 h.toNat stOK
        | _ => s
      let r := s.radio h
      if r.held = 0 then s
      else
        ((s.setRadio h { r with held := 0 }).setFld (F.LRX_CAL_STAT_pending.on h) 0).calBegin h r.held
    else
      let s := s.setFld (F.LRX_CAL_STAT_failed.on h) 1
      if r.repeated then s.lhStops h
      else (s.setRadio h { r with repeated := true }).calBegin h kind

/-- A gap for a tracking piece (R331). -/
def State.calGap (s : State) (h : Bool) : Bool :=
  let r := s.radio h
  let sp : Bool := s.wl.clients.any fun c => match c.2.link h with
    | some x => (match x.sp with
      | some e => decide (s.now < e)
      | none => false)
    | none => false
  let off := s.now - s.ml.slotAt
  r.tx.isNone && r.queue.isEmpty && !sp &&
    (h || decide (s.fld F.PWR_RADIO_PERS_l_eff < 2) || (decide (21550000 ≤ off) && decide (off + 200000 ≤ 24900000)))

/-- LH_TRACKING_PIECE: a piece of a due tracking cycle; with the `last` the cycle is complete. -/
def State.trackPiece (s : State) (h last : Bool) (temp : Int) : State :=
  let r := s.radio h
  let delta : Int := (max 2 (s.fld (F.LRX_CAL_CFG_temp_delta.on h)) : Nat)
  let per := s.fld (F.LRX_CAL_CFG_track_s.on h)
  let due : Bool := decide (delta ≤ temp - r.trackTemp) || decide (delta ≤ r.trackTemp - temp) ||
    (per != 0 && decide (r.trackAt + secNs per ≤ s.now))
  if !s.lhServes h || !due || !s.calGap h || !last then s
  else
    let s := (s.count (F.LRX_CAL_STAT_count.on h)).setFld (F.LRX_CAL_STAT_last_temp.on h) (codeN 8 temp)
    s.setRadio h { r with trackAt := s.now, trackTemp := temp }

/-! ## The antenna selection of L (R323) -/

/-- At a slot boundary with nothing in progress on L, L_ANTSEL follows `antsel`; a trained choice is the firmware's. -/
def State.antSlot (s : State) : State :=
  if s.lh.l.tx.isSome || !s.inFull || s.fld F.PWR_RADIO_PERS_l_eff = 0 then s
  else
    let s := s.latchFld F.LRX_ANT_CFG_antsel
    match s.eFld F.LRX_ANT_CFG_antsel with
    | 1 => s.setFld F.LRX_STAT_antsel 1
    | 2 => (s.setFld F.LRX_STAT_antsel (s.freeVal 1)).useFree
    | _ => s.setFld F.LRX_STAT_antsel 0

/-- What a slot boundary brings to L. -/
def State.lhSlot (s : State) : State :=
  let s := ((s.latchFld F.LRX_MESH_CFG_div_mode).latchFld F.LRX_MESH_CFG_step_en).latchFld F.LRX_MESH_CFG_u_protect
  s.ivlSettle.calSlot.antSlot

/-! ## Meanings -/

/-- LH_CAL_DONE (R332). -/
def execLhCalDone (t : Nat) (h ok : Bool) (temp : Int) (s : State) : Host.Outcome State Fault Refusal :=
  run t s fun s => s.calDone h ok temp

/-- LH_TRACKING_PIECE (R331). -/
def execLhTrackingPiece (t : Nat) (h last : Bool) (temp : Int) (s : State) : Host.Outcome State Fault Refusal :=
  run t s fun s => s.trackPiece h last temp

/-- COXA_EXT_REQ_RISE (R335). -/
def execCoxaExtReqRise (t : Nat) (s : State) : Host.Outcome State Fault Refusal := run t s fun s => s.coxaReq true

/-- COXA_EXT_REQ_FALL (R335). -/
def execCoxaExtReqFall (t : Nat) (s : State) : Host.Outcome State Fault Refusal := run t s fun s => s.coxaReq false

/-- COXA_PREEMPT (R336). -/
def execCoxaPreempt (t : Nat) (s : State) : Host.Outcome State Fault Refusal := run t s State.coxaPreempt

/-- RESERVED_INTERVAL_START (R329). -/
def execReservedIntervalStart (t : Nat) (gnt busy : Bool) (s : State) : Host.Outcome State Fault Refusal :=
  run t s fun s => s.ivlStart gnt busy

end Sys2Proof.Machine
end

