-- ==== Sys2Proof/Machine/WifiSet.lean ====
section
/-!
DEFINITION. Sys2Proof/Machine/WifiSet.lean: BSSs, clients and keys of the Wi-Fi side, and the ring commands that set
and read them (R339 to R347, R356 to R368).
-/

namespace Sys2Proof.Machine

/-! ## Clients, BSSs, keys -/

/-- The place of a BSS in the table. -/
def bssKey (h : Bool) (n : Nat) : Nat := h.toNat * 16 + n
def State.bss (s : State) (h : Bool) (n : Nat) : Option Bss := Tbl.get? s.wl.bss (bssKey h n)

/-- The BSSID of BSS n (R340). -/
def State.bssid (s : State) (h : Bool) (n : Nat) : Option Nat :=
  (s.bss h 0).map fun b => b.bssid / 16 * 16 + (b.bssid % 16 + n) % 16

/-- A client's link replaced. -/
def Client.setLink (c : Client) (h : Bool) (x : Option WLink) : Client := if h then { c with h := x } else { c with l := x }
def State.setClient (s : State) (k : Nat) (c : Client) : State :=
  { s with wl := { s.wl with clients := Tbl.put s.wl.clients k c } }

/-- The client with a link address on a radio. -/
def State.clientAt (s : State) (h : Bool) (addr : Nat) : Option (Nat × Client) :=
  s.wl.clients.find? fun c => match c.2.link h with
    | some x => x.addr == addr
    | none => false
/-- The client with an MLD address. -/
def State.clientMld (s : State) (mld : Nat) : Option (Nat × Client) := s.wl.clients.find? fun c => c.2.mld == mld

/-- Link contexts in use. -/
def State.linkCnt (s : State) : Nat := (s.wl.clients.map fun c => c.2.l.isSome.toNat + c.2.h.isSome.toNat).sum
/-- Clients of a BSS. -/
def State.bssCnt (s : State) (h : Bool) (n : Nat) : Nat :=
  (s.wl.clients.filter fun c => match c.2.link h with
    | some x => x.bss == n
    | none => false).length

/-- The configured BSSs that have a BSSID, on either radio. -/
def State.bssAt (s : State) (mac : Nat) : Option Bss :=
  (s.wl.bss.find? fun b => s.bssid (decide (16 ≤ b.1)) (b.1 % 16) == some mac).map (·.2)

def WKey.same (k : WKey) (target kind id : Nat) : Bool := k.target == target && k.kind == kind && k.id == id
def PnRec.same (r : PnRec) (target kind id : Nat) : Bool := r.target == target && r.kind == kind && r.id == id
def State.wkey (s : State) (target kind id : Nat) : Option WKey := s.wl.keys.find? fun k => k.same target kind id
/-- Replace an installed key. -/
def State.setWKey (s : State) (k : WKey) : State :=
  { s with wl := { s.wl with keys := s.wl.keys.map fun x => if x.same k.target k.kind k.id then k else x } }
/-- The pairwise key that a client's frames are sent under. -/
def State.txKey (s : State) (mld : Nat) : Option WKey :=
  s.wl.keys.find? fun k => k.target == mld && k.kind == 0 && k.txUse

/-- The MPDUs that satisfy a condition leave a radio's PPDUs. -/
def Radio.dropMpdus (r : Radio) (f : Mpdu → Bool) : Radio :=
  let cut (p : Ppdu) : Ppdu := { p with mpdus := p.mpdus.filter fun m => !f m }
  { r with
    queue := r.queue.map cut
    tx := match r.tx with
      | some (.wifi p t) => some (.wifi (cut p) t)
      | x => x }

/-- MPDUs that wait, in retry or in a PPDU, are dropped; `key_gone` counts those that were encrypted (R357). -/
def State.dropMpdus (s : State) (f : Mpdu → Bool) : State :=
  let all := (s.wl.clients.map (·.2.retry)).flatten ++ s.lh.l.mpdus ++ s.lh.h.mpdus
  let n := (all.filter fun m => f m && m.keyId.isSome).length
  let s := s.count F.WLN_SEC_ERR2_key_gone n
  let clients := s.wl.clients.map fun (c : Nat × Client) => (c.1, { c.2 with retry := c.2.retry.filter fun m => !f m })
  ({ s with
    wl := { s.wl with clients := clients }
    lh := { s.lh with l := s.lh.l.dropMpdus f, h := s.lh.h.dropMpdus f } }).updatePool

/-! ## WLN_BSS_SET (R340, R341, R363) -/

/-- The TBTT after an instant of an interval in TU, on the device's time. -/
def nextTbtt (now tu : Nat) : Nat := let p := max 1 tu * 1024000; (now / p + 1) * p

/-- WLN_BSS_SET on one record. -/
def State.bssSet (s : State) (b : Bytes) : BlockReply :=
  let h : Bool := b.le 0 1 == 1
  let n := b.le 1 1
  let op := b.le 2 1
  let mld := b.le 3 1
  let bad : BlockReply := { status := stBAD_ARG, st := s }
  let others : Bool := (List.range 16).any fun i => i != 0 && (s.bss h i).isSome
  if 1 < b.le 0 1 ∨ 15 < n ∨ 1 < op ∨ !Bytes.zero (Bytes.slice b 50 13) then bad
  else if op = 1 then
    if n = 0 ∧ others then bad
    else { status := stOK, st := { s with wl := { s.wl with bss := Tbl.del s.wl.bss (bssKey h n) } } }
  else
    let int := b.le 12 2
    let dup : Bool := mld != 0xFF && (List.range 16).any fun i => i != n && match s.bss h i with
      | some x => x.mld == mld
      | none => false
    if (15 < mld ∧ mld ≠ 0xFF) ∨ 32 < b.le 10 1 ∨ 7 < b.le 11 1 ∨ int < 15 ∨ 1000 < int ∨ b.le 14 1 = 0 ∨ b.le 15 1 = 0 ∨
        4 < b.le 15 1 ∨ b.le 16 2 = 0 ∨ 512 < b.le 16 2 ∨ (n ≠ 0 ∧ (s.bss h 0).isNone) ∨ dup then bad
    else
      let x : Bss :=
        { mld := mld, bssid := if n = 0 then b.le 4 6 else 0, ssid := Bytes.slice b 18 (b.le 10 1), flags := b.le 11 1,
          bcnInt := int, dtim := b.le 14 1, cipher := b.le 15 1, maxClients := b.le 16 2, tbtt := nextTbtt s.now int }
      { status := stOK, st := { s with wl := { s.wl with bss := Tbl.put s.wl.bss (bssKey h n) x } } }

/-! ## WLN_CLIENT_SET (R342, R345, R364, R366) -/

/-- The links a client record sets up (R345): without STR, the one named first. -/
def clientLinks (links caps : Nat) : Bool × Bool :=
  if bitN links 0 && bitN links 1 && !bitN caps 5 then (bitN links 7, !bitN links 7) else (bitN links 0, bitN links 1)

/-- A link context as a record gives it; what is known of an unchanged link stays. -/
def WLink.renew (old : Option WLink) (on : Bool) (addr bss : Nat) : Option WLink :=
  if !on then none
  else match old with
    | some x => if x.addr = addr ∧ x.bss = bss then some x else some { addr := addr, bss := bss }
    | none => some { addr := addr, bss := bss }

/-- A client is deleted: its queued frames, MPDUs, keys and agreements go with it, and what was learnt behind it. -/
def State.clientDel (s : State) (k : Nat) (c : Client) : State :=
  let s := s.dropMpdus fun m => m.client == k
  let s := s.each (List.range 8) fun s t => s.dropQueue (wifiQ k t)
  let s : State := { s with
    wl := { s.wl with clients := Tbl.del s.wl.clients k, keys := s.wl.keys.filter fun x => !(x.kind == 0 && x.target == c.mld) }
    nv := { s.nv with pnRecs := s.nv.pnRecs.filter fun x => !(x.kind == 0 && x.target == c.mld) } }
  s.macForget (0x1000 + k)

/-- WLN_CLIENT_SET on one record. -/
def State.clientSet (s : State) (b : Bytes) : BlockReply :=
  let mld := b.le 0 6
  let op := b.le 6 1
  let links := b.le 7 1
  let bl := b.le 20 1
  let bh := b.le 21 1
  let caps := b.le 22 1
  let flags := b.le 23 1
  let bad : BlockReply := { status := stBAD_ARG, st := s }
  let old := s.clientMld mld
  if 2 < op ∨ !Bytes.zero (Bytes.slice b 24 7) then bad
  else if op = 2 then match old with
    | some (k, c) => { status := stOK, st := s.clientDel k c }
    | none => bad
  else
    let l := bitN links 0
    let h := bitN links 1
    let k0 := old.map (·.1)
    let taken (hh : Bool) (a : Nat) : Bool := match s.clientAt hh a with
      | some (k, _) => k0 != some k
      | none => false
    if bitsN links 6 2 ≠ 0 ∨ !(l || h) ∨ caps % 4 = 3 ∨ 63 < caps ∨ 3 < flags ∨ (l ∧ 15 < bl) ∨ (h ∧ 15 < bh) then bad
    else if (l ∧ (s.bss false bl).isNone) ∨ (h ∧ (s.bss true bh).isNone) then bad
    else if (op = 0 ∧ old.isSome) ∨ (op = 1 ∧ old.isNone) ∨ (l ∧ taken false (b.le 8 6)) ∨ (h ∧ taken true (b.le 14 6)) then bad
    else
      let (onL, onH) := clientLinks links caps
      let c0 : Client := match old with
        | some (_, c) => c
        | none => { mld := mld, links := 0, caps := 0, flags := 0 }
      let c : Client := { c0 with
        links := links
        caps := caps
        flags := flags
        l := WLink.renew c0.l onL (b.le 8 6) bl
        h := WLink.renew c0.h onH (b.le 14 6) bh }
      let others : State := { s with wl := { s.wl with clients := match k0 with
        | some k => Tbl.del s.wl.clients k
        | none => s.wl.clients } }
      let full (hh on : Bool) (n : Nat) : Bool := on && match s.bss hh n with
        | some x => decide (x.maxClients ≤ others.bssCnt hh n)
        | none => false
      if (op = 0 ∧ 512 ≤ s.wl.clients.length) ∨ 1024 < others.linkCnt + onL.toNat + onH.toNat ∨ full false onL bl ∨
          full true onH bh then { status := stNO_ROOM, st := s }
      else match k0.orElse fun _ => Tbl.firstFree s.wl.clients 0 512 with
        | some k => { status := stOK, st := s.setClient k c }
        | none => { status := stNO_ROOM, st := s }

/-! ## WLN_KEY_SET (R357, R359, R360, R365) -/

/-- A key ID is one of its kind. -/
def keyIdOk (kind id : Nat) : Bool := match kind with
  | 0 => decide (id ≤ 1)
  | 1 => id == 1 || id == 2
  | 2 => id == 4 || id == 5
  | 3 => id == 6 || id == 7
  | _ => false

/-- The cipher is one of its kind, and the key has its length. -/
def keyCipherOk (kind cipher : Nat) (key : Bytes) : Bool :=
  (if kind ≤ 1 then decide (1 ≤ cipher) && decide (cipher ≤ 4) else cipher == 5 || cipher == 6) &&
    (cipher == 3 || cipher == 4 || cipher == 6 || Bytes.zero (key.drop 16))

/-- The cipher matches that of the BSSs of the key's client, or of its BSS; none where there is no such client or
BSS. -/
def State.keyFits (s : State) (target kind cipher : Nat) : Bool :=
  if kind = 0 then match s.clientMld target with
    | some (_, c) =>
      let ok (h : Bool) : Bool := match c.link h with
        | some x => (match s.bss h x.bss with
          | some b => b.cipher == cipher
          | none => true)
        | none => true
      ok false && ok true
    | none => false
  else match s.bssAt target with
    | some b => kind != 1 || b.cipher == cipher
    | none => false

/-- `tx_use` of a key; it is one key's of its target and kind. -/
def State.useKey (s : State) (target kind id : Nat) (on : Bool) : State :=
  { s with wl := { s.wl with keys := s.wl.keys.map fun k =>
    if k.target == target && k.kind == kind then
      (if k.id == id then { k with txUse := on } else if on then { k with txUse := false } else k)
    else k } }

/-- Install a key: a lease is granted from its first PN; a Shadow draws none (R359, R360). -/
def State.keyInstall (s : State) (target kind id cipher flags pn : Nat) (key : Bytes) : State :=
  let recEnd := ((s.nv.pnRecs.find? fun r => r.same target kind id).map (·.leaseEnd)).getD 0
  let start := if bitN flags 1 then max pn recEnd else pn
  let lease := if s.isShadow then start else start + 65536
  let k : WKey :=
    { target := target, kind := kind, id := id, cipher := cipher, txUse := false, key := key, pn := start, lease := lease,
      start := pn }
  let r : PnRec := { target := target, kind := kind, id := id, leaseEnd := lease }
  let s : State := { s with
    wl := { s.wl with keys := (s.wl.keys.filter fun x => !x.same target kind id) ++ [k] }
    nv := { s.nv with pnRecs := (s.nv.pnRecs.filter fun x => !x.same target kind id) ++ [r] } }
  if bitN flags 0 then s.useKey target kind id true else s

/-- Delete a key: its record is freed, and the MPDUs encrypted under it are dropped (R357, R359). -/
def State.keyDelete (s : State) (target kind id : Nat) : State :=
  let s := match (if kind = 0 then s.clientMld target else none) with
    | some (k, _) => s.dropMpdus fun m => m.client == k && m.keyId == some id
    | none => s
  { s with
    wl := { s.wl with keys := s.wl.keys.filter fun x => !x.same target kind id }
    nv := { s.nv with pnRecs := s.nv.pnRecs.filter fun x => !x.same target kind id } }

/-- WLN_KEY_SET on one record. -/
def State.keySet (s : State) (b : Bytes) : BlockReply :=
  let target := b.le 0 6
  let op := b.le 6 1
  let kind := b.le 7 1
  let id := b.le 8 1
  let cipher := b.le 9 1
  let flags := b.le 10 1
  let key : Bytes := Bytes.slice b 32 32
  let bad : BlockReply := { status := stBAD_ARG, st := s }
  if 2 < op ∨ !keyIdOk kind id ∨ 3 < flags ∨ b.le 11 1 ≠ 0 ∨ !Bytes.zero (Bytes.slice b 18 14) then bad
  else if op = 0 then
    if !keyCipherOk kind cipher key ∨ !s.keyFits target kind cipher then bad
    else { status := stOK, st := s.keyInstall target kind id cipher flags (b.le 12 6) key }
  else if (s.wkey target kind id).isNone then bad
  else if op = 1 then { status := stOK, st := s.keyDelete target kind id }
  else { status := stOK, st := s.useKey target kind id (bitN flags 0) }

/-! ## WLN_MGMT_TX, WLN_CHAN_SWITCH (R367) -/

/-- The WLN_MGMT_TX of a key is over. -/
def State.mgmtOver (s : State) (key status : Nat) : State :=
  match s.deferredKey 0x0304 key with
  | none => s
  | some d =>
    let s := { s with io := { s.io with hf := { s.io.hf with deferred := s.io.hf.deferred.erase d } } }
    let s := s.complete { sq := d.sq, tag := d.tag, status := status, gen := d.gen }
    { s with io := s.io.settle d.sq }

/-- A PPDU joins the queue of its radio. -/
def State.addPpdu (s : State) (h : Bool) (p : Ppdu) : State :=
  let r := s.radio h
  s.setRadio h { r with queue := r.queue ++ [p] }

/-- WLN_MGMT_TX's own rules: it completes when the frame has been sent. -/
def State.mgmtTx (s : State) (c : Cmd) : Reply :=
  let len := c.f 8 2
  let h : Bool := c.f 10 1 == 1
  if c.f 0 8 % 32 ≠ 0 ∨ len < 24 ∨ 2304 < len ∨ 1 < c.f 10 1 ∨ 15 < c.f 11 1 ∨ 1 < c.f 12 1 ∨ !c.zero 13 11 ∨
      (s.bss h (c.f 11 1)).isNone then Reply.err s stBAD_ARG
  else match c.readFails len with
  | some st => Reply.err s st
  | none =>
    if s.isShadow then Reply.err s stNOT_LEAD
    else
      let k := s.wl.mgmtKey + 1
      let d : Dfr :=
        { sq := c.sq.val, idx := s.io.hf.serial - 1, gen := c.gen.toNat, tag := c.tag.toNat, opcode := 0x0304, key := k }
      let s : State := { s with
        wl := { s.wl with mgmtKey := k }
        io := { s.io with hf := { s.io.hf with deferred := s.io.hf.deferred ++ [d] } } }
      let p : Ppdu := { kind := .mgmt, data := c.rd.take len, dur := 0, key := some k, wait := c.f 12 1 == 1 }
      { status := none, st := s.addPpdu h p }

/-- The new channel of a switch whose beacons have been sent: the radio goes to it by a channel calibration. -/
def State.switchNow (s : State) (h : Bool) : State :=
  match (s.radio h).switch with
  | some (w, p, 1) =>
    let s := s.setWord (chanOff h) w
    (s.setRadio h { s.radio h with punct := p }).calRequest h 1
  | _ => s

/-- A puncturing bitmap fits a channel of H: 80 MHz or wider, and not its primary subchannel. -/
def punctOk (w : Word) (p : Nat) : Bool :=
  let width := bitsN w.toNat 26 24
  p == 0 || (decide (2 ≤ width) && decide (p < 2 ^ subChans width) && !bitN p (bitsN w.toNat 3 0))

/-- WLN_CHAN_SWITCH's own rules. -/
def State.chanSwitch (s : State) (c : Cmd) : Reply :=
  let h : Bool := c.f 0 1 == 1
  let w : Word := BitVec.ofNat 32 (c.f 4 4)
  let p := c.f 8 2
  if 1 < c.f 0 1 ∨ !c.zero 2 2 ∨ !c.zero 10 14 ∨ !chanOk h w ∨ (!h ∧ p ≠ 0) ∨ (h ∧ !punctOk w p) then Reply.err s stBAD_ARG
  else if s.isShadow then Reply.err s stNOT_LEAD
  else if (s.radio h).switch.isSome then Reply.err s stNO_ROOM
  else
    let n := if s.wifiOn h && (s.bss h 0).isSome then c.f 1 1 else 0
    let s := s.setRadio h { s.radio h with switch := some (w, p, n + 1) }
    Reply.defer (if n = 0 then s.switchNow h else s) h.toNat

/-! ## WLN_CLIENT_GET (R368) -/

/-- Bytes of a link: BSS, RSSI, idle seconds. -/
def State.linkBytes (s : State) (x : Option WLink) : Nat × Nat × Nat := match x with
  | none => (0xFF, 0x80, 0xFFFF)
  | some x =>
    let rssi := match x.rssi with
      | some r => codeN 8 r
      | none => 0x80
    let idle := match x.heard with
      | some t => min 65534 ((s.now - t) / 1000000000)
      | none => 0xFFFF
    (x.bss, rssi, idle)

/-- WLN_CLIENT_GET on one record. -/
def State.clientGet (s : State) (b : Bytes) : BlockReply :=
  match s.clientMld (b.le 0 6) with
  | none => { status := stBAD_ARG, st := s }
  | some (k, c) =>
    let (bl, rl, il) := s.linkBytes c.l
    let (bh, rh, ih) := s.linkBytes c.h
    let (pn, id) := match s.txKey c.mld with
      | some x => (x.pn, x.id)
      | none => (0, 0xFF)
    let out := toLE 1 c.links ++ toLE 1 c.caps ++ toLE 1 c.flags ++ toLE 1 bl ++ toLE 1 bh ++ toLE 1 rl ++ toLE 1 rh ++
      toLE 2 il ++ toLE 2 ih ++ toLE 6 pn ++ toLE 1 id ++ toLE 2 k ++ toLE 1 c.twts.length ++ toLE 4 0
    { status := stOK, st := s, writes := [(6, out)] }

/-! ## Wi-Fi at a change of mode (R52, R361) -/

/-- Every BSS, client context, key and Wi-Fi frame is lost (R361); the frames of retries and PPDUs count as the queued
ones do (R422). -/
def State.wifiLost (s : State) : State :=
  let n := (s.wl.clients.map (·.2.retry.length)).sum + s.lh.l.mpdus.length + s.lh.h.mpdus.length
  let clear (r : Radio) : Radio := { r with queue := r.queue.filter fun p => p.key.isSome, switch := none, punct := 0 }
  let s := s.count F.QMS_DROP_mode_drop n
  { s with
    wl := { s.wl with bss := [], clients := [], keys := [] }
    lh := { s.lh with l := clear s.lh.l, h := clear s.lh.h } }

/-! ## Meanings -/

/-- WLN_BSS_SET (R363). -/
def execWlnBssSet (t : Nat) (c : Cmd) (s : State) : Host.Outcome State Fault Refusal :=
  ringCommand 0x0301 t c (fun s => blockRun c 64 63 10 s State.bssSet 64) s

/-- WLN_CLIENT_SET (R364). -/
def execWlnClientSet (t : Nat) (c : Cmd) (s : State) : Host.Outcome State Fault Refusal :=
  ringCommand 0x0302 t c (fun s => blockRun c 32 31 10 s State.clientSet 64) s

/-- WLN_KEY_SET (R365). -/
def execWlnKeySet (t : Nat) (c : Cmd) (s : State) : Host.Outcome State Fault Refusal :=
  ringCommand 0x0303 t c (fun s => blockRun c 64 63 10 s State.keySet 64) s

/-- WLN_MGMT_TX (R367). -/
def execWlnMgmtTx (t : Nat) (c : Cmd) (s : State) : Host.Outcome State Fault Refusal :=
  ringCommand 0x0304 t c (fun s => s.mgmtTx c) s

/-- WLN_CHAN_SWITCH (R367). -/
def execWlnChanSwitch (t : Nat) (c : Cmd) (s : State) : Host.Outcome State Fault Refusal :=
  ringCommand 0x0305 t c (fun s => s.chanSwitch c) s

/-- WLN_CLIENT_GET (R368). -/
def execWlnClientGet (t : Nat) (c : Cmd) (s : State) : Host.Outcome State Fault Refusal :=
  ringCommand 0x0306 t c (fun s => blockRun c 32 31 10 s State.clientGet 64 true) s

end Sys2Proof.Machine
end

