-- ==== Sys2Proof/Machine/Wifi.lean ====
section
/-!
DEFINITION. Sys2Proof/Machine/Wifi.lean: Wi-Fi in operation (R324 to R326, R341 to R355, R357 to R362): transmissions
of L and H, the trigger scheduler, received frames, target wake time, leases of packet numbers.
-/

namespace Sys2Proof.Machine

/-! ## The trigger scheduler (R346, R348 to R353) -/

/-- The scheduler's fields of a radio. -/
def schedFld (h : Bool) (f : Fld) : Fld := if h then ⟨f.off + 4, f.hi, f.lo⟩ else f
/-- The RW-L fields that take effect at a TXOP. -/
def State.schedLatch (s : State) : State := s.latchRegs [0x200010, 0x200014, 0x200018, 0x20001C, 0x200020]

/-- The TIDs of an access category (R342). -/
def acTids : Fin 4 → List Nat
  | 0 => [0, 3]
  | 1 => [1, 2]
  | 2 => [4, 5]
  | 3 => [6, 7]

/-- The client takes part in trigger-based exchanges: HE or EHT. -/
def Client.he (c : Client) : Bool := c.caps % 4 != 0

/-- OFDMA users of one PPDU (R339). -/
def State.ruCap (s : State) (h : Bool) : Nat := if !h && s.fld F.LRX_CHAN_CFG_sec == 0 then 9 else 16

/-- The Block Ack window of a client (R339). -/
def baWindow (h : Bool) (caps : Nat) : Nat :=
  if caps % 4 = 0 then 64 else if h && caps % 4 == 2 then 1024 else 256

/-- The client is awake on a radio: inside its service period where it has an agreement there (R348, R354). -/
def State.awake (s : State) (h : Bool) (c : Client) : Bool :=
  let inSp : Bool := match (c.link h).bind (·.sp) with
    | some e => decide (s.now < e)
    | none => false
  if c.twts.any fun a => a.h == h then inSp else !c.asleep

/-- The radio holds a TXOP. -/
def Radio.busy (r : Radio) : Bool := r.tx.isSome || !r.queue.isEmpty
/-- Airtime queued on a radio. -/
def Radio.load (r : Radio) : Nat := (r.queue.map (·.dur)).sum

/-- A client of both links is served on this radio now (R346). -/
def State.linkHere (s : State) (h : Bool) (c : Client) : Bool :=
  if c.l.isNone || c.h.isNone || !s.wifiOn (!h) then true
  else
    let other := s.radio (!h)
    let ivl : Bool := s.reserves && (s.ivlAt s.now).isSome && s.eFlag F.WLN_MLO_CFG_avoid_ivl
    match s.eFld F.WLN_MLO_CFG_link_pref with
    | 1 => decide ((s.radio h).load ≤ other.load)
    | 2 => if h then other.busy || ivl else true
    | _ => if h then true else !other.busy

/-- The head of a TID's queue may leave on this radio. -/
def State.tidReady (s : State) (h : Bool) (k t : Nat) : Bool :=
  match (s.queue (wifiQ k t)).pkts with
  | p :: _ => !p.spilled && s.shaperOk (2 + h.toNat) (wifiQ k t)
  | [] => false

/-- The client's key lets a frame be sent: its lease has not run out (R359). -/
def State.leaseOk (s : State) (c : Client) : Bool := match s.txKey c.mld with
  | some k => decide (k.pn < k.lease)
  | none => true

/-- The client has a frame of the category for this radio. -/
def State.hasFrame (s : State) (h : Bool) (ac : Fin 4) (k : Nat) (c : Client) : Bool :=
  let tids := acTids ac
  (c.retry.any fun m => tids.contains m.tid) || tids.any fun t => s.tidReady h k t

/-- Insert into a list ordered by key, largest first; equal keys keep the order of index. -/
def insertBy (x : Int × Nat) : List (Int × Nat) → List (Int × Nat)
  | [] => [x]
  | y :: ys => if y.1 < x.1 || (y.1 == x.1 && decide (x.2 < y.2)) then x :: y :: ys else y :: insertBy x ys

/-- Clients ordered by deficit, largest first, then by index. -/
def byDeficit (l : List (Int × Nat)) : List Nat := ((l.foldr insertBy []).map (·.2))

/-- Change a client's link. -/
def State.onLink (s : State) (h : Bool) (k : Nat) (f : WLink → WLink) : State :=
  match Tbl.get? s.wl.clients k with
  | some c => s.setClient k (c.setLink h ((c.link h).map f))
  | none => s

/-- Take one MPDU of a client for a radio: a retry first, then the head of a TID's queue under the transmit key's next
PN; none where nothing is left.  A lease that has run out stops the key, which is counted once (R359). -/
def State.takeMpdu (s : State) (h : Bool) (k : Nat) (tids : List Nat) : Option (Mpdu × State) :=
  match Tbl.get? s.wl.clients k with
  | none => none
  | some c =>
    match c.retry.find? fun m => tids.contains m.tid with
    | some m => some (m, s.setClient k { c with retry := c.retry.erase m })
    | none =>
      match tids.reverse.find? fun t => s.tidReady h k t with
      | none => none
      | some t =>
        let n := wifiQ k t
        let key := s.txKey c.mld
        if !s.leaseOk c then none
        else
          let base := match (s.queue n).pkts with
            | p :: _ => p.data.length
            | [] => 0
          match s.takeHead (2 + h.toNat) n base with
          | none => none
          | some (p, s) =>
            let s := match key with
              | some x => s.setWKey { x with pn := x.pn + 1 }
              | none => s
            some (⟨k, t, key.map (·.id), (key.map (·.pn)).getD 0, p⟩, s)

/-- Take up to `n` MPDUs of a client. -/
def State.takeMpdus (s : State) (h : Bool) (k : Nat) (tids : List Nat) : Nat → List Mpdu × State
  | 0 => ([], s)
  | fuel + 1 =>
    match s.takeMpdu h k tids with
    | none => ([], s)
    | some (m, s) =>
      let (ms, s) := s.takeMpdus h k tids fuel
      (m :: ms, s)

/-- A transmit key whose lease has run out stops: counted once (R359). -/
def State.pnStall (s : State) (c : Client) : State :=
  match s.txKey c.mld with
  | some k => if k.lease ≤ k.pn ∧ !k.stalled then (s.setWKey { k with stalled := true }).count F.WLN_SEC_ERR2_pn_stall else s
  | none => s

/-- The MPDUs a client has for a category. -/
def State.backlog (s : State) (k : Nat) (c : Client) (tids : List Nat) : Nat :=
  (c.retry.filter fun m => tids.contains m.tid).length + (tids.map fun t => (s.queue (wifiQ k t)).pkts.length).sum

/-- MU candidates (R349). -/
def State.muCand (s : State) (c : Client) : Bool :=
  bitN c.caps 4 && match c.report with
    | some r => decide (s.now < r + msNs (max 5 (s.eFld F.WLN_SCHED_TIME_sound_ms)))
    | none => false

/-- The users of a downlink TXOP and how they are served (R348). -/
def State.dlUsers (s : State) (x : Txop) (list : List Nat) : PpduKind × List Nat :=
  let cl (k : Nat) : Client := (Tbl.get? s.wl.clients k).getD { mld := 0, links := 0, caps := 0, flags := 0 }
  let he := list.filter fun k => (cl k).he
  let cands := (list.take 4).filter fun k => x.h && (cl k).he && s.muCand (cl k)
  let lossOk (k : Nat) : Bool :=
    decide (((x.loss.find? fun p => p.1 == k).map (·.2)).getD 0 ≤ min 30 (s.eFld F.WLN_SCHED_TIME_mu_loss))
  let firstHe : Bool := match list with
    | k :: _ => (cl k).he
    | [] => false
  let f (g : Fld) : Nat := s.eFld (schedFld x.h g)
  if x.h && s.eFlag F.WLN_SCHED_H_mu_mimo_en && decide (2 ≤ cands.length) && cands.all lossOk then (.muMimo, cands)
  else if f F.WLN_SCHED_L_dl_ofdma_en = 1 ∧ firstHe ∧ max 2 (f F.WLN_SCHED_L_min_users) ≤ he.length then
    (.ofdma, he.take (min (clamp 1 16 (f F.WLN_SCHED_L_max_users)) (s.ruCap x.h)))
  else (.su, list.take 1)

/-- Deficits of a link grow by a quantum at a TXOP that lists it. -/
def State.grow (s : State) (h ul : Bool) (list : List Nat) : State :=
  let q : Int := (max 1 (s.eFld F.WLN_SCHED_TIME_quantum) * 16000 : Nat)
  s.each list fun s k => s.onLink h k fun l => if ul then { l with ul := l.ul + q } else { l with dl := l.dl + q }

/-- A downlink TXOP in the time left (R348, R352). -/
def State.txopDown (s : State) (x : Txop) (left : Option Nat) : State :=
  let tids := acTids x.ac
  let s := s.each s.wl.clients fun s (c : Nat × Client) =>
    if (c.2.link x.h).isSome && tids.any fun t => !(s.queue (wifiQ c.1 t)).pkts.isEmpty then s.pnStall c.2 else s
  let listed := s.wl.clients.filter fun (c : Nat × Client) =>
    (c.2.link x.h).isSome && s.awake x.h c.2 && s.linkHere x.h c.2 && s.hasFrame x.h x.ac c.1 c.2 &&
      (s.leaseOk c.2 || c.2.retry.any fun m => tids.contains m.tid)
  let s := s.grow x.h false (listed.map (·.1))
  let order := byDeficit (listed.map fun (c : Nat × Client) =>
    ((((Tbl.get? s.wl.clients c.1).bind fun y => y.link x.h).map (·.dl)).getD 0, c.1))
  let (kind, users) := s.dlUsers x order
  if users.isEmpty then s
  else
    let want (k : Nat) : Nat := match Tbl.get? s.wl.clients k with
      | some c => min (min x.mpdus (baWindow x.h c.caps)) (s.backlog k c tids)
      | none => 0
    let fit := match left with
      | some t => (t - x.ackNs) / max 1 x.mpduNs
      | none => x.mpdus
    let s := if users.any fun k => decide (fit < want k) then s.count F.WLN_TRIM_CNT_trimmed else s
    let (ms, s) := users.foldl (fun (acc : List Mpdu × State) k =>
      let (m, s) := acc.2.takeMpdus x.h k tids (min (want k) fit)
      (acc.1 ++ m, s.onLink x.h k fun l => { l with dl := l.dl - (m.length * x.mpduNs : Nat) })) (([] : List Mpdu), s)
    let longest := (users.map fun k => (ms.filter fun m => m.client == k).length).foldl max 0
    if ms.isEmpty then s
    else
      s.addPpdu x.h
        { kind := kind, users := users, mpdus := ms, dur := longest * x.mpduNs + x.ackNs, granted := true, vo := x.ac == 3 }

/-- An uplink TXOP: a Basic trigger with its answers (R350, R352, R353). -/
def State.txopUp (s : State) (x : Txop) (left : Option Nat) : State :=
  let f (g : Fld) : Nat := s.eFld (schedFld x.h g)
  if f F.WLN_SCHED_L_ul_ofdma_en = 0 then s
  else
    let listed := s.wl.clients.filter fun (c : Nat × Client) => c.2.he && s.awake x.h c.2 && match c.2.link x.h with
      | some l => l.buf != 0 && !l.out
      | none => false
    let s := s.grow x.h true (listed.map (·.1))
    let order := byDeficit (listed.map fun (c : Nat × Client) =>
      ((((Tbl.get? s.wl.clients c.1).bind fun y => y.link x.h).map (·.ul)).getD 0, c.1))
    let users := order.take (min (clamp 1 16 (f F.WLN_SCHED_L_max_users)) (s.ruCap x.h))
    if users.isEmpty then s
    else
      let full := clamp 1 170 (f F.WLN_SCHED_L_ul_len) * 32000
      let extra := x.trigNs + 32000 + x.ackNs
      let ul := match left with
        | some t => min full (t - extra)
        | none => full
      if ul < x.mpduNs ∨ ul = 0 then s.count F.WLN_TRIM_CNT_withheld
      else
        let s := if ul < full then s.count F.WLN_TRIM_CNT_trimmed else s
        let s := s.each users fun s k => s.onLink x.h k fun l => { l with ul := l.ul - (ul : Int) }
        s.addPpdu x.h { kind := .basic, users := users, data := toLE 4 ul, dur := extra + ul, granted := true, vo := x.ac == 3 }

/-- TXOP_WON: not used where the time left, COXA or an external grant forbid it (R334, R335, R348, R352). -/
def State.txopWon (s : State) (x : Txop) : State :=
  let s := s.wlnLatch x.h
  if !s.wifiOn x.h || s.isShadow || (s.radio x.h).tx.isSome then s
  else
    let s := s.schedLatch
    let ext : Bool := !x.h && s.flag F.COX_A_STAT_ext_gnt && s.eFlag F.COX_A_CFG_ext_en
    if ext then s
    else
      let left := s.timeLeft x.h
      let short : Bool := match left with
        | some t => decide (t < s.eFld F.WLN_TRIM_CFG_min_txop * 4000) || decide (t < x.mpduNs + x.ackNs)
        | none => false
      if short then s.count F.WLN_TRIM_CNT_withheld
      else
        let (no, s) : Bool × State := if x.h then (false, s) else s.coxaSample x.gnt
        if no then s else if x.ul then s.txopUp x left else s.txopDown x left

/-- BSRP_TRIGGER: the trigger of each `bsrp_ms`, to the clients polled and with the random-access RUs (R350). -/
def State.bsrpTrigger (s : State) (h : Bool) (dur : Nat) (polled : List Nat) : State :=
  let s := s.wlnLatch h
  let r := s.radio h
  if !s.wifiOn h || s.isShadow || decide (s.now < r.bsrpAt) then s
  else
    let s := s.schedLatch
    let s := s.setRadio h { r with bsrpAt := s.now + msNs (max 1 (s.eFld F.WLN_SCHED_TIME_bsrp_ms)) }
    if !s.fits h dur then s.count F.WLN_TRIM_CNT_withheld
    else
      let ra := min 8 (s.eFld (schedFld h F.WLN_SCHED_L_ra_ru))
      let ok (k : Nat) : Bool := match Tbl.get? s.wl.clients k with
        | some c => c.he && (c.link h).isSome && s.awake h c
        | none => false
      s.addPpdu h { kind := .bsrp, users := (polled.filter ok).take (s.ruCap h - ra), data := toLE 1 ra, dur := dur }

/-- SOUNDING: beamformee clients of H are sounded every `sound_ms` (R349). -/
def State.sounding (s : State) (dur : Nat) : State :=
  let s := s.wlnLatch true
  let r := s.radio true
  if !s.wifiOn true || s.isShadow || decide (s.now < r.soundAt) then s
  else
    let s := s.schedLatch
    let s := s.setRadio true { r with soundAt := s.now + msNs (max 5 (s.eFld F.WLN_SCHED_TIME_sound_ms)) }
    let users := (s.wl.clients.filter fun (c : Nat × Client) => bitN c.2.caps 4 && c.2.h.isSome).map (·.1)
    if users.isEmpty then s else s.addPpdu true { kind := .sounding, users := users, dur := dur }

/-! ## Transmissions on air (R324 to R326, R329, R334) -/

/-- Mesh carriers of L start at their instant, or are late. -/
def State.meshStart (s : State) : State :=
  match s.lh.mesh with
  | none => s
  | some (at_, cs) =>
    if s.lh.ivlDenied || decide (at_ + 4000 < s.now) then s.meshLate
    else
      let s : State := { s with lh := { s.lh with mesh := none } }
      if !s.outEnabled then (s.each cs State.linkUnsent).count F.LRX_ERR_cut
      else
        let s := s.latchFld F.LRX_MESH_CFG_level
        let s := s.setRadio false { s.radio false with tx := some (.mesh cs s.now) }
        (s.lhPins false true).each cs fun s c => s.put (.radioLMesh c.ch at_ c.psdu)

/-- The mesh's instant has come on L. -/
def State.meshTurn (s : State) (h : Bool) : Bool := !h && match s.lh.mesh with
  | some (at_, _) => decide (at_ ≤ s.now + 4000)
  | none => false

/-- A name for what a PPDU is, for the outputs. -/
def PpduKind.name : PpduKind → String
  | .beacon => "beacon" | .csa => "beacon with channel switch announcement" | .su => "SU" | .ofdma => "DL OFDMA"
  | .muMimo => "DL MU-MIMO" | .basic => "Basic trigger" | .bsrp => "BSRP trigger" | .sounding => "sounding"
  | .mgmt => "management" | .deauth => "deauthentication" | .answer => "response"

/-- What a PPDU carries, as the outputs keep it. -/
def Ppdu.bytes (p : Ppdu) : Bytes := p.data ++ (p.mpdus.map (·.pkt.data)).flatten

/-- A PPDU goes on air. -/
def State.ppduStart (s : State) (h : Bool) (p : Ppdu) : State :=
  let s := s.setRadio h { s.radio h with tx := some (.wifi p s.now) }
  let s := s.lhPins h false
  let s := s.put (.wifi h p.kind.name p.users p.bytes)
  match p.kind with
  | .muMimo => s.count F.WLN_MU_CNT_mu_mimo
  | .ofdma => s.count F.WLN_MU_CNT_ofdma
  | .basic => s.count F.WLN_TRIG_CNT_ul_triggers
  | .bsrp => s.count F.WLN_TRIG_CNT_ul_triggers
  | _ => s

/-- LH_TX_START: what waits first on the radio starts its pin sequence; `dur` is the duration of an exchange whose
length the scheduler has not fixed. -/
def State.txStart (s : State) (h gnt : Bool) (dur : Nat) : State :=
  let s := if h then s else s.ivlSettle
  if !s.lhServes h || (s.radio h).tx.isSome || s.isShadow then s
  else if s.meshTurn h then s.meshStart
  else
    let s := s.wlnLatch h
    let r := s.radio h
    match r.queue with
    | [] => s
    | p :: ps =>
      let p : Ppdu := if p.granted then p else { p with dur := dur }
      let popped := s.setRadio h { r with queue := ps }
      let s1 := s.schedLatch
      if !s.wifiOn h then s
      else if !s1.fits h p.dur then
        if p.resp then { popped with lh := popped.lh }
        else
          let s2 := s1.count F.WLN_TRIM_CNT_withheld
          if p.mpdus.isEmpty then s2 else (s2.setRadio h { r with queue := ps }).retryBack p.mpdus
      else
        let ext : Bool := !h && s.flag F.COX_A_STAT_ext_gnt && s.eFlag F.COX_A_CFG_ext_en
        if ext && !p.granted && !p.resp then s
        else
          let (no, s) : Bool × State := if h || p.granted then (false, s) else s.coxaSample gnt
          if no then (if p.resp then s.setRadio h { r with queue := ps } else s)
          else
            let s := s.setRadio h { r with queue := ps }
            if !s.outEnabled then (s.count (F.LRX_ERR_cut.on h)).ppduBack h p
            else
              let s := s.ppduStart h p
              if h then s else s.coxaPins true (p.vo && s.eFlag F.COX_A_CFG_pri_vo)

/-- The answers of a client to a data PPDU: its acknowledged MPDUs are done, the others go back, or end at the retry
limit. -/
def State.dataEnd (s : State) (p : Ppdu) (acked giveUp : Nat) : State :=
  let at_ (i : Nat) : Option Mpdu := p.mpdus[i]?
  let idx := List.range p.mpdus.length
  let back := idx.filterMap fun i => if bitN acked i || bitN giveUp i then none else at_ i
  let s := s.retryBack back
  s.each p.users fun s k =>
    match Tbl.get? s.wl.clients k with
    | none => s
    | some c =>
      let mine := idx.filter fun i => (at_ i).any fun m => m.client == k
      if mine.isEmpty then s
      else if mine.any fun i => bitN acked i then s.setClient k { c with unacked := 0, told := false }
      else s.setClient k { c with unacked := c.unacked + 1 }

/-- The answers to a trigger: bit i of `acked`, user i sent a TB PPDU, with the buffer it reports (R350, R351). -/
def State.triggerEnd (s : State) (h : Bool) (p : Ppdu) (acked : Nat) (reports : List Nat) : State :=
  s.each (List.range p.users.length) fun s i =>
    let k := p.users.getD i 0
    if bitN acked i then s.onLink h k fun l => { l with missed := 0, buf := reports.getD i 0, out := false }
    else
      let most := max 1 (s.eFld (schedFld h F.WLN_SCHED_L_miss_max))
      let l? := (Tbl.get? s.wl.clients k).bind fun c => c.link h
      match l? with
      | none => s
      | some l =>
        if l.out then s
        else if most ≤ l.missed + 1 then
          (s.onLink h k fun l => { l with missed := 0, out := true }).count F.WLN_TRIG_CNT_ul_missed
        else s.onLink h k fun l => { l with missed := l.missed + 1 }

/-- One CSA beacon less to send; after the last the radio goes to its new channel. -/
def State.csaSent (s : State) (h : Bool) : State :=
  let r := s.radio h
  match r.switch with
  | some (w, p, n + 2) =>
    let s := s.setRadio h { r with switch := some (w, p, n + 1) }
    if n = 0 then s.switchNow h else s
  | _ => s

/-- What the end of a PPDU brings. -/
def State.ppduEnd (s : State) (h : Bool) (p : Ppdu) (acked giveUp : Nat) (reports : List Nat) : State :=
  match p.kind with
  | .su => s.dataEnd p acked giveUp
  | .ofdma => s.dataEnd p acked giveUp
  | .muMimo => s.dataEnd p acked giveUp
  | .basic => s.triggerEnd h p acked reports
  | .bsrp => s.triggerEnd h p acked reports
  | .csa => s.csaSent h
  | .sounding => s.each (List.range p.users.length) fun s i =>
      match Tbl.get? s.wl.clients (p.users.getD i 0) with
      | some c => s.setClient (p.users.getD i 0) { c with report := if bitN acked i then some s.now else none }
      | none => s
  | .mgmt =>
    match p.key with
    | none => s
    | some k =>
      if !p.wait || bitN acked 0 then s.mgmtOver k stOK
      else if bitN giveUp 0 then s.mgmtOver k stTIMEOUT
      else s.ppduBack h p
  | .beacon => s
  | .deauth => s
  | .answer => s

/-- L's COXA pins after a transmission: those of a reserved interval stay. -/
def State.coxaOver (s : State) (h : Bool) : State :=
  if h then s
  else if s.lh.ivlEnd.isSome then s.coxaGrant else (s.coxaPins false false).coxaGrant

/-- LH_TX_END: a transmission ends; one whose outputs have been withdrawn was cut. -/
def State.txEndLh (s : State) (h : Bool) (acked giveUp : Nat) (reports : List Nat) : State :=
  match (s.radio h).tx with
  | none => s
  | some tx =>
    if !s.outEnabled then ((s.lhAbort h).count (F.LRX_ERR_cut.on h)).coxaOver h
    else
      let s := s.lhPinsOff h
      let s := match tx with
        | .mesh cs _ => s.each cs State.linkSent
        | .wifi p _ => s.ppduEnd h p acked giveUp reports
      ((s.wlnLatch h).coxaOver h).updatePool

/-- LH_TX_CUT: the gate has closed, or the clock force acts, during a transmission (R326). -/
def State.txCutLh (s : State) (h : Bool) : State :=
  if (s.radio h).tx.isNone || s.outEnabled then s
  else ((s.lhAbort h).count (F.LRX_ERR_cut.on h)).coxaOver h

/-! ## Beacons and probe requests (R341) -/

/-- TBTT_BEACON: BSS 0 sends its beacon at its TBTT, one that carries a channel switch announcement while a switch
waits. -/
def State.tbtt (s : State) (h : Bool) : State :=
  let s := s.wlnLatch h
  match s.bss h 0 with
  | none => s
  | some b =>
    if s.now < b.tbtt then s
    else
      let b' : Bss := { b with tbtt := nextTbtt s.now b.bcnInt }
      let s : State := { s with wl := { s.wl with bss := Tbl.put s.wl.bss (bssKey h 0) b' } }
      let r := s.radio h
      let waits : Bool := r.queue.any fun p => p.kind == .beacon || p.kind == .csa
      if !s.wifiOn h || s.isShadow || waits then s
      else
        let csa : Bool := match r.switch with
          | some (_, _, _ + 2) => true
          | _ => false
        s.setRadio h { r with queue := { kind := if csa then .csa else .beacon, dur := 0 } :: r.queue }

/-- PROBE_REQUEST: answered where a BSS of the radio matches: a wildcard request (no SSID) one that is not hidden, a
directed one its SSID. -/
def State.probe (s : State) (h : Bool) (src : Nat) (ssid : Bytes) : State :=
  let s := s.wlnLatch h
  let hit : Bool := (List.range 16).any fun n => match s.bss h n with
    | some b => if ssid.isEmpty then !bitN b.flags 0 else b.ssid == ssid
    | none => false
  if !s.wifiOn h || s.isShadow || !hit then s else s.addPpdu h { kind := .answer, data := toBE 6 src, dur := 0 }

/-! ## Received frames (R343, R344, R358, R362) -/

/-- A frame for the host management ring (R343, R475). -/
def State.toMgmt (s : State) (p : Packet) : State :=
  let s := s.latchRegs [0x050010]
  let r := s.eFld F.HIF_MGMT_CFG_ring
  if s.io.hf.lost.isSome then s.count F.SRT_DROP_Q2_host_drop
  else if !s.io.rxRing r then s.count F.HIF_RX_DROP_no_mgmt
  else s.enqueueLim (hostQ r) { p with reason := 2 }

/-- What a received frame tells of its link: when it came, its RSSI, a reported buffer. -/
def State.heardOn (s : State) (h : Bool) (k : Nat) (rssi : Int) (buf : Option Nat) : State :=
  s.onLink h k fun l =>
    let l : WLink := { l with heard := some s.now, rssi := some rssi }
    match buf with
    | some n => { l with buf := n, out := false, missed := 0 }
    | none => l

/-- The MIC and replay checks of a protected frame under a client's key (R358): its key, if it passes. -/
def State.wifiCheck (s : State) (mld keyId pn rec_ : Nat) (micOk : Bool) : Option WKey × State :=
  match s.wkey mld 0 keyId with
  | none => (none, s.count F.WLN_SEC_ERR_mic_fail)
  | some k =>
    if !micOk then (none, s.count F.WLN_SEC_ERR_mic_fail)
    else match Tbl.get? k.rx rec_ with
      | some old => if pn ≤ old then (none, s.count F.WLN_SEC_ERR_replay) else (some k, s)
      | none => (some k, s)

/-- A Shadow hears a frame of the Lead: the PN of the key it is sent under (R360). -/
def State.leadPn (s : State) (f : WRx) : State :=
  let own : Bool := (List.range 16).any fun n => s.bssid f.h n == some f.src
  match (if own then s.clientAt f.h f.dst else none), f.keyId with
  | some (_, c), some id =>
    match s.wkey c.mld 0 id with
    | some k => s.setWKey { k with heard := max k.heard f.pn }
    | none => s
  | none, some id =>
    match (if own then s.wl.keys.find? fun k => k.target == f.src && k.id == id && k.kind == 1 else none) with
    | some k => s.setWKey { k with heard := max k.heard f.pn }
    | none => s
  | _, none => s

/-- A data frame of an authorised client that has passed its checks: admitted, or refused without an acknowledgement
(R424, R427). -/
def State.wifiAdmit (s : State) (f : WRx) (n : Nat) (key : Option WKey) : State :=
  let cells := cellsOf f.frame.length
  let s := s.latchRegs admRegs
  if !s.isShadow && !s.admitWifi f.tid cells then s.count F.SRT_DROP_ADM_wifi_refused
  else
    let s := match key with
      | some k => s.setWKey { k with rx := Tbl.put k.rx f.tid f.pn }
      | none => s
    if s.isShadow then s
    else
      s.toSorter { src := .wifi n f.h, data := f.frame, cls := f.tid, rssi := f.rssi, cells := cells, charge := .shared }

/-- The gain control's marks on a received PPDU (R319, R320): Radio H takes no step. -/
def State.agcMarks (s : State) (h clip step : Bool) : State :=
  let s := s.count (F.LRX_ERR_clip.on h) clip.toNat
  if h then s else s.setFld F.LRX_STAT_step step.toNat

/-- WIFI_DATA_RX: the checks of R343, R357 and R358 in order; the response to it follows after SIFS. -/
def State.wifiDataRx (s : State) (f : WRx) (respNs : Nat) : State :=
  let s := s.wlnLatch f.h
  if !s.wifiOn f.h then s
  else
    let s := s.agcMarks f.h f.clip f.step
    let s := if s.isShadow then s.leadPn f else s
    match s.clientAt f.h f.src with
    | none =>
      let own : Bool := s.isShadow && (List.range 16).any fun n => s.bssid f.h n == some f.src
      if own then s else s.count F.WLN_RX_DROP_unknown
    | some (n, c) =>
      let s := s.heardOn f.h n f.rssi f.buf
      let s := match Tbl.get? s.wl.clients n with
        | some c => s.setClient n { c with asleep := f.pm }
        | none => s
      let s := if s.isShadow || respNs = 0 then s
        else s.setRadio f.h { s.radio f.h with
          queue := { kind := .answer, users := [n], dur := respNs, resp := true } :: (s.radio f.h).queue }
      if !bitN c.flags 0 then
        if s.isShadow then s
        else if (parseEth f.frame).ethertype = 0x888E then
          s.toMgmt
            { src := .wifi n f.h, data := f.frame, cls := f.tid, rssi := f.rssi, cells := cellsOf f.frame.length,
              charge := .shared }
        else s.count F.WLN_RX_DROP_unauth
      else match f.keyId with
        | some id =>
          match s.wifiCheck c.mld id f.pn f.tid f.micOk with
          | (some k, s) => s.wifiAdmit f n (some k)
          | (none, s) => s
        | none =>
          if s.wl.keys.any fun k => k.target == c.mld && k.kind == 0 then s.count F.WLN_SEC_ERR_mic_fail
          else s.wifiAdmit f n none

/-- The agreements of a client on a radio less one of them, or all. -/
def dropTwts (h : Bool) (which : Option Nat) (l : List Twt) : List Twt :=
  match which with
  | none => l.filter fun a => a.h != h
  | some i => match (l.filter fun a => a.h == h)[i]? with
    | some a => l.erase a
    | none => l

/-- What a management frame that has passed its checks brings. -/
def State.mgmtAct (s : State) (m : WMgmt) (client : Option (Nat × Client)) : State :=
  let answer (s : State) (k : Nat) (code : Nat) : State :=
    if s.isShadow then s else s.addPpdu m.h { kind := .answer, users := [k], data := toLE 1 code, dur := 0 }
  match m.kind, client with
  | .host, _ =>
    if s.isShadow then s
    else
      s.toMgmt
        { src := .wifi ((client.map (·.1)).getD 0) m.h, data := m.frame, rssi := m.rssi, cells := cellsOf m.frame.length,
          charge := .shared, bss := some m.bss.val }
  | .addba, some (k, _) => answer s k 0
  | .saQuery, some (k, _) => answer s k 0
  | .tidMap, some (k, _) => answer s k 37
  | .twtTeardown which, some (k, c) => s.setClient k { c with twts := dropTwts m.h which c.twts }
  | _, _ => s

/-- WIFI_MGMT_RX (R343, R345, R358). -/
def State.wifiMgmtRx (s : State) (m : WMgmt) : State :=
  let s := s.wlnLatch m.h
  if !s.wifiOn m.h then s
  else
    let s := s.agcMarks m.h m.clip m.step
    match s.clientAt m.h m.src with
    | none => s.mgmtAct m none
    | some (n, _) =>
      let s := s.heardOn m.h n m.rssi none
      match Tbl.get? s.wl.clients n with
      | none => s
      | some c =>
        match m.prot with
        | none => if bitN c.flags 1 && s.wl.keys.any (fun k => k.target == c.mld && k.kind == 0) then
            s.count F.WLN_SEC_ERR_mic_fail else s.mgmtAct m (some (n, c))
        | some (id, pn, ok) =>
          match s.wifiCheck c.mld id pn 16 ok with
          | (some k, s) => (s.setWKey { k with rx := Tbl.put k.rx 16 pn }).mgmtAct m (some (n, c))
          | (none, s) => s

/-! ## Target wake time (R354, R355) -/

/-- Two periodic service periods overlap: starts and lengths in ns. -/
def spOverlap (a ai al b bi bl : Nat) : Bool :=
  let g := max 1 (Nat.gcd ai bi)
  let d := (b + g - a % g) % g
  decide (d < al) || decide (g < d + bl)

/-- An agreement's service periods overlap those of another on the same radio. -/
def twtClash (x y : Twt) : Bool :=
  x.h == y.h && spOverlap x.start (usNs x.interval) (usNs x.dur) y.start (usNs y.interval) (usNs y.dur)

/-- The agreements held. -/
def State.twts (s : State) : List Twt := (s.wl.clients.map (·.2.twts)).flatten

/-- The schedule nearest to an agreement's that R355 allows on L beside the mesh; none where its periods are too
long. -/
def State.twtAlign (s : State) (x : Twt) : Option Twt :=
  if 13400 < x.dur then none
  else
    let slots := min 2400 (max 1 ((x.interval + 12500) / 25000))
    let off := (x.start + 25000000 - s.ml.slotAt % 25000000) % 25000000
    let start :=
      if off < 7300000 then x.start + (7300000 - off)
      else if off + usNs x.dur ≤ 20700000 then x.start
      else
        let back := off + usNs x.dur - 20700000
        let fwd := 25000000 + 7300000 - off
        if back ≤ fwd then x.start - back else x.start + fwd
    some { x with interval := slots * 25000, start := start }

/-- The next placement of an agreement that overlaps no other. -/
def State.twtPlace (s : State) (x : Twt) : Option Twt :=
  let others := s.twts
  let free (y : Twt) : Bool := others.all fun o => !twtClash y o
  if free x then some x
  else
    let tries := (others.filter fun o => o.h == x.h).map fun o =>
      let g := max 1 (Nat.gcd (usNs x.interval) (usNs o.interval))
      x.start + (o.start + usNs o.dur + g - x.start % g) % g
    let good := tries.filter fun st => free { x with start := st }
    match good with
    | [] => none
    | t :: ts => some { x with start := ts.foldl min t }

/-- The firmware's answer to a TWT setup request: 0 accepted, 1 countered with the schedule offered, 2 rejected. -/
def State.twtAnswer (s : State) (q : TwtReq) (c : Client) : Nat × Option Twt :=
  let x : Twt :=
    { h := q.h, interval := q.interval, dur := q.dur, start := q.start, trigger := q.trigger, announced := q.announced,
      broadcast := q.broadcast }
  let most := clamp 1 8 (s.fld F.WLN_TWT_CFG_max_per_client)
  if !s.flag F.WLN_TWT_CFG_en || decide (512 ≤ s.twts.length) || decide (most ≤ c.twts.length) ||
      decide (q.interval < 2000) || decide (60000000 < q.interval) || decide (q.dur < 256) || decide (65280 < q.dur) then
    (2, none)
  else
    let aligned : Bool := !q.h && s.reserves && s.flag F.WLN_TWT_CFG_l_align
    match (if aligned then s.twtAlign x else s.twtPlace x) with
    | none => (2, none)
    | some y => if y = x then (0, some x) else (1, some y)

/-- TWT_SETUP_REQUEST: an accepted request makes an agreement; the answer carries the schedule. -/
def State.twtSetup (s : State) (q : TwtReq) : State :=
  let s := s.wlnLatch q.h
  if !s.wifiOn q.h || s.isShadow then s
  else match s.clientAt q.h q.src with
    | none => s
    | some (k, _) =>
      match Tbl.get? s.wl.clients k with
      | none => s
      | some c =>
        let (code, y) := s.twtAnswer q c
        let s := match code, y with
          | 0, some x => s.setClient k { c with twts := c.twts ++ [x] }
          | _, _ => s
        let sched := match y with
          | some x => toLE 4 x.interval ++ toLE 4 x.dur ++ toLE 8 x.start
          | none => []
        s.addPpdu q.h { kind := .answer, users := [k], data := toLE 1 code ++ sched, dur := 0 }

/-- TWT_SERVICE_PERIOD: a client's service period starts; with `trigger`, so does its first trigger (R354). -/
def State.twtStart (s : State) (k i : Nat) : State :=
  match Tbl.get? s.wl.clients k with
  | none => s
  | some c =>
    match c.twts[i]? with
    | none => s
    | some a =>
      if s.now < a.start then s
      else
        let p := max 1 (usNs a.interval)
        let next := a.start + ((s.now - a.start) / p + 1) * p
        let endAt := a.start + (s.now - a.start) / p * p + usNs a.dur
        let s := s.setClient k { c with twts := c.twts.set i { a with start := next } }
        let s := s.onLink a.h k fun l => { l with sp := some endAt }
        if !a.trigger || !s.wifiOn a.h || s.isShadow || decide (endAt ≤ s.now) then s
        else s.addPpdu a.h { kind := .basic, users := [k], data := toLE 4 0, dur := 0 }

/-! ## Unreachable clients, leases (R344, R359) -/

/-- CLIENT_UNREACHABLE: 32 PPDUs in a row without an acknowledgement. -/
def State.unreachable (s : State) (k : Nat) : State :=
  match Tbl.get? s.wl.clients k with
  | none => s
  | some c =>
    if c.told || decide (c.unacked < 32) then s
    else (s.setClient k { c with told := true }).event 0x07 (toLE 6 c.mld ++ toLE 2 k)

/-- PN_LEASE_EXTEND: the next lease of a key is written when 2^12 PNs remain; `ok`: the write succeeds. -/
def State.pnExtend (s : State) (i : Nat) (ok : Bool) : State :=
  match s.wl.keys[i]? with
  | none => s
  | some k =>
    if s.isShadow || decide (k.pn + 4096 < k.lease) then s
    else if !ok then s.mramFault 16 0
    else
      let e := k.lease + 65536
      let r : PnRec := { target := k.target, kind := k.kind, id := k.id, leaseEnd := e }
      let s := s.setWKey { k with lease := e, stalled := false }
      { s with nv := { s.nv with pnRecs := (s.nv.pnRecs.filter fun x => !x.same k.target k.kind k.id) ++ [r] } }

/-! ## Meanings -/

/-- LH_TX_START (R324). -/
def execLhTxStart (t : Nat) (h gnt : Bool) (dur : Nat) (s : State) : Host.Outcome State Fault Refusal :=
  run t s fun s => s.txStart h gnt dur

/-- LH_TX_END (R325). -/
def execLhTxEnd (t : Nat) (h : Bool) (acked giveUp : Nat) (reports : List Nat) (s : State) :
    Host.Outcome State Fault Refusal :=
  run t s fun s => s.txEndLh h acked giveUp reports

/-- LH_TX_CUT (R326). -/
def execLhTxCut (t : Nat) (h : Bool) (s : State) : Host.Outcome State Fault Refusal := run t s fun s => s.txCutLh h

/-- PROBE_REQUEST (R341). -/
def execProbeRequest (t : Nat) (h : Bool) (src : Nat) (ssid : Bytes) (s : State) : Host.Outcome State Fault Refusal :=
  run t s fun s => s.probe h src ssid

/-- WIFI_MGMT_RX (R343). -/
def execWifiMgmtRx (t : Nat) (m : WMgmt) (s : State) : Host.Outcome State Fault Refusal := run t s fun s => s.wifiMgmtRx m

/-- TWT_SETUP_REQUEST (R354). -/
def execTwtSetupRequest (t : Nat) (q : TwtReq) (s : State) : Host.Outcome State Fault Refusal :=
  run t s fun s => s.twtSetup q

/-- TWT_SERVICE_PERIOD (R354). -/
def execTwtServicePeriod (t : Nat) (client : Fin 512) (idx : Nat) (s : State) : Host.Outcome State Fault Refusal :=
  run t s fun s => s.twtStart client idx

/-- WIFI_DATA_RX (R343). -/
def execWifiDataRx (t : Nat) (f : WRx) (respNs : Nat) (s : State) : Host.Outcome State Fault Refusal :=
  run t s fun s => s.wifiDataRx f respNs

/-- TXOP_WON (R348). -/
def execTxopWon (t : Nat) (x : Txop) (s : State) : Host.Outcome State Fault Refusal := run t s fun s => s.txopWon x

/-- BSRP_TRIGGER (R350). -/
def execBsrpTrigger (t : Nat) (h : Bool) (dur : Nat) (polled : List Nat) (s : State) :
    Host.Outcome State Fault Refusal :=
  run t s fun s => s.bsrpTrigger h dur polled

/-- SOUNDING (R349). -/
def execSounding (t dur : Nat) (s : State) : Host.Outcome State Fault Refusal := run t s fun s => s.sounding dur

/-- TBTT_BEACON (R341). -/
def execTbttBeacon (t : Nat) (h : Bool) (s : State) : Host.Outcome State Fault Refusal := run t s fun s => s.tbtt h

/-- CLIENT_UNREACHABLE (R344). -/
def execClientUnreachable (t : Nat) (client : Fin 512) (s : State) : Host.Outcome State Fault Refusal :=
  run t s fun s => s.unreachable client

/-- PN_LEASE_EXTEND (R359). -/
def execPnLeaseExtend (t key : Nat) (ok : Bool) (s : State) : Host.Outcome State Fault Refusal :=
  run t s fun s => s.pnExtend key ok

end Sys2Proof.Machine
end

