-- ==== Sys2Proof/Machine/Twin.lean ====
section
/-!
DEFINITION. Sys2Proof/Machine/Twin.lean: twin pairing (17_twin): the output gate, the twin link and its messages, the
listening Shadow's records, leases, the preferred bit, holds, stand-down, lost peers.
-/

namespace Sys2Proof.Machine

/-! ## Views and conditions -/

/-- Nanoseconds as whole seconds, rounded up. -/
def ceilSec (n : Nat) : Nat := (n + 999999999) / 1000000000

/-- The holdoff in effect (R493). -/
def State.holdoff (s : State) : Nat := max 10 (s.eFld F.TWN_HOLD_holdoff_s)

/-- Holdoff seconds remaining: 0 where it does not run or preferred is up. -/
def State.holdoffLeft (s : State) : Nat :=
  match s.tw.servSince with
  | some t => if s.tw.preferred then 0 else min 65535 (ceilSec (t + secNs s.holdoff - s.now))
  | none => 0

/-- Seconds until the recovery window closes; 60 while serviceable is 0; 0 where it is closed. -/
def State.windowLeft (s : State) : Nat :=
  if !s.tw.window then 0
  else match s.tw.servSince with
    | some t => ceilSec (t + secNs 60 - s.now)
    | none => 60

/-- The link's code. -/
def TwinLink.code : TwinLink → Nat
  | .down => 0 | .training => 1 | .up => 2

/-- `TWN_STAT` as it reads. -/
def State.twnStat (s : State) : Word :=
  let w := s.word 0x060000
  let put (w : Word) (f : Fld) (v : Nat) : Word := setBits w f.hi f.lo v
  let w := put w F.TWN_STAT_hold s.tw.hold.toNat
  let w := put w F.TWN_STAT_stood_down s.nv.stoodDown.toNat
  let w := put w F.TWN_STAT_window s.tw.window.toNat
  let w := put w F.TWN_STAT_link s.tw.link.code
  let w := put w F.TWN_STAT_peer_claim s.tw.claimIn
  let w := put w F.TWN_STAT_own_claim s.tw.claim
  let w := put w F.TWN_STAT_gate s.tw.gate.toNat
  put w F.TWN_STAT_role s.tw.role.code

/-- The conditions of R510 now. -/
def State.twinCond (s : State) : Bool :=
  let dead : Bool := match s.tw.peerDeadAt with
    | some t => decide (t + secNs 1 < s.now) && !s.tw.absent
    | none => false
  let cut : Bool := s.tw.link != .up && s.peerAlive && decide (s.tw.linkDownAt + secNs 1 < s.now)
  s.flag F.TWN_CFG_pair_en &&
    (dead || s.nv.stoodDown || s.flag F.TWN_STAT_id_clash || s.flag F.TWN_STAT_strap_err || cut)

/-- `peer_lost` and the `twin` bit follow the conditions of R510; the first condition's start posts its event. -/
def State.twinFault (s : State) : State :=
  let dead : Bool := s.flag F.TWN_CFG_pair_en && match s.tw.peerDeadAt with
    | some t => decide (t + secNs 1 < s.now) && !s.tw.absent
    | none => false
  let was := s.flag F.TWN_STAT_peer_lost
  let s := (s.setFld F.TWN_STAT_peer_lost dead.toNat).setFld F.TEL_FAULT_twin s.twinCond.toNat
  if dead && !was then s.twinEvent 8 s.tw.role 0 0 else s

/-! ## The gate and the claims (R489, R495, R496) -/

/-- CLAIM_IN_CHANGE: the gate closes where the claim does not exceed the new value. -/
def State.claimIn (s : State) (v : Nat) : State :=
  if v = s.tw.claimIn then s
  else
    let alive := bitN v 3
    let fell := bitN s.tw.claimIn 2 && !bitN v 2
    let revert : Bool := s.tw.peerRevert == some s.ml.slot && bitN v 1
    let s : State := { s with tw := { s.tw with
      claimIn := v
      changedAt := s.now
      ownRose := false
      peerSeen := s.tw.peerSeen || alive
      absent := s.tw.absent && !alive
      peerDeadAt := if alive then none else some (s.tw.peerDeadAt.getD s.now) } }
    let clash : Bool := alive && (bitN v 0).toNat == s.fld F.TOP_STRAP_twin_id
    let was := s.flag F.TWN_STAT_id_clash
    let s := s.setFld F.TWN_STAT_id_clash clash.toNat
    let s := if clash && !was then s.twinEvent 7 s.tw.role 0 0 else s
    let s := if s.tw.claim ≤ v then s.closeGate (if revert then 2 else 4) else s
    let s := if fell && s.eFlag F.DSK_CFG_peer_abort then s.duskService 3 else s
    s.twinFault

/-- GATE_OPEN: the claim has exceeded CLAIM_IN, and neither has changed, for six cycles of REFCLK after the
synchroniser; the role follows.  The cause of a role change that a rise of the own claim brings, other than a revert,
is not stated. -/
def State.gateOpens (s : State) : State :=
  if s.ck.refFailed || decide (s.tw.claim ≤ s.tw.claimIn) || decide (s.now < s.tw.changedAt + 150) then s
  else
    let s : State := { s with tw := { s.tw with gate := true } }
    if s.tw.preferred && s.tw.revertSlot.isSome then s.roleChange s.roleOf 2
    else if s.tw.ownRose then s.useFree.roleChange s.roleOf (s.freeVal 8)
    else s.roleChange s.roleOf 0

/-! ## The twin link (R501) -/

/-- The link can run: enabled, its PLL locked, its key slot usable. -/
def State.twinReady (s : State) : Bool :=
  s.flag F.TWN_CFG_link_en && s.flag F.CLK_STAT_twin_lock && (s.slotKey (s.fld F.TWN_CFG_key_slot) 1).isSome

/-- The link goes down; it trains again after 100 ms. -/
def State.twinDown (s : State) : State :=
  if s.tw.link = .down then s
  else
    let up : Bool := s.tw.link == .up
    let s : State := { s with tw := { s.tw with link := .down, linkDownAt := s.now, peerSession := none, peerHeard := false } }
    let s := if s.fld F.TWN_STAT_time_src = 1 then s.setFld F.TWN_STAT_time_src 0 else s
    if up then (s.count F.TWN_LINK_ERR_downs).twinEvent 3 s.tw.role 0 0 else s

/-- The link trains: this unit draws its session number. -/
def State.twinTrain (s : State) : State :=
  if s.tw.link != .down || !s.twinReady then s
  else
    let (b, s) := s.draw 8
    { s with tw := { s.tw with
      link := .training, session := b.le 0 8, txSeq := 0, lastMsg := s.now, peerSession := none, peerHeard := false } }

/-- TWIN_LINK_TIMEOUT: nothing valid for 10 ms, or the link can no longer run. -/
def State.twinTimeout (s : State) : State :=
  if s.tw.link = .down then s.twinFault
  else if !s.twinReady || decide (s.tw.lastMsg + msNs 10 ≤ s.now) then s.twinDown.twinFault
  else s

/-- TWIN_LINK_RETRAIN. -/
def State.twinRetrain (s : State) : State := if s.now < s.tw.linkDownAt + msNs 100 then s else s.twinTrain

/-- A message's tag, session and sequence number are checked; what fails is dropped and counted. -/
def State.twinValid (s : State) (m : TMsg) : Bool × State :=
  let fresh : Bool := match m.body with
    | .hello _ _ _ _ _ => s.tw.peerSession != some m.hdr.session
    | _ => false
  let ok : Bool := m.hdr.tagOk && (fresh || (s.tw.peerSession == some m.hdr.session && decide (s.tw.rxSeq < m.hdr.seq)))
  if ok then
    (true, { s with tw := { s.tw with peerSession := some m.hdr.session, rxSeq := m.hdr.seq, lastMsg := s.now } })
  else (false, s.count F.TWN_LINK_ERR_tag_fail)

/-! ## Messages (R499, R500, R502 to R505, R508) -/

/-- HELLO: once both units have accepted one, the link is up, and a lease that waits goes out. -/
def State.onHello (s : State) (mode : Nat) (absent heard : Bool) : State :=
  let s : State := { s with tw := { s.tw with
    peerMode := mode, absent := absent, peerHeard := s.tw.peerHeard || heard } }
  if s.tw.link == .training && s.tw.peerHeard then
    (({ s with tw := { s.tw with link := .up } }).twinEvent 2 s.tw.role 0 0).sendLease.twinFault
  else s.twinFault

/-- TIME: a Shadow takes the Lead's boundary and slot number. -/
def State.onTime (s : State) (slot boundary : Nat) : State :=
  if !s.isShadow then s
  else
    let d : Int := (boundary : Int) - s.ml.slotAt
    let k : Int := (d + 12500000) / 25000000
    let off : Int := d - k * 25000000
    let here : Int := (slot : Int) - k
    let s : State := { s with
      ml := { s.ml with slotAt := ((s.ml.slotAt : Int) + off).toNat }
      tw := { s.tw with
        alignedAt := some s.now
        adopt := if here = s.ml.slot then none else some ((here + 1).toNat) } }
    (s.setFld F.TWN_STAT_time_src 1).setFld F.TWN_TIME_offset (codeN 16 (off / 100))

/-- A frame the Shadow checked is confirmed: its counter and last-heard time are recorded. -/
def State.shadowRecord (s : State) (e : ShadowFrame) : State :=
  let s := s.recordCtr e.addr e.epoch e.ctr false
  (s.updConnOf e.addr fun c => { c with heard := e.at_ns, heardIn := true }).heardCtx e.addr

/-- SLOT_REC: the frames of the slot that it lists are recorded, inner blocks by the record alone. -/
def State.onSlotRec (s : State) (slot : Nat) (link inner : List TRec) : State :=
  if !s.listens then s
  else
    let s := s.count F.TWN_SLOT_REC_received
    let listed (e : ShadowFrame) : Bool :=
      e.slot == slot && link.any fun r => r.addr == e.addr && r.ctr == e.ctr && r.epoch == e.epoch
    let mine := s.tw.shadow.filter listed
    let s : State := { s with tw := { s.tw with
      shadow := s.tw.shadow.filter fun e => !(e.slot == slot), recSlot := some slot } }
    let s := s.each mine State.shadowRecord
    s.each inner fun s r =>
      match s.nodeRec r.addr, s.epoch? with
      | some n, some cur =>
        if judgeCtr cur n r.epoch r.ctr = some true then (s.recordCtr r.addr r.epoch r.ctr false).heardCtx r.addr else s
      | _, _ => s

/-- LEASE: recorded as `peer_end`, then acknowledged; a record that cannot be written is not. -/
def State.onLease (s : State) (epoch leaseEnd : Nat) (ok : Bool) : State :=
  match s.ms.rec_ with
  | none => s
  | some r =>
    if r.epoch ≠ epoch then s
    else if !ok then s.mramFault 6 0
    else
      let r' := { r with peerEnd := max r.peerEnd leaseEnd }
      let s : State := { s with
        ms := { s.ms with rec_ := some r' }, nv := { s.nv with lease := some r' }, tw := { s.tw with peerFixed := true } }
      s.twinSend 5 (toLE 1 epoch ++ toLE 5 leaseEnd)

/-- LEASE_ACK: the Lead may use its new lease. -/
def State.onLeaseAck (s : State) (epoch leaseEnd : Nat) : State :=
  if s.epoch? ≠ some epoch then s
  else
    let old := s.fld F.TWN_ACKED_HI_acked * 2 ^ 32 + s.fld F.TWN_ACKED_LO_acked
    let hi := max old leaseEnd
    let s := (s.setFld F.TWN_ACKED_LO_acked hi).setFld F.TWN_ACKED_HI_acked (hi / 2 ^ 32)
    if s.tw.leaseOut = some (epoch, leaseEnd) then
      { s with tw := { s.tw with leaseOut := none, leaseFree := false }, ms := { s.ms with stalled := false } }
    else s

/-- What an accepted message does. -/
def State.twinBody (s : State) (m : TMsg) (ok : Bool) : State :=
  match m.body with
  | .hello _ mode _ absent heard => s.onHello mode absent heard
  | .time slot b => if s.tw.link = .up then s.onTime slot b else s
  | .slotRec slot link inner => if s.tw.link = .up then s.onSlotRec slot link inner else s
  | .lease e n => if s.tw.link = .up then s.onLease e n ok else s
  | .leaseAck e n => if s.tw.link = .up then s.onLeaseAck e n else s
  | .revert slot => if s.tw.link = .up then { s with tw := { s.tw with peerRevert := some slot } } else s
  | .status b => if s.tw.link = .up then { s with tw := { s.tw with peerStatus := b } } else s

/-- A message that injection lets through. -/
def State.twinAccept (s : State) (m : TMsg) (ok : Bool) : State :=
  match s.twinValid m with
  | (true, s) => s.twinBody m ok
  | (false, s) => s

/-- A message arrives on the twin link, past fault injection on path 3 (R559); `ok`: an MRAM record that it brings can
be written. -/
def State.twinRx (s : State) (m : TMsg) (ok : Bool := true) : State :=
  if s.tw.link = .down || !s.twinReady then s
  else
    let pass (s : State) (m : TMsg) : State :=
      let (free, s) := (s.twinAccept m ok).fltPassed 3 0
      s.each free fun s h => match h.msg with
        | some x => s.twinAccept x ok
        | none => s
    match s.fltTest 3 0 with
    | (.pass, s) => pass s m
    | (.drop, s) => s
    | (.corrupt _ _, s) => pass s { m with hdr := { m.hdr with tagOk := false } }
    | (.hold k d, s) =>
      s.fltHold { rule := k, depth := d, path := 3, ring := 0, passed := 0, at_ns := s.now, data := [], msg := some m }

/-- HELLO_TX. -/
def State.helloTx (s : State) : State :=
  s.twinSend 1 (toLE 8 s.tw.session ++ toLE 1 s.tw.claim ++ toLE 1 s.pw.mode.code ++ toLE 1 s.tw.role.code ++
    toLE 1 s.tw.absence.toNat)

/-- STATUS_TX. -/
def State.statusTx (s : State) : State :=
  s.twinSend 7 (toLE 1 s.servNow.toNat ++ toLE 2 s.holdoffLeft ++ toLE 1 s.nv.stoodDown.toNat)

/-- LEASE_RESEND: every 10 ms until it is acknowledged. -/
def State.leaseResend (s : State) : State :=
  if s.tw.leaseOut.isNone || s.tw.role != .lead || s.tw.link != .up || decide (s.now < s.tw.leaseAt + msNs 10) then s
  else s.sendLease

/-! ## The slot boundary -/

/-- The end of a slot: a U slot without a slot record is counted while the link is up, and its frames whose receipt was
heard are recorded; a Lead that has sent no record sends it (R499, R502). -/
def State.twinSlotEnd (s : State) : State :=
  let s := s.sendSlotRec
  let u : Bool := !s.ml.isD s.ml.slot && s.flag F.MSH_STAT_running
  let missed : Bool := s.tw.recSlot != some s.ml.slot
  let s := if u && missed && s.isShadow && s.tw.link == .up then s.count F.TWN_SLOT_REC_missed else s
  let mine := s.tw.shadow.filter fun e => e.heard && missed
  let s := s.each mine State.shadowRecord
  { s with tw := { s.tw with
    shadow := [], tookSlot := none, recSent := false
    peerRevert := if s.tw.peerRevert = some s.ml.slot then none else s.tw.peerRevert
    revertSlot := if s.tw.revertSlot = some s.ml.slot then none else s.tw.revertSlot } }

/-- The start of a slot: the Lead tells the time. -/
def State.twinSlotStart (s : State) : State :=
  if s.tw.role = .lead then s.twinSend 2 (toLE 5 s.ml.slot ++ toLE 8 s.ml.slotAt) else s

/-! ## The preferred bit, holds, stand-down (R493, R508, R509, R513) -/

/-- The straps ask for automatic revert. -/
def State.wantsLead (s : State) : Bool := s.flag F.TOP_STRAP_twin_pref && s.fld F.TOP_STRAP_twin_id == 0

/-- HOLDOFF_EXPIRY: the preferred bit may rise, at 24.500 ms of the first slot whose 20.000 ms is still to come. -/
def State.holdoffEnd (s : State) : State :=
  match s.tw.servSince with
  | none => s
  | some t =>
    if s.now < t + secNs s.holdoff || s.tw.preferred || s.tw.hold || !s.wantsLead || s.tw.revertSlot.isSome then s
    else
      let slot := if s.now ≤ s.ml.slotAt + 20000000 then s.ml.slot else (s.ml.slot + 1) % 2 ^ 40
      { s with tw := { s.tw with revertSlot := some slot } }

/-- PREFERRED_RAISE: at 24.500 ms of a slot.  A hold on a unit that would still exceed a serviceable peer clears
serviceable; a Lead that hands over for Dusk clears preferred and serviceable; the preferred bit rises where a revert
has been prepared for the slot. -/
def State.preferredRaise (s : State) : State :=
  let off := s.now - s.ml.slotAt
  let told := toLE 5 s.ml.slot
  if off < 24500000 then s
  else if s.tw.dusk && s.tw.duskWait.isNone then
    let s := s.twinSend 6 told
    let s : State := { s with tw := { s.tw with duskWait := some s.now, absence := true, preferred := false } }
    s.helloTx.reclaim 1
  else if s.tw.hold then
    if s.tw.holdClr || !s.peerServ || decide (s.tw.claim ≤ s.tw.claimIn) then s
    else
      let s := s.twinSend 6 told
      ({ s with tw := { s.tw with holdClr := true } }).reclaim 3
  else if s.tw.revertSlot = some s.ml.slot ∧ s.servNow ∧ s.wantsLead then
    let s := s.twinSend 6 told
    ({ s with tw := { s.tw with preferred := true } }).reclaim
  else s

/-- RECOVERY_WINDOW_CLOSE: serviceable has held for 60 s. -/
def State.windowClose (s : State) : State :=
  match s.tw.servSince with
  | some t => if t + secNs 60 ≤ s.now then { s with tw := { s.tw with window := false } } else s
  | none => s

/-- STAND_DOWN: the second claim fault is recorded; it lasts until it is cleared. -/
def State.standDown (s : State) : State :=
  if !s.tw.standDue then s
  else
    let s : State := { s with nv := { s.nv with stoodDown := true }, tw := { s.tw with standDue := false } }
    (s.reclaim.twinEvent 6 s.tw.role 0 0).twinFault

/-- TWN_HOLD_TIMEOUT: 50 ms after a hold on a Lead whose role has not become Shadow. -/
def State.holdTimeout (s : State) : State :=
  match s.tw.holdAt with
  | none => s
  | some t =>
    if s.now < t + msNs 50 then s
    else
      let s : State := { s with tw := { s.tw with holdAt := none, hold := false, holdClr := false } }
      let s := s.each (s.io.hf.deferred.filter fun d => d.opcode == 0x0701) fun s d => s.finish d stTIMEOUT
      s.reclaim

/-- TWN_ROLE_REQUEST's own rules (R513); the claim follows when its completion has been posted. -/
def State.roleRequest (s : State) (c : Cmd) : Reply :=
  let op := c.f 0 1
  if 2 < op ∨ !c.zero 1 23 ∨ (op = 2 ∧ !s.nv.stoodDown) then Reply.err s stBAD_ARG
  else if s.pw.mode ≠ .full then Reply.err s stUNSUPPORTED
  else if op = 0 then
    let waits : Bool := s.tw.role == .lead && s.peerServ
    let s : State := { s with tw := { s.tw with
      hold := true, preferred := false, revertSlot := none, holdAt := if waits then some s.now else s.tw.holdAt } }
    if waits then Reply.defer s else Reply.ok s
  else if op = 1 then Reply.ok { s with tw := { s.tw with hold := false, holdClr := false } }
  else Reply.ok { s with nv := { s.nv with stoodDown := false } }

/-- After TWN_ROLE_REQUEST the claim follows; a hold that has made the device Shadow is done. -/
def State.roleSettle (s : State) : State :=
  let s := s.reclaim 3
  (if s.isShadow then s.holdDone else s).twinFault

/-- TWN_STATUS's own rules (R514). -/
def State.twnStatus (s : State) (c : Cmd) : Reply :=
  if c.f 0 8 % 32 ≠ 0 ∨ !c.zero 8 16 then Reply.err s stBAD_ARG
  else
    let lease := (s.ms.rec_.map (·.leaseEnd)).getD 0
    let acked := s.fld F.TWN_ACKED_HI_acked * 2 ^ 32 + s.fld F.TWN_ACKED_LO_acked
    let b := toLE 4 s.twnStat.toNat ++ toLE 2 s.holdoffLeft ++ toLE 2 s.windowLeft ++ toLE 5 s.ms.ctr ++ toLE 5 lease ++
      toLE 5 s.peerEnd ++ toLE 5 acked ++ toLE 2 (s.fld F.TWN_TIME_offset) ++ toLE 1 s.tw.peerMode ++
      List.replicate 33 0#8
    Reply.ok s [(c.f 0 8, b)]

/-! ## Meanings -/

/-- CLAIM_IN_CHANGE (R495). -/
def execClaimInChange (t : Nat) (value : Fin 16) (s : State) : Host.Outcome State Fault Refusal :=
  run t s fun s => s.claimIn value

/-- GATE_OPEN (R495). -/
def execGateOpen (t : Nat) (s : State) : Host.Outcome State Fault Refusal := run t s State.gateOpens

/-- HELLO (R501). -/
def execHello (t : Nat) (m : THdr) (claim mode role : Nat) (absent heard : Bool) (s : State) :
    Host.Outcome State Fault Refusal :=
  run t s fun s => s.twinRx ⟨m, .hello claim mode role absent heard⟩

/-- TIME (R500). -/
def execTime (t : Nat) (m : THdr) (slot boundary : Nat) (s : State) : Host.Outcome State Fault Refusal :=
  run t s fun s => s.twinRx ⟨m, .time slot boundary⟩

/-- SLOT_REC (R499). -/
def execSlotRec (t : Nat) (m : THdr) (slot : Nat) (link inner : List TRec) (s : State) :
    Host.Outcome State Fault Refusal :=
  run t s fun s => s.twinRx ⟨m, .slotRec slot link inner⟩

/-- LEASE (R505). -/
def execLease (t : Nat) (m : THdr) (epoch leaseEnd : Nat) (ok : Bool) (s : State) : Host.Outcome State Fault Refusal :=
  run t s fun s => s.twinRx ⟨m, .lease epoch leaseEnd⟩ ok

/-- LEASE_ACK (R504). -/
def execLeaseAck (t : Nat) (m : THdr) (epoch leaseEnd : Nat) (s : State) : Host.Outcome State Fault Refusal :=
  run t s fun s => s.twinRx ⟨m, .leaseAck epoch leaseEnd⟩

/-- REVERT (R508). -/
def execRevert (t : Nat) (m : THdr) (slot : Nat) (s : State) : Host.Outcome State Fault Refusal :=
  run t s fun s => s.twinRx ⟨m, .revert slot⟩

/-- STATUS (R502). -/
def execStatus (t : Nat) (m : THdr) (body : Bytes) (s : State) : Host.Outcome State Fault Refusal :=
  run t s fun s => s.twinRx ⟨m, .status body⟩

/-- HELLO_TX (R502). -/
def execHelloTx (t : Nat) (s : State) : Host.Outcome State Fault Refusal := run t s State.helloTx

/-- STATUS_TX (R502). -/
def execStatusTx (t : Nat) (s : State) : Host.Outcome State Fault Refusal := run t s State.statusTx

/-- LEASE_RESEND (R504). -/
def execLeaseResend (t : Nat) (s : State) : Host.Outcome State Fault Refusal := run t s State.leaseResend

/-- TWIN_LINK_TIMEOUT (R501). -/
def execTwinLinkTimeout (t : Nat) (s : State) : Host.Outcome State Fault Refusal := run t s State.twinTimeout

/-- TWIN_LINK_RETRAIN (R501). -/
def execTwinLinkRetrain (t : Nat) (s : State) : Host.Outcome State Fault Refusal := run t s State.twinRetrain

/-- HOLDOFF_EXPIRY (R493). -/
def execHoldoffExpiry (t : Nat) (s : State) : Host.Outcome State Fault Refusal := run t s State.holdoffEnd

/-- PREFERRED_RAISE (R508, R512, R513). -/
def execPreferredRaise (t : Nat) (s : State) : Host.Outcome State Fault Refusal := run t s State.preferredRaise

/-- RECOVERY_WINDOW_CLOSE (R509). -/
def execRecoveryWindowClose (t : Nat) (s : State) : Host.Outcome State Fault Refusal := run t s State.windowClose

/-- PEER_LOST (R510). -/
def execPeerLost (t : Nat) (s : State) : Host.Outcome State Fault Refusal := run t s State.twinFault

/-- STAND_DOWN (R509). -/
def execStandDown (t : Nat) (s : State) : Host.Outcome State Fault Refusal := run t s State.standDown

/-- TWN_HOLD_TIMEOUT (R513). -/
def execTwnHoldTimeout (t : Nat) (s : State) : Host.Outcome State Fault Refusal := run t s State.holdTimeout

/-- TWN_ROLE_REQUEST (R513). -/
def execTwnRoleRequest (t : Nat) (c : Cmd) (s : State) : Host.Outcome State Fault Refusal :=
  run t s fun s => (ringRun 0x0701 .command c (fun s => s.roleRequest c) s).roleSettle

/-- TWN_STATUS (R514). -/
def execTwnStatus (t : Nat) (c : Cmd) (s : State) : Host.Outcome State Fault Refusal :=
  ringCommand 0x0702 t c (fun s => s.twnStatus c) s

end Sys2Proof.Machine
end

