-- ==== Sys2Proof/Machine/Window.lean ====
section
/-!
DEFINITION. Sys2Proof/Machine/Window.lean: the fault-injection window (R557 to R560): its opening and closing, its
rules, and the frames that reorder rules hold.
-/

namespace Sys2Proof.Machine

/-- A held frame goes on where it was held. -/
def State.fltRelease (s : State) (h : FltHeld) : State :=
  match h.path with
  | 1 => s.ethAccept 0 h.data true true
  | 2 => s.ethAccept 1 h.data true true
  | 3 => match h.msg with
    | some m => if s.tw.link = .down then s else s.twinAccept m true
    | none => s
  | 4 => match h.pkt with
    | some p => s.toSorter p
    | none => s
  | 5 => match h.pkt with
    | some p => s.fillRx h.ring p
    | none => s
  | _ => s

/-- The window opens (R557). -/
def State.windowOpen (s : State) (secs paths : Nat) (addrs : List Nat) : State :=
  let s := (s.setFld F.FLT_STAT_open 1).setFld F.FLT_STAT_paths paths
  let s : State := { s with fl := { s.fl with until_ns := s.now + secNs secs, addrs := addrs, rules := [] } }
  s.log 0x14 0xFF 1

/-- The window closes: every rule is cleared, and the held frames are released in the order of arrival. -/
def State.windowShut (s : State) : State :=
  if !s.fltOpen then s
  else
    let held := s.fl.held
    let s := (s.setFld F.FLT_STAT_open 0).setFld F.FLT_STAT_paths 0
    let s : State := { s with fl := { s.fl with rules := [], held := [], addrs := [] } }
    (s.log 0x14 0xFF 0).each held State.fltRelease

/-- FLT_SET's own rules (R558). -/
def State.fltSet (s : State) (c : Cmd) : Reply :=
  let rule := c.f 0 1
  let op := c.f 1 1
  let path := c.f 2 1
  let action := c.f 3 1
  let depth := c.f 6 1
  let flags := c.f 7 1
  let m := c.f 12 3
  let mesh : Bool := path == 6 || path == 7
  if !s.fltOpen ∨ (s.pw.mode ≠ .full ∧ s.pw.mode ≠ .dawn) then Reply.err s stUNSUPPORTED
  else if 15 < rule ∨ 2 < op ∨ 3 < flags ∨ !c.zero 15 1 ∨ !c.zero 20 4 then Reply.err s stBAD_ARG
  else if op = 1 then Reply.ok { s with fl := { s.fl with rules := Tbl.del s.fl.rules rule } }
  else if op = 2 then
    if bitN flags 1 then Reply.ok s.windowShut else Reply.ok { s with fl := { s.fl with rules := [] } }
  else if path = 0 ∨ 7 < path ∨ !bitN (s.fld F.FLT_STAT_paths) path ∨ action = 0 ∨ 3 < action ∨ (action = 3 ∧ mesh) ∨
      (action = 3 ∧ depth = 0) ∨ 15 < depth ∨ (mesh ∧ !s.fl.addrs.isEmpty ∧ !s.fl.addrs.contains m) then
    Reply.err s stBAD_ARG
  else
    let r : FltRule :=
      { path := path, action := action, rate := c.f 4 2, depth := depth, fcsFix := bitN flags 0, limit := c.f 8 4,
        match_ := if mesh then m else 0, seed := c.f 16 4 }
    let s : State := { s with fl := { s.fl with rules := Tbl.put s.fl.rules rule r } }
    Reply.ok (s.setFld (F.FLT_CNT_acted rule) 0)

/-- FAULT_WINDOW_EXPIRY. -/
def State.windowExpiry (s : State) : State := if s.fltOpen && decide (s.fl.until_ns ≤ s.now) then s.windowShut else s

/-- REORDER_HOLD_EXPIRY: an Ethernet frame has been held for 1 ms. -/
def State.reorderExpiry (s : State) : State :=
  let due (h : FltHeld) : Bool := (h.path == 1 || h.path == 2) && decide (h.at_ns + msNs 1 ≤ s.now)
  let out := s.fl.held.filter due
  ({ s with fl := { s.fl with held := s.fl.held.filter fun h => !due h } }).each out State.fltRelease

/-! ## Meanings -/

/-- FLT_SET (R558). -/
def execFltSet (t : Nat) (c : Cmd) (s : State) : Host.Outcome State Fault Refusal :=
  ringCommand 0x0A01 t c (fun s => s.fltSet c) s

/-- FAULT_WINDOW_EXPIRY (R557). -/
def execFaultWindowExpiry (t : Nat) (s : State) : Host.Outcome State Fault Refusal := run t s State.windowExpiry

/-- REORDER_HOLD_EXPIRY (R559). -/
def execReorderHoldExpiry (t : Nat) (s : State) : Host.Outcome State Fault Refusal := run t s State.reorderExpiry

end Sys2Proof.Machine
end

