-- ==== Sys2Proof/Machine/Vault.lean ====
section
/-!
DEFINITION. Sys2Proof/Machine/Vault.lean: the key vault (10_key_vault): its stored records and working copies, sealed
letters, the vault commands and the scheduled re-wrap.
-/

namespace Sys2Proof.Machine

/-! ## Stored records (R300 to R302) -/

/-- The storage key: 256 bits. -/
def storageKey256 : Bytes := Bytes.slice Config.storageKey 0 32

/-- The key of a stored record: none where its CRC or its unwrapping fails, or where it is marked empty. -/
def KvRec.key? (r : KvRec) : Option Bytes :=
  if !r.crc || r.empty then none
  else (kwUnwrap storageKey256 r.wrapped).map fun x => xorBytes x (Bytes.slice r.share 0 r.size)

/-- The record can be used: its CRC holds, and it is marked empty or unwraps correctly. -/
def KvRec.good (r : KvRec) : Bool := r.crc && (r.empty || r.key?.isSome)

/-- Record `a` is newer than record `b`: generations are compared in 32-bit serial arithmetic. -/
def KvRec.newer (a b : KvRec) : Bool := decide ((a.gen + 2 ^ 32 - b.gen) % 2 ^ 32 < 2 ^ 31)

/-- The newer of a slot's two records among those that satisfy `p`, with its place (true: the second). -/
def newestRec (pr : Option KvRec × Option KvRec) (p : KvRec → Bool) : Option (KvRec × Bool) :=
  match pr.1.filter p, pr.2.filter p with
  | none, none => none
  | some a, none => some (a, false)
  | none, some b => some (b, true)
  | some a, some b => if b.newer a && b.gen != a.gen then some (b, true) else some (a, false)

/-- The two records of a slot. -/
def State.kvRecs (s : State) (slot : Nat) : Option KvRec × Option KvRec := Tbl.getD s.nv.vault slot (none, none)

/-- The newest record of a slot whose CRC holds: what is still readable of a lost slot (R302). -/
def State.kvLast (s : State) (slot : Nat) : Option KvRec := (newestRec (s.kvRecs slot) (·.crc)).map (·.1)

/-- The stored letter counter (R312): the highest of the counter record and the counter of any valid slot record. -/
def State.letterCtr (s : State) : Nat :=
  let ctrOf (r : Option KvRec) : Nat := ((r.filter KvRec.good).map (·.ctr)).getD 0
  s.nv.vault.foldl (fun m (p : Nat × (Option KvRec × Option KvRec)) => max m (max (ctrOf p.2.1) (ctrOf p.2.2)))
    s.nv.letterCtr

/-- Write a record of a slot over its older one, with the next generation. -/
def State.putKvRec (s : State) (slot : Nat) (mk : Nat → KvRec) : State :=
  let pr := s.kvRecs slot
  let pr' : Option KvRec × Option KvRec := match newestRec pr KvRec.good with
    | none => (some (mk 1), pr.2)
    | some (r, second) =>
      let n := mk ((r.gen + 1) % 2 ^ 32)
      if second then (some n, pr.2) else (pr.1, some n)
  { s with nv := { s.nv with vault := Tbl.put s.nv.vault slot pr' } }

/-- Store a key: a new share, the key XORed with it and wrapped (R300, R301). -/
def State.storeKey (s : State) (slot : Nat) (key : Bytes) (policy size auth ctr : Nat) : State :=
  let (share, s) := s.draw 32
  let x := kwWrap storageKey256 (xorBytes key (Bytes.slice share 0 size))
  s.putKvRec slot fun g =>
    { gen := g, empty := false, share := share, wrapped := x, policy := policy, size := size, auth := auth, ctr := ctr }

/-- Load a working copy under a fresh mask (R297). -/
def State.loadWork (s : State) (slot : Nat) (key : Bytes) (policy size auth ctr : Nat) : State :=
  let (m, s) := s.draw 32
  let m := Bytes.slice m 0 size
  let w : KvWork :=
    { policy := policy, size := size, auth := auth, ctr := ctr, m0 := m, x0 := xorBytes key m, m1 := [], x1 := [],
      sel := false }
  { s with kv := { s.kv with work := Tbl.put s.kv.work slot w, lost := s.kv.lost.erase slot } }

/-- Re-wrap a loaded slot: a new share over the older record (R301). -/
def State.rewrap (s : State) (slot : Nat) : State :=
  match Tbl.get? s.kv.work slot with
  | some w => s.storeKey slot w.key w.policy w.size w.auth w.ctr
  | none => s

/-- Load one slot from MRAM (R302). -/
def State.loadSlot (s : State) (slot : Nat) : State :=
  let pr := s.kvRecs slot
  match newestRec pr KvRec.good with
  | some (r, _) => match r.key? with
    | some k => s.loadWork slot k r.policy r.size r.auth r.ctr
    | none => s
  | none =>
    if pr.1.isNone && pr.2.isNone then s
    else
      let s : State := { s with kv := { s.kv with lost := s.kv.lost ++ [slot] } }
      let (body, s) := (s.setFld F.KV_STAT_store_err 1).draw 23
      let s := s.event 0x0D body
      s.when (s.slotInUse slot) fun s => s.faultEv 0x6 7 slot

/-- Franking rebuilds every working copy from MRAM and re-wraps them (R299, R301, R302). -/
def State.vaultLoad (s : State) : State :=
  let s : State := { s with kv := { s.kv with work := [], lost := [] } }
  let s := (s.each (Tbl.keys s.nv.vault) State.loadSlot).vaultFault
  let s := s.each (Tbl.keys s.kv.work) State.rewrap
  { s with kv := { s.kv with ready := true, remaskAt := s.now, rewrapAt := s.now + secNs 86400 } }

/-- REWRAP_SCHEDULED (R301). -/
def State.rewrapAll (s : State) : State :=
  if !s.kv.ready || decide (s.now < s.kv.rewrapAt) then s
  else
    let s := s.each (Tbl.keys s.kv.work) State.rewrap
    ({ s with kv := { s.kv with rewrapAt := s.now + secNs 86400 } }).count F.KV_WRAP_rewraps

/-! ## Sealed letters (R307 to R312) -/

/-- Fields of a letter's header and body. -/
def Letter.type (l : Letter) : Nat := l.data.le 5 1
def Letter.signer (l : Letter) : Nat := l.data.le 6 1
def Letter.counter (l : Letter) : Nat := l.data.le 32 8
def Letter.pub (l : Letter) : Bytes := Bytes.slice l.data 40 96
def Letter.body (l : Letter) (off n : Nat) : Nat := l.data.le (136 + off) n
def Letter.zero (l : Letter) (off n : Nat) : Bool := Bytes.zero (Bytes.slice l.data (136 + off) n)

/-- The letter's length fits its type, and the reserved fields of its body are 0 (R308). -/
def Letter.bodyOk (l : Letter) : Bool :=
  let n := l.len - 232
  match l.type with
  | 1 =>
    let size := l.body 1 1
    (n == 136 || n == 152) && l.zero 2 2 && (size != 16 || n == 136) && (size != 32 || n == 152)
  | 2 => n == 8 && l.zero 1 7
  | 3 => n == 56 && l.zero 1 7 && decide (l.body 0 1 < 4)
  | 4 => n == 8 && l.zero 1 7 && decide (l.body 0 1 < 4)
  | 5 => decide (8 ≤ n) && decide (n ≤ 256) && n % 8 == 0 && l.zero 5 3 &&
      (List.range (n / 8 - 1)).all fun i => l.zero (8 + 8 * i + 3) 5
  | 6 => n == 8 && l.zero 0 8
  | 7 => n == 8 && l.zero 0 8
  | _ => false

/-- Step 2 of R310. -/
def Letter.wellFormed (l : Letter) : Bool :=
  decide (240 ≤ l.len) && decide (l.len ≤ 1024) && Bytes.slice l.data 0 4 == [0x50#8, 0x4D#8, 0x53#8, 0x4C#8] &&
    l.data.le 4 1 == 1 && decide (l.signer < 4) && l.data.le 7 1 == 0 && l.data.le 8 2 == l.len &&
    Bytes.zero (Bytes.slice l.data 10 6) && l.bodyOk

/-- A policy word that satisfies the conditions of R294. -/
def policyOk (p size : Nat) : Bool :=
  (p % 8 == 1 || p % 8 == 2 || p % 8 == 4) && bitsN p 7 3 == 0 && bitsN p 11 8 != 0 && decide (p < 2 ^ 12) &&
    (p % 8 != 1 || size == 16)

/-- The authority slot may sign (R303). -/
def State.authOk (s : State) (n : Nat) : Bool :=
  let a := Tbl.getD s.nv.auth n {}
  a.programmed && !a.revoked

/-- A slot that may be overwritten by an authority: empty, or the signer is in its `auth_mask` (R302, R311). -/
def State.mayWrite (s : State) (slot signer : Nat) : Bool :=
  match Tbl.get? s.kv.work slot with
  | some w => bitN w.policy (8 + signer)
  | none =>
    if s.kv.lost.contains slot then match s.kvLast slot with
      | some r => r.empty || bitN r.policy (8 + signer)
      | none => true
    else true

/-- The mesh short addresses that a TEST_WINDOW letter lists (R557). -/
def Letter.addrs (l : Letter) : List Nat := (List.range ((l.len - 232) / 8 - 1)).map fun i => l.body (8 + 8 * i) 3

/-- The programmed authority slots that are not revoked. -/
def State.authsLeft (s : State) : Nat := ((List.range 4).filter s.authOk).length

/-- The type checks of step 7 (R311, R557). -/
def State.typeOk (s : State) (l : Letter) : Bool :=
  let slot := l.body 0 1
  match l.type with
  | 1 =>
    decide (slot < 64) && (l.body 1 1 == 16 || l.body 1 1 == 32) && policyOk (l.body 4 4) (l.body 1 1) &&
      !s.slotInUse slot && s.mayWrite slot l.signer
  | 2 => (match Tbl.get? s.kv.work slot with
      | some w => !s.slotInUse slot && bitN w.policy (8 + l.signer)
      | none => false)
  | 3 => !(Tbl.getD s.nv.auth slot {}).programmed
  | 4 => s.authOk slot && decide (1 < s.authsLeft)
  | 5 =>
    let d := l.body 0 4
    let paths := l.body 4 1
    decide (1 ≤ d) && decide (d ≤ 86400) && paths != 0 && paths % 2 == 0 && !l.addrs.contains 0 &&
      !l.addrs.contains 0xFFFFFF && !s.fltOpen && (s.pw.mode == .full || s.pw.mode == .dawn)
  | 6 => s.nv.lifecycle == 1
  | 7 => !(List.range 64).any s.slotInUse
  | _ => false

/-- The key that a KEY_WRITE letter carries (R309): none where its GCM tag does not verify. -/
def State.letterKey (s : State) (l : Letter) : Option Bytes :=
  let z := ecdh Config.transportKey (pointOf (Bytes.slice l.data 144 96))
  let ctr := toLE 8 l.counter
  let kek := (hmacSha384 z
    ([0x01#8] ++ ascii "PM-letter" ++ [0x00#8] ++ s.nv.unitId ++ ctr ++ toLE 1 (l.body 0 1) ++ [0x01#8, 0x00#8])).take 32
  let size := l.len - 232 - 120
  gcmOpen kek (ctr ++ toLE 4 0) (Bytes.slice l.data 240 size) (Bytes.slice l.data (240 + size) 16)

/-- The checks of R310 in order: the step that fails first and its status; none where all pass. -/
def State.letterCheck (s : State) (l : Letter) : Option (Nat × Nat) :=
  let a := Tbl.getD s.nv.auth l.signer {}
  if 2 ≤ s.nv.lifecycle then some (1, stUNSUPPORTED)
  else if !l.wellFormed then some (2, stBAD_ARG)
  else if Bytes.slice l.data 16 16 ≠ s.nv.unitId then some (3, stBAD_ARG)
  else if !s.authOk l.signer ∨ sha384 l.pub ≠ a.hash then some (4, stBAD_SIGNATURE)
  else if !ecdsaOk l.pub (l.data.take (l.len - 96)) (Bytes.slice l.data (l.len - 96) 96) then some (5, stBAD_SIGNATURE)
  else if l.counter ≤ s.letterCtr then some (6, stREPLAY)
  else if !s.typeOk l then some (7, stBAD_ARG)
  else if l.type = 1 then
    if !onCurve (pointOf (Bytes.slice l.data 144 96)) then some (8, stBAD_ARG)
    else if (s.letterKey l).isNone then some (8, stBAD_SIGNATURE)
    else none
  else none

/-- Erase a slot: both records marked empty with the letter's counter, the working copy and the cache entries
cleared (R272, R312). -/
def State.eraseSlot (s : State) (signer ctr slot : Nat) : State :=
  let mk (g : Nat) : KvRec :=
    { gen := g, empty := true, share := [], wrapped := [], policy := 0, size := 0, auth := signer, ctr := ctr }
  let g := ((newestRec (s.kvRecs slot) (·.crc)).map (·.1.gen)).getD 0
  let s : State := { s with
    nv := { s.nv with
      vault := Tbl.put s.nv.vault slot (some (mk ((g + 1) % 2 ^ 32)), some (mk ((g + 2) % 2 ^ 32))) }
    kv := { s.kv with work := Tbl.del s.kv.work slot, lost := s.kv.lost.erase slot } }
  s.cacheDrop fun _ => true

/-- Write the counter record (R312). -/
def State.putLetterCtr (s : State) (ctr : Nat) : State := { s with nv := { s.nv with letterCtr := ctr } }

/-- Program OTP fuses; a fuse that fails its verification is a class 0x6 fault, and the fuse has no effect (R549). -/
def State.fuse (s : State) (otpOk : Bool) (f : State → State) : State :=
  if otpOk then f s else (s.setFld F.TEL_FAULT_otp 1).faultEv 0x6 7 0

/-- The commit of a letter that has passed every check (R312). -/
def State.letterCommit (s : State) (l : Letter) (otpOk : Bool) : State :=
  let slot := l.body 0 1
  let ctr := l.counter
  match l.type with
  | 1 => match s.letterKey l with
    | some k =>
      let size := l.body 1 1
      let pol := l.body 4 4
      ((s.storeKey slot k pol size l.signer ctr).putLetterCtr ctr).loadWork slot k pol size l.signer ctr
    | none => s
  | 2 => (s.eraseSlot l.signer ctr slot).putLetterCtr ctr
  | 3 => (s.putLetterCtr ctr).fuse otpOk fun s =>
      let a : Authority := { hash := Bytes.slice l.data 144 48, programmed := true }
      { s with nv := { s.nv with auth := Tbl.put s.nv.auth slot a } }
  | 4 => (s.putLetterCtr ctr).fuse otpOk fun s =>
      { s with nv := { s.nv with auth := Tbl.upd s.nv.auth slot fun a => { a with revoked := true } } }
  | 5 => (s.putLetterCtr ctr).windowOpen (l.body 0 4) (l.body 4 1) l.addrs
  | 6 =>
    let s := s.putLetterCtr ctr
    { s with kv := { s.kv with unlocked := true } }
  | 7 =>
    let s := s.putLetterCtr ctr
    let s := s.each (Tbl.keys s.nv.vault) (State.eraseSlot · l.signer ctr)
    s.fuse otpOk fun s => { s with nv := { s.nv with lifecycle := 2 } }
  | _ => s

/-- The letter's final completion. -/
def State.letterOver (s : State) (l : Letter) (status : Nat) : State :=
  s.finishKey l.opcode l.key status

/-- LETTER_PROCESS: the first waiting letter is checked and committed (R310, R312).  `mramOk` is false where the
commit's record write fails its retry: nothing is committed, a class 0x6 fault. -/
def State.letterProcess (s : State) (mramOk otpOk : Bool) : State :=
  match s.kv.letters with
  | [] => s
  | l :: rest =>
    if !s.kv.ready || !s.pllA then s
    else
      let s : State := { s with kv := { s.kv with letters := rest } }
      let last (s : State) (step status : Nat) : State :=
        ((s.setFld F.KV_LETTER_LAST_step step).setFld F.KV_LETTER_LAST_status status).setFld
          F.KV_LETTER_LAST_type l.type
      match s.letterCheck l with
      | some (step, status) => ((last s step status).count F.KV_LETTER_CNT_refused).letterOver l status
      | none =>
        if !mramOk then ((last s 0 stHW_FAULT).mramFault 7 0).letterOver l stHW_FAULT
        else
          let st := if !otpOk && (l.type == 3 || l.type == 4 || l.type == 7) then stHW_FAULT else stOK
          let s := (s.letterCommit l otpOk).log 0x13 0xFF l.type
          let s := ((last s 0 st).count F.KV_LETTER_CNT_accepted).setFld F.KV_AUTH_last_signer l.signer
          s.vaultFault.letterOver l st

/-! ## Vault commands (R315) -/

/-- KV_LETTER and UPD_LETTER: the letter is read and waits for its turn. -/
def State.letterSubmit (s : State) (op : Nat) (c : Cmd) : Reply :=
  let len := c.f 8 2
  if c.f 0 8 % 32 ≠ 0 ∨ !c.zero 10 14 then Reply.err s stBAD_ARG
  else if 4 ≤ s.kv.letters.length then Reply.err s stNO_ROOM
  else match c.readFails len with
    | some st => Reply.err s st
    | none =>
      let k := s.kv.letterKey + 1
      let l : Letter := { key := k, opcode := op, len := len, data := Bytes.slice c.rd 0 len }
      Reply.defer { s with kv := { s.kv with letters := s.kv.letters ++ [l], letterKey := k } } k

/-- The 16 bytes that KV_INFO writes of a slot; of a lost slot with no readable record the unknown ones are free. -/
def State.kvInfoSlot (s : State) (slot : Nat) : Bytes :=
  let row (st size pol auth ctr : Nat) : Bytes :=
    toLE 1 st ++ toLE 1 size ++ toLE 4 pol ++ toLE 1 auth ++ toLE 1 0 ++ toLE 8 ctr
  match Tbl.get? s.kv.work slot with
  | some w => row 1 w.size w.policy w.auth w.ctr
  | none =>
    let st := if s.kv.lost.contains slot then 2 else 0
    match s.kvLast slot with
    | some r => row st r.size r.policy r.auth r.ctr
    | none =>
      if st = 0 then row 0 0 0 0 0
      else
        let b := Bytes.slice (Config.freeBytes 15 s.free) 0 15
        toLE 1 2 ++ Bytes.slice b 0 6 ++ toLE 1 0 ++ Bytes.slice b 7 8

/-- KV_INFO. -/
def State.kvInfo (s : State) (c : Cmd) : Reply :=
  if c.f 0 8 % 32 ≠ 0 ∨ !c.zero 8 16 then Reply.err s stBAD_ARG
  else Reply.ok s.useFree [(c.f 0 8, ((List.range 64).map s.kvInfoSlot).flatten)]

/-- The public half of the unit transport key: x then y, 96 bytes (R304). -/
def transportPub : Bytes :=
  match ecAffine (ecMul 384 Config.transportKey (ecPoint p384G)) with
  | some (x, y) => toBE 48 x ++ toBE 48 y
  | none => List.replicate 96 0#8

/-- KV_UNIT_PUB. -/
def State.kvUnitPub (s : State) (c : Cmd) : Reply :=
  if c.f 0 8 % 32 ≠ 0 ∨ !c.zero 8 16 then Reply.err s stBAD_ARG
  else Reply.ok s [(c.f 0 8, s.nv.unitId ++ transportPub ++ List.replicate 16 0#8)]

/-- KV_CMAC: the tag of the first `len` bytes, written at offset `len`. -/
def State.kvCmac (s : State) (c : Cmd) : Reply :=
  let len := c.f 8 2
  if c.f 0 8 % 32 ≠ 0 ∨ !c.zero 11 13 ∨ len = 0 ∨ 4096 < len then Reply.err s stBAD_ARG
  else match s.slotKey (c.f 10 1) 2 with
    | none => Reply.err s stBAD_ARG
    | some key => match c.readFails len with
      | some st => Reply.err s st
      | none => Reply.ok s [(c.f 0 8 + len, aesCmac key (Bytes.slice c.rd 0 len))]

/-! ## Views -/

/-- Registers of the `KV_` block whose value lives in the state above. -/
def State.kvView (s : State) (off : Nat) : Option Word :=
  let w (n : Nat) : Option Word := some (BitVec.ofNat 32 n)
  let bits (l : List Nat) : Nat := (l.map fun n => 2 ^ n).foldl (· + ·) 0
  let ctr := s.letterCtr
  if off = 0x070000 then
    let own := (s.word 0x070000).toNat % 8 / 2 * 2
    w (own + s.kv.ready.toNat + 8 * (!s.kv.letters.isEmpty).toNat + 16 * (s.nv.lifecycle % 4) +
      64 * (s.nv.lifecycle != 1 || s.kv.unlocked).toNat + 128 * (ctr == 2 ^ 64 - 1).toNat)
  else if off = 0x070004 then w (ctr % 2 ^ 32)
  else if off = 0x070008 then w (ctr / 2 ^ 32)
  else if off = 0x07000C then w (bits (Tbl.keys s.kv.work) % 2 ^ 32)
  else if off = 0x070010 then w (bits (Tbl.keys s.kv.work) / 2 ^ 32)
  else if off = 0x070014 then w (bits s.kv.lost % 2 ^ 32)
  else if off = 0x070018 then w (bits s.kv.lost / 2 ^ 32)
  else if off = 0x07001C then
    let a (n : Nat) : Authority := Tbl.getD s.nv.auth n {}
    w (256 * s.fld F.KV_AUTH_last_signer + 16 * bits ((List.range 4).filter fun n => (a n).revoked) +
      bits ((List.range 4).filter fun n => (a n).programmed))
  else if off = 0x07002C then
    let next := if s.kv.ready then min 86400 ((s.kv.rewrapAt - s.now + 999999999) / 1000000000) else 86400
    w (s.fld F.KV_WRAP_rewraps * 2 ^ 17 + next)
  else none

/-! ## Meanings -/

/-- KV_LETTER (R315). -/
def execKvLetter (t : Nat) (c : Cmd) (s : State) : Host.Outcome State Fault Refusal :=
  ringCommand 0x0201 t c (fun s => s.letterSubmit 0x0201 c) s

/-- UPD_LETTER (R314, R531). -/
def execUpdLetter (t : Nat) (c : Cmd) (s : State) : Host.Outcome State Fault Refusal :=
  ringCommand 0x0805 t c (fun s => s.letterSubmit 0x0805 c) s

/-- LETTER_PROCESS (R310 to R312). -/
def execLetterProcess (t : Nat) (mramOk otpOk : Bool) (s : State) : Host.Outcome State Fault Refusal :=
  run t s fun s => s.letterProcess mramOk otpOk

/-- KV_INFO (R315). -/
def execKvInfo (t : Nat) (c : Cmd) (s : State) : Host.Outcome State Fault Refusal :=
  ringCommand 0x0202 t c (fun s => s.kvInfo c) s

/-- KV_UNIT_PUB (R304, R315). -/
def execKvUnitPub (t : Nat) (c : Cmd) (s : State) : Host.Outcome State Fault Refusal :=
  ringCommand 0x0203 t c (fun s => s.kvUnitPub c) s

/-- KV_CMAC (R315). -/
def execKvCmac (t : Nat) (c : Cmd) (s : State) : Host.Outcome State Fault Refusal :=
  ringCommand 0x0204 t c (fun s => s.kvCmac c) s

/-- REWRAP_SCHEDULED (R301). -/
def execRewrapScheduled (t : Nat) (s : State) : Host.Outcome State Fault Refusal := run t s State.rewrapAll

end Sys2Proof.Machine
end

