-- ==== Sys2Proof/Machine/Update.lean ====
section
/-!
DEFINITION. Sys2Proof/Machine/Update.lean: image sets, the directory and the rollback floor (18_update_rescue): the
flash, the verification of a set, staging and verifying, the choice of a set at a start, commits, downloads in Rescue,
and the update status.
-/

namespace Sys2Proof.Machine

/-! ## The flash (R516) -/

/-- Size of a set's area. -/
def setArea : Nat := 0x1800000

/-- The pages of a set. -/
def State.flash (s : State) (b : Bool) : Tbl Bytes := if b then s.nv.flashB else s.nv.flashA
def State.setFlash (s : State) (b : Bool) (t : Tbl Bytes) : State :=
  { s with nv := if b then { s.nv with flashB := t } else { s.nv with flashA := t } }

/-- A page of 256 bytes; an erased one reads as ones. -/
def flashPage (t : Tbl Bytes) (n : Nat) : Bytes := Bytes.slice (Tbl.getD t n (List.replicate 256 0xFF#8)) 0 256

/-- `n` bytes of a set from an offset. -/
def flashRead (t : Tbl Bytes) (off n : Nat) : Bytes :=
  let pages := ((List.range ((off % 256 + n + 255) / 256)).map fun i => flashPage t (off / 256 + i)).flatten
  Bytes.slice pages (off % 256) n

/-- Write bytes from a page boundary on. -/
def flashWrite (t : Tbl Bytes) (page : Nat) : Nat → Bytes → Tbl Bytes
  | 0, _ => t
  | n + 1, data => flashWrite (Tbl.put t page (Bytes.slice data 0 256)) (page + 1) n (data.drop 256)

/-- Post an update event (R532). -/
def State.updEvent (s : State) (subtype : Nat) (b : Bool) : State :=
  let e := s.ent b
  s.event 0x0A (toLE 1 subtype ++ toLE 1 b.toNat ++ toLE 4 e.svn ++ toLE 4 e.fw)

/-! ## The rollback floor (R520) -/

/-- The floor; unknown where both copies are unreadable. -/
def State.floor? (s : State) : Option Nat :=
  match s.nv.floor0, s.nv.floor1 with
  | none, x => x
  | x, none => x
  | some x, some y => some (max x y)

/-- Write both copies of the floor. -/
def State.putFloor (s : State) (n : Nat) : State := { s with nv := { s.nv with floor0 := some n, floor1 := some n } }

/-! ## The image set and its verification (R518, R519) -/

/-- A component entry of the header. -/
structure Comp where
  type : Nat
  off : Nat
  len : Nat
  digest : Bytes
  rsv : Bool
  deriving DecidableEq, Repr

/-- Entry `i` of the component table. -/
def compAt (hdr : Bytes) (i : Nat) : Comp :=
  let o := 136 + 64 * i
  { type := hdr.le o 1, off := hdr.le (o + 4) 4, len := hdr.le (o + 8) 4, digest := Bytes.slice hdr (o + 16) 48,
    rsv := Bytes.zero (Bytes.slice hdr (o + 1) 3) && Bytes.zero (Bytes.slice hdr (o + 12) 4) }

/-- The nine components of a set. -/
def comps (hdr : Bytes) : List Comp := (List.range 9).map (compAt hdr)

/-- The largest size of a component type. -/
def compMost (type : Nat) : Nat :=
  match type with
  | 1 => 96 * 1024
  | 2 => 256 * 1024
  | 3 => 3 * 1024 * 1024
  | 4 => 768 * 1024
  | 5 => 768 * 1024
  | 6 => 768 * 1024
  | 7 => 384 * 1024
  | 8 => 128 * 1024
  | 9 => 1024 * 1024
  | _ => 0

/-- The components lie in offset order from a bound on, aligned, not overlapping, inside `set_len`. -/
def compsOrder (setLen : Nat) : Nat → List Comp → Bool
  | _, [] => true
  | lo, c :: cs => decide (lo ≤ c.off) && c.off % 4096 == 0 && decide (c.off + c.len ≤ setLen) &&
      compsOrder setLen (c.off + c.len) cs

/-- The digest of the component of a type, as the header gives it. -/
def digestOf (hdr : Bytes) (type : Nat) : Bytes := (((comps hdr).find? fun c => c.type == type).map (·.digest)).getD []

/-- Step 1: the form of the header. -/
def headerOk (hdr : Bytes) : Bool :=
  let cs := comps hdr
  let setLen := hdr.le 36 4
  Bytes.slice hdr 0 4 == [0x50#8, 0x4D#8, 0x49#8, 0x53#8] && hdr.le 4 1 == 1 && hdr.le 5 1 == 9 &&
    decide (hdr.le 6 1 < 4) && hdr.le 7 1 == 0 && decide (setLen ≤ setArea) && cs.all (·.rsv) &&
    Bytes.zero (Bytes.slice hdr (136 + 64 * 9) (64 * 7)) &&
    ((List.range 9).all fun i => (cs.filter fun c => c.type == i + 1).length == 1) &&
    cs.all (fun c => decide (c.len ≤ compMost c.type)) && compsOrder setLen 4096 cs

/-- `TOP_HWTYPE`. -/
def State.hwType (s : State) : Nat := (s.word 0x000004).toNat

/-- Steps 1 to 6 of R519 on a header: the status of the first that fails.  `free`: step 6 is left out (R528). -/
def State.headerCheck (s : State) (hdr : Bytes) (free : Bool) : Option Nat :=
  let a := Tbl.getD s.nv.auth (hdr.le 6 1) {}
  let unit := Bytes.slice hdr 20 16
  if !headerOk hdr then some stBAD_ARG
  else if hdr.le 8 4 ≠ s.hwType then some stBAD_ARG
  else if !Bytes.zero unit ∧ unit ≠ s.nv.unitId then some stBAD_ARG
  else if !s.authOk (hdr.le 6 1) ∨ sha384 (Bytes.slice hdr 40 96) ≠ a.hash then some stBAD_SIGNATURE
  else if !ecdsaOk (Bytes.slice hdr 40 96) (Bytes.slice hdr 0 1160) (Bytes.slice hdr 1160 96) then some stBAD_SIGNATURE
  else if !free ∧ !(s.floor?.any fun f => decide (f ≤ hdr.le 12 4)) then some stREPLAY
  else none

/-- Step 7 on the components of some types. -/
def digestsOk (read : Nat → Nat → Bytes) (hdr : Bytes) (types : Nat → Bool) : Bool :=
  ((comps hdr).filter fun c => types c.type).all fun c => sha384 (read c.off c.len) == c.digest

/-- A set in flash is verified (R519); only the components of `types` at step 7. -/
def State.setCheck (s : State) (b : Bool) (types : Nat → Bool) (free : Bool := false) : Option Nat :=
  let read := flashRead (s.flash b)
  let hdr := read 0 1256
  match s.headerCheck hdr free with
  | some st => some st
  | none => if digestsOk read hdr types then none else some stBAD_SIGNATURE

/-- Every component. -/
def allComps (_ : Nat) : Bool := true
/-- The Dawn image and the reduced Courier S image (R142). -/
def dawnComps (n : Nat) : Bool := n == 1 || n == 2

/-- The Dawn components of the two sets are the same (R522, R523). -/
def State.sameDawn (s : State) : Bool :=
  digestOf (flashRead s.nv.flashA 0 1256) 1 == digestOf (flashRead s.nv.flashB 0 1256) 1

/-! ## The choice of a set at a start -/

/-- A set that cannot be used at a start is marked Failed, and `boot_set` moves to the other set where that is usable
(R517, R522). -/
def State.setFails (s : State) (b : Bool) : State :=
  if s.dir.isNone then s
  else
    let s := s.updDir fun d =>
      let d := d.setEnt b { d.ent b with state := 5 }
      if d.boot == b && (d.ent (!b)).usable then { d with boot := !b } else d
    (s.count F.UPD_CNT_fallbacks).updEvent 5 b

/-- A set runs at a start: it is `boot_set` from then on. -/
def State.bootFrom (s : State) (b : Bool) : State :=
  if s.bootSet = b then s else s.updDir fun d => { d with boot := b }

/-- Try the sets in order; the one that runs, if any.  Only a set that may run is tried, and so may fail. -/
def State.chooseSet (s : State) : List Bool → Option Bool × State
  | [] => (none, s)
  | b :: bs =>
    if !(s.ent b).usable then s.chooseSet bs
    else if (s.setCheck b dawnComps).isNone then (some b, s.bootFrom b)
    else (s.setFails b).chooseSet bs

/-! ## UPD_STAGE (R531) -/

/-- Staging to a set is in progress: it reads Empty. -/
def State.markEmpty (s : State) (b : Bool) : State := s.updEnt b fun _ => {}

/-- The DRAM copy of a set is no longer that of flash. -/
def State.dropCopy (s : State) (b : Bool) : State :=
  { s with up := if b then { s.up with copyB := false } else { s.up with copyA := false } }

/-- UPD_STAGE. -/
def State.updStage (s : State) (c : Cmd) : Reply :=
  let len := c.f 8 4
  let off := c.f 12 4
  let b16 := c.f 16 1
  let b := bitN b16 0
  let erase := bitN b16 1
  if c.f 0 8 % 32 ≠ 0 ∨ len < 256 ∨ 1048576 < len ∨ len % 256 ≠ 0 ∨ off % 256 ≠ 0 ∨ 4 ≤ b16 ∨ !c.zero 17 7 then
    Reply.err s stBAD_ARG
  else if s.up.job.isSome then Reply.err s stNO_ROOM
  else if s.up.running = some b ∨ (s.dir.isSome ∧ s.bootSet = b) ∨ (s.dir.isNone ∧ b) ∨ setArea < off + len then
    Reply.err s stBAD_ARG
  else match c.readFails len with
    | some st => Reply.err s st
    | none =>
      let data := Bytes.slice c.rd 0 len
      -- in Rescue the header is checked before any byte is written (R528)
      match if s.pw.mode = .rescue ∧ off = 0 then s.headerCheck (Bytes.slice data 0 1256) s.floor?.isNone else none with
      | some st => Reply.err (s.markEmpty b) st
      | none =>
        Reply.defer { s with up := { s.up with job := some (.stage b off data erase) } }

/-- UPD_STAGE_DONE: the chunk is written and read back; the set is Staged when the chunk that ends at `set_len` is
written. -/
def State.stageDone (s : State) (ok : Bool) : State :=
  match s.up.job with
  | some (.stage b off data erase) =>
    let s : State := { s with up := { s.up with job := none } }
    let s := if erase then s.setFlash b [] else s
    let s := (s.markEmpty b).dropCopy b
    if !ok then s.finishOp 0x0801 stHW_FAULT
    else
      let s := s.setFlash b (flashWrite (s.flash b) (off / 256) (data.length / 256) data)
      let hdr := flashRead (s.flash b) 0 40
      let setLen := hdr.le 36 4
      let s := if off < setLen ∧ setLen ≤ off + data.length then
          s.updEnt b fun _ => { state := 1, svn := hdr.le 12 4, fw := hdr.le 16 4, tries := 0 }
        else s
      s.finishOp 0x0801 stOK
  | _ => s

/-! ## UPD_VERIFY (R531) -/

/-- UPD_VERIFY. -/
def State.updVerify (s : State) (c : Cmd) : Reply :=
  if 2 ≤ c.f 16 1 ∨ !c.zero 0 16 ∨ !c.zero 17 7 then Reply.err s stBAD_ARG
  else if s.up.job.isSome then Reply.err s stNO_ROOM
  else Reply.defer { s with up := { s.up with job := some (.verify (c.f 16 1 == 1)) } }

/-- A set that a Rescue download has installed: Trial and `boot_set`; an unknown floor becomes its `svn` (R520,
R528). -/
def State.installed (s : State) (b : Bool) : State :=
  let hdr := flashRead (s.flash b) 0 40
  let e : SetEnt :=
    { state := 3, svn := hdr.le 12 4, fw := hdr.le 16 4, tries := max 1 (s.fld F.UPD_CFG_trial_tries) }
  let s := if s.floor?.isNone then s.putFloor (hdr.le 12 4) else s
  let d := s.dir.getD { seq := 0, boot := b, a := {}, b := {} }
  s.putDir { d.setEnt b e with boot := b }

/-- UPD_VERIFY_DONE (R519, R531): a set of state Trial or Confirmed keeps it. -/
def State.verifyDone (s : State) : State :=
  match s.up.job with
  | some (.verify b) =>
    let s : State := { s with up := { s.up with job := none } }
    let rescue := s.pw.mode == .rescue
    match s.setCheck b allComps (rescue && s.floor?.isNone) with
    | some st => (if rescue then s.markEmpty b else s).finishOp 0x0802 st
    | none =>
      let s := if rescue then s.installed b
        else s.updEnt b fun e => if e.state = 3 ∨ e.state = 4 then e else { e with state := 2 }
      let s : State := if s.pw.mode = .full then
          { s with up := if b then { s.up with copyB := true } else { s.up with copyA := true } }
        else s
      s.finishOp 0x0802 stOK
  | _ => s

/-! ## Commit (R520, R524) -/

/-- The running set is a Trial set. -/
def State.trialRuns (s : State) : Bool := s.up.running.any fun b => (s.ent b).state == 3

/-- The running Trial set becomes Confirmed; the floor rises to its `svn`; the other set's DRAM copy goes. -/
def State.commitSet (s : State) (b : Bool) : State :=
  let svn := (s.ent b).svn
  let s := s.updEnt b fun e => { e with state := 4, tries := 3 }
  let s := if s.floor?.any fun f => decide (f < svn) then (s.putFloor svn).updEvent 6 b else s
  let s : State := { s with up := { s.up with trialAt := none } }
  (s.dropCopy (!b)).updEvent 4 b

/-- TRIAL_COMMIT_TIMER (R524). -/
def State.trialTimer (s : State) : State :=
  let n := s.fld F.UPD_CFG_commit_s
  match s.up.running, s.up.trialAt with
  | some b, some t =>
    if n ≠ 0 ∧ s.pw.mode = .full ∧ (s.ent b).state = 3 ∧ t + secNs n ≤ s.now then s.commitSet b else s
  | _, _ => s

/-! ## UPD_STATUS (R587) and views -/

/-- `UPD_STAT`. -/
def State.updStat (s : State) : Nat :=
  let run := s.up.running.getD false
  s.trialRuns.toNat + 2 * run.toNat + 4 * s.bootSet.toNat + 8 * (s.ent s.bootSet).state + 64 * s.up.job.isSome.toNat +
    128 * (s.pw.trans == some .pause).toNat + 256 * s.fld F.UPD_STAT_rescue_cause

/-- `UPD_FLOOR`; an unknown floor reads as a free value. -/
def State.floorView (s : State) : Nat := s.floor?.getD (s.freeVal 32) % 2 ^ 32

/-- `UPD_SVN_A` or `UPD_SVN_B`: 0 where the set is Empty. -/
def State.svnView (s : State) (b : Bool) : Nat := if (s.ent b).state = 0 then 0 else (s.ent b).svn

/-- Registers of the `UPD_` block whose value lies in the state above. -/
def State.updView (s : State) (off : Nat) : Option Word :=
  let w (n : Nat) : Option Word := some (BitVec.ofNat 32 n)
  if off = 0x080000 then w s.updStat
  else if off = 0x080008 then w s.floorView
  else if off = 0x08000C then w (s.svnView false)
  else if off = 0x080010 then w (s.svnView true)
  else if off = 0x080014 then w (s.ent false).fw
  else if off = 0x080018 then w (s.ent true).fw
  else none

/-- UPD_STATUS. -/
def State.updStatus (s : State) (c : Cmd) : Reply :=
  let half (b : Bool) : Bytes :=
    toLE 4 (s.svnView b) ++ toLE 4 (s.ent b).fw ++ toLE 1 (s.ent b).state ++ toLE 1 (s.ent b).tries
  if c.f 0 8 % 32 ≠ 0 ∨ !c.zero 8 16 then Reply.err s stBAD_ARG
  else Reply.ok s.useFree
    [(c.f 0 8, toLE 4 s.updStat ++ toLE 4 s.floorView ++ half false ++ toLE 6 0 ++ half true ++ toLE 30 0)]

/-! ## Downloads in Rescue (R527, R528) -/

/-- The set that a download is written to. -/
def State.downloadSet (s : State) : Bool := s.dir.isSome && !s.bootSet

/-- A whole set file is received: the header is checked, the components are written, digests are checked as they
arrive, and the set is read back; true: installed. -/
def State.download (s : State) (file : Bytes) (ok : Bool) : Bool × State :=
  let b := s.downloadSet
  let hdr := Bytes.slice file 0 1256
  let setLen := hdr.le 36 4
  let fails := (s.headerCheck hdr s.floor?.isNone).isSome || decide (file.length < setLen) ||
    !digestsOk (Bytes.slice file) hdr allComps || !ok
  let s := (s.setFlash b []).markEmpty b
  if fails then (false, s)
  else (true, (s.setFlash b (flashWrite [] 0 ((setLen + 255) / 256) (Bytes.slice file 0 setLen))).installed b)

/-- The loader takes a file: in Rescue, while no other of its downloads runs. -/
def State.loaderReady (s : State) : Bool := s.pw.mode == .rescue && s.up.job.isNone

/-- XMODEM_DOWNLOAD: `ok` is the read-back of the flash; a failure cancels the transfer. -/
def State.xmodem (s : State) (file : Bytes) (ok : Bool) : State :=
  if !s.loaderReady then s
  else
    let (good, s) := s.download file ok
    s.put (.loader (if good then "ACK" else "CAN"))

/-- TFTP_WRITE_REQUEST: accepted for the file name set in octet mode. -/
def State.tftp (s : State) (name : Bytes) (octet : Bool) (file : Bytes) (ok : Bool) : State :=
  if !s.loaderReady then s
  else if name ≠ ascii "set" ∨ !octet then s.put (.loader "ERROR 0 refused")
  else
    let (good, s) := s.download file ok
    s.put (.loader (if good then "ACK" else "ERROR 0 set rejected"))

/-! ## Meanings -/

/-- UPD_STAGE (R530, R531). -/
def execUpdStage (t : Nat) (c : Cmd) (s : State) : Host.Outcome State Fault Refusal :=
  ringCommand 0x0801 t c (fun s => s.updStage c) s

/-- UPD_STAGE_DONE (R531). -/
def execUpdStageDone (t : Nat) (ok : Bool) (s : State) : Host.Outcome State Fault Refusal :=
  run t s fun s => s.stageDone ok

/-- UPD_VERIFY (R530, R531). -/
def execUpdVerify (t : Nat) (c : Cmd) (s : State) : Host.Outcome State Fault Refusal :=
  ringCommand 0x0802 t c (fun s => s.updVerify c) s

/-- UPD_VERIFY_DONE (R519, R531). -/
def execUpdVerifyDone (t : Nat) (s : State) : Host.Outcome State Fault Refusal := run t s State.verifyDone

/-- UPD_STATUS (R587). -/
def execUpdStatus (t : Nat) (c : Cmd) (s : State) : Host.Outcome State Fault Refusal :=
  ringCommand 0x0804 t c (fun s => s.updStatus c) s

/-- TRIAL_COMMIT_TIMER (R524). -/
def execTrialCommitTimer (t : Nat) (s : State) : Host.Outcome State Fault Refusal := run t s State.trialTimer

/-- XMODEM_DOWNLOAD (R527, R528). -/
def execXmodemDownload (t : Nat) (file : Bytes) (ok : Bool) (s : State) : Host.Outcome State Fault Refusal :=
  run t s fun s => s.xmodem file ok

/-- TFTP_WRITE_REQUEST (R527, R528). -/
def execTftpWriteRequest (t : Nat) (name : Bytes) (octet : Bool) (file : Bytes) (ok : Bool) (s : State) :
    Host.Outcome State Fault Refusal :=
  run t s fun s => s.tftp name octet file ok

end Sys2Proof.Machine
end

