-- ==== Sys2Proof/Machine/Start.lean ====
section
/-!
DEFINITION. Sys2Proof/Machine/Start.lean: resets and starts (02_modes_power_start): the reset and what follows it, the
restore of the connections, the staged start, the loss of the data plane, fatal faults, the failure of a load.
-/

namespace Sys2Proof.Machine

/-! ## Faults that are conditions -/

/-- A class 0x7 condition starts or ends (R549): 0 REFCLK_IN absent, 1 VDDQ_DDR missing, 2 DRAM training fails. -/
def State.supply (s : State) (bit : Nat) (on : Bool) : State :=
  let was := bitN s.fl.live bit
  let live := if on = was then s.fl.live else if on then s.fl.live + 2 ^ bit else s.fl.live - 2 ^ bit
  let s := ({ s with fl := { s.fl with live := live } }).setFld F.TEL_FAULT_clock_supply (live != 0).toNat
  if on && !was then s.faultEv 0x7 (if bit = 0 then 2 else 1) 0 else s

/-! ## Rescue (R527, R594) -/

/-- Every PLL locks within 60 µs of its reference (R79). -/
def State.pllsLock (s : State) : State :=
  if s.ck.refFailed then s
  else s.each [F.CLK_STAT_a_lock, F.CLK_STAT_b_lock, F.CLK_STAT_ddr_lock, F.CLK_STAT_eth0_lock,
    F.CLK_STAT_eth1_lock, F.CLK_STAT_twin_lock] fun s f => s.setFld f 1

/-- Rescue is entered at a start: lane 0 alone runs the ROM loader.  It is no transition (R41). -/
def State.enterRescue (s : State) (cause : Nat) : State :=
  let s : State := { s with
    pw := { s.pw with mode := .rescue, stage := .rom, trans := none, wdog := none }
    up := { s.up with running := none, load := none, job := none } }
  let s := (s.pllsLock.setFld F.UPD_STAT_rescue_cause cause).setFld F.TPL_STAT_code 2
  (((s.setFld F.TPL_STAT_voting 1).setFld F.TPL_STAT_pair_mode 0).setFld F.TPL_STAT_retired 0).reclaim

/-! ## Resets (R73, R74) -/

/-- A reset counts as a claim fault where alive falls with it (R509). -/
def State.resetFault (s : State) : State :=
  if s.tw.claim < 8 then s
  else if s.tw.window && s.peerServ then { s with tw := { s.tw with standDue := true } }
  else { s with tw := { s.tw with window := true } }

/-- Bits of `CLK_STAT` and of `PWR_STAT` that show what lies outside the device: the clocks and the supplies. -/
def outsideMask (off : Nat) : Word := if off = 0x020000 then 0x407#32 else 0x1C#32

/-- A register keeps the bits that show what lies outside the device. -/
def State.keepOutside (s : State) (off : Nat) (old : Word) : State :=
  let m := outsideMask off
  s.setWord off ((s.word off &&& ~~~m) ||| (old &&& m))

/-- A reset of R73 other than PERST_N takes hold: the fault-injection window closes (R557), every part takes its reset
value but what R73 keeps. -/
def State.resetDown (s : State) (soft : Bool) : State :=
  let s := s.windowShut
  let s := if soft then s else s.resetFault
  let clk := s.word 0x020000
  let pwr := s.word 0x010000
  let s := ((s.hardReset soft).keepOutside 0x020000 clk).keepOutside 0x010000 pwr
  let s := if s.ck.refFailed then s.setFld F.CLK_STAT_pcie_lock 0 else s
  { s with ml := { s.ml with slotAt := s.now } }

/-- The reset is released: the straps are sampled, the cause is recorded, faults that came before are logged, and the
staged start begins, or Rescue (R42, R74, R78, R489, R527, R552). -/
def State.startUp (s : State) (x : Straps) (cause : Fld) : State :=
  let s := (s.sampleStraps x).setFld cause 1
  let due := s.pw.faultHeld
  let s : State := { s with pw := { s.pw with faultHeld := [], startAt := s.now } }
  let s := s.each due fun s f => s.faultEv f.1 f.2 0
  let s := if s.flag F.TWN_STAT_strap_err then s.twinEvent 7 s.tw.role 0 0 else s
  if x.rescue then s.enterRescue 1 else s

/-- A reset that is released at once. -/
def State.restart (s : State) (x : Straps) (cause : Fld) : State :=
  (s.resetDown false).startUp x cause

/-! ## The snapshot's restore (R64 to R67, R191) -/

/-- The valid bank with the higher sequence number. -/
def State.newestSnap (s : State) : Option Snap :=
  match s.nv.snap0, s.nv.snap1 with
  | none, b => b
  | b, none => b
  | some a, some b => if a.seq < b.seq then some b else some a

/-- A time in 1/32,768 s as ns. -/
def rtcNs (n : Nat) : Nat := n * 1000000000 / 32768

/-- The slot number and its boundary, advanced by the time elapsed since a snapshot; by zero slots where the RTC reads
earlier than the snapshot. -/
def State.slotFrom (s : State) (b : Snap) : State :=
  let ns := if s.rtc < b.at_rtc then 0 else b.phase + rtcNs (s.rtc - b.at_rtc).toNat
  { s with ml := { s.ml with slot := (b.slot + ns / 25000000) % 2 ^ 40, slotAt := s.now - ns % 25000000 } }

/-- The slot nearest to an RTC time. -/
def State.slotAtRtc (s : State) (t : Int) : Nat :=
  let d : Int := (t - s.rtc) * 1000000000 / 32768 + ((s.now - s.ml.slotAt : Nat) : Int)
  ((s.ml.slot : Int) + (d + 12500000) / 25000000).toNat

/-- The parameters of a snapshot's connection, `missed` events after its anchor (R66). -/
def SnapConn.par (c : SnapConn) (missed slot : Nat) : ConnPar :=
  { map := c.chanMap, base := c.base, inc := c.hop, interval := c.interval, latency := c.latency, timeout := c.timeout,
    anchor := slot, ctr := (c.counter + missed) % 65536 }

/-- A connection restored at this instant (R66): a journalled change whose event has passed is in effect, another
stays pending (R65). -/
def State.restoreConn (s : State) (b : Snap) (lapsed : Bool) (c : SnapConn) : Nat × Conn :=
  let mine := b.journal.filter fun j => j.1 == c.idx
  let c := ((mine.filter fun j => decide (j.2.2.anchor ≤ s.rtc)).getLast?.map (·.2.2)).getD c
  let ahead := (mine.filter fun j => decide (s.rtc < j.2.2.anchor)).getLast?
  let a := ((b.addrs.find? fun x => x.1 == c.idx).map (·.2)).getD (0, false)
  let elapsed := (s.rtc - c.anchor).toNat
  let missed := elapsed / (c.interval * 32768)
  let next : Int := c.anchor + ((missed + 1) * (c.interval * 32768) : Nat)
  let late := lapsed || decide (c.timeout * 32768 < elapsed)
  let m := ((s.nv.mirror.find? fun p => p.2.addr == a.1).map (·.2)).getD { eui := 0, addr := a.1, b11 := 0, ep := 0, ctr := 0 }
  (c.idx,
    { addr := a.1, radioL := a.2, state := if late then 3 else if ahead.isSome then 2 else 1
      par := c.par (missed + 1) (s.slotAtRtc next)
      heard := s.now - rtcNs elapsed, lapsedAt := s.now, anchorRtc := next - (c.interval * 32768 : Nat)
      upd := if late then none else ahead.map fun j => j.2.2.par 0 (s.slotAtRtc j.2.2.anchor)
      eui := m.eui, b11 := m.b11, ep := m.ep, fc := m.ctr })

/-- A snapshot is not restored (R67). -/
def State.snapSkipped (s : State) (b : Snap) : Bool :=
  let most := (b.conns.map (·.timeout)).foldl max 0
  s.flag F.RTC_STAT_time_lost || b.pers != (s.io.eWord 0x010004).toNat % 16 ||
    decide ((most * 32768 : Int) < s.rtc - b.at_rtc) || decide (s.rtc < b.at_rtc)

/-- SNAPSHOT_RESTORE. -/
def State.restoreSnap (s : State) : State :=
  match s.newestSnap with
  | none =>
    ({ s with ml := { s.ml with slot := 0, slotAt := s.now, conns := [] } }).connCnt.setFld F.PWR_SNAP_STAT_restore 3
  | some b =>
    let skip := s.snapSkipped b
    let s := s.slotFrom b
    let s := if skip then s else s.setPattern b.sfLen b.sfMap
    let conns := b.conns.foldl (fun t c => let p := s.restoreConn b skip c; Tbl.put t p.1 p.2) []
    ({ s with ml := { s.ml with conns := conns } }).connCnt.setFld F.PWR_SNAP_STAT_restore (if skip then 2 else 1)

/-! ## Radio S after a calibration (R179, R182) -/

/-- A calibration of Radio S is good; a radio that was being switched on serves, and its fault ends (R59, R549). -/
def State.srxCalGood (s : State) (full : Bool) (temp : Int) : State :=
  let stored := (s.fld F.SRX_SYNTH_CFG_centre_khz, s.fld F.SRX_SYNTH_CFG_grid, temp)
  let on := s.rs.switching
  let s : State := { s with
    nv := if full then { s.nv with calS := some stored } else s.nv
    rs := { s.rs with
      calRetry := false, calAt := s.now, calTemp := temp, ready := some s.now, switching := false
      stopped := s.rs.stopped && !on } }
  let s := ((s.setFld F.SRX_STAT_cal 0).setFld F.SRX_STAT_cal_valid 1).setFld F.SRX_STAT_lock 1
  let s := ((s.count F.SRX_CAL_STAT_count).setFld F.SRX_CAL_STAT_last_temp (codeN 8 temp)).setFld F.SRX_CAL_STAT_last_type
    (if full then 2 else 1)
  if on then (s.setFld F.PWR_RADIO_PERS_s_eff (s.eFld F.PWR_RADIO_PERS_s_en)).radioFault else s

/-! ## The staged start (R60) -/

/-- The load of the full set begins at the DRAM-training row, with the boot watchdog armed (R521). -/
def State.startLoad (s : State) : State :=
  { s with pw := { s.pw with
    stage := .training, trans := some .toFull, requestedDawn := false, asked := false
    wdog := some (s.now + msNs (max 2000 (s.fld F.UPD_CFG_wdog_ms))) } }

/-- One attempt of a set is used. -/
def State.useTry (s : State) (b : Bool) : State := s.updEnt b fun e => { e with tries := e.tries - 1 }

/-- At a start the root's circular `id` resumes at the recorded value plus 512 (R257). -/
def State.resumeCirc (s : State) : State :=
  match s.nv.circId with
  | some k => s.setFld F.MSH_CIRC_ID_next_id ((k + 512) % 65536)
  | none => s

/-- DAWN_IMAGE_VERIFIED: the ROM chooses a set; the Dawn image runs, with Radio S calibrated, the vault loaded, the
lease resumed and the connections restored; none is usable, or the flash does not answer: Rescue. -/
def State.dawnImage (s : State) (flashOk : Bool) : State :=
  if (s.pw.mode ≠ .dawn ∧ s.pw.mode ≠ .dusk) ∨ s.pw.stage ≠ .rom ∨ s.pw.hold.isSome ∨ s.ck.refFailed then s
  else if !flashOk then s.enterRescue 3
  else match s.chooseSet [s.bootSet, !s.bootSet] with
    | (none, s) => s.enterRescue 2
    | (some b, s) =>
      let s : State := { s with pw := { s.pw with stage := .verified }, up := { s.up with running := some b, load := none } }
      let s := (s.setFld F.TPL_STAT_code 1).setFld F.TPL_STAT_image_set b.toNat
      let s := s.pllsLock.srxCalGood (!s.storedValid) s.ck.temp
      s.vaultLoad.restoreLease.resumeCirc.restoreSnap.reclaim

/-- A field of `PWR_START_TIME` takes the milliseconds since VIN_OK; 65,536 or more, which it cannot hold, leave a free
value. -/
def State.stamp (s : State) (f : Fld) : State :=
  let ms := (s.now - s.pw.startAt) / 1000000
  if ms < 65536 then s.setFld f ms else (s.setFld f (s.freeVal 16)).useFree

/-- DAWN_ON_AIR: Dawn service goes on air; one attempt of the set is used, the boot watchdog is armed, and DRAM
training begins. -/
def State.dawnOnAir (s : State) : State :=
  if s.pw.stage ≠ .verified ∨ s.pw.trans = some .toDusk ∨ s.pw.trans = some .toHibernate ∨ s.ck.refFailed ∨
      !s.flag F.CLK_STAT_a_lock then s
  else
    let start : Bool := s.pw.mode == .dawn
    let s := s.latchRegs [0x010004]
    let s := s.setFld F.PWR_RADIO_PERS_s_eff (if s.rs.stopped then 0 else s.eFld F.PWR_RADIO_PERS_s_en)
    let s := s.setFld F.TPL_STAT_dawn_active 1
    let s := if start then s.stamp F.PWR_START_TIME_dawn_ms else s.modeIs .dawn
    let s := match s.up.running with
      | some b => s.useTry b
      | none => s
    s.startLoad.reclaim.opStart.drainEvents

/-- DRAM_TRAINING_DONE: training ends; without VDDQ_DDR, or where it fails, the device stays in Dawn and tries again
(R62, R578). -/
def State.trained (s : State) (vddq ok : Bool) : State :=
  let locks := s.flag F.CLK_STAT_a_lock && s.flag F.CLK_STAT_b_lock && s.flag F.CLK_STAT_ddr_lock
  if s.pw.stage ≠ .training ∨ s.pw.trans ≠ some .toFull ∨ s.ck.refFailed ∨ !locks then s
  else
    let s := (s.setFld F.PWR_STAT_vddq_missing (!vddq).toNat).supply 1 (!vddq)
    let fails := if !vddq then s.fl.trainFails else if ok then 0 else s.fl.trainFails + 1
    let s := ({ s with fl := { s.fl with trainFails := fails } }).supply 2 (decide (10 ≤ fails))
    if vddq && ok then { s with pw := { s.pw with dram := true, stage := .loading } }
    else { s with pw := { s.pw with trans := none } }

/-- VDDQ_RETRY: the attempt of each second; training starts again where VDDQ_DDR is in range. -/
def State.trainAgain (s : State) (vddq : Bool) : State :=
  if s.pw.mode ≠ .dawn ∨ s.pw.stage ≠ .training ∨ s.pw.trans.isSome then s
  else
    let s := (s.setFld F.PWR_STAT_vddq_missing (!vddq).toNat).supply 1 (!vddq)
    if vddq then { s with pw := { s.pw with trans := some .toFull } } else s

/-- The set that is being loaded. -/
def State.loadSet (s : State) : Bool := s.up.load.getD (s.up.running.getD false)

/-- A Full load fails (R49, R522): the set's attempts stay used; the other set is loaded where its Dawn component is
the same, else the boot watchdog resets the device. -/
def State.loadFails (s : State) (status : Nat) (x : Straps) : State :=
  let b := s.loadSet
  let s := if (s.ent b).tries = 0 then s.setFails b else s
  let s := match s.up.job with
    | some (.activate _ _) => ({ s with up := { s.up with job := none } }).finishOp 0x0803 status
    | _ => s
  if (s.ent (!b)).usable && s.sameDawn then
    let s := s.useTry (!b)
    ({ s with up := { s.up with load := some (!b) } }).startLoad
  else s.restart x F.PWR_RESET_CAUSE_wdog

/-- FULL_SET_LOADED: the set is verified as it is loaded into DRAM; the calibrations of L and H begin with the load of
the engines. -/
def State.setInDram (s : State) (x : Straps) : State :=
  if s.pw.mode ≠ .dawn ∨ s.pw.stage ≠ .loading then s
  else
    let b := s.loadSet
    match s.setCheck b allComps with
    | some _ => s.loadFails stBAD_SIGNATURE x
    | none =>
      let s : State := { s with
        pw := { s.pw with stage := .engines }
        up := if b then { s.up with copyB := true } else { s.up with copyA := true } }
      let s := if s.eFld F.PWR_RADIO_PERS_l_mode = 0 ∨ s.lh.l.stopped then s else s.calBegin false 2
      if s.eFld F.PWR_RADIO_PERS_h_en = 0 ∨ s.lh.h.stopped then s else s.calBegin true 2

/-! ## The tables' rebuild (R379) -/

/-- A context as its mirror record gives it. -/
def State.mirrored (s : State) (m : Mirror) : Ctx :=
  { eui := m.eui, addr := m.addr, deny := bitN m.b11 0, relay := bitN m.b11 1, p2 := bitN m.b11 2, p3 := bitN m.b11 3,
    radioL := bitN m.b11 4, rec_ := bitN m.b11 5, ep := m.ep, ctr := m.ctr, lastHeard := s.rt.sec % 2 ^ 32,
    conn := if m.addr = 0 then none else (s.ml.conns.find? fun p => p.2.addr == m.addr && p.2.state != 3).map (·.1) }

/-- Bring back one context; one that has a restored connection gets a route entry. -/
def State.rebuildCtx (s : State) (n : Nat) (m : Mirror) : State :=
  match s.pt.room 2 m.eui with
  | none => s.count F.PCT_MIRROR_ctx_lost
  | some pt =>
    let c := s.mirrored m
    let s : State := { s with pt := { pt with ident := Tbl.put pt.ident m.eui n, ctx := Tbl.put pt.ctx n c } }
    if c.conn.isSome then s.setRoute m.addr 0 1 n none else s

/-- Postmaster 0 rebuilds the tables; `lost`: context numbers whose mirror record fails its CRC. -/
def State.rebuild (s : State) (lost : List Nat) : State :=
  let (b, s) := s.draw 8
  let s : State := { s with pt := { seed := b.le 0 8, freed := s.pt.freed, freedCtx := s.pt.freedCtx } }
  let s := s.each s.nv.mirror fun s p =>
    if lost.contains p.1 then s.count F.PCT_MIRROR_ctx_lost else s.rebuildCtx p.1 p.2
  let s := s.each (List.range 6) fun s t => s.setFld (F.PCT_SEQ_seq t) 0
  s.nodeCnt.each (List.range 6) fun s t => s.tableEvent t 4 0 0 0 []

/-- ENGINES_LOADED: Postmaster 0 has loaded every engine and restored the tables. -/
def State.enginesIn (s : State) (ok : Bool) (lost : List Nat) (x : Straps) : State :=
  if s.pw.mode ≠ .dawn ∨ s.pw.stage ≠ .engines ∨ s.pw.trans ≠ some .toFull then s
  else if !ok then s.loadFails stBAD_SIGNATURE x
  else
    let s := s.rebuild lost
    { s with pw := { s.pw with stage := .done } }

/-! ## The loss of the data plane at a move to Dawn (R50, R51, R361, R379, R422) -/

/-- What a radio keeps through a move to Dawn: a stop, and in a pause its calibration. -/
def Radio.kept (r : Radio) (pause : Bool) : Radio :=
  if pause then { r with queue := [], tx := none, switch := none, punct := 0, switching := false }
  else { stopped := r.stopped }

/-- Radios L and H serve no longer. -/
def State.lhDown (s : State) (pause : Bool) : State :=
  let s := (((s.lhAbort false).lhAbort true).lhFlush false).lhFlush true
  let s := s.meshLate.wifiLost
  let s : State := { s with lh := { l := s.lh.l.kept pause, h := s.lh.h.kept pause } }
  let s := (s.setFld F.PWR_RADIO_PERS_l_eff 0).setFld F.PWR_RADIO_PERS_h_eff 0
  if pause then s
  else s.each [false, true] fun s h =>
    ((s.setFld (F.LRX_STAT_cal.on h) 0).setFld (F.LRX_STAT_cal_valid.on h) 0).setFld (F.LRX_STAT_lock.on h) 0

/-- Everything in the packet buffer is lost, and counted. -/
def State.packetsLost (s : State) (pause : Bool) : State :=
  let data := s.ml.dl.filter fun d => match d.kind with
    | .data _ => true
    | _ => false
  let s := s.count F.QMS_DROP_mode_drop (s.sr.input.length + s.sr.cutting.length + data.length)
  let s := s.dropAll fun _ => false
  let s := if pause then s else (s.ethDown 0).ethDown 1
  let s := (s.setFld (F.ETH_STAT_xoff_sent 0) 0).setFld (F.ETH_STAT_xoff_sent 1) 0
  ({ s with sr := { s.sr with input := [], cutting := [], xoff := [], ctrl := 0 } }).updatePool

/-- What the engines of the data and control planes held is lost.  `graceful`: Courier S has completed its slot. -/
def State.dataLost (s : State) (pause graceful : Bool) : State :=
  let s := s.opToZero
  let s := if graceful then s else s.txWithdraw
  let s := (s.lhDown pause).packetsLost pause
  { s with
    ml := { s.ml with dl := [], places := [], reserved := [], decided := [], owed := if graceful then s.ml.owed else [] }
    mn := { token := s.mn.token, circKey := s.mn.circKey, heardId := s.mn.heardId, dtag := s.mn.dtag, dgram := s.mn.dgram }
    pt := { freed := s.pt.freed, freedCtx := s.pt.freedCtx }
    tp := { s.tp with dawn := [] }
    rs := { s.rs with rx := [] }
    tw := { s.tw with dusk := false, duskWait := none }
    pw := { s.pw with held := [], dram := s.pw.dram && pause }
    up := if pause then s.up else { s.up with copyA := false, copyB := false } }

/-- The move to Dawn itself: the Post-box is flushed, and `TOP_MODE` follows (R147). -/
def State.toDawn (s : State) : State :=
  let s := s.flushPbox.modeIs .dawn
  { s with pw := { s.pw with stage := .onAir } }

/-! ## Fatal data-plane faults (R50, R525, R550, R588) -/

/-- The device is held in Dawn, with FAULT_N asserted. -/
def State.holdDawn (s : State) : State :=
  let s : State := { s with pw := { s.pw with retry := false, loadFault := false, refBack := false, stage := .onAir, trans := none, wdog := none } }
  s.setFld F.TEL_FAULT_fatal_hold 1

/-- Full was reached after a fatal fault no more than 60 s ago. -/
def State.justReturned (s : State) : Bool := s.pw.returnedAt.any fun t => decide (s.now ≤ t + secNs 60)

/-- A fault in Full or Doze: Dawn, with one attempt at Full, or a hold (R50). -/
def State.fatalFull (s : State) : State :=
  let again := s.justReturned
  let s := ((s.discard 0x1 keepNone).dataLost false false).toDawn
  let s := if again then s.holdDawn
    else { s.startLoad with pw := { s.startLoad.pw with retry := true } }
  s.opStart.claimFell

/-- A fault while the engines are being loaded (R588): the load is repeated once. -/
def State.fatalLoad (s : State) : State :=
  let again := s.pw.loadFault || s.pw.retry || s.justReturned
  let s := s.discard 0x1 keepNone
  if again then s.holdDawn
  else { s.startLoad with pw := { s.startLoad.pw with loadFault := true } }

/-- An activation fails (R525): the set is Failed, the previous set is `boot_set` again and is reloaded; where that
fails too, the boot watchdog resets the device at once. -/
def State.activationFails (s : State) (status : Nat) : State :=
  match s.up.job with
  | some (.activate _ (.back _)) => { s with pw := { s.pw with wdog := some s.now } }
  | some (.activate b _) =>
    let s := s.updDir fun d => { d.setEnt b { d.ent b with state := 5 } with boot := !b }
    let s := s.count F.UPD_CNT_fallbacks
    { s with up := { s.up with job := some (.activate b (.back status)) } }
  | _ => s

/-- A download or a verification in Rescue fails, and its set is left Empty (R528, R588). -/
def State.rescueJobFails (s : State) : State :=
  let fail (b : Bool) (op : Nat) : State := (({ s with up := { s.up with job := none } }).markEmpty b).finishOp op stHW_FAULT
  match s.up.job with
  | some (.stage b _ _ _) => fail b 0x0801
  | some (.verify b) => fail b 0x0802
  | _ => s

/-- A fault of class 0x4. -/
def State.fatal (s : State) (source : Nat) (detail : Nat := 0) : State :=
  let s := s.faultEv 0x4 source detail
  match s.pw.mode with
  | .full => s.fatalFull
  | .doze => s.fatalFull
  | .dawn =>
    if s.pw.trans = some .pause then s.activationFails stTIMEOUT
    else if s.pw.trans = some .toFull then s.fatalLoad
    else s
  | .rescue => s.rescueJobFails
  | _ => s

/-! ## Full (R47, R63) -/

/-- The effective bits of L and H for the radios that are calibrated. -/
def State.lhServe (s : State) : State :=
  s.each [false, true] fun s h =>
    let m := s.eFld (if h then F.PWR_RADIO_PERS_h_en else F.PWR_RADIO_PERS_l_mode)
    if m = 0 || (s.radio h).stopped || !s.flag (F.LRX_STAT_cal_valid.on h) then s else s.setFld (radioEff h) m

/-- A radio of the personality is calibrated, or has stopped. -/
def State.lhReady (s : State) (h : Bool) : Bool :=
  s.eFld (if h then F.PWR_RADIO_PERS_h_en else F.PWR_RADIO_PERS_l_mode) == 0 || (s.radio h).stopped ||
    (s.flag (F.LRX_STAT_cal_valid.on h) && s.fld (F.LRX_STAT_cal.on h) == 0)

/-- Courier S applies each connection's supervision timeout at the hand-over (R138). -/
def State.lapseTimedOut (s : State) : State :=
  s.each s.ml.conns fun s p =>
    if p.2.state != 3 && p.2.timedOut s.now then (s.lapseConn p.1 p.2).count F.MSH_SUPV_CNT_lapses else s

/-- What starts at every entry to Full: the shapers from zero (R457), the clocks of the Round, a calibration that was
held (R180), the snapshot's period, the operating point. -/
def State.fullStarts (s : State) : State :=
  let shapers := s.qm.shapers.map fun (p : Nat × Shaper) => (p.1, { p.2 with tokens := 0 })
  let s : State := { s with
    qm := { s.qm with shapers := shapers }
    pt := { s.pt with macAt := s.now, nodeAt := s.now, macSweep := s.now, nodeSweep := s.now, stopAt := none }
    pw := { s.pw with snapAt := s.now } }
  let s := if s.rs.calHeld = 0 then s
    else ({ s with rs := { s.rs with calHeld := 0 } }).calPend (s.rs.calHeld == 2)
  s.opStart

/-- The set that now runs: a Confirmed one has its attempts restored; a Trial one starts its time (R521, R524). -/
def State.setRuns (s : State) (b : Bool) : State :=
  let s : State := { s with up := { s.up with running := some b, load := none } }
  if (s.ent b).state = 4 then s.updEnt b fun e => { e with tries := 3 }
  else if (s.ent b).state = 3 then { s with up := { s.up with trialAt := some s.now } }
  else s

/-- Full is reached from Dawn: Dawn service hands the mesh to Courier S. -/
def State.fullFromDawn (s : State) : State :=
  let after := s.pw.retry || s.pw.loadFault || s.pw.refBack
  let s := s.modeIs .full
  let s : State := { s with pw := { s.pw with
    stage := .done, wdog := none, requestedDawn := false, retry := false, loadFault := false, refBack := false
    returnedAt := if after then some s.now else s.pw.returnedAt } }
  let s := (s.setRuns s.loadSet).setFld F.TPL_STAT_dawn_active 0
  let s := if s.fld F.PWR_START_TIME_full_ms = 0 then s.stamp F.PWR_START_TIME_full_ms else s
  let s := (s.lhServe.lapseTimedOut.fullStarts.reclaim.finishMode 3 stOK).finishMode 4 stOK
  match s.up.job with
  | some (.activate _ _) => ({ s with up := { s.up with job := none } }).finishOp 0x0803 stOK
  | _ => s

/-! ## Meanings -/

/-- DAWN_IMAGE_VERIFIED (R142, R66). -/
def execDawnImageVerified (t : Nat) (flashOk : Bool) (s : State) : Host.Outcome State Fault Refusal :=
  run t s fun s => s.dawnImage flashOk

/-- DAWN_ON_AIR (R60, R521). -/
def execDawnOnAir (t : Nat) (s : State) : Host.Outcome State Fault Refusal := run t s State.dawnOnAir

/-- DRAM_TRAINING_DONE (R62, R578). -/
def execDramTrainingDone (t : Nat) (vddq ok : Bool) (s : State) : Host.Outcome State Fault Refusal :=
  run t s fun s => s.trained vddq ok

/-- VDDQ_RETRY (R62). -/
def execVddqRetry (t : Nat) (vddq : Bool) (s : State) : Host.Outcome State Fault Refusal :=
  run t s fun s => s.trainAgain vddq

/-- FULL_SET_LOADED (R521, R522). -/
def execFullSetLoaded (t : Nat) (straps : Straps) (s : State) : Host.Outcome State Fault Refusal :=
  run t s fun s => s.setInDram straps

/-- ENGINES_LOADED (R21, R379). -/
def execEnginesLoaded (t : Nat) (ok : Bool) (lost : List Nat) (straps : Straps) (s : State) :
    Host.Outcome State Fault Refusal :=
  run t s fun s => s.enginesIn ok lost straps

/-- BOOT_WATCHDOG_EXPIRY (R522, R525). -/
def execBootWatchdogExpiry (t : Nat) (straps : Straps) (s : State) : Host.Outcome State Fault Refusal :=
  run t s fun s => match s.pw.wdog with
    | some d =>
      if s.now < d then s
      else if s.pw.trans = some .pause then s.restart straps F.PWR_RESET_CAUSE_wdog
      else s.loadFails stTIMEOUT straps
    | none => s

end Sys2Proof.Machine
end

