-- ==== Sys2Proof/Machine/Dusk.lean ====
section
/-!
DEFINITION. Sys2Proof/Machine/Dusk.lean: the entry to Hibernate, which a Dusk run may end in, and Dusk itself
(19_dusk_selftest): its runs, groups, failure records and repairs, its end.
-/

namespace Sys2Proof.Machine

/-! ## Hibernate (R47, R56, R70, R124) -/

/-- Hibernate is entered: only the backup domain stays on.  `source`: 1 MODE_REQUEST, 2 VIN failure, 3 VIN failure
during a transition. -/
def State.enterHib (s : State) (source : Nat) : State :=
  let s := s.windowShut
  let old := s.pw.mode.code
  let n := (s.pw.changes + 1) % 256
  let s := s.backupLog source old 0
  let role := s.tw.role
  let s : State := { s with rt := { s.rt with wakeEn := s.word 0x010008 } }
  let s := (s.hardReset false).setFld F.PWR_STAT_hib_source source
  let s : State := { s with
    pw := { s.pw with mode := .hibernate, stage := .off, prevMode := old }
    tw := { s.tw with role := role } }
  let s := s.log 0x10 0xFF (old + 256 * n)
  { s with tw := s.tw.afterReset s.now }

/-! ## Failure records and repair (R540 to R543) -/

/-- The kinds of SRAM failures. -/
def sramKind (kind : Nat) : Bool := kind == 1 || kind == 2 || kind == 3

/-- Spare rows and columns of a macro (R541). -/
def spareRows (inst : Nat) : Nat := if inst = 152 then 2 else 4
def spareCols (inst : Nat) : Nat := if inst = 152 then 1 else 2

/-- Give a failure a spare: rows and columns in use after it, and whether it takes a row; none where none is left. -/
def spareFor (inst kind : Nat) (used : Nat × Nat) : Option ((Nat × Nat) × Bool) :=
  let row := used.1 < spareRows inst
  let col := used.2 < spareCols inst
  if kind = 3 then (if col then some ((used.1, used.2 + 1), false) else none)
  else if row then some ((used.1 + 1, used.2), true)
  else if kind = 1 ∧ col then some ((used.1, used.2 + 1), false)
  else none

/-- Spares of a macro that a list of repairs takes, in order. -/
def sparesUsed (inst : Nat) : List DskFail → Nat × Nat → Nat × Nat
  | [], u => u
  | f :: fs, u =>
    let u := if f.inst = inst ∧ sramKind f.kind then ((spareFor inst f.kind u).map (·.1)).getD u else u
    sparesUsed inst fs u

/-- Two records name the same element. -/
def DskFail.same (a b : DskFail) : Bool := a.inst == b.inst && a.kind == b.kind && a.addr == b.addr && a.bit == b.bit

/-- The fused repairs, void entries left out. -/
def State.fusedList (s : State) : List DskFail := s.nv.fuses.filterMap id

/-- The newest run. -/
def State.run0 (s : State) : Option DskRun := s.nv.runs.head?
/-- Rewrite the newest run's record. -/
def State.updRun (s : State) (f : DskRun → DskRun) : State :=
  match s.nv.runs with
  | r :: rs => { s with nv := { s.nv with runs := f r :: rs } }
  | [] => s

/-- Post a Dusk event (R548). -/
def State.dskEvent (s : State) (subtype group : Nat) : State :=
  let r := s.run0
  s.event 0x0B (toLE 1 subtype ++ toLE 1 group ++ toLE 4 ((r.map (·.run)).getD 0) ++ toLE 2 ((r.map (·.nFail)).getD 0))

/-- Record one failure of the group under test (R540, R541, R543). -/
def State.dskFail (s : State) (g : Nat) (h : DskHit) : State :=
  match s.nv.runs with
  | [] => s
  | r :: rs =>
    let f : DskFail := { inst := h.inst, kind := h.kind, addr := h.addr, bit := h.bit }
    let rep := (rs.head?.map (·.fails)).getD [] |>.any f.same
    let used := sparesUsed h.inst (s.fusedList ++ r.fails.filter (·.soft)) (0, 0)
    let soft := sramKind h.kind && (spareFor h.inst h.kind used).isSome
    let f := { f with rep := rep, soft := soft, unrep := !soft }
    let r := { r with
      nFail := min 65535 (r.nFail + 1), failed := r.failed ||| 2 ^ (g - 1), unrep := r.unrep || f.unrep
      fails := if r.fails.length < 256 then r.fails ++ [f] else r.fails }
    let s : State := { s with nv := { s.nv with runs := r :: rs } }
    if f.unrep then
      let s := (s.setFld F.DSK_STAT_unrepairable 1).setFld F.TEL_FAULT_unrepairable 1
      (s.faultEv 0x6 9 h.addr).dskEvent 6 g
    else s

/-! ## Groups (R535 to R537) -/

/-- The point of a group. -/
def groupPoint : Nat → Nat
  | 6 => 0 | 7 => 2 | 8 => 0 | _ => 3

/-- Derating: the thermal cap lies below the point of the group under test (R536). -/
def State.derate (s : State) : State :=
  if s.pw.mode = .dusk ∧ s.dk.groups ≠ [] ∧ s.fld F.CLK_OP_STAT_cap < s.ck.duskPoint then
    (s.updRun fun r => { r with derated := true }).setFld F.DSK_STAT_derated 1
  else s

/-- The first group of the list comes under test; before G2 key SRAM and Franking's registers are zeroised. -/
def State.groupStart (s : State) : State :=
  match s.dk.groups with
  | [] => s.setFld F.DSK_STAT_group 0
  | g :: _ =>
    let s : State := { s with ck := { s.ck with duskPoint := groupPoint g } }
    let s : State := if g = 2 then
        { s with ms := { s.ms with cache := [], mask0 := [], mask1 := [], kreq := [] }, kv := { s.kv with work := [], ready := false } }
      else s
    (s.setFld F.DSK_STAT_group g).opStart.derate

/-- DUSK_GROUP_END: the failures found are recorded, and the next group starts. -/
def State.groupEnd (s : State) (fails : List DskHit) (peakMw : Nat) : State :=
  match s.dk.groups with
  | [] => s
  | g :: rest =>
    if s.pw.mode ≠ .dusk ∨ !s.flag F.DSK_STAT_running ∨ s.dk.abort ≠ 0 then s
    else
      let s := s.each fails fun s h => s.dskFail g h
      let ms := (s.now - s.dk.startAt) / 1000000
      let s := s.updRun fun r => { r with done := r.done ||| 2 ^ (g - 1), peakMw := max r.peakMw peakMw, durMs := ms }
      let s := s.dskEvent 2 g
      ({ s with dk := { s.dk with groups := rest } }).groupStart

/-! ## Entry (R533, R534) -/

/-- The groups of a run. -/
def State.duskGroups (s : State) : List Nat :=
  let mask := s.eFld F.DSK_CFG_group_mask
  if s.pw.duskMemOnly then [1, 2] else [1, 2] ++ [3, 4, 5, 6, 7, 8].filter fun g => bitN mask (g - 1)

/-- What the tests of memory destroy besides what every move to Dawn loses: the connections, which the snapshot
restores, and the queue configuration (R457). -/
def State.duskLost (s : State) : State :=
  { s with
    ml := { s.ml with conns := [] }
    qm := { air := s.qm.air }
    rs := { s.rs.safe with
      demods := [], window := none, rx := [], ready := none, switching := false, calRetry := false, calFull := false } }

/-- The run's record is written before its first group, with `incomplete` set (R540). -/
def State.newRun (s : State) : State :=
  let r : DskRun :=
    { run := ((s.run0.map (·.run)).getD 0 + 1) % 2 ^ 32, memOnly := s.pw.duskMemOnly, thenFull := s.pw.duskThenFull
      startSec := s.rt.sec % 2 ^ 32, otpFull := decide (128 ≤ s.nv.fuses.length) }
  { s with nv := { s.nv with runs := (r :: s.nv.runs).take 2 } }

/-- The hand-over that precedes Dusk on a Lead is over: the role is Shadow, or 25 ms have passed (R512). -/
def State.handedOver (s : State) : Bool :=
  !s.tw.dusk || s.tw.duskWait.any fun w => s.isShadow || decide (w + msNs 25 ≤ s.now)

/-- DUSK_ENTRY. -/
def State.duskEntry (s : State) : State :=
  if s.pw.trans ≠ some .toDusk ∨ !s.handedOver then s
  else
    let s := s.writeSnap.windowShut
    let s := (s.dataLost false true).duskLost
    let s := s.latchRegs [0x090004]
    let s := (((s.setFld F.PWR_RADIO_PERS_s_eff 0).setFld F.SRX_STAT_lock 0).setFld F.SRX_STAT_cal_valid 0).setFld
      F.TPL_STAT_dawn_active 0
    let s : State := { s with pw := { s.pw with wdog := none, requestedDawn := false, stage := .onAir, dram := false } }
    let s := (s.setFld F.TEL_FAULT_fatal_hold 0).modeIs .dusk
    let s := s.reclaim.newRun
    let s := ((s.setFld F.DSK_STAT_running 1).setFld F.DSK_STAT_memory_only s.pw.duskMemOnly.toNat).setFld
      F.DSK_STAT_derated 0
    let s : State := { s with dk := { groups := s.duskGroups, startAt := s.now } }
    (s.dskEvent 1 0).groupStart

/-! ## The end of a run (R542, R545, R546) -/

/-- Program fuses for the repeated failures, with each verification's outcome. -/
def State.fuseRepairs : List DskFail → List Bool → State → State
  | [], _, s => s
  | f :: fs, oks, s =>
    let fresh : Bool := f.rep && f.soft && !s.fusedList.any f.same
    if !fresh then State.fuseRepairs fs oks s
    else if 128 ≤ s.nv.fuses.length then
      State.fuseRepairs fs oks ((s.setFld F.DSK_STAT_otp_full 1).updRun fun r => { r with otpFull := true })
    else if oks.headD true then
      let s : State := { s with nv := { s.nv with fuses := s.nv.fuses ++ [some f] } }
      let mark (g : DskFail) : DskFail := if g.same f then { g with fused := true } else g
      State.fuseRepairs fs oks.tail (s.updRun fun r => { r with fused := r.fused + 1, fails := r.fails.map mark })
    else
      let s : State := { s with nv := { s.nv with fuses := s.nv.fuses ++ [none] } }
      State.fuseRepairs fs oks.tail ((s.setFld F.TEL_FAULT_otp 1).faultEv 0x6 9 f.addr)

/-- A full run that is complete ends with its fuses. -/
def State.fuses (s : State) (oks : List Bool) : State :=
  match s.run0 with
  | none => s
  | some r =>
    if r.memOnly ∨ !s.eFlag F.DSK_CFG_fuse_en then s
    else
      let s := State.fuseRepairs r.fails oks s
      if (s.run0.map (·.fused)).getD 0 = 0 then s else s.dskEvent 5 0

/-- DUSK_RUN_END: the record is closed, and the device leaves for Full or Hibernate. -/
def State.runEnd (s : State) (oks : List Bool) : State :=
  if s.pw.mode ≠ .dusk ∨ !s.flag F.DSK_STAT_running ∨ (s.dk.groups ≠ [] ∧ s.dk.abort = 0) then s
  else
    let cause := s.dk.abort
    let s := if cause = 0 then s.fuses oks else s
    let ms := (s.now - s.dk.startAt) / 1000000
    let s := s.updRun fun r => { r with incomplete := cause != 0, abort := cause, durMs := ms }
    let s := s.dskEvent (if cause = 0 then 3 else 4) 0
    let s := ((s.setFld F.DSK_STAT_running 0).setFld F.DSK_STAT_aborting 0).setFld F.DSK_STAT_group 0
    let hib := cause = 6 ∨ (cause = 0 ∧ !s.pw.duskThenFull)
    let s : State := { s with dk := { s.dk with groups := [], abort := 0, abortAt := 0 } }
    if hib then ((s.finishMode 4 stOK).finishMode 0 stOK).enterHib 1
    else { s with pw := { s.pw with trans := some .fromDusk, stage := .rom } }

/-- VIN failure cuts a run short: its record keeps `incomplete` and shows the cause (R540, R547). -/
def State.duskCut (s : State) : State :=
  if s.pw.mode = .dusk ∧ s.flag F.DSK_STAT_running then
    s.updRun fun r => { r with abort := 5, durMs := (s.now - s.dk.startAt) / 1000000 }
  else s

/-! ## DSK_RESULT (R547) and views -/

/-- The summary, 64 bytes. -/
def DskRun.summary (r : DskRun) : Bytes :=
  let flags := r.memOnly.toNat + 2 * r.thenFull.toNat + 4 * r.incomplete.toNat + 8 * r.derated.toNat + 16 * r.unrep.toNat +
    32 * r.otpFull.toNat
  toLE 4 r.run ++ toLE 1 flags ++ toLE 1 r.abort ++ toLE 2 r.nFail ++ toLE 4 r.startSec ++ toLE 2 r.durMs ++
    toLE 1 r.done ++ toLE 1 r.failed ++ toLE 2 r.peakMw ++ toLE 1 r.fused ++ toLE 45 0

/-- A failure record, 8 bytes (R540). -/
def DskFail.bytes (f : DskFail) : Bytes :=
  toLE 2 (f.inst + 4096 * f.kind) ++ toLE 4 f.addr ++ toLE 1 f.bit ++
    toLE 1 (f.rep.toNat + 2 * f.soft.toNat + 4 * f.fused.toNat + 8 * f.unrep.toNat)

/-- DSK_RESULT: the summary, then the failure records. -/
def State.dskResult (s : State) (c : Cmd) : Reply :=
  if c.f 0 8 % 32 ≠ 0 ∨ 1 < c.f 8 1 ∨ !c.zero 9 15 then Reply.err s stBAD_ARG
  else match s.nv.runs[c.f 8 1]? with
    | none => Reply.err s stBAD_ARG
    | some r => Reply.ok s [(c.f 0 8, r.summary ++ (r.fails.map DskFail.bytes).flatten)]

/-- The soft repairs applied: those of the newest complete record (R541). -/
def State.softRepairs (s : State) : List DskFail :=
  ((s.nv.runs.find? fun r => !r.incomplete).map fun r => r.fails.filter fun f => f.soft && !f.fused).getD []

/-- Rows and columns that a list of repairs takes beyond the fused ones. -/
def State.softUse (s : State) : List DskFail → List DskFail → Nat × Nat
  | [], _ => (0, 0)
  | f :: fs, before =>
    let (r, c) := s.softUse fs (before ++ [f])
    match spareFor f.inst f.kind (sparesUsed f.inst before (0, 0)) with
    | some (_, true) => (r + 1, c)
    | some (_, false) => (r, c + 1)
    | none => (r, c)

/-- Registers of the `DSK_` block whose value lies in the state. -/
def State.dskView (s : State) (off : Nat) : Option Word :=
  if off = 0x090000 then
    let w := setBits (s.word off) 4 4 ((s.run0.map (·.incomplete)).getD false).toNat
    some (setBits w 7 7 (decide (128 ≤ s.nv.fuses.length)).toNat)
  else if off = 0x09000C then some (BitVec.ofNat 32 ((s.run0.map (·.run)).getD 0))
  else if off = 0x090010 then
    let (r, c) := s.softUse s.softRepairs s.fusedList
    some (BitVec.ofNat 32 (s.nv.fuses.length * 2 ^ 24 + min 4095 c * 2 ^ 12 + min 4095 r))
  else none

/-! ## Meanings -/

/-- DUSK_ENTRY (R534). -/
def execDuskEntry (t : Nat) (s : State) : Host.Outcome State Fault Refusal := run t s State.duskEntry

/-- DUSK_GROUP_END (R537, R540). -/
def execDuskGroupEnd (t : Nat) (fails : List DskHit) (peakMw : Nat) (s : State) : Host.Outcome State Fault Refusal :=
  run t s fun s => s.groupEnd fails peakMw

/-- DUSK_RUN_END (R542, R546). -/
def execDuskRunEnd (t : Nat) (fuseOk : List Bool) (s : State) : Host.Outcome State Fault Refusal :=
  run t s fun s => s.runEnd fuseOk

/-- DSK_ABORT: a keyed write of `DSK_CTRL` (R545). -/
def execDskAbort (t : Nat) (val : Word) (s : State) : Host.Outcome State Fault Refusal :=
  run t s fun s => if s.barUp && decide (bitsN val.toNat 31 16 = 0x5A5A) && bitN val.toNat 0 then s.duskService 4 else s

/-- DSK_RESULT (R547). -/
def execDskResult (t : Nat) (c : Cmd) (s : State) : Host.Outcome State Fault Refusal :=
  ringCommand 0x0901 t c (fun s => s.dskResult c) s

end Sys2Proof.Machine
end

