-- ==== Sys2Proof/Machine/Modes.lean ====
section
/-!
DEFINITION. Sys2Proof/Machine/Modes.lean: MODE_REQUEST and the moves between modes that it brings
(02_modes_power_start): Doze and the return from it, Hibernate, a requested Dawn, the arrival in Full.
-/

namespace Sys2Proof.Machine

/-! ## MODE_REQUEST (R54, R55) -/

/-- A move of R47 from the present mode to a target, other than the mode itself. -/
def State.moveListed (s : State) (target : Nat) : Bool :=
  match s.pw.mode with
  | .full => target != 3
  | .doze => target == 3 || target == 0
  | .dawn => target == 4 || target == 0 || (target == 3 && s.pw.requestedDawn)
  | .dusk => target == 3 || target == 0
  | _ => false

/-- The present mode's code as a target. -/
def State.isTarget (s : State) (target : Nat) : Bool := s.pw.mode.code == target && s.pw.mode != .rescue

/-- A transition is in progress (R599); a Dusk run that a request has ended is leaving. -/
def State.moving (s : State) : Bool := s.pw.trans.isSome || s.dk.abort != 0

/-- The planned absence is announced (R512). -/
def State.announceAbsence (s : State) : State := ({ s with tw := { s.tw with absence := true } }).helloTx

/-- `wake_after_s` overwrites alarm 0 with the current seconds plus it, and enables it (R112). -/
def State.armWake (s : State) (secs : Nat) : State :=
  if secs = 0 then s
  else
    let a := s.rt.sec + secs
    ((s.setFld F.RTC_ALM0_LO_alm_lo a).setFld F.RTC_ALM0_HI_alm_hi (a / 2 ^ 32)).setFld F.RTC_ALM0_HI_enable 1

/-- The start of an accepted move. -/
def State.moveTo (s : State) (tr : Trans) : State := { s with pw := { s.pw with trans := some tr } }

/-- What an accepted MODE_REQUEST begins. -/
def State.beginMove (s : State) (target thenFull memOnly wake : Nat) : State :=
  match target with
  | 0 =>
    let s := (s.armWake wake).announceAbsence
    if s.pw.mode = .dusk then s.duskService 6 else s.moveTo .toHibernate
  | 1 => s.moveTo .toDoze
  | 2 => s.moveTo .toDawn
  | 3 =>
    match s.pw.mode with
    | .dusk => s.duskService 1
    | .doze => s.moveTo .fromDoze
    | _ => { s.startLoad with pw := { s.startLoad.pw with asked := true } }
  | _ =>
    let s : State := { s with pw := { s.pw with duskThenFull := thenFull == 1, duskMemOnly := memOnly == 1 } }
    if s.tw.role == .lead && s.peerServ then { s with tw := { s.tw with dusk := true, duskWait := none } }.moveTo .toDusk
    else s.announceAbsence.moveTo .toDusk

/-- MODE_REQUEST's own rules: the rows of R55 in order. -/
def State.modeRequest (s : State) (c : Cmd) : Reply :=
  let target := c.f 0 1
  let opts := c.f 1 1
  let wake := c.f 4 4
  if 4 < target ∨ 3 < opts ∨ (opts ≠ 0 ∧ target ≠ 4) ∨ (wake ≠ 0 ∧ target ≠ 0) ∨ !c.zero 2 2 ∨ !c.zero 8 16 then
    Reply.err s stBAD_ARG
  else if s.moving then Reply.err s stUNSUPPORTED
  else if s.isTarget target then Reply.ok s
  else if !s.moveListed target then Reply.err s stUNSUPPORTED
  else if target = 1 ∧ s.tw.role ≠ .solo then Reply.err s stUNSUPPORTED
  else if target = 1 ∧ !s.flag F.PWR_RADIO_PERS_s_eff then Reply.err s stUNSUPPORTED
  else if target = 4 ∧ !s.io.hf.deferred.isEmpty then Reply.err s stUNSUPPORTED
  else Reply.defer (s.beginMove target (opts % 2) (opts / 2) wake) target

/-! ## Doze (R52, R53, R72) -/

/-- Some PKT_TX or WLN_MGMT_TX has not completed: a MODE_REQUEST to Doze waits for it (R487). -/
def State.startedWork (s : State) : Bool := s.io.hf.deferred.any fun d => d.opcode == 0x1001 || d.opcode == 0x0304

/-- The deauthentication frames of a radio, with reason code 3, one for each associated client. -/
def State.deauthAll (s : State) (h : Bool) : State :=
  if !s.wifiOn h || !s.outEnabled then s
  else s.each s.wl.clients fun s c =>
    match c.2.link h with
    | some x => s.put (.wifi h PpduKind.deauth.name [c.1] (toLE 6 x.addr ++ toLE 2 3))
    | none => s

/-- Wi-Fi frames that wait for a retry are dropped and counted. -/
def State.dropRetries (s : State) : State :=
  let n := (s.wl.clients.map (·.2.retry.length)).sum
  let s := s.count F.QMS_DROP_mode_drop n
  { s with wl := { s.wl with clients := s.wl.clients.map fun c => (c.1, { c.2 with retry := [] }) } }

/-- Radios L and H are switched off. -/
def State.radiosOff (s : State) : State :=
  let s : State := { s with lh := { l := s.lh.l.kept false, h := s.lh.h.kept false } }
  let s := (s.setFld F.PWR_RADIO_PERS_l_eff 0).setFld F.PWR_RADIO_PERS_h_eff 0
  s.each [false, true] fun s h =>
    ((s.setFld (F.LRX_STAT_cal.on h) 0).setFld (F.LRX_STAT_cal_valid.on h) 0).setFld (F.LRX_STAT_lock.on h) 0

/-- Queued Wi-Fi and Ethernet frames are dropped and counted; what waits for the mesh or for the host stays (R52). -/
def State.dozeDrops (s : State) : State :=
  let bridged (p : Nat × Packet) : Bool := match p.2.src with
    | .eth _ => true
    | .wifi _ _ => true
    | _ => false
  let gone := s.sr.input.filter bridged
  let s := s.count F.QMS_DROP_mode_drop (gone.length + s.sr.cutting.length)
  let s := s.dropAll fun n => n < 0x20000 || 0x21010 ≤ n
  let s : State := { s with sr := { s.sr with input := s.sr.input.filter fun p => !bridged p, cutting := [] } }
  ((s.ethDown 0).ethDown 1).updatePool

/-- GPIO balls whose level wakes the device now (R567). -/
def State.gpioWakes (s : State) : List Nat :=
  (List.range 8).filter fun n =>
    s.wakeOn (6 + n) && !bitN (s.word 0x480004).toNat n &&
      bitN s.pn.gpioExt n == bitN (s.fld F.GPI_WAKE_LVL_level) n

/-- DOZE_ENTRY. -/
def State.dozeEntry (s : State) : State :=
  if s.pw.trans ≠ some .toDoze ∨ s.startedWork then s
  else
    let s := s.windowShut
    let s := (((s.lhAbort false).lhAbort true).lhFlush false).lhFlush true
    let s := (s.deauthAll false).deauthAll true
    let s := s.meshLate.dropRetries.dozeDrops.radiosOff
    let s := s.modeIs .doze
    let s : State := { s with
      pt := { s.pt with stopAt := some s.now }
      pw := { s.pw with slotPowered := false }
      up := { s.up with trialAt := none } }
    let s := (s.setFld F.CLK_STAT_timebase_src 1).opStart.reclaim
    (s.finishMode 1 stOK).each s.gpioWakes fun s n => s.dozeWake (6 + n)

/-- The held payloads have reached a limit of `PWR_DOZE_CFG` (R53). -/
def State.holdFull (s : State) : Bool :=
  decide (max 1 (s.fld F.PWR_DOZE_CFG_hold_cells) ≤ s.heldCells) ||
    s.pw.held.any fun e => decide (e.at_ns + secNs (max 1 (s.fld F.PWR_DOZE_CFG_hold_max_s)) ≤ s.now)

/-- DOZE_HOLD_LIMIT. -/
def State.dozeHold (s : State) : State := if s.pw.mode = .doze ∧ s.holdFull then s.dozeWake 14 else s

/-- DOZE_SLOT_WAKE: the mesh domain and the fast clocks are on for the slot; Franking first re-masks where 50 ms have
passed (R299). -/
def State.slotWake (s : State) : State :=
  if s.pw.mode ≠ .doze ∨ s.pw.slotPowered ∨ s.ck.refFailed then s
  else
    let s : State := { s with pw := { s.pw with slotPowered := true }, rs := { s.rs with ready := none } }
    let s := (s.setFld F.CLK_STAT_timebase_src 0).setFld F.SRX_STAT_lock 0
    if s.kv.remaskAt + msNs 50 ≤ s.now then s.remask else s

/-! ## The return from Doze -/

/-- A held payload is processed as it would have been on arrival. -/
def State.replay (s : State) (e : Held) : State :=
  let payload := e.data.drop 1
  if Bytes.le e.data 0 1 = 1 then s.dataPayload e.src payload e.ch false e.rssi else s.circReceive payload e.rssi

/-- Each copy's counter record replaces the context's (R378). -/
def State.copiesBack (s : State) : State :=
  s.each s.ml.conns fun s p =>
    if !bitN p.2.b11 5 then s
    else match s.pt.ctx.find? fun x => x.2.conn == some p.1 with
      | some (n, x) => s.setCtx n { x with rec_ := true, ep := p.2.ep, ctr := p.2.fc }
      | none => s

/-- The copy of R72 fails its CRC: it is discarded, the tables are rebuilt and Wi-Fi is lost, with the discard of cause
0x5 and a flush of the Post-box (R147). -/
def State.copyFails (s : State) (lost : List Nat) : State :=
  let s := s.discard 0x5 fun d => d.opcode == 0x0003 && d.key == 3
  let s := s.wifiLost.flushPbox
  let s : State := { s with mn := { s.mn with joins := [], pend := [], past := [], frags := [], inner := [] } }
  s.rebuild lost

/-- The clocks of the Round and of learning go on where they stopped (R380). -/
def Pt.resume (p : Pt) (now : Nat) : Pt :=
  let d := now - p.stopAt.getD now
  { p with
    macAt := p.macAt + d, nodeAt := p.nodeAt + d, macSweep := p.macSweep + d, nodeSweep := p.nodeSweep + d
    stopAt := none }

/-- Radios L and H are switched on again: each passes its full calibration before it serves (R59). -/
def State.radiosOn (s : State) : State :=
  s.each [false, true] fun s h =>
    let m := s.eFld (if h then F.PWR_RADIO_PERS_h_en else F.PWR_RADIO_PERS_l_mode)
    if m = 0 || (s.radio h).stopped then s
    else (s.setRadio h { s.radio h with switching := true }).calBegin h 2

/-- Full is reached from Doze. -/
def State.fullFromDoze (s : State) (copyOk : Bool) (lost : List Nat) : State :=
  let s := if copyOk then s else s.copyFails lost
  let pt := s.pt.resume s.now
  let held := s.pw.held
  let s := s.modeIs .full
  let s := s.fullStarts
  let s : State := { s with
    pt := { s.pt with
      macAt := pt.macAt, nodeAt := pt.nodeAt, macSweep := pt.macSweep, nodeSweep := pt.nodeSweep, stopAt := none }
    pw := { s.pw with held := [], slotPowered := false }
    up := if (s.up.running.any fun b => (s.ent b).state == 3) then { s.up with trialAt := some s.now } else s.up }
  let s := s.setFld F.CLK_STAT_timebase_src 0
  let s := s.copiesBack.radiosOn.reclaim
  let s := (s.each held State.replay).updatePool
  (s.finishMode 3 stOK).drainEvents

/-- FULL_REACHED: Dawn service hands the mesh to Courier S, with every radio of the personality calibrated; or the
return from Doze is complete. -/
def State.fullReached (s : State) (copyOk : Bool) (lost : List Nat) : State :=
  if s.ck.refFailed then s
  else if s.pw.mode = .dawn ∧ s.pw.stage = .done ∧ s.pw.trans = some .toFull then
    if s.lhReady false && s.lhReady true then s.fullFromDawn.drainEvents else s
  else if s.pw.mode = .doze ∧ s.pw.trans = some .fromDoze then s.fullFromDoze copyOk lost
  else s

/-! ## Hibernate and a requested Dawn (R51, R56) -/

/-- HIBERNATE_ENTRY: the snapshot is written, the final OK is posted, and the backup domain alone stays on. -/
def State.hibernateEntry (s : State) : State :=
  if s.pw.trans ≠ some .toHibernate then s else (s.writeSnap.finishMode 0 stOK).enterHib 1

/-- REQUESTED_DAWN_ENTRY: Courier S has completed its slot, and Dawn service takes the mesh. -/
def State.dawnEntry (s : State) : State :=
  if s.pw.trans ≠ some .toDawn then s
  else
    let s := s.discard 0x7 fun d => d.opcode == 0x0003 && d.key == 2
    let s := (s.dataLost false true).toDawn
    let s : State := { s with pw := { s.pw with requestedDawn := true }, up := { s.up with trialAt := none } }
    let s := (s.setFld F.TPL_STAT_dawn_active 1).opStart.reclaim
    s.finishMode 2 stOK

/-! ## Meanings -/

/-- MODE_REQUEST (R54, R55). -/
def execModeRequest (t : Nat) (c : Cmd) (s : State) : Host.Outcome State Fault Refusal :=
  ringCommand 0x0003 t c (fun s => s.modeRequest c) s

/-- DOZE_ENTRY (R52, R72). -/
def execDozeEntry (t : Nat) (s : State) : Host.Outcome State Fault Refusal := run t s State.dozeEntry

/-- DOZE_HOLD_LIMIT (R53). -/
def execDozeHoldLimit (t : Nat) (s : State) : Host.Outcome State Fault Refusal := run t s State.dozeHold

/-- DOZE_SLOT_WAKE (R183, R83). -/
def execDozeSlotWake (t : Nat) (s : State) : Host.Outcome State Fault Refusal := run t s State.slotWake

/-- FULL_REACHED (R63, R72). -/
def execFullReached (t : Nat) (copyOk : Bool) (lost : List Nat) (s : State) : Host.Outcome State Fault Refusal :=
  run t s fun s => s.fullReached copyOk lost

/-- HIBERNATE_ENTRY (R56). -/
def execHibernateEntry (t : Nat) (s : State) : Host.Outcome State Fault Refusal := run t s State.hibernateEntry

/-- REQUESTED_DAWN_ENTRY (R51). -/
def execRequestedDawnEntry (t : Nat) (s : State) : Host.Outcome State Fault Refusal := run t s State.dawnEntry

end Sys2Proof.Machine
end

