-- ==== Sys2Proof/Machine/Activate.lean ====
section
/-!
DEFINITION. Sys2Proof/Machine/Activate.lean: the activation of an image set (18_update_rescue): UPD_ACTIVATE, the
update of Triplicate, the pause and its end.
-/

namespace Sys2Proof.Machine

/-! ## UPD_ACTIVATE (R523, R524, R529 to R531) -/

/-- Step 1 of R523: the directory names the new set, as a Trial set. -/
def State.makeTrial (s : State) (b : Bool) : State :=
  let n := max 1 (s.fld F.UPD_CFG_trial_tries)
  (s.updDir fun d => { d.setEnt b { d.ent b with state := 3, tries := n } with boot := b }).updEvent 1 b

/-- An activation is under way. -/
def State.activating (s : State) (b : Bool) (p : ActPhase) : State :=
  { s with up := { s.up with job := some (.activate b p) } }

/-- A set's DRAM copy is present. -/
def State.hasCopy (s : State) (b : Bool) : Bool := if b then s.up.copyB else s.up.copyA

/-- In Dawn: the set becomes `boot_set`, and its Full load starts. -/
def State.activateDawn (s : State) (b : Bool) : State :=
  let s := ((s.makeTrial b).useTry b).activating b .ready
  let s := s.setFld F.TEL_FAULT_fatal_hold 0
  ({ s with up := { s.up with load := some b } }).startLoad

/-- UPD_ACTIVATE's own rules. -/
def State.updActivate (s : State) (c : Cmd) : Reply :=
  let b := c.f 16 1 == 1
  let st := (s.ent b).state
  if 2 ≤ c.f 16 1 ∨ 2 ≤ c.f 17 1 ∨ !c.zero 0 16 ∨ !c.zero 18 6 then Reply.err s stBAD_ARG
  else if s.up.job.isSome then Reply.err s stNO_ROOM
  else if c.f 17 1 = 1 then
    if s.up.running = some b ∧ st = 3 then Reply.ok (s.commitSet b) else Reply.err s stBAD_ARG
  else match s.pw.mode with
    | .full =>
      if st ≠ 2 ∨ !s.hasCopy b then Reply.err s stBAD_ARG
      else Reply.defer ((s.makeTrial b).activating b (if s.sameDawn then .ready else .update))
    | .dawn =>
      if st ≠ 2 then Reply.err s stBAD_ARG
      else Reply.defer (s.activateDawn b)
    | _ =>
      if st ≠ 2 ∧ st ≠ 3 then Reply.err s stBAD_ARG
      else Reply.ok ((if st = 2 then s.makeTrial b else s).activating b .ready)

/-- In Rescue an accepted activation is followed by the software reset (R529). -/
def State.rescueLeaves (s : State) (x : Straps) : State :=
  match s.pw.mode, s.up.job with
  | .rescue, some (.activate _ _) => (s.resetDown true).startUp x F.PWR_RESET_CAUSE_soft
  | _, _ => s

/-! ## The update of Triplicate (R526, R595) -/

/-- A lane is being resynchronised. -/
def State.resyncing (s : State) : Bool := s.flag F.TPL_STAT_resync_busy

/-- TRIPLICATE_UPDATE: the new Dawn image runs in every voting lane, or nothing has changed. -/
def State.tplUpdate (s : State) (ok : Bool) : State :=
  match s.up.job with
  | some (.activate b .update) =>
    if s.pw.mode ≠ .full ∨ s.pw.trans.isSome ∨ s.resyncing then s
    else if ok then (s.setFld F.TPL_STAT_image_set b.toNat).activating b .ready
    else
      let s := s.undoActivate b
      ({ s with up := { s.up with job := none } }).finishOp 0x0803 stBAD_SIGNATURE
  | _ => s

/-! ## The pause (R523) -/

/-- PAUSE_START: the snapshot, then t0: Dawn service takes the mesh, forwarding stops, host work is discarded, and the
Post-box is flushed.  `TOP_MODE` reads Dawn with a transition in progress. -/
def State.pauseStart (s : State) : State :=
  match s.up.job with
  | some (.activate b .ready) =>
    if s.pw.mode ≠ .full ∨ s.pw.trans.isSome then s
    else
      let s := s.writeSnap.discard 0x2 fun d => d.opcode == 0x0803
      let s := (s.dataLost true true).toDawn
      let s : State := { s with pw := { s.pw with trans := some .pause } }
      let s : State := { s with up := { s.up with t0 := s.now, trialAt := none } }
      ((s.setFld F.TPL_STAT_dawn_active 1).activating b .pause).opStart
  | _ => s

/-- Full takes the mesh at the end of the pause, on set `b`; UPD_ACTIVATE completes after the mode event. -/
def State.pauseEnd (s : State) (b : Bool) (subtype status : Nat) (about : Bool) (lost : List Nat) : State :=
  let s := (s.rebuild lost).modeIs .full
  let s : State := { s with pw := { s.pw with stage := .done }, up := { s.up with job := none } }
  let s := (s.setRuns b).setFld F.TPL_STAT_dawn_active 0
  let s := s.lhServe.lapseTimedOut.fullStarts.reclaim
  (s.updEvent subtype about).finishOp 0x0803 status

/-- ACTIVATION_LOAD_DONE: every engine is loaded, from the new set or, after a failure, from the previous one (R523,
R525). -/
def State.loadDone (s : State) (ok : Bool) (lost : List Nat) (x : Straps) : State :=
  if s.pw.trans ≠ some .pause then s
  else match s.up.job with
    | some (.activate b (.back st)) =>
      if ok then s.pauseEnd (!b) 3 st b lost else s.restart x F.PWR_RESET_CAUSE_wdog
    | some (.activate b _) =>
      if ok then (s.count F.UPD_CNT_activations).pauseEnd b 2 stOK b lost else s.activationFails stBAD_SIGNATURE
    | _ => s

/-- ACTIVATION_TIMEOUT: 100 ms after t0 without Full, or 150 ms after it for the previous set (R525). -/
def State.loadLate (s : State) (x : Straps) : State :=
  if s.pw.trans ≠ some .pause then s
  else match s.up.job with
    | some (.activate _ (.back _)) =>
      if s.up.t0 + msNs 150 ≤ s.now then s.restart x F.PWR_RESET_CAUSE_wdog else s
    | some (.activate _ _) => if s.up.t0 + msNs 100 ≤ s.now then s.activationFails stTIMEOUT else s
    | _ => s

/-! ## Meanings -/

/-- UPD_ACTIVATE (R523, R529 to R531). -/
def execUpdActivate (t : Nat) (c : Cmd) (straps : Straps) (s : State) : Host.Outcome State Fault Refusal :=
  run t s fun s => (ringRun 0x0803 .command c (fun s => s.updActivate c) s).rescueLeaves straps

/-- TRIPLICATE_UPDATE (R526, R595). -/
def execTriplicateUpdate (t : Nat) (ok : Bool) (s : State) : Host.Outcome State Fault Refusal :=
  run t s fun s => s.tplUpdate ok

/-- PAUSE_START (R523). -/
def execPauseStart (t : Nat) (s : State) : Host.Outcome State Fault Refusal := run t s State.pauseStart

/-- ACTIVATION_LOAD_DONE (R523, R525). -/
def execActivationLoadDone (t : Nat) (ok : Bool) (lost : List Nat) (straps : Straps) (s : State) :
    Host.Outcome State Fault Refusal :=
  run t s fun s => s.loadDone ok lost straps

/-- ACTIVATION_TIMEOUT (R525). -/
def execActivationTimeout (t : Nat) (straps : Straps) (s : State) : Host.Outcome State Fault Refusal :=
  run t s fun s => s.loadLate straps

end Sys2Proof.Machine
end

