-- ==== Sys2Proof/Machine/Slots.lean ====
section
/-!
DEFINITION. Sys2Proof/Machine/Slots.lean: the 25 ms slot boundary and what takes effect there: the radio personality,
Dawn service's take-over, the mesh's slot; the calibrations of Radio S in service; the periodic snapshot.
-/

namespace Sys2Proof.Machine

/-! ## Radio S (R59, R176, R178 to R182) -/

/-- Radio S stops serving: what it sends is withdrawn, and its pins are safe. -/
def State.sStops (s : State) : State :=
  let s := s.txWithdraw.closeWindow
  let s : State := { s with rs := { s.rs.safe with switching := false, calRetry := false, calFull := false, ready := none } }
  ((s.setFld F.PWR_RADIO_PERS_s_eff 0).setFld F.SRX_STAT_cal 0).setFld F.SRX_CAL_STAT_pending 0

/-- Radio S is switched on: it passes its full calibration before it serves. -/
def State.sStarts (s : State) : State :=
  ({ s with rs := { s.rs with switching := true, ready := none } }).setFld F.SRX_STAT_cal 2

/-- A calibration of Radio S fails: it is repeated once in the next D slot; after a second failure the radio stops,
with a class 0x3 fault (R182, R549). -/
def State.srxCalBad (s : State) (full : Bool) : State :=
  let s := (s.setFld F.SRX_STAT_cal 0).setFld F.SRX_CAL_STAT_failed 1
  if s.rs.calRetry then
    let s := s.sStops
    let s := ({ s with rs := { s.rs with stopped := true } }).setFld F.TEL_FAULT_radio 1
    (s.faultEv 0x3 12 0).claimFell
  else
    let ready := if s.flag F.SRX_STAT_lock && s.flag F.SRX_STAT_cal_valid then some s.now else none
    ({ s with rs := { s.rs with calRetry := true, ready := ready } }).calPend full

/-- SRX_CAL_DONE. -/
def State.srxCalDone (s : State) (ok : Bool) (temp : Int) : State :=
  let k := s.fld F.SRX_STAT_cal
  if k = 0 then s else if ok then s.srxCalGood (k == 2) temp else s.srxCalBad (k == 2)

/-- SYNTH_RELOCK_DONE: the relock, or the lock after a Doze wake, ends (R176, R183). -/
def State.relockDone (s : State) (ok : Bool) : State :=
  if s.rs.ready.isSome || s.flag F.SRX_STAT_lock || s.fld F.SRX_STAT_cal != 0 || !s.flag F.PWR_RADIO_PERS_s_eff then s
  else if ok then (({ s with rs := { s.rs with ready := some s.now } }).setFld F.SRX_STAT_lock 1).txDecide
  else s.srxCalBad false

/-! ## The personality (R59) -/

/-- Radio L or H is switched off at the boundary; what is queued for it stays queued. -/
def State.lhStopsServing (s : State) (h : Bool) : State :=
  let s := (s.lhAbort h).lhFlush h
  let s := if h then s else s.meshLate
  let r := s.radio h
  let s := s.setRadio h { stopped := r.stopped, queue := r.queue, switch := r.switch, punct := r.punct }
  (((s.setFld (radioEff h) 0).setFld (F.LRX_STAT_cal.on h) 0).setFld (F.LRX_STAT_cal_valid.on h) 0).setFld
    (F.LRX_STAT_lock.on h) 0

/-- A change of L's or H's code from `old` to `new` takes effect.  In Doze the radio stays off; in Dawn only the load of
the engines calibrates it. -/
def State.persLh (s : State) (h : Bool) (old new : Nat) : State :=
  if old = new then s
  else if s.pw.mode = .full then
    if new = 0 then s.lhStopsServing h
    else if old = 0 then (s.setRadio h { s.radio h with switching := true }).calBegin h 2
    else
      let s := if s.fld (radioEff h) = 0 then s else s.setFld (radioEff h) new
      if h || 2 ≤ new then s else s.meshLate
  else if s.pw.mode = .dawn ∧ (s.pw.stage = .engines ∨ s.pw.stage = .done) ∧ old = 0 ∧ new ≠ 0 then
    (s.setRadio h { s.radio h with switching := true }).calBegin h 2
  else s

/-- `PWR_RADIO_PERS` takes effect. -/
def State.persSlot (s : State) : State :=
  let s0 := s.eFld F.PWR_RADIO_PERS_s_en
  let l0 := s.eFld F.PWR_RADIO_PERS_l_mode
  let h0 := s.eFld F.PWR_RADIO_PERS_h_en
  let s := s.latchRegs [0x010004]
  let s1 := s.eFld F.PWR_RADIO_PERS_s_en
  let s := if s0 = s1 then s else if s1 = 0 then s.sStops else s.sStarts
  (s.persLh false l0 (s.eFld F.PWR_RADIO_PERS_l_mode)).persLh true h0 (s.eFld F.PWR_RADIO_PERS_h_en)

/-! ## The boundary -/

/-- Mesh time runs: in Doze, Dawn and Full, once Dawn service has first been on air. -/
def State.slotsRun (s : State) : Bool :=
  s.pw.hold.isNone && (s.pw.mode == .full || s.pw.mode == .doze ||
    (s.pw.mode == .dawn && s.pw.stage != .off && s.pw.stage != .held && s.pw.stage != .rom && s.pw.stage != .verified))

/-- Dawn service takes the mesh at the first boundary at which Courier S is clocked (R140, R588), and serves the slot. -/
def State.dawnSlot (s : State) : State :=
  if s.pw.mode ≠ .dawn ∨ s.ck.refFailed ∨ !s.flag F.CLK_STAT_a_lock then s
  else (s.setFld F.TPL_STAT_dawn_active 1).count F.TPL_DAWN_SLOTS_slots

/-- Between the slots of Doze the mesh domain is in retention, and the timebase counts XTAL32 (R83, R183). -/
def State.dozeSlot (s : State) : State :=
  if s.pw.mode = .doze then
    ({ s with pw := { s.pw with slotPowered := false } }).setFld F.CLK_STAT_timebase_src 1
  else s

/-- SLOT_BOUNDARY.  Each slot that Dawn service served leaves its summary in the Post-box (R143). -/
def State.slotBoundary (s : State) : State :=
  if !s.slotsRun then s
  else
    let s := if s.flag F.TPL_STAT_dawn_active then s.pushItem 0x05 else s
    let s := s.twinSlotEnd.persSlot
    let s := (s.latchRegs [F.TPL_DAWN_CFG_retry_hint.off]).dawnSlot
    let s : State := { s with tp := { s.tp with reload := false } }
    s.meshSlot.lhSlot.twinSlotStart.dozeSlot

/-! ## The periodic snapshot (R65) -/

/-- SNAPSHOT_PERIODIC: where its interval has passed; a write that fails its read-back leaves the banks as they are. -/
def State.periodicSnap (s : State) (ok : Bool) : State :=
  let due := s.pw.snapAt + secNs (clamp 10 3600 (s.eFld F.PWR_SNAP_CFG_interval_s))
  if !s.flag F.PWR_SNAP_CFG_enable ∨ (s.pw.mode ≠ .full ∧ s.pw.mode ≠ .doze) ∨ s.now < due then s
  else
    let s := s.latchFld F.PWR_SNAP_CFG_interval_s
    if ok then s.writeSnap
    else ({ s with pw := { s.pw with snapAt := s.now } }).setFld F.PWR_SNAP_STAT_write_err 1

/-! ## Meanings -/

/-- SLOT_BOUNDARY (R190, R191, R193, R59, R140, R453). -/
def execSlotBoundary (t : Nat) (s : State) : Host.Outcome State Fault Refusal := run t s State.slotBoundary

/-- SRX_CAL_START (R181): at the start of a D slot. -/
def execSrxCalStart (t : Nat) (s : State) : Host.Outcome State Fault Refusal :=
  run t s fun s => s.srxCalStart (s.ml.isD s.ml.slot)

/-- SRX_CAL_DONE (R179, R182). -/
def execSrxCalDone (t : Nat) (ok : Bool) (temp : Int) (s : State) : Host.Outcome State Fault Refusal :=
  run t s fun s => s.srxCalDone ok temp

/-- SYNTH_RELOCK_DONE (R176, R183). -/
def execSynthRelockDone (t : Nat) (ok : Bool) (s : State) : Host.Outcome State Fault Refusal :=
  run t s fun s => s.relockDone ok

/-- SNAPSHOT_PERIODIC (R65). -/
def execSnapshotPeriodic (t : Nat) (ok : Bool) (s : State) : Host.Outcome State Fault Refusal :=
  run t s fun s => s.periodicSnap ok

end Sys2Proof.Machine
end

