-- ==== Sys2Proof/Machine/Power.lean ====
section
/-!
DEFINITION. Sys2Proof/Machine/Power.lean: the supplies, the resets and the wakes (02_modes_power_start): VIN_OK, the
rails, RESET_N, the software reset, the brown-out of the backup domain, the wake sources, the alarms.
-/

namespace Sys2Proof.Machine

/-! ## The end of a reset (R42, R74, R80, R593) -/

/-- The device is held in reset. -/
def State.hold (s : State) (h : Hold) : State := { s with pw := { s.pw with hold := some h, stage := .held } }

/-- A reset's hold ends, or it has none: while RESET_N is low, or the voted clock stands, the device stays in reset;
else the start follows. -/
def State.startOrHold (s : State) (x : Straps) (cause : Fld) : State :=
  if s.pn.resetLow then (s.setFld cause 1).hold .pin
  else if s.pn.rcDown then (s.setFld cause 1).hold .rc
  else s.startUp x cause

/-- The stand-down ends: power-on and RESET_N clear it (R509). -/
def State.standClear (s : State) : State :=
  { s with nv := { s.nv with stoodDown := false }, tw := { s.tw with standDue := false } }

/-! ## Supplies (R70) -/

/-- `PWR_STAT` shows the supplies, and PWR_GOOD follows them. -/
def State.supplies (s : State) : State :=
  let rails := s.pw.vin && !s.pn.railBad
  ((s.setFld F.PWR_STAT_vin_ok s.pw.vin.toNat).setFld F.PWR_STAT_rails_ok rails.toNat).setFld F.PWR_STAT_pwr_good
    rails.toNat

/-- The mode a start leads to. -/
def startMode (x : Straps) : Nat := if x.rescue then 5 else 2

/-- A start from Hibernate (R73): the wakes seen are recorded, then the backup domain's log entries, then the start. -/
def State.startFromHib (s : State) (x : Straps) (bits : List Nat) (causes : List Nat) : State :=
  let w := bits.foldl (fun (w : Nat) b => w ||| 2 ^ b) (s.word 0x01000C).toNat
  let s := s.setWord 0x01000C (BitVec.ofNat 32 w)
  let s := s.each causes fun s c => s.backupLog c 0 (startMode x)
  let s : State := { s with rt := { s.rt with wakes := [] } }
  (s.resetDown false).supplies.startOrHold x F.PWR_RESET_CAUSE_vin

/-- The bit of `PWR_WAKE_CAUSE` of a cause of the backup log. -/
def wakeBit (cause : Nat) : Nat := if cause = 4 then 1 else if cause = 7 then 15 else 2

/-- The power-on reset: the backup domain has restarted cold (R73, R78, R121). -/
def State.powerOn (s : State) (x : Straps) : State :=
  let s : State := { s with rt := { s.rt with cold := false, wakes := [] } }
  let s := ((s.resetDown false).setWord 0x010010 0#32).setWord 0x01000C 0#32
  (s.setFld F.PWR_STAT_hib_source 0).standClear.supplies.startOrHold x F.PWR_RESET_CAUSE_por

/-- VIN_OK rises. -/
def State.vinRise (s : State) (x : Straps) : State :=
  if s.pw.vin then s
  else
    let s : State := { s with pw := { s.pw with vin := true }, pn := { s.pn with railBad := false, rcDown := false } }
    if s.rt.cold then s.powerOn x
    else
      let failed : Bool := decide (2 ≤ s.fld F.PWR_STAT_hib_source)
      let causes := s.rt.wakes ++ if failed then [7] else []
      if causes.isEmpty then s.supplies else s.startFromHib x (causes.map wakeBit) causes

/-- The writes on their way to the backup domain are lost with the supply (R105). -/
def State.rtcCut (s : State) : State :=
  let io := { s.io with heldLo := s.io.heldLo.filter fun p => !isRtcOff p.1 }
  { s with io := io, rt := { s.rt with wr := [], setNext := none, act := none } }

/-- VIN_OK falls: every output returns to its reset state, and Hibernate is entered, whatever the mode. -/
def State.vinFall (s : State) : State :=
  if !s.pw.vin then s
  else
    let s := if s.pw.mode = .hibernate then s
      else (s.duskCut.rtcCut).enterHib (if s.pw.trans.isSome then 3 else 2)
    let s : State := { s with pw := { s.pw with vin := false }, pn := { s.pn with rcDown := false } }
    s.supplies

/-- VBACK falls below 1.40 V: the backup domain restarts cold; with VIN absent, the next VIN_OK is a power-on. -/
def State.brownOut (s : State) : State :=
  let s := s.backupCold
  { s with rt := { s.rt with cold := !s.pw.vin } }

/-- A rail leaves its range or returns to it. -/
def State.rails (s : State) (inRange : Bool) : State :=
  if !s.pw.vin then s else ({ s with pn := { s.pn with railBad := !inRange } }).supplies

/-! ## RESET_N and PWR_RESET_CMD (R73, R78, R593) -/

/-- A low of `width` ns on RESET_N: 1 µs resets, less than 0.2 µs never does, and between them `acts` says. -/
def State.resetAssert (s : State) (width : Nat) (acts : Bool) : State :=
  if width < 200 ∨ (width < 1000 ∧ !acts) then s
  else
    let s : State := { s with pn := { s.pn with resetLow := true } }
    if !s.pw.vin then s else ((s.resetDown false).standClear).supplies.hold .pin

/-- RESET_N rises: the straps are sampled, and the device starts. -/
def State.resetRelease (s : State) (x : Straps) : State :=
  let s : State := { s with pn := { s.pn with resetLow := false } }
  if s.pw.hold = some .pin then
    ({ s with pw := { s.pw with hold := none, stage := .rom } }).startOrHold x F.PWR_RESET_CAUSE_pin
  else s

/-- A write of `PWR_RESET_CMD`. -/
def State.softReset (s : State) (val : Word) (x : Straps) : State :=
  if s.barUp && decide (bitsN val.toNat 31 16 = 0x5A5A) then
    (s.resetDown true).startUp x F.PWR_RESET_CAUSE_soft
  else s

/-! ## Wakes (R75, R76) -/

/-- A wake source acts in Hibernate: bit `b` of the enables that the wake logic holds, cause `cause` of the backup log.
With VIN absent it is latched. -/
def State.hibWake (s : State) (b cause : Nat) (x : Straps) : State :=
  if s.pw.mode ≠ .hibernate ∨ !bitN s.rt.wakeEn.toNat b then s
  else if s.pw.vin then s.startFromHib x [b] [cause]
  else { s with rt := { s.rt with wakes := s.rt.wakes ++ [cause] } }

/-- A rising edge on WAKE_IN. -/
def State.wakeIn (s : State) (x : Straps) : State :=
  match s.pw.mode with
  | .hibernate => s.hibWake 1 4 x
  | .doze => if s.wakeOn 1 then s.dozeWake 1 else s
  | .dusk => if s.wakeOn 1 then s.duskService 2 else s
  | _ => s

/-- The level at a GPIO ball changes; held for 1 µs at its wake level, it ends Doze (R567). -/
def State.gpioLevel (s : State) (n : Fin 8) (level : Bool) : State :=
  let e := s.pn.gpioExt
  let e' := if bitN e n.val = level then e else if level then e + 2 ^ n.val else e - 2 ^ n.val
  let s : State := { s with pn := { s.pn with gpioExt := e' } }
  if s.gpioWakes.contains n.val then s.dozeWake (6 + n.val) else s

/-- Signal detect of an Ethernet port. -/
def State.signalDetect (s : State) (port : Nat) : State := if s.wakeOn (4 + port) then s.dozeWake (4 + port) else s

/-! ## Alarms (R112 to R114) -/

/-- An alarm that has fired: its record, its event in Full and Dawn, and the wake (R75). -/
def State.alarmFired (s : State) (one late : Bool) (x : Straps) : State :=
  let s := s.setFld (if one then F.RTC_ALM_STAT_fired1 else F.RTC_ALM_STAT_fired0) 1
  let s := s.setFld (if one then F.RTC_ALM_STAT_late1 else F.RTC_ALM_STAT_late0) late.toNat
  match s.pw.mode with
  | .hibernate => s.hibWake 2 (if one then 6 else 5) x
  | _ =>
    if s.pw.hold.isSome then s
    else
      let s := if s.pw.mode = .full ∨ s.pw.mode = .dawn then s.event 0x03 (toLE 1 one.toNat ++ toLE 1 late.toNat) else s
      if s.wakeOn 2 then s.dozeWake 2 else s

/-- ALARM0_FIRE: alarm 0 disarms. -/
def State.alarm0 (s : State) (x : Straps) : State :=
  match s.rt.due0 with
  | none => s
  | some late =>
    let s : State := { s with rt := { s.rt with due0 := none } }
    (s.setFld F.RTC_ALM0_HI_enable 0).alarmFired false late x

/-- ALARM1_FIRE: the mark moves to the instant of the firing. -/
def State.alarm1 (s : State) (x : Straps) : State :=
  match s.rt.due1 with
  | none => s
  | some (late, m) =>
    let s : State := { s with rt := { s.rt with due1 := none, mark := some m } }
    s.alarmFired true late x

/-! ## Meanings -/

/-- VIN_OK_RISE (R47, R70, R73, R76). -/
def execVinOkRise (t : Nat) (straps : Straps) (s : State) : Host.Outcome State Fault Refusal :=
  run t s fun s => s.vinRise straps

/-- VIN_OK_FALL (R70). -/
def execVinOkFall (t : Nat) (s : State) : Host.Outcome State Fault Refusal := run t s State.vinFall

/-- VBACK_BROWN_OUT (R121). -/
def execVbackBrownOut (t : Nat) (s : State) : Host.Outcome State Fault Refusal := run t s State.brownOut

/-- RAIL_OUT_OF_RANGE (R70). -/
def execRailOutOfRange (t : Nat) (inRange : Bool) (s : State) : Host.Outcome State Fault Refusal :=
  run t s fun s => s.rails inRange

/-- RESET_N_ASSERT (R593). -/
def execResetNAssert (t : Nat) (width : Nat) (acts : Bool) (s : State) : Host.Outcome State Fault Refusal :=
  run t s fun s => s.resetAssert width acts

/-- RESET_N_RELEASE (R42, R593). -/
def execResetNRelease (t : Nat) (straps : Straps) (s : State) : Host.Outcome State Fault Refusal :=
  run t s fun s => s.resetRelease straps

/-- SOFTWARE_RESET (R73). -/
def execSoftwareReset (t : Nat) (val : Word) (straps : Straps) (s : State) : Host.Outcome State Fault Refusal :=
  run t s fun s => s.softReset val straps

/-- WAKE_IN_RISE (R75, R545). -/
def execWakeInRise (t : Nat) (straps : Straps) (s : State) : Host.Outcome State Fault Refusal :=
  run t s fun s => s.wakeIn straps

/-- GPIO_WAKE (R567). -/
def execGpioWake (t : Nat) (n : Fin 8) (level : Bool) (s : State) : Host.Outcome State Fault Refusal :=
  run t s fun s => s.gpioLevel n level

/-- ETH_SIGNAL_DETECT (R75). -/
def execEthSignalDetect (t : Nat) (port : Fin 2) (s : State) : Host.Outcome State Fault Refusal :=
  run t s fun s => s.signalDetect port.val

/-- ALARM0_FIRE (R112, R114). -/
def execAlarm0Fire (t : Nat) (straps : Straps) (s : State) : Host.Outcome State Fault Refusal :=
  run t s fun s => s.alarm0 straps

/-- ALARM1_FIRE (R113, R114). -/
def execAlarm1Fire (t : Nat) (straps : Straps) (s : State) : Host.Outcome State Fault Refusal :=
  run t s fun s => s.alarm1 straps

end Sys2Proof.Machine
end

