-- ==== Sys2Proof/Machine/Clocks.lean ====
section
/-!
DEFINITION. Sys2Proof/Machine/Clocks.lean: failures of the clocks and what follows (03_clocks): the RC oscillators,
REFCLK_IN, XTAL32, the PLLs, the thermal cap, gates that are forced to close; the backup tick.
-/

namespace Sys2Proof.Machine

/-- The device runs: it is powered and not held in reset. -/
def State.powered (s : State) : Bool := s.pw.mode != .hibernate && s.pw.vin && s.pw.hold.isNone

/-! ## RC oscillators (R80, R81) -/

/-- RC_OSC_FAIL_ONE: the voted clock continues. -/
def State.rcOne (s : State) : State :=
  if s.powered then (s.setFld F.CLK_FAIL_rc_one 1).setFld F.CLK_STAT_rc_count 0 else s

/-- RC_OSC_FAIL_TWO: the voted clock stops, CLAIM_OUT reads 0000, the outputs are safe, and the device is held in
reset. -/
def State.rcTwo (s : State) : State :=
  if s.pw.mode = .hibernate ∨ !s.pw.vin ∨ s.pn.rcDown then s
  else
    let s := (s.resetDown false).setFld F.CLK_STAT_rc_count 0
    let s : State := { s with
      pn := { s.pn with rcDown := true }
      pw := { s.pw with faultHeld := s.pw.faultHeld ++ [(0x5, 2)] } }
    s.hold (if s.pn.resetLow then .pin else .rc)

/-- RC_HOLD_END: the voted clock has run for 1 ms. -/
def State.rcBack (s : State) (x : Straps) : State :=
  if !s.pn.rcDown then s
  else
    -- whether the third oscillator runs too is open
    let s := ({ s with pn := { s.pn with rcDown := false } }).setFld F.CLK_STAT_rc_count (s.freeVal 1)
    let s := s.useFree
    if s.pw.hold = some .rc then
      ({ s with pw := { s.pw with hold := none, stage := .rom } }).startOrHold x F.PWR_RESET_CAUSE_tpl
    else s

/-- RC_TRIM_TICK: the measured error, in units of 0.01 %; beyond 0.05 % the code moves one step towards the target. -/
def State.rcTrim (s : State) (count : Nat) : State :=
  if !s.powered then s
  else if !s.flag F.CLK_STAT_xtal_ok then s.setFld F.CLK_RC_TRIM_frozen 1
  else
    let d : Int := (count : Int) - 96000000
    let e : Int := max (-128) (min 127 (d.tdiv 9600))
    let code := s.fld F.CLK_RC_TRIM_code
    let code' := if 48000 < d then code - 1 else if d < -48000 then min 255 (code + 1) else code
    ((s.setFld F.CLK_RC_TRIM_frozen 0).setFld F.CLK_RC_TRIM_error (codeN 8 e)).setFld F.CLK_RC_TRIM_code code'

/-! ## REFCLK_IN (R92 to R97) -/

/-- The `CLK_STAT` lock bits of the PLLs, by number (R79): A, B, DDR, PCIe, ETH0, ETH1, TWIN. -/
def pllLock : Nat → Fld
  | 0 => F.CLK_STAT_a_lock | 1 => F.CLK_STAT_b_lock | 2 => F.CLK_STAT_ddr_lock | 3 => F.CLK_STAT_pcie_lock
  | 4 => F.CLK_STAT_eth0_lock | 5 => F.CLK_STAT_eth1_lock | _ => F.CLK_STAT_twin_lock

/-- What Courier S and Couriers L and H were sending or receiving stops at once (R58, R93, R94). -/
def State.radioStop (s : State) : State :=
  let s := ((((s.closeWindow.txWithdraw).lhAbort false).lhAbort true).lhFlush false).lhFlush true
  let s := s.meshLate
  { s with rs := { s.rs.safe with ready := none, rx := [] }, lh := { s.lh.safe with coxaReq := false, coxaPri := false } }

/-- The PCIe link goes down. -/
def State.linkGone (s : State) : State :=
  let s := ((s.setFld F.HIF_STAT_link_up 0).setFld F.HIF_STAT_speed 0).setFld F.HIF_STAT_width 0
  { s with io := { s.io with hf := { s.io.hf with l2 := s.fld F.HIF_STAT_dstate == 3 } } }

/-- A REFCLK failure (R93, R94). -/
def State.refFail (s : State) (bit : Fld) : State :=
  let s := (s.setFld bit 1).setFld F.CLK_STAT_ref_ok 0
  if s.ck.refFailed then s
  else
    let s : State := { s with ck := { s.ck with refFailed := true, forced := true } }
    if !s.powered then s
    else
      let s := s.radioStop
      let s := s.each (List.range 7) fun s p => s.setFld (pllLock p) 0
      let s := ((((s.setFld F.SRX_STAT_lock 0).setFld (F.LRX_STAT_lock.on false) 0).setFld (F.LRX_STAT_lock.on true) 0).setFld
        F.CLK_STAT_timebase_src 1).setFld F.TPL_STAT_dawn_active 0
      let s := (((s.ethDown 0).ethDown 1).twinDown).hostLoss .pllPcie
      let s := s.linkGone
      let s : State := { s with pw := { s.pw with wdog := none } }
      s.claimFell.twinFault

/-- REFCLK_STOP_DETECT: no rising edge for 200 ns. -/
def State.refStop (s : State) : State :=
  if s.pw.mode = .hibernate then s else s.refFail F.CLK_FAIL_ref_stop

/-- A count outside the range of R92. -/
def refOut (c : Nat) : Bool := decide (c < 39054) || decide (39071 < c)

/-- REFCLK_FREQ_DETECT: two consecutive windows; the monitor runs only while XTAL32 is good. -/
def State.refFreq (s : State) (c1 c2 : Nat) : State :=
  if !s.powered || !s.flag F.CLK_STAT_xtal_ok then s
  else
    let s := s.setFld F.CLK_REF_COUNT_count c2
    if refOut c1 && refOut c2 then s.refFail F.CLK_FAIL_ref_freq else s

/-- REFCLK_ABSENT_100MS: FAULT_N is asserted until REFCLK_IN returns (R94). -/
def State.refAbsent (s : State) : State := if s.powered && s.ck.refFailed then s.supply 0 true else s

/-- REFCLK_RETURN: both detectors have been clear for 10 ms; what follows is by where the device stood (R95). -/
def State.refReturn (s : State) : State :=
  if !s.ck.refFailed then s
  else
    let s : State := { s with ck := { s.ck with refFailed := false, forced := false } }
    let s := (s.setFld F.CLK_STAT_ref_ok 1).setFld F.CLK_STAT_pcie_lock 1
    if !s.powered then s
    else
      let s := (s.setFld F.CLK_STAT_timebase_src 0).supply 0 false
      match s.pw.mode with
      | .rescue => s.pllsLock
      | .dusk => s.pllsLock
      | .hibernate => s
      | _ =>
        let s := s.faultEv 0x4 2 0
        let back (s : State) : State :=
          { s.startLoad with pw := { s.startLoad.pw with refBack := true, retry := false, loadFault := false } }
        let s : State := match s.pw.mode with
          | .dawn =>
            if s.pw.trans = some .pause then s.pllsLock.activationFails stTIMEOUT
            else
              let s := s.discard 0x1 keepNone
              match s.pw.stage with
              | .rom => { s with pw := { s.pw with startAt := s.now } }
              | .verified => { s with pw := { s.pw with stage := .rom, startAt := s.now } }
              | .onAir => s.pllsLock
              | _ =>
                let s := s.pllsLock
                if s.justReturned then s.holdDawn else back s
          | _ =>
            let again := s.justReturned
            let s := ((s.discard 0x1 keepNone).dataLost false false).toDawn.pllsLock
            let s := if again then s.holdDawn else back s
            s.opStart
        s.reclaim

/-! ## XTAL32 (R98, R118) -/

/-- XTAL32_STOP, with VIN present: the backup tick is made from REFCLK_IN; the switch adds 8 fraction counts. -/
def State.xtalStop (s : State) : State :=
  if !s.pw.vin || s.pw.mode == .hibernate || !s.flag F.CLK_STAT_xtal_ok then s
  else
    let s := (s.setFld F.CLK_FAIL_xtal_stop 1).setFld F.CLK_STAT_xtal_ok 0
    let s := (s.setFld F.CLK_STAT_tick_src 1).setFld F.CLK_RC_TRIM_frozen 1
    (s.goesOn (s.rtc + 8)).repeatEnds

/-- XTAL32_RESTART: it has run for 1 s. -/
def State.xtalBack (s : State) : State :=
  if s.flag F.CLK_STAT_xtal_ok then s
  else ((s.setFld F.CLK_STAT_xtal_ok 1).setFld F.CLK_STAT_tick_src 0).setFld F.CLK_RC_TRIM_frozen 0

/-- XTAL32_GAP_HIBERNATE: the amplitude detector latches the gap. -/
def State.xtalGap (s : State) : State :=
  if s.pw.mode = .hibernate then (s.setFld F.RTC_STAT_xtal_gap 1).setFld F.RTC_STAT_time_lost 1 else s

/-! ## PLLs (R99, R588, R598) -/

/-- PLL_PCIE loses lock: the host is lost. -/
def State.pcieUnlock (s : State) : State :=
  let s := ((s.setFld F.CLK_STAT_pcie_lock 0).faultEv 0x2 6 0).hostLoss .pllPcie
  s.linkGone

/-- PLL_UNLOCK. -/
def State.pllUnlock (s : State) (p : Nat) : State :=
  if !s.powered || !s.flag (pllLock p) then s
  else
    let s := s.setFld F.CLK_FAIL_pll_unlock (s.fld F.CLK_FAIL_pll_unlock ||| 2 ^ p)
    let s := s.setFld (pllLock p) 0
    match p with
    | 0 =>
      let s := s.radioStop
      (s.fatal 3).setFld F.TPL_STAT_dawn_active 0
    | 1 => s.fatal 4
    | 2 => s.fatal 5
    | 3 => s.pcieUnlock
    | 4 => (s.ethDown 0).faultEv 0x2 7 0
    | 5 => (s.ethDown 1).faultEv 0x2 8 0
    | _ => (s.twinDown.faultEv 0x2 9 0).twinFault

/-- PLL_RELOCK_ATTEMPT: after a lock each function resumes; a load that waits for PLL_A, PLL_B or PLL_DDR counts its
time from it. -/
def State.pllRelock (s : State) (p : Nat) (ok : Bool) : State :=
  if !s.powered || s.ck.refFailed || s.flag (pllLock p) || !ok then s
  else
    let s := s.setFld (pllLock p) 1
    let s : State := if p = 0 then { s with rs := { s.rs with ready := some s.now } } else s
    if p ≤ 2 ∧ s.pw.stage = .training ∧ s.pw.trans = some .toFull ∧ s.pw.wdog.isSome then
      { s with pw := { s.pw with wdog := some (s.now + msNs (max 2000 (s.fld F.UPD_CFG_wdog_ms))) } }
    else s

/-! ## The thermal cap (R88, R536) -/

/-- THERMAL_CAP_CHANGE: the junction temperature is read. -/
def State.thermal (s : State) (temp : Int) : State :=
  let s : State := { s with ck := { s.ck with temp := temp } }
  if !s.powered then s
  else
    let c := s.fld F.CLK_OP_STAT_cap
    let c' := capNext c temp
    if c = c' then s else ((s.setFld F.CLK_OP_STAT_cap c').opStart).derate

/-! ## Gates forced to close (R90, R91) -/

/-- A host access that a gated block did not take (R39). -/
def State.gatedAccess (s : State) (off : Nat) : State :=
  let s := s.count F.HIF_ACC_ERR_gated
  s.setWord 0x05001C (BitVec.ofNat 32 (2 * 2 ^ 24 + off / 2 ^ 16 % 256 * 2 ^ 16 + off % 2 ^ 16))

/-- GATE_CLOSE_TIMEOUT: a forced closure of a block's gate is not idle in time; what is still outstanding there ends
with an error response. -/
def State.gateTimeout (s : State) (block : Nat) (engine : Option (Fin 15)) (host : List Nat) : State :=
  if !s.powered then s
  else
    let s := ((s.setFld F.CLK_FAIL_gate_timeout 1).count F.CLK_GATE_ERR_count).setFld F.CLK_GATE_ERR_block block
    let s := s.each (host.filter fun o => (blockOf o).any fun b => b.num == block) State.gatedAccess
    match engine with
    | some e => s.fatal e.val
    | none => s.faultEv 0x2 block 0

/-! ## The backup domain's own ticks (R103, R117, R122) -/

/-- RTC_TRIM_WINDOW: the count over a window of 2^21 untrimmed ticks, used where both detectors stayed clear. -/
def State.trimWindow (s : State) (count : Nat) (clear : Bool) : State :=
  if !s.powered || !s.flag F.RTC_TRIM_auto || !clear || count == 0 then s
  else
    let d : Int := 2560000000 - (count : Int)
    -- |e| / 0.476837 ppm, rounded to the nearest
    let p := (2 * d.natAbs * 10 ^ 12 + count * 476837) / (2 * count * 476837)
    -- |e| > 487.8 ppm
    let sat : Bool := decide (4878 * count < d.natAbs * 10000000)
    let s := (s.setFld F.RTC_TRIM_pulses (if sat then 1023 else min 1023 p)).setFld F.RTC_TRIM_dir (decide (0 < d)).toNat
    s.setFld F.RTC_STAT_trim_sat sat.toNat

/-- VBAT_MEASURE: below 1.80 V the cell is low, below 1.00 V it is absent. -/
def State.vbat (s : State) (mv : Nat) : State :=
  if !s.powered then s
  else
    let s := s.setFld F.RTC_VBAT_mv (min mv (2 ^ F.RTC_VBAT_mv.width - 1))
    (s.setFld F.RTC_STAT_vbat_low (decide (mv < 1800)).toNat).setFld F.RTC_STAT_vbat_absent (decide (mv < 1000)).toNat

/-! ## RTC commands (R104, R109 to R113) -/

/-- A register write of the always-on blocks reaches the device. -/
def State.hostWrites (s : State) (f : State → State) : State := if s.barUp then f s else s

/-! ## Meanings -/

/-- RC_OSC_FAIL_ONE (R80). -/
def execRcOscFailOne (t : Nat) (s : State) : Host.Outcome State Fault Refusal := run t s State.rcOne

/-- RC_OSC_FAIL_TWO (R80). -/
def execRcOscFailTwo (t : Nat) (s : State) : Host.Outcome State Fault Refusal := run t s State.rcTwo

/-- RC_HOLD_END (R80). -/
def execRcHoldEnd (t : Nat) (straps : Straps) (s : State) : Host.Outcome State Fault Refusal :=
  run t s fun s => s.rcBack straps

/-- RC_TRIM_TICK (R81). -/
def execRcTrimTick (t : Nat) (count : Nat) (s : State) : Host.Outcome State Fault Refusal :=
  run t s fun s => s.rcTrim count

/-- REFCLK_STOP_DETECT (R92 to R94). -/
def execRefclkStopDetect (t : Nat) (s : State) : Host.Outcome State Fault Refusal := run t s State.refStop

/-- REFCLK_FREQ_DETECT (R92). -/
def execRefclkFreqDetect (t : Nat) (c1 c2 : Nat) (s : State) : Host.Outcome State Fault Refusal :=
  run t s fun s => s.refFreq c1 c2

/-- REFCLK_ABSENT_100MS (R94). -/
def execRefclkAbsent100ms (t : Nat) (s : State) : Host.Outcome State Fault Refusal := run t s State.refAbsent

/-- REFCLK_RETURN (R95). -/
def execRefclkReturn (t : Nat) (s : State) : Host.Outcome State Fault Refusal := run t s State.refReturn

/-- XTAL32_STOP (R98, R118). -/
def execXtal32Stop (t : Nat) (s : State) : Host.Outcome State Fault Refusal := run t s State.xtalStop

/-- XTAL32_RESTART (R98). -/
def execXtal32Restart (t : Nat) (s : State) : Host.Outcome State Fault Refusal := run t s State.xtalBack

/-- XTAL32_GAP_HIBERNATE (R118). -/
def execXtal32GapHibernate (t : Nat) (s : State) : Host.Outcome State Fault Refusal := run t s State.xtalGap

/-- PLL_UNLOCK (R99). -/
def execPllUnlock (t : Nat) (pll : Fin 7) (s : State) : Host.Outcome State Fault Refusal :=
  run t s fun s => s.pllUnlock pll.val

/-- PLL_RELOCK_ATTEMPT (R598). -/
def execPllRelockAttempt (t : Nat) (pll : Fin 7) (ok : Bool) (s : State) : Host.Outcome State Fault Refusal :=
  run t s fun s => s.pllRelock pll.val ok

/-- THERMAL_CAP_CHANGE (R88). -/
def execThermalCapChange (t : Nat) (temp : Int) (s : State) : Host.Outcome State Fault Refusal :=
  run t s fun s => s.thermal temp

/-- GATE_CLOSE_TIMEOUT (R90, R91). -/
def execGateCloseTimeout (t : Nat) (block : Fin 23) (engine : Option (Fin 15)) (host : List Nat) (s : State) :
    Host.Outcome State Fault Refusal :=
  run t s fun s => s.gateTimeout block.val engine host

/-- BACKUP_TICK (R103, R106, R108 to R116). -/
def execBackupTick (t : Nat) (s : State) : Host.Outcome State Fault Refusal := run t s State.backupTick

/-- RTC_TRIM_WINDOW (R117). -/
def execRtcTrimWindow (t : Nat) (count : Nat) (clear : Bool) (s : State) : Host.Outcome State Fault Refusal :=
  run t s fun s => s.trimWindow count clear

/-- VBAT_MEASURE (R122). -/
def execVbatMeasure (t : Nat) (mv : Nat) (s : State) : Host.Outcome State Fault Refusal :=
  run t s fun s => s.vbat mv

/-- RTC_SET: the write of `RTC_SEC_HI` that completes a set (R104). -/
def execRtcSet (t : Nat) (hi : Word) (s : State) : Host.Outcome State Fault Refusal :=
  run t s fun s => s.hostWrites fun s => s.rtcSet hi

/-- RTC_SHIFT: a write of `RTC_CMD` with its `shift` field (R110, R111). -/
def execRtcShift (t : Nat) (n : BitVec 16) (s : State) : Host.Outcome State Fault Refusal :=
  run t s fun s => s.hostWrites fun s => s.rtcCmd (n.setWidth 32)

/-- RTC_ADD_HOUR (R109, R111). -/
def execRtcAddHour (t : Nat) (s : State) : Host.Outcome State Fault Refusal :=
  run t s fun s => s.hostWrites fun s => s.rtcCmd 0x10000#32

/-- RTC_SUB_HOUR (R109, R111). -/
def execRtcSubHour (t : Nat) (s : State) : Host.Outcome State Fault Refusal :=
  run t s fun s => s.hostWrites fun s => s.rtcCmd 0x20000#32

/-- ALM1_CLEAR_MARK (R111, R113). -/
def execAlm1ClearMark (t : Nat) (s : State) : Host.Outcome State Fault Refusal :=
  run t s fun s => s.hostWrites fun s => s.rtcCmd 0x40000#32

end Sys2Proof.Machine
end

