-- ==== Sys2Proof/Machine/Triplicate.lean ====
section
/-!
DEFINITION. Sys2Proof/Machine/Triplicate.lean: the voter (05_triplicate): lane disagreements, resynchronisation,
retirement, the fatal reset; the Post-box's pops and its periodic item.
-/

namespace Sys2Proof.Machine

/-- Three lanes execute and are compared: not in Rescue (R594), nor without power. -/
def State.votes (s : State) : Bool := s.powered && s.pw.mode != .rescue && s.tp.pairFail.isNone

/-- The code of a disagreement's cause. -/
def laneCause : LaneWhat → Nat
  | .compare => 0 | .memory => 1 | .readBack => 2

/-- `TPL_DISAGREE` records a disagreement. -/
def State.noteLane (s : State) (lane : Nat) (what : LaneWhat) : State :=
  let s := (s.count F.TPL_DISAGREE_count).setFld F.TPL_DISAGREE_event 1
  (s.setFld F.TPL_DISAGREE_cause (laneCause what)).setFld F.TPL_DISAGREE_lane lane

/-- A lane leaves the voting set. -/
def State.isolate (s : State) (lane : Nat) : State :=
  let v := s.fld F.TPL_STAT_voting
  (s.setFld F.TPL_STAT_voting (if bitN v lane then v - 2 ^ lane else v)).setFld F.TPL_STAT_pair_mode 1

/-- A lane is retired (R134). -/
def State.retire (s : State) (lane : Nat) : State :=
  let s := (s.setFld F.TPL_STAT_retired (s.fld F.TPL_STAT_retired ||| 2 ^ lane)).setFld F.TPL_STAT_resync_busy 0
  let s := (s.pushItem 0x03).stateRefresh.setFld F.TEL_FAULT_voted 1
  (s.faultEv 0x5 lane 0).claimFell

/-- The pair disagrees (R133): nothing disputed leaves the voter, CLAIM_OUT reads 0000, the outputs are safe and
FAULT_N is asserted. -/
def State.pairFails (s : State) : State :=
  let s : State := { s with
    tp := { s.tp with pairFail := some s.now }
    ck := { s.ck with forced := true }
    pw := { s.pw with faultHeld := s.pw.faultHeld ++ [(0x5, 0xFF)] } }
  (s.radioStop.setFld F.TEL_FAULT_voted 1).claimFell

/-- A resynchronisation starts (R130). -/
def State.resyncStart (s : State) (lane : Nat) : State :=
  let s := (s.setFld F.TPL_STAT_resync_busy 1).setFld F.TPL_STAT_resync_lane lane
  { s with tp := { s.tp with resyncAt := s.now, copyRestarted := false } }

/-- The marks of a lane in the last 60 s. -/
def State.laneMarks (s : State) (lane : Nat) : Nat :=
  (s.tp.marks.filter fun m => m.1 == lane && decide (s.now ≤ m.2 + secNs 60)).length

/-- LANE_DISAGREEMENT: a lane's output differs, its SRAM has an error, or a word that the copier wrote reads back wrong
(R128, R129, R131, R134, R135). -/
def State.laneDiffers (s : State) (lane : Nat) (what : LaneWhat) : State :=
  if !s.votes then s
  else match what with
    | .readBack =>
      if !s.resyncing || s.fld F.TPL_STAT_resync_lane != lane then s
      else
        let s := s.noteLane lane what
        if s.tp.copyRestarted then s.retire lane
        else { s with tp := { s.tp with copyRestarted := true } }
    | _ =>
      if !bitN (s.fld F.TPL_STAT_voting) lane then s
      else
        let s := s.noteLane lane what
        if s.flag F.TPL_STAT_pair_mode then s.pairFails
        else
          let s : State := { s with tp := { s.tp with marks := (lane, s.now) :: s.tp.marks } }
          let s := ((s.isolate lane).pushItem 0x01).stateRefresh
          if 3 ≤ s.laneMarks lane then s.retire lane else s.resyncStart lane

/-- RESYNC_REJOIN: three-lane voting resumes; `last_us` is the time since the disagreement, rounded up. -/
def State.rejoin (s : State) : State :=
  if !s.votes || !s.resyncing then s
  else
    let lane := s.fld F.TPL_STAT_resync_lane
    let s := (s.setFld F.TPL_STAT_resync_busy 0).setFld F.TPL_STAT_pair_mode 0
    let s := s.setFld F.TPL_STAT_voting (s.fld F.TPL_STAT_voting ||| 2 ^ lane)
    ((s.count F.TPL_RESYNC_count).setFld F.TPL_RESYNC_last_us
      (min ((s.now - s.tp.resyncAt + 999) / 1000) 2047)).pushItem 0x02 |>.stateRefresh

/-- PAIR_DISAGREEMENT: in pair mode a difference is fatal. -/
def State.pairDiffers (s : State) : State := if s.votes && s.flag F.TPL_STAT_pair_mode then s.pairFails else s

/-- TPL_FATAL_RESET: 10 µs after it. -/
def State.tplReset (s : State) (x : Straps) : State :=
  match s.tp.pairFail with
  | some a =>
    if s.now < a + usNs 10 then s else (s.resetDown false).startOrHold x F.PWR_RESET_CAUSE_tpl
  | none => s

/-- PBOX_STATE_REFRESH: each second, while Triplicate runs its Dawn image (R146). -/
def State.refreshDue (s : State) : State :=
  if s.votes && s.fld F.TPL_STAT_code == 1 then s.stateRefresh else s

/-! ## Meanings -/

/-- LANE_DISAGREEMENT (R128 to R131, R134, R135). -/
def execLaneDisagreement (t : Nat) (lane : Fin 3) (what : LaneWhat) (s : State) : Host.Outcome State Fault Refusal :=
  run t s fun s => s.laneDiffers lane.val what

/-- RESYNC_REJOIN (R130). -/
def execResyncRejoin (t : Nat) (s : State) : Host.Outcome State Fault Refusal :=
  run t s State.rejoin

/-- PAIR_DISAGREEMENT (R133). -/
def execPairDisagreement (t : Nat) (s : State) : Host.Outcome State Fault Refusal := run t s State.pairDiffers

/-- TPL_FATAL_RESET (R133). -/
def execTplFatalReset (t : Nat) (straps : Straps) (s : State) : Host.Outcome State Fault Refusal :=
  run t s fun s => s.tplReset straps

/-- PBOX_POP: the Postmasters run in Full (R144). -/
def execPboxPop (t : Nat) (upset : PWord) (s : State) : Host.Outcome State Fault Refusal :=
  run t s fun s => if s.inFull then s.popWord upset else s

/-- PBOX_STATE_REFRESH (R146). -/
def execPboxStateRefresh (t : Nat) (s : State) : Host.Outcome State Fault Refusal := run t s State.refreshDue

end Sys2Proof.Machine
end

