-- ==== Sys2Proof/Machine/Faults.lean ====
section
/-!
DEFINITION. Sys2Proof/Machine/Faults.lean: the event log's reading, engine watchdogs, memory errors and background work
(20_faults_background).
-/

namespace Sys2Proof.Machine

/-! ## LOG_READ (R552, R553, R597) -/

/-- An entry of the log, 32 bytes. -/
def LogEntry.bytes (e : LogEntry) : Bytes :=
  toLE 4 e.seq ++ toLE 6 e.sec ++ toLE 1 e.kind ++ toLE 1 e.source ++ toLE 4 e.detail ++ toLE 1 e.mode ++ toLE 1 e.role ++
    toLE 1 e.gen ++ toLE 13 0

/-- The entries a read starts at `s`, oldest first: from that entry where it is held, from the oldest where it is older,
none where it is newer. -/
def logFrom (held : List LogEntry) (s : Nat) : List LogEntry :=
  match held with
  | [] => []
  | o :: _ =>
    if s = 0xFFFFFFFF then held
    else if held.any (fun e => e.seq == s) then held.dropWhile fun e => e.seq != s
    else if (o.seq + 2 ^ 32 - s) % 2 ^ 32 < 2 ^ 31 then held
    else []

/-- LOG_READ's own rules. -/
def State.logRead (s : State) (c : Cmd) : Reply :=
  let n := c.f 12 2
  if c.f 0 8 % 32 ≠ 0 ∨ n = 0 ∨ 2048 < n ∨ !c.zero 14 10 then Reply.err s stBAD_ARG
  else
    let held := s.nv.log.reverse
    let es := (logFrom held (c.f 8 4)).take n
    let head := toLE 4 es.length ++ toLE 4 ((held.head?.map (·.seq)).getD 0) ++
      toLE 4 ((s.nv.log.head?.map (·.seq)).getD 0) ++ toLE 4 0
    Reply.ok s [(c.f 0 8, head ++ (es.map LogEntry.bytes).flatten)]

/-! ## Telemetry (R556) -/

/-- TEL_READ's own rules. -/
def State.telRead (s : State) (c : Cmd) : Reply :=
  if c.f 0 8 % 32 ≠ 0 ∨ !c.zero 8 16 then Reply.err s stBAD_ARG
  else
    let x : Sample := s.fl.sample.getD { temps := [], rails := [], vin := 0, power := 0, sec := 0 }
    Reply.ok s [(c.f 0 8, Bytes.slice (Config.telBuffer x.temps x.rails x.vin x.power x.sec) 0 128)]

/-- The hottest of the sensors, the lowest number first: number and temperature. -/
def hottest (temps : List Int) : Nat × Int :=
  ((List.range temps.length).zip temps).foldl (fun b x => if b.2 < x.2 then x else b) (0, temps.headD 0)

/-- TELEMETRY_SAMPLE: every `tel_ms` ms, in Full. -/
def State.telSample (s : State) (x : Sample) : State :=
  let due := s.fl.sampleAt + msNs (clamp 10 60000 (s.fld F.TEL_CFG_tel_ms))
  if !s.inFull || (s.fl.sample.isSome && decide (s.now < due)) then s
  else
    let h := hottest (x.temps.take 8)
    let s : State := { s with fl := { s.fl with sample := some x, sampleAt := s.now } }
    ((s.setFld F.TEL_STAT_sample_valid 1).setFld F.TEL_TEMP_sensor h.1).setFld F.TEL_TEMP_max_c (codeN 8 h.2)

/-! ## Engine watchdogs (R550, R588) -/

/-- The reduced image of Courier S is reloaded within one slot; meanwhile Triplicate carries beacons only. -/
def State.reloadReduced (s : State) : State :=
  ({ s with tp := { s.tp with reload := true } }).faultEv 0x2 7 0

/-- ENGINE_WATCHDOG_EXPIRY, by the engine's bit in `TOP_ENGINE_STAT`. -/
def State.engineDead (s : State) (e : Nat) : State :=
  match s.pw.mode with
  | .full => if 3 ≤ e ∧ !s.ck.refFailed then s.fatal e else s
  | .dawn => if e = 7 ∧ s.flag F.TPL_STAT_dawn_active then s.reloadReduced else s
  | .doze => if e = 7 then s.reloadReduced else s
  | _ => s

/-! ## Memory errors (R549, R588, R594) -/

/-- The control and data domains are powered (R71). -/
def State.dataOn (s : State) : Bool :=
  s.pw.mode == .full ||
    (s.pw.mode == .dawn && (s.pw.stage == .engines || s.pw.stage == .done || s.pw.trans == some .pause))

/-- A packet is dropped for an error in one of its cells. -/
def State.cellError (s : State) (n place : Nat) : State :=
  let q := s.queue n
  match q.pkts[place]? with
  | some p =>
    if p.spilled then s
    else
      let s := s.setQueue n { q with pkts := q.pkts.eraseIdx place }
      let s := if (s.queue n).pkts.isEmpty then s.leaveRound n else s
      (s.updatePool).faultEv 0x2 18 0
  | none => s

/-- Lose one stored record. -/
def Nv.lose (v : Nv) : RecordAt → Nv
  | .lease => { v with lease := none }
  | .floor second => if second then { v with floor1 := none } else { v with floor0 := none }
  | .directory second => if second then { v with dir1 := none } else { v with dir0 := none }
  | .snapshot second => if second then { v with snap1 := none } else { v with snap0 := none }
  | .vault slot second =>
    let bad (r : Option KvRec) : Option KvRec := r.map fun k => { k with crc := false }
    match Tbl.get? v.vault slot.val with
    | some (a, b) => { v with vault := Tbl.put v.vault slot.val (if second then (a, bad b) else (bad a, b)) }
    | none => v

/-- The newest entry of the event log is not in MRAM: its number stays used (R552), and the failed write of a record
is a fault of class 0x6 (R549). -/
def State.logFailed (s : State) : State :=
  match s.nv.log with
  | [] => s
  | _ :: l => (({ s with nv := { s.nv with log := l } }).setFld F.TEL_STAT_log_err 1).mramFault 11 0

/-- UNCORRECTABLE_ERROR, by where it lies. -/
def State.memError (s : State) (w : ErrAt) (x : Straps) : State :=
  if !s.powered then
    match w with
    | .record r => { s with nv := s.nv.lose r }
    | _ => s
  else match w with
    | .cell n place => if s.inFull then s.cellError n place else s
    | .connection k =>
      match Tbl.get? s.ml.conns k.val with
      | some c => if c.state = 3 then s else (s.lapseConn k.val c).faultEv 0x2 13 k.val
      | none => s
    | .keyCopy slot =>
      if (Tbl.get? s.kv.work slot.val).isNone then s
      else
        let s : State := { s with kv := { s.kv with work := Tbl.del s.kv.work slot.val } }
        (s.faultEv 0x2 7 slot.val).loadSlot slot.val
    | .l2 => if s.dataOn then s.fatal 0xFF else s
    | .courier n =>
      if s.dataOn ∨ (n.val = 0 ∧ (s.pw.mode = .dawn ∨ s.pw.mode = .doze)) then s.fatal (7 + n.val) else s
    | .reducedImage =>
      if s.pw.mode = .dawn then s.reloadReduced
      else if s.pw.mode = .full ∨ s.pw.mode = .doze then s.fatal 7 else s
    | .sorter n => if s.dataOn then s.fatal (10 + n.val) else s
    | .wifi => if s.dataOn then s.fatal 16 else s
    | .queueDescriptors => if s.dataOn then s.fatal 19 else s
    | .dram a => if s.pw.dram ∨ s.pw.mode = .doze then s.fatal 0xFF (a % 2 ^ 32) else s
    | .lane0 =>
      if s.pw.mode = .rescue then
        ({ s with pw := { s.pw with faultHeld := s.pw.faultHeld ++ [(0x5, 0)] } }).restart x F.PWR_RESET_CAUSE_tpl
      else s
    | .backupRam => s.setFld F.RTC_STAT_bram_err 1
    | .logWrite => s.logFailed
    | .record r => { s with nv := s.nv.lose r }

/-! ## Scrubbing and wear (R34, R554, R555) -/

/-- Errors corrected in the SRAM of lanes 0 to 2 (R129). -/
def State.laneEcc (s : State) (ecc : Nat × Nat × Nat) : State :=
  ((s.count F.TPL_LANE_ECC_lane0 ecc.1).count F.TPL_LANE_ECC_lane1 ecc.2.1).count F.TPL_LANE_ECC_lane2 ecc.2.2

/-- SCRUB_PASS: a pass completes, or has not completed within twice its interval.  `ecc` is how many errors were
corrected in each lane's SRAM since the pass before. -/
def State.scrub (s : State) (dram late : Bool) (ecc : Nat × Nat × Nat) : State :=
  let on := if dram then s.inFull else s.pw.mode == .full || s.pw.mode == .doze || s.pw.mode == .dawn || s.pw.mode == .dusk
  let s' := if dram then s else s.laneEcc ecc
  if !s.powered || !on then s
  else if late then s'.setFld F.TEL_STAT_scrub_late 1
  else s'.count (if dram then F.TEL_SCRUB_CNT_dram_passes else F.TEL_SCRUB_CNT_sram_passes)

/-- MRAM_PAGE_MIGRATE: a page that exceeds the least-written spare by 2^24 writes moves to it, once the copy verifies. -/
def State.migrate (s : State) (page writes : Nat) (ok : Bool) : State :=
  let on := s.pw.mode == .full || s.pw.mode == .doze || s.pw.mode == .dawn
  if !s.powered || !on then s
  else
    let nv : Nv := { s.nv with pageWr := Tbl.put s.nv.pageWr page writes }
    let moves : Bool := ok && decide (2 ^ 24 < writes) && decide (0 < s.nv.spares)
    { s with nv := if moves then { nv with pageWr := Tbl.put nv.pageWr page 0, spares := nv.spares - 1 } else nv }

/-- `TEL_LOG` and `TEL_MRAM`. -/
def State.telView (s : State) (off : Nat) : Option Word :=
  if off = 0x0B0014 then some (BitVec.ofNat 32 s.nv.logSeq)
  else if off = 0x0B0010 then
    let top := (s.nv.pageWr.map (·.2)).foldl max 0
    some (BitVec.ofNat 32 (s.nv.spares * 2 ^ 24 + min (2 ^ 24 - 1) (top / 256)))
  else none

/-! ## Meanings -/

/-- LOG_READ (R553, R597). -/
def execLogRead (t : Nat) (c : Cmd) (s : State) : Host.Outcome State Fault Refusal :=
  ringCommand 0x0004 t c (fun s => s.logRead c) s

/-- TEL_READ (R556). -/
def execTelRead (t : Nat) (c : Cmd) (s : State) : Host.Outcome State Fault Refusal :=
  ringCommand 0x0A02 t c (fun s => s.telRead c) s

/-- ENGINE_WATCHDOG_EXPIRY (R550). -/
def execEngineWatchdogExpiry (t : Nat) (engine : Fin 15) (s : State) : Host.Outcome State Fault Refusal :=
  run t s fun s => s.engineDead engine.val

/-- UNCORRECTABLE_ERROR (R549, R588, R594). -/
def execUncorrectableError (t : Nat) (what : ErrAt) (straps : Straps) (s : State) : Host.Outcome State Fault Refusal :=
  run t s fun s => s.memError what straps

/-- SCRUB_PASS (R129, R554). -/
def execScrubPass (t : Nat) (dram late : Bool) (ecc : Nat × Nat × Nat) (s : State) : Host.Outcome State Fault Refusal :=
  run t s fun s => s.scrub dram late ecc

/-- MRAM_PAGE_MIGRATE (R555). -/
def execMramPageMigrate (t : Nat) (page writes : Nat) (ok : Bool) (s : State) : Host.Outcome State Fault Refusal :=
  run t s fun s => s.migrate page writes ok

/-- TELEMETRY_SAMPLE (R556). -/
def execTelemetrySample (t : Nat) (temps : List Int) (rails : List (Nat × Nat)) (vin power : Nat) (s : State) :
    Host.Outcome State Fault Refusal :=
  run t s fun s =>
    s.telSample { temps := temps, rails := rails, vin := vin, power := power, sec := s.rt.sec }

end Sys2Proof.Machine
end

