-- ==== Sys2Proof/Machine/Views.lean ====
section
/-!
DEFINITION. Sys2Proof/Machine/Views.lean: which BAR0 registers are reachable (R39, R71), what a read of each returns
(R6 to R9), and the registers whose value is computed from state held elsewhere.
-/

namespace Sys2Proof.Machine

/-! ## Reachable blocks (R39, R71) -/

/-- The engines are loaded by the staged start. -/
def State.loadsEngines (s : State) : Bool := s.pw.mode == .dawn && (s.pw.stage == .engines || s.pw.stage == .done)

/-- The power domain of Radio L or H is on: in Full by the personality, in Dawn for the engine load of the staged
start and in an activation pause (R71, R338). -/
def State.lhPowered (s : State) (h : Bool) : Bool :=
  let want : Bool := s.fld (if h then F.PWR_RADIO_PERS_h_en else F.PWR_RADIO_PERS_l_mode) != 0
  let served : Bool := s.fld (radioEff h) != 0 || (s.radio h).switching
  match s.pw.mode with
  | .full => served
  | .dawn => if s.pw.trans == some .pause then served || want else s.loadsEngines && want
  | _ => false

/-- The register blocks of the mesh domain are reachable: not in Doze, Dusk or Rescue (R39). -/
def State.meshReached (s : State) : Bool := s.pw.mode == .dawn || s.pw.mode == .full

/-- BAR0 accesses of an offset reach its block (R39, R71). -/
def State.blockOn (s : State) (off : Nat) : Bool :=
  match blockOf off with
  | none => true
  | some b =>
    if b.num = 12 ∨ b.num = 13 then s.meshReached
    else if b.num = 14 then s.lhPowered false
    else if b.num = 15 then s.lhPowered true
    else if b.num = 19 ∧ 0x381000 ≤ off ∧ off ≤ 0x38107F then s.meshReached
    else if 16 ≤ b.num ∧ b.num ≤ 20 then s.dataOn
    else true

/-! ## Views -/

/-- The engines that execute, in the layout of `TOP_ENGINE_STAT` (R20, R22, R45). -/
def State.engineStat (s : State) : Nat :=
  let lanes := s.fld F.TPL_STAT_voting
  let franking := 2 ^ 14
  let courierS := 2 ^ 7
  let up : Bool := s.pw.stage != .off && s.pw.stage != .held && s.pw.stage != .rom
  match s.pw.mode with
  | .hibernate => 0
  | .rescue => 1 + franking
  | .full => 0x7FF8 + lanes
  | .doze => lanes + if s.pw.slotPowered then franking + courierS else 0
  | .dusk => lanes
  | .dawn =>
    if !up then 0
    else if s.pw.stage == .done then 0x7FF8 + lanes
    else lanes + franking + courierS + if s.loadsEngines || s.pw.trans == some .pause then 8 else 0

/-- `TOP_MODE` (R41, R599). -/
def State.topMode (s : State) : Word :=
  BitVec.ofNat 32 (s.pw.changes * 256 + s.pw.prevMode * 16 + 8 * s.moving.toNat + s.pw.mode.code)

/-- The frequency of a clock that CLKOBS can show, in Hz (R79, R82); 0: the strobe or off.  The LPDDR5X CK runs at a
quarter of WCK (PRESUMED: notes/assumptions). -/
def obsFreq (sel op : Nat) : Nat :=
  let pick (l : List Nat) : Nat := l.getD op 0 * 1000000
  match sel with
  | 1 => 40000000
  | 2 => 32768
  | 3 => 96000000
  | 4 => pick [400, 600, 800, 800]
  | 5 => pick [400, 800, 1200, 1600]
  | 6 => pick [300, 600, 900, 1200]
  | 7 => pick [200, 400, 600, 800]
  | 8 => 1066666667
  | _ => 0

/-- The smallest exponent from `d` on that divides a frequency to 100 MHz or less (R102). -/
def obsDiv (f d : Nat) : Nat :=
  ((List.range 16).find? fun k => decide (d ≤ k) && decide (f ≤ 100000000 * 2 ^ k)).getD 15

/-- `CLK_` registers. -/
def State.clkView (s : State) (off : Nat) : Option Word :=
  if off = 0x020010 then
    let depth := s.eFld F.CLK_SSC_CFG_depth
    let on : Bool := s.inFull && s.eFlag F.CLK_SSC_CFG_enable && decide (1 ≤ depth) && decide (depth ≤ 5)
    some (setBits (s.word off) 4 4 on.toNat)
  else if off = 0x020014 then
    some (setBits (s.word off) 15 12
      (obsDiv (obsFreq (s.fld F.CLK_OBS_CFG_sel) (s.fld F.CLK_OP_STAT_op)) (s.fld F.CLK_OBS_CFG_div)))
  else if off = 0x020018 then
    -- gates of powered blocks close when idle and reopen at an access: which are open is not observable (free)
    let on := blocks.filter fun b => b.num != 0 && s.blockOn b.lo && bitN (s.freeVal 32) b.num
    some (BitVec.ofNat 32 (1 + (on.map fun b => 2 ^ b.num).sum))
  else none

/-- `PWR_SNAP_STAT`, `TPL_PBOX_STAT`, `FLT_` and `TWN_` registers. -/
def State.miscView (s : State) (off : Nat) : Option Word :=
  let w (n : Nat) : Option Word := some (BitVec.ofNat 32 n)
  if off = 0x01001C then
    match s.newestSnap with
    | some b => some (setBits (setBits (s.word off) 31 4 b.seq) 1 1 (s.nv.snap1 == some b).toNat)
    | none => some (s.word off)
  else if off = 0x040024 then w ((s.tp.pbox.map (·.length)).sum * 2 ^ 11 + s.tp.pbox.length)
  else if off = 0x0A0004 then w (if s.flag F.FLT_STAT_open then ceilSec (s.fl.until_ns - s.now) else 0)
  else if off = 0x0A0008 then w ((Tbl.keys s.fl.rules).map (2 ^ ·)).sum
  else if off = 0x060000 then some s.twnStat
  else if off = 0x060008 then some (setBits (s.word off) 31 16 s.holdoffLeft)
  else if off = 0x06000C then w (((s.ms.rec_.map (·.peerEnd)).getD 0) % 2 ^ 32)
  else if off = 0x060010 then w (((s.ms.rec_.map (·.peerEnd)).getD 0) / 2 ^ 32)
  else if off = 0x060024 then
    let age := match s.tw.alignedAt with
      | some t => min 65535 ((s.now - t) / 1000000)
      | none => 65535
    some (setBits (s.word off) 31 16 age)
  else none

/-- A submission ring's fetching is held by admission or by its completion ring (R424, R466).  Whether a congested pool
holds it depends on the class of the descriptor that comes next, in host memory (free). -/
def State.sqHeld (s : State) (n : Nat) : Bool :=
  let pool := s.fld F.SRT_STAT_pool_state
  let waits : Bool := s.fld (F.HIF_SQ_CFG_kind n) == 1 && decide (0 < s.io.outstanding n)
  s.io.sqActive n && s.fld (F.HIF_SQ_CFG_en n) != 0 &&
    (s.io.cqHolds n || (waits && (pool == 2 || (pool == 1 && bitN (s.freeVal 1) 0))))

/-- A completion ring has entries held for it (R466, R477). -/
def State.cqHeldFor (s : State) (n : Nat) : Bool :=
  s.io.hf.cqHeld.any (fun p => p.1 == n) || (s.io.eventRing == some n && s.io.cqFull n && !s.io.hf.evHeld.isEmpty)

/-- `HIF_` registers. -/
def State.hifView (s : State) (off : Nat) : Option Word :=
  if off = 0x050020 then some (setBits (s.word off) 15 0 s.io.hf.evHeld.length)
  else if 0x051000 ≤ off ∧ off < 0x051800 ∧ off % 32 = 16 then
    some (setBits (s.word off) 3 3 (s.sqHeld ((off - 0x051000) / 32)).toNat)
  else if 0x052000 ≤ off ∧ off < 0x052800 ∧ off % 32 = 20 then
    some (setBits (s.word off) 3 3 (s.cqHeldFor ((off - 0x052000) / 32)).toNat)
  else none

/-- Registers of the radios, the mesh link, the Wi-Fi access, the Sorters and the queues. -/
def State.dataView (s : State) (off : Nat) : Option Word :=
  let w (n : Nat) : Option Word := some (BitVec.ofNat 32 n)
  if off = 0x100048 then some (setBits (s.word off) 0 0 s.storedValid.toNat)
  else if off = 0x140008 then w (s.ml.slot % 2 ^ 32)
  else if off = 0x14000C then w (s.ml.slot / 2 ^ 32)
  else if off = 0x200000 then w (2 * (s.wifiOn true).toNat + (s.wifiOn false).toNat)
  else if off = 0x20002C then
    let links (c : Client) : Nat := c.l.isSome.toNat + c.h.isSome.toNat
    w ((s.wl.clients.map fun p => links p.2).sum * 2 ^ 16 + s.wl.clients.length)
  else if off = 0x340004 then
    some (setBits (setBits (s.word off) 9 6 (if s.sortersRun then 15 else 0)) 0 0 s.sortersRun.toNat)
  else if off = 0x340034 then w (min 65535 s.headAll * 2 ^ 16 + min 65535 s.sharedUsed)
  else if off = 0x340038 then some (setBits (s.word off) 23 0 s.spilledCells)
  else if off = 0x380004 then some (setBits (s.word off) 0 0 (s.inFull && s.flag F.QMS_CTRL_run).toNat)
  else if 0x381000 ≤ off ∧ off < 0x381080 ∧ off % 16 = 8 then some (s.airView ((off - 0x381000) / 16))
  -- a Shadow has released COXA_EXT_GNT and COXB_EXT_GNT: their levels are the other unit's
  else if (off = F.COX_A_STAT_ext_gnt.off ∨ off = F.COX_B_STAT_ext_gnt.off) ∧ s.isShadow then
    some (setBits (s.word off) 2 2 (s.freeVal 1))
  else none

/-- The levels at the GPIO balls: driven by an alternate function (R566), by `GPI_OUT`, or from outside. -/
def State.gpioLevels (s : State) : Nat :=
  let func := (s.word 0x480000).toNat
  let dir := (s.word 0x480004).toNat
  let level (n : Nat) : Bool :=
    if n = 8 && bitN func 8 then decide (s.rt.frac * 10 < 32768)
    else if n = 9 && bitN func 9 then s.ml.isD s.ml.slot
    else if 28 ≤ n && bitN func n then
      if n % 2 = 0 then s.flag (F.ETH_STAT_link ((n - 28) / 2)) else bitN (s.freeVal 32) n
    else if bitN dir n then bitN (s.word 0x480008).toNat n
    else bitN s.pn.gpioExt n
  (((List.range 32).filter level).map (2 ^ ·)).sum

/-- The registers of every chapter whose value is computed; none: the stored word. -/
def State.view (s : State) (off : Nat) : Option Word :=
  if off = 0x000010 then some s.topMode
  else if off = 0x000018 then some (BitVec.ofNat 32 s.engineStat)
  else if 0x000020 ≤ off ∧ off ≤ 0x00002C then some (BitVec.ofNat 32 (Bytes.le s.nv.unitId (off - 0x000020) 4))
  else if off = 0x480014 then some (BitVec.ofNat 32 s.gpioLevels)
  else match (blockOf off).map (·.num) with
    | some 2 => s.clkView off
    | some 3 => s.rtcView off
    | some 5 => s.hifView off
    | some 7 => s.kvView off
    | some 8 => s.updView off
    | some 9 => s.dskView off
    | some 11 => s.telView off
    | some 13 => (s.secView off).or (s.dataView off)
    | some 17 => s.pctView off
    | _ => (s.miscView off).or (s.dataView off)

/-- The current value of a register: RO fields by their state, RW fields as last written, WO bits 0 (R9).  0 where no
register is defined (R6). -/
def State.readReg (s : State) (off : Nat) : Word :=
  match famOf off with
  | some f => (s.view off).getD (s.word off) &&& ~~~(BitVec.ofNat 32 f.wo)
  | none => 0#32

/-! ## Register pairs (R8) -/

/-- The `_LO` offsets of the pairs to which R8 applies; the `_HI` register follows each.  `MSH_ADDR_`, `MSH_CONT_`,
`GPI_PULL_`, `QMS_WEIGHT_` and the MSI-X table hold separate words, not a wide quantity. -/
def isPairLo (off : Nat) : Bool :=
  [0x030004, 0x030020, 0x06000C, 0x060014, 0x06001C, 0x070004, 0x07000C, 0x070014, 0x140008, 0x140120,
    0x140128, 0x140130, 0x140138, 0x140210, 0x140218, 0x140220, 0x340008].contains off ||
  (decide (0x051000 ≤ off) && decide (off < 0x051800) && off % 32 == 0) ||
  (decide (0x052000 ≤ off) && decide (off < 0x052800) && off % 32 == 0)

/-- What a 32-bit BAR0 read returns: 0 from a gated block (R39); a `_HI` register shows its latch once loaded (R8). -/
def State.busRead (s : State) (off : Nat) : Word :=
  if !s.blockOn off then 0#32
  else if off ≥ 4 && isPairLo (off - 4) then (Tbl.get? s.io.latch off).getD (s.readReg off)
  else s.readReg off

end Sys2Proof.Machine
end

