-- ==== Sys2Proof/Machine/Host.lean ====
section
/-!
DEFINITION. Sys2Proof/Machine/Host.lean: the host interface (16_host_rings): NOP and DEV_STATUS, doorbells, rings
enabled and disabled, ring errors, MSI-X coalescing, the software discard, the host watchdog, host losses, PERST_N
and the PCIe link.
-/

namespace Sys2Proof.Machine

/-! ## NOP and DEV_STATUS (R485) -/

/-- NOP; a descriptor with an opcode that is not listed fails step 3 of R472. -/
def State.nop (s : State) (opcode : Nat) : Reply :=
  if opcode = 0x0001 then Reply.ok s else Reply.err s stUNSUPPORTED

/-- The 64 bytes of DEV_STATUS. -/
def State.devStatusBytes (s : State) : Bytes :=
  let reg (off : Nat) : Bytes := toLE 4 (s.readReg off).toNat
  reg 0x000010 ++ reg 0x000018 ++ reg 0x010004 ++ reg 0x040000 ++ toLE 1 (s.fld F.HIF_GEN_gen) ++
    toLE 1 s.tw.role.code ++ toLE 1 (s.tw.claim + 16 * s.tw.claimIn) ++ toLE 1 0 ++ reg 0x010024 ++
    reg 0x030004 ++ reg 0x030008 ++ toLE 32 0

/-- DEV_STATUS. -/
def State.devStatus (s : State) (c : Cmd) : Reply :=
  if c.f 0 8 % 32 ≠ 0 ∨ !c.zero 8 16 then Reply.err s stBAD_ARG else Reply.ok s [(c.f 0 8, s.devStatusBytes)]

/-! ## Doorbells (R469, R470, R487) -/

/-- A doorbell that is discarded. -/
def State.badDb (s : State) : State := s.count F.HIF_DB_ERR_bad_db

/-- SUBMISSION_DOORBELL. -/
def State.sqDoorbell (s : State) (n : Nat) (narrow : Bool) (v : Word) : State :=
  if !s.barUp then s
  else if narrow || bitsN v.toNat 31 24 != 0 || s.fld (F.HIF_SQ_CFG_en n) == 0 ||
      decide (s.io.sqSize n ≤ bitsN v.toNat 15 0) then s.badDb
  else if bitsN v.toNat 23 16 ≠ s.fld F.HIF_GEN_gen then s.count F.HIF_DB_ERR_stale_db
  else
    let s := s.setFld (F.HIF_SQ_STAT_tail n) (bitsN v.toNat 15 0)
    if s.pw.mode == .doze && s.fld (F.HIF_SQ_CFG_kind n) != 0 then s.dozeStop else s

/-- Entries held for a completion ring are written as far as it has room (R466). -/
def State.cqRoom (s : State) (n : Nat) : State :=
  ({ s with io := s.io.flushHeld s.now n s.io.hf.cqHeld }).drainEvents

/-- COMPLETION_DOORBELL. -/
def State.cqDoorbell (s : State) (n : Nat) (narrow : Bool) (v : Word) : State :=
  if !s.barUp then s
  else if narrow || bitsN v.toNat 31 24 != 0 || s.fld (F.HIF_CQ_CFG_en n) == 0 ||
      decide (s.io.cqSize n ≤ bitsN v.toNat 15 0) then s.badDb
  else (s.setFld (F.HIF_CQ_STAT_head n) (bitsN v.toNat 15 0)).cqRoom n

/-! ## Ring set-up (R483, R592) -/

/-- Write one RW-Q field of a ring: a value out of range, or one written while the ring runs, leaves the field as it is
and sets the ring's `cfg_err`; the current value sets nothing. -/
def State.ringFld (s : State) (f err : Fld) (active valid : Bool) (w : Word) : State :=
  if f.of w = s.fld f then s
  else if active || !valid then s.setFld err 1
  else s.setFld f (f.of w)

/-- The host has returned: what it sets up is served from now on, and its watchdog starts anew (R482). -/
def State.hostBack (s : State) : State :=
  if s.io.hf.lost.isSome then { s with io := { s.io with hf := { s.io.hf with lost := none, wdogAt := s.now } } } else s

/-- A submission ring is enabled: head and tail 0. -/
def State.sqStart (s : State) (n : Nat) : State :=
  let s := ((s.setFld (F.HIF_SQ_CFG_en n) 1).setWord (F.HIF_SQ_STAT_head n).off 0#32).hostBack
  ((s.setFld (F.HIF_SQ_ERR_err n) 0).setFld (F.HIF_SQ_ERR_active n) 1).drainEvents

/-- A submission ring is disabled: unfetched descriptors and unfilled buffers are the host's again. -/
def State.sqStop (s : State) (n : Nat) : State :=
  let s := s.setFld (F.HIF_SQ_CFG_en n) 0
  let s := { s with io := { s.io with hf := { s.io.hf with rxBufs := s.io.hf.rxBufs.filter fun b => b.sq != n } } }
  { s with io := s.io.settle n }

/-- A write of `HIF_SQ_CFG_n`. -/
def State.sqCfgWrite (s : State) (n : Nat) (w : Word) : State :=
  let on := s.io.sqActive n
  let err := F.HIF_SQ_ERR_cfg_err n
  let size := bitsN w.toNat 4 0
  let s := s.ringFld (F.HIF_SQ_CFG_size_log2 n) err on (decide (6 ≤ size) && decide (size ≤ 16)) w
  let s := s.ringFld (F.HIF_SQ_CFG_buf_256 n) err on (bitsN w.toNat 13 8 != 0) w
  let s := s.ringFld (F.HIF_SQ_CFG_kind n) err on (bitsN w.toNat 17 16 != 3) w
  let s := s.ringFld (F.HIF_SQ_CFG_cq n) err on true w
  if bitN w.toNat 31 then (if s.flag (F.HIF_SQ_CFG_en n) then s else s.sqStart n)
  else if s.flag (F.HIF_SQ_CFG_en n) then s.sqStop n
  else s

/-- A completion ring is enabled: head and tail 0, phase 1; what is held for it is written. -/
def State.cqStart (s : State) (n : Nat) : State :=
  let s := ((s.setFld (F.HIF_CQ_CFG_en n) 1).setWord (F.HIF_CQ_STAT_head n).off 0#32).hostBack
  (((s.setFld (F.HIF_CQ_ERR_err n) 0).setFld (F.HIF_CQ_ERR_phase n) 1).setFld (F.HIF_CQ_ERR_active n) 1).cqRoom n

/-- A completion ring is disabled. -/
def State.cqStop (s : State) (n : Nat) : State :=
  let s := (s.setFld (F.HIF_CQ_CFG_en n) 0).setFld (F.HIF_CQ_ERR_active n) 0
  { s with io := { s.io with hf := { s.io.hf with coal := Tbl.del s.io.hf.coal n } } }

/-- An enabled submission ring names the completion ring. -/
def State.cqNamed (s : State) (n : Nat) : Bool :=
  (List.range 64).any fun k => s.flag (F.HIF_SQ_CFG_en k) && s.fld (F.HIF_SQ_CFG_cq k) == n

/-- A write of `HIF_CQ_CFG_n`; only one ring may be the event ring (R463). -/
def State.cqCfgWrite (s : State) (n : Nat) (w : Word) : State :=
  let on := s.io.cqActive n
  let err := F.HIF_CQ_ERR_cfg_err n
  let size := bitsN w.toNat 4 0
  let other : Bool := (List.range 64).any fun k => k != n && s.flag (F.HIF_CQ_CFG_event k)
  let s := s.ringFld (F.HIF_CQ_CFG_size_log2 n) err on (decide (6 ≤ size) && decide (size ≤ 16)) w
  let s := s.ringFld (F.HIF_CQ_CFG_event n) err on (!(bitN w.toNat 30 && other)) w
  let s := s.setFld (F.HIF_CQ_CFG_vector n) (bitsN w.toNat 21 16)
  let s := if on then s else s.latchFld (F.HIF_CQ_CFG_vector n)
  if bitN w.toNat 31 then (if s.flag (F.HIF_CQ_CFG_en n) then s else s.cqStart n)
  else if !s.flag (F.HIF_CQ_CFG_en n) then s
  else if s.cqNamed n then s.setFld err 1
  else s.cqStop n

/-! ## Ring errors, coalescing (R473, R484) -/

/-- DESCRIPTOR_FETCH_FAILURE; a write of an entry fails only where it cannot be transmitted, code 3. -/
def State.ringFails (s : State) (what : RingFail) (n : Nat) (err : DmaErr) : State :=
  match what with
  | .fetch => if s.fetchable n then s.ringStops false n err.code else s
  | .completion =>
    if s.io.cqActive n && s.fld (F.HIF_CQ_CFG_event n) == 0 && s.io.hostOk then s.ringStops true n 3 else s
  | .event =>
    match s.io.eventRing with
    | some k => if s.io.hostOk then s.ringStops true k 3 else s
    | none => s

/-- MSIX_COALESCE_TIMER: `coal_us` µs have passed since the first entry after the ring's last message. -/
def State.coalTimer (s : State) (n : Nat) : State :=
  match Tbl.get? s.io.hf.coal n with
  | some c =>
    if s.io.hostOk && decide (c.first + usNs (s.eFld (F.HIF_CQ_COAL_coal_us n)) ≤ s.now) then
      { s with io := s.io.ringMessage n }
    else s
  | none => s

/-! ## The software discard and the host watchdog (R479 to R481) -/

/-- A write of `HIF_CTRL`. -/
def State.hifCtrl (s : State) (w : Word) : State :=
  if bitsN w.toNat 31 16 = 0x5A5A ∧ bitN w.toNat 0 then s.discard 0x6 keepNone else s

/-- A write of `HIF_HOST_WDOG`: a kick restarts the watchdog, and it starts when it is turned on. -/
def State.wdogWrite (s : State) (w : Word) : State :=
  let starts : Bool := bitN w.toNat 31 || !s.flag F.HIF_HOST_WDOG_timeout_ms
  let s := s.setFld F.HIF_HOST_WDOG_timeout_ms (bitsN w.toNat 15 0)
  if starts then { s with io := { s.io with hf := { s.io.hf with wdogAt := s.now } } } else s

/-- The host watchdog's timeout in ns: 1 to 9 ms act as 10. -/
def State.wdogNs (s : State) : Nat := msNs (max 10 (s.fld F.HIF_HOST_WDOG_timeout_ms))

/-- HOST_WDOG_EXPIRY. -/
def State.hostWdog (s : State) : State :=
  if s.powered && s.flag F.HIF_HOST_WDOG_timeout_ms && s.io.hf.lost.isNone &&
      decide (s.io.hf.wdogAt + s.wdogNs ≤ s.now) then s.hostLoss .watchdog
  else s

/-! ## Host losses and the link (R61, R462, R481, R482) -/

/-- The function enters D3hot. -/
def State.enterD3 (s : State) : State :=
  if s.fld F.HIF_STAT_dstate = 3 then s else (s.hostLoss .d3hot).setFld F.HIF_STAT_dstate 3

/-- Bus Master Enable is cleared. -/
def State.masterOff (s : State) : State :=
  let s := if s.io.hf.busMaster && s.io.anyRing then s.hostLoss .busMaster else s
  { s with io := { s.io with hf := { s.io.hf with busMaster := false } } }

/-- Configuration space answers the host. -/
def State.cfgUp (s : State) : Bool :=
  s.powered && s.io.hf.cfgReady && s.flag F.HIF_STAT_link_up && !s.io.hf.perst

/-- HOST_LOSS. -/
def State.hostGone (s : State) (cause : LossKind) : State :=
  match cause with
  | .linkDown => if s.powered && s.flag F.HIF_STAT_link_up then (s.hostLoss .linkDown).linkGone else s
  | .pllPcie => s.pllUnlock 3
  | .d3hot => if s.cfgUp then s.enterD3 else s
  | .busMaster => if s.cfgUp then s.masterOff else s

/-- The offset lies in the `HIF_` block, whose registers PERST_N resets, all but `HIF_GEN` (R73, R482). -/
def perstResets (off : Nat) : Bool := decide (0x050000 ≤ off) && decide (off ≤ 0x05FFFF) && off != 0x050004

/-- What PERST_N resets: the ring registers and configuration space; the held events, the event `seq` and `HIF_GEN`
stay (R477, R482). -/
def Io.perstReset (io : Io) : Io :=
  let drop : Tbl Word → Tbl Word := fun t => t.filter fun p => !perstResets p.1
  let hf := { io.hf with
    perst := true, cfgReady := false, memSpace := false, busMaster := false, relaxed := false, l2 := false,
    cqHeld := [], coal := [], deferred := [], rxBufs := [], txDone := [] }
  ({ io with regs := drop io.regs, eff := drop io.eff, latch := drop io.latch, heldLo := drop io.heldLo,
             hf := hf }).setFld F.HIF_LOSS_cause 1

/-- PERST_N_ASSERT. -/
def State.perstLow (s : State) : State :=
  if s.io.hf.perst then s
  else if s.powered then
    let s := s.hostLoss .perst
    { s with io := s.io.perstReset }
  else { s with io := { s.io with hf := { s.io.hf with perst := true } } }

/-- The Data Link Layer is up, and configuration space is ready. -/
def State.linkUp (s : State) (speed width : Nat) : State :=
  if s.powered && s.flag F.CLK_STAT_pcie_lock && !s.io.hf.perst then
    let s := ((s.setFld F.HIF_STAT_link_up 1).setFld F.HIF_STAT_speed speed).setFld F.HIF_STAT_width width
    ({ s with io := { s.io with hf := { s.io.hf with cfgReady := true, l2 := false } } }).drainEvents
  else s

/-- PERST_N_RELEASE: WAKE_N is released (R462). -/
def State.perstHigh (s : State) (speed width : Nat) : State :=
  if s.io.hf.perst then
    ({ s with io := { s.io with hf := { s.io.hf with perst := false, wakeN := false } } }).linkUp speed width
  else s

/-- PCIE_CONFIG_WRITE: the values that the host leaves in the Command, Device Control and PMCSR registers; D0 and D3hot
are the power states (R461).  Clearing PME_Status releases WAKE_N. -/
def State.configWrite (s : State) (memSpace busMaster : Bool) (dstate : Nat) (relaxed clearPme : Bool) : State :=
  if !s.cfgUp then s
  else
    let s := if dstate = 3 then s.enterD3 else if dstate = 0 then s.setFld F.HIF_STAT_dstate 0 else s
    let s := if busMaster then { s with io := { s.io with hf := { s.io.hf with busMaster := true } } } else s.masterOff
    let hf := { s.io.hf with memSpace := memSpace, relaxed := relaxed }
    let hf := if clearPme then { hf with pme := false, wakeN := false } else hf
    ({ s with io := { s.io with hf := hf } }).drainEvents

/-! ## Meanings -/

/-- NOP (R485); the row of every opcode that is not listed too (R472). -/
def execNop (t : Nat) (c : Cmd) (opcode : Nat) (s : State) : Host.Outcome State Fault Refusal :=
  ringCommand opcode t c (fun s => s.nop opcode) s

/-- DEV_STATUS (R485). -/
def execDevStatus (t : Nat) (c : Cmd) (s : State) : Host.Outcome State Fault Refusal :=
  ringCommand 0x0002 t c (fun s => s.devStatus c) s

/-- SUBMISSION_DOORBELL (R470). -/
def execSubmissionDoorbell (t : Nat) (n : Fin 64) (narrow : Bool) (val : Word) (s : State) :
    Host.Outcome State Fault Refusal := run t s fun s => s.sqDoorbell n narrow val

/-- COMPLETION_DOORBELL (R470). -/
def execCompletionDoorbell (t : Nat) (n : Fin 64) (narrow : Bool) (val : Word) (s : State) :
    Host.Outcome State Fault Refusal := run t s fun s => s.cqDoorbell n narrow val

/-- DESCRIPTOR_FETCH_FAILURE (R473). -/
def execDescriptorFetchFailure (t : Nat) (what : RingFail) (n : Fin 64) (err : DmaErr) (s : State) :
    Host.Outcome State Fault Refusal := run t s fun s => s.ringFails what n err

/-- MSIX_COALESCE_TIMER (R484). -/
def execMsixCoalesceTimer (t : Nat) (n : Fin 64) (s : State) : Host.Outcome State Fault Refusal :=
  run t s fun s => s.coalTimer n

/-- SQ_ENABLE: a write of `HIF_SQ_CFG_n` (R483). -/
def execSqEnable (t : Nat) (n : Fin 64) (val : Word) (s : State) : Host.Outcome State Fault Refusal :=
  run t s fun s => s.hostWrites fun s => s.sqCfgWrite n val

/-- SQ_DISABLE: a write of `HIF_SQ_CFG_n` (R483). -/
def execSqDisable (t : Nat) (n : Fin 64) (val : Word) (s : State) : Host.Outcome State Fault Refusal :=
  run t s fun s => s.hostWrites fun s => s.sqCfgWrite n val

/-- CQ_ENABLE: a write of `HIF_CQ_CFG_n` (R483). -/
def execCqEnable (t : Nat) (n : Fin 64) (val : Word) (s : State) : Host.Outcome State Fault Refusal :=
  run t s fun s => s.hostWrites fun s => s.cqCfgWrite n val

/-- CQ_DISABLE: a write of `HIF_CQ_CFG_n` (R483). -/
def execCqDisable (t : Nat) (n : Fin 64) (val : Word) (s : State) : Host.Outcome State Fault Refusal :=
  run t s fun s => s.hostWrites fun s => s.cqCfgWrite n val

/-- HIF_BUMP: a write of `HIF_CTRL` (R479, R480). -/
def execHifBump (t : Nat) (val : Word) (s : State) : Host.Outcome State Fault Refusal :=
  run t s fun s => s.hostWrites fun s => s.hifCtrl val

/-- HOST_WDOG_KICK: a write of `HIF_HOST_WDOG` (R481). -/
def execHostWdogKick (t : Nat) (val : Word) (s : State) : Host.Outcome State Fault Refusal :=
  run t s fun s => s.hostWrites fun s => s.wdogWrite val

/-- HOST_WDOG_EXPIRY (R481). -/
def execHostWdogExpiry (t : Nat) (s : State) : Host.Outcome State Fault Refusal := run t s State.hostWdog

/-- HOST_LOSS (R481, R482). -/
def execHostLoss (t : Nat) (cause : LossKind) (s : State) : Host.Outcome State Fault Refusal :=
  run t s fun s => s.hostGone cause

/-- PERST_N_ASSERT (R73, R482). -/
def execPerstNAssert (t : Nat) (s : State) : Host.Outcome State Fault Refusal := run t s State.perstLow

/-- PERST_N_RELEASE (R61, R462). -/
def execPerstNRelease (t : Nat) (speed width : Nat) (s : State) : Host.Outcome State Fault Refusal :=
  run t s fun s => s.perstHigh speed width

/-- PCIE_LINK_UP (R482). -/
def execPcieLinkUp (t : Nat) (speed width : Nat) (s : State) : Host.Outcome State Fault Refusal :=
  run t s fun s => s.linkUp speed width

/-- PCIE_CONFIG_WRITE (R461, R462, R481). -/
def execPcieConfigWrite (t : Nat) (memSpace busMaster : Bool) (dstate : Fin 4) (relaxed clearPme : Bool) (s : State) :
    Host.Outcome State Fault Refusal := run t s fun s => s.configWrite memSpace busMaster dstate relaxed clearPme

end Sys2Proof.Machine
end

