-- ==== Sys2Proof/Machine/Registers.lean ====
section
/-!
DEFINITION. Sys2Proof/Machine/Registers.lean: BAR0 accesses: narrow and gated writes (R5, R39), the access types (R9 to
R12, R592), register pairs (R8), and what a write of each register that does more than hold a value brings.
-/

namespace Sys2Proof.Machine

/-! ## Stop conditions (R12) -/

/-- The block or ring of a register is stopped for R12; a block whose chapter names no condition always runs. -/
def State.regStopped (s : State) (off : Nat) : Bool :=
  match (blockOf off).map (·.num) with
  | some 5 =>
    if 0x051000 ≤ off ∧ off < 0x051800 then !s.io.sqActive ((off - 0x051000) / 32)
    else if 0x052000 ≤ off ∧ off < 0x052800 then !s.io.cqActive ((off - 0x052000) / 32)
    else false
  | some 6 => !s.flag F.TWN_CFG_link_en
  | some 12 => !s.flag F.PWR_RADIO_PERS_s_eff
  | some 13 => !s.flag F.MSH_STAT_running
  | some 14 => !s.flag F.PWR_RADIO_PERS_l_eff
  | some 15 => !s.flag F.PWR_RADIO_PERS_h_eff
  | some 18 => !s.sortersRun
  | some 19 =>
    if 0x381000 ≤ off then !s.flag F.PWR_RADIO_PERS_s_eff else !(s.inFull && s.flag F.QMS_CTRL_run)
  | some 20 => !s.flag (F.ETH_CTRL_en ((off - 0x400000) / 4096))
  | some 21 => !s.flag (if off < 0x440100 then F.PWR_RADIO_PERS_l_eff else F.PWR_RADIO_PERS_s_eff)
  | _ => false

/-- The `cfg_err` bit that an ignored RW-Q write of a register sets. -/
def cfgErr (off : Nat) : Option Fld :=
  match (blockOf off).map (·.num) with
  | some 5 =>
    if 0x051000 ≤ off ∧ off < 0x051800 then some (F.HIF_SQ_ERR_cfg_err ((off - 0x051000) / 32))
    else if 0x052000 ≤ off ∧ off < 0x052800 then some (F.HIF_CQ_ERR_cfg_err ((off - 0x052000) / 32))
    else none
  | some 6 => some F.TWN_STAT_cfg_err
  | some 12 => some F.SRX_STAT_cfg_err
  | some 13 => some F.MSH_STAT_cfg_err
  | some 14 => some F.LRX_STAT_cfg_err
  | some 15 => some F.HRX_STAT_cfg_err
  | some 18 => some F.SRT_STAT_cfg_err
  | some 19 => some (if 0x381000 ≤ off then F.SRX_STAT_cfg_err else F.QMS_STAT_cfg_err)
  | some 20 => some (F.ETH_STAT_cfg_err ((off - 0x400000) / 4096))
  | _ => none

/-- Set the `cfg_err` bit of a register's block. -/
def State.regErr (s : State) (off : Nat) : State :=
  match cfgErr off with
  | some f => s.setFld f 1
  | none => s

/-! ## The access types (R9, R592) -/

/-- A mask as a word. -/
def maskW (n : Nat) : Word := BitVec.ofNat 32 n

/-- The word a write leaves in a register: RW and RW-L bits take the value written, RW-Q bits only while the block is
stopped, a 1 clears a W1C bit, and every other bit stays. -/
def RegFam.written (f : RegFam) (stopped : Bool) (cur w : Word) : Word :=
  let take : Word := maskW f.rw ||| maskW f.rwl ||| (if stopped then maskW f.rwq else 0#32)
  ((cur &&& ~~~take) ||| (w &&& take)) &&& ~~~(w &&& maskW f.w1c)

/-- A running block ignores RW-Q bits written with another value than the current one. -/
def RegFam.refused (f : RegFam) (stopped : Bool) (cur w : Word) : Bool :=
  !stopped && ((cur ^^^ w) &&& maskW f.rwq) != 0#32

/-- A write of one register under the types of its fields; RW-L fields of a stopped block take effect at once. -/
def State.plainWrite (s : State) (f : RegFam) (off : Nat) (w : Word) : State :=
  let stopped := s.regStopped off
  let cur := s.word off
  let s := s.setWord off (f.written stopped cur w)
  let s := if stopped && f.rwl != 0 then { s with io := s.io.latchReg off } else s
  if f.refused stopped cur w then s.regErr off else s

/-! ## Registers with checks or effects of their own -/

/-- A write whose RW-Q value is checked first: an invalid one is ignored whole and sets `cfg_err`. -/
def State.checkedWrite (s : State) (f : RegFam) (off : Nat) (w : Word) (ok : Bool) : State :=
  if ok then s.plainWrite f off w else s.regErr off

/-- A write with one field's value replaced by the current one where it is invalid, which sets `cfg_err`. -/
def State.fieldWrite (s : State) (f : RegFam) (x : Fld) (w : Word) (ok : Bool) : State :=
  if ok then s.plainWrite f x.off w
  else (s.plainWrite f x.off (setBits w x.hi x.lo (s.fld x))).regErr x.off

/-- The word that a channel or map register would hold: reserved bits are ignored (R7). -/
def RegFam.keep (f : RegFam) (w : Word) : Word := w &&& maskW f.rwq

/-- In Doze, levels that wake are looked at again (R567). -/
def State.gpioLook (s : State) : State :=
  if s.pw.mode == .doze then (s.gpioWakes.foldl (fun s n => s.dozeWake (6 + n)) s) else s

/-- A write of `MSIX_CTRL_n`: unmasking sends a message that waits (R484). -/
def State.msixCtrl (s : State) (f : RegFam) (n : Nat) (w : Word) : State :=
  let s := s.plainWrite f (F.MSIX_CTRL_mask n).off w
  let o := (F.MSIX_PBA_pend (n / 32)).off
  if s.fld (F.MSIX_CTRL_mask n) = 0 ∧ bitN (s.word o).toNat (n % 32) then
    { s with io := (s.io.setWord o (s.word o &&& ~~~(maskW (2 ^ (n % 32))))).raiseVector n }
  else s

/-- A write of `ETH_CTRL` of port `p`: an invalid mode is ignored (R436), and a disabled port's link goes down. -/
def State.ethCtrl (s : State) (f : RegFam) (p : Nat) (w : Word) : State :=
  let s := s.fieldWrite f (F.ETH_CTRL_mode p) w (decide (bitsN w.toNat 3 1 ≤ 4))
  if s.fld (F.ETH_CTRL_en p) = 0 then s.ethDown p else s

/-- A write of `TWN_CFG` (R501, R510). -/
def State.twnCfg (s : State) (f : RegFam) (w : Word) : State :=
  let s := s.plainWrite f 0x060004 w
  (if s.flag F.TWN_CFG_link_en then s else s.twinDown).twinFault

/-- A write of the channel word of Radio L (false) or H (R317). -/
def State.chanWrite (s : State) (f : RegFam) (h : Bool) (w : Word) : State :=
  s.checkedWrite f (chanOff h) (f.keep w) (chanOk h (f.keep w))

/-- A write of `LRX_MESH_CH_0` or `_1` (R318); bits 5 and 6 of each byte are reserved. -/
def State.meshChWrite (s : State) (f : RegFam) (off : Nat) (w : Word) : State :=
  let w := w &&& maskW 0x9F9F9F9F
  s.checkedWrite f off w
    (if off = 0x180008 then meshMapOk w (s.word 0x18000C) else meshMapOk (s.word 0x180008) w)

/-- A write of a calibration command register of L or H (R331). -/
def State.lhCalCmd (s : State) (h : Bool) (w : Word) : State :=
  if bitN w.toNat 1 then s.calRequest h 2 else if bitN w.toNat 0 then s.calRequest h 1 else s

/-- A write of one register, `f` its description, that lies in a reachable block and is not half of a pair. -/
def State.regWrite (s : State) (f : RegFam) (off : Nat) (w : Word) : State :=
  if isRtcOff off then
    if f.rw = 0 ∧ f.rwl = 0 ∧ f.wo = 0 ∧ f.w1c = 0 then s else s.rtcWrite off w
  else if off = 0x010008 ∨ off = 0x480004 ∨ off = 0x480020 then (s.plainWrite f off w).gpioLook
  else if off = 0x020008 then (s.plainWrite f off w).opStart
  else if off = 0x020010 then (s.plainWrite f off w).latchRegs [off]
  else if off = 0x050008 then s.hifCtrl w
  else if off = 0x05000C then s.wdogWrite w
  else if 0x051000 ≤ off ∧ off < 0x051800 ∧ off % 32 = 8 then s.sqCfgWrite ((off - 0x051000) / 32) w
  else if 0x052000 ≤ off ∧ off < 0x052800 ∧ off % 32 = 8 then s.cqCfgWrite ((off - 0x052000) / 32) w
  else if 0x05E000 ≤ off ∧ off < 0x05E400 ∧ off % 16 = 12 then s.msixCtrl f ((off - 0x05E000) / 16) w
  else if off = 0x060004 then s.twnCfg f w
  else if off = 0x090008 then
    if bitsN w.toNat 31 16 = 0x5A5A ∧ bitN w.toNat 0 then s.duskService 4 else s
  else if off = 0x0B0004 then
    -- a latched bit whose condition still holds stays set (R551)
    s.plainWrite f off (if s.ms.retry then setBits w 5 5 0 else w)
  else if off = 0x100004 then
    let khz := bitsN w.toNat 19 0
    s.checkedWrite f off w (decide (416400 ≤ khz) && decide (khz ≤ 953600))
  else if off = 0x100044 then s.srxCalCmd (bitN w.toNat 0) (bitN w.toNat 1)
  else if off = 0x140010 then s.fieldWrite f F.MSH_SF_CFG_len w (sfLenOk (bitsN w.toNat 15 8))
  else if off = 0x180004 then s.chanWrite f false w
  else if off = 0x1C0004 then s.chanWrite f true w
  else if off = 0x180008 ∨ off = 0x18000C then s.meshChWrite f off w
  else if off = 0x180020 then s.lhCalCmd false w
  else if off = 0x1C0020 then s.lhCalCmd true w
  else if off = 0x200004 then ((s.plainWrite f off w).wlnLatch false).wlnLatch true
  else if 0x381000 ≤ off ∧ off < 0x381080 ∧ off % 16 = 0 then
    s.fieldWrite f (F.QMS_AIR_CFG_hi_ch ((off - 0x381000) / 16)) w
      (decide (bitsN w.toNat 5 0 ≤ bitsN w.toNat 13 8))
  else if off = 0x400000 then s.ethCtrl f 0 w
  else if off = 0x401000 then s.ethCtrl f 1 w
  else if off = 0x48000C then s.setWord 0x480008 (s.word 0x480008 ||| w)
  else if off = 0x480010 then s.setWord 0x480008 (s.word 0x480008 &&& ~~~w)
  else s.plainWrite f off w

/-- A write of a register whose description is looked up; nothing where none is defined (R6). -/
def State.regWriteAt (s : State) (off : Nat) (w : Word) : State :=
  match famOf off with
  | some f => s.regWrite f off w
  | none => s

/-- One 32-bit write: a gated block does not take it (R39), and the halves of a pair take effect together when `_HI`
is written (R8). -/
def State.wordWrite (s : State) (off : Nat) (w : Word) : State :=
  if !s.blockOn off then s.gatedAccess off
  else if isPairLo off && !isRtcOff off then
    { s with io := { s.io with heldLo := Tbl.put s.io.heldLo off w } }
  else if decide (4 ≤ off) && isPairLo (off - 4) && !isRtcOff off then
    (s.regWriteAt (off - 4) (Tbl.getD s.io.heldLo (off - 4) (s.word (off - 4)))).regWriteAt off w
  else s.regWriteAt off w

/-- A write that is narrower than 32 bits or not aligned is discarded and recorded (R5). -/
def State.narrowWrite (s : State) (off : Nat) : State :=
  let s := s.count F.HIF_ACC_ERR_narrow_wr
  s.setWord 0x05001C (BitVec.ofNat 32 (2 ^ 24 + off / 2 ^ 16 % 256 * 2 ^ 16 + off % 2 ^ 16))

/-- The 32-bit words of a write, lowest address first. -/
def State.wordWrites (s : State) (off : Nat) : Nat → Nat → State
  | 0, _ => s
  | n + 1, val => (s.wordWrite off (BitVec.ofNat 32 val)).wordWrites (off + 4) n (val / 2 ^ 32)

/-- A BAR0 write of `len` bytes. -/
def State.busWrite (s : State) (off len val : Nat) : State :=
  if !s.barUp then s
  else if len < 4 ∨ off % 4 ≠ 0 then s.narrowWrite off
  else s.wordWrites off (len / 4) val

/-- A BAR0 read of a `_LO` register: the read latch of `_HI` is loaded (R8), and the calendar's with the time
(R107).  A read of a gated block returns 0 and is recorded (R39). -/
def State.loRead (s : State) (off : Nat) : State :=
  if !s.barUp then s
  else if !s.blockOn off then (s.gatedAccess off).put (.readData off 0#32)
  else
    let v := s.readReg off
    let hi := s.readReg (off + 4)
    let s := if isPairLo off then { s with io := { s.io with latch := Tbl.put s.io.latch (off + 4) hi } } else s
    let cal := calendar s.calSec
    let s := if off = 0x030004 then { s with rt := { s.rt with calLatch := some (calDateWord cal, calTimeWord cal) } }
      else s
    s.put (.readData off v)

/-! ## Meanings -/

/-- LH_CAL_FULL: a write of `LRX_CAL_CMD` or `HRX_CAL_CMD` (R331). -/
def execLhCalFull (t : Nat) (h : Bool) (s : State) : Host.Outcome State Fault Refusal :=
  run t s fun s => s.busWrite (if h then 0x1C0020 else 0x180020) 4 2

/-- LH_CAL_CHANNEL: a write of `LRX_CAL_CMD` or `HRX_CAL_CMD` (R331). -/
def execLhCalChannel (t : Nat) (h : Bool) (s : State) : Host.Outcome State Fault Refusal :=
  run t s fun s => s.busWrite (if h then 0x1C0020 else 0x180020) 4 1

/-- SRX_CAL_QUICK: a write of `SRX_CAL_CMD` (R180). -/
def execSrxCalQuick (t : Nat) (s : State) : Host.Outcome State Fault Refusal :=
  run t s fun s => s.busWrite 0x100044 4 1

/-- SRX_CAL_FULL: a write of `SRX_CAL_CMD` (R180). -/
def execSrxCalFull (t : Nat) (s : State) : Host.Outcome State Fault Refusal :=
  run t s fun s => s.busWrite 0x100044 4 2

/-- GPI_SET: a write that sets bits of `GPI_OUT` (R580). -/
def execGpiSet (t : Nat) (val : Word) (s : State) : Host.Outcome State Fault Refusal :=
  run t s fun s => s.busWrite 0x48000C 4 val.toNat

/-- GPI_CLR: a write that clears bits of `GPI_OUT` (R580). -/
def execGpiClr (t : Nat) (val : Word) (s : State) : Host.Outcome State Fault Refusal :=
  run t s fun s => s.busWrite 0x480010 4 val.toNat

/-- PAIR_LO_READ (R8). -/
def execPairLoRead (t off : Nat) (s : State) : Host.Outcome State Fault Refusal := run t s fun s => s.loRead off

/-- REGISTER_WRITE (R5, R9, R39). -/
def execRegisterWrite (t off len val : Nat) (s : State) : Host.Outcome State Fault Refusal :=
  run t s fun s => s.busWrite off len val

end Sys2Proof.Machine
end

