-- ==== Sys2Proof/Machine/Dispatch.lean ====
section
/-!
DEFINITION. Sys2Proof/Machine/Dispatch.lean: one arm per constructor of Instr, each one call of its meaning.
-/

namespace Sys2Proof.Machine

def exec (i : Instr) (s : State) : Host.Outcome State Fault Refusal :=
  match i with
  | .nop t c opcode => Sys2Proof.Machine.execNop t c opcode s
  | .devStatus t c => Sys2Proof.Machine.execDevStatus t c s
  | .modeRequest t c => Sys2Proof.Machine.execModeRequest t c s
  | .logRead t c => Sys2Proof.Machine.execLogRead t c s
  | .meshSfSet t c => Sys2Proof.Machine.execMeshSfSet t c s
  | .meshConnSet t c => Sys2Proof.Machine.execMeshConnSet t c s
  | .meshConnGet t c => Sys2Proof.Machine.execMeshConnGet t c s
  | .meshConnClose t c => Sys2Proof.Machine.execMeshConnClose t c s
  | .meshAdmit t c => Sys2Proof.Machine.execMeshAdmit t c s
  | .meshRoute t c => Sys2Proof.Machine.execMeshRoute t c s
  | .meshJoinDecide t c => Sys2Proof.Machine.execMeshJoinDecide t c s
  | .meshCircSend t c => Sys2Proof.Machine.execMeshCircSend t c s
  | .meshEpochSet t c => Sys2Proof.Machine.execMeshEpochSet t c s
  | .kvLetter t c => Sys2Proof.Machine.execKvLetter t c s
  | .kvInfo t c => Sys2Proof.Machine.execKvInfo t c s
  | .kvUnitPub t c => Sys2Proof.Machine.execKvUnitPub t c s
  | .kvCmac t c => Sys2Proof.Machine.execKvCmac t c s
  | .wlnBssSet t c => Sys2Proof.Machine.execWlnBssSet t c s
  | .wlnClientSet t c => Sys2Proof.Machine.execWlnClientSet t c s
  | .wlnKeySet t c => Sys2Proof.Machine.execWlnKeySet t c s
  | .wlnMgmtTx t c => Sys2Proof.Machine.execWlnMgmtTx t c s
  | .wlnChanSwitch t c => Sys2Proof.Machine.execWlnChanSwitch t c s
  | .wlnClientGet t c => Sys2Proof.Machine.execWlnClientGet t c s
  | .pctWrite t c => Sys2Proof.Machine.execPctWrite t c s
  | .pctRead t c => Sys2Proof.Machine.execPctRead t c s
  | .pctDump t c => Sys2Proof.Machine.execPctDump t c s
  | .pctAudit t c => Sys2Proof.Machine.execPctAudit t c s
  | .pctFlush t c => Sys2Proof.Machine.execPctFlush t c s
  | .srtVlanSet t c => Sys2Proof.Machine.execSrtVlanSet t c s
  | .qmsShaperSet t c => Sys2Proof.Machine.execQmsShaperSet t c s
  | .qmsShaperGet t c => Sys2Proof.Machine.execQmsShaperGet t c s
  | .qmsQueueSet t c => Sys2Proof.Machine.execQmsQueueSet t c s
  | .qmsQueueGet t c => Sys2Proof.Machine.execQmsQueueGet t c s
  | .twnRoleRequest t c => Sys2Proof.Machine.execTwnRoleRequest t c s
  | .twnStatus t c => Sys2Proof.Machine.execTwnStatus t c s
  | .updStage t c => Sys2Proof.Machine.execUpdStage t c s
  | .updVerify t c => Sys2Proof.Machine.execUpdVerify t c s
  | .updActivate t c straps => Sys2Proof.Machine.execUpdActivate t c straps s
  | .updStatus t c => Sys2Proof.Machine.execUpdStatus t c s
  | .updLetter t c => Sys2Proof.Machine.execUpdLetter t c s
  | .dskResult t c => Sys2Proof.Machine.execDskResult t c s
  | .fltSet t c => Sys2Proof.Machine.execFltSet t c s
  | .telRead t c => Sys2Proof.Machine.execTelRead t c s
  | .pktTx t c => Sys2Proof.Machine.execPktTx t c s
  | .pktRxPost t c => Sys2Proof.Machine.execPktRxPost t c s
  | .letterProcess t mramOk otpOk => Sys2Proof.Machine.execLetterProcess t mramOk otpOk s
  | .updStageDone t ok => Sys2Proof.Machine.execUpdStageDone t ok s
  | .updVerifyDone t => Sys2Proof.Machine.execUpdVerifyDone t s
  | .pctDumpDone t => Sys2Proof.Machine.execPctDumpDone t s
  | .pctFlushDone t => Sys2Proof.Machine.execPctFlushDone t s
  | .submissionDoorbell t n narrow val => Sys2Proof.Machine.execSubmissionDoorbell t n narrow val s
  | .completionDoorbell t n narrow val => Sys2Proof.Machine.execCompletionDoorbell t n narrow val s
  | .descriptorFetchFailure t what n err => Sys2Proof.Machine.execDescriptorFetchFailure t what n err s
  | .msixCoalesceTimer t n => Sys2Proof.Machine.execMsixCoalesceTimer t n s
  | .sqEnable t n val => Sys2Proof.Machine.execSqEnable t n val s
  | .sqDisable t n val => Sys2Proof.Machine.execSqDisable t n val s
  | .cqEnable t n val => Sys2Proof.Machine.execCqEnable t n val s
  | .cqDisable t n val => Sys2Proof.Machine.execCqDisable t n val s
  | .hifBump t val => Sys2Proof.Machine.execHifBump t val s
  | .hostWdogKick t val => Sys2Proof.Machine.execHostWdogKick t val s
  | .hostWdogExpiry t => Sys2Proof.Machine.execHostWdogExpiry t s
  | .hostLoss t cause => Sys2Proof.Machine.execHostLoss t cause s
  | .perstNAssert t => Sys2Proof.Machine.execPerstNAssert t s
  | .perstNRelease t speed width => Sys2Proof.Machine.execPerstNRelease t speed width s
  | .softwareReset t val straps => Sys2Proof.Machine.execSoftwareReset t val straps s
  | .dskAbort t val => Sys2Proof.Machine.execDskAbort t val s
  | .rtcSet t hi => Sys2Proof.Machine.execRtcSet t hi s
  | .rtcShift t n => Sys2Proof.Machine.execRtcShift t n s
  | .rtcAddHour t => Sys2Proof.Machine.execRtcAddHour t s
  | .rtcSubHour t => Sys2Proof.Machine.execRtcSubHour t s
  | .alm1ClearMark t => Sys2Proof.Machine.execAlm1ClearMark t s
  | .srxCalQuick t => Sys2Proof.Machine.execSrxCalQuick t s
  | .srxCalFull t => Sys2Proof.Machine.execSrxCalFull t s
  | .lhCalFull t h => Sys2Proof.Machine.execLhCalFull t h s
  | .lhCalChannel t h => Sys2Proof.Machine.execLhCalChannel t h s
  | .gpiSet t val => Sys2Proof.Machine.execGpiSet t val s
  | .gpiClr t val => Sys2Proof.Machine.execGpiClr t val s
  | .pairLoRead t off => Sys2Proof.Machine.execPairLoRead t off s
  | .registerWrite t off len val => Sys2Proof.Machine.execRegisterWrite t off len val s
  | .pboxPop t upset => Sys2Proof.Machine.execPboxPop t upset s
  | .vinOkRise t straps => Sys2Proof.Machine.execVinOkRise t straps s
  | .vinOkFall t => Sys2Proof.Machine.execVinOkFall t s
  | .vbackBrownOut t => Sys2Proof.Machine.execVbackBrownOut t s
  | .resetNAssert t width acts => Sys2Proof.Machine.execResetNAssert t width acts s
  | .resetNRelease t straps => Sys2Proof.Machine.execResetNRelease t straps s
  | .wakeInRise t straps => Sys2Proof.Machine.execWakeInRise t straps s
  | .gpioWake t n level => Sys2Proof.Machine.execGpioWake t n level s
  | .ethSignalDetect t port => Sys2Proof.Machine.execEthSignalDetect t port s
  | .dawnImageVerified t flashOk => Sys2Proof.Machine.execDawnImageVerified t flashOk s
  | .dawnOnAir t => Sys2Proof.Machine.execDawnOnAir t s
  | .dramTrainingDone t vddq ok => Sys2Proof.Machine.execDramTrainingDone t vddq ok s
  | .vddqRetry t vddq => Sys2Proof.Machine.execVddqRetry t vddq s
  | .fullSetLoaded t straps => Sys2Proof.Machine.execFullSetLoaded t straps s
  | .enginesLoaded t ok lost straps => Sys2Proof.Machine.execEnginesLoaded t ok lost straps s
  | .fullReached t copyOk lost => Sys2Proof.Machine.execFullReached t copyOk lost s
  | .bootWatchdogExpiry t straps => Sys2Proof.Machine.execBootWatchdogExpiry t straps s
  | .dozeEntry t => Sys2Proof.Machine.execDozeEntry t s
  | .dozeHoldLimit t => Sys2Proof.Machine.execDozeHoldLimit t s
  | .dozeSlotWake t => Sys2Proof.Machine.execDozeSlotWake t s
  | .hibernateEntry t => Sys2Proof.Machine.execHibernateEntry t s
  | .requestedDawnEntry t => Sys2Proof.Machine.execRequestedDawnEntry t s
  | .duskEntry t => Sys2Proof.Machine.execDuskEntry t s
  | .duskGroupEnd t fails peakMw => Sys2Proof.Machine.execDuskGroupEnd t fails peakMw s
  | .duskRunEnd t fuseOk => Sys2Proof.Machine.execDuskRunEnd t fuseOk s
  | .snapshotPeriodic t ok => Sys2Proof.Machine.execSnapshotPeriodic t ok s
  | .rcOscFailOne t => Sys2Proof.Machine.execRcOscFailOne t s
  | .rcOscFailTwo t => Sys2Proof.Machine.execRcOscFailTwo t s
  | .rcHoldEnd t straps => Sys2Proof.Machine.execRcHoldEnd t straps s
  | .rcTrimTick t count => Sys2Proof.Machine.execRcTrimTick t count s
  | .refclkStopDetect t => Sys2Proof.Machine.execRefclkStopDetect t s
  | .refclkFreqDetect t c1 c2 => Sys2Proof.Machine.execRefclkFreqDetect t c1 c2 s
  | .refclkAbsent100ms t => Sys2Proof.Machine.execRefclkAbsent100ms t s
  | .refclkReturn t => Sys2Proof.Machine.execRefclkReturn t s
  | .xtal32Stop t => Sys2Proof.Machine.execXtal32Stop t s
  | .xtal32Restart t => Sys2Proof.Machine.execXtal32Restart t s
  | .xtal32GapHibernate t => Sys2Proof.Machine.execXtal32GapHibernate t s
  | .pllUnlock t pll => Sys2Proof.Machine.execPllUnlock t pll s
  | .pllRelockAttempt t pll ok => Sys2Proof.Machine.execPllRelockAttempt t pll ok s
  | .opStepDone t => Sys2Proof.Machine.execOpStepDone t s
  | .thermalCapChange t temp => Sys2Proof.Machine.execThermalCapChange t temp s
  | .gateCloseTimeout t block engine host => Sys2Proof.Machine.execGateCloseTimeout t block engine host s
  | .backupTick t => Sys2Proof.Machine.execBackupTick t s
  | .alarm0Fire t straps => Sys2Proof.Machine.execAlarm0Fire t straps s
  | .alarm1Fire t straps => Sys2Proof.Machine.execAlarm1Fire t straps s
  | .rtcTrimWindow t count clear => Sys2Proof.Machine.execRtcTrimWindow t count clear s
  | .vbatMeasure t mv => Sys2Proof.Machine.execVbatMeasure t mv s
  | .laneDisagreement t lane what => Sys2Proof.Machine.execLaneDisagreement t lane what s
  | .resyncRejoin t => Sys2Proof.Machine.execResyncRejoin t s
  | .pairDisagreement t => Sys2Proof.Machine.execPairDisagreement t s
  | .tplFatalReset t straps => Sys2Proof.Machine.execTplFatalReset t straps s
  | .pboxStateRefresh t => Sys2Proof.Machine.execPboxStateRefresh t s
  | .slotBoundary t => Sys2Proof.Machine.execSlotBoundary t s
  | .rxWindowOpen t receipt p0 p1 => Sys2Proof.Machine.execRxWindowOpen t receipt p0 p1 s
  | .rxWindowClose t => Sys2Proof.Machine.execRxWindowClose t s
  | .preambleDetect t demod chain => Sys2Proof.Machine.execPreambleDetect t demod chain s
  | .diversityDecision t demod snr0 snr1 => Sys2Proof.Machine.execDiversityDecision t demod snr0 snr1 s
  | .adcClip t chain => Sys2Proof.Machine.execAdcClip t chain s
  | .sfdFound t demod errs phr => Sys2Proof.Machine.execSfdFound t demod errs phr s
  | .sfdSearchTimeout t demod => Sys2Proof.Machine.execSfdSearchTimeout t demod s
  | .frameDelivery t demod l psdu rssi cfo => Sys2Proof.Machine.execFrameDelivery t demod l psdu rssi cfo s
  | .keyRequest t addr epoch => Sys2Proof.Machine.execKeyRequest t addr epoch s
  | .keyDerivation t => Sys2Proof.Machine.execKeyDerivation t s
  | .frameDecision t mirrorFail => Sys2Proof.Machine.execFrameDecision t mirrorFail s
  | .dawnFrame t => Sys2Proof.Machine.execDawnFrame t s
  | .innerBlockCheck t mirrorFail => Sys2Proof.Machine.execInnerBlockCheck t mirrorFail s
  | .admission t par => Sys2Proof.Machine.execAdmission t par s
  | .joinDecideDeadline t token => Sys2Proof.Machine.execJoinDecideDeadline t token s
  | .receiptBurst t => Sys2Proof.Machine.execReceiptBurst t s
  | .dSlotTx t => Sys2Proof.Machine.execDSlotTx t s
  | .nodeReceipt t => Sys2Proof.Machine.execNodeReceipt t s
  | .connectionEvent t conn => Sys2Proof.Machine.execConnectionEvent t conn s
  | .connUpdateInstant t conn => Sys2Proof.Machine.execConnUpdateInstant t conn s
  | .lapseHoldExpiry t conn => Sys2Proof.Machine.execLapseHoldExpiry t conn s
  | .postmarkExpiry t => Sys2Proof.Machine.execPostmarkExpiry t s
  | .fragmentTimeout t => Sys2Proof.Machine.execFragmentTimeout t s
  | .micWindowEnd t => Sys2Proof.Machine.execMicWindowEnd t s
  | .leaseExtend t ok => Sys2Proof.Machine.execLeaseExtend t ok s
  | .leaseWriteRetry t ok => Sys2Proof.Machine.execLeaseWriteRetry t ok s
  | .epochRotation t => Sys2Proof.Machine.execEpochRotation t s
  | .graceEnd t => Sys2Proof.Machine.execGraceEnd t s
  | .dlCounterWarn t => Sys2Proof.Machine.execDlCounterWarn t s
  | .dlCounterExhausted t => Sys2Proof.Machine.execDlCounterExhausted t s
  | .txRequest t req => Sys2Proof.Machine.execTxRequest t req s
  | .txDecisionDeadline t => Sys2Proof.Machine.execTxDecisionDeadline t s
  | .rxToTxTurnaround t energy gnt => Sys2Proof.Machine.execRxToTxTurnaround t energy gnt s
  | .txEnd t => Sys2Proof.Machine.execTxEnd t s
  | .txCut t => Sys2Proof.Machine.execTxCut t s
  | .synthLockLoss t => Sys2Proof.Machine.execSynthLockLoss t s
  | .srxCalStart t => Sys2Proof.Machine.execSrxCalStart t s
  | .srxCalDone t ok temp => Sys2Proof.Machine.execSrxCalDone t ok temp s
  | .srxCalDue t temp => Sys2Proof.Machine.execSrxCalDue t temp s
  | .coxbExtReqRise t => Sys2Proof.Machine.execCoxbExtReqRise t s
  | .coxbExtReqFall t => Sys2Proof.Machine.execCoxbExtReqFall t s
  | .coxbPreempt t => Sys2Proof.Machine.execCoxbPreempt t s
  | .coxaExtReqRise t => Sys2Proof.Machine.execCoxaExtReqRise t s
  | .coxaExtReqFall t => Sys2Proof.Machine.execCoxaExtReqFall t s
  | .coxaPreempt t => Sys2Proof.Machine.execCoxaPreempt t s
  | .reservedIntervalStart t gnt busy => Sys2Proof.Machine.execReservedIntervalStart t gnt busy s
  | .lhTxStart t h gnt dur => Sys2Proof.Machine.execLhTxStart t h gnt dur s
  | .lhTxEnd t h acked giveUp reports => Sys2Proof.Machine.execLhTxEnd t h acked giveUp reports s
  | .lhTxCut t h => Sys2Proof.Machine.execLhTxCut t h s
  | .lhCalDone t h ok temp => Sys2Proof.Machine.execLhCalDone t h ok temp s
  | .lhTrackingPiece t h last temp => Sys2Proof.Machine.execLhTrackingPiece t h last temp s
  | .probeRequest t h src ssid => Sys2Proof.Machine.execProbeRequest t h src ssid s
  | .wifiMgmtRx t m => Sys2Proof.Machine.execWifiMgmtRx t m s
  | .twtSetupRequest t q => Sys2Proof.Machine.execTwtSetupRequest t q s
  | .wifiDataRx t f respNs => Sys2Proof.Machine.execWifiDataRx t f respNs s
  | .txopWon t x => Sys2Proof.Machine.execTxopWon t x s
  | .bsrpTrigger t h dur polled => Sys2Proof.Machine.execBsrpTrigger t h dur polled s
  | .sounding t dur => Sys2Proof.Machine.execSounding t dur s
  | .tbttBeacon t h => Sys2Proof.Machine.execTbttBeacon t h s
  | .clientUnreachable t client => Sys2Proof.Machine.execClientUnreachable t client s
  | .pnLeaseExtend t key ok => Sys2Proof.Machine.execPnLeaseExtend t key ok s
  | .ethFrameRx t port frame fcsOk => Sys2Proof.Machine.execEthFrameRx t port frame fcsOk s
  | .sorterPacket t n => Sys2Proof.Machine.execSorterPacket t n s
  | .learnUpdate t => Sys2Proof.Machine.execLearnUpdate t s
  | .learnFailRecord t => Sys2Proof.Machine.execLearnFailRecord t s
  | .roundVisit t node hitNow => Sys2Proof.Machine.execRoundVisit t node hitNow s
  | .tableEccError t table key corrected => Sys2Proof.Machine.execTableEccError t table key corrected s
  | .digestRescan t => Sys2Proof.Machine.execDigestRescan t s
  | .spillMove t => Sys2Proof.Machine.execSpillMove t s
  | .spillFetchDone t queue bad => Sys2Proof.Machine.execSpillFetchDone t queue bad s
  | .xoffRepeat t port unit => Sys2Proof.Machine.execXoffRepeat t port unit s
  | .pauseRx t port pfc classes quanta => Sys2Proof.Machine.execPauseRx t port pfc classes quanta s
  | .pauseTimerExpiry t port cls => Sys2Proof.Machine.execPauseTimerExpiry t port cls s
  | .ethLinkDown t port => Sys2Proof.Machine.execEthLinkDown t port s
  | .shaperRefill t n => Sys2Proof.Machine.execShaperRefill t n s
  | .egressDequeue t e => Sys2Proof.Machine.execEgressDequeue t e s
  | .claimInChange t value => Sys2Proof.Machine.execClaimInChange t value s
  | .gateOpen t => Sys2Proof.Machine.execGateOpen t s
  | .hello t m claim mode role absent heard => Sys2Proof.Machine.execHello t m claim mode role absent heard s
  | .time t m slot boundary => Sys2Proof.Machine.execTime t m slot boundary s
  | .slotRec t m slot link inner => Sys2Proof.Machine.execSlotRec t m slot link inner s
  | .lease t m epoch leaseEnd ok => Sys2Proof.Machine.execLease t m epoch leaseEnd ok s
  | .leaseAck t m epoch leaseEnd => Sys2Proof.Machine.execLeaseAck t m epoch leaseEnd s
  | .revert t m slot => Sys2Proof.Machine.execRevert t m slot s
  | .status t m body => Sys2Proof.Machine.execStatus t m body s
  | .helloTx t => Sys2Proof.Machine.execHelloTx t s
  | .statusTx t => Sys2Proof.Machine.execStatusTx t s
  | .leaseResend t => Sys2Proof.Machine.execLeaseResend t s
  | .twinLinkTimeout t => Sys2Proof.Machine.execTwinLinkTimeout t s
  | .twinLinkRetrain t => Sys2Proof.Machine.execTwinLinkRetrain t s
  | .holdoffExpiry t => Sys2Proof.Machine.execHoldoffExpiry t s
  | .preferredRaise t => Sys2Proof.Machine.execPreferredRaise t s
  | .recoveryWindowClose t => Sys2Proof.Machine.execRecoveryWindowClose t s
  | .peerLost t => Sys2Proof.Machine.execPeerLost t s
  | .standDown t => Sys2Proof.Machine.execStandDown t s
  | .remaskPass t late => Sys2Proof.Machine.execRemaskPass t late s
  | .rewrapScheduled t => Sys2Proof.Machine.execRewrapScheduled t s
  | .pauseStart t => Sys2Proof.Machine.execPauseStart t s
  | .triplicateUpdate t ok => Sys2Proof.Machine.execTriplicateUpdate t ok s
  | .activationLoadDone t ok lost straps => Sys2Proof.Machine.execActivationLoadDone t ok lost straps s
  | .activationTimeout t straps => Sys2Proof.Machine.execActivationTimeout t straps s
  | .trialCommitTimer t => Sys2Proof.Machine.execTrialCommitTimer t s
  | .xmodemDownload t file ok => Sys2Proof.Machine.execXmodemDownload t file ok s
  | .tftpWriteRequest t name octet file ok => Sys2Proof.Machine.execTftpWriteRequest t name octet file ok s
  | .engineWatchdogExpiry t engine => Sys2Proof.Machine.execEngineWatchdogExpiry t engine s
  | .uncorrectableError t what straps => Sys2Proof.Machine.execUncorrectableError t what straps s
  | .scrubPass t dram late ecc => Sys2Proof.Machine.execScrubPass t dram late ecc s
  | .mramPageMigrate t page writes ok => Sys2Proof.Machine.execMramPageMigrate t page writes ok s
  | .telemetrySample t temps rails vin power => Sys2Proof.Machine.execTelemetrySample t temps rails vin power s
  | .faultWindowExpiry t => Sys2Proof.Machine.execFaultWindowExpiry t s
  | .reorderHoldExpiry t => Sys2Proof.Machine.execReorderHoldExpiry t s
  | .twnHoldTimeout t => Sys2Proof.Machine.execTwnHoldTimeout t s
  | .synthRelockDone t ok => Sys2Proof.Machine.execSynthRelockDone t ok s
  | .ethLinkUp t port speed => Sys2Proof.Machine.execEthLinkUp t port speed s
  | .pcieLinkUp t speed width => Sys2Proof.Machine.execPcieLinkUp t speed width s
  | .pcieConfigWrite t memSpace busMaster dstate relaxed clearPme => Sys2Proof.Machine.execPcieConfigWrite t memSpace busMaster dstate relaxed clearPme s
  | .twtServicePeriod t client idx => Sys2Proof.Machine.execTwtServicePeriod t client idx s
  | .railOutOfRange t inRange => Sys2Proof.Machine.execRailOutOfRange t inRange s

end Sys2Proof.Machine
end

