-- ==== Sys2Proof/Safety.lean ====
section
/-!
DEFINITION. Sys2Proof/Safety.lean: the terms in which the statements speak of a step: what counts as safe, which parts
of the state and which registers a step changes, and that a ring command is answered.
-/

namespace Sys2Proof.Machine

/-- A step is safe when it answers a next state: neither a fault nor a refusal. -/
def SafeStep (s : State) : Prop := ∃ t, step s = .next t

/-- `u` differs from `s` in the clock and in the registers at the offsets `l`, and in nothing else. -/
def RegsOnly (s u : State) (l : List Nat) : Prop :=
  { u with io := s.io, now := s.now } = s ∧ { u.io with regs := s.io.regs } = s.io ∧
    ∀ off, off ∉ l → u.word off = s.word off

/-- Every register outside the `HIF_` block and outside the offsets `l` has the same word in `s` and `u`. -/
def SameWords (s u : State) (l : List Nat) : Prop := ∀ off, offHif off → off ∉ l → u.word off = s.word off

/-- `u` differs from `s` in the clock, in the registers at the offsets `l`, and in what the host interface sends and
keeps (completions, events, messages and the `HIF_` registers that show them). -/
def HostOnly (s u : State) (l : List Nat) : Prop :=
  { u with io := s.io, now := s.now } = s ∧ SameWords s u l

/-- The canonical form of the register words: offsets rising, and no word listed that equals its reset value. -/
def Io.Canonical (io : Io) : Prop := Tbl.sorted io.regs = true ∧ ∀ p ∈ io.regs, p.2 ≠ regReset p.1

/-- What a reset of R73 other than PERST_N leaves of the volatile state: nothing of the mesh, the vault's working copies,
Wi-Fi, tables, Sorters and queues, no ring, no host work, no claim, and the gate closed. -/
abbrev Restarted (u : State) : Prop :=
  u.ml.conns = [] ∧ u.ms = {} ∧ u.kv = {} ∧ u.wl = {} ∧ u.pt = {} ∧ u.sr = {} ∧ u.qm = {} ∧ u.up.job = none ∧
    u.io.hf.deferred = [] ∧ u.io.hf.rxBufs = [] ∧ u.tw.claim = 0 ∧ u.tw.gate = false ∧
    ∀ n < 64, u.io.sqActive n = false ∧ u.io.cqActive n = false

/-- A start has begun after such a reset: the straps are sampled, `PWR_RESET_CAUSE` records the cause, and the ROM runs,
in Dawn or, by its strap, in Rescue. -/
abbrev Started (u : State) (x : Straps) (cause : Fld) : Prop :=
  Restarted u ∧ u.pw.mode = (if x.rescue then .rescue else .dawn) ∧ u.pw.stage = .rom ∧ u.pw.hold = none ∧
    u.fld cause = 1 ∧ u.fld F.TOP_STRAP_rescue = x.rescue.toNat ∧ u.fld F.TOP_STRAP_twin_pref = x.pref.toNat ∧
    u.fld F.TOP_STRAP_twin_id = x.id.toNat ∧ u.fld F.TWN_STAT_strap_err = (x.pref && x.id).toNat

/-- A wake source has begun the return from Doze: bit `b` of `PWR_WAKE_CAUSE` records it, and nothing else changes. -/
def Woken (s u : State) (b : Nat) : Prop :=
  u.pw = { s.pw with trans := some .fromDoze, woken := true } ∧ (u.word 0x01000C).getLsbD b = true ∧
    RegsOnly { s with pw := u.pw } u [0x01000C]

/-- The device is Solo and no peer drives its claim: what a peer changes, the twin's statements say. -/
abbrev Alone (s : State) : Prop := s.tw.role = .solo ∧ s.peerAlive = false

/-! ## Ring commands (16_host_rings) -/

/-- Descriptor `c` can be fetched now and passes the checks of R472 that do not depend on its opcode: the generation,
the reserved flags, the ring kind; no earlier descriptor of its ring is in flight and its result can be written. -/
abbrev Ready (s : State) (c : Cmd) (kind : RingKind) : Prop :=
  s.canFetch c = true ∧ s.io.hf.inFlight c.sq.val = false ∧ c.gen.toNat = s.fld F.HIF_GEN_gen ∧ c.b3.toNat / 2 = 0 ∧
    s.fld (F.HIF_SQ_CFG_kind c.sq.val) = kind.code ∧ c.wrFail = false

/-- Descriptor `c` was answered on the way from `s` to `u`: the writes `ws` to host memory went out in order, and after
them the completion with the status `st`, or it is held for its ring. -/
def Answered (s u : State) (c : Cmd) (st : Nat) (ws : List (Nat × Bytes) := []) (result : Nat := 0) : Prop :=
  let cpl : Cpl := { sq := c.sq.val, tag := c.tag.toNat, status := st, result := result, gen := c.gen.toNat }
  ∃ after, u.io.out = after ++ (ws.map fun w => Out.dma w.1 w.2).reverse ++ s.io.out ∧
    ((s.fld (F.HIF_SQ_CFG_cq c.sq.val), cpl) ∈ u.io.hf.cqHeld ∨
      ∃ a head phase, Out.dma a (cpl.bytes head ++ [phase]) ∈ after)

/-- Descriptor `c` of opcode `op` was answered DEFERRED and waits, under `key`, for its final completion. -/
def Deferred (s u : State) (c : Cmd) (op key : Nat) : Prop :=
  Answered s u c stDEFERRED ∧ u.io.hf.deferred = s.io.hf.deferred ++
    [{ sq := c.sq.val, idx := s.io.hf.serial, gen := c.gen.toNat, tag := c.tag.toNat, opcode := op, key := key }]

/-- The waiting command `d` got its final completion with the status `st`: it waits no longer, and while the host can be
written to, the completion went out or is held. -/
def Finished (s u : State) (d : Dfr) (st : Nat) (result : Nat := 0) : Prop :=
  let cpl : Cpl := { sq := d.sq, tag := d.tag, status := st, result := result, gen := d.gen, final := true }
  u.io.hf.deferred = s.io.hf.deferred.erase d ∧
    (s.io.hostOk = true → ∃ out, u.io.out = out ++ s.io.out ∧
      ((s.fld (F.HIF_SQ_CFG_cq d.sq), cpl) ∈ u.io.hf.cqHeld ∨
        ∃ a head phase, Out.dma a (cpl.bytes head ++ [phase]) ∈ out))

/-- Descriptor `c` of a command over blocks names one block of `size` bytes, `b`, whose read succeeds; its body bytes
from `rsv` on are 0. -/
abbrev OneBlock (c : Cmd) (size rsv : Nat) (b : Bytes) : Prop :=
  c.f 0 8 % 32 = 0 ∧ c.f 8 2 = 1 ∧ c.zero rsv (24 - rsv) = true ∧ c.rdErr = none ∧ b = Bytes.slice c.rd 0 size

/-- The opcode, ring kind and descriptor of a ring command. -/
def ringRow : Instr → Option (Nat × RingKind × Cmd)
  | .nop _ c op => some (op, opcodeKind op, c)
  | .devStatus _ c => some (0x0002, .command, c)
  | .modeRequest _ c => some (0x0003, .command, c)
  | .logRead _ c => some (0x0004, .command, c)
  | .meshSfSet _ c => some (0x0101, .command, c)
  | .meshConnSet _ c => some (0x0102, .command, c)
  | .meshConnGet _ c => some (0x0103, .command, c)
  | .meshConnClose _ c => some (0x0104, .command, c)
  | .meshAdmit _ c => some (0x0110, .command, c)
  | .meshRoute _ c => some (0x0111, .command, c)
  | .meshJoinDecide _ c => some (0x0112, .command, c)
  | .meshCircSend _ c => some (0x0113, .command, c)
  | .meshEpochSet _ c => some (0x0120, .command, c)
  | .kvLetter _ c => some (0x0201, .command, c)
  | .kvInfo _ c => some (0x0202, .command, c)
  | .kvUnitPub _ c => some (0x0203, .command, c)
  | .kvCmac _ c => some (0x0204, .command, c)
  | .wlnBssSet _ c => some (0x0301, .command, c)
  | .wlnClientSet _ c => some (0x0302, .command, c)
  | .wlnKeySet _ c => some (0x0303, .command, c)
  | .wlnMgmtTx _ c => some (0x0304, .command, c)
  | .wlnChanSwitch _ c => some (0x0305, .command, c)
  | .wlnClientGet _ c => some (0x0306, .command, c)
  | .pctWrite _ c => some (0x0401, .command, c)
  | .pctRead _ c => some (0x0402, .command, c)
  | .pctDump _ c => some (0x0403, .command, c)
  | .pctAudit _ c => some (0x0404, .command, c)
  | .pctFlush _ c => some (0x0405, .command, c)
  | .srtVlanSet _ c => some (0x0501, .command, c)
  | .qmsShaperSet _ c => some (0x0601, .command, c)
  | .qmsShaperGet _ c => some (0x0602, .command, c)
  | .qmsQueueSet _ c => some (0x0603, .command, c)
  | .qmsQueueGet _ c => some (0x0604, .command, c)
  | .twnRoleRequest _ c => some (0x0701, .command, c)
  | .twnStatus _ c => some (0x0702, .command, c)
  | .updStage _ c => some (0x0801, .command, c)
  | .updVerify _ c => some (0x0802, .command, c)
  | .updActivate _ c _ => some (0x0803, .command, c)
  | .updStatus _ c => some (0x0804, .command, c)
  | .updLetter _ c => some (0x0805, .command, c)
  | .dskResult _ c => some (0x0901, .command, c)
  | .fltSet _ c => some (0x0A01, .command, c)
  | .telRead _ c => some (0x0A02, .command, c)
  | .pktTx _ c => some (0x1001, .transmit, c)
  | .pktRxPost _ c => some (0x1002, .receive, c)
  | _ => none

end Sys2Proof.Machine
end

