-- ==== Sys2Proof/Certificates/Slice0/Obligations.lean ====
section
/-!
DEFINITION. Sys2Proof/Certificates/Slice0/Obligations.lean: the statements for the provers.  `offHif`, `RegsOnly`,
`SameWords` and `HostOnly` (Machine/Ops.lean, Safety.lean) say what a command leaves as it was.
-/

open Sys2Proof Sys2Proof.Machine

/-! ## The machine as a whole -/

/-- One step runs the command at the front of the queue on the state with the queue's rest; on an empty queue the
device idles (log entry 1). -/
def Obligations.StepRunsTheFrontCommand : Prop :=
  (∀ (c : Instr) (rest : List Instr) (s : State),
    step { s with pending := c :: rest } = exec c { s with pending := rest }) ∧
  ∀ s : State, s.pending = [] → step s = .next s

/-- Every command of the table answers a next state and leaves the queue as it finds it; so every step is safe. -/
def Obligations.EveryCommandCompletes : Prop :=
  (∀ (i : Instr) (s : State), ∃ u, exec i s = .next u ∧ u.pending = s.pending) ∧ ∀ s : State, SafeStep s

/-- What reset leaves: the mode reads Dawn, the claim is 0 and the gate closed, no ring is active, no latch is loaded,
`PWR_RESET_CAUSE` shows the pin, and every other register holds its Reset column. -/
def Obligations.ResetLeaves : Prop :=
  State.reset.pw.mode = .dawn ∧ State.reset.pending = [] ∧ State.reset.tw.claim = 0 ∧ State.reset.tw.gate = false ∧
    State.reset.fld F.PWR_RESET_CAUSE_pin = 1 ∧ (∀ off, off ≠ 0x010010 → State.reset.word off = regReset off) ∧
    (∀ n < 64, State.reset.io.sqActive n = false ∧ State.reset.io.cqActive n = false) ∧
    State.reset.io.heldLo = [] ∧ State.reset.io.latch = []

/-- The common checks of R472, in their order, for every ring command but TWN_ROLE_REQUEST and PKT_TX (which have
statements of their own): a descriptor of another generation completes STALE, one with reserved flags BAD_ARG, one whose
opcode is not listed or not of its ring's kind UNSUPPORTED, and one not served in the mode as the mode says; each has no
other effect. -/
def Obligations.CommonChecksInOrder : Prop :=
  ∀ (i : Instr) (op : Nat) (k : RingKind) (c : Cmd) (s : State),
    ringRow i = some (op, k, c) → op ≠ 0x0701 → op ≠ 0x1001 → s.canFetch c = true →
    s.io.hf.inFlight c.sq.val = false → c.wrFail = false → s.pw.mode ≠ .doze →
    (s.pw.mode = .rescue → s.up.job = none) →
    let turned (st : Nat) : Prop := ∃ u, exec i s = .next u ∧ Answered s u c st ∧ HostOnly s u []
    let kind := s.fld (F.HIF_SQ_CFG_kind c.sq.val)
    (c.gen.toNat ≠ s.fld F.HIF_GEN_gen → turned stSTALE) ∧
    (c.gen.toNat = s.fld F.HIF_GEN_gen → c.b3.toNat / 2 ≠ 0 → turned stBAD_ARG) ∧
    (c.gen.toNat = s.fld F.HIF_GEN_gen → c.b3.toNat / 2 = 0 → (op ∉ opcodes ∨ k.code ≠ kind) →
      turned stUNSUPPORTED) ∧
    ∀ st, c.gen.toNat = s.fld F.HIF_GEN_gen → c.b3.toNat / 2 = 0 → op ∈ opcodes → k.code = kind →
      modeStatus s.pw.mode op = some st → turned st

/-- R232: blocks of a command are processed in order up to the first whose status is not OK; that status is the
command's, each processed block has its status written into it, and no later block is read or changed. -/
def Obligations.BlocksUpToTheFirstFailure : Prop :=
  ∀ (f : State → Bytes → BlockReply) (base size statusAt : Nat) (good : List Bytes) (bad : Bytes) (rest : List Bytes)
    (s : State),
    (∀ u b, b ∈ good → (f u b).status = stOK ∧ (f u b).writes = []) → (∀ u, (f u bad).status ≠ stOK) →
    (∀ u, (f u bad).writes = []) →
    let mid := good.foldl (fun u b => (f u b).st) s
    let r := runBlocks false f base size statusAt (good ++ bad :: rest) s []
    r.st = (f mid bad).st ∧ r.status = some (f mid bad).status ∧
      r.writes = (List.range good.length).map (fun k => (base + k * size + statusAt, toLE 1 stOK)) ++
        [(base + good.length * size + statusAt, toLE 1 (f mid bad).status)]

/-- OTP and MRAM keep what the spec calls permanent, at every step from every state: the unit ID never changes, a fuse
entry stays, a programmed authority stays programmed with its hash and stays revoked once it is, and the letter counter
record changes only with a letter. -/
def Obligations.PermanentRecordsStay : Prop :=
  ∀ s u : State, step s = .next u →
    u.nv.unitId = s.nv.unitId ∧ (∃ more, u.nv.fuses = s.nv.fuses ++ more) ∧
    (∀ k a, Tbl.get? s.nv.auth k = some a → a.programmed = true →
      ∃ b, Tbl.get? u.nv.auth k = some b ∧ b.programmed = true ∧ b.hash = a.hash ∧
        (a.revoked = true → b.revoked = true)) ∧
    (u.nv.letterCtr = s.nv.letterCtr ∨ ∃ t m o rest, s.pending = .letterProcess t m o :: rest)

/-- The registers are kept in one canonical form, offsets rising and no word equal to its reset value listed, by every
step from every state. -/
def Obligations.RegistersStayCanonical : Prop :=
  ∀ s u : State, step s = .next u → s.io.Canonical → u.io.Canonical

/-- The reset state meets that form. -/
def Obligations.ResetRegistersCanonical : Prop := State.reset.io.Canonical

/-! ## The real-time clock and the backup domain -/

/-- RTC_SET, RTC_SHIFT, RTC_ADD_HOUR, RTC_SUB_HOUR and ALM1_CLEAR_MARK (R104, R110, R111): while BAR0 is reachable, each
leaves its action waiting for the next backup tick and changes nothing else. -/
def Obligations.RtcCommandsWaitForTheTick : Prop :=
  ∀ (t : Nat) (s : State), s.barUp = true →
    (∀ hi : Word, exec (.rtcSet t hi) s = .next { s with
      now := max s.now t
      rt := { s.rt with setNext := some (
        hi.toNat % 65536 * 2 ^ 32 + ((Tbl.get? s.io.heldLo 0x030004).map (·.toNat)).getD (s.rt.sec % 2 ^ 32),
        hi.toNat / 65536 % 32768) } }) ∧
    (∀ n : BitVec 16, n ≠ 0#16 → n ≠ 0x8000#16 →
      exec (.rtcShift t n) s = .next { s with now := max s.now t, rt := { s.rt with act := some (.shift n.toInt) } }) ∧
    exec (.rtcAddHour t) s = .next { s with now := max s.now t, rt := { s.rt with act := some .addHour } } ∧
    exec (.rtcSubHour t) s = .next { s with now := max s.now t, rt := { s.rt with act := some .subHour } } ∧
    exec (.alm1ClearMark t) s = .next { s with now := max s.now t, rt := { s.rt with act := some .clearMark } } ∧
    ∃ u, exec (.rtcShift t 0x8000#16) s = .next u ∧ u.fld F.RTC_STAT_cmd_err = 1 ∧ RegsOnly s u [0x030000]

/-- BACKUP_TICK (R103, R104, R106): with nothing waiting, the time advances by one tick under the trim and the frame
holds; with a set waiting, the time is the set's, `time_lost` and `xtal_gap` clear, and every anchor of the connection
table moves by the same delta. -/
def Obligations.BackupTickAdvancesOrSets : Prop :=
  ∀ (t : Nat) (s : State), s.rt.wr = [] →
    (s.rt.setNext = none → s.rt.act = none → s.rt.offsetNext = none →
      ∃ u, exec (.backupTick t) s = .next u ∧
        u.rtc = s.rtc + trimStep s.rt.tick s.rt.pulses s.rt.skip ∧ u.rt.offset = s.rt.offset ∧
        { u with rt := s.rt, now := s.now } = s) ∧
    (∀ sec frac : Nat, s.rt.setNext = some (sec, frac) → frac < 32768 → s.rt.act ≠ some .clearMark →
      ∃ u, exec (.backupTick t) s = .next u ∧ u.rt.sec = sec ∧ u.rt.frac = frac ∧ u.rt.setNext = none ∧
        u.fld F.RTC_STAT_time_lost = 0 ∧ u.fld F.RTC_STAT_xtal_gap = 0 ∧
        u.ml = s.ml.shiftAnchors
          ((sec * 32768 + frac : Nat) - (s.rtc + trimStep s.rt.tick s.rt.pulses s.rt.skip)) ∧
        SameWords s u [0x030000])

/-- ALARM0_FIRE, ALARM1_FIRE (R112 to R114), RTC_TRIM_WINDOW (R117), VBAT_MEASURE (R122). -/
def Obligations.AlarmsTrimAndCell : Prop :=
  ∀ (t : Nat) (x : Straps) (s : State),
    (∀ late : Bool, s.rt.due0 = some late → s.pw.mode ≠ .hibernate → s.pw.mode ≠ .doze → s.pw.hold = none →
      ∃ u, exec (.alarm0Fire t x) s = .next u ∧ u.fld F.RTC_ALM_STAT_fired0 = 1 ∧
        u.fld F.RTC_ALM_STAT_late0 = late.toNat ∧ u.fld F.RTC_ALM0_HI_enable = 0 ∧ u.rt.due0 = none ∧
        HostOnly { s with rt := u.rt } u [0x03002C, 0x030024]) ∧
    (∀ (late : Bool) (m : Int), s.rt.due1 = some (late, m) → s.pw.mode ≠ .hibernate → s.pw.mode ≠ .doze →
      s.pw.hold = none →
      ∃ u, exec (.alarm1Fire t x) s = .next u ∧ u.fld F.RTC_ALM_STAT_fired1 = 1 ∧
        u.fld F.RTC_ALM_STAT_late1 = late.toNat ∧ u.rt = { s.rt with due1 := none, mark := some m } ∧
        HostOnly { s with rt := u.rt } u [0x03002C]) ∧
    (∀ (count : Nat), s.powered = true → s.flag F.RTC_TRIM_auto = true → 0 < count →
      ∃ u, exec (.rtcTrimWindow t count true) s = .next u ∧
        u.fld F.RTC_TRIM_dir = (decide (count < 2560000000)).toNat ∧
        (4878 * count < (2560000000 - (count : Int)).natAbs * 10000000 →
          u.fld F.RTC_TRIM_pulses = 1023 ∧ u.fld F.RTC_STAT_trim_sat = 1) ∧
        RegsOnly s u [0x03001C, 0x030000]) ∧
    (∀ mv : Nat, s.powered = true →
      ∃ u, exec (.vbatMeasure t mv) s = .next u ∧ u.fld F.RTC_VBAT_mv = min mv 4095 ∧
        u.fld F.RTC_STAT_vbat_low = (decide (mv < 1800)).toNat ∧
        u.fld F.RTC_STAT_vbat_absent = (decide (mv < 1000)).toNat ∧ RegsOnly s u [0x030030, 0x030000])

/-! ## Host interface (16_host_rings) -/

/-- NOP, DEV_STATUS, LOG_READ and TEL_READ (R485, R553, R556, R597): in Full each is answered OK with what it writes,
and changes nothing but the host interface. -/
def Obligations.HostReadCommands : Prop :=
  ∀ (t : Nat) (c : Cmd) (s : State), Ready s c .command → s.pw.mode = .full →
    (∃ u, exec (.nop t c 0x0001) s = .next u ∧ Answered s u c stOK ∧ HostOnly s u []) ∧
    (c.f 0 8 % 32 = 0 → c.zero 8 16 = true →
      (∃ u b, exec (.devStatus t c) s = .next u ∧ b.length = 64 ∧ Bytes.le b 16 1 = s.fld F.HIF_GEN_gen ∧
        Bytes.le b 17 1 = s.tw.role.code ∧ Bytes.le b 18 1 = (s.tw.claim + 16 * s.tw.claimIn) % 256 ∧
        Bytes.le b 0 4 = s.topMode.toNat ∧ Bytes.zero (b.drop 32) = true ∧
        Answered s u c stOK [(c.f 0 8, b)] ∧ HostOnly s u []) ∧
      ∃ u b, exec (.telRead t c) s = .next u ∧ b.length = 128 ∧ Answered s u c stOK [(c.f 0 8, b)] ∧ HostOnly s u []) ∧
    (c.f 0 8 % 32 = 0 → c.zero 14 10 = true → 1 ≤ c.f 12 2 → c.f 12 2 ≤ 2048 →
      let es := (logFrom s.nv.log.reverse (c.f 8 4)).take (c.f 12 2)
      ∃ u, exec (.logRead t c) s = .next u ∧ HostOnly s u [] ∧ Answered s u c stOK [(c.f 0 8,
        toLE 4 es.length ++ toLE 4 ((s.nv.log.getLast?.map (·.seq)).getD 0) ++
          toLE 4 ((s.nv.log.head?.map (·.seq)).getD 0) ++ toLE 4 0 ++ (es.map LogEntry.bytes).flatten)])

/-- Doorbells (R470): the first condition that applies decides; a discarded one is counted, one that is applied sets the
ring's tail or head, and, but for a wake from Doze (R487) and for what waited for the completion ring's space, nothing
else changes. -/
def Obligations.Doorbells : Prop :=
  ∀ (t : Nat) (n : Fin 64) (narrow : Bool) (v : Word) (s : State), s.barUp = true →
    let idx := bitsN v.toNat 15 0
    let counted (f : Fld) (u : State) : Prop := u.fld f = min (s.fld f + 1) 65535 ∧ RegsOnly s u [f.off]
    ((narrow = true ∨ bitsN v.toNat 31 24 ≠ 0 ∨ s.fld (F.HIF_SQ_CFG_en n) = 0 ∨ s.io.sqSize n ≤ idx) →
      ∃ u, exec (.submissionDoorbell t n narrow v) s = .next u ∧ counted F.HIF_DB_ERR_bad_db u) ∧
    (narrow = false → bitsN v.toNat 31 24 = 0 → s.fld (F.HIF_SQ_CFG_en n) ≠ 0 → idx < s.io.sqSize n →
      (bitsN v.toNat 23 16 ≠ s.fld F.HIF_GEN_gen →
        ∃ u, exec (.submissionDoorbell t n narrow v) s = .next u ∧ counted F.HIF_DB_ERR_stale_db u) ∧
      (bitsN v.toNat 23 16 = s.fld F.HIF_GEN_gen →
        ∃ u, exec (.submissionDoorbell t n narrow v) s = .next u ∧ u.fld (F.HIF_SQ_STAT_tail n) = idx ∧
          u.fld (F.HIF_SQ_STAT_head n) = s.fld (F.HIF_SQ_STAT_head n) ∧
          (s.pw.mode ≠ .doze → RegsOnly s u [(F.HIF_SQ_STAT_tail n).off]))) ∧
    ((narrow = true ∨ bitsN v.toNat 31 24 ≠ 0 ∨ s.fld (F.HIF_CQ_CFG_en n) = 0 ∨ s.io.cqSize n ≤ idx) →
      ∃ u, exec (.completionDoorbell t n narrow v) s = .next u ∧ counted F.HIF_DB_ERR_bad_db u) ∧
    (narrow = false → bitsN v.toNat 31 24 = 0 → s.fld (F.HIF_CQ_CFG_en n) ≠ 0 → idx < s.io.cqSize n →
      ∃ u, exec (.completionDoorbell t n narrow v) s = .next u ∧ u.fld (F.HIF_CQ_STAT_head n) = idx ∧
        HostOnly s u [] ∧
        (s.io.hf.cqHeld = [] → s.io.hf.evHeld = [] → RegsOnly s u [(F.HIF_CQ_STAT_head n).off]))

/-- SQ_ENABLE, SQ_DISABLE, CQ_ENABLE, CQ_DISABLE (R483): an enabled ring starts with head and tail 0, a completion ring
in phase 1; a disabled submission ring's unfilled buffers are the host's again, and it is inactive once nothing started
is left; a completion ring that an enabled submission ring names is not disabled. -/
def Obligations.RingsEnabledAndDisabled : Prop :=
  ∀ (t : Nat) (n : Fin 64) (v : Word) (s : State), s.barUp = true →
    let sq : Prop := ∀ f ∈ [F.HIF_SQ_CFG_size_log2 n, F.HIF_SQ_CFG_buf_256 n, F.HIF_SQ_CFG_kind n, F.HIF_SQ_CFG_cq n],
      f.of v = s.fld f
    (v.getLsbD 31 = true → s.fld (F.HIF_SQ_CFG_en n) = 0 → s.io.sqActive n = false →
      6 ≤ bitsN v.toNat 4 0 → bitsN v.toNat 4 0 ≤ 16 → bitsN v.toNat 13 8 ≠ 0 → bitsN v.toNat 17 16 ≠ 3 →
      ∃ u, exec (.sqEnable t n v) s = .next u ∧ HostOnly s u [] ∧ u.fld (F.HIF_SQ_CFG_en n) = 1 ∧
        u.io.sqActive n = true ∧ u.fld (F.HIF_SQ_STAT_head n) = 0 ∧ u.fld (F.HIF_SQ_STAT_tail n) = 0 ∧
        u.fld (F.HIF_SQ_ERR_err n) = 0 ∧ u.fld (F.HIF_SQ_CFG_size_log2 n) = bitsN v.toNat 4 0 ∧
        u.fld (F.HIF_SQ_CFG_buf_256 n) = bitsN v.toNat 13 8 ∧ u.fld (F.HIF_SQ_CFG_kind n) = bitsN v.toNat 17 16 ∧
        u.fld (F.HIF_SQ_CFG_cq n) = bitsN v.toNat 23 18 ∧ u.io.hf.lost = none) ∧
    (v.getLsbD 31 = false → s.fld (F.HIF_SQ_CFG_en n) ≠ 0 → sq →
      ∃ u, exec (.sqDisable t n v) s = .next u ∧ HostOnly s u [] ∧ u.fld (F.HIF_SQ_CFG_en n) = 0 ∧
        (∀ b ∈ u.io.hf.rxBufs, b.sq ≠ n) ∧ u.io.out = s.io.out ∧
        (u.io.sqActive n = true → ∃ d ∈ s.io.hf.deferred, d.sq = n)) ∧
    (v.getLsbD 31 = true → s.fld (F.HIF_CQ_CFG_en n) = 0 → s.io.cqActive n = false →
      6 ≤ bitsN v.toNat 4 0 → bitsN v.toNat 4 0 ≤ 16 →
      (∀ k < 64, k ≠ n.val → s.fld (F.HIF_CQ_CFG_event k) = 0) → s.io.hf.cqHeld = [] → s.io.hf.evHeld = [] →
      ∃ u, exec (.cqEnable t n v) s = .next u ∧ HostOnly s u [] ∧ u.fld (F.HIF_CQ_CFG_en n) = 1 ∧
        u.io.cqActive n = true ∧ u.fld (F.HIF_CQ_STAT_head n) = 0 ∧ u.fld (F.HIF_CQ_STAT_tail n) = 0 ∧
        u.fld (F.HIF_CQ_ERR_phase n) = 1 ∧ u.fld (F.HIF_CQ_CFG_size_log2 n) = bitsN v.toNat 4 0 ∧
        u.fld (F.HIF_CQ_CFG_event n) = bitsN v.toNat 30 30 ∧ u.fld (F.HIF_CQ_CFG_vector n) = bitsN v.toNat 21 16) ∧
    (v.getLsbD 31 = false → s.fld (F.HIF_CQ_CFG_en n) ≠ 0 →
      (∀ f ∈ [F.HIF_CQ_CFG_size_log2 n, F.HIF_CQ_CFG_event n], f.of v = s.fld f) →
      ((∃ k < 64, s.fld (F.HIF_SQ_CFG_en k) ≠ 0 ∧ s.fld (F.HIF_SQ_CFG_cq k) = n) →
        ∃ u, exec (.cqDisable t n v) s = .next u ∧ u.fld (F.HIF_CQ_CFG_en n) = s.fld (F.HIF_CQ_CFG_en n) ∧
          u.fld (F.HIF_CQ_ERR_cfg_err n) = 1 ∧ HostOnly s u []) ∧
      ((∀ k < 64, s.fld (F.HIF_SQ_CFG_en k) ≠ 0 → s.fld (F.HIF_SQ_CFG_cq k) ≠ n) →
        ∃ u, exec (.cqDisable t n v) s = .next u ∧ u.fld (F.HIF_CQ_CFG_en n) = 0 ∧ u.io.cqActive n = false ∧
          HostOnly s u []))

/-- A ring stops on a failed transfer, with its ring-error event (R473); a waiting message of a ring is raised
(R484). -/
def Obligations.RingErrorsAndMessages : Prop :=
  ∀ (t : Nat) (n : Fin 64) (e : DmaErr) (s : State),
    (s.fetchable n = true →
      ∃ u, exec (.descriptorFetchFailure t .fetch n e) s = .next u ∧ u.fld (F.HIF_SQ_ERR_err n) = e.code ∧
        u.io.sqActive n = false ∧ u.io.hf.evSeq = (s.io.hf.evSeq + 1) % 65536 ∧ HostOnly s u []) ∧
    (s.io.cqActive n = true → s.fld (F.HIF_CQ_CFG_event n) = 0 → s.io.hostOk = true →
      ∃ u, exec (.descriptorFetchFailure t .completion n e) s = .next u ∧ u.fld (F.HIF_CQ_ERR_err n) = 3 ∧
        u.io.cqActive n = false ∧ HostOnly s u []) ∧
    (s.io.eventRing = some n.val → s.io.hostOk = true →
      ∃ u, exec (.descriptorFetchFailure t .event n e) s = .next u ∧ u.fld (F.HIF_CQ_ERR_err n) = 3 ∧
        u.io.cqActive n = false ∧ HostOnly s u [] ∧
        ((∀ k < 64, k ≠ n.val → s.fld (F.HIF_CQ_CFG_event k) = 0) → s.io.hf.evHeld.length < 256 →
          u.io.hf.evHeld.length = s.io.hf.evHeld.length + 1)) ∧
    ∀ k, Tbl.get? s.io.hf.coal n = some k → s.io.hostOk = true →
      k.first + 1000 * s.eFld (F.HIF_CQ_COAL_coal_us n) ≤ max s.now t →
      let v := s.fld (F.HIF_CQ_CFG_vector n)
      (s.fld (F.MSIX_CTRL_mask v) = 0 →
        ∃ u a, exec (.msixCoalesceTimer t n) s = .next u ∧ Tbl.get? u.io.hf.coal n = none ∧
          u.io.out = .msix v a (s.fld (F.MSIX_DATA_data v)) :: s.io.out ∧ HostOnly s u []) ∧
      (s.fld (F.MSIX_CTRL_mask v) ≠ 0 →
        ∃ u, exec (.msixCoalesceTimer t n) s = .next u ∧ Tbl.get? u.io.hf.coal n = none ∧ u.io.out = s.io.out ∧
          (u.word (F.MSIX_PBA_pend (v / 32)).off).getLsbD (v % 32) = true ∧ HostOnly s u [])

/-- HIF_BUMP (R480), HOST_WDOG_KICK, HOST_WDOG_EXPIRY and HOST_LOSS (R481, R482): a discard leaves no command and no
buffer and advances the generation by one; a host loss stops every ring, discards with cause 4, and leaves the mode, the
claim and the role as they were. -/
def Obligations.DiscardAndHostLoss : Prop :=
  ∀ (t : Nat) (v : Word) (s : State),
    let emptied (u : State) (cause : Nat) : Prop := u.io.hf.deferred = [] ∧ u.io.hf.rxBufs = [] ∧
      u.fld F.HIF_GEN_gen = (s.fld F.HIF_GEN_gen + 1) % 256 ∧ u.fld F.HIF_GEN_cause = cause
    let gone (u : State) (c : LossCause) : Prop := u.io.hf.lost = some c ∧ (u.word 0x050014).getLsbD c.bit = true ∧
      emptied u 4 ∧ (∀ n < 64, u.fld (F.HIF_SQ_CFG_en n) = 0 ∧ u.fld (F.HIF_CQ_CFG_en n) = 0 ∧
        u.io.sqActive n = false ∧ u.io.cqActive n = false) ∧
      u.pw.mode = s.pw.mode ∧ u.tw.claim = s.tw.claim ∧ u.tw.role = s.tw.role
    (s.barUp = true →
      (bitsN v.toNat 31 16 = 0x5A5A → v.getLsbD 0 = true →
        ∃ u, exec (.hifBump t v) s = .next u ∧ emptied u 6 ∧ u.pw.mode = s.pw.mode ∧ u.tw.role = s.tw.role) ∧
      ((bitsN v.toNat 31 16 ≠ 0x5A5A ∨ v.getLsbD 0 = false) →
        ∃ u, exec (.hifBump t v) s = .next u ∧ RegsOnly s u []) ∧
      (v.getLsbD 31 = true → ∃ u, exec (.hostWdogKick t v) s = .next u ∧
        u.fld F.HIF_HOST_WDOG_timeout_ms = bitsN v.toNat 15 0 ∧ u.io.hf.wdogAt = max s.now t ∧ HostOnly s u [])) ∧
    (s.powered = true → s.io.hf.lost = none →
      (s.fld F.HIF_HOST_WDOG_timeout_ms ≠ 0 →
        s.io.hf.wdogAt + 1000000 * max 10 (s.fld F.HIF_HOST_WDOG_timeout_ms) ≤ max s.now t →
        ∃ u, exec (.hostWdogExpiry t) s = .next u ∧ gone u .watchdog) ∧
      (s.fld F.HIF_STAT_link_up = 1 →
        (∃ u, exec (.hostLoss t .linkDown) s = .next u ∧ gone u .linkDown ∧ u.fld F.HIF_STAT_link_up = 0) ∧
        (s.io.hf.cfgReady = true → s.io.hf.perst = false →
          (s.fld F.HIF_STAT_dstate ≠ 3 →
            ∃ u, exec (.hostLoss t .d3hot) s = .next u ∧ gone u .d3hot ∧ u.fld F.HIF_STAT_dstate = 3) ∧
          (s.io.hf.busMaster = true → s.io.anyRing = true →
            ∃ u, exec (.hostLoss t .busMaster) s = .next u ∧ gone u .busMaster ∧ u.io.hf.busMaster = false))) ∧
      (s.fld F.CLK_STAT_pcie_lock = 1 →
        ∃ u, exec (.hostLoss t .pllPcie) s = .next u ∧ gone u .pllPcie ∧ u.fld F.CLK_STAT_pcie_lock = 0))

/-- PERST_N_ASSERT, PERST_N_RELEASE, PCIE_LINK_UP and PCIE_CONFIG_WRITE (R61, R73, R462, R482): PERST_N takes the `HIF_`
block to reset, all but `HIF_GEN`, and leaves the mode alone; released, the link comes up and configuration space is
ready, and WAKE_N is released. -/
def Obligations.PerstAndLink : Prop :=
  ∀ (t speed width : Nat) (s : State),
    (s.powered = true → s.io.hf.perst = false → s.io.hf.lost = none →
      ∃ u, exec (.perstNAssert t) s = .next u ∧ u.io.hf.perst = true ∧ u.io.hf.cfgReady = false ∧
        u.io.hf.lost = some .perst ∧ u.fld F.HIF_LOSS_cause = 1 ∧
        u.fld F.HIF_GEN_gen = (s.fld F.HIF_GEN_gen + 1) % 256 ∧ u.pw.mode = s.pw.mode ∧ u.tw.claim = s.tw.claim ∧
        (∀ off, 0x050000 ≤ off → off ≤ 0x05FFFF → off ≠ 0x050004 → off ≠ 0x050014 → u.word off = regReset off)) ∧
    (s.powered = true → s.fld F.CLK_STAT_pcie_lock = 1 →
      (s.io.hf.perst = true →
        ∃ u, exec (.perstNRelease t speed width) s = .next u ∧ u.io.hf.perst = false ∧ u.io.hf.wakeN = false ∧
          u.io.hf.cfgReady = true ∧ u.fld F.HIF_STAT_link_up = 1 ∧ u.fld F.HIF_STAT_speed = speed % 8 ∧
          u.fld F.HIF_STAT_width = width % 8 ∧ HostOnly s u []) ∧
      (s.io.hf.perst = false →
        ∃ u, exec (.pcieLinkUp t speed width) s = .next u ∧ u.io.hf.cfgReady = true ∧ u.fld F.HIF_STAT_link_up = 1 ∧
          u.io.hf.lost = s.io.hf.lost ∧ HostOnly s u [])) ∧
    ∀ (mem clr relaxed : Bool), s.cfgUp = true →
      (s.io.hf.lost = none →
        (s.fld F.HIF_STAT_dstate ≠ 3 → ∃ u, exec (.pcieConfigWrite t mem true 3 relaxed clr) s = .next u ∧
          u.io.hf.lost = some .d3hot ∧ u.fld F.HIF_STAT_dstate = 3 ∧ u.pw.mode = s.pw.mode) ∧
        (s.io.hf.busMaster = true → s.io.anyRing = true →
          ∃ u, exec (.pcieConfigWrite t mem false 0 relaxed clr) s = .next u ∧
            u.io.hf.lost = some .busMaster ∧ u.io.hf.busMaster = false ∧ u.pw.mode = s.pw.mode)) ∧
      ∃ u, exec (.pcieConfigWrite t mem true 0 relaxed clr) s = .next u ∧ u.io.hf.memSpace = mem ∧
        u.io.hf.busMaster = true ∧ u.fld F.HIF_STAT_dstate = 0 ∧ HostOnly s u [] ∧
        (clr = true → u.io.hf.pme = false ∧ u.io.hf.wakeN = false) ∧
        (clr = false → u.io.hf.pme = s.io.hf.pme ∧ u.io.hf.wakeN = s.io.hf.wakeN)

/-! ## Modes, power and start (02_modes_power_start) -/

/-- VIN_OK_RISE, VIN_OK_FALL, VBACK_BROWN_OUT, RAIL_OUT_OF_RANGE (R47, R70, R73, R121): a rail follows into `PWR_STAT`;
with VIN gone the device is in Hibernate; with VIN back it starts where VIN had failed, stays in a requested Hibernate,
and is powered on where the backup domain had restarted cold. -/
def Obligations.SuppliesComeAndGo : Prop :=
  ∀ (t : Nat) (x : Straps) (s : State),
    (∀ r : Bool, s.pw.vin = true → ∃ u, exec (.railOutOfRange t r) s = .next u ∧ u.pn.railBad = !r ∧
      u.fld F.PWR_STAT_rails_ok = r.toNat ∧ u.fld F.PWR_STAT_pwr_good = r.toNat ∧ u.fld F.PWR_STAT_vin_ok = 1 ∧
      RegsOnly { s with pn := u.pn } u [0x010000]) ∧
    (s.pw.vin = true → s.pw.mode ≠ .hibernate →
      ∃ u, exec (.vinOkFall t) s = .next u ∧ Restarted u ∧ u.pw.mode = .hibernate ∧ u.pw.vin = false ∧
        u.fld F.PWR_STAT_vin_ok = 0 ∧ u.fld F.PWR_STAT_pwr_good = 0 ∧
        u.fld F.PWR_STAT_hib_source = (if s.pw.trans.isSome then 3 else 2) ∧ u.rt.setNext = none ∧
        (s.fltOpen = false → u.rt.sec = s.rt.sec ∧ u.rt.frac = s.rt.frac ∧ u.nv.lease = s.nv.lease)) ∧
    (s.pw.vin = false → s.fltOpen = false →
      (s.rt.cold = true → s.pn.resetLow = false → ∃ u, exec (.vinOkRise t x) s = .next u ∧
        Started u x F.PWR_RESET_CAUSE_por ∧ u.pw.vin = true ∧ u.word 0x01000C = 0#32 ∧ u.nv.stoodDown = false) ∧
      (s.rt.cold = false → s.pn.resetLow = false → 2 ≤ s.fld F.PWR_STAT_hib_source →
        ∃ u, exec (.vinOkRise t x) s = .next u ∧ Started u x F.PWR_RESET_CAUSE_vin ∧ u.pw.vin = true ∧
          u.fld F.PWR_WAKE_CAUSE_vin_return = 1 ∧ u.nv.stoodDown = s.nv.stoodDown) ∧
      (s.rt.cold = false → s.rt.wakes = [] → s.fld F.PWR_STAT_hib_source < 2 →
        ∃ u, exec (.vinOkRise t x) s = .next u ∧ u.pw = { s.pw with vin := true } ∧ u.fld F.PWR_STAT_vin_ok = 1 ∧
          RegsOnly { s with pw := u.pw, pn := { s.pn with railBad := false, rcDown := false } } u [0x010000])) ∧
    ∃ u, exec (.vbackBrownOut t) s = .next u ∧ u.rt.sec = 0 ∧ u.rt.frac = 0 ∧ u.rt.cold = !s.pw.vin ∧
      u.fld F.RTC_STAT_time_lost = 1 ∧ u.rt.blog.length = 1 ∧ { u with rt := s.rt, io := s.io, now := s.now } = s ∧
      ∀ off, isRtcOff off = false → u.word off = s.word off

/-- RESET_N_ASSERT, RESET_N_RELEASE, SOFTWARE_RESET (R73, R78, R593): a low of less than 0.2 µs does nothing and one of
1 µs resets; the device starts with the release; the keyed write resets and starts, keeping `TOP_SCRATCH`. -/
def Obligations.ResetsTakeHold : Prop :=
  ∀ (t width : Nat) (acts : Bool) (v : Word) (x : Straps) (s : State),
    (width < 200 → exec (.resetNAssert t width acts) s = .next { s with now := max s.now t }) ∧
    ((1000 ≤ width ∨ (200 ≤ width ∧ acts = true)) → s.pw.vin = true →
      ∃ u, exec (.resetNAssert t width acts) s = .next u ∧ Restarted u ∧ u.pw.hold = some .pin ∧
        u.nv.stoodDown = false ∧
        (s.fltOpen = false → u.pn.resetLow = true ∧ u.tw.claimIn = s.tw.claimIn ∧ u.rt = s.rt)) ∧
    (s.pw.hold = some .pin → s.pn.rcDown = false → s.tw.claim = 0 →
      ∃ u, exec (.resetNRelease t x) s = .next u ∧ u.pw.hold = none ∧ u.pw.stage = .rom ∧ u.pn.resetLow = false ∧
        u.pw.mode = (if x.rescue then .rescue else s.pw.mode) ∧ u.fld F.PWR_RESET_CAUSE_pin = 1 ∧
        u.fld F.TOP_STRAP_rescue = x.rescue.toNat ∧ u.fld F.TOP_STRAP_twin_id = x.id.toNat ∧
        (x.rescue = true → u.fld F.UPD_STAT_rescue_cause = 1 ∧ u.up.running = none)) ∧
    (s.pw.hold = some .pin → s.pn.rcDown = true →
      ∃ u, exec (.resetNRelease t x) s = .next u ∧ u.pw.hold = some .rc ∧ u.fld F.PWR_RESET_CAUSE_pin = 1) ∧
    (s.barUp = true → bitsN v.toNat 31 16 = 0x5A5A →
      ∃ u, exec (.softwareReset t v x) s = .next u ∧ Started u x F.PWR_RESET_CAUSE_soft ∧
        (s.fltOpen = false → u.word 0x00001C = s.word 0x00001C ∧ u.rt = s.rt ∧ u.pn = s.pn)) ∧
    ((s.barUp = false ∨ bitsN v.toNat 31 16 ≠ 0x5A5A) →
      exec (.softwareReset t v x) s = .next { s with now := max s.now t })

/-- WAKE_IN_RISE, GPIO_WAKE, ETH_SIGNAL_DETECT (R75, R76, R545, R567): in Doze an enabled source begins the return and
is recorded; WAKE_IN starts the device from Hibernate, or waits there for VIN, and ends a Dusk run. -/
def Obligations.WakeSourcesAct : Prop :=
  ∀ (t : Nat) (x : Straps) (s : State),
    (s.pw.mode = .doze → s.pw.trans = none →
      (s.wakeOn 1 = true → ∃ u, exec (.wakeInRise t x) s = .next u ∧ Woken s u 1) ∧
      (∀ p : Fin 2, s.wakeOn (4 + p.val) = true → ∃ u, exec (.ethSignalDetect t p) s = .next u ∧ Woken s u (4 + p.val)) ∧
      ∀ n : Fin 8, s.wakeOn (6 + n.val) = true → bitN (s.word 0x480004).toNat n.val = false →
        bitN s.pn.gpioExt n.val = false → bitN (s.fld F.GPI_WAKE_LVL_level) n.val = true →
        ∃ u, exec (.gpioWake t n true) s = .next u ∧ u.pn.gpioExt = s.pn.gpioExt + 2 ^ n.val ∧
          Woken { s with pn := u.pn } u (6 + n.val)) ∧
    (s.pw.mode = .hibernate → s.rt.wakeEn.getLsbD 1 = true →
      (s.pw.vin = true → s.pn.resetLow = false → s.pn.rcDown = false → s.fltOpen = false →
        ∃ u, exec (.wakeInRise t x) s = .next u ∧ Started u x F.PWR_RESET_CAUSE_vin ∧
          u.fld F.PWR_WAKE_CAUSE_wake_in = 1) ∧
      (s.pw.vin = false → ∃ u, exec (.wakeInRise t x) s = .next u ∧
        u = { s with now := max s.now t, rt := { s.rt with wakes := s.rt.wakes ++ [4] } })) ∧
    (s.pw.mode = .dusk → s.wakeOn 1 = true → s.fld F.DSK_STAT_running = 1 → s.dk.abort = 0 →
      ∃ u, exec (.wakeInRise t x) s = .next u ∧ u.dk.abort = 2 ∧ u.fld F.DSK_STAT_aborting = 1) ∧
    (s.pw.mode = .full ∨ s.pw.mode = .dawn →
      exec (.wakeInRise t x) s = .next { s with now := max s.now t })

/-- The staged start (R60 to R63, R142, R521, R522): DAWN_IMAGE_VERIFIED, DAWN_ON_AIR, DRAM_TRAINING_DONE, VDDQ_RETRY,
FULL_SET_LOADED, ENGINES_LOADED and FULL_REACHED each take the start one stage on; a failure leads to Rescue, to Dawn
held, or to the boot watchdog's reset. -/
def Obligations.StagedStart : Prop :=
  ∀ (t : Nat) (x : Straps) (lost : List Nat) (s : State), s.ck.refFailed = false → s.pw.mode = .dawn → Alone s →
    (s.pw.stage = .rom → s.pw.hold = none →
      (∃ u, exec (.dawnImageVerified t false) s = .next u ∧ u.pw.mode = .rescue ∧ u.fld F.UPD_STAT_rescue_cause = 3) ∧
      (((s.at t).chooseSet [s.bootSet, !s.bootSet]).1 = none →
        ∃ u, exec (.dawnImageVerified t true) s = .next u ∧ u.pw.mode = .rescue ∧
          u.fld F.UPD_STAT_rescue_cause = 2 ∧ u.up.running = none) ∧
      ∀ b, ((s.at t).chooseSet [s.bootSet, !s.bootSet]).1 = some b →
        ∃ u, exec (.dawnImageVerified t true) s = .next u ∧ u.pw.mode = .dawn ∧ u.pw.stage = .verified ∧
          u.up.running = some b ∧ u.fld F.TPL_STAT_image_set = b.toNat ∧ u.fld F.TPL_STAT_code = 1) ∧
    (s.pw.stage = .verified → s.pw.trans = none → s.fld F.CLK_STAT_a_lock = 1 →
      ∃ u, exec (.dawnOnAir t) s = .next u ∧ u.pw.stage = .training ∧ u.pw.trans = some .toFull ∧
        u.pw.wdog = some (max s.now t + 1000000 * max 2000 (s.fld F.UPD_CFG_wdog_ms)) ∧
        u.fld F.TPL_STAT_dawn_active = 1 ∧
        (let ms := (max s.now t - s.pw.startAt) / 1000000
         ms < 65536 → u.fld F.PWR_START_TIME_dawn_ms = ms) ∧
        ∀ b, s.up.running = some b → (u.ent b).tries = (s.ent b).tries - 1) ∧
    (s.pw.stage = .training →
      (s.pw.trans = some .toFull → s.fld F.CLK_STAT_a_lock = 1 → s.fld F.CLK_STAT_b_lock = 1 →
        s.fld F.CLK_STAT_ddr_lock = 1 → ∀ vddq ok : Bool,
        ∃ u, exec (.dramTrainingDone t vddq ok) s = .next u ∧ u.fld F.PWR_STAT_vddq_missing = (!vddq).toNat ∧
          u.pw = (if vddq && ok then { s.pw with dram := true, stage := .loading } else { s.pw with trans := none })) ∧
      (s.pw.trans = none → ∀ vddq : Bool,
        ∃ u, exec (.vddqRetry t vddq) s = .next u ∧ u.fld F.PWR_STAT_vddq_missing = (!vddq).toNat ∧
          u.pw = (if vddq then { s.pw with trans := some .toFull } else s.pw))) ∧
    (s.pw.stage = .loading → s.setCheck s.loadSet allComps = none →
      ∃ u, exec (.fullSetLoaded t x) s = .next u ∧ u.pw = { s.pw with stage := .engines } ∧
        u.hasCopy s.loadSet = true) ∧
    (s.pw.stage = .engines → s.pw.trans = some .toFull →
      (∃ u, exec (.enginesLoaded t true lost x) s = .next u ∧ u.pw = { s.pw with stage := .done } ∧
        ∀ k < 6, u.fld (F.PCT_SEQ_seq k) = 0) ∧
      ((s.ent (!s.loadSet)).usable = false →
        ∃ u, exec (.enginesLoaded t false lost x) s = .next u ∧ Started u x F.PWR_RESET_CAUSE_wdog)) ∧
    (s.pw.stage = .done → s.pw.trans = some .toFull → s.lhReady false = true → s.lhReady true = true →
      ∀ ok : Bool, ∃ u, exec (.fullReached t ok lost) s = .next u ∧ u.pw.mode = .full ∧ u.pw.trans = none ∧
        u.pw.wdog = none ∧ u.up.running = some s.loadSet ∧ u.fld F.TPL_STAT_dawn_active = 0 ∧
        u.pw.prevMode = 2) ∧
    ∀ d, s.pw.wdog = some d →
      (max s.now t < d → exec (.bootWatchdogExpiry t x) s = .next { s with now := max s.now t }) ∧
      (d ≤ max s.now t → (s.pw.trans = some .pause ∨ (s.ent (!s.loadSet)).usable = false) →
        ∃ u, exec (.bootWatchdogExpiry t x) s = .next u ∧ Started u x F.PWR_RESET_CAUSE_wdog)

/-- MODE_REQUEST (R54, R55) in Full: a request that asks for the mode the device is in completes OK; one that may not be
served is turned away with no effect; any other completes DEFERRED with its transition in progress. -/
def Obligations.ModeRequestInFull : Prop :=
  ∀ (t : Nat) (c : Cmd) (s : State), Ready s c .command → s.pw.mode = .full →
    c.f 0 1 ≤ 4 → c.f 1 1 ≤ 3 → (c.f 1 1 = 0 ∨ c.f 0 1 = 4) → (c.f 4 4 = 0 ∨ c.f 0 1 = 0) → c.zero 2 2 = true →
    c.zero 8 16 = true →
    let refused : Prop := ∃ u, exec (.modeRequest t c) s = .next u ∧ Answered s u c stUNSUPPORTED ∧ HostOnly s u []
    let begins (tr : Trans) : Prop := ∃ u, exec (.modeRequest t c) s = .next u ∧ Deferred s u c 0x0003 (c.f 0 1) ∧
      u.pw.mode = .full ∧ u.pw.trans = some tr ∧ u.ml = s.ml ∧ u.nv = s.nv ∧ u.pt = s.pt ∧ u.wl = s.wl
    (s.moving = true → refused) ∧
    (s.moving = false →
      (c.f 0 1 = 3 → ∃ u, exec (.modeRequest t c) s = .next u ∧ Answered s u c stOK ∧ HostOnly s u []) ∧
      (c.f 0 1 = 0 → begins .toHibernate) ∧
      (c.f 0 1 = 1 → s.tw.role ≠ .solo ∨ s.fld F.PWR_RADIO_PERS_s_eff = 0 → refused) ∧
      (c.f 0 1 = 1 → s.tw.role = .solo → s.fld F.PWR_RADIO_PERS_s_eff = 1 → begins .toDoze) ∧
      (c.f 0 1 = 2 → begins .toDawn) ∧
      (c.f 0 1 = 4 → s.io.hf.deferred ≠ [] → refused) ∧
      (c.f 0 1 = 4 → s.io.hf.deferred = [] → begins .toDusk))

/-- DOZE_ENTRY, DOZE_HOLD_LIMIT, DOZE_SLOT_WAKE, FULL_REACHED from Doze, HIBERNATE_ENTRY, REQUESTED_DAWN_ENTRY and
SNAPSHOT_PERIODIC (R51 to R53, R56, R64, R72, R183): each move that was begun is completed, and `TOP_MODE` follows. -/
def Obligations.MovesBetweenModes : Prop :=
  ∀ (t : Nat) (s : State), Alone s →
    (s.pw.trans = some .toDoze → s.startedWork = false → s.pw.mode = .full →
      ∃ u, exec (.dozeEntry t) s = .next u ∧ u.pw.mode = .doze ∧ u.pw.prevMode = 3 ∧
        u.fld F.PWR_RADIO_PERS_l_eff = 0 ∧ u.fld F.PWR_RADIO_PERS_h_eff = 0 ∧ u.fld F.CLK_STAT_timebase_src = 1 ∧
        (∀ f ∈ u.sr.input, match f.2.src with
          | .eth _ => False
          | .wifi _ _ => False
          | _ => True)) ∧
    (s.pw.mode = .doze → s.pw.trans = none →
      (max 1 (s.fld F.PWR_DOZE_CFG_hold_cells) ≤ s.heldCells →
        ∃ u, exec (.dozeHoldLimit t) s = .next u ∧ Woken s u 14) ∧
      (s.pw.slotPowered = false → s.ck.refFailed = false →
        ∃ u, exec (.dozeSlotWake t) s = .next u ∧ u.pw = { s.pw with slotPowered := true } ∧
          u.fld F.CLK_STAT_timebase_src = 0 ∧ u.ml = s.ml)) ∧
    (s.pw.mode = .doze → s.pw.trans = some .fromDoze → s.ck.refFailed = false → s.pw.held = [] → ∀ lost,
      ∃ u, exec (.fullReached t true lost) s = .next u ∧ u.pw.mode = .full ∧ u.pw.prevMode = 1 ∧ u.pw.held = [] ∧
        u.fld F.CLK_STAT_timebase_src = 0) ∧
    (s.pw.trans = some .toHibernate →
      ∃ u, exec (.hibernateEntry t) s = .next u ∧ Restarted u ∧ u.pw.mode = .hibernate ∧ u.pw.stage = .off ∧
        u.fld F.PWR_STAT_hib_source = 1) ∧
    (s.pw.trans = some .toDawn → s.pw.mode = .full →
      ∃ u, exec (.requestedDawnEntry t) s = .next u ∧ u.pw.mode = .dawn ∧ u.pw.requestedDawn = true ∧
        u.pw.stage = .onAir ∧ u.fld F.TPL_STAT_dawn_active = 1 ∧ u.fld F.HIF_GEN_gen = (s.fld F.HIF_GEN_gen + 1) % 256 ∧
        u.pt.mac = [] ∧ u.wl.clients = [] ∧ u.up.copyA = false ∧ u.up.copyB = false) ∧
    (s.flag F.PWR_SNAP_CFG_enable = true → (s.pw.mode = .full ∨ s.pw.mode = .doze) →
      s.pw.snapAt + 1000000000 * clamp 10 3600 (s.eFld F.PWR_SNAP_CFG_interval_s) ≤ max s.now t →
      (∃ u b, exec (.snapshotPeriodic t true) s = .next u ∧ (u.nv.snap0 = some b ∨ u.nv.snap1 = some b) ∧
        b.seq = max ((s.nv.snap0.map (·.seq)).getD 0) ((s.nv.snap1.map (·.seq)).getD 0) + 1 ∧ b.at_rtc = s.rtc ∧
        b.sfLen = s.ml.sfLen ∧ b.sfMap = s.ml.sfMap ∧ b.slot = s.ml.slot ∧ u.pw.snapAt = max s.now t ∧
        (u.nv.snap0 = s.nv.snap0 ∨ u.nv.snap1 = s.nv.snap1)) ∧
      ∃ u, exec (.snapshotPeriodic t false) s = .next u ∧ u.nv = s.nv ∧ u.fld F.PWR_SNAP_STAT_write_err = 1)

/-! ## Clocks (03_clocks) -/

/-- RC_OSC_FAIL_ONE, RC_OSC_FAIL_TWO, RC_HOLD_END, RC_TRIM_TICK (R80, R81): one failure is recorded; two stop the voted
clock and hold the device in reset, with its start when the clock has run again; the trim code moves one step where the
error passes 0.05 %, and stays while XTAL32 is not good. -/
def Obligations.RcOscillators : Prop :=
  ∀ (t count : Nat) (x : Straps) (s : State),
    (s.powered = true → ∃ u, exec (.rcOscFailOne t) s = .next u ∧ u.fld F.CLK_FAIL_rc_one = 1 ∧
      u.fld F.CLK_STAT_rc_count = 0 ∧ RegsOnly s u [0x020000, 0x020004]) ∧
    (s.pw.mode ≠ .hibernate → s.pw.vin = true → s.pn.rcDown = false →
      ∃ u, exec (.rcOscFailTwo t) s = .next u ∧ Restarted u ∧ u.pn.rcDown = true ∧ u.pw.hold ≠ none ∧
        u.fld F.CLK_STAT_rc_count = 0) ∧
    (s.pn.rcDown = true → s.pw.hold = some .rc → s.pn.resetLow = false → s.tw.claim = 0 →
      ∃ u, exec (.rcHoldEnd t x) s = .next u ∧ u.pn.rcDown = false ∧ u.pw.hold = none ∧ u.pw.stage = .rom ∧
        u.pw.mode = (if x.rescue then .rescue else s.pw.mode) ∧ u.fld F.PWR_RESET_CAUSE_tpl = 1 ∧ u.free = s.free + 1) ∧
    (s.powered = true →
      (s.fld F.CLK_STAT_xtal_ok = 0 → ∃ u, exec (.rcTrimTick t count) s = .next u ∧
        u.fld F.CLK_RC_TRIM_frozen = 1 ∧ u.fld F.CLK_RC_TRIM_code = s.fld F.CLK_RC_TRIM_code ∧
        RegsOnly s u [0x020020]) ∧
      (s.fld F.CLK_STAT_xtal_ok ≠ 0 → ∃ u, exec (.rcTrimTick t count) s = .next u ∧
        u.fld F.CLK_RC_TRIM_frozen = 0 ∧ RegsOnly s u [0x020020] ∧
        (96048000 < count → u.fld F.CLK_RC_TRIM_code = s.fld F.CLK_RC_TRIM_code - 1) ∧
        (count < 95952000 → u.fld F.CLK_RC_TRIM_code = min 255 (s.fld F.CLK_RC_TRIM_code + 1)) ∧
        (95952000 ≤ count → count ≤ 96048000 → u.fld F.CLK_RC_TRIM_code = s.fld F.CLK_RC_TRIM_code)))

/-- REFCLK_STOP_DETECT, REFCLK_FREQ_DETECT, REFCLK_ABSENT_100MS, REFCLK_RETURN (R92 to R95): a failure is latched, every
PLL's lock clears, the outputs are forced, the timebase moves to XTAL32 and the host is lost; after the return the
device leaves Full for Dawn and loads again. -/
def Obligations.RefclkFailsAndReturns : Prop :=
  ∀ (t c1 c2 : Nat) (s : State),
    let failed (u : State) : Prop := u.ck.refFailed = true ∧ u.ck.forced = true ∧ u.fld F.CLK_STAT_ref_ok = 0 ∧
      u.fld F.CLK_STAT_timebase_src = 1 ∧ u.fld F.TPL_STAT_dawn_active = 0 ∧ u.pw.wdog = none ∧
      (∀ p < 7, u.fld (pllLock p) = 0) ∧ u.io.hf.lost ≠ none ∧ u.pw.mode = s.pw.mode
    (s.powered = true → s.ck.refFailed = false → Alone s →
      (∃ u, exec (.refclkStopDetect t) s = .next u ∧ u.fld F.CLK_FAIL_ref_stop = 1 ∧ failed u) ∧
      (s.fld F.CLK_STAT_xtal_ok = 1 → refOut c1 = true → refOut c2 = true →
        ∃ u, exec (.refclkFreqDetect t c1 c2) s = .next u ∧ u.fld F.CLK_FAIL_ref_freq = 1 ∧
          u.fld F.CLK_REF_COUNT_count = c2 % 65536 ∧ failed u)) ∧
    (s.powered = true → s.fld F.CLK_STAT_xtal_ok = 1 → (refOut c1 = false ∨ refOut c2 = false) →
      ∃ u, exec (.refclkFreqDetect t c1 c2) s = .next u ∧ u.fld F.CLK_REF_COUNT_count = c2 % 65536 ∧
        RegsOnly s u [0x020024]) ∧
    (∀ c, refOut c = false ↔ 39054 ≤ c ∧ c ≤ 39071) ∧
    (s.powered = true → s.ck.refFailed = true → s.fl.live % 2 = 0 →
      ∃ u, exec (.refclkAbsent100ms t) s = .next u ∧ u.fl.live = s.fl.live + 1 ∧
        u.fld F.TEL_FAULT_clock_supply = 1 ∧ (∃ e rest, u.nv.log = e :: rest ∧ e.kind = 7 ∧ e.source = 2) ∧
        HostOnly { s with fl := u.fl, nv := u.nv } u [0x0B0004]) ∧
    (s.ck.refFailed = true →
      (s.powered = false → ∃ u, exec (.refclkReturn t) s = .next u ∧ u.ck.refFailed = false ∧ u.ck.forced = false ∧
        u.fld F.CLK_STAT_ref_ok = 1 ∧ RegsOnly { s with ck := u.ck } u [0x020000]) ∧
      (s.powered = true → s.pw.mode = .full → (s.at t).justReturned = false → Alone s →
        ∃ u, exec (.refclkReturn t) s = .next u ∧ u.ck.refFailed = false ∧ u.fld F.CLK_STAT_ref_ok = 1 ∧
          u.fld F.CLK_STAT_timebase_src = 0 ∧ u.pw.mode = .dawn ∧ u.pw.trans = some .toFull ∧
          u.pw.stage = .training ∧ u.pw.refBack = true))

/-- XTAL32_STOP, XTAL32_RESTART, XTAL32_GAP_HIBERNATE (R98, R118): the tick moves to REFCLK_IN at the cost of 8
fraction counts and back, and a gap in Hibernate is latched with the loss of the time. -/
def Obligations.Xtal32StopsAndRestarts : Prop :=
  ∀ (t : Nat) (s : State),
    (s.pw.vin = true → s.pw.mode ≠ .hibernate → s.fld F.CLK_STAT_xtal_ok = 1 →
      ∃ u, exec (.xtal32Stop t) s = .next u ∧ u.fld F.CLK_FAIL_xtal_stop = 1 ∧ u.fld F.CLK_STAT_xtal_ok = 0 ∧
        u.fld F.CLK_STAT_tick_src = 1 ∧ u.fld F.CLK_RC_TRIM_frozen = 1 ∧ u.rtc = s.rtc + 8 ∧
        { u with rt := s.rt, io := s.io, now := s.now } = s) ∧
    (s.fld F.CLK_STAT_xtal_ok = 0 → ∃ u, exec (.xtal32Restart t) s = .next u ∧ u.fld F.CLK_STAT_xtal_ok = 1 ∧
      u.fld F.CLK_STAT_tick_src = 0 ∧ u.fld F.CLK_RC_TRIM_frozen = 0 ∧ RegsOnly s u [0x020000, 0x020020]) ∧
    (s.pw.mode = .hibernate → ∃ u, exec (.xtal32GapHibernate t) s = .next u ∧ u.fld F.RTC_STAT_xtal_gap = 1 ∧
      u.fld F.RTC_STAT_time_lost = 1 ∧ RegsOnly s u [0x030000])

/-- PLL_UNLOCK, PLL_RELOCK_ATTEMPT (R99, R598), OP_STEP_DONE (R85 to R87), THERMAL_CAP_CHANGE (R88) and
GATE_CLOSE_TIMEOUT (R90, R91). -/
def Obligations.PllsPointsAndGates : Prop :=
  ∀ (t : Nat) (pll : Fin 7) (s : State),
    (s.powered = true → s.fld (pllLock pll) = 1 → Alone s →
      ∃ u, exec (.pllUnlock t pll) s = .next u ∧ u.fld (pllLock pll) = 0 ∧
        bitN (u.fld F.CLK_FAIL_pll_unlock) pll = true ∧
        (pll.val = 3 → s.io.hf.lost = none → u.io.hf.lost = some .pllPcie ∧ u.pw.mode = s.pw.mode) ∧
        (pll.val ≤ 2 → s.pw.mode = .full → u.pw.mode = .dawn ∧ u.fld F.HIF_GEN_cause = 1)) ∧
    (s.powered = true → s.ck.refFailed = false → s.fld (pllLock pll) = 0 →
      ∃ u, exec (.pllRelockAttempt t pll true) s = .next u ∧ u.fld (pllLock pll) = 1 ∧
        RegsOnly { s with rs := u.rs, pw := u.pw } u [0x020000] ∧ u.pw.mode = s.pw.mode) ∧
    (exec (.pllRelockAttempt t pll false) s = .next { s with now := max s.now t }) ∧
    (∀ p < 4, s.ck.seqTo = some p → min (s.fld F.CLK_OP_CFG_target) (min s.modeLimit (s.fld F.CLK_OP_STAT_cap)) = p →
      ∃ u, exec (.opStepDone t) s = .next u ∧ u.fld F.CLK_OP_STAT_op = p ∧ u.fld F.CLK_OP_STAT_busy = 0 ∧
        u.ck = { s.ck with seqTo := none, vcore := vcoreOf p } ∧
        u.fld F.CLK_OP_STAT_changes = (s.fld F.CLK_OP_STAT_changes + 1) % 65536) ∧
    (∀ temp : Int, s.powered = true → s.pw.mode ≠ .dusk →
      let cap := s.fld F.CLK_OP_STAT_cap
      ∃ u, exec (.thermalCapChange t temp) s = .next u ∧ u.ck.temp = temp ∧
        (120 ≤ temp → u.fld F.CLK_OP_STAT_cap = min cap 1) ∧
        (115 < temp → temp < 120 → u.fld F.CLK_OP_STAT_cap = min cap 2) ∧
        (temp = 115 → u.fld F.CLK_OP_STAT_cap = 2) ∧
        (110 < temp → temp < 115 → u.fld F.CLK_OP_STAT_cap = max 2 cap) ∧
        (temp ≤ 110 → u.fld F.CLK_OP_STAT_cap = 3)) ∧
    ∀ (block : Fin 23), s.powered = true →
      ∃ u, exec (.gateCloseTimeout t block none []) s = .next u ∧ u.fld F.CLK_FAIL_gate_timeout = 1 ∧
        u.fld F.CLK_GATE_ERR_count = min (s.fld F.CLK_GATE_ERR_count + 1) 65535 ∧
        u.fld F.CLK_GATE_ERR_block = block ∧ (∃ e rest, u.nv.log = e :: rest ∧ e.kind = 2 ∧ e.source = block) ∧
        HostOnly { s with nv := u.nv } u [0x020004, 0x02001C]

/-! ## Triplicate and the Post-box (05_triplicate) -/

/-- LANE_DISAGREEMENT, RESYNC_REJOIN, PAIR_DISAGREEMENT and TPL_FATAL_RESET (R128 to R135): a lane that differs leaves the
voting set and is resynchronised, and joins again; the third mark within 60 s, or a copy that fails twice, retires it;
a difference in pair mode stops the voter, clears the claim, and resets the device 10 µs later. -/
def Obligations.VoterAndLanes : Prop :=
  ∀ (t : Nat) (lane : Fin 3) (w : LaneWhat) (x : Straps) (s : State),
    let marks := ((lane.val, max s.now t) :: s.tp.marks).filter
      fun m => m.1 == lane.val && decide (max s.now t ≤ m.2 + 60000000000)
    (s.votes = true → w ≠ .readBack → bitN (s.fld F.TPL_STAT_voting) lane = true →
      (s.fld F.TPL_STAT_pair_mode = 0 → Alone s →
        ∃ u, exec (.laneDisagreement t lane w) s = .next u ∧ bitN (u.fld F.TPL_STAT_voting) lane = false ∧
          u.fld F.TPL_STAT_pair_mode = 1 ∧ u.fld F.TPL_DISAGREE_lane = lane ∧
          u.fld F.TPL_DISAGREE_count = min (s.fld F.TPL_DISAGREE_count + 1) 65535 ∧
          (marks.length < 3 → u.fld F.TPL_STAT_resync_busy = 1 ∧ u.fld F.TPL_STAT_resync_lane = lane ∧
            u.fld F.TPL_STAT_retired = s.fld F.TPL_STAT_retired ∧ SameWords s u [0x040000, 0x040004, 0x040028]) ∧
          (3 ≤ marks.length → bitN (u.fld F.TPL_STAT_retired) lane = true ∧
            u.fld F.TPL_STAT_resync_busy = 0 ∧ u.fld F.TEL_FAULT_voted = 1)) ∧
      (s.fld F.TPL_STAT_pair_mode = 1 → Alone s →
        ∃ u, exec (.laneDisagreement t lane w) s = .next u ∧ u.tp.pairFail = some (max s.now t) ∧ u.tw.claim = 0 ∧
          u.ck.forced = true ∧ u.fld F.TEL_FAULT_voted = 1)) ∧
    (s.votes = true → s.fld F.TPL_STAT_resync_busy = 1 → s.fld F.TPL_STAT_resync_lane = lane →
      (s.tp.copyRestarted = false → ∃ u, exec (.laneDisagreement t lane .readBack) s = .next u ∧
        u.tp = { s.tp with copyRestarted := true } ∧ RegsOnly { s with tp := u.tp } u [0x040004]) ∧
      (s.tp.copyRestarted = true → Alone s → ∃ u, exec (.laneDisagreement t lane .readBack) s = .next u ∧
        bitN (u.fld F.TPL_STAT_retired) lane = true ∧ u.fld F.TPL_STAT_resync_busy = 0) ∧
      ∃ u, exec (.resyncRejoin t) s = .next u ∧ bitN (u.fld F.TPL_STAT_voting) lane = true ∧
        u.fld F.TPL_STAT_pair_mode = 0 ∧ u.fld F.TPL_STAT_resync_busy = 0 ∧
        u.fld F.TPL_RESYNC_count = min (s.fld F.TPL_RESYNC_count + 1) 65535 ∧
        u.fld F.TPL_RESYNC_last_us = min ((max s.now t - s.tp.resyncAt + 999) / 1000) 2047 ∧
        RegsOnly { s with tp := u.tp } u [0x040000, 0x040008, 0x040028]) ∧
    (s.votes = true → s.fld F.TPL_STAT_pair_mode = 1 → Alone s →
      ∃ u, exec (.pairDisagreement t) s = .next u ∧ u.tp.pairFail = some (max s.now t) ∧ u.tw.claim = 0 ∧
        u.ck.forced = true ∧ u.fld F.TEL_FAULT_voted = 1 ∧ u.pw.faultHeld = s.pw.faultHeld ++ [(5, 0xFF)]) ∧
    ∀ a, s.tp.pairFail = some a →
      (max s.now t < a + 10000 → exec (.tplFatalReset t x) s = .next { s with now := max s.now t }) ∧
      (a + 10000 ≤ max s.now t → s.fltOpen = false → s.pn.resetLow = false → s.pn.rcDown = false →
        ∃ u, exec (.tplFatalReset t x) s = .next u ∧ Started u x F.PWR_RESET_CAUSE_tpl)

/-- PBOX_STATE_REFRESH and PBOX_POP (R143 to R146): an item that fits is appended whole with a header whose CRC-8 holds,
one that does not fit is counted; a pop returns the oldest word, 0 from an empty Post-box, and a corrupted item is
counted at its end. -/
def Obligations.PostboxPushAndPop : Prop :=
  ∀ (t : Nat) (s : State),
    (s.votes = true → s.fld F.TPL_STAT_code = 1 →
      (s.tp.words < 1024 → ∃ u it, exec (.pboxStateRefresh t) s = .next u ∧ itemOk it = true ∧ it.length = 1 ∧
        u.tp = { s.tp with pseq := (s.tp.pseq + 1) % 256, plost := 0, pbox := s.tp.pbox ++ [it] } ∧
        { u with tp := s.tp, now := s.now } = s) ∧
      (1024 ≤ s.tp.words → ∃ u, exec (.pboxStateRefresh t) s = .next u ∧ u.tp.pbox = s.tp.pbox ∧
        u.tp.plost = s.tp.plost + 1 ∧
        u.fld F.TPL_PBOX_ERR_overflow = min (s.fld F.TPL_PBOX_ERR_overflow + 1) 65535)) ∧
    (s.inFull = true → ∀ upset : PWord,
      (s.tp.pbox = [] → ∃ u, exec (.pboxPop t upset) s = .next u ∧ u.io.out = .pbox 0#64 :: s.io.out ∧ u.tp = s.tp) ∧
      (∀ w v ws rest, s.tp.pbox = (w :: v :: ws) :: rest →
        ∃ u, exec (.pboxPop t upset) s = .next u ∧ u.io.out = .pbox (w ^^^ upset) :: s.io.out ∧
          u.tp = { s.tp with pbox := (v :: ws) :: rest, read := s.tp.read ++ [w ^^^ upset] } ∧ RegsOnly
            { s with tp := u.tp, io := { s.io with out := u.io.out } } u []) ∧
      (∀ w rest, s.tp.pbox = [w] :: rest →
        ∃ u, exec (.pboxPop t upset) s = .next u ∧ u.io.out = .pbox (w ^^^ upset) :: s.io.out ∧
          u.tp = { s.tp with pbox := rest, read := [] } ∧
          u.fld F.TPL_PBOX_ERR_crc_drop = (if itemOk (s.tp.read ++ [w ^^^ upset]) then s.fld F.TPL_PBOX_ERR_crc_drop
            else min (s.fld F.TPL_PBOX_ERR_crc_drop + 1) 65535) ∧ SameWords s u [0x040028]))

/-! ## Register accesses (00_scope) -/

/-- REGISTER_WRITE (R5, R6, R39): an access that does not reach BAR0 does nothing; a write of under 32 bits or off its
alignment, and one of a gated block, is discarded and recorded; one of an offset with no register is discarded, and a
read of it (PAIR_LO_READ) returns 0. -/
def Obligations.WritesThatAreDiscarded : Prop :=
  ∀ (t off len val : Nat) (s : State),
    (s.barUp = false → exec (.registerWrite t off len val) s = .next { s with now := max s.now t }) ∧
    (s.barUp = true → (len < 4 ∨ off % 4 ≠ 0) →
      ∃ u, exec (.registerWrite t off len val) s = .next u ∧
        u.fld F.HIF_ACC_ERR_narrow_wr = min (s.fld F.HIF_ACC_ERR_narrow_wr + 1) 65535 ∧
        u.word 0x05001C = BitVec.ofNat 32 (2 ^ 24 + off / 2 ^ 16 % 256 * 2 ^ 16 + off % 2 ^ 16) ∧
        RegsOnly s u [0x050018, 0x05001C]) ∧
    (s.barUp = true → off % 4 = 0 → s.blockOn off = false →
      ∃ u, exec (.registerWrite t off 4 val) s = .next u ∧
        u.fld F.HIF_ACC_ERR_gated = min (s.fld F.HIF_ACC_ERR_gated + 1) 65535 ∧
        u.word 0x05001C = BitVec.ofNat 32 (2 * 2 ^ 24 + off / 2 ^ 16 % 256 * 2 ^ 16 + off % 2 ^ 16) ∧
        RegsOnly s u [0x050018, 0x05001C]) ∧
    (s.barUp = true → off % 4 = 0 → s.blockOn off = true → famOf off = none →
      exec (.registerWrite t off 4 val) s = .next { s with now := max s.now t }) ∧
    (s.barUp = true → off % 4 = 0 → famOf off = none →
      ∃ u, exec (.pairLoRead t off) s = .next u ∧ u.io.out = .readData off 0#32 :: s.io.out)

/-- REGISTER_WRITE of one register under the types of its fields (R7, R9, R592), bit by bit: RW and RW-L bits take the
value, RW-Q bits only while the block is stopped, a 1 clears a W1C bit, every other bit stays; an RW-L field of a
stopped block takes effect at once; a refused RW-Q write sets the block's `cfg_err`.  Said for registers of each block
and each mixture of types. -/
def Obligations.WritesFollowTheAccessTypes : Prop :=
  ∀ (t off : Nat) (f : RegFam) (w : Word) (s : State),
    off ∈ [0x00001C, 0x010010, 0x010018, 0x010020, 0x040010, 0x090004, 0x0B0008, 0x100008, 0x100028, 0x100034, 0x100038,
      0x100040, 0x100048, 0x140028, 0x14003C, 0x140140, 0x180010, 0x180018, 0x1C0018, 0x200018, 0x300004, 0x340014,
      0x34001C, 0x340020, 0x380010, 0x381004, 0x400018, 0x401008, 0x440104, 0x480018, 0x480028] →
    famOf off = some f → s.barUp = true → s.blockOn off = true →
    ∃ u, exec (.registerWrite t off 4 w.toNat) s = .next u ∧
      (∀ b < 32, (u.word off).getLsbD b =
        if bitN (f.rw ||| f.rwl) b || (bitN f.rwq b && s.regStopped off) then w.getLsbD b
        else (s.word off).getLsbD b && !(bitN f.w1c b && w.getLsbD b)) ∧
      (∀ e, cfgErr off = some e → s.regStopped off = false → (s.word off ^^^ w) &&& maskW f.rwq ≠ 0#32 → u.fld e = 1) ∧
      (s.regStopped off = true → ∀ b < 32, bitN f.rwl b = true → (u.io.eWord off).getLsbD b = w.getLsbD b) ∧
      (s.regStopped off = false ∨ f.rwl = 0 → u.io.eff = s.io.eff) ∧
      { u with io := s.io, now := s.now } = s ∧ { u.io with regs := s.io.regs, eff := s.io.eff } = s.io ∧
      ∀ x, x ≠ off → (∀ e, cfgErr off = some e → x ≠ e.off) → u.word x = s.word x

/-- The pairs of R8: a read of `_LO` loads the latch with `_HI` of the same instant, and a read of `_HI` then returns
the latch; a write of `_LO` is held until `_HI` is written, and both halves take effect together (shown on
`MSH_DL_WARN`). -/
def Obligations.PairsReadAndWriteWhole : Prop :=
  ∀ (t off : Nat) (w : Word) (s : State), s.barUp = true →
    let r := { s with now := max s.now t }
    (isPairLo off = true → off ≠ 0x030004 → s.blockOn off = true →
      ∃ u, exec (.pairLoRead t off) s = .next u ∧ u = { r with io := { s.io with
          latch := Tbl.put s.io.latch (off + 4) (r.readReg (off + 4)), out := .readData off (r.readReg off) :: s.io.out } } ∧
        (s.blockOn (off + 4) = true → u.busRead (off + 4) = r.readReg (off + 4))) ∧
    (s.blockOn 0x140220 = true →
      exec (.registerWrite t 0x140220 4 w.toNat) s =
        .next { r with io := { s.io with heldLo := Tbl.put s.io.heldLo 0x140220 w } } ∧
      ∃ u, exec (.registerWrite t 0x140224 4 w.toNat) s = .next u ∧ u.word 0x140224 = (s.word 0x140224 &&& ~~~0xFF#32) ||| (w &&& 0xFF#32) ∧
        u.word 0x140220 = Tbl.getD s.io.heldLo 0x140220 (s.word 0x140220) ∧ RegsOnly s u [0x140220, 0x140224])

/-- SRX_CAL_QUICK, SRX_CAL_FULL, LH_CAL_FULL and LH_CAL_CHANNEL (R180, R181, R331), GPI_SET and GPI_CLR (R580), DSK_ABORT
(R545): the writes of command registers. -/
def Obligations.CommandRegistersAct : Prop :=
  ∀ (t : Nat) (h : Bool) (w : Word) (s : State), s.barUp = true →
    (s.pw.mode = .full →
      (∃ u, exec (.srxCalQuick t) s = .next u ∧ u.fld F.SRX_CAL_STAT_pending = 1 ∧ RegsOnly s u [0x100048]) ∧
      (∃ u, exec (.srxCalFull t) s = .next u ∧ u.fld F.SRX_CAL_STAT_pending = 1 ∧
        u.rs = { s.rs with calFull := true } ∧ RegsOnly { s with rs := u.rs } u [0x100048])) ∧
    (s.pw.mode = .dawn →
      exec (.srxCalQuick t) s =
        .next { s with now := max s.now t, rs := { s.rs with calHeld := max s.rs.calHeld 1 } } ∧
      exec (.srxCalFull t) s =
        .next { s with now := max s.now t, rs := { s.rs with calHeld := max s.rs.calHeld 2 } }) ∧
    (∀ (k : Nat) (c : Instr), (c = .lhCalChannel t h ∧ k = 1) ∨ (c = .lhCalFull t h ∧ k = 2) → s.inFull = true →
      s.fld (radioEff h) ≠ 0 → (s.radio h).stopped = false →
      (s.fld (F.LRX_STAT_cal.on h) ≠ 0 →
        ∃ u, exec c s = .next u ∧ u.fld (F.LRX_CAL_STAT_pending.on h) = 1 ∧
          (u.radio h) = { s.radio h with held := max (s.radio h).held k } ∧ u.radio (!h) = s.radio (!h) ∧
          RegsOnly { s with lh := u.lh } u [(F.LRX_CAL_STAT_pending.on h).off]) ∧
      (s.fld (F.LRX_STAT_cal.on h) = 0 → (k = 2 ∨ h = true ∨ s.fld F.PWR_RADIO_PERS_l_eff ≠ 2) →
        ∃ u, exec c s = .next u ∧ u.fld (F.LRX_STAT_cal.on h) = k ∧ (u.radio h).calAt = max s.now t ∧
          u.radio (!h) = s.radio (!h) ∧ RegsOnly { s with lh := u.lh } u [(F.LRX_STAT_cal.on h).off])) ∧
    (∃ u, exec (.gpiSet t w) s = .next u ∧ u.word 0x480008 = s.word 0x480008 ||| w ∧ RegsOnly s u [0x480008]) ∧
    (∃ u, exec (.gpiClr t w) s = .next u ∧ u.word 0x480008 = s.word 0x480008 &&& ~~~w ∧ RegsOnly s u [0x480008]) ∧
    (s.pw.mode = .dusk → s.flag F.DSK_STAT_running = true → s.dk.abort = 0 →
      (bitsN w.toNat 31 16 = 0x5A5A → bitN w.toNat 0 = true →
        ∃ u, exec (.dskAbort t w) s = .next u ∧ u.dk = { s.dk with abort := 4, abortAt := max s.now t } ∧
          u.fld F.DSK_STAT_aborting = 1 ∧ RegsOnly { s with dk := u.dk } u [0x090000]) ∧
      (bitsN w.toNat 31 16 ≠ 0x5A5A → exec (.dskAbort t w) s = .next { s with now := max s.now t }))

/-! ## Radio S (06_radio_s) -/

/-- RX_WINDOW_OPEN and RX_WINDOW_CLOSE (R157, R160, R166, R185, R589): a window opens while Radio S serves, with no
transmission or calibration; what is written takes effect, the chains track, and the LNA is bypassed as `lna_mode` says;
the close stops every demodulator, and a frame in progress is delivered `truncated` and counted. -/
def Obligations.ReceiveWindows : Prop :=
  ∀ (t : Nat) (rcpt : Bool) (p0 p1 : Int) (s : State),
    (s.sServes = true → s.rs.window = none → s.rs.tx = none → s.fld F.SRX_STAT_cal = 0 →
      ∃ u, exec (.rxWindowOpen t rcpt p0 p1) s = .next u ∧
        u.eFld F.SRX_AGC_CFG_lna_mode = s.fld F.SRX_AGC_CFG_lna_mode ∧
        u.rs.window = some rcpt ∧ u.rs.demods = [] ∧ u.fld F.SRX_STAT_rx_active = 1 ∧
        u.fld F.SRX_STAT_frozen0 = 0 ∧ u.fld F.SRX_STAT_frozen1 = 0 ∧
        u.fld F.SRX_STAT_step0 = 0 ∧ u.fld F.SRX_STAT_step1 = 0 ∧ u.fld F.SRX_STAT_lna_byp = u.rs.lnaRx.toNat ∧
        (let ref (p : Int) : Int := if s.rs.lnaRx then p else p - u.eFld F.SRX_AGC_CFG_ext_gain_db
         let th := s8 (u.eFld F.SRX_AGC_CFG_lna_thresh)
         (u.eFld F.SRX_AGC_CFG_lna_mode = 0 → u.rs.lnaRx = false) ∧
         (u.eFld F.SRX_AGC_CFG_lna_mode = 2 → u.rs.lnaRx = true) ∧
         (u.eFld F.SRX_AGC_CFG_lna_mode = 1 → (u.rs.lnaRx = true ↔ th < ref p0 ∨ th < ref p1))) ∧
        (u.eFlag F.COX_B_CFG_en = true → u.eFlag F.COX_B_CFG_req_rx = true → s.isShadow = false →
          u.rs.coxbReq = true ∧ u.rs.coxbPri = false) ∧
        { u with io := s.io, rs := s.rs, now := s.now } = s ∧ SameWords s u [0x100000]) ∧
    (s.rs.window = some rcpt → s.rs.paEn = false → s.rs.tx = none →
      ∃ u, exec (.rxWindowClose t) s = .next u ∧ u.rs.window = none ∧ u.rs.demods = [] ∧
        u.fld F.SRX_STAT_frozen0 = 0 ∧ u.fld F.SRX_STAT_frozen1 = 0 ∧
        u.rs.coxbReq = false ∧ u.rs.coxbPri = false ∧
        (s.rs.demods = [] → u.rs.rx = s.rs.rx ∧ u.fld F.SRX_RX_ERR_truncated = s.fld F.SRX_RX_ERR_truncated) ∧
        (∀ j chain sfdEnd len fcs st cl, s.rs.demods = [(j, .psdu chain sfdEnd len fcs st cl)] →
          (∃ f, u.rs.rx = s.rs.rx ++ [f] ∧ f.truncated = true ∧ f.psdu = [] ∧ f.demod = j ∧ f.sfdEnd = sfdEnd) ∧
          u.fld F.SRX_RX_ERR_truncated = min (s.fld F.SRX_RX_ERR_truncated + 1) 65535) ∧
        { u with io := s.io, rs := s.rs, now := s.now } = s) ∧
    (s.rs.window = none → exec (.rxWindowClose t) s = .next { s with now := max s.now t })

/-- PREAMBLE_DETECT, DIVERSITY_DECISION, SFD_FOUND and SFD_SEARCH_TIMEOUT (R155, R157, R161 to R164), from a searching
demodulator to a PSDU in reception. -/
def Obligations.DemodulatorFollowsAFrame : Prop :=
  ∀ (t : Nat) (j : Fin 64) (chain : Fin 2) (snr0 snr1 : Int) (errs : Nat) (phr : Phr) (s : State),
    let moved (u : State) (d : DemodState) : Prop :=
      u.rs = { s.rs with demods := Tbl.put s.rs.demods j d } ∧ { u with io := s.io, rs := s.rs, now := s.now } = s
    let gone (u : State) : Prop :=
      u.rs = { s.rs with demods := Tbl.del s.rs.demods j } ∧ { u with io := s.io, rs := s.rs, now := s.now } = s
    (s.rs.window ≠ none → s.demodChannel j ≠ none → s.demodProfile j ≠ none → s.eFld F.SRX_DIV_CFG_div_mode = 0 →
      (Tbl.get? s.rs.demods j = none →
        ∃ u, exec (.preambleDetect t j chain) s = .next u ∧
          moved u (.preamble (decide (chain = 0)) (decide (chain = 1)) (max s.now t)) ∧
          u.fld (if chain = 0 then F.SRX_STAT_frozen0 else F.SRX_STAT_frozen1) = 1) ∧
      ∀ c0 c1 a, Tbl.get? s.rs.demods j = some (.preamble c0 c1 a) →
        ∃ u, exec (.preambleDetect t j chain) s = .next u ∧
          moved u (.preamble (c0 || decide (chain = 0)) (c1 || decide (chain = 1)) a)) ∧
    (∀ c0 c1 a, Tbl.get? s.rs.demods j = some (.preamble c0 c1 a) →
      (∃ u, exec (.diversityDecision t j snr0 snr1) s = .next u ∧ u.io = s.io ∧
        (c0 = true → c1 = true → moved u (.decided (if snr0 < snr1 then 1 else 0) true a)) ∧
        (c0 = true → c1 = false → moved u (.decided 0 false a)) ∧ (c0 = false → moved u (.decided 1 false a))) ∧
      ∃ u, exec (.sfdSearchTimeout t j) s = .next u ∧ gone u ∧ u.io = s.io) ∧
    ∀ c both a, Tbl.get? s.rs.demods j = some (.decided c both a) →
      (s.eFld F.SRX_SFD_CFG_sfd_err < errs → exec (.sfdFound t j errs phr) s = .next { s with now := max s.now t }) ∧
      (errs ≤ s.eFld F.SRX_SFD_CFG_sfd_err →
        (phr.modeSwitch = true ∨ phr.len = 0 ∨ maxPsdu ((s.demodProfile j).getD 0) < phr.len →
          ∃ u, exec (.sfdFound t j errs phr) s = .next u ∧ gone u ∧
            u.fld F.SRX_RX_ERR_len_err = min (s.fld F.SRX_RX_ERR_len_err + 1) 65535) ∧
        (phr.modeSwitch = false → 0 < phr.len → phr.len ≤ maxPsdu ((s.demodProfile j).getD 0) →
          ∃ u, exec (.sfdFound t j errs phr) s = .next u ∧ u.io = s.io ∧
            moved u (.psdu c (max s.now t) phr.len phr.fcsType.toNat false false))) ∧
      ∃ u, exec (.sfdSearchTimeout t j) s = .next u ∧ gone u ∧ u.io = s.io

/-- ADC_CLIP and FRAME_DELIVERY (R158, R159, R165, R228): the first clip of a frozen chain steps it where `step_en`
allows, any other marks the frames in progress; a PSDU that ends is handed on with its record, and a frame of a mesh
channel of Radio L within a window. -/
def Obligations.ClipsAndDeliveries : Prop :=
  ∀ (t : Nat) (j : Fin 64) (chain : Fin 2) (x : LRx) (psdu : Bytes) (rssi cfo : Int) (s : State),
    let fr := if chain = 0 then F.SRX_STAT_frozen0 else F.SRX_STAT_frozen1
    let st := if chain = 0 then F.SRX_STAT_step0 else F.SRX_STAT_step1
    (s.rs.window ≠ none → s.flag fr = true →
      (s.eFlag F.SRX_AGC_CFG_step_en = true → s.flag st = false →
        ∃ u, exec (.adcClip t chain) s = .next u ∧ u.fld st = 1 ∧ u.fld fr = s.fld fr ∧
          u.fld F.SRX_AGC_EVT_steps = min (s.fld F.SRX_AGC_EVT_steps + 1) 65535 ∧
          (∀ k sfd len fcs a cl, (k, .psdu chain sfd len fcs a cl) ∈ s.rs.demods →
            (k, .psdu chain sfd len fcs true cl) ∈ u.rs.demods) ∧
          { u with io := s.io, rs := s.rs, now := s.now } = s) ∧
      (s.eFlag F.SRX_AGC_CFG_step_en = false ∨ s.flag st = true →
        ∃ u, exec (.adcClip t chain) s = .next u ∧
          (∀ k sfd len fcs a cl, (k, .psdu chain sfd len fcs a cl) ∈ s.rs.demods →
            (k, .psdu chain sfd len fcs a true) ∈ u.rs.demods) ∧
          { u with io := s.io, rs := s.rs, now := s.now } = s)) ∧
    (∀ c sfdEnd len fcs step clip, Tbl.get? s.rs.demods j = some (.psdu c sfdEnd len fcs step clip) → s.fltOpen = false →
      ∃ u, exec (.frameDelivery t j none psdu rssi cfo) s = .next u ∧
        u.rs = { s.rs with demods := Tbl.del s.rs.demods j, rx := s.rs.rx ++ [
          { ch := (s.demodChannel j).getD 0, demod := j, chain := c, prof := (s.demodProfile j).getD 0,
            sfdEnd := sfdEnd, rssi := rssi, cfo := cfo, step := step, clip := clip, truncated := false, fcs := fcs,
            psdu := Bytes.slice psdu 0 len, endAt := max s.now t }] } ∧
        u.fld F.SRX_RX_FRAMES_frames = min (s.fld F.SRX_RX_FRAMES_frames + 1) (2 ^ F.SRX_RX_FRAMES_frames.width - 1) ∧
        { u with io := s.io, rs := s.rs, now := s.now } = s) ∧
    (s.fltOpen = false → s.lServes x.ch = true → s.ml.inWindow x.sfdEnd = true → s.ml.inWindow (max s.now t) = true →
      ∃ u, exec (.frameDelivery t j (some x) psdu rssi cfo) s = .next u ∧
        (∃ f, u.rs = { s.rs with rx := s.rs.rx ++ [f] } ∧ f.onL = some x.ch.val ∧ f.sfdEnd = x.sfdEnd ∧
          f.psdu = Bytes.slice psdu 0 (min 127 psdu.length)) ∧
        { u with io := s.io, rs := s.rs, now := s.now } = s ∧ SameWords s u [F.LRX_ERR_clip.off, 0x180000])

/-- SRX_CAL_DUE, SRX_CAL_START, SRX_CAL_DONE, SYNTH_LOCK_LOSS and SYNTH_RELOCK_DONE (R176, R179 to R182). -/
def Obligations.CalibrationAndLockOfS : Prop :=
  ∀ (t : Nat) (temp : Int) (s : State),
    (s.pw.mode = .full → s.flag F.PWR_RADIO_PERS_s_eff = true →
      max 2 (s.fld F.SRX_CAL_CFG_temp_delta) ≤ (temp - s.rs.calTemp).natAbs →
      ∃ u, exec (.srxCalDue t temp) s = .next u ∧ u.fld F.SRX_CAL_STAT_pending = 1 ∧
        u.ck = { s.ck with temp := temp } ∧ RegsOnly { s with ck := u.ck } u [0x100048]) ∧
    (s.fld F.SRX_CAL_STAT_pending = 1 → s.fld F.SRX_STAT_cal = 0 → s.sServes = true → s.ml.isD s.ml.slot = true →
      ∃ u, exec (.srxCalStart t) s = .next u ∧
        u.fld F.SRX_STAT_cal = (if s.rs.calFull || !s.storedValid then 2 else 1) ∧
        u.fld F.SRX_CAL_STAT_pending = 0 ∧ u.rs = { s.rs with calFull := false, ready := none } ∧
        RegsOnly { s with rs := u.rs } u [0x100048, 0x100000]) ∧
    (s.ml.isD s.ml.slot = false → exec (.srxCalStart t) s = .next { s with now := max s.now t }) ∧
    (s.fld F.SRX_STAT_cal ≠ 0 → s.rs.switching = false →
      ∃ u, exec (.srxCalDone t true temp) s = .next u ∧ u.fld F.SRX_STAT_cal = 0 ∧ u.fld F.SRX_STAT_cal_valid = 1 ∧
        u.fld F.SRX_STAT_lock = 1 ∧ u.fld F.SRX_CAL_STAT_count = min (s.fld F.SRX_CAL_STAT_count + 1) 65535 ∧
        u.fld F.SRX_CAL_STAT_last_temp = codeN 8 temp ∧
        u.fld F.SRX_CAL_STAT_last_type = (if s.fld F.SRX_STAT_cal = 2 then 2 else 1) ∧
        u.rs = { s.rs with calRetry := false, calAt := max s.now t, calTemp := temp, ready := some (max s.now t) } ∧
        (s.fld F.SRX_STAT_cal = 2 →
          u.nv.calS = some (s.fld F.SRX_SYNTH_CFG_centre_khz, s.fld F.SRX_SYNTH_CFG_grid, temp)) ∧
        (s.fld F.SRX_STAT_cal ≠ 2 → u.nv = s.nv) ∧
        RegsOnly { s with rs := u.rs, nv := u.nv } u [0x100048, 0x100000]) ∧
    (s.fld F.SRX_STAT_cal ≠ 0 → s.rs.calRetry = false →
      ∃ u, exec (.srxCalDone t false temp) s = .next u ∧ u.fld F.SRX_STAT_cal = 0 ∧ u.fld F.SRX_CAL_STAT_failed = 1 ∧
        u.fld F.SRX_CAL_STAT_pending = 1 ∧ u.rs.calRetry = true ∧
        RegsOnly { s with rs := u.rs } u [0x100048, 0x100000]) ∧
    (s.flag F.PWR_RADIO_PERS_s_eff = true →
      (∃ u, exec (.synthLockLoss t) s = .next u ∧ u.fld F.SRX_STAT_lock = 0 ∧ u.rs = { s.rs with ready := none } ∧
        RegsOnly { s with rs := u.rs } u [0x100000]) ∧
      (s.rs.ready = none → s.fld F.SRX_STAT_lock = 0 → s.fld F.SRX_STAT_cal = 0 → s.rs.tx = none →
        ∃ u, exec (.synthRelockDone t true) s = .next u ∧ u.fld F.SRX_STAT_lock = 1 ∧
          u.rs = { s.rs with ready := some (max s.now t) } ∧ RegsOnly { s with rs := u.rs } u [0x100000]))

/-- TX_REQUEST and TX_DECISION_DEADLINE (R153, R167, R175, R176, R453): a valid request is charged to each sub-band and
waits, or, with the lock known, has its effective start decided or completes LATE; an undecided one is LATE once 96 µs
are left to its deadline. -/
def Obligations.TransmitRequestsAreDecided : Prop :=
  ∀ (t : Nat) (r : TxReq) (s : State),
    (s.sServes = true → s.rs.tx = none →
      (Sys2Proof.Machine.TxReq.valid r s.grid100 = false →
        exec (.txRequest t r) s = .next { s with now := max s.now t, rs := { s.rs with outcome := stBAD_ARG } }) ∧
      (Sys2Proof.Machine.TxReq.valid r s.grid100 = true →
        let e := max (max r.start (max s.now t + 96000)) (max (s.rs.ready.getD 0 + 96000) (s.rs.prevEnd + 32000))
        let late := r.deadline < e ∨ r.endLimit < e + Sys2Proof.Machine.TxReq.dur r
        (s.rs.ready = none ∨ ¬ late →
          let j : TxJob := { req := r, accepted := max s.now t, eff := if s.rs.ready = none then none else some e }
          ∃ u, exec (.txRequest t r) s = .next u ∧ u.rs = { s.rs with tx := some j } ∧
            (∀ b < 8, u.airTokens b = s.airTokens b - s.io.charge r.carriers b) ∧
            { u with io := s.io, rs := s.rs, qm := s.qm, now := s.now } = s) ∧
        (s.rs.ready ≠ none → late →
          ∃ u, exec (.txRequest t r) s = .next u ∧ u.rs = { s.rs with outcome := stLATE } ∧
            u.fld F.SRX_TX_ERR_late = min (s.fld F.SRX_TX_ERR_late + 1) 65535 ∧
            (∀ b < 8, u.airTokens b = s.airTokens b) ∧
            { u with io := s.io, rs := s.rs, qm := s.qm, now := s.now } = s))) ∧
    ∀ j, s.rs.tx = some j → j.eff = none →
      (j.req.deadline ≤ max s.now t + 96000 →
        ∃ u, exec (.txDecisionDeadline t) s = .next u ∧ u.rs = { s.rs with tx := none, outcome := stLATE } ∧
          u.fld F.SRX_TX_ERR_late = min (s.fld F.SRX_TX_ERR_late + 1) 65535 ∧
          (∀ b < 8, u.airTokens b = s.airTokens b + s.io.charge j.req.carriers b) ∧
          { u with io := s.io, rs := s.rs, qm := s.qm, now := s.now } = s) ∧
      (max s.now t + 96000 < j.req.deadline → exec (.txDecisionDeadline t) s = .next { s with now := max s.now t })

/-- RX_TO_TX_TURNAROUND (R167, R170, R171, R174, R186): 96 µs before its effective start a transmission takes the pins and
its carriers leave, less those that clear-channel assessment drops; with the outputs withheld it is discarded, and
without COXB_GNT it is LATE and counted denied. -/
def Obligations.TurnaroundSendsOrRefuses : Prop :=
  ∀ (t e : Nat) (j : TxJob) (energy : List Int) (gnt : Bool) (s : State),
    s.rs.tx = some j → j.eff = some e → j.started = false → e ≤ max s.now t + 96000 → s.rs.window = none →
    s.flag F.COX_B_STAT_ext_gnt = false →
    (s.outEnabled = true → s.flag F.COX_B_CFG_en = false →
      let kept := if j.req.cca then ccaKeep (s8 (s.fld F.SRX_CCA_CFG_cca_thresh)) j.req.carriers energy
        else j.req.carriers
      kept ≠ [] →
      ∃ u, exec (.rxToTxTurnaround t energy gnt) s = .next u ∧
        u.rs = { s.rs with
          tx := some { j with started := true, req := { j.req with carriers := kept } }, paEn := true
          paMode := s.fld F.SRX_TX_CFG_pa_mode, trsw := true, coxbReq := false, coxbPri := false } ∧
        u.io.out = (kept.map fun c => Out.radioS c.ch c.prof e c.psdu).reverse ++ s.io.out ∧
        u.fld F.SRX_STAT_tx_active = 1 ∧ u.fld F.SRX_STAT_rx_active = 0 ∧ u.fld F.SRX_STAT_lna_byp = 1 ∧
        u.fld F.SRX_TX_LIM_cca_drop = min (s.fld F.SRX_TX_LIM_cca_drop + (j.req.carriers.length - kept.length)) 65535 ∧
        { u with io := s.io, rs := s.rs, qm := s.qm, now := s.now } = s) ∧
    (s.outEnabled = false →
      ∃ u, exec (.rxToTxTurnaround t energy gnt) s = .next u ∧
        u.rs = { s.rs with tx := none, outcome := stDISCARDED } ∧ u.io.out = s.io.out ∧
        u.fld F.SRX_TX_ERR_cut = min (s.fld F.SRX_TX_ERR_cut + 1) 65535 ∧
        { u with io := s.io, rs := s.rs, qm := s.qm, now := s.now } = s) ∧
    (s.outEnabled = true → gnt = false → s.flag F.COX_B_CFG_en = true → s.flag F.COX_B_CFG_honour_gnt = true →
      j.req.burst = false →
      ∃ u, exec (.rxToTxTurnaround t energy gnt) s = .next u ∧
        u.rs = { s.rs with tx := none, outcome := stLATE } ∧ u.io.out = s.io.out ∧
        u.fld F.COX_B_STAT_denied = min (s.fld F.COX_B_STAT_denied + 1) 65535 ∧
        { u with io := s.io, rs := s.rs, qm := s.qm, now := s.now } = s)

/-- TX_END and TX_CUT (R172, R174, R177): a transmission on air ends OK, the pins return to reception, and it is counted;
one whose outputs are withdrawn ends DISCARDED at once.  Said of carriers that the link layer awaits nothing for. -/
def Obligations.TransmissionsEndOrAreCut : Prop :=
  ∀ (t e : Nat) (j : TxJob) (s : State), s.rs.tx = some j → j.eff = some e → j.started = true →
    (s.outEnabled = true → e + Sys2Proof.Machine.TxReq.dur j.req ≤ max s.now t → j.req.burst = false →
      (∀ c ∈ j.req.carriers, c.what = .beacon ∨ c.what = .test) →
      ∃ u, exec (.txEnd t) s = .next u ∧
        u.rs = { s.rs with tx := none, outcome := stOK, prevEnd := max s.now t, paEn := false, paMode := 0
                           trsw := false, coxbReq := false, coxbPri := false } ∧
        u.fld F.SRX_TX_CNT_transmissions = min (s.fld F.SRX_TX_CNT_transmissions + 1) (2 ^ 32 - 1) ∧
        u.fld F.SRX_STAT_tx_active = 0 ∧ u.fld F.SRX_STAT_rx_active = 1 ∧
        u.fld F.SRX_STAT_lna_byp = s.rs.lnaRx.toNat ∧ (∀ b < 8, u.airTokens b = s.airTokens b) ∧
        { u with io := s.io, rs := s.rs, qm := s.qm, now := s.now } = s) ∧
    (max s.now t < e + Sys2Proof.Machine.TxReq.dur j.req → s.outEnabled = true →
      exec (.txEnd t) s = .next { s with now := max s.now t } ∧ exec (.txCut t) s = .next { s with now := max s.now t }) ∧
    (s.outEnabled = false →
      ∃ u, exec (.txCut t) s = .next u ∧
        u.rs = { s.rs with tx := none, outcome := stDISCARDED, prevEnd := max s.now t, paEn := false, paMode := 0
                           trsw := false, coxbReq := false, coxbPri := false } ∧
        u.fld F.SRX_TX_ERR_cut = min (s.fld F.SRX_TX_ERR_cut + 1) 65535 ∧
        (∀ b < 8, u.airTokens b = s.airTokens b +
          (s.io.charge j.req.carriers b - min (max s.now t - e) (s.io.charge j.req.carriers b) : Nat)) ∧
        { u with io := s.io, rs := s.rs, qm := s.qm, now := s.now } = s)

/-- COXB_EXT_REQ_RISE, COXB_EXT_REQ_FALL and COXB_PREEMPT (R187 to R189) and COXA's (R335, R336): the grant follows the
request where nothing is in the way, falls with it, and is withdrawn, or the mesh gives way, when a transmission falls
due. -/
def Obligations.CoexistenceGrants : Prop :=
  ∀ (t : Nat) (s : State), s.isShadow = false →
    let r : State := { s with now := max s.now t }
    (∃ u, exec (.coxbExtReqFall t) s = .next u ∧ u.fld F.COX_B_STAT_ext_req = 0 ∧ u.fld F.COX_B_STAT_ext_gnt = 0 ∧
      RegsOnly s u [0x440108]) ∧
    (∃ u, exec (.coxaExtReqFall t) s = .next u ∧ u.fld F.COX_A_STAT_ext_req = 0 ∧ u.fld F.COX_A_STAT_ext_gnt = 0 ∧
      RegsOnly s u [0x440008]) ∧
    (∃ u, exec (.coxbExtReqRise t) s = .next u ∧ u.fld F.COX_B_STAT_ext_req = 1 ∧
      (s.eFlag F.COX_B_CFG_ext_en = false → u.fld F.COX_B_STAT_ext_gnt = 1) ∧
      (s.eFlag F.COX_B_CFG_ext_en = true → s.sServes = true → s.rs.tx = none → s.rs.paEn = false →
        (s.rs.window = none ∨ s.eFlag F.COX_B_CFG_ext_rx_deny = false) → u.fld F.COX_B_STAT_ext_gnt = 1) ∧
      (∀ j, s.eFlag F.COX_B_CFG_ext_en = true → s.sServes = true → s.rs.tx = some j → j.started = true →
        s.fld F.COX_B_STAT_ext_gnt = 0 → u.fld F.COX_B_STAT_ext_gnt = 0) ∧
      RegsOnly s u [0x440108]) ∧
    (∃ u, exec (.coxaExtReqRise t) s = .next u ∧ u.fld F.COX_A_STAT_ext_req = 1 ∧
      (s.eFlag F.COX_A_CFG_ext_en = false → u.fld F.COX_A_STAT_ext_gnt = 1) ∧
      (s.eFlag F.COX_A_CFG_ext_en = true → r.lhServes false = true → s.fld F.COX_A_STAT_ext_gnt = 0 →
        (s.lh.l.tx ≠ none → u.fld F.COX_A_STAT_ext_gnt = 0) ∧
        (s.lh.l.tx = none → s.lh.l.queue = [] → s.fld F.PWR_RADIO_PERS_l_eff < 2 → u.fld F.COX_A_STAT_ext_gnt = 1)) ∧
      RegsOnly s u [0x440008]) ∧
    (∀ j e, s.rs.tx = some j → j.eff = some e → j.started = false → s.flag F.COX_B_STAT_ext_gnt = true →
      s.eFlag F.COX_B_CFG_ext_en = true →
      e ≤ max s.now t + 96000 + 1000 * clamp 50 1000 (s.eFld F.COX_B_TIME_preempt_lead) →
      (s.eFlag F.COX_B_CFG_ext_preempt = true →
        ∃ u, exec (.coxbPreempt t) s = .next u ∧ u.fld F.COX_B_STAT_ext_gnt = 0 ∧
          u.fld F.COX_B_STAT_preempt = min (s.fld F.COX_B_STAT_preempt + 1) 255 ∧ RegsOnly s u [0x440108]) ∧
      (s.eFlag F.COX_B_CFG_ext_preempt = false →
        ∃ u, exec (.coxbPreempt t) s = .next u ∧ u.rs = { s.rs with tx := none, outcome := stLATE })) ∧
    (r.lhServes false = true → s.flag F.COX_A_STAT_ext_gnt = true → s.flag F.COX_A_CFG_ext_en = true →
      (r.latchRegs coxaRegs).meshSoon = true →
      (s.flag F.COX_A_CFG_ext_preempt = true →
        ∃ u, exec (.coxaPreempt t) s = .next u ∧ u.fld F.COX_A_STAT_ext_gnt = 0 ∧
          u.fld F.COX_A_STAT_preempt = min (s.fld F.COX_A_STAT_preempt + 1) 255 ∧ SameWords s u [0x440008] ∧
          { u with io := s.io, now := s.now } = s) ∧
      (s.flag F.COX_A_CFG_ext_preempt = false →
        ∃ u, exec (.coxaPreempt t) s = .next u ∧ u.lh = { s.lh with mesh := none } ∧
          u.fld F.COX_A_STAT_ext_gnt = s.fld F.COX_A_STAT_ext_gnt))

/-! ## Radios L and H (11_radios_l_h) -/

/-- RESERVED_INTERVAL_START (R328, R329, R333, R334): on a radio L that serves the mesh, the interval of this instant
begins until its end; in one that the mesh transmits in, COXA is requested with priority, and without its grant the
mesh's carriers are not sent. -/
def Obligations.ReservedIntervalsBegin : Prop :=
  ∀ (t a e : Nat) (gnt busy tx : Bool) (s : State),
    let r : State := { s with now := max s.now t }
    s.lh.ivlEnd = none → r.lhServes false = true → 2 ≤ s.fld F.PWR_RADIO_PERS_l_eff → s.isShadow = false →
    s.flag F.COX_A_STAT_ext_gnt = false → s.ivlAt (max s.now t) = some (a, e, tx) → s.flag F.COX_A_CFG_en = true →
    ∃ u, exec (.reservedIntervalStart t gnt busy) s = .next u ∧ u.lh.ivlEnd = some e ∧
      u.fld F.LRX_STAT_reserved_ivl = 1 ∧
      (tx = false → s.flag F.COX_A_CFG_req_rx = true → u.lh.coxaReq = true ∧ u.lh.coxaPri = false) ∧
      (tx = true → u.lh.coxaReq = true ∧ u.lh.coxaPri = true ∧ u.fld F.COX_A_STAT_gnt = gnt.toNat ∧
        u.fld F.LRX_ERR_wifi_abandoned = (if busy && s.reserves then min (s.fld F.LRX_ERR_wifi_abandoned + 1)
          (2 ^ F.LRX_ERR_wifi_abandoned.width - 1) else s.fld F.LRX_ERR_wifi_abandoned) ∧
        (gnt = false → s.flag F.COX_A_CFG_honour_gnt = true → s.meshBurst = false →
          u.lh.ivlDenied = true ∧ u.lh.mesh = none ∧
          u.fld F.COX_A_STAT_denied = min (s.fld F.COX_A_STAT_denied + 1) 65535) ∧
        (gnt = true → u.lh.mesh = s.lh.mesh)) ∧
      { u with io := s.io, lh := s.lh, now := s.now } = s

/-- LH_TX_START (R324, R329, R333, R334, R352): what waits first goes on air while the outputs are enabled and it fits
before the next interval; with the outputs withheld it is cut.  The mesh's carriers start at their instant, or are late. -/
def Obligations.PpdusStart : Prop :=
  ∀ (t dur : Nat) (h gnt : Bool) (s : State),
    let r : State := { s with now := max s.now t }
    r.lhServes h = true → (s.radio h).tx = none → s.isShadow = false → s.lh.ivlEnd = none →
    (∀ p ps, r.meshTurn h = false → (s.radio h).queue = p :: ps →
      p.granted = true →
      s.fld (if h then F.WLN_CTRL_run_h else F.WLN_CTRL_run_l) = 1 → (h = true ∨ s.fld F.PWR_RADIO_PERS_l_eff = 1) →
      s.tw.peerRevert = none →
      (s.outEnabled = true →
        ∃ u, exec (.lhTxStart t h gnt dur) s = .next u ∧ (u.radio h).queue = ps ∧
          (u.radio h).tx = some (.wifi p (max s.now t)) ∧ u.fld (F.LRX_STAT_tx_active.on h) = 1 ∧
          (u.radio h).paEn = s.chains h false ∧ u.radio (!h) = s.radio (!h) ∧
          u.io.out = .wifi h p.kind.name p.users p.bytes :: s.io.out ∧
          { u with io := s.io, lh := s.lh, now := s.now } = s) ∧
      (s.outEnabled = false → p.key = none → p.mpdus = [] →
        ∃ u, exec (.lhTxStart t h gnt dur) s = .next u ∧ (u.radio h).queue = ps ∧ (u.radio h).tx = none ∧
          u.fld (F.LRX_ERR_cut.on h) = min (s.fld (F.LRX_ERR_cut.on h) + 1) (2 ^ F.LRX_ERR_cut.width - 1) ∧
          u.io.out = s.io.out)) ∧
    ∀ at_ cs, h = false → s.lh.mesh = some (at_, cs) → at_ ≤ max s.now t + 4000 →
      (s.lh.ivlDenied = false → max s.now t ≤ at_ + 4000 → s.outEnabled = true →
        ∃ u, exec (.lhTxStart t h gnt dur) s = .next u ∧ u.lh.mesh = none ∧ u.lh.l.tx = some (.mesh cs (max s.now t)) ∧
          u.lh.l.paEn = 1 ∧ u.fld F.LRX_STAT_tx_active = 1 ∧
          u.io.out = (cs.map fun c => Out.radioLMesh c.ch at_ c.psdu).reverse ++ s.io.out ∧
          { u with io := s.io, lh := s.lh, now := s.now } = s) ∧
      (s.lh.ivlDenied = true ∨ at_ + 4000 < max s.now t →
        ∃ u, exec (.lhTxStart t h gnt dur) s = .next u ∧ u.lh = { s.lh with mesh := none } ∧ u.io.out = s.io.out)

/-- LH_TX_END and LH_TX_CUT (R325, R326, R345): at its end a transmission gives up the pins and a client that acknowledged
has no count of failures; a cut one is counted, and nothing more of it is sent. -/
def Obligations.PpdusEndOrAreCut : Prop :=
  ∀ (t acked giveUp start : Nat) (h : Bool) (reports : List Nat) (p : Ppdu) (s : State),
    (s.radio h).tx = some (.wifi p start) →
    (s.outEnabled = true → p.kind = .su → ∀ (k : Nat) (c : Client) (m : Mpdu), p.mpdus = [m] → m.client = k →
      p.users = [k] → Tbl.get? s.wl.clients k = some c →
      ∃ u, exec (.lhTxEnd t h acked giveUp reports) s = .next u ∧ (u.radio h).tx = none ∧ (u.radio h).paEn = 0 ∧
        u.fld (F.LRX_STAT_tx_active.on h) = 0 ∧
        (bitN acked 0 = true →
          Tbl.get? u.wl.clients k = some { c with unacked := 0, told := false }) ∧
        (bitN acked 0 = false → bitN giveUp 0 = true →
          Tbl.get? u.wl.clients k = some { c with unacked := c.unacked + 1 }) ∧
        (bitN acked 0 = false → bitN giveUp 0 = false →
          Tbl.get? u.wl.clients k = some { c with unacked := c.unacked + 1, retry := m :: c.retry }) ∧
        u.radio (!h) = s.radio (!h)) ∧
    (s.outEnabled = true → exec (.lhTxCut t h) s = .next { s with now := max s.now t }) ∧
    (s.outEnabled = false → p.key = none → p.mpdus = [] →
      ∃ u, exec (.lhTxCut t h) s = .next u ∧ (u.radio h).tx = none ∧ (u.radio h).paEn = 0 ∧
        (u.radio h).queue = (s.radio h).queue ∧ u.fld (F.LRX_STAT_tx_active.on h) = 0 ∧
        u.fld (F.LRX_ERR_cut.on h) = min (s.fld (F.LRX_ERR_cut.on h) + 1) (2 ^ F.LRX_ERR_cut.width - 1) ∧
        u.io.out = s.io.out ∧ u.radio (!h) = s.radio (!h))

/-- LH_CAL_DONE and LH_TRACKING_PIECE (R330 to R332): a good calibration is counted with its temperature and a full one
stored; a failed one is repeated, and a second failure stops the radio with a fault; the last piece of a due tracking
cycle is recorded. -/
def Obligations.CalibrationOfLAndH : Prop :=
  ∀ (t : Nat) (h : Bool) (temp : Int) (s : State),
    let kind := s.fld (F.LRX_STAT_cal.on h)
    let r : State := { s with now := max s.now t }
    let regs := [(F.LRX_STAT_cal.on h).off, (F.LRX_CAL_STAT_count.on h).off]
    ((kind = 1 ∨ kind = 2) → (s.radio h).calAt ≤ max s.now t →
      ((s.radio h).switching = false → (s.radio h).switch = none → (s.radio h).held = 0 →
        ∃ u, exec (.lhCalDone t h true temp) s = .next u ∧ u.fld (F.LRX_STAT_cal.on h) = 0 ∧
          u.fld (F.LRX_STAT_cal_valid.on h) = 1 ∧ u.fld (F.LRX_STAT_lock.on h) = 1 ∧
          u.fld (F.LRX_CAL_STAT_count.on h) =
            min (s.fld (F.LRX_CAL_STAT_count.on h) + 1) (2 ^ F.LRX_CAL_STAT_count.width - 1) ∧
          u.fld (F.LRX_CAL_STAT_last_temp.on h) = codeN 8 temp ∧
          u.radio h = { s.radio h with repeated := false, trackAt := max s.now t, trackTemp := temp } ∧
          u.radio (!h) = s.radio (!h) ∧
          (kind = 2 → (if h then u.nv.calH else u.nv.calL) = some (s.word (chanOff h))) ∧ (kind = 1 → u.nv = s.nv) ∧
          RegsOnly { s with lh := u.lh, nv := u.nv } u regs) ∧
      ((s.radio h).repeated = false → (h = true ∨ kind = 2 ∨ s.fld F.PWR_RADIO_PERS_l_eff ≠ 2) →
        ∃ u, exec (.lhCalDone t h false temp) s = .next u ∧ u.fld (F.LRX_STAT_cal.on h) = kind ∧
          u.fld (F.LRX_CAL_STAT_failed.on h) = 1 ∧ (u.radio h).repeated = true ∧ (u.radio h).calAt = max s.now t ∧
          u.radio (!h) = s.radio (!h) ∧ RegsOnly { s with lh := u.lh } u regs) ∧
      ((s.radio h).repeated = true → (s.radio h).tx = none → (s.radio h).queue = [] → (s.radio h).switch = none →
        Alone s → s.fltOpen = false →
        ∃ u, exec (.lhCalDone t h false temp) s = .next u ∧ (u.radio h).stopped = true ∧ u.fld (radioEff h) = 0 ∧
          u.fld F.TEL_FAULT_radio = 1 ∧ u.fld (F.LRX_STAT_cal.on h) = 0)) ∧
    (r.lhServes h = true → r.calGap h = true →
      (max 2 (s.fld (F.LRX_CAL_CFG_temp_delta.on h)) : Int) ≤ temp - (s.radio h).trackTemp →
      (∃ u, exec (.lhTrackingPiece t h true temp) s = .next u ∧
        u.radio h = { s.radio h with trackAt := max s.now t, trackTemp := temp } ∧ u.radio (!h) = s.radio (!h) ∧
        u.fld (F.LRX_CAL_STAT_last_temp.on h) = codeN 8 temp ∧
        RegsOnly { s with lh := u.lh } u [(F.LRX_CAL_STAT_count.on h).off]) ∧
      exec (.lhTrackingPiece t h false temp) s = .next { s with now := max s.now t })

/-! ## The mesh (07_mesh_link to 09_mesh_security) -/

/-- MESH_SF_SET, MESH_CONN_SET, MESH_CONN_GET and MESH_CONN_CLOSE (R230 to R234): a permitted pattern far enough ahead is
announced, one too near is LATE; a connection is created with its next event projected, one that exists is not; what is
read is its record; a close without notice frees it, one with notice is queued as a link command. -/
def Obligations.MeshLinkCommands : Prop :=
  ∀ (t : Nat) (c : Cmd) (b : Bytes) (s : State), Ready s c .command → s.pw.mode = .full → s.isShadow = false →
    (sfOk (c.f 5 1) (c.f 0 5) = true → c.zero 11 13 = true → s.ml.next = none →
      (s.ml.slot + s.announceSlots ≤ c.f 6 5 →
        ∃ u, exec (.meshSfSet t c) s = .next u ∧ Deferred s u c 0x0101 0 ∧
          u.ml = { s.ml with next := some (c.f 5 1, c.f 0 5, c.f 6 5) } ∧ u.fld F.MSH_STAT_sf_pending = 1 ∧
          u.fld F.MSH_SF_NEXT_length = c.f 5 1 ∧ u.fld F.MSH_SF_NEXT_MAP_map_lo = c.f 0 4 ∧
          { u with io := s.io, ml := s.ml, now := s.now } = s) ∧
      (c.f 6 5 < s.ml.slot + s.announceSlots →
        ∃ u, exec (.meshSfSet t c) s = .next u ∧ Answered s u c stLATE ∧ HostOnly s u [])) ∧
    (OneBlock c 32 10 b → b.le 3 1 = 0 → b.le 28 3 = 0 → b.le 0 3 ≠ 0 → b.le 0 3 ≠ 0xFFFFFF →
      (connParOf b).valid (b.le 4 1 % 2 == 1) (s.io.contMask (b.le 4 1 % 2 == 1)) = true →
      (∀ k, s.ml.connAny (b.le 0 3) = none → Tbl.firstFree s.ml.conns 0 16384 = some k →
        ∃ u x, exec (.meshConnSet t c) s = .next u ∧ Answered s u c stOK [(c.f 0 8 + 31, toLE 1 stOK)] ∧
          Tbl.get? u.ml.conns k = some x ∧ x.addr = b.le 0 3 ∧ x.state = 1 ∧ x.heard = max s.now t ∧
          x.par = (connParOf b).project s.ml.slot ∧ (∀ j, j ≠ k → Tbl.get? u.ml.conns j = Tbl.get? s.ml.conns j) ∧
          { u with io := s.io, ml := s.ml, pt := s.pt, nv := s.nv, now := s.now } = s ∧
          SameWords s u [F.MSH_CONN_CNT_active.off]) ∧
      (s.ml.connOf (b.le 0 3) ≠ none →
        ∃ u, exec (.meshConnSet t c) s = .next u ∧ Answered s u c stBAD_ARG [(c.f 0 8 + 31, toLE 1 stBAD_ARG)] ∧
          HostOnly s u [])) ∧
    (OneBlock c 32 10 b →
      (∀ k x, s.ml.connAny (b.le 0 3) = some (k, x) →
        ∃ u, exec (.meshConnGet t c) s = .next u ∧ HostOnly s u [] ∧ Answered s u c stOK
          [(c.f 0 8 + 4, (x.par.project s.ml.slot).record (x.radioL.toNat + 2 * x.state)),
            (c.f 0 8 + 31, toLE 1 stOK)]) ∧
      (s.ml.connAny (b.le 0 3) = none →
        ∃ u, exec (.meshConnGet t c) s = .next u ∧ HostOnly s u [] ∧
          Answered s u c stOK [(c.f 0 8 + 31, toLE 1 stBAD_ARG)])) ∧
    (s.ml.connAny (c.f 0 3) = none →
      ∃ u, exec (.meshConnClose t c) s = .next u ∧ Answered s u c stBAD_ARG ∧ HostOnly s u []) ∧
    ∀ k x, s.ml.connAny (c.f 0 3) = some (k, x) → c.f 3 1 ≤ 2 → c.zero 5 19 = true →
      (c.f 4 1 = 0 → ∃ u, exec (.meshConnClose t c) s = .next u ∧ Answered s u c stOK ∧ Tbl.get? u.ml.conns k = none ∧
        { u with io := s.io, ml := s.ml, pt := s.pt, nv := s.nv, now := s.now } = s) ∧
      (c.f 4 1 = 1 → s.ml.dl = [] → s.ctrlCells < s.ctrlReserve →
        ∃ u d, exec (.meshConnClose t c) s = .next u ∧ Deferred s u c 0x0104 (c.f 0 3) ∧ u.ml.dl = [d] ∧
          d.dst = c.f 0 3 ∧ d.kind = .close (c.f 3 1) ∧ d.payload = toLE 1 2 ++ toLE 1 (c.f 3 1) ∧
          u.ml.conns = s.ml.conns ∧ HostOnly { s with ml := u.ml } u [])

/-- MESH_ADMIT and MESH_ROUTE (R264), MESH_JOIN_DECIDE (R265), MESH_CIRC_SEND (R266), MESH_EPOCH_SET (R292).  `r` is the
state that the command finds: the instant has come and its descriptor is fetched. -/
def Obligations.MeshNetworkCommands : Prop :=
  ∀ (t : Nat) (c : Cmd) (b : Bytes) (s : State), Ready s c .command → s.pw.mode = .full → s.isShadow = false →
    let r : State := { s with now := max s.now t, io := s.io.fetched c.sq.val }
    (OneBlock c 16 10 b → ∀ n x, s.ctxOfEui (b.le 0 8) = some (n, x) → b.le 11 1 ≤ 1 → b.le 8 3 = 0 → b.le 12 3 = 0 →
      ∃ u y, exec (.meshAdmit t c) s = .next u ∧ Answered s u c stOK [(c.f 0 8 + 15, toLE 1 stOK)] ∧
        Tbl.get? u.pt.ctx n = some y ∧ y = { x with deny := b.le 11 1 == 1, hit := true } ∧
        (∀ j, j ≠ n → Tbl.get? u.pt.ctx j = Tbl.get? s.pt.ctx j)) ∧
    (OneBlock c 16 10 b → s.ctxOfEui (b.le 0 8) = none → b.le 11 1 = 2 → b.le 8 3 ≠ 0xFFFFFF →
      s.ctxOfAddr (b.le 8 3) = none → b.le 12 3 = 0 →
      ∃ u, exec (.meshAdmit t c) s = .next u ∧ Answered s u c stOK [(c.f 0 8 + 15, toLE 1 stOK)] ∧ HostOnly s u []) ∧
    (OneBlock c 16 10 b → b.le 11 4 = 0 → ∀ q, Tbl.get? s.pt.route (b.le 0 3) = some q →
      (b.le 3 1 = 2 → ∃ u, exec (.meshRoute t c) s = .next u ∧
        Answered s u c stOK [(c.f 0 8 + 15, toLE 1 stOK)] ∧ Tbl.get? u.pt.route (b.le 0 3) = none) ∧
      (b.le 3 1 = 0 → s.ctxOfAddr (b.le 0 3) = none → q.parent = 0 →
        ∃ u, exec (.meshRoute t c) s = .next u ∧ HostOnly s u [] ∧ Answered s u c stOK
          [(c.f 0 8 + 4, toLE 3 0 ++ toLE 1 q.depth ++ toLE 3 (b.le 0 3)), (c.f 0 8 + 15, toLE 1 stOK)])) ∧
    (OneBlock c 16 10 b → Tbl.get? s.pt.route (b.le 0 3) = none → b.le 3 1 = 0 ∨ b.le 3 1 = 2 →
      ∃ u, exec (.meshRoute t c) s = .next u ∧ Answered s u c stBAD_ARG [(c.f 0 8 + 15, toLE 1 stBAD_ARG)] ∧
        HostOnly s u []) ∧
    (∀ p, s.mn.pend = [p] → p.token = c.f 0 2 → r.joinLate p = false →
      c.f 2 1 = 0 → c.f 3 3 = 0 → c.zero 7 17 = true → r.admitRoom p.req 0 = none →
      ∃ u, exec (.meshJoinDecide t c) s = .next u ∧ Answered s u c stOK ∧
        u.mn = { s.mn with pend := [], joins := s.mn.joins ++ [{ p.req with approved := some 0 }] } ∧
        HostOnly { s with mn := u.mn } u []) ∧
    (s.mn.pend = [] → s.mn.past = [] →
      ∃ u, exec (.meshJoinDecide t c) s = .next u ∧ Answered s u c stBAD_ARG ∧ HostOnly s u []) ∧
    (let pkt : Bytes := c.rd.take (c.f 8 2)
     let content := (lowpanCompress r.ctxLatch.io 0 0xFFFFFF 0 2047 pkt).headD []
     c.f 0 8 % 32 = 0 → c.rdErr = none → 40 ≤ c.f 8 2 → pkt.be 24 1 = 0xFF → c.f 10 1 / 16 = 1 → c.zero 14 10 = true →
      content.length ≤ r.circMax → s.mn.circs = [] →
      ∃ u x, exec (.meshCircSend t c) s = .next u ∧ Deferred s u c 0x0113 (s.mn.circKey + 1) ∧ u.mn.circs = [x] ∧
        x.payload = toLE 3 0 ++ toLE 2 (s.fld F.MSH_CIRC_ID_next_id) ++ toLE 1 (c.f 10 1) ++ toLE 3 0 ++ content ∧
        u.fld F.MSH_CIRC_ID_next_id = (s.fld F.MSH_CIRC_ID_next_id + 1) % 65536 ∧
        u.marked 0 (s.fld F.MSH_CIRC_ID_next_id) = true) ∧
    (∀ l, s.ms.rec_ = some l → c.f 0 1 = 0 → c.f 1 1 = (l.epoch + 1) % 256 → 1 ≤ c.f 4 2 → c.f 4 2 ≤ 8760 →
      c.f 2 1 < 64 → c.f 3 1 < 64 → s.rootSlot (c.f 2 1) = true → s.rootSlot (c.f 3 1) = true → c.zero 11 13 = true →
      (s.ml.slot + 400 ≤ c.f 6 5 → l.pending = none → l.prev = none →
        ∃ u, exec (.meshEpochSet t c) s = .next u ∧ Deferred s u c 0x0120 0 ∧
          u.ms.rec_ = some { l with pending := some ⟨c.f 1 1, ⟨c.f 2 1, c.f 3 1⟩, c.f 4 2, c.f 6 5⟩ } ∧
          u.nv.lease = u.ms.rec_ ∧ HostOnly { s with ms := u.ms, nv := u.nv } u []) ∧
      (c.f 6 5 < s.ml.slot + 400 →
        ∃ u, exec (.meshEpochSet t c) s = .next u ∧ Answered s u c stLATE ∧ HostOnly s u []))

/-- SLOT_BOUNDARY (R190, R191, R193, R206), CONNECTION_EVENT (R217 to R220), CONN_UPDATE_INSTANT (R222) and
LAPSE_HOLD_EXPIRY (R221). -/
def Obligations.SlotsAndConnections : Prop :=
  ∀ (t : Nat) (k : Fin 16384) (s : State),
    (s.slotsRun = false → exec (.slotBoundary t) s = .next { s with now := max s.now t }) ∧
    (s.slotsRun = true → Alone s → s.tw.shadow = [] → s.tw.adopt = none → s.flag F.MSH_CTRL_run = true →
      s.flag F.MSH_STAT_running = true →
      (∀ f ∈ [F.PWR_RADIO_PERS_s_en, F.PWR_RADIO_PERS_l_mode, F.PWR_RADIO_PERS_h_en], s.eFld f = s.fld f) →
      ∃ u, exec (.slotBoundary t) s = .next u ∧ u.ml.slot = (s.ml.slot + 1) % 2 ^ 40 ∧ u.ml.slotAt = max s.now t ∧
        u.fld F.MSH_STAT_slot_type = (u.ml.isD u.ml.slot).toNat ∧ u.ml.places = [] ∧ u.ml.decided = [] ∧
        u.ml.planned = false ∧ u.rs.rx = [] ∧
        (s.ml.next = none → u.ml.sfLen = s.ml.sfLen ∧ u.ml.sfMap = s.ml.sfMap) ∧
        (∀ len map at_, s.ml.next = some (len, map, at_) →
          (at_ ≤ u.ml.slot → u.ml.sfLen = len ∧ u.ml.sfMap = map ∧ u.ml.next = none) ∧
          (u.ml.slot < at_ → u.ml.sfLen = s.ml.sfLen ∧ u.ml.sfMap = s.ml.sfMap ∧ u.ml.next = s.ml.next))) ∧
    ∀ c, Tbl.get? s.ml.conns k = some c →
      (s.ml.slot < c.par.anchor → c.upd = none →
        exec (.connectionEvent t k) s = .next { s with now := max s.now t }) ∧
      (c.upd = none → c.state ≠ 3 → c.par.anchor ≤ s.ml.slot →
        let m := match c.cur with
          | none => 0
          | some _ => if c.heardIn || c.due then 0 else c.missed + 1
        (max s.now t ≤ c.heard + secNs c.par.timeout →
          let x : Conn := { c with
            cur := some (c.par.anchor, c.par.ctr), heardIn := false, pendSent := false, missed := m
            due := decide (c.par.latency ≤ m)
            anchorRtc := ({ s with now := max s.now t } : State).rtcOfSlot c.par.anchor
            par := { c.par with anchor := c.par.anchor + c.par.period, ctr := (c.par.ctr + 1) % 65536 } }
          exec (.connectionEvent t k) s = .next { s with
            now := max s.now t, ml := { s.ml with conns := Tbl.put s.ml.conns k x } }) ∧
        (c.heard + secNs c.par.timeout < max s.now t → s.pw.mode ≠ .dawn →
          ∃ u x, exec (.connectionEvent t k) s = .next u ∧ Tbl.get? u.ml.conns k = some x ∧ x.state = 3 ∧
            x.addr = c.addr ∧ x.lapsedAt = max s.now t ∧
            u.fld F.MSH_SUPV_CNT_lapses = min (s.fld F.MSH_SUPV_CNT_lapses + 1) (2 ^ F.MSH_SUPV_CNT_lapses.width - 1) ∧
            { u with io := s.io, ml := s.ml, now := s.now } = s)) ∧
      (∀ p, c.upd = some p → c.par.ctr = p.ctr →
        ∃ u, exec (.connUpdateInstant t k) s = .next u ∧
          u.ml = { s.ml with conns := Tbl.put s.ml.conns k { c with
            par := p, upd := none, state := 1, anchorRtc := ({ s with now := max s.now t } : State).rtcBefore p } } ∧
          RegsOnly { s with ml := u.ml } u [F.MSH_CONN_CNT_active.off]) ∧
      (c.state = 3 → c.lapsedAt + secNs (s.fld F.MSH_LAPSE_CFG_hold_s) ≤ max s.now t →
        ∃ u, exec (.lapseHoldExpiry t k) s = .next u ∧ Tbl.get? u.ml.conns k = none ∧
          { u with io := s.io, ml := s.ml, pt := s.pt, nv := s.nv, now := s.now } = s) ∧
      (max s.now t < c.lapsedAt + secNs (s.fld F.MSH_LAPSE_CFG_hold_s) →
        exec (.lapseHoldExpiry t k) s = .next { s with now := max s.now t })

/-- FRAME_DECISION (R204 to R206, R278, R279), DAWN_FRAME (R137), INNER_BLOCK_CHECK (R247, R248), RECEIPT_BURST (R207),
D_SLOT_TX (R208 to R210) and NODE_RECEIPT (R211, R212), each on one frame. -/
def Obligations.FramesAndReceipts : Prop :=
  ∀ (t : Nat) (s : State), s.listens = false → s.flag F.MSH_STAT_running = true → s.pllA = true →
    (∀ f, s.rs.rx = [f] → s.ml.isD s.ml.slot = false → s.pw.mode = .full →
      let h := hdrOf f.psdu
      let ch := s.cellIndex f
      (f.truncated = false → f.fcsGood = false →
        ∃ u, exec (.frameDecision t false) s = .next u ∧ u.rs = { s.rs with rx := [] } ∧
          u.fld F.MSH_RX_ERR_fcs_err = min (s.fld F.MSH_RX_ERR_fcs_err + 1) (2 ^ F.MSH_RX_ERR_fcs_err.width - 1) ∧
          RegsOnly { s with rs := u.rs } u [F.MSH_RX_ERR_fcs_err.off]) ∧
      (f.truncated = false → f.fcsGood = true → headerGood f.psdu = true → h.dst = 0 → h.sec = true →
        s.ml.decided.contains h.src = false →
        (∀ p, s.frameCheck h f.psdu = .new p → h.type = 4 →
          (s.placeOpen f.onL.isSome ch h.src = true →
            ∃ u r, exec (.frameDecision t false) s = .next u ∧ u.ml.places = s.ml.places ++ [r] ∧ r.addr = h.src ∧
              r.status = 0 ∧ r.ctrEcho = h.ctr % 65536 ∧ r.ch = ch ∧ u.rs.rx = [] ∧
              u.ml.decided = h.src :: s.ml.decided ∧
              u.fld F.MSH_RX_CNT_accepted =
                min (s.fld F.MSH_RX_CNT_accepted + 1) (2 ^ F.MSH_RX_CNT_accepted.width - 1) ∧
              ∀ k x, s.ctxOfAddr h.src = some (k, x) → ∃ y, Tbl.get? u.pt.ctx k = some y ∧ y.rec_ = true ∧
                y.ep = h.epoch ∧ y.ctr = h.ctr) ∧
          (s.placeOpen f.onL.isSome ch h.src = false →
            ∃ u r, exec (.frameDecision t false) s = .next u ∧ u.ml.places = s.ml.places ∧
              u.ml.owed = s.ml.owed ++ [r] ∧ r.addr = h.src ∧ r.status = 2 ∧ u.pt = s.pt ∧
              u.fld F.MSH_RX_CNT_accepted = s.fld F.MSH_RX_CNT_accepted)) ∧
        (s.frameCheck h f.psdu = .replay →
          ∃ u, exec (.frameDecision t false) s = .next u ∧ u.ml = s.ml ∧ u.pt = s.pt ∧
            u.fld F.MSH_SEC_ERR_replay = min (s.fld F.MSH_SEC_ERR_replay + 1) (2 ^ F.MSH_SEC_ERR_replay.width - 1) ∧
            u.fld F.MSH_SEC_LAST_reason = 4))) ∧
    (∀ f p, s.rs.rx = [f] → s.ml.isD s.ml.slot = false → s.pw.mode = .dawn → s.flag F.TPL_STAT_dawn_active = true →
      s.tp.reload = false → f.truncated = false → f.fcsGood = true → headerGood f.psdu = true →
      (hdrOf f.psdu).dst = 0 → (hdrOf f.psdu).type ≠ 3 → s.frameCheck (hdrOf f.psdu) f.psdu = .new p →
      s.ml.decided.contains (hdrOf f.psdu).src = false →
      s.placeOpen false (s.cellIndex f) (hdrOf f.psdu).src = true →
      ∃ u r, exec (.dawnFrame t) s = .next u ∧ u.ml.places = s.ml.places ++ [r] ∧ r.addr = (hdrOf f.psdu).src ∧
        r.status = 2 ∧ r.aux = signedN 8 s.dawnHint ∧ u.rs.rx = [] ∧
        u.fld F.TPL_DAWN_DEFER_defers = s.fld F.TPL_DAWN_DEFER_defers) ∧
    (∀ i rest, s.mn.inner = i :: rest → relayedOk i.payload = false →
      ∃ u, exec (.innerBlockCheck t false) s = .next u ∧ u.mn = { s.mn with inner := rest } ∧
        u.fld F.MSH_LOWPAN_ERR_lowpan_err =
          min (s.fld F.MSH_LOWPAN_ERR_lowpan_err + 1) (2 ^ F.MSH_LOWPAN_ERR_lowpan_err.width - 1) ∧
        RegsOnly { s with mn := u.mn } u [F.MSH_LOWPAN_ERR_lowpan_err.off]) ∧
    (∀ i rest q, s.mn.inner = i :: rest → relayedOk i.payload = true → bitN (i.payload.le 0 1) 2 = false →
      i.payload.le 1 3 ≠ 0xFFFFFF →
      let block : Bytes := i.payload.drop (5 + 3 * i.payload.le 4 1)
      s.secCheck 2 (i.payload.le 1 3) (block.le 0 5) (block.le 5 1)
        (innerAad (i.payload.le 0 1) (i.payload.le 1 3) (block.take 6)) (block.drop 6) = .dup q →
      ∃ u, exec (.innerBlockCheck t false) s = .next u ∧ u.mn = { s.mn with inner := rest } ∧
        u.fld F.MSH_LOWPAN_ERR_inner_dup =
          min (s.fld F.MSH_LOWPAN_ERR_inner_dup + 1) (2 ^ F.MSH_LOWPAN_ERR_inner_dup.width - 1) ∧
        RegsOnly { s with mn := u.mn } u [F.MSH_LOWPAN_ERR_inner_dup.off]) ∧
    (s.meshSends = true → s.ml.planned = false → s.tp.reload = false → s.sServes = true → s.rs.tx = none →
      s.rs.ready = none →
      (s.ml.isD s.ml.slot = false →
        let cs := (s.burstCarriers.filter fun c => !c.1).map (·.2)
        let q : TxReq := ⟨s.ml.slotAt + 20900000, s.ml.slotAt + 20900000, s.ml.slotAt + 24952000, false, true, cs⟩
        (s.ml.places = [] → exec (.receiptBurst t) s =
          .next { s with now := max s.now t, ml := { s.ml with planned := true } }) ∧
        (cs ≠ [] → Sys2Proof.Machine.TxReq.valid q s.grid100 = true →
          ∃ u j, exec (.receiptBurst t) s = .next u ∧ u.rs.tx = some j ∧ j.req = q ∧ j.started = false ∧
            u.ml.planned = true)) ∧
      (s.ml.isD s.ml.slot = true → s.pw.mode = .doze →
        let r := ({ s with now := max s.now t } : State).latchRegs dRegs
        let start := s.ml.slotAt + 2000000
        ∀ x : Rcpt, r.beaconChannels = [] → s.ml.owed = [x] → x.l = false → r.canSend false x.ch = true →
          let q : TxReq := ⟨start, start, s.ml.slotAt + 20500000, r.eFlag F.MSH_DL_CFG_dl_cca, false,
            [r.rcptCarrier x false]⟩
          Sys2Proof.Machine.TxReq.valid q s.grid100 = true →
          ∃ u j, exec (.dSlotTx t) s = .next u ∧ u.rs.tx = some j ∧ j.req = q ∧ u.ml.owed = [] ∧ u.ml.planned = true)) ∧
    ∀ f d, s.rs.rx = [f] → s.isShadow = false → s.ml.isD s.ml.slot = true → f.truncated = false → f.fcsGood = true →
      f.psdu.length = 12 → Bytes.le f.psdu 0 1 % 16 = 5 → s.ml.slotAt + 20700000 ≤ f.sfdEnd →
      f.sfdEnd ≤ s.ml.slotAt + 24950000 → s.ml.dl = [d] → rcptMatches f.psdu d = true → d.kind = .keepAlive →
      (Bytes.le f.psdu 7 1 % 4 ≤ 1 →
        ∃ u, exec (.nodeReceipt t) s = .next u ∧ u.ml.dl = [] ∧ u.rs.rx = [] ∧
          u.fld F.MSH_DL_SENT_sent = min (s.fld F.MSH_DL_SENT_sent + 1) (2 ^ F.MSH_DL_SENT_sent.width - 1)) ∧
      (Bytes.le f.psdu 7 1 % 4 = 2 →
        let e : DlFrame := { d with
          waiting := false, sent := d.sent - 1, notBefore := max s.now t + secNs (Bytes.le f.psdu 9 1) }
        (s.ml.connAny d.dst = none → s.ctxOfAddr d.dst = none →
          exec (.nodeReceipt t) s = .next { s with
            now := max s.now t, rs := { s.rs with rx := [] }, ml := { s.ml with dl := [e] } }) ∧
        ∀ k x, s.ml.connAny d.dst = some (k, x) → Tbl.get? s.ml.conns k = some x →
          ∃ u, exec (.nodeReceipt t) s = .next u ∧ u.ml.dl = [e] ∧ u.rs.rx = [] ∧
            Tbl.get? u.ml.conns k = some { x with heard := max s.now t } ∧
            { u with rs := s.rs, ml := s.ml, pt := s.pt, now := s.now } = s)

/-- ADMISSION (R239 to R242), JOIN_DECIDE_DEADLINE (R243), POSTMARK_EXPIRY (R254), FRAGMENT_TIMEOUT (R262), MIC_WINDOW_END
(R281). -/
def Obligations.JoinsAndMeshTimers : Prop :=
  ∀ (t : Nat) (o : ConnOp) (s : State),
    (∀ r n c, s.mn.joins = [r] → s.isShadow = false → s.pw.mode = .full → r.route = [] → s.ctxOfEui r.eui = some (n, c) →
      s.ml.dl = [] →
      let v := ({ s with now := max s.now t } : State).latchRegs [F.MSH_JOIN_CFG_policy.off]
      ∀ p, v.offered r o = some p →
        (c.deny = true →
          ∃ u d, exec (.admission t o) s = .next u ∧ u.mn.joins = [] ∧ u.ml.dl = [d] ∧ d.kind = .joinResp r.eui ∧
            Bytes.le d.payload 1 1 = 2 ∧ u.pt = s.pt) ∧
        (c.deny = false → r.reattach = false → r.approved = none → v.fld F.MSH_JOIN_CFG_policy = 0 → c.addr ≠ 0 →
          v.admitRoom r 0 = none →
          ∃ u d y, exec (.admission t o) s = .next u ∧ u.mn.joins = [] ∧ u.ml.dl = [d] ∧ d.kind = .joinResp r.eui ∧
            d.dst = c.addr ∧ d.par = some p ∧
            d.payload = respPayload false 0 c.addr 0 r.eui (p.record r.l.toNat) ∧
            Tbl.get? u.pt.ctx n = some y ∧ y.addr = c.addr ∧ y.rec_ = true ∧ y.ep = r.epoch ∧ y.ctr = r.fc ∧
            u.fld F.MSH_JOIN_CNT_admitted =
              min (s.fld F.MSH_JOIN_CNT_admitted + 1) (2 ^ F.MSH_JOIN_CNT_admitted.width - 1))) ∧
    (∀ p (tok : BitVec 16), s.mn.pend = [p] → p.token = tok.toNat → s.isShadow = false → s.ml.dl = [] →
      (({ s with now := max s.now t } : State).joinLate p = true →
        ∃ u d, exec (.joinDecideDeadline t tok) s = .next u ∧
          u.mn = { s.mn with pend := [], past := (tok.toNat, p.issued) :: s.mn.past } ∧ u.ml.dl = [d] ∧
          Bytes.le d.payload 1 1 = 3) ∧
      (({ s with now := max s.now t } : State).joinLate p = false →
        exec (.joinDecideDeadline t tok) s = .next { s with now := max s.now t })) ∧
    exec (.postmarkExpiry t) s = .next { s with
      now := max s.now t
      mn := { s.mn with marks := s.mn.marks.filter fun m => decide (max s.now t < m.2.2 + 120000000000) } } ∧
    (let lim := 1000000000 * max 1 (s.fld F.MSH_FRAG_CFG_timeout_s)
     ∃ u, exec (.fragmentTimeout t) s = .next u ∧
      u.mn = { s.mn with frags := s.mn.frags.filter fun r => decide (max s.now t < r.started + lim) } ∧
      u.fld F.MSH_FRAG_CNT_timed_out = min (s.fld F.MSH_FRAG_CNT_timed_out +
        (s.mn.frags.length - u.mn.frags.length)) (2 ^ F.MSH_FRAG_CNT_timed_out.width - 1) ∧
      RegsOnly { s with mn := u.mn } u [F.MSH_FRAG_CNT_timed_out.off]) ∧
    (s.ms.micEnd ≤ s.rt.sec →
      ∃ u, exec (.micWindowEnd t) s = .next u ∧
        u.ms = { s.ms with micCount := 0, micAddr := 0, micEnd := (s.rt.sec / 60 + 1) * 60 } ∧
        (s.fld F.MSH_SEC_CFG_mic_evt ≠ 0 → s.fld F.MSH_SEC_CFG_mic_evt ≤ s.ms.micCount →
          u.fld F.MSH_SEC_STAT_mic_evt = 1) ∧
        (s.fld F.MSH_SEC_CFG_mic_evt = 0 ∨ s.ms.micCount < s.fld F.MSH_SEC_CFG_mic_evt → u.io = s.io) ∧
        HostOnly { s with ms := u.ms } u [F.MSH_SEC_STAT_mic_evt.off])

/-- LEASE_EXTEND and LEASE_WRITE_RETRY (R283), DL_COUNTER_WARN and DL_COUNTER_EXHAUSTED (R290), EPOCH_ROTATION (R286),
GRACE_END (R289), KEY_REQUEST and KEY_DERIVATION (R268, R271, R272), REMASK_PASS (R297) and REWRAP_SCHEDULED (R301). -/
def Obligations.LeasesEpochsAndKeys : Prop :=
  ∀ (t : Nat) (s : State),
    (∀ r, s.ms.rec_ = some r → s.tw.role = .solo → r.leaseEnd + 2 ^ 20 ≤ 2 ^ 40 →
      ∀ (i : Bool → Instr), (i = (.leaseExtend t ·) ∧ s.ms.retry = false ∧ s.tw.leaseOut = none ∧
          r.leaseEnd ≤ s.ms.ctr + 2 ^ 16) ∨ (i = (.leaseWriteRetry t ·) ∧ s.ms.retry = true) →
        (∃ u, exec (i true) s = .next u ∧ u.ms.rec_ = some { r with leaseEnd := r.leaseEnd + 2 ^ 20 } ∧
          u.nv = { s.nv with lease := u.ms.rec_ } ∧ u.ms.retry = false ∧ u.ms.ctr = s.ms.ctr ∧ u.io = s.io) ∧
        ∃ u, exec (i false) s = .next u ∧ u.ms = { s.ms with retry := true } ∧ u.fld F.MSH_SEC_STAT_lease_err = 1 ∧
          RegsOnly { s with ms := u.ms } u [F.MSH_SEC_STAT_lease_err.off]) ∧
    (∀ r, s.ms.rec_ = some r →
      (s.ms.warned = false → s.dlWarnAt ≤ s.ms.ctr →
        ∃ u, exec (.dlCounterWarn t) s = .next u ∧ u.ms = { s.ms with warned := true } ∧
          u.fld F.MSH_SEC_STAT_dl_warn = 1 ∧ HostOnly { s with ms := u.ms } u [F.MSH_SEC_STAT_dl_warn.off]) ∧
      (s.ms.exhausted = false → 2 ^ 40 ≤ s.ms.ctr →
        s.canSecure = false ∧ ∃ u, exec (.dlCounterExhausted t) s = .next u ∧ u.ms = { s.ms with exhausted := true } ∧
          u.fld F.MSH_SEC_STAT_dl_exhausted = 1 ∧
          HostOnly { s with ms := u.ms } u [F.MSH_SEC_STAT_dl_exhausted.off]) ∧
      (∀ p, r.pending = some p → s.pw.mode = .full → p.at_slot ≤ s.ml.slot →
        ∃ u, exec (.epochRotation t) s = .next u ∧ u.ms.ctr = 0 ∧ u.ms.cache = [] ∧ u.nv.lease = u.ms.rec_ ∧
          u.ms.rec_ = some ⟨p.epoch, p.roots, 2 ^ 20, some (r.epoch, r.roots),
            max s.now t + 1000000000 * (p.graceH * 3600), none, 2 ^ 20⟩) ∧
      ∀ e ro, r.prev = some (e, ro) → r.graceEnd ≤ max s.now t →
        ∃ u, exec (.graceEnd t) s = .next u ∧ u.ms.rec_ = some { r with prev := none, graceEnd := 0 } ∧
          u.nv.lease = u.ms.rec_ ∧ u.ms.cache = s.ms.cache.filter (fun k => !(k.epoch == e)) ∧
          u.ms.ctr = s.ms.ctr) ∧
    (∀ addr epoch : Nat,
      (∀ e rest, s.ms.cache = e :: rest → e.addr = addr → e.epoch = epoch →
        ∃ u, exec (.keyRequest t addr epoch) s = .next u ∧ u.ms = s.ms ∧
          u.fld F.MSH_KCACHE_HIT_hits = min (s.fld F.MSH_KCACHE_HIT_hits + 1) (2 ^ 32 - 1) ∧
          RegsOnly s u [F.MSH_KCACHE_HIT_hits.off]) ∧
      (s.ms.cache = [] → s.ms.kreq = [] →
        ∃ u, exec (.keyRequest t addr epoch) s = .next u ∧ u.ms = { s.ms with kreq := [(addr, epoch)] } ∧
          u.fld F.MSH_KCACHE_MISS_misses = min (s.fld F.MSH_KCACHE_MISS_misses + 1) (2 ^ 32 - 1) ∧
          RegsOnly { s with ms := u.ms } u [F.MSH_KCACHE_MISS_misses.off]) ∧
      ∀ n key, s.ms.kreq = [(addr, epoch)] → s.pllA = true → s.nodeRec addr = some n → s.keyOf n.eui epoch = some key →
        ∃ u e rest, exec (.keyDerivation t) s = .next u ∧ u.ms = { s.ms with kreq := [], cache := e :: rest } ∧
          e.addr = addr ∧ e.epoch = epoch ∧ e.x = xorBytes key (s.ms.mask s.ms.maskSel)) ∧
    (s.kv.ready = true →
      ((Tbl.keys s.kv.work).Nodup → ∀ late : Bool, ∃ u, exec (.remaskPass t late) s = .next u ∧
        (∀ k w, Tbl.get? s.kv.work k = some w → w.key.length = w.size →
          ∃ w', Tbl.get? u.kv.work k = some w' ∧ w'.key = w.key ∧ w'.sel = !w.sel ∧ w'.policy = w.policy ∧
            w'.size = w.size) ∧
        u.fld F.KV_REMASK_passes = (s.fld F.KV_REMASK_passes + 1) % 2 ^ 32 ∧
        (late = true → u.fld F.KV_STAT_remask_late = 1)) ∧
      (s.kv.rewrapAt ≤ max s.now t →
        ∃ u, exec (.rewrapScheduled t) s = .next u ∧
          u.kv = { s.kv with rewrapAt := max s.now t + 86400000000000 } ∧
          u.fld F.KV_WRAP_rewraps = min (s.fld F.KV_WRAP_rewraps + 1) (2 ^ F.KV_WRAP_rewraps.width - 1) ∧
          RegsOnly { s with kv := u.kv, nv := u.nv, free := u.free } u [F.KV_WRAP_rewraps.off]))

/-! ## The key vault (10_key_vault) -/

/-- KV_INFO, KV_UNIT_PUB, KV_CMAC, KV_LETTER, UPD_LETTER (R304, R314, R315) and LETTER_PROCESS (R310 to R312): a letter
waits for its turn; one that a check refuses is counted with its step and status and changes no record; one that passes
commits; a counter not above the stored one never passes. -/
def Obligations.VaultCommandsAndLetters : Prop :=
  ∀ (t : Nat) (c : Cmd) (s : State),
    (Ready s c .command → s.pw.mode = .full → c.f 0 8 % 32 = 0 →
      (c.zero 8 16 = true →
        (∃ u, exec (.kvInfo t c) s = .next u ∧ Answered s u c stOK [(c.f 0 8, ((List.range 64).map s.kvInfoSlot).flatten)] ∧
          HostOnly { s with free := s.free + 1 } u []) ∧
        (∀ k w, Tbl.get? s.kv.work k = some w → s.kvInfoSlot k =
          toLE 1 1 ++ toLE 1 w.size ++ toLE 4 w.policy ++ toLE 1 w.auth ++ toLE 1 0 ++ toLE 8 w.ctr) ∧
        ∃ u, exec (.kvUnitPub t c) s = .next u ∧ HostOnly s u [] ∧
          Answered s u c stOK [(c.f 0 8, s.nv.unitId ++ transportPub ++ List.replicate 16 0#8)]) ∧
      (c.zero 11 13 = true → 1 ≤ c.f 8 2 → c.f 8 2 ≤ 4096 →
        (s.slotKey (c.f 10 1) 2 = none →
          ∃ u, exec (.kvCmac t c) s = .next u ∧ Answered s u c stBAD_ARG ∧ HostOnly s u []) ∧
        ∀ key, s.slotKey (c.f 10 1) 2 = some key → c.rdErr = none →
          ∃ u, exec (.kvCmac t c) s = .next u ∧ HostOnly s u [] ∧
            Answered s u c stOK [(c.f 0 8 + c.f 8 2, aesCmac key (Bytes.slice c.rd 0 (c.f 8 2)))]) ∧
      (c.zero 10 14 = true → ∀ (i : Instr) (op : Nat),
        (i = .kvLetter t c ∧ op = 0x0201) ∨ (i = .updLetter t c ∧ op = 0x0805) →
        (s.kv.letters.length < 4 → c.rdErr = none →
          ∃ u, exec i s = .next u ∧ Deferred s u c op (s.kv.letterKey + 1) ∧
            u.kv = { s.kv with
              letterKey := s.kv.letterKey + 1
              letters := s.kv.letters ++ [⟨s.kv.letterKey + 1, op, c.f 8 2, Bytes.slice c.rd 0 (c.f 8 2)⟩] } ∧
            HostOnly { s with kv := u.kv } u []) ∧
        (4 ≤ s.kv.letters.length → ∃ u, exec i s = .next u ∧ Answered s u c stNO_ROOM ∧ HostOnly s u []))) ∧
    ∀ l rest, s.kv.letters = l :: rest → s.kv.ready = true → s.pllA = true →
      (l.counter ≤ s.letterCtr → s.letterCheck l ≠ none) ∧
      (∀ step st, s.letterCheck l = some (step, st) → ∀ a b : Bool,
        ∃ u, exec (.letterProcess t a b) s = .next u ∧ u.kv = { s.kv with letters := rest } ∧
          u.fld F.KV_LETTER_LAST_step = step % 2 ^ F.KV_LETTER_LAST_step.width ∧
          u.fld F.KV_LETTER_LAST_status = st % 2 ^ F.KV_LETTER_LAST_status.width ∧
          u.fld F.KV_LETTER_CNT_refused =
            min (s.fld F.KV_LETTER_CNT_refused + 1) (2 ^ F.KV_LETTER_CNT_refused.width - 1) ∧
          (∀ d, s.deferredKey l.opcode l.key = some d → Finished s u d st) ∧
          HostOnly { s with kv := u.kv } u [F.KV_LETTER_LAST_step.off, F.KV_LETTER_CNT_refused.off]) ∧
      (s.letterCheck l = none →
        (∃ u, exec (.letterProcess t false true) s = .next u ∧ u.nv.vault = s.nv.vault ∧ u.nv.auth = s.nv.auth ∧
          u.nv.letterCtr = s.nv.letterCtr ∧ u.kv = { s.kv with letters := rest } ∧ u.fld F.TEL_FAULT_mram = 1) ∧
        ∃ u, exec (.letterProcess t true true) s = .next u ∧ u.nv.letterCtr = l.counter ∧ u.kv.letters = rest ∧
          u.fld F.KV_LETTER_CNT_accepted =
            min (s.fld F.KV_LETTER_CNT_accepted + 1) (2 ^ F.KV_LETTER_CNT_accepted.width - 1) ∧
          u.fld F.KV_LETTER_LAST_step = 0 ∧
          (l.type = 1 → ∃ w, Tbl.get? u.kv.work (l.body 0 1) = some w ∧ w.policy = l.body 4 4 ∧ w.size = l.body 1 1 ∧
            w.auth = l.signer ∧ w.ctr = l.counter) ∧
          (l.type = 2 → Tbl.get? u.kv.work (l.body 0 1) = none ∧ u.ms.cache = []) ∧
          (l.type = 3 → Tbl.get? u.nv.auth (l.body 0 1) = some { hash := Bytes.slice l.data 144 48, programmed := true }) ∧
          (l.type = 4 → ∀ a, Tbl.get? s.nv.auth (l.body 0 1) = some a →
            Tbl.get? u.nv.auth (l.body 0 1) = some { a with revoked := true }) ∧
          (l.type = 6 → u.kv.unlocked = true) ∧ (l.type = 7 → u.nv.lifecycle = 2))

/-! ## Wi-Fi (12_wifi_access) -/

/-- WLN_BSS_SET, WLN_CLIENT_SET, WLN_KEY_SET, WLN_MGMT_TX, WLN_CHAN_SWITCH and WLN_CLIENT_GET (R363 to R368), each on one
record. -/
def Obligations.WifiCommands : Prop :=
  ∀ (t : Nat) (c : Cmd) (h : Bool) (b : Bytes) (s : State), Ready s c .command → s.pw.mode = .full → s.isShadow = false →
    (OneBlock c 64 10 b → b.le 0 1 = h.toNat → Bytes.zero (Bytes.slice b 50 13) = true →
      (b.le 2 1 = 0 → b.le 1 1 = 0 → b.le 3 1 = 0xFF → b.le 10 1 ≤ 32 → b.le 11 1 ≤ 7 → 15 ≤ b.le 12 2 →
        b.le 12 2 ≤ 1000 → b.le 14 1 ≠ 0 → 1 ≤ b.le 15 1 → b.le 15 1 ≤ 4 → 1 ≤ b.le 16 2 → b.le 16 2 ≤ 512 →
        ∃ u x, exec (.wlnBssSet t c) s = .next u ∧ Answered s u c stOK [(c.f 0 8 + 63, toLE 1 stOK)] ∧
          u.bss h 0 = some x ∧ x.bssid = b.le 4 6 ∧ x.ssid = Bytes.slice b 18 (b.le 10 1) ∧ x.bcnInt = b.le 12 2 ∧
          x.cipher = b.le 15 1 ∧ HostOnly { s with wl := u.wl } u []) ∧
      (b.le 2 1 = 1 → 1 ≤ b.le 1 1 → b.le 1 1 ≤ 15 →
        ∃ u, exec (.wlnBssSet t c) s = .next u ∧ Answered s u c stOK [(c.f 0 8 + 63, toLE 1 stOK)] ∧
          u.bss h (b.le 1 1) = none ∧ HostOnly { s with wl := u.wl } u [])) ∧
    (OneBlock c 32 10 b → Bytes.zero (Bytes.slice b 24 7) = true → s.clientMld (b.le 0 6) = none →
      (b.le 6 1 = 2 → ∃ u, exec (.wlnClientSet t c) s = .next u ∧
        Answered s u c stBAD_ARG [(c.f 0 8 + 31, toLE 1 stBAD_ARG)] ∧ HostOnly s u []) ∧
      (∀ x k, b.le 6 1 = 0 → b.le 7 1 = 1 → b.le 22 1 = 0 → b.le 23 1 ≤ 3 → b.le 20 1 ≤ 15 →
        s.bss false (b.le 20 1) = some x → s.bssCnt false (b.le 20 1) < x.maxClients →
        s.clientAt false (b.le 8 6) = none → s.linkCnt < 1024 → s.wl.clients.length < 512 →
        Tbl.firstFree s.wl.clients 0 512 = some k →
        ∃ u y, exec (.wlnClientSet t c) s = .next u ∧ Answered s u c stOK [(c.f 0 8 + 31, toLE 1 stOK)] ∧
          Tbl.get? u.wl.clients k = some y ∧ y.mld = b.le 0 6 ∧ y.flags = b.le 23 1 ∧ y.h = none ∧
          y.l = some { addr := b.le 8 6, bss := b.le 20 1 } ∧ HostOnly { s with wl := u.wl } u [])) ∧
    (OneBlock c 64 10 b → Bytes.zero (Bytes.slice b 18 14) = true → b.le 11 1 = 0 → b.le 10 1 = 0 →
      keyIdOk (b.le 7 1) (b.le 8 1) = true →
      (b.le 6 1 = 0 → keyCipherOk (b.le 7 1) (b.le 9 1) (Bytes.slice b 32 32) = true →
        s.keyFits (b.le 0 6) (b.le 7 1) (b.le 9 1) = true →
        ∃ u k, exec (.wlnKeySet t c) s = .next u ∧ Answered s u c stOK [(c.f 0 8 + 63, toLE 1 stOK)] ∧
          u.wkey (b.le 0 6) (b.le 7 1) (b.le 8 1) = some k ∧ k.key = Bytes.slice b 32 32 ∧ k.pn = b.le 12 6 ∧
          k.lease = b.le 12 6 + 65536 ∧ ⟨b.le 0 6, b.le 7 1, b.le 8 1, k.lease⟩ ∈ u.nv.pnRecs ∧
          HostOnly { s with wl := u.wl, nv := u.nv } u []) ∧
      (b.le 6 1 = 1 → s.wkey (b.le 0 6) (b.le 7 1) (b.le 8 1) = none →
        ∃ u, exec (.wlnKeySet t c) s = .next u ∧ Answered s u c stBAD_ARG [(c.f 0 8 + 63, toLE 1 stBAD_ARG)] ∧
          HostOnly s u [])) ∧
    (c.f 0 8 % 32 = 0 → 24 ≤ c.f 8 2 → c.f 8 2 ≤ 2304 → c.f 10 1 = h.toNat → c.f 11 1 ≤ 15 → c.f 12 1 ≤ 1 →
      c.zero 13 11 = true → s.bss h (c.f 11 1) ≠ none → c.rdErr = none →
      ∃ u p, exec (.wlnMgmtTx t c) s = .next u ∧ (u.radio h).queue = (s.radio h).queue ++ [p] ∧ p.kind = .mgmt ∧
        p.data = c.rd.take (c.f 8 2) ∧ p.key = some (s.wl.mgmtKey + 1) ∧ u.io.out = s.io.out ∧
        u.deferredKey 0x0304 (s.wl.mgmtKey + 1) ≠ none) ∧
    (c.f 0 1 = h.toNat → c.zero 2 2 = true → c.zero 10 14 = true → c.f 8 2 = 0 →
      chanOk h (BitVec.ofNat 32 (c.f 4 4)) = true → (s.radio h).switch = none →
      ({ s with now := max s.now t } : State).wifiOn h = true → s.bss h 0 ≠ none → 1 ≤ c.f 1 1 →
      ∃ u, exec (.wlnChanSwitch t c) s = .next u ∧ Deferred s u c 0x0305 h.toNat ∧
        u.radio h = { s.radio h with switch := some (BitVec.ofNat 32 (c.f 4 4), 0, c.f 1 1 + 1) } ∧
        HostOnly { s with lh := u.lh } u []) ∧
    (OneBlock c 32 10 b →
      (s.clientMld (b.le 0 6) = none → ∃ u, exec (.wlnClientGet t c) s = .next u ∧ HostOnly s u [] ∧
        Answered s u c stOK [(c.f 0 8 + 31, toLE 1 stBAD_ARG)]) ∧
      (∀ k x, s.clientMld (b.le 0 6) = some (k, x) →
        ∃ u out, exec (.wlnClientGet t c) s = .next u ∧ HostOnly s u [] ∧ out.length = 25 ∧
          out.take 3 = toLE 1 x.links ++ toLE 1 x.caps ++ toLE 1 x.flags ∧
          Answered s u c stOK [(c.f 0 8 + 6, out), (c.f 0 8 + 31, toLE 1 stOK)]))

/-- What starts an exchange on L or H: PROBE_REQUEST and TBTT_BEACON (R341), TWT_SETUP_REQUEST and TWT_SERVICE_PERIOD
(R354), BSRP_TRIGGER (R350), SOUNDING (R349) and TXOP_WON (R348) put PPDUs in the queue of their radio. -/
def Obligations.WifiExchangesBegin : Prop :=
  ∀ (t : Nat) (h : Bool) (s : State), s.isShadow = false →
    let r := ({ s with now := max s.now t } : State).wlnLatch h
    r.wifiOn h = true →
    let joins (u : State) (p : Ppdu) : Prop := (u.radio h).queue = (s.radio h).queue ++ [p] ∧
      u.radio (!h) = s.radio (!h)
    (∀ src b, s.bss h 0 = some b → bitN b.flags 0 = false →
      ∃ u, exec (.probeRequest t h src []) s = .next u ∧ joins u { kind := .answer, data := toBE 6 src, dur := 0 } ∧
        SameWords s u []) ∧
    (∀ b, s.bss h 0 = some b → b.tbtt ≤ max s.now t → (s.radio h).queue = [] → (s.radio h).switch = none →
      ∃ u, exec (.tbttBeacon t h) s = .next u ∧ joins u { kind := .beacon, dur := 0 } ∧
        u.bss h 0 = some { b with tbtt := nextTbtt (max s.now t) b.bcnInt } ∧ SameWords s u []) ∧
    (∀ (q : TwtReq) k c x, q.h = h → s.clientAt h q.src = some (k, c) → Tbl.get? s.wl.clients k = some c →
      r.twtAnswer q c = (0, some x) →
      ∃ u, exec (.twtSetupRequest t q) s = .next u ∧
        Tbl.get? u.wl.clients k = some { c with twts := c.twts ++ [x] } ∧
        joins u { kind := .answer, users := [k]
                  data := toLE 1 0 ++ (toLE 4 x.interval ++ toLE 4 x.dur ++ toLE 8 x.start), dur := 0 }) ∧
    (∀ (k : Fin 512) i c a l, Tbl.get? s.wl.clients k = some c → c.twts[i]? = some a → c.link a.h = some l →
      a.start ≤ max s.now t → a.trigger = false →
      let p := max 1 (usNs a.interval)
      ∃ u y, exec (.twtServicePeriod t k i) s = .next u ∧ Tbl.get? u.wl.clients k = some y ∧ y.link a.h =
        some { l with sp := some (a.start + (max s.now t - a.start) / p * p + usNs a.dur) } ∧ u.io = s.io ∧
        u.lh = s.lh) ∧
    (∀ dur, (s.radio h).bsrpAt ≤ max s.now t → r.schedLatch.fits h dur = true →
      ∃ u p, exec (.bsrpTrigger t h dur []) s = .next u ∧ joins u p ∧ p.kind = .bsrp ∧ p.users = [] ∧ p.dur = dur ∧
        max s.now t + 1000000 ≤ (u.radio h).bsrpAt) ∧
    (∀ dur k c, h = true → (s.radio h).soundAt ≤ max s.now t → s.wl.clients = [(k, c)] → bitN c.caps 4 = true →
      c.h ≠ none →
      ∃ u, exec (.sounding t dur) s = .next u ∧ joins u { kind := .sounding, users := [k], dur := dur } ∧
        max s.now t + 5000000 ≤ (u.radio true).soundAt) ∧
    ∀ (x : Txop) (k : Nat) (c : Client) (m : Mpdu), x.h = h → h = true → x.ul = false → (s.radio h).tx = none →
      s.tw.peerRevert = none → x.mpdus = 1 → s.wl.clients = [(k, c)] → c.l = none → c.h ≠ none → c.he = false →
      c.twts = [] → c.asleep = false → c.retry = [m] → m.tid ∈ acTids x.ac → m.client = k → s.txKey c.mld = none →
      ∃ u, exec (.txopWon t x) s = .next u ∧
        joins u { kind := .su, users := [k], mpdus := [m], dur := x.mpduNs + x.ackNs, granted := true
                  vo := x.ac == 3 } ∧
        ∃ y, Tbl.get? u.wl.clients k = some y ∧ y.retry = []

/-- WIFI_DATA_RX and WIFI_MGMT_RX (R343, R357, R358), CLIENT_UNREACHABLE (R344) and PN_LEASE_EXTEND (R359): what fails a
check is counted and goes no further; what passes is recorded; a client of 32 failures is told of once; a lease grows
by 65,536 once its record is written. -/
def Obligations.WifiReceptionAndLeases : Prop :=
  ∀ (t : Nat) (s : State), s.isShadow = false →
    (∀ (f : WRx),
      let r := ({ s with now := max s.now t } : State).wlnLatch f.h
      r.wifiOn f.h = true →
      let only (u : State) (x : Fld) : Prop := u.fld x = min (s.fld x + 1) (2 ^ x.width - 1) ∧
        { u with io := s.io, wl := s.wl, now := s.now } = s ∧ u.wl.keys = s.wl.keys
      (s.clientAt f.h f.src = none → ∃ u, exec (.wifiDataRx t f 0) s = .next u ∧ only u F.WLN_RX_DROP_unknown) ∧
      ∀ n c, s.clientAt f.h f.src = some (n, c) →
        (bitN c.flags 0 = false → (parseEth f.frame).ethertype ≠ 0x888E →
          ∃ u, exec (.wifiDataRx t f 0) s = .next u ∧ only u F.WLN_RX_DROP_unauth) ∧
        ∀ id, bitN c.flags 0 = true → f.keyId = some id →
          (s.wkey c.mld 0 id = none ∨ f.micOk = false →
            ∃ u, exec (.wifiDataRx t f 0) s = .next u ∧ only u F.WLN_SEC_ERR_mic_fail) ∧
          (∀ k old, s.wkey c.mld 0 id = some k → f.micOk = true → Tbl.get? k.rx f.tid = some old → f.pn ≤ old →
            ∃ u, exec (.wifiDataRx t f 0) s = .next u ∧ only u F.WLN_SEC_ERR_replay) ∧
          (∀ k, s.wkey c.mld 0 id = some k → f.micOk = true → Tbl.get? k.rx f.tid = none →
            (s.latchRegs admRegs).admitWifi f.tid (cellsOf f.frame.length) = true →
            ∃ u k', exec (.wifiDataRx t f 0) s = .next u ∧ u.wkey c.mld 0 id = some k' ∧
              Tbl.get? k'.rx f.tid = some f.pn ∧ k'.pn = k.pn ∧
              u.fld F.WLN_SEC_ERR_mic_fail = s.fld F.WLN_SEC_ERR_mic_fail)) ∧
    (∀ (m : WMgmt) n c, s.clientAt m.h m.src = some (n, c) → Tbl.get? s.wl.clients n = some c → m.kind = .saQuery →
      (({ s with now := max s.now t } : State).wlnLatch m.h).wifiOn m.h = true → m.prot = none → bitN c.flags 1 = false →
      ∃ u, exec (.wifiMgmtRx t m) s = .next u ∧ (u.radio m.h).queue = (s.radio m.h).queue ++
        [{ kind := .answer, users := [n], data := toLE 1 0, dur := 0 }] ∧ u.radio (!m.h) = s.radio (!m.h)) ∧
    (∀ (k : Fin 512) c, Tbl.get? s.wl.clients k = some c →
      (c.told = false → 32 ≤ c.unacked →
        ∃ u, exec (.clientUnreachable t k) s = .next u ∧
          u.wl = { s.wl with clients := Tbl.put s.wl.clients k { c with told := true } } ∧
          HostOnly { s with wl := u.wl } u []) ∧
      (c.told = true ∨ c.unacked < 32 → exec (.clientUnreachable t k) s = .next { s with now := max s.now t })) ∧
    ∀ i k, s.wl.keys[i]? = some k →
      (k.pn + 4096 < k.lease → ∀ ok : Bool, exec (.pnLeaseExtend t i ok) s = .next { s with now := max s.now t }) ∧
      (k.lease ≤ k.pn + 4096 →
        (∃ u k', exec (.pnLeaseExtend t i true) s = .next u ∧ u.wkey k.target k.kind k.id = some k' ∧
          k'.lease = k.lease + 65536 ∧ k'.pn = k.pn ∧
          ⟨k.target, k.kind, k.id, k.lease + 65536⟩ ∈ u.nv.pnRecs ∧ u.io = s.io) ∧
        ∃ u, exec (.pnLeaseExtend t i false) s = .next u ∧ u.wl = s.wl ∧ u.fld F.TEL_FAULT_mram = 1)

/-! ## Tables and queues (13_postcode_tables, 14_sorter_buffering, 15_shaping) -/

/-- PCT_WRITE and PCT_READ (R403) on one Ethernet MAC record, PCT_DUMP, PCT_AUDIT and PCT_FLUSH (R404 to R406) as they
are accepted; SRT_VLAN_SET (R438), QMS_SHAPER_SET, QMS_SHAPER_GET, QMS_QUEUE_SET and QMS_QUEUE_GET (R458 to R460) on one
record.  PCT_DUMP_DONE and PCT_FLUSH_DONE; LEARN_UPDATE (R388) and LEARN_FAIL_RECORD (R389); ROUND_VISIT (R392, R395);
TABLE_ECC_ERROR and DIGEST_RESCAN (R400). -/
def Obligations.TablesAndQueues : Prop :=
  ∀ (t : Nat) (c : Cmd) (s : State),
    let base := c.f 0 8
    let inc (u : State) (f : Fld) : Prop := u.fld f = min (s.fld f + 1) (2 ^ f.width - 1)
    let seq (u : State) : Prop := u.fld (F.PCT_SEQ_seq 3) = (s.fld (F.PCT_SEQ_seq 3) + 1) % 2 ^ 32
    (Ready s c .command → s.pw.mode = .full →
      (∀ b, OneBlock c 48 11 b → c.f 10 1 = 3 →
        let key := b.le 6 2 % 4096 * 2 ^ 48 + b.be 0 6
        (b.le 6 2 < 4096 → b.le 10 1 / 8 % 8 = 0 → Bytes.zero (Bytes.slice b 11 35) = true →
          (b.le 46 1 = 0 → destOk (b.le 8 2) = true →
            ((s.pt.place? 3 key).isSome = true →
              ∃ u, exec (.pctWrite t c) s = .next u ∧ Answered s u c stOK [(base + 47, toLE 1 stOK)] ∧
                Tbl.get? u.pt.mac key = some ⟨b.le 8 2, bitN (b.le 10 1) 0, bitN (b.le 10 1) 1, bitN (b.le 10 1) 2,
                  true, false⟩ ∧ seq u ∧ HostOnly { s with pt := u.pt } u [(F.PCT_SEQ_seq 3).off] ∧
                ∀ k, k ≠ key → (Tbl.get? u.pt.mac k).map (·.dest) = (Tbl.get? s.pt.mac k).map (·.dest)) ∧
            (s.pt.place? 3 key = none →
              ∃ u, exec (.pctWrite t c) s = .next u ∧ Answered s u c stNO_ROOM [(base + 47, toLE 1 stNO_ROOM)] ∧
                HostOnly s u [])) ∧
          (b.le 46 1 = 1 →
            (s.pt.has 3 key = true →
              ∃ u, exec (.pctWrite t c) s = .next u ∧ Answered s u c stOK [(base + 47, toLE 1 stOK)] ∧
                Tbl.get? u.pt.mac key = none ∧ seq u ∧ HostOnly { s with pt := u.pt } u [(F.PCT_SEQ_seq 3).off]) ∧
            (s.pt.has 3 key = false →
              ∃ u, exec (.pctWrite t c) s = .next u ∧ Answered s u c stBAD_ARG [(base + 47, toLE 1 stBAD_ARG)] ∧
                HostOnly s u []))) ∧
        (∀ e, b.le 6 2 < 4096 → Tbl.get? s.pt.mac key = some e →
          ∃ u, exec (.pctRead t c) s = .next u ∧ HostOnly s u [] ∧
            Answered s u c stOK [(base, e.record key), (base + 47, toLE 1 stOK)]) ∧
        (Tbl.get? s.pt.mac key = none →
          ∃ u, exec (.pctRead t c) s = .next u ∧ HostOnly s u [] ∧
            Answered s u c stBAD_ARG [(base + 47, toLE 1 stBAD_ARG)])) ∧
      (base % 32 = 0 →
        (1 ≤ c.f 8 2 → c.f 8 2 ≤ 4096 → c.f 10 1 ≤ 5 → c.f 11 1 ≤ 1 → c.f 12 2 ≤ 0xFFF → c.zero 14 10 = true →
          ∃ u, exec (.pctDump t c) s = .next u ∧ Deferred s u c 0x0403 (s.pt.jobKey + 1) ∧
            Tbl.get? u.pt.jobs (s.pt.jobKey + 1) = some [base, c.f 8 2, c.f 10 1, c.f 11 1, c.f 12 2, 0] ∧
            HostOnly { s with pt := u.pt } u []) ∧
        (c.f 10 1 ≤ 5 → c.zero 8 2 = true → c.zero 11 13 = true →
          ∃ u, exec (.pctAudit t c) s = .next u ∧ Answered s u c stOK [(base, s.auditBytes (c.f 10 1))] ∧
            HostOnly s u [])) ∧
      (c.f 0 1 ≤ 7 → c.f 10 1 = 3 → c.zero 1 1 = true → c.zero 6 4 = true → c.zero 11 13 = true →
        ∃ u, exec (.pctFlush t c) s = .next u ∧ Deferred s u c 0x0405 (s.pt.jobKey + 1) ∧
          Tbl.get? u.pt.jobs (s.pt.jobKey + 1) = some [c.f 0 1, c.f 2 2, c.f 4 2] ∧
          HostOnly { s with pt := u.pt } u []) ∧
      (∀ b, OneBlock c 16 10 b →
        (1 ≤ b.le 0 2 → b.le 0 2 ≤ 4094 → b.le 2 2 ≤ 4095 → b.le 4 1 ≤ 63 → b.le 5 1 ≤ 63 → b.le 10 4 = 0 →
          (b.le 14 1 = 0 →
            (∀ w ∈ s.sr.vlans, w.1 ≠ b.le 0 2 → w.2.bssL &&& b.le 6 2 = 0 ∧ w.2.bssH &&& b.le 8 2 = 0) →
            ∃ u v, exec (.srtVlanSet t c) s = .next u ∧ Answered s u c stOK [(base + 15, toLE 1 stOK)] ∧
              Tbl.get? u.sr.vlans (b.le 0 2) = some v ∧ v.fid = b.le 2 2 ∧ v.eth0 = bitN (b.le 4 1) 0 ∧
              v.eth1 = bitN (b.le 4 1) 1 ∧ v.host = bitN (b.le 4 1) 2 ∧ v.routeEn = bitN (b.le 4 1) 3 ∧
              v.ring = b.le 5 1 ∧ v.bssL = b.le 6 2 ∧ v.bssH = b.le 8 2 ∧ HostOnly { s with sr := u.sr } u []) ∧
          (b.le 14 1 = 1 →
            ∃ u, exec (.srtVlanSet t c) s = .next u ∧ Answered s u c stOK [(base + 15, toLE 1 stOK)] ∧
              Tbl.get? u.sr.vlans (b.le 0 2) = none ∧ HostOnly { s with sr := u.sr } u [])) ∧
        (∀ q, q = s.queue (b.le 0 3) → b.le 0 3 < 0x21050 →
          (b.le 3 1 = 0 → b.le 4 1 / 8 % 2 = 0 → b.le 4 1 / 16 ≠ 0 → b.le 5 2 / 8192 % 4 = 0 → b.le 7 1 = 0 →
            ∃ u, exec (.qmsQueueSet t c) s = .next u ∧ Answered s u c stOK [(base + 15, toLE 1 stOK)] ∧
              HostOnly { s with qm := u.qm } u [] ∧
              (u.queue (b.le 0 3)).shaper = (if 32768 ≤ b.le 5 2 then some (b.le 5 2 % 8192) else none) ∧
              (u.queue (b.le 0 3)).pkts = q.pkts ∧
              (q.pkts = [] → (u.queue (b.le 0 3)).weight = b.le 4 1 / 16 ∧
                (u.queue (b.le 0 3)).cls = if classSettable (b.le 0 3) then b.le 4 1 % 8 else q.cls) ∧
              (q.pkts ≠ [] → (u.queue (b.le 0 3)).weight = q.weight ∧ (u.queue (b.le 0 3)).cls = q.cls)) ∧
          ∃ u out, exec (.qmsQueueGet t c) s = .next u ∧ HostOnly s u [] ∧ out.length = 11 ∧
            Answered s u c stOK [(base + 4, out), (base + 15, toLE 1 stOK)] ∧
            out.drop 4 = toLE 4 q.pkts.length ++ toLE 3 q.cells ∧
            (q.next = none → out.take 1 = toLE 1 (q.cls + 16 * q.weight)))) ∧
      ∀ b, OneBlock c 32 10 b →
        (shaperRecOk b = true →
          ∃ u x, exec (.qmsShaperSet t c) s = .next u ∧ Answered s u c stOK [(base + 31, toLE 1 stOK)] ∧
            HostOnly { s with qm := u.qm } u [] ∧
            u.shaper (b.le 0 2) = { s.shaper (b.le 0 2) with pend := some (x, b.le 2 1 / 2 % 4) } ∧
            x.en = bitN (b.le 2 1) 0 ∧ x.period = b.le 2 1 / 8 % 4 ∧ x.overhead = signedN 8 (b.le 3 1) ∧
            x.inc = b.le 4 3 ∧ x.burst = b.le 8 3 ∧ x.idleCap = min (b.le 12 3) (b.le 8 3)) ∧
        (shaperRecOk b = false →
          ∃ u, exec (.qmsShaperSet t c) s = .next u ∧ Answered s u c stBAD_ARG [(base + 31, toLE 1 stBAD_ARG)] ∧
            HostOnly s u []) ∧
        (b.le 0 2 < 8192 →
          let x := s.shaper (b.le 0 2)
          ∃ u out, exec (.qmsShaperGet t c) s = .next u ∧ HostOnly s u [] ∧ out.length = 29 ∧
            Answered s u c stOK [(base + 2, out), (base + 31, toLE 1 stOK)] ∧
            out.take 5 = toLE 1 (x.par.en.toNat + 8 * x.par.period) ++ toLE 1 (codeN 8 x.par.overhead) ++
              toLE 3 x.par.inc ∧
            (out.drop 14).take 14 = toLE 4 (codeN 32 (x.tokens / 256)) ++ toLE 4 x.pkts ++ toLE 6 x.bytes)) ∧
    (∀ d addr max table seg, s.deferredOp 0x0403 = some d → s.io.hostOk = true →
      Tbl.get? s.pt.jobs d.key = some [addr, max, table, 0, seg, 0] →
      let l := s.pt.segment table seg
      (max < l.length → ∃ u, exec (.pctDumpDone t) s = .next u ∧ Finished s u d stNO_ROOM) ∧
      (l.length ≤ max → ∃ u, exec (.pctDumpDone t) s = .next u ∧ Finished s u d stOK ∧
        u.pt = { s.pt with jobs := Tbl.del s.pt.jobs d.key } ∧
        Out.dma addr (toLE 4 l.length ++ toLE 2 (seg + 1) ++ toLE 4 (s.fld (F.PCT_SEQ_seq table)) ++
          toLE 4 (s.fld (F.PCT_SEQ_seq table)) ++ toLE 2 0 ++ (l.map fun r => r ++ toLE 2 0).flatten) ∈ u.io.out)) ∧
    (∀ d flags fid dest, s.deferredOp 0x0405 = some d → Tbl.sorted s.pt.mac = true →
      Tbl.get? s.pt.jobs d.key = some [flags, fid, dest] →
      ∃ u, exec (.pctFlushDone t) s = .next u ∧ Finished s u d stOK ∧
        ∀ k e, Tbl.get? s.pt.mac k = some e →
          let hit := (bitN flags 0 = true → k / 2 ^ 48 = fid) ∧ (bitN flags 1 = true → e.dest = dest) ∧
            (bitN flags 2 = true ∨ e.static_ = false)
          (hit → Tbl.get? u.pt.mac k = none) ∧
          (¬ hit → ∃ e', Tbl.get? u.pt.mac k = some e' ∧ e'.dest = e.dest ∧ e'.static_ = e.static_)) ∧
    (∀ q qs, s.pt.learn = q :: qs →
      let popped : Pt := { s.pt with learn := qs }
      (s.learnOn = false → ∃ u, exec (.learnUpdate t) s = .next u ∧ u.pt = popped ∧ u.io = s.io) ∧
      (s.learnOn = true → bitN (q.key % 2 ^ 48 / 2 ^ 40) 0 = false →
        (∀ e, Tbl.get? s.pt.mac q.key = some e →
          (e.discardSrc = true → ∃ u, exec (.learnUpdate t) s = .next u ∧ u.pt = popped ∧ SameWords s u []) ∧
          (e.discardSrc = false → e.dest = q.dest →
            ∃ u, exec (.learnUpdate t) s = .next u ∧ SameWords s u [] ∧
              u.pt = { popped with mac := Tbl.put s.pt.mac q.key { e with hit := true } }) ∧
          (e.discardSrc = false → e.dest ≠ q.dest → e.static_ = true ∨ e.sticky = true →
            ∃ u, exec (.learnUpdate t) s = .next u ∧ u.pt = popped ∧ inc u F.PCT_LEARN_ERR_static_conflict) ∧
          (e.discardSrc = false → e.dest ≠ q.dest → e.static_ = false → e.sticky = false →
            ∃ u, exec (.learnUpdate t) s = .next u ∧ inc u F.PCT_LEARN_CNT_moves ∧ seq u ∧
              u.pt = { popped with
                mac := Tbl.put s.pt.mac q.key { e with dest := q.dest, hit := true, strike := false } })) ∧
        (Tbl.get? s.pt.mac q.key = none →
          let most := min 65536 ((s.latchRegs [0x300004]).eFld F.PCT_LEARN_CFG_learn_max)
          let n := (s.pt.mac.filter fun e => !e.2.static_).length
          (most ≤ n → ∃ u, exec (.learnUpdate t) s = .next u ∧ u.pt = popped ∧ inc u F.PCT_LEARN_ERR2_capped) ∧
          (n < most → (s.pt.room 3 q.key).isSome = true →
            ∃ u, exec (.learnUpdate t) s = .next u ∧ inc u F.PCT_LEARN_CNT_learned ∧ seq u ∧ u.pt.learn = qs ∧
              Tbl.get? u.pt.mac q.key = some ⟨q.dest, false, false, false, true, false⟩) ∧
          (n < most → s.pt.room 3 q.key = none →
            ∃ u, exec (.learnUpdate t) s = .next u ∧ inc u F.PCT_LEARN_ERR_fail ∧
              u.pt = { popped with learnFail := s.pt.learnFail + 1 })))) ∧
    (s.pt.learnFail = 0 → exec (.learnFailRecord t) s = .next { s with now := max s.now t }) ∧
    (s.pt.learnFail ≠ 0 →
      (∀ a, s.pt.failAt = some a → max s.now t < a + 1000000000 →
        exec (.learnFailRecord t) s = .next { s with now := max s.now t }) ∧
      ((∀ a, s.pt.failAt = some a → a + 1000000000 ≤ max s.now t) →
        ∃ u, exec (.learnFailRecord t) s = .next u ∧
          u.pt = { s.pt with learnFail := 0, failAt := some (max s.now t) } ∧ HostOnly { s with pt := u.pt } u [])) ∧
    (∀ hitNow : Bool, s.roundRuns = true →
      let period := (s.latchRegs [0x300008]).macPeriod
      (max s.now t < s.pt.macAt + period / 73792 →
        ∃ u, exec (.roundVisit t false hitNow) s = .next u ∧ u.pt = s.pt ∧ SameWords s u []) ∧
      ∀ key e, s.pt.macAt + period / 73792 ≤ max s.now t → s.pt.pMac.keyAt 73728 s.pt.macPtr = some key →
        Tbl.get? s.pt.mac key = some e → e.static_ = false → key ∉ s.pt.macGrace →
        let visit (u : State) : Prop := exec (.roundVisit t false hitNow) s = .next u ∧
          u.pt.macPtr = (s.pt.macPtr + 1) % 73792 ∧ u.pt.macAt = max s.now t
        (e.hit = true → ∃ u, visit u ∧ Tbl.get? u.pt.mac key = some { e with hit := false, strike := false }) ∧
        (e.hit = false → e.strike = false →
          ∃ u, visit u ∧ Tbl.get? u.pt.mac key = some { e with strike := true }) ∧
        (e.hit = false → e.strike = true → s.isShadow = false →
          (hitNow = true → ∃ u, visit u ∧ Tbl.get? u.pt.mac key = some { e with hit := true } ∧
            inc u F.PCT_ROUND_SAVED_saved) ∧
          (hitNow = false → ∃ u, visit u ∧ Tbl.get? u.pt.mac key = none ∧ inc u F.PCT_ROUND_CNT_mac_aged ∧ seq u))) ∧
    (s.inFull = true →
      (∀ table key, ∃ u, exec (.tableEccError t table key true) s = .next u ∧ inc u F.PCT_ECC_corrected ∧
        RegsOnly s u [F.PCT_ECC_corrected.off]) ∧
      ∀ key e, Tbl.get? s.pt.mac key = some e →
        ∃ u, exec (.tableEccError t 3 key false) s = .next u ∧ Tbl.get? u.pt.mac key = none ∧ inc u F.PCT_ECC_lost ∧
          seq u ∧ 3 * 4096 + segOf 3 (e.record key) ∈ u.pt.dirty) ∧
    exec (.digestRescan t) s = .next { s with now := max s.now t, pt := { s.pt with dirty := s.pt.dirty.tail } }

/-! ## Packets and ports (14_sorter_buffering, 15_shaping, 16_host_rings) -/

/-- Packets come in, wait at a Sorter and leave.  PKT_TX (R424, R472, R474), PKT_RX_POST (R475), ETH_FRAME_RX (R424, R425,
R431), SORTER_PACKET (R410 to R412), EGRESS_DEQUEUE (R442, R475), SHAPER_REFILL (R447, R451), SPILL_MOVE and
SPILL_FETCH_DONE (R419 to R421), XOFF_REPEAT (R432), PAUSE_RX and PAUSE_TIMER_EXPIRY (R434), ETH_LINK_DOWN and ETH_LINK_UP
(R435, R436, R598).  Packets injection holds, and an open window, are left to the statement on faults. -/
def Obligations.PacketsAndPorts : Prop :=
  ∀ (t : Nat) (s : State),
    let same : Host.Outcome State Fault Refusal := .next { s with now := max s.now t }
    let inc (u : State) (f : Fld) : Prop := u.fld f = min (s.fld f + 1) (2 ^ f.width - 1)
    (∀ c : Cmd, s.canFetch c = true → s.pw.mode ≠ .doze → c.wrFail = false →
      let frame : Bytes := c.rd.take (c.f 8 2)
      let tag : Bool := frame.be 12 2 == 0x8100
      let admitted := (s.latchRegs admRegs).admitHost (c.f 10 1 / 2 % 8) (cellsOf (c.f 8 2))
      (s.pw.mode = .full → admitted = false →
        ∃ u, exec (.pktTx t c) s = .next u ∧ { u with io := s.io, now := s.now } = s ∧ { u.io with eff := s.io.eff } = s.io) ∧
      ((s.pw.mode = .full → admitted = true) → s.io.hf.inFlight c.sq.val = false →
        let turned (st : Nat) : Prop := ∃ u, exec (.pktTx t c) s = .next u ∧ Answered s u c st ∧ HostOnly s u []
        (c.gen.toNat ≠ s.fld F.HIF_GEN_gen → turned stSTALE) ∧
        (c.gen.toNat = s.fld F.HIF_GEN_gen →
          (c.b3.toNat / 2 ≠ 0 → turned stBAD_ARG) ∧
          (c.b3.toNat / 2 = 0 →
            (s.fld (F.HIF_SQ_CFG_kind c.sq.val) ≠ 1 → turned stUNSUPPORTED) ∧
            (s.fld (F.HIF_SQ_CFG_kind c.sq.val) = 1 →
              (∀ st, modeStatus s.pw.mode 0x1001 = some st → turned st) ∧
              (s.pw.mode = .full →
                (c.f 8 2 < 14 ∨ 9212 < c.f 8 2 ∨ 15 < c.f 10 1 → turned stBAD_ARG) ∧
                (14 ≤ c.f 8 2 → c.f 8 2 ≤ 9212 → c.f 10 1 ≤ 15 → bitN (c.f 10 1) 0 = false → c.zero 11 1 = true →
                  c.f 12 2 ≤ 4095 → c.zero 16 8 = true → c.rdErr = none →
                  (tag = true → c.f 12 2 ≠ 0 → turned stBAD_ARG) ∧
                  (tag = false ∨ c.f 12 2 = 0 →
                    (s.isShadow = true → turned stNOT_LEAD) ∧
                    (s.isShadow = false → s.fltOpen = false → s.fl.held = [] →
                      ∃ u k p, exec (.pktTx t c) s = .next u ∧ u.sr.input = s.sr.input ++ [(k, p)] ∧
                        p.data = frame ∧ p.src = .host c.sq.val ∧ p.cls = c.f 10 1 / 2 % 8 ∧ p.vid = c.f 12 2 ∧
                        p.direct = none ∧ p.charge = .shared ∧ p.key = some (s.io.hf.txKey + 1) ∧
                        u.deferredKey 0x1001 (s.io.hf.txKey + 1) ≠ none)))))))) ∧
      (s.pw.mode = .full → c.gen.toNat = s.fld F.HIF_GEN_gen → c.b3.toNat / 2 = 0 →
        s.fld (F.HIF_SQ_CFG_kind c.sq.val) = 2 → c.f 0 8 % 64 = 0 → c.zero 8 16 = true →
        ∃ u, exec (.pktRxPost t c) s = .next u ∧ HostOnly s u [] ∧ u.io.out = s.io.out ∧ u.io.hf.rxBufs = s.io.hf.rxBufs ++
          [{ sq := c.sq.val, idx := s.io.hf.serial, addr := c.f 0 8, tag := c.tag.toNat, gen := c.gen.toNat }])) ∧
    (∀ (p : Fin 2) (frame : Bytes) (ok : Bool),
      (s.fld (F.ETH_STAT_link p) = 0 → exec (.ethFrameRx t p frame ok) s = same) ∧
      (s.fld (F.ETH_STAT_link p) = 1 → s.inFull = false → s.pw.trans = some .pause →
        ∃ u, exec (.ethFrameRx t p frame ok) s = .next u ∧ inc u (F.ETH_DROP_adm_drop p) ∧
          RegsOnly s u [(F.ETH_DROP_adm_drop p).off]) ∧
      (s.fld (F.ETH_STAT_link p) = 1 → s.inFull = true → s.isShadow = true →
        ∃ u, exec (.ethFrameRx t p frame ok) s = .next u ∧ inc u F.SRT_SHADOW_DROP_drops ∧
          RegsOnly s u [F.SRT_SHADOW_DROP_drops.off]) ∧
      (s.fld (F.ETH_STAT_link p) = 1 → s.inFull = true → s.isShadow = false → s.flag F.SRT_CTRL_run = true →
        s.fltOpen = false → s.fl.held = [] →
        let r := s.latchRegs (admRegs ++ [0x340000, (F.ETH_MAC_CFG_pvid p).off, (F.ETH_PCP_MAP_class p).off])
        let fits := 60 ≤ frame.length ∧ frame.length + 4 ≤ s.fld (F.ETH_MAC_CFG_max_frame p)
        (r.eFlag F.SRT_CTRL_ct_en = false →
          (¬ fits → ∃ u, exec (.ethFrameRx t p frame ok) s = .next u ∧ inc u (F.ETH_RX_ERR_len_err p) ∧ u.sr = s.sr ∧
            SameWords s u [(F.ETH_RX_ERR_len_err p).off]) ∧
          (fits → ok = false → ∃ u, exec (.ethFrameRx t p frame ok) s = .next u ∧ inc u (F.ETH_RX_ERR_fcs_err p) ∧
            u.sr = s.sr ∧ SameWords s u [(F.ETH_RX_ERR_fcs_err p).off])) ∧
        (fits → ok = true → (parseEth frame).tag = none →
          (r.eFlag (F.ETH_MAC_CFG_accept_untagged p) = false →
            ∃ u, exec (.ethFrameRx t p frame ok) s = .next u ∧ u.sr = s.sr ∧
              SameWords s u [(F.ETH_RX_FRAMES_frames p).off]) ∧
          (r.eFlag (F.ETH_MAC_CFG_accept_untagged p) = true → s.io.unitOf p 0 = none →
            let cls := bitsN (r.eFld (F.ETH_PCP_MAP_class p)) 2 0
            (r.admitEth none cls (cellsOf frame.length) = .shared →
              ∃ u k q, exec (.ethFrameRx t p frame ok) s = .next u ∧ u.sr.input = s.sr.input ++ [(k, q)] ∧
                q.src = .eth p ∧ q.data = frame ∧ q.cls = cls ∧ q.vid = r.eFld (F.ETH_MAC_CFG_pvid p) ∧
                u.fld (F.ETH_RX_FRAMES_frames p) = (s.fld (F.ETH_RX_FRAMES_frames p) + 1) % 2 ^ 32) ∧
            (r.admitEth none cls (cellsOf frame.length) = .drop →
              ∃ u, exec (.ethFrameRx t p frame ok) s = .next u ∧ u.sr = s.sr ∧ inc u (F.ETH_DROP_adm_drop p)))))) ∧
    (∀ n : Fin 4,
      (s.sr.input.find? (fun (x : Nat × Packet) => x.1 == n.val) = none → exec (.sorterPacket t n) s = same) ∧
      ∀ p, s.sr.input.find? (fun (x : Nat × Packet) => x.1 == n.val) = some (n.val, p) → p.key = none →
        (s.sortersRun = false ∨ s.isShadow = true →
          ∃ u, exec (.sorterPacket t n) s = .next u ∧ u.sr.input = s.sr.input.erase (n.val, p) ∧ u.qm = s.qm) ∧
        ∀ k vid, s.sortersRun = true → s.isShadow = false → p.src = .eth k → p.direct = none → p.bad = false →
          p.vid = vid →
          (Tbl.get? s.sr.vlans vid = none →
            ∃ u, exec (.sorterPacket t n) s = .next u ∧ u.sr.input = s.sr.input.erase (n.val, p) ∧ u.qm = s.qm ∧
              inc u F.SRT_DROP_ADM_no_vlan) ∧
          ∀ v, Tbl.get? s.sr.vlans vid = some v →
            (∀ e, Tbl.get? s.pt.mac (v.fid * 2 ^ 48 + (parseEth p.data).src) = some e → e.discardSrc = false) →
            ((parseEth p.data).dst = s.routerMac → v.routeEn = true → (parseEth p.data).ethertype = 0x0806 →
              ∃ u, exec (.sorterPacket t n) s = .next u ∧ inc u F.SRT_EXC_CNT_exceptions) ∧
            ((parseEth p.data).dst ≠ s.routerMac ∨ v.routeEn = false → bitN ((parseEth p.data).dst / 2 ^ 40) 0 = false →
              (Tbl.get? s.pt.mac (v.fid * 2 ^ 48 + (parseEth p.data).dst) = none →
                ∃ u, exec (.sorterPacket t n) s = .next u ∧ inc u F.PCT_FLOOD_flood_unknown) ∧
              ∀ e, Tbl.get? s.pt.mac (v.fid * 2 ^ 48 + (parseEth p.data).dst) = some e → e.dest < 2 →
                let f := ethEgress (vid, v) e.dest p
                let m := ethQ e.dest p.cls
                s.fld (F.ETH_STAT_link e.dest) = 1 → (s.latchRegs [0x340000]).eFlag F.SRT_CTRL_ct_en = false →
                wireLen f ≤ s.fld (F.ETH_MAC_CFG_max_frame e.dest) → s.overLimit m 1 (cellsOf f.length) = false →
                ∃ u q, exec (.sorterPacket t n) s = .next u ∧ (u.queue m).pkts = (s.queue m).pkts ++ [q] ∧ q.data = f ∧
                  ∀ m', m' ≠ m → (u.queue m').pkts = (s.queue m').pkts)) ∧
    (∀ (e : Fin 7),
      (2 ≤ e.val → e.val ≤ 5 → exec (.egressDequeue t e) s = same) ∧
      (∀ p, e.val < 2 → Tbl.get? s.sr.cutting e = some p →
        ∃ u after, exec (.egressDequeue t e) s = .next u ∧ Tbl.get? u.sr.cutting e = none ∧
          u.io.out = after ++ .eth e (wireFrame p.data p.bad) :: s.io.out ∧
          u.fld (F.ETH_TX_FRAMES_frames e) = (s.fld (F.ETH_TX_FRAMES_frames e) + 1) % 2 ^ 32) ∧
      ∀ n c p ps,
        let r := s.latchRegs ((F.QMS_EGRESS_sp_min e).off :: (List.range 8).map fun c => (F.QMS_CLASS_SHP_en e c).off)
        r.eFld (F.QMS_EGRESS_sp_min e) ≤ c → c < 8 → s.round e c = [n] →
        (∀ c', c < c' → c' < 8 → s.round e c' = []) → (s.queue n).cls = c → (s.queue n).pkts = p :: ps →
        r.shaperOk e n = true → s.inFull = true →
        (e.val < 2 → s.isShadow = false → Tbl.get? s.sr.cutting e = none → s.fld (F.ETH_STAT_link e) = 1 →
          s.paused e c = false → (wireLen p.data : Int) ≤ (s.queue n).deficit →
          ∃ u, exec (.egressDequeue t e) s = .next u ∧ (u.queue n).pkts = ps ∧
            Out.eth e (wireFrame p.data p.bad) ∈ u.io.out ∧
            u.fld (F.QMS_TX_PKTS_count e c) = (s.fld (F.QMS_TX_PKTS_count e c) + 1) % 2 ^ 32) ∧
        ∀ ring b, e.val = 6 → n = hostQ ring → s.rxReady ring = some b → s.fltOpen = false → s.fl.held = [] →
          ((p.data.length + 16 : Nat) : Int) ≤ (s.queue n).deficit →
          (p.data.length + 16 ≤ s.fld (F.HIF_SQ_CFG_buf_256 ring) * 256 →
            ∃ u, exec (.egressDequeue t e) s = .next u ∧ (u.queue n).pkts = ps ∧
              Out.dma b.addr (s.rxHeader p ++ p.data) ∈ u.io.out) ∧
          (s.fld (F.HIF_SQ_CFG_buf_256 ring) * 256 < p.data.length + 16 →
            ∃ u, exec (.egressDequeue t e) s = .next u ∧ (u.queue n).pkts = ps ∧ inc u F.HIF_RX_DROP_too_big ∧
              u.io.hf.rxBufs = s.io.hf.rxBufs)) ∧
    (∀ n : Fin 8192,
      let x := s.shaper n
      (max s.now t < x.at_ns ∨ (x.par.en = false ∧ x.pend = none) → exec (.shaperRefill t n) s = same) ∧
      (x.at_ns ≤ max s.now t →
        (x.par.en = true → x.pend = none →
          let cap : Int := if s.shaperIdle n then min (256 * (x.par.burst : Int)) (256 * (x.par.idleCap : Int))
            else 256 * (x.par.burst : Int)
          ∃ u, exec (.shaperRefill t n) s = .next u ∧ { u with qm := s.qm, now := s.now } = s ∧
            u.qm.queues = s.qm.queues ∧ u.shaper n = { x with
              at_ns := max s.now t + periodNs x.par.period
              tokens := if x.tokens < cap then min (x.tokens + x.par.inc) cap else x.tokens }) ∧
        ∀ q k, x.pend = some (q, k) → q.en = true → k = 1 ∨ k = 2 →
          ∃ u, exec (.shaperRefill t n) s = .next u ∧ u.shaper n = { x with
            par := q, pend := none, at_ns := max s.now t + periodNs q.period
            tokens := if k = 1 then 256 * (q.burst : Int) else 0 })) ∧
    (∀ (off : Nat), off = F.SRT_STAT_spill_active.off →
      let r := s.latchRegs admRegs
      (s.inFull = false ∨ r.eFlag F.SRT_SPILL_CFG_spill_en = false ∨ s.fld F.SRT_STAT_spill_full = 1 →
        ∃ u, exec (.spillMove t) s = .next u ∧ u.fld F.SRT_STAT_spill_active = 0 ∧ u.qm = s.qm ∧ SameWords s u [off]) ∧
      (s.inFull = true → r.eFlag F.SRT_SPILL_CFG_spill_en = true → s.fld F.SRT_STAT_spill_full = 0 →
        r.thr (r.eFld F.SRT_SPILL_THR_spill_on) ≤ s.sharedUsed → Tbl.sorted s.qm.queues = true →
        ∃ u, exec (.spillMove t) s = .next u ∧
          (u.sharedUsed ≤ r.thr (r.eFld F.SRT_SPILL_THR_spill_off) ∨ u.spillFrom = none ∨
            u.fld F.SRT_STAT_spill_full = 1) ∧
          ∀ n, (u.queue n).pkts.map (·.data) = (s.queue n).pkts.map (·.data))) ∧
    (∀ (n : Nat) (bad : BitVec 8),
      (s.inFull = false ∨ (s.queue n).pkts = [] → exec (.spillFetchDone t n bad) s = same) ∧
      ∀ p, s.inFull = true → (s.queue n).pkts = [p] → p.spilled = true →
        (bad.getLsbD 0 = false → s.roomFor p.cells = true →
          ∃ u, exec (.spillFetchDone t n bad) s = .next u ∧ (u.queue n).pkts = [{ p with spilled := false }]) ∧
        (bad.getLsbD 0 = true →
          ∃ u, exec (.spillFetchDone t n bad) s = .next u ∧ (u.queue n).pkts = [] ∧ inc u F.SRT_SPILL_STAT_ecc_drop)) ∧
    ∀ p : Fin 2,
      (∀ unit : Fin 8,
        let due := Tbl.getD s.sr.xoff (8 * p.val + unit.val) 0 + 32768 * s.io.quantum10 p / 10
        (s.ethServes = true → s.xoffOn p unit = true → due ≤ max s.now t →
          ∃ u, exec (.xoffRepeat t p unit) s = .next u ∧ inc u (F.ETH_PAUSE_CNT_tx p) ∧
            u.io.out = .pause p (if s.io.fcMode p = 1 then 0 else 2 ^ unit.val) 0xFFFF :: s.io.out ∧
            { u with io := s.io, sr := s.sr, now := s.now } = s ∧ SameWords s u [(F.ETH_PAUSE_CNT_tx p).off]) ∧
        (s.ethServes = false ∨ s.xoffOn p unit = false ∨ max s.now t < due →
          exec (.xoffRepeat t p unit) s = same)) ∧
      (∀ (pfc : Bool) (classes : BitVec 8) (quanta : List Nat),
        let at_ (q : Nat) := max s.now t + min q 65535 * s.io.quantum10 p / 10
        let r := s.latchRegs [(F.ETH_FC_CFG_rx_honour p).off, (F.ETH_PCP_MAP_class p).off]
        (s.fld (F.ETH_STAT_link p) = 0 ∨ s.inFull = false → exec (.pauseRx t p pfc classes quanta) s = same) ∧
        (s.fld (F.ETH_STAT_link p) = 1 → s.inFull = true →
          (r.eFlag (F.ETH_FC_CFG_rx_honour p) = false →
            ∃ u, exec (.pauseRx t p pfc classes quanta) s = .next u ∧ inc u (F.ETH_PAUSE_CNT_rx p) ∧ u.sr = s.sr ∧
              SameWords s u [(F.ETH_PAUSE_CNT_rx p).off]) ∧
          (r.eFlag (F.ETH_FC_CFG_rx_honour p) = true →
            (∀ q, pfc = false → quanta = [q] → q ≠ 0 →
              ∃ u, exec (.pauseRx t p pfc classes quanta) s = .next u ∧ inc u (F.ETH_PAUSE_CNT_rx p) ∧
                u.fld (F.ETH_STAT_paused p) = 255 ∧
                ∀ c < 8, Tbl.get? u.sr.paused (8 * p.val + c) = some (at_ q)) ∧
            (pfc = false → quanta = [0] →
              ∃ u, exec (.pauseRx t p pfc classes quanta) s = .next u ∧ u.fld (F.ETH_STAT_paused p) = 0 ∧
                ∀ c < 8, Tbl.get? u.sr.paused (8 * p.val + c) = none) ∧
            (∀ k : Fin 8, pfc = true → classes = BitVec.twoPow 8 k → quanta.getD k 0 ≠ 0 →
              let c := bitsN (r.eFld (F.ETH_PCP_MAP_class p)) (3 * k.val + 2) (3 * k.val)
              ∃ u, exec (.pauseRx t p pfc classes quanta) s = .next u ∧ u.paused p c = true ∧
                Tbl.get? u.sr.paused (8 * p.val + c) = some (at_ (quanta.getD k 0)) ∧
                ∀ c', c' ≠ c → c' < 8 → u.paused p c' = s.paused p c')))) ∧
      (∀ c : Fin 8,
        (∀ x, Tbl.get? s.sr.paused (8 * p.val + c.val) = some x →
          (max s.now t < x → exec (.pauseTimerExpiry t p c) s = same) ∧
          (x ≤ max s.now t → ∃ u, exec (.pauseTimerExpiry t p c) s = .next u ∧ u.paused p c = false ∧
            Tbl.get? u.sr.paused (8 * p.val + c.val) = none ∧ ∀ c' < 8, c' ≠ c.val → u.paused p c' = s.paused p c')) ∧
        (Tbl.get? s.sr.paused (8 * p.val + c.val) = none → exec (.pauseTimerExpiry t p c) s = same)) ∧
      (s.fld (F.ETH_STAT_link p) = 0 → exec (.ethLinkDown t p) s = same) ∧
      (s.fld (F.ETH_STAT_link p) = 1 →
        let n := ((List.range 8).map fun c => (s.queue (ethQ p c)).pkts.length).sum +
          (Tbl.get? s.sr.cutting p).isSome.toNat
        ∃ u, exec (.ethLinkDown t p) s = .next u ∧ u.fld (F.ETH_STAT_link p) = 0 ∧ u.fld (F.ETH_STAT_paused p) = 0 ∧
          u.fld (F.ETH_STAT_xoff_sent p) = 0 ∧ (∀ c < 8, (u.queue (ethQ p c)).pkts = []) ∧
          Tbl.get? u.sr.cutting p = none ∧
          u.fld (F.ETH_DROP2_link_down p) =
            min (s.fld (F.ETH_DROP2_link_down p) + n) (2 ^ (F.ETH_DROP2_link_down p).width - 1)) ∧
      ∀ speed : Fin 6,
        let m := s.fld (F.ETH_CTRL_mode p)
        let lock := s.flag (if p.val = 0 then F.CLK_STAT_eth0_lock else F.CLK_STAT_eth1_lock)
        (lock = false ∨ s.fld (F.ETH_CTRL_en p) = 0 ∨ 4 < m → exec (.ethLinkUp t p speed) s = same) ∧
        (lock = true → s.fld (F.ETH_CTRL_en p) = 1 → m ≤ 4 →
          (s.pw.mode = .full ∨ s.pw.mode = .rescue ∨ s.pw.trans = some .pause) →
          ∃ u, exec (.ethLinkUp t p speed) s = .next u ∧ u.fld (F.ETH_STAT_link p) = 1 ∧
            u.fld (F.ETH_STAT_speed p) =
              (if m = 0 then 0 else if m = 2 then 1 else if m = 3 then 2 else speed.val) ∧
            RegsOnly s u [(F.ETH_STAT_link p).off])

/-! ## The twin (17_twin) -/

/-- CLAIM_IN_CHANGE and GATE_OPEN (R494 to R497, R492); the messages HELLO, TIME, SLOT_REC, LEASE, LEASE_ACK, REVERT and
STATUS (R499 to R505, R508); HELLO_TX, STATUS_TX, LEASE_RESEND; TWIN_LINK_TIMEOUT and TWIN_LINK_RETRAIN (R501);
HOLDOFF_EXPIRY and PREFERRED_RAISE (R493, R508, R512, R513); RECOVERY_WINDOW_CLOSE and STAND_DOWN (R509), PEER_LOST
(R510), TWN_HOLD_TIMEOUT and TWN_ROLE_REQUEST (R513), TWN_STATUS (R514). -/
def Obligations.ClaimsRolesAndMessages : Prop :=
  ∀ (t : Nat) (s : State),
    let now := max s.now t
    let same : Host.Outcome State Fault Refusal := .next { s with now := now }
    let inc (u : State) (f : Fld) : Prop := u.fld f = min (s.fld f + 1) (2 ^ f.width - 1)
    let sent (u : State) (type : Nat) (b : Bytes) : Prop := u.io.out = .twin type (s.tw.txSeq + 1) b :: s.io.out
    (∀ v : Fin 16, v.val = s.tw.claimIn → exec (.claimInChange t v) s = same) ∧
    (∀ v : Fin 16, v.val ≠ s.tw.claimIn →
      (v.val < s.tw.claim → ∃ u, exec (.claimInChange t v) s = .next u ∧ u.tw.claimIn = v ∧ u.tw.gate = s.tw.gate ∧
        u.tw.role = s.tw.role ∧ u.tw.claim = s.tw.claim ∧ u.tw.changedAt = now) ∧
      (s.tw.claim ≤ v.val → ∃ u, exec (.claimInChange t v) s = .next u ∧ u.tw.claimIn = v ∧ u.tw.gate = false ∧
        u.tw.claim = s.tw.claim ∧ u.lh.l.paEn = 0 ∧ u.lh.h.paEn = 0 ∧
        u.tw.role = if bitN v 3 then .shadow else .solo)) ∧
    (s.ck.refFailed = true ∨ s.tw.claim ≤ s.tw.claimIn ∨ now < s.tw.changedAt + 150 → exec (.gateOpen t) s = same) ∧
    (s.ck.refFailed = false → s.tw.claimIn < s.tw.claim → s.tw.changedAt + 150 ≤ now →
      ∃ u, exec (.gateOpen t) s = .next u ∧ u.tw.gate = true ∧ u.tw.claim = s.tw.claim ∧
        u.tw.role = (if bitN s.tw.claimIn 3 then .lead else .solo) ∧
        (s.tw.role = u.tw.role → u.fld F.TWN_ROLE_CNT_changes = s.fld F.TWN_ROLE_CNT_changes) ∧
        (s.tw.role ≠ u.tw.role → inc u F.TWN_ROLE_CNT_changes) ∧
        (s.tw.role = .shadow → u.fld F.HIF_GEN_gen = (s.fld F.HIF_GEN_gen + 1) % 256)) ∧
    (∀ (m : THdr) (claim mode role slot boundary epoch e : Nat) (absent heard ok : Bool) (link inner : List TRec) (b : Bytes),
      (s.tw.link = .down ∨ s.twinReady = false →
        ∀ i ∈ [Instr.hello t m claim mode role absent heard, .time t m slot boundary, .slotRec t m slot link inner,
          .lease t m epoch e ok, .leaseAck t m epoch e, .revert t m slot, .status t m b], exec i s = same) ∧
      (s.tw.link ≠ .down → s.twinReady = true → s.fltOpen = false → s.fl.held = [] →
        (m.tagOk = false →
          ∀ i ∈ [Instr.hello t m claim mode role absent heard, .time t m slot boundary, .slotRec t m slot link inner,
            .lease t m epoch e ok, .leaseAck t m epoch e, .revert t m slot, .status t m b],
            ∃ u, exec i s = .next u ∧ inc u F.TWN_LINK_ERR_tag_fail ∧ RegsOnly s u [F.TWN_LINK_ERR_tag_fail.off]) ∧
        (m.tagOk = true →
          let fresh (u : State) : Prop :=
            u.tw.peerSession = some m.session ∧ u.tw.rxSeq = m.seq ∧ u.tw.lastMsg = now
          (s.tw.link = .training → s.tw.peerSession ≠ some m.session →
            ∃ u, exec (.hello t m claim mode role absent heard) s = .next u ∧ fresh u ∧ u.tw.peerMode = mode ∧
              u.tw.absent = absent ∧ u.tw.link = if s.tw.peerHeard || heard then .up else .training) ∧
          (s.tw.link = .up → s.tw.peerSession = some m.session → s.tw.rxSeq < m.seq →
            (s.isShadow = false → ∃ u, exec (.time t m slot boundary) s = .next u ∧ fresh u ∧ u.ml = s.ml ∧
              u.io = s.io ∧ u.tw.adopt = s.tw.adopt) ∧
            (s.isShadow = true → s.ml.slotAt ≤ boundary + 12500000 → boundary < s.ml.slotAt + 12500000 →
              ∃ u, exec (.time t m slot boundary) s = .next u ∧ fresh u ∧ u.ml = { s.ml with slotAt := boundary } ∧
                u.tw.adopt = (if slot = s.ml.slot then none else some (slot + 1)) ∧ u.fld F.TWN_STAT_time_src = 1 ∧
                u.fld F.TWN_TIME_offset = codeN 16 (((boundary : Int) - s.ml.slotAt) / 100)) ∧
            (s.listens = false → ∃ u, exec (.slotRec t m slot link inner) s = .next u ∧ fresh u ∧ u.io = s.io ∧
              u.pt = s.pt ∧ u.ml = s.ml ∧ u.tw.shadow = s.tw.shadow) ∧
            (∀ f, s.listens = true → s.tw.shadow = [f] → f.slot = slot → inner = [] →
              let listed := ∃ r ∈ link, r.addr = f.addr ∧ r.ctr = f.ctr ∧ r.epoch = f.epoch
              (¬ listed → ∃ u, exec (.slotRec t m slot link inner) s = .next u ∧ fresh u ∧
                inc u F.TWN_SLOT_REC_received ∧ u.tw.shadow = [] ∧ u.tw.recSlot = some slot ∧ u.pt = s.pt ∧ u.ml = s.ml) ∧
              (listed → s.pw.mode = .full → ∃ u, exec (.slotRec t m slot link inner) s = .next u ∧ fresh u ∧
                inc u F.TWN_SLOT_REC_received ∧ u.tw.shadow = [] ∧
                ∀ k x, s.ctxOfAddr f.addr = some (k, x) →
                  ∃ y, Tbl.get? u.pt.ctx k = some y ∧ y.rec_ = true ∧ y.ep = f.epoch ∧ y.ctr = f.ctr)) ∧
            (∀ r, s.ms.rec_ = some r →
              (r.epoch ≠ epoch → ∃ u, exec (.lease t m epoch e ok) s = .next u ∧ fresh u ∧ u.ms = s.ms ∧ u.nv = s.nv ∧
                u.io = s.io) ∧
              (r.epoch = epoch → ok = false → ∃ u, exec (.lease t m epoch e ok) s = .next u ∧ fresh u ∧ u.ms = s.ms ∧
                u.fld F.TEL_FAULT_mram = 1) ∧
              (r.epoch = epoch → ok = true →
                ∃ u, exec (.lease t m epoch e ok) s = .next u ∧ fresh u ∧ sent u 5 (toLE 1 epoch ++ toLE 5 e) ∧
                  u.ms = { s.ms with rec_ := some { r with peerEnd := max r.peerEnd e } } ∧
                  u.nv = { s.nv with lease := some { r with peerEnd := max r.peerEnd e } } ∧ u.tw.peerFixed = true) ∧
              (r.epoch = epoch → s.tw.leaseOut = some (epoch, e) → e < 2 ^ 40 →
                let acked (x : State) : Nat := x.fld F.TWN_ACKED_HI_acked * 2 ^ 32 + x.fld F.TWN_ACKED_LO_acked
                ∃ u, exec (.leaseAck t m epoch e) s = .next u ∧ fresh u ∧ u.tw.leaseOut = none ∧
                  u.ms = { s.ms with stalled := false } ∧ acked u = max (acked s) e)) ∧
            (∃ u, exec (.revert t m slot) s = .next u ∧ fresh u ∧ u.tw.peerRevert = some slot ∧ u.io = s.io) ∧
            ∃ u, exec (.status t m b) s = .next u ∧ fresh u ∧ u.tw.peerStatus = b ∧ u.io = s.io)))) ∧
    (s.tw.link = .down → exec (.helloTx t) s = same ∧ exec (.statusTx t) s = same ∧ exec (.leaseResend t) s = same) ∧
    (s.tw.link = .up →
      let r : State := { s with now := now }
      (∃ u, exec (.helloTx t) s = .next u ∧ { u with io := s.io, tw := s.tw, now := s.now } = s ∧
        sent u 1 (toLE 8 s.tw.session ++ toLE 1 s.tw.claim ++ toLE 1 s.pw.mode.code ++ toLE 1 s.tw.role.code ++
          toLE 1 s.tw.absence.toNat)) ∧
      (∃ u, exec (.statusTx t) s = .next u ∧ { u with io := s.io, tw := s.tw, now := s.now } = s ∧
        sent u 7 (toLE 1 s.servNow.toNat ++ toLE 2 r.holdoffLeft ++ toLE 1 s.nv.stoodDown.toNat)) ∧
      ∀ epoch e, s.tw.leaseOut = some (epoch, e) → s.tw.role = .lead →
        (s.tw.leaseAt + 10000000 ≤ now → ∃ u, exec (.leaseResend t) s = .next u ∧
          sent u 4 (toLE 1 epoch ++ toLE 5 e) ∧ u.tw.leaseAt = now ∧ u.tw.leaseOut = s.tw.leaseOut) ∧
        (now < s.tw.leaseAt + 10000000 → exec (.leaseResend t) s = same)) ∧
    (s.tw.link ≠ .down →
      (s.twinReady = true → now < s.tw.lastMsg + 10000000 → exec (.twinLinkTimeout t) s = same) ∧
      (s.twinReady = false ∨ s.tw.lastMsg + 10000000 ≤ now →
        ∃ u, exec (.twinLinkTimeout t) s = .next u ∧ u.tw.link = .down ∧ u.tw.linkDownAt = now ∧
          u.tw.peerSession = none ∧ (s.tw.link = .up → inc u F.TWN_LINK_ERR_downs))) ∧
    (now < s.tw.linkDownAt + 100000000 → exec (.twinLinkRetrain t) s = same) ∧
    (s.tw.linkDownAt + 100000000 ≤ now → s.tw.link = .down → s.twinReady = true →
      ∃ u, exec (.twinLinkRetrain t) s = .next u ∧ u.tw.link = .training ∧ u.tw.txSeq = 0 ∧ u.tw.lastMsg = now ∧
        u.tw.peerSession = none ∧ u.tw.peerHeard = false ∧ u.io = s.io) ∧
    (s.tw.servSince = none → exec (.holdoffExpiry t) s = same ∧ exec (.recoveryWindowClose t) s = same) ∧
    (∀ x, s.tw.servSince = some x →
      (now < x + s.holdoff * 1000000000 → exec (.holdoffExpiry t) s = same) ∧
      (x + s.holdoff * 1000000000 ≤ now → s.tw.preferred = false → s.tw.hold = false → s.wantsLead = true →
        s.tw.revertSlot = none →
        exec (.holdoffExpiry t) s = .next { s with
          now := now
          tw := { s.tw with
            revertSlot := some (if now ≤ s.ml.slotAt + 20000000 then s.ml.slot else (s.ml.slot + 1) % 2 ^ 40) } }) ∧
      (now < x + 60000000000 → exec (.recoveryWindowClose t) s = same) ∧
      (x + 60000000000 ≤ now →
        exec (.recoveryWindowClose t) s = .next { s with now := now, tw := { s.tw with window := false } })) ∧
    (now < s.ml.slotAt + 24500000 → exec (.preferredRaise t) s = same) ∧
    (s.ml.slotAt + 24500000 ≤ now →
      (s.tw.dusk = true → s.tw.duskWait = none → s.pw.trans = some .toDusk → ∃ u, exec (.preferredRaise t) s = .next u ∧
        u.tw.duskWait = some now ∧ u.tw.absence = true ∧ u.tw.preferred = false ∧ bitN u.tw.claim 2 = false ∧
        bitN u.tw.claim 1 = false) ∧
      (s.tw.dusk = false →
        (s.tw.hold = true → s.tw.holdClr = false → s.peerServ = true → s.tw.claimIn < s.tw.claim →
          ∃ u, exec (.preferredRaise t) s = .next u ∧ u.tw.holdClr = true ∧ u.tw.preferred = false ∧
            bitN u.tw.claim 2 = false ∧ bitN u.tw.claim 1 = false) ∧
        (s.tw.hold = false → s.tw.revertSlot = some s.ml.slot → s.servNow = true → s.wantsLead = true →
          ∃ u, exec (.preferredRaise t) s = .next u ∧ u.tw.preferred = true ∧
            u.tw.claim = 14 + s.fld F.TOP_STRAP_twin_id) ∧
        (s.tw.hold = false → s.tw.revertSlot ≠ some s.ml.slot → exec (.preferredRaise t) s = same))) ∧
    (∃ u, exec (.peerLost t) s = .next u ∧ u.tw = s.tw ∧
      (s.flag F.TWN_CFG_pair_en = false → u.fld F.TWN_STAT_peer_lost = 0 ∧ u.fld F.TEL_FAULT_twin = 0) ∧
      (∀ x, s.flag F.TWN_CFG_pair_en = true → s.tw.peerDeadAt = some x → s.tw.absent = false →
        (x + 1000000000 < now → u.fld F.TWN_STAT_peer_lost = 1 ∧ u.fld F.TEL_FAULT_twin = 1) ∧
        (now ≤ x + 1000000000 → u.fld F.TWN_STAT_peer_lost = 0))) ∧
    (s.tw.standDue = false → exec (.standDown t) s = same) ∧
    (s.tw.standDue = true → ∃ u, exec (.standDown t) s = .next u ∧ u.nv.stoodDown = true ∧ u.tw.standDue = false ∧
      u.tw.claim = 0 ∧ (s.tw.claim ≠ 0 → u.tw.gate = false)) ∧
    (s.tw.holdAt = none → exec (.twnHoldTimeout t) s = same) ∧
    (∀ x, s.tw.holdAt = some x →
      (now < x + 50000000 → exec (.twnHoldTimeout t) s = same) ∧
      (x + 50000000 ≤ now → ∃ u, exec (.twnHoldTimeout t) s = .next u ∧ u.tw.hold = false ∧ u.tw.holdAt = none ∧
        u.tw.holdClr = false ∧ (∀ d ∈ u.io.hf.deferred, d.opcode ≠ 0x0701) ∧
        ∀ d, s.io.hf.deferred.filter (fun d => d.opcode == 0x0701) = [d] → s.io.hostOk = true →
          let cpl : Cpl := { sq := d.sq, tag := d.tag, status := stTIMEOUT, gen := d.gen, final := true }
          (s.fld (F.HIF_SQ_CFG_cq d.sq), cpl) ∈ u.io.hf.cqHeld ∨
            ∃ a head phase, Out.dma a (cpl.bytes head ++ [phase]) ∈ u.io.out)) ∧
    ∀ c : Cmd,
      (s.canFetch c = true → s.io.hf.inFlight c.sq.val = false → c.wrFail = false → s.pw.mode ≠ .doze →
        let turned (st : Nat) : Prop := ∃ u, exec (.twnRoleRequest t c) s = .next u ∧ Answered s u c st ∧
          u.tw.hold = s.tw.hold ∧ u.nv.stoodDown = s.nv.stoodDown
        (c.gen.toNat ≠ s.fld F.HIF_GEN_gen → turned stSTALE) ∧
        (c.gen.toNat = s.fld F.HIF_GEN_gen → c.b3.toNat / 2 ≠ 0 → turned stBAD_ARG) ∧
        (c.gen.toNat = s.fld F.HIF_GEN_gen → c.b3.toNat / 2 = 0 →
          (s.fld (F.HIF_SQ_CFG_kind c.sq.val) ≠ 0 → turned stUNSUPPORTED) ∧
          (∀ st, s.fld (F.HIF_SQ_CFG_kind c.sq.val) = 0 → modeStatus s.pw.mode 0x0701 = some st → turned st))) ∧
      (Ready s c .command → s.pw.mode = .full → c.zero 1 23 = true →
        (c.f 0 1 = 0 → Alone s → ∃ u, exec (.twnRoleRequest t c) s = .next u ∧ Answered s u c stOK ∧
          u.tw.hold = true ∧ u.tw.preferred = false ∧ u.tw.revertSlot = none ∧ bitN u.tw.claim 1 = false) ∧
        (c.f 0 1 = 0 → s.tw.role = .lead → s.peerServ = true → ∃ u, exec (.twnRoleRequest t c) s = .next u ∧
          Answered s u c stDEFERRED ∧ u.tw.hold = true ∧ u.tw.preferred = false ∧
          (u.tw.role = .lead → u.tw.holdAt = some now) ∧
          (u.tw.role = .shadow → ∀ d ∈ u.io.hf.deferred, d.opcode ≠ 0x0701)) ∧
        (c.f 0 1 = 1 → ∃ u, exec (.twnRoleRequest t c) s = .next u ∧ Answered s u c stOK ∧ u.tw.hold = false ∧
          u.tw.holdClr = false) ∧
        (c.f 0 1 = 2 → ∃ u, exec (.twnRoleRequest t c) s = .next u ∧
          Answered s u c (if s.nv.stoodDown then stOK else stBAD_ARG) ∧ u.nv.stoodDown = false)) ∧
      (Ready s c .command → modeStatus s.pw.mode 0x0702 = none → c.f 0 8 % 32 = 0 → c.zero 8 16 = true →
        let r : State := { s with now := now }
        ∃ u b, exec (.twnStatus t c) s = .next u ∧ Answered s u c stOK [(c.f 0 8, b)] ∧ HostOnly s u [] ∧
          b.length = 64 ∧ b.take 13 = toLE 4 s.twnStat.toNat ++ toLE 2 r.holdoffLeft ++ toLE 2 r.windowLeft ++
            toLE 5 s.ms.ctr)

/-! ## Updates and Rescue (18_update_rescue) -/

/-- UPD_STAGE, UPD_VERIFY, UPD_ACTIVATE and UPD_STATUS (R523, R524, R529 to R531, R587), UPD_STAGE_DONE and UPD_VERIFY_DONE
(R519, R531), TRIPLICATE_UPDATE (R526), PAUSE_START, ACTIVATION_LOAD_DONE and ACTIVATION_TIMEOUT (R523, R525),
TRIAL_COMMIT_TIMER (R520, R524), XMODEM_DOWNLOAD and TFTP_WRITE_REQUEST (R527, R528). -/
def Obligations.UpdatesAndRescue : Prop :=
  ∀ (t : Nat) (c : Cmd) (x : Straps) (s : State),
    let now := max s.now t
    let same : Host.Outcome State Fault Refusal := .next { s with now := now }
    let inc (u : State) (f : Fld) : Prop := u.fld f = min (s.fld f + 1) (2 ^ f.width - 1)
    let told (u : State) (d : Dfr) (st : Nat) : Prop :=
      let cpl : Cpl := { sq := d.sq, tag := d.tag, status := st, gen := d.gen, final := true }
      (s.fld (F.HIF_SQ_CFG_cq d.sq), cpl) ∈ u.io.hf.cqHeld ∨
        ∃ a head phase, Out.dma a (cpl.bytes head ++ [phase]) ∈ u.io.out
    (Ready s c .command →
      (∀ b : Bool, s.pw.mode = .full → 256 ≤ c.f 8 4 → c.f 8 4 ≤ 1048576 → c.f 8 4 % 256 = 0 → c.f 12 4 % 256 = 0 →
        c.f 0 8 % 32 = 0 → c.f 16 1 < 4 → bitN (c.f 16 1) 0 = b → c.zero 17 7 = true → c.rdErr = none →
        (s.up.job ≠ none → ∃ u, exec (.updStage t c) s = .next u ∧ Answered s u c stNO_ROOM ∧ HostOnly s u []) ∧
        (s.up.job = none → s.up.running = some b ∨ setArea < c.f 12 4 + c.f 8 4 →
          ∃ u, exec (.updStage t c) s = .next u ∧ Answered s u c stBAD_ARG ∧ HostOnly s u []) ∧
        (s.up.job = none → s.up.running ≠ some b → s.dir ≠ none → s.bootSet ≠ b → c.f 12 4 + c.f 8 4 ≤ setArea →
          ∃ u, exec (.updStage t c) s = .next u ∧ Deferred s u c 0x0801 0 ∧
            u.up = { s.up with
              job := some (.stage b (c.f 12 4) (Bytes.slice c.rd 0 (c.f 8 4)) (bitN (c.f 16 1) 1)) } ∧
            HostOnly { s with up := u.up } u [])) ∧
      (∀ b : Bool, s.pw.mode = .full → c.f 16 1 = b.toNat → c.zero 0 16 = true → c.zero 17 7 = true → s.up.job = none →
        ∃ u, exec (.updVerify t c) s = .next u ∧ Deferred s u c 0x0802 0 ∧
          u.up = { s.up with job := some (.verify b) } ∧ HostOnly { s with up := u.up } u []) ∧
      (∀ b : Bool, c.f 16 1 = b.toNat → c.zero 0 16 = true → c.zero 18 6 = true →
        (s.pw.mode = .full → c.f 17 1 = 0 → (s.ent b).state = 2 → s.hasCopy b = true → s.up.job = none →
          ∃ u, exec (.updActivate t c x) s = .next u ∧ Deferred s u c 0x0803 0 ∧ (u.ent b).state = 3 ∧
            (u.ent b).tries = max 1 (s.fld F.UPD_CFG_trial_tries) ∧ u.bootSet = b ∧ u.ent (!b) = s.ent (!b) ∧
            u.up = { s.up with job := some (.activate b (if s.sameDawn then .ready else .update)) }) ∧
        (s.pw.mode = .full → c.f 17 1 ≤ 1 → s.up.job ≠ none →
          ∃ u, exec (.updActivate t c x) s = .next u ∧ Answered s u c stNO_ROOM ∧ HostOnly s u []) ∧
        (s.pw.mode = .full → c.f 17 1 = 0 → (s.ent b).state ≠ 2 ∨ s.hasCopy b = false → s.up.job = none →
          ∃ u, exec (.updActivate t c x) s = .next u ∧ Answered s u c stBAD_ARG ∧ HostOnly s u []) ∧
        (s.pw.mode = .full → c.f 17 1 = 1 → s.up.running = some b → (s.ent b).state = 3 → s.up.job = none →
          ∃ u, exec (.updActivate t c x) s = .next u ∧ Answered s u c stOK ∧ (u.ent b).state = 4 ∧
            (u.ent b).tries = 3 ∧ u.up.trialAt = none ∧ ∀ f, s.floor? = some f → u.floor? = some (max f (s.ent b).svn)) ∧
        (s.pw.mode = .full → c.f 17 1 = 1 → s.up.running ≠ some b ∨ (s.ent b).state ≠ 3 → s.up.job = none →
          ∃ u, exec (.updActivate t c x) s = .next u ∧ Answered s u c stBAD_ARG ∧ HostOnly s u []) ∧
        (s.pw.mode = .rescue → c.f 17 1 = 0 → (s.ent b).state = 2 ∨ (s.ent b).state = 3 → s.up.job = none →
          ∃ u, exec (.updActivate t c x) s = .next u ∧ Started u x F.PWR_RESET_CAUSE_soft)) ∧
      (s.pw.mode = .full → c.f 0 8 % 32 = 0 → c.zero 8 16 = true →
        ∃ u b, exec (.updStatus t c) s = .next u ∧ Answered s u c stOK [(c.f 0 8, b)] ∧ b.length = 64 ∧
          b.take 4 = toLE 4 s.updStat ∧ HostOnly { s with free := u.free } u [] ∧
          (∀ f, s.floor? = some f → Bytes.slice b 4 4 = toLE 4 f) ∧
          Bytes.slice b 16 2 = toLE 1 (s.ent false).state ++ toLE 1 (s.ent false).tries)) ∧
    (∀ b off data erase d, s.up.job = some (.stage b off data erase) → s.dir ≠ none →
      s.deferredOp 0x0801 = some d →
      let start : Tbl Bytes := if erase then [] else s.flash b
      let hdr (u : State) : Bytes := flashRead (u.flash b) 0 40
      (∃ u, exec (.updStageDone t true) s = .next u ∧ Finished s u d stOK ∧ u.up.job = none ∧ u.hasCopy b = false ∧
        u.flash (!b) = s.flash (!b) ∧ u.ent (!b) = s.ent (!b) ∧
        (∀ i < data.length / 256, flashPage (u.flash b) (off / 256 + i) = Bytes.slice data (256 * i) 256) ∧
        (∀ p, p < off / 256 ∨ off / 256 + data.length / 256 ≤ p → flashPage (u.flash b) p = flashPage start p) ∧
        (off < (hdr u).le 36 4 ∧ (hdr u).le 36 4 ≤ off + data.length →
          (u.ent b).state = 1 ∧ (u.ent b).svn = (hdr u).le 12 4 ∧ (u.ent b).fw = (hdr u).le 16 4) ∧
        (¬ (off < (hdr u).le 36 4 ∧ (hdr u).le 36 4 ≤ off + data.length) → (u.ent b).state = 0)) ∧
      ∃ u, exec (.updStageDone t false) s = .next u ∧ Finished s u d stHW_FAULT ∧ u.up.job = none ∧
        (u.ent b).state = 0 ∧ u.flash b = start) ∧
    (∀ b d, s.up.job = some (.verify b) → s.dir ≠ none → s.deferredOp 0x0802 = some d → s.pw.mode = .full →
      (∀ st, s.setCheck b allComps = some st →
        ∃ u, exec (.updVerifyDone t) s = .next u ∧ Finished s u d st ∧ u.up.job = none ∧ u.nv = s.nv) ∧
      (s.setCheck b allComps = none →
        ∃ u, exec (.updVerifyDone t) s = .next u ∧ Finished s u d stOK ∧ u.up.job = none ∧ u.hasCopy b = true ∧
          (u.ent b).state = (if (s.ent b).state = 3 ∨ (s.ent b).state = 4 then (s.ent b).state else 2) ∧
          u.ent (!b) = s.ent (!b))) ∧
    (∀ b d, s.up.job = some (.activate b .update) → s.dir ≠ none → s.deferredOp 0x0803 = some d → s.pw.mode = .full →
      s.pw.trans = none → s.resyncing = false →
      (∃ u, exec (.triplicateUpdate t true) s = .next u ∧ u.fld F.TPL_STAT_image_set = b.toNat ∧
        u.up = { s.up with job := some (.activate b .ready) } ∧
        RegsOnly { s with up := u.up } u [F.TPL_STAT_image_set.off]) ∧
      ∃ u, exec (.triplicateUpdate t false) s = .next u ∧ Finished s u d stBAD_SIGNATURE ∧ u.up.job = none ∧
        (u.ent b).state = 2 ∧ u.bootSet = !b) ∧
    (∀ b, s.up.job = some (.activate b .ready) → s.pw.mode = .full → s.pw.trans = none →
      ∃ u, exec (.pauseStart t) s = .next u ∧ u.pw.mode = .dawn ∧ u.pw.trans = some .pause ∧ u.up.t0 = now ∧
        u.up.job = some (.activate b .pause) ∧ u.up.trialAt = none ∧ u.fld F.TPL_STAT_dawn_active = 1 ∧
        u.sr.input = [] ∧ u.fld F.HIF_GEN_gen = (s.fld F.HIF_GEN_gen + 1) % 256 ∧ u.fld F.HIF_GEN_cause = 2) ∧
    (s.up.job = none → exec (.pauseStart t) s = same ∧ ∀ ok : Bool, exec (.triplicateUpdate t ok) s = same) ∧
    (s.pw.trans ≠ some .pause → exec (.activationTimeout t x) s = same ∧
      ∀ (ok : Bool) (lost : List Nat), exec (.activationLoadDone t ok lost x) s = same) ∧
    (s.pw.trans = some .pause → ∀ (b : Bool) (lost : List Nat),
      let fails (u : State) (st : Nat) : Prop := u.up.job = some (.activate b (.back st)) ∧ u.pw = s.pw ∧
        inc u F.UPD_CNT_fallbacks ∧ (s.dir ≠ none → (u.ent b).state = 5 ∧ u.bootSet = !b)
      (s.up.job = some (.activate b .pause) →
        (∃ u, exec (.activationLoadDone t true lost x) s = .next u ∧ u.pw.mode = .full ∧ u.pw.trans = none ∧
          u.up.job = none ∧ u.up.running = some b ∧ inc u F.UPD_CNT_activations ∧
          u.fld F.TPL_STAT_dawn_active = 0 ∧
          ∀ d, Alone s → s.io.hostOk = true → s.deferredOp 0x0803 = some d → told u d stOK) ∧
        (∃ u, exec (.activationLoadDone t false lost x) s = .next u ∧ fails u stBAD_SIGNATURE) ∧
        (now < s.up.t0 + 100000000 → exec (.activationTimeout t x) s = same) ∧
        (s.up.t0 + 100000000 ≤ now → ∃ u, exec (.activationTimeout t x) s = .next u ∧ fails u stTIMEOUT)) ∧
      ∀ st, s.up.job = some (.activate b (.back st)) →
        (∃ u, exec (.activationLoadDone t true lost x) s = .next u ∧ u.pw.mode = .full ∧ u.pw.trans = none ∧
          u.up.job = none ∧ u.up.running = some (!b) ∧
          ∀ d, Alone s → s.io.hostOk = true → s.deferredOp 0x0803 = some d → told u d st) ∧
        (∃ u, exec (.activationLoadDone t false lost x) s = .next u ∧ Started u x F.PWR_RESET_CAUSE_wdog) ∧
        (now < s.up.t0 + 150000000 → exec (.activationTimeout t x) s = same) ∧
        (s.up.t0 + 150000000 ≤ now →
          ∃ u, exec (.activationTimeout t x) s = .next u ∧ Started u x F.PWR_RESET_CAUSE_wdog)) ∧
    (∀ b a, s.up.running = some b → s.up.trialAt = some a →
      let n := s.fld F.UPD_CFG_commit_s
      (n = 0 ∨ s.pw.mode ≠ .full ∨ (s.ent b).state ≠ 3 ∨ now < a + n * 1000000000 →
        exec (.trialCommitTimer t) s = same) ∧
      (n ≠ 0 → s.pw.mode = .full → (s.ent b).state = 3 → a + n * 1000000000 ≤ now →
        ∃ u, exec (.trialCommitTimer t) s = .next u ∧ (u.ent b).state = 4 ∧ (u.ent b).tries = 3 ∧
          u.ent (!b) = s.ent (!b) ∧ u.bootSet = s.bootSet ∧ u.up.trialAt = none ∧ u.hasCopy (!b) = false ∧
          ∀ f, s.floor? = some f → u.floor? = some (max f (s.ent b).svn))) ∧
    ∀ (file : Bytes) (ok : Bool),
      (s.loaderReady = false → exec (.xmodemDownload t file ok) s = same ∧
        ∀ (name : Bytes) (octet : Bool), exec (.tftpWriteRequest t name octet file ok) s = same) ∧
      (s.loaderReady = true →
        let b := s.downloadSet
        let hdr := Bytes.slice file 0 1256
        let good := s.headerCheck hdr s.floor?.isNone = none ∧ hdr.le 36 4 ≤ file.length ∧
          digestsOk (Bytes.slice file) hdr allComps = true ∧ ok = true
        let took (u : State) : Prop := u.flash (!b) = s.flash (!b) ∧
          if good then (u.ent b).state = 3 ∧ (u.ent b).svn = (flashRead (u.flash b) 0 40).le 12 4 ∧ u.bootSet = b ∧
            u.floor? = some (s.floor?.getD ((flashRead (u.flash b) 0 40).le 12 4))
          else u.flash b = [] ∧ (u.ent b).state = 0
        (∃ u, exec (.xmodemDownload t file ok) s = .next u ∧ took u ∧
          (good → u.io.out = .loader "ACK" :: s.io.out) ∧ (¬ good → u.io.out = .loader "CAN" :: s.io.out)) ∧
        (∃ u, exec (.tftpWriteRequest t (ascii "set") true file ok) s = .next u ∧ took u ∧
          (good → u.io.out = .loader "ACK" :: s.io.out) ∧
          (¬ good → u.io.out = .loader "ERROR 0 set rejected" :: s.io.out)) ∧
        ∀ (name : Bytes) (octet : Bool), name ≠ ascii "set" ∨ octet = false →
          ∃ u, exec (.tftpWriteRequest t name octet file ok) s = .next u ∧ u.nv = s.nv ∧ u.up = s.up ∧
            u.io.out = .loader "ERROR 0 refused" :: s.io.out)

/-! ## Dusk, injection, faults and background work (19_dusk_selftest, 20_faults_background) -/

/-- DSK_RESULT (R547), DUSK_ENTRY (R533, R534), DUSK_GROUP_END (R537, R540, R541, R543), DUSK_RUN_END (R542, R546);
FLT_SET, FAULT_WINDOW_EXPIRY and REORDER_HOLD_EXPIRY (R557 to R559); ENGINE_WATCHDOG_EXPIRY (R50, R550),
UNCORRECTABLE_ERROR (R549, R588, R594), SCRUB_PASS (R554), MRAM_PAGE_MIGRATE (R555), TELEMETRY_SAMPLE (R556). -/
def Obligations.DuskInjectionAndFaults : Prop :=
  ∀ (t : Nat) (c : Cmd) (x : Straps) (s : State),
    let now := max s.now t
    let same : Host.Outcome State Fault Refusal := .next { s with now := now }
    let inc (u : State) (f : Fld) : Prop := u.fld f = min (s.fld f + 1) (2 ^ f.width - 1)
    let logged (u : State) (kind source : Nat) : Prop := ∃ e ∈ u.nv.log, e.kind = kind ∧ e.source = source
    (Ready s c .command →
      (modeStatus s.pw.mode 0x0901 = none → c.f 0 8 % 32 = 0 → c.f 8 1 ≤ 1 → c.zero 9 15 = true →
        (∀ r, s.nv.runs[c.f 8 1]? = some r → r.summary.length = 64 ∧
          ∃ u, exec (.dskResult t c) s = .next u ∧ HostOnly s u [] ∧
            Answered s u c stOK [(c.f 0 8, r.summary ++ (r.fails.map DskFail.bytes).flatten)]) ∧
        (s.nv.runs[c.f 8 1]? = none →
          ∃ u, exec (.dskResult t c) s = .next u ∧ HostOnly s u [] ∧ Answered s u c stBAD_ARG)) ∧
      (s.pw.mode = .full ∨ s.pw.mode = .dawn →
        (s.fltOpen = false →
          ∃ u, exec (.fltSet t c) s = .next u ∧ HostOnly s u [] ∧ Answered s u c stUNSUPPORTED) ∧
        (s.fltOpen = true → c.f 0 1 ≤ 15 → c.f 7 1 ≤ 3 → c.zero 15 1 = true → c.zero 20 4 = true →
          (c.f 1 1 = 0 → 1 ≤ c.f 2 1 → c.f 2 1 ≤ 5 → bitN (s.fld F.FLT_STAT_paths) (c.f 2 1) = true →
            1 ≤ c.f 3 1 → c.f 3 1 ≤ 3 → (c.f 3 1 = 3 → c.f 6 1 ≠ 0) → c.f 6 1 ≤ 15 →
            ∃ u r, exec (.fltSet t c) s = .next u ∧ Answered s u c stOK ∧ Tbl.get? u.fl.rules (c.f 0 1) = some r ∧
              r.path = c.f 2 1 ∧ r.action = c.f 3 1 ∧ r.rate = c.f 4 2 ∧ r.depth = c.f 6 1 ∧
              r.fcsFix = bitN (c.f 7 1) 0 ∧ r.limit = c.f 8 4 ∧ r.seed = c.f 16 4 ∧ r.done = 0 ∧
              u.fld (F.FLT_CNT_acted (c.f 0 1)) = 0 ∧
              HostOnly { s with fl := u.fl } u [(F.FLT_CNT_acted (c.f 0 1)).off]) ∧
          (c.f 1 1 = 1 → ∃ u, exec (.fltSet t c) s = .next u ∧ Answered s u c stOK ∧
            Tbl.get? u.fl.rules (c.f 0 1) = none ∧ HostOnly { s with fl := u.fl } u []) ∧
          (c.f 1 1 = 2 → bitN (c.f 7 1) 1 = false → ∃ u, exec (.fltSet t c) s = .next u ∧ Answered s u c stOK ∧
            u.fl = { s.fl with rules := [] } ∧ HostOnly { s with fl := u.fl } u [])))) ∧
    (s.pw.trans ≠ some .toDusk → exec (.duskEntry t) s = same) ∧
    (s.pw.trans = some .toDusk → s.tw.dusk = true → s.tw.duskWait = none → exec (.duskEntry t) s = same) ∧
    (s.pw.trans = some .toDusk → s.tw.dusk = false → s.fltOpen = false →
      ∃ u r, exec (.duskEntry t) s = .next u ∧ u.pw.mode = .dusk ∧ u.pw.trans = none ∧ u.fld F.DSK_STAT_running = 1 ∧
        u.fld F.DSK_STAT_memory_only = s.pw.duskMemOnly.toNat ∧ u.fld F.PWR_RADIO_PERS_s_eff = 0 ∧ u.ml.conns = [] ∧
        u.sr.input = [] ∧ u.dk.startAt = now ∧ u.dk.abort = 0 ∧
        u.dk.groups = (if s.pw.duskMemOnly then [1, 2] else
          [1, 2] ++ [3, 4, 5, 6, 7, 8].filter fun g => bitN ((s.latchRegs [0x090004]).eFld F.DSK_CFG_group_mask) (g - 1)) ∧
        u.nv.runs.head? = some r ∧ u.nv.runs.tail = s.nv.runs.take 1 ∧ r.incomplete = true ∧
        r.memOnly = s.pw.duskMemOnly ∧ r.fails = [] ∧
        r.run = ((s.run0.map (·.run)).getD 0 + 1) % 2 ^ 32) ∧
    (∀ (fails : List DskHit) (peakMw : Nat),
      (s.dk.groups = [] ∨ s.fld F.DSK_STAT_running = 0 ∨ s.dk.abort ≠ 0 →
        exec (.duskGroupEnd t fails peakMw) s = same) ∧
      ∀ g rest r rs, s.dk.groups = g :: rest → s.pw.mode = .dusk → s.fld F.DSK_STAT_running = 1 → s.dk.abort = 0 →
        s.nv.runs = r :: rs → r.nFail ≤ 65535 →
        (∃ u y, exec (.duskGroupEnd t fails peakMw) s = .next u ∧ u.dk.groups = rest ∧ u.nv.runs = y :: rs ∧
          y.run = r.run ∧ y.done = r.done ||| 2 ^ (g - 1) ∧ y.peakMw = max r.peakMw peakMw ∧
          y.nFail = min 65535 (r.nFail + fails.length) ∧ (fails = [] → y.fails = r.fails ∧ y.failed = r.failed) ∧
          (rest = [] → u.fld F.DSK_STAT_group = 0) ∧
          ∀ g' more, rest = g' :: more → u.fld F.DSK_STAT_group = g' % 16 ∧ (g' = 2 → u.kv.work = [])) ∧
        ∀ h, fails = [h] → sramKind h.kind = false → r.fails.length < 256 →
          ∃ u y, exec (.duskGroupEnd t fails peakMw) s = .next u ∧ u.run0 = some y ∧ y.unrep = true ∧
            y.failed = r.failed ||| 2 ^ (g - 1) ∧ u.fld F.TEL_FAULT_unrepairable = 1 ∧
            u.fld F.DSK_STAT_unrepairable = 1 ∧ logged u 6 9 ∧ ∃ f, y.fails = r.fails ++ [f] ∧ f.inst = h.inst ∧
              f.kind = h.kind ∧ f.addr = h.addr ∧ f.bit = h.bit ∧ f.soft = false ∧ f.unrep = true) ∧
    (∀ (oks : List Bool) (r : DskRun), s.run0 = some r → s.pw.mode = .dusk → s.fld F.DSK_STAT_running = 1 →
      let ended (u : State) (hib : Bool) : Prop :=
        if hib then u.pw.mode = .hibernate
        else u.pw.mode = .dusk ∧ u.pw.trans = some .fromDusk ∧ u.pw.stage = .rom ∧ u.fld F.DSK_STAT_running = 0 ∧
          u.fld F.DSK_STAT_group = 0 ∧ u.dk.groups = [] ∧ u.dk.abort = 0
      (s.dk.groups ≠ [] → s.dk.abort = 0 → exec (.duskRunEnd t oks) s = same) ∧
      (s.fltOpen = false → s.dk.abort ≠ 0 →
        ∃ u y, exec (.duskRunEnd t oks) s = .next u ∧ u.run0 = some y ∧ y.incomplete = true ∧ y.abort = s.dk.abort ∧
          y.fails = r.fails ∧ u.nv.fuses = s.nv.fuses ∧ ended u (s.dk.abort == 6)) ∧
      (s.fltOpen = false → s.dk.groups = [] → s.dk.abort = 0 →
        (r.memOnly = true ∨ s.eFlag F.DSK_CFG_fuse_en = false →
          ∃ u y, exec (.duskRunEnd t oks) s = .next u ∧ u.run0 = some y ∧ y.incomplete = false ∧ y.abort = 0 ∧
            y.fails = r.fails ∧ u.nv.fuses = s.nv.fuses ∧ ended u (!s.pw.duskThenFull)) ∧
        ∀ f, r.memOnly = false → s.eFlag F.DSK_CFG_fuse_en = true → r.fails = [f] → f.soft = true →
          s.fusedList.any f.same = false →
          (f.rep = false → ∃ u, exec (.duskRunEnd t oks) s = .next u ∧ u.nv.fuses = s.nv.fuses) ∧
          (f.rep = true → s.nv.fuses.length < 128 →
            (oks.headD true = true → ∃ u y, exec (.duskRunEnd t oks) s = .next u ∧
              u.nv.fuses = s.nv.fuses ++ [some f] ∧ u.run0 = some y ∧ y.fused = r.fused + 1) ∧
            (oks.headD true = false → s.pw.duskThenFull = true →
              ∃ u, exec (.duskRunEnd t oks) s = .next u ∧ u.nv.fuses = s.nv.fuses ++ [none] ∧
                u.fld F.TEL_FAULT_otp = 1)))) ∧
    (s.fltOpen = false ∨ now < s.fl.until_ns → exec (.faultWindowExpiry t) s = same) ∧
    (s.fltOpen = true → s.fl.until_ns ≤ now → s.fl.held = [] →
      ∃ u, exec (.faultWindowExpiry t) s = .next u ∧ u.fltOpen = false ∧ u.fld F.FLT_STAT_paths = 0 ∧
        u.fl = { s.fl with rules := [], addrs := [] } ∧ logged u 0x14 0xFF ∧
        RegsOnly { s with fl := u.fl, nv := u.nv } u [F.FLT_STAT_open.off]) ∧
    (∀ (h : FltHeld) (p : Fin 2), s.fl.held = [h] → h.path = p.val + 1 →
      (now < h.at_ns + 1000000 → exec (.reorderHoldExpiry t) s = same) ∧
      (h.at_ns + 1000000 ≤ now → 60 ≤ h.data.length → h.data.length + 4 ≤ s.fld (F.ETH_MAC_CFG_max_frame p) →
        ∃ u, exec (.reorderHoldExpiry t) s = .next u ∧ u.fl.held = [] ∧
          u.fld (F.ETH_RX_FRAMES_frames p) = (s.fld (F.ETH_RX_FRAMES_frames p) + 1) % 2 ^ 32)) ∧
    (∀ e : Fin 15,
      (s.pw.mode = .full → e.val < 3 → exec (.engineWatchdogExpiry t e) s = same) ∧
      (s.pw.mode = .hibernate ∨ s.pw.mode = .rescue ∨ s.pw.mode = .dusk → exec (.engineWatchdogExpiry t e) s = same) ∧
      (s.pw.mode = .dawn → e.val = 7 → s.fld F.TPL_STAT_dawn_active = 1 →
        ∃ u, exec (.engineWatchdogExpiry t e) s = .next u ∧ u.tp = { s.tp with reload := true } ∧ logged u 2 7 ∧
          u.pw = s.pw) ∧
      (s.pw.mode = .full → 3 ≤ e.val → s.ck.refFailed = false →
        let r : State := { s with now := now }
        ∃ u, exec (.engineWatchdogExpiry t e) s = .next u ∧ u.pw.mode = .dawn ∧ u.pw.prevMode = 3 ∧ u.sr.input = [] ∧
          logged u 4 e.val ∧
          (r.justReturned = true → u.pw.stage = .onAir ∧ u.pw.trans = none ∧ u.fld F.TEL_FAULT_fatal_hold = 1) ∧
          (r.justReturned = false → u.pw.stage = .training ∧ u.pw.trans = some .toFull ∧ u.pw.retry = true))) ∧
    (s.powered = true →
      (∀ n place p, s.inFull = true → (s.queue n).pkts[place]? = some p → p.spilled = false →
        ∃ u, exec (.uncorrectableError t (.cell n place) x) s = .next u ∧
          (u.queue n).pkts = (s.queue n).pkts.eraseIdx place ∧ logged u 2 18) ∧
      (∀ (k : Fin 16384) y, Tbl.get? s.ml.conns k = some y → y.state ≠ 3 →
        ∃ u z, exec (.uncorrectableError t (.connection k) x) s = .next u ∧ Tbl.get? u.ml.conns k = some z ∧
          z.state = 3 ∧ z.addr = y.addr ∧ logged u 2 13) ∧
      (s.pw.mode = .full →
        ∃ u, exec (.uncorrectableError t .l2 x) s = .next u ∧ u.pw.mode = .dawn ∧ u.sr.input = [] ∧ logged u 4 0xFF) ∧
      (s.pw.mode = .rescue →
        ∃ u, exec (.uncorrectableError t .lane0 x) s = .next u ∧ Started u x F.PWR_RESET_CAUSE_tpl ∧ logged u 5 0)) ∧
    (∃ u, exec (.uncorrectableError t (.record .lease) x) s = .next u ∧ u.nv = { s.nv with lease := none }) ∧
    (∀ dram : Bool,
      let on : Bool := s.powered && if dram then s.inFull else
        s.pw.mode == .full || s.pw.mode == .doze || s.pw.mode == .dawn || s.pw.mode == .dusk
      let f := if dram then F.TEL_SCRUB_CNT_dram_passes else F.TEL_SCRUB_CNT_sram_passes
      (on = false → ∀ (late : Bool) e, exec (.scrubPass t dram late e) s = same) ∧
      (on = true →
        ∀ e : Nat × Nat × Nat,
        let lanes (u : State) : Prop := ∀ x ∈ [(F.TPL_LANE_ECC_lane0, e.1), (F.TPL_LANE_ECC_lane1, e.2.1),
          (F.TPL_LANE_ECC_lane2, e.2.2)], u.fld x.1 = if dram then s.fld x.1 else min (s.fld x.1 + x.2) 255
        let offs : List Nat := if dram then [] else [F.TPL_LANE_ECC_lane0.off]
        (∃ u, exec (.scrubPass t dram false e) s = .next u ∧ inc u f ∧ lanes u ∧ RegsOnly s u (f.off :: offs)) ∧
        ∃ u, exec (.scrubPass t dram true e) s = .next u ∧ u.fld F.TEL_STAT_scrub_late = 1 ∧ lanes u ∧
          RegsOnly s u (F.TEL_STAT_scrub_late.off :: offs))) ∧
    (s.powered = true → (∃ u, exec (.uncorrectableError t .backupRam x) s = .next u ∧ u.fld F.RTC_STAT_bram_err = 1 ∧
        RegsOnly s u [F.RTC_STAT_bram_err.off]) ∧
      ∀ y l, s.nv.log = y :: l → ∃ u z, exec (.uncorrectableError t .logWrite x) s = .next u ∧
        u.fld F.TEL_STAT_log_err = 1 ∧ u.fld F.TEL_FAULT_mram = 1 ∧ u.nv.log = (z :: l).take 2048 ∧ z.kind = 6 ∧
        z.seq = nextLogSeq s.nv.logSeq) ∧
    (∀ (page writes : Nat) (ok : Bool), s.powered = true →
      (s.pw.mode = .full ∨ s.pw.mode = .doze ∨ s.pw.mode = .dawn) →
      (ok = true → 2 ^ 24 < writes → 0 < s.nv.spares →
        ∃ u, exec (.mramPageMigrate t page writes ok) s = .next u ∧ Tbl.get? u.nv.pageWr page = some 0 ∧
          u.nv.spares = s.nv.spares - 1 ∧ { u with nv := s.nv, now := s.now } = s) ∧
      (ok = false ∨ writes ≤ 2 ^ 24 ∨ s.nv.spares = 0 →
        exec (.mramPageMigrate t page writes ok) s = .next { s with
          now := now, nv := { s.nv with pageWr := Tbl.put s.nv.pageWr page writes } })) ∧
    ∀ (temps : List Int) (rails : List (Nat × Nat)) (vin power : Nat),
      let due := s.fl.sampleAt + 1000000 * clamp 10 60000 (s.fld F.TEL_CFG_tel_ms)
      (s.inFull = false ∨ (s.fl.sample ≠ none ∧ now < due) →
        exec (.telemetrySample t temps rails vin power) s = same) ∧
      (s.inFull = true → s.fl.sample = none ∨ due ≤ now → temps ≠ [] →
        ∃ u i m, exec (.telemetrySample t temps rails vin power) s = .next u ∧
          u.fl = { s.fl with
            sample := some { temps := temps, rails := rails, vin := vin, power := power, sec := s.rt.sec }
            sampleAt := now } ∧
          u.fld F.TEL_STAT_sample_valid = 1 ∧ i < 8 ∧ temps[i]? = some m ∧ (∀ y ∈ temps.take 8, y ≤ m) ∧
          u.fld F.TEL_TEMP_sensor = i ∧ u.fld F.TEL_TEMP_max_c = codeN 8 m)
end

