-- ==== Sys2Proof/Laws/State.lean ====
section
/-!
SUPPORT. Sys2Proof/Laws/State.lean: what each shared update of the state leaves as it was, one lemma for each update
and each part of the state it does not touch.
-/

namespace Sys2Proof.Machine

variable (s : State)

/-! ## `State.at` -/

@[simp] theorem State.at_pending (t : Nat) : (s.at t).pending = s.pending := rfl
@[simp] theorem State.at_free (t : Nat) : (s.at t).free = s.free := rfl
@[simp] theorem State.at_pw (t : Nat) : (s.at t).pw = s.pw := rfl
@[simp] theorem State.at_ck (t : Nat) : (s.at t).ck = s.ck := rfl
@[simp] theorem State.at_rt (t : Nat) : (s.at t).rt = s.rt := rfl
@[simp] theorem State.at_tp (t : Nat) : (s.at t).tp = s.tp := rfl
@[simp] theorem State.at_rs (t : Nat) : (s.at t).rs = s.rs := rfl
@[simp] theorem State.at_ml (t : Nat) : (s.at t).ml = s.ml := rfl
@[simp] theorem State.at_mn (t : Nat) : (s.at t).mn = s.mn := rfl
@[simp] theorem State.at_ms (t : Nat) : (s.at t).ms = s.ms := rfl
@[simp] theorem State.at_kv (t : Nat) : (s.at t).kv = s.kv := rfl
@[simp] theorem State.at_lh (t : Nat) : (s.at t).lh = s.lh := rfl
@[simp] theorem State.at_wl (t : Nat) : (s.at t).wl = s.wl := rfl
@[simp] theorem State.at_pt (t : Nat) : (s.at t).pt = s.pt := rfl
@[simp] theorem State.at_sr (t : Nat) : (s.at t).sr = s.sr := rfl
@[simp] theorem State.at_qm (t : Nat) : (s.at t).qm = s.qm := rfl
@[simp] theorem State.at_tw (t : Nat) : (s.at t).tw = s.tw := rfl
@[simp] theorem State.at_up (t : Nat) : (s.at t).up = s.up := rfl
@[simp] theorem State.at_dk (t : Nat) : (s.at t).dk = s.dk := rfl
@[simp] theorem State.at_fl (t : Nat) : (s.at t).fl = s.fl := rfl
@[simp] theorem State.at_pn (t : Nat) : (s.at t).pn = s.pn := rfl
@[simp] theorem State.at_nv (t : Nat) : (s.at t).nv = s.nv := rfl
@[simp] theorem State.at_io (t : Nat) : (s.at t).io = s.io := rfl

/-! ## `State.setWord` -/

@[simp] theorem State.setWord_now (off : Nat) (w : Word) : (s.setWord off w).now = s.now := rfl
@[simp] theorem State.setWord_pending (off : Nat) (w : Word) : (s.setWord off w).pending = s.pending := rfl
@[simp] theorem State.setWord_free (off : Nat) (w : Word) : (s.setWord off w).free = s.free := rfl
@[simp] theorem State.setWord_pw (off : Nat) (w : Word) : (s.setWord off w).pw = s.pw := rfl
@[simp] theorem State.setWord_ck (off : Nat) (w : Word) : (s.setWord off w).ck = s.ck := rfl
@[simp] theorem State.setWord_rt (off : Nat) (w : Word) : (s.setWord off w).rt = s.rt := rfl
@[simp] theorem State.setWord_tp (off : Nat) (w : Word) : (s.setWord off w).tp = s.tp := rfl
@[simp] theorem State.setWord_rs (off : Nat) (w : Word) : (s.setWord off w).rs = s.rs := rfl
@[simp] theorem State.setWord_ml (off : Nat) (w : Word) : (s.setWord off w).ml = s.ml := rfl
@[simp] theorem State.setWord_mn (off : Nat) (w : Word) : (s.setWord off w).mn = s.mn := rfl
@[simp] theorem State.setWord_ms (off : Nat) (w : Word) : (s.setWord off w).ms = s.ms := rfl
@[simp] theorem State.setWord_kv (off : Nat) (w : Word) : (s.setWord off w).kv = s.kv := rfl
@[simp] theorem State.setWord_lh (off : Nat) (w : Word) : (s.setWord off w).lh = s.lh := rfl
@[simp] theorem State.setWord_wl (off : Nat) (w : Word) : (s.setWord off w).wl = s.wl := rfl
@[simp] theorem State.setWord_pt (off : Nat) (w : Word) : (s.setWord off w).pt = s.pt := rfl
@[simp] theorem State.setWord_sr (off : Nat) (w : Word) : (s.setWord off w).sr = s.sr := rfl
@[simp] theorem State.setWord_qm (off : Nat) (w : Word) : (s.setWord off w).qm = s.qm := rfl
@[simp] theorem State.setWord_tw (off : Nat) (w : Word) : (s.setWord off w).tw = s.tw := rfl
@[simp] theorem State.setWord_up (off : Nat) (w : Word) : (s.setWord off w).up = s.up := rfl
@[simp] theorem State.setWord_dk (off : Nat) (w : Word) : (s.setWord off w).dk = s.dk := rfl
@[simp] theorem State.setWord_fl (off : Nat) (w : Word) : (s.setWord off w).fl = s.fl := rfl
@[simp] theorem State.setWord_pn (off : Nat) (w : Word) : (s.setWord off w).pn = s.pn := rfl
@[simp] theorem State.setWord_nv (off : Nat) (w : Word) : (s.setWord off w).nv = s.nv := rfl

/-! ## `State.setFld` -/

@[simp] theorem State.setFld_now (f : Fld) (v : Nat) : (s.setFld f v).now = s.now := rfl
@[simp] theorem State.setFld_pending (f : Fld) (v : Nat) : (s.setFld f v).pending = s.pending := rfl
@[simp] theorem State.setFld_free (f : Fld) (v : Nat) : (s.setFld f v).free = s.free := rfl
@[simp] theorem State.setFld_pw (f : Fld) (v : Nat) : (s.setFld f v).pw = s.pw := rfl
@[simp] theorem State.setFld_ck (f : Fld) (v : Nat) : (s.setFld f v).ck = s.ck := rfl
@[simp] theorem State.setFld_rt (f : Fld) (v : Nat) : (s.setFld f v).rt = s.rt := rfl
@[simp] theorem State.setFld_tp (f : Fld) (v : Nat) : (s.setFld f v).tp = s.tp := rfl
@[simp] theorem State.setFld_rs (f : Fld) (v : Nat) : (s.setFld f v).rs = s.rs := rfl
@[simp] theorem State.setFld_ml (f : Fld) (v : Nat) : (s.setFld f v).ml = s.ml := rfl
@[simp] theorem State.setFld_mn (f : Fld) (v : Nat) : (s.setFld f v).mn = s.mn := rfl
@[simp] theorem State.setFld_ms (f : Fld) (v : Nat) : (s.setFld f v).ms = s.ms := rfl
@[simp] theorem State.setFld_kv (f : Fld) (v : Nat) : (s.setFld f v).kv = s.kv := rfl
@[simp] theorem State.setFld_lh (f : Fld) (v : Nat) : (s.setFld f v).lh = s.lh := rfl
@[simp] theorem State.setFld_wl (f : Fld) (v : Nat) : (s.setFld f v).wl = s.wl := rfl
@[simp] theorem State.setFld_pt (f : Fld) (v : Nat) : (s.setFld f v).pt = s.pt := rfl
@[simp] theorem State.setFld_sr (f : Fld) (v : Nat) : (s.setFld f v).sr = s.sr := rfl
@[simp] theorem State.setFld_qm (f : Fld) (v : Nat) : (s.setFld f v).qm = s.qm := rfl
@[simp] theorem State.setFld_tw (f : Fld) (v : Nat) : (s.setFld f v).tw = s.tw := rfl
@[simp] theorem State.setFld_up (f : Fld) (v : Nat) : (s.setFld f v).up = s.up := rfl
@[simp] theorem State.setFld_dk (f : Fld) (v : Nat) : (s.setFld f v).dk = s.dk := rfl
@[simp] theorem State.setFld_fl (f : Fld) (v : Nat) : (s.setFld f v).fl = s.fl := rfl
@[simp] theorem State.setFld_pn (f : Fld) (v : Nat) : (s.setFld f v).pn = s.pn := rfl
@[simp] theorem State.setFld_nv (f : Fld) (v : Nat) : (s.setFld f v).nv = s.nv := rfl

/-! ## `State.count` -/

@[simp] theorem State.count_now (f : Fld) (n : Nat) : (s.count f n).now = s.now := rfl
@[simp] theorem State.count_pending (f : Fld) (n : Nat) : (s.count f n).pending = s.pending := rfl
@[simp] theorem State.count_free (f : Fld) (n : Nat) : (s.count f n).free = s.free := rfl
@[simp] theorem State.count_pw (f : Fld) (n : Nat) : (s.count f n).pw = s.pw := rfl
@[simp] theorem State.count_ck (f : Fld) (n : Nat) : (s.count f n).ck = s.ck := rfl
@[simp] theorem State.count_rt (f : Fld) (n : Nat) : (s.count f n).rt = s.rt := rfl
@[simp] theorem State.count_tp (f : Fld) (n : Nat) : (s.count f n).tp = s.tp := rfl
@[simp] theorem State.count_rs (f : Fld) (n : Nat) : (s.count f n).rs = s.rs := rfl
@[simp] theorem State.count_ml (f : Fld) (n : Nat) : (s.count f n).ml = s.ml := rfl
@[simp] theorem State.count_mn (f : Fld) (n : Nat) : (s.count f n).mn = s.mn := rfl
@[simp] theorem State.count_ms (f : Fld) (n : Nat) : (s.count f n).ms = s.ms := rfl
@[simp] theorem State.count_kv (f : Fld) (n : Nat) : (s.count f n).kv = s.kv := rfl
@[simp] theorem State.count_lh (f : Fld) (n : Nat) : (s.count f n).lh = s.lh := rfl
@[simp] theorem State.count_wl (f : Fld) (n : Nat) : (s.count f n).wl = s.wl := rfl
@[simp] theorem State.count_pt (f : Fld) (n : Nat) : (s.count f n).pt = s.pt := rfl
@[simp] theorem State.count_sr (f : Fld) (n : Nat) : (s.count f n).sr = s.sr := rfl
@[simp] theorem State.count_qm (f : Fld) (n : Nat) : (s.count f n).qm = s.qm := rfl
@[simp] theorem State.count_tw (f : Fld) (n : Nat) : (s.count f n).tw = s.tw := rfl
@[simp] theorem State.count_up (f : Fld) (n : Nat) : (s.count f n).up = s.up := rfl
@[simp] theorem State.count_dk (f : Fld) (n : Nat) : (s.count f n).dk = s.dk := rfl
@[simp] theorem State.count_fl (f : Fld) (n : Nat) : (s.count f n).fl = s.fl := rfl
@[simp] theorem State.count_pn (f : Fld) (n : Nat) : (s.count f n).pn = s.pn := rfl
@[simp] theorem State.count_nv (f : Fld) (n : Nat) : (s.count f n).nv = s.nv := rfl

/-! ## `State.countMod` -/

@[simp] theorem State.countMod_now (f : Fld) : (s.countMod f).now = s.now := rfl
@[simp] theorem State.countMod_pending (f : Fld) : (s.countMod f).pending = s.pending := rfl
@[simp] theorem State.countMod_free (f : Fld) : (s.countMod f).free = s.free := rfl
@[simp] theorem State.countMod_pw (f : Fld) : (s.countMod f).pw = s.pw := rfl
@[simp] theorem State.countMod_ck (f : Fld) : (s.countMod f).ck = s.ck := rfl
@[simp] theorem State.countMod_rt (f : Fld) : (s.countMod f).rt = s.rt := rfl
@[simp] theorem State.countMod_tp (f : Fld) : (s.countMod f).tp = s.tp := rfl
@[simp] theorem State.countMod_rs (f : Fld) : (s.countMod f).rs = s.rs := rfl
@[simp] theorem State.countMod_ml (f : Fld) : (s.countMod f).ml = s.ml := rfl
@[simp] theorem State.countMod_mn (f : Fld) : (s.countMod f).mn = s.mn := rfl
@[simp] theorem State.countMod_ms (f : Fld) : (s.countMod f).ms = s.ms := rfl
@[simp] theorem State.countMod_kv (f : Fld) : (s.countMod f).kv = s.kv := rfl
@[simp] theorem State.countMod_lh (f : Fld) : (s.countMod f).lh = s.lh := rfl
@[simp] theorem State.countMod_wl (f : Fld) : (s.countMod f).wl = s.wl := rfl
@[simp] theorem State.countMod_pt (f : Fld) : (s.countMod f).pt = s.pt := rfl
@[simp] theorem State.countMod_sr (f : Fld) : (s.countMod f).sr = s.sr := rfl
@[simp] theorem State.countMod_qm (f : Fld) : (s.countMod f).qm = s.qm := rfl
@[simp] theorem State.countMod_tw (f : Fld) : (s.countMod f).tw = s.tw := rfl
@[simp] theorem State.countMod_up (f : Fld) : (s.countMod f).up = s.up := rfl
@[simp] theorem State.countMod_dk (f : Fld) : (s.countMod f).dk = s.dk := rfl
@[simp] theorem State.countMod_fl (f : Fld) : (s.countMod f).fl = s.fl := rfl
@[simp] theorem State.countMod_pn (f : Fld) : (s.countMod f).pn = s.pn := rfl
@[simp] theorem State.countMod_nv (f : Fld) : (s.countMod f).nv = s.nv := rfl

/-! ## `State.latchRegs` -/

@[simp] theorem State.latchRegs_now (l : List Nat) : (s.latchRegs l).now = s.now := rfl
@[simp] theorem State.latchRegs_pending (l : List Nat) : (s.latchRegs l).pending = s.pending := rfl
@[simp] theorem State.latchRegs_free (l : List Nat) : (s.latchRegs l).free = s.free := rfl
@[simp] theorem State.latchRegs_pw (l : List Nat) : (s.latchRegs l).pw = s.pw := rfl
@[simp] theorem State.latchRegs_ck (l : List Nat) : (s.latchRegs l).ck = s.ck := rfl
@[simp] theorem State.latchRegs_rt (l : List Nat) : (s.latchRegs l).rt = s.rt := rfl
@[simp] theorem State.latchRegs_tp (l : List Nat) : (s.latchRegs l).tp = s.tp := rfl
@[simp] theorem State.latchRegs_rs (l : List Nat) : (s.latchRegs l).rs = s.rs := rfl
@[simp] theorem State.latchRegs_ml (l : List Nat) : (s.latchRegs l).ml = s.ml := rfl
@[simp] theorem State.latchRegs_mn (l : List Nat) : (s.latchRegs l).mn = s.mn := rfl
@[simp] theorem State.latchRegs_ms (l : List Nat) : (s.latchRegs l).ms = s.ms := rfl
@[simp] theorem State.latchRegs_kv (l : List Nat) : (s.latchRegs l).kv = s.kv := rfl
@[simp] theorem State.latchRegs_lh (l : List Nat) : (s.latchRegs l).lh = s.lh := rfl
@[simp] theorem State.latchRegs_wl (l : List Nat) : (s.latchRegs l).wl = s.wl := rfl
@[simp] theorem State.latchRegs_pt (l : List Nat) : (s.latchRegs l).pt = s.pt := rfl
@[simp] theorem State.latchRegs_sr (l : List Nat) : (s.latchRegs l).sr = s.sr := rfl
@[simp] theorem State.latchRegs_qm (l : List Nat) : (s.latchRegs l).qm = s.qm := rfl
@[simp] theorem State.latchRegs_tw (l : List Nat) : (s.latchRegs l).tw = s.tw := rfl
@[simp] theorem State.latchRegs_up (l : List Nat) : (s.latchRegs l).up = s.up := rfl
@[simp] theorem State.latchRegs_dk (l : List Nat) : (s.latchRegs l).dk = s.dk := rfl
@[simp] theorem State.latchRegs_fl (l : List Nat) : (s.latchRegs l).fl = s.fl := rfl
@[simp] theorem State.latchRegs_pn (l : List Nat) : (s.latchRegs l).pn = s.pn := rfl
@[simp] theorem State.latchRegs_nv (l : List Nat) : (s.latchRegs l).nv = s.nv := rfl

/-! ## `State.latchFld` -/

@[simp] theorem State.latchFld_now (f : Fld) : (s.latchFld f).now = s.now := rfl
@[simp] theorem State.latchFld_pending (f : Fld) : (s.latchFld f).pending = s.pending := rfl
@[simp] theorem State.latchFld_free (f : Fld) : (s.latchFld f).free = s.free := rfl
@[simp] theorem State.latchFld_pw (f : Fld) : (s.latchFld f).pw = s.pw := rfl
@[simp] theorem State.latchFld_ck (f : Fld) : (s.latchFld f).ck = s.ck := rfl
@[simp] theorem State.latchFld_rt (f : Fld) : (s.latchFld f).rt = s.rt := rfl
@[simp] theorem State.latchFld_tp (f : Fld) : (s.latchFld f).tp = s.tp := rfl
@[simp] theorem State.latchFld_rs (f : Fld) : (s.latchFld f).rs = s.rs := rfl
@[simp] theorem State.latchFld_ml (f : Fld) : (s.latchFld f).ml = s.ml := rfl
@[simp] theorem State.latchFld_mn (f : Fld) : (s.latchFld f).mn = s.mn := rfl
@[simp] theorem State.latchFld_ms (f : Fld) : (s.latchFld f).ms = s.ms := rfl
@[simp] theorem State.latchFld_kv (f : Fld) : (s.latchFld f).kv = s.kv := rfl
@[simp] theorem State.latchFld_lh (f : Fld) : (s.latchFld f).lh = s.lh := rfl
@[simp] theorem State.latchFld_wl (f : Fld) : (s.latchFld f).wl = s.wl := rfl
@[simp] theorem State.latchFld_pt (f : Fld) : (s.latchFld f).pt = s.pt := rfl
@[simp] theorem State.latchFld_sr (f : Fld) : (s.latchFld f).sr = s.sr := rfl
@[simp] theorem State.latchFld_qm (f : Fld) : (s.latchFld f).qm = s.qm := rfl
@[simp] theorem State.latchFld_tw (f : Fld) : (s.latchFld f).tw = s.tw := rfl
@[simp] theorem State.latchFld_up (f : Fld) : (s.latchFld f).up = s.up := rfl
@[simp] theorem State.latchFld_dk (f : Fld) : (s.latchFld f).dk = s.dk := rfl
@[simp] theorem State.latchFld_fl (f : Fld) : (s.latchFld f).fl = s.fl := rfl
@[simp] theorem State.latchFld_pn (f : Fld) : (s.latchFld f).pn = s.pn := rfl
@[simp] theorem State.latchFld_nv (f : Fld) : (s.latchFld f).nv = s.nv := rfl

/-! ## `State.put` -/

@[simp] theorem State.put_now (o : Out) : (s.put o).now = s.now := rfl
@[simp] theorem State.put_pending (o : Out) : (s.put o).pending = s.pending := rfl
@[simp] theorem State.put_free (o : Out) : (s.put o).free = s.free := rfl
@[simp] theorem State.put_pw (o : Out) : (s.put o).pw = s.pw := rfl
@[simp] theorem State.put_ck (o : Out) : (s.put o).ck = s.ck := rfl
@[simp] theorem State.put_rt (o : Out) : (s.put o).rt = s.rt := rfl
@[simp] theorem State.put_tp (o : Out) : (s.put o).tp = s.tp := rfl
@[simp] theorem State.put_rs (o : Out) : (s.put o).rs = s.rs := rfl
@[simp] theorem State.put_ml (o : Out) : (s.put o).ml = s.ml := rfl
@[simp] theorem State.put_mn (o : Out) : (s.put o).mn = s.mn := rfl
@[simp] theorem State.put_ms (o : Out) : (s.put o).ms = s.ms := rfl
@[simp] theorem State.put_kv (o : Out) : (s.put o).kv = s.kv := rfl
@[simp] theorem State.put_lh (o : Out) : (s.put o).lh = s.lh := rfl
@[simp] theorem State.put_wl (o : Out) : (s.put o).wl = s.wl := rfl
@[simp] theorem State.put_pt (o : Out) : (s.put o).pt = s.pt := rfl
@[simp] theorem State.put_sr (o : Out) : (s.put o).sr = s.sr := rfl
@[simp] theorem State.put_qm (o : Out) : (s.put o).qm = s.qm := rfl
@[simp] theorem State.put_tw (o : Out) : (s.put o).tw = s.tw := rfl
@[simp] theorem State.put_up (o : Out) : (s.put o).up = s.up := rfl
@[simp] theorem State.put_dk (o : Out) : (s.put o).dk = s.dk := rfl
@[simp] theorem State.put_fl (o : Out) : (s.put o).fl = s.fl := rfl
@[simp] theorem State.put_pn (o : Out) : (s.put o).pn = s.pn := rfl
@[simp] theorem State.put_nv (o : Out) : (s.put o).nv = s.nv := rfl

/-! ## `State.event` -/

@[simp] theorem State.event_now (ty : Nat) (b : Bytes) : (s.event ty b).now = s.now := rfl
@[simp] theorem State.event_pending (ty : Nat) (b : Bytes) : (s.event ty b).pending = s.pending := rfl
@[simp] theorem State.event_free (ty : Nat) (b : Bytes) : (s.event ty b).free = s.free := rfl
@[simp] theorem State.event_pw (ty : Nat) (b : Bytes) : (s.event ty b).pw = s.pw := rfl
@[simp] theorem State.event_ck (ty : Nat) (b : Bytes) : (s.event ty b).ck = s.ck := rfl
@[simp] theorem State.event_rt (ty : Nat) (b : Bytes) : (s.event ty b).rt = s.rt := rfl
@[simp] theorem State.event_tp (ty : Nat) (b : Bytes) : (s.event ty b).tp = s.tp := rfl
@[simp] theorem State.event_rs (ty : Nat) (b : Bytes) : (s.event ty b).rs = s.rs := rfl
@[simp] theorem State.event_ml (ty : Nat) (b : Bytes) : (s.event ty b).ml = s.ml := rfl
@[simp] theorem State.event_mn (ty : Nat) (b : Bytes) : (s.event ty b).mn = s.mn := rfl
@[simp] theorem State.event_ms (ty : Nat) (b : Bytes) : (s.event ty b).ms = s.ms := rfl
@[simp] theorem State.event_kv (ty : Nat) (b : Bytes) : (s.event ty b).kv = s.kv := rfl
@[simp] theorem State.event_lh (ty : Nat) (b : Bytes) : (s.event ty b).lh = s.lh := rfl
@[simp] theorem State.event_wl (ty : Nat) (b : Bytes) : (s.event ty b).wl = s.wl := rfl
@[simp] theorem State.event_pt (ty : Nat) (b : Bytes) : (s.event ty b).pt = s.pt := rfl
@[simp] theorem State.event_sr (ty : Nat) (b : Bytes) : (s.event ty b).sr = s.sr := rfl
@[simp] theorem State.event_qm (ty : Nat) (b : Bytes) : (s.event ty b).qm = s.qm := rfl
@[simp] theorem State.event_tw (ty : Nat) (b : Bytes) : (s.event ty b).tw = s.tw := rfl
@[simp] theorem State.event_up (ty : Nat) (b : Bytes) : (s.event ty b).up = s.up := rfl
@[simp] theorem State.event_dk (ty : Nat) (b : Bytes) : (s.event ty b).dk = s.dk := rfl
@[simp] theorem State.event_fl (ty : Nat) (b : Bytes) : (s.event ty b).fl = s.fl := rfl
@[simp] theorem State.event_pn (ty : Nat) (b : Bytes) : (s.event ty b).pn = s.pn := rfl
@[simp] theorem State.event_nv (ty : Nat) (b : Bytes) : (s.event ty b).nv = s.nv := rfl

/-! ## `State.drainEvents` -/

@[simp] theorem State.drainEvents_now : (s.drainEvents).now = s.now := rfl
@[simp] theorem State.drainEvents_pending : (s.drainEvents).pending = s.pending := rfl
@[simp] theorem State.drainEvents_free : (s.drainEvents).free = s.free := rfl
@[simp] theorem State.drainEvents_pw : (s.drainEvents).pw = s.pw := rfl
@[simp] theorem State.drainEvents_ck : (s.drainEvents).ck = s.ck := rfl
@[simp] theorem State.drainEvents_rt : (s.drainEvents).rt = s.rt := rfl
@[simp] theorem State.drainEvents_tp : (s.drainEvents).tp = s.tp := rfl
@[simp] theorem State.drainEvents_rs : (s.drainEvents).rs = s.rs := rfl
@[simp] theorem State.drainEvents_ml : (s.drainEvents).ml = s.ml := rfl
@[simp] theorem State.drainEvents_mn : (s.drainEvents).mn = s.mn := rfl
@[simp] theorem State.drainEvents_ms : (s.drainEvents).ms = s.ms := rfl
@[simp] theorem State.drainEvents_kv : (s.drainEvents).kv = s.kv := rfl
@[simp] theorem State.drainEvents_lh : (s.drainEvents).lh = s.lh := rfl
@[simp] theorem State.drainEvents_wl : (s.drainEvents).wl = s.wl := rfl
@[simp] theorem State.drainEvents_pt : (s.drainEvents).pt = s.pt := rfl
@[simp] theorem State.drainEvents_sr : (s.drainEvents).sr = s.sr := rfl
@[simp] theorem State.drainEvents_qm : (s.drainEvents).qm = s.qm := rfl
@[simp] theorem State.drainEvents_tw : (s.drainEvents).tw = s.tw := rfl
@[simp] theorem State.drainEvents_up : (s.drainEvents).up = s.up := rfl
@[simp] theorem State.drainEvents_dk : (s.drainEvents).dk = s.dk := rfl
@[simp] theorem State.drainEvents_fl : (s.drainEvents).fl = s.fl := rfl
@[simp] theorem State.drainEvents_pn : (s.drainEvents).pn = s.pn := rfl
@[simp] theorem State.drainEvents_nv : (s.drainEvents).nv = s.nv := rfl

/-! ## `State.complete` -/

@[simp] theorem State.complete_now (c : Cpl) : (s.complete c).now = s.now := rfl
@[simp] theorem State.complete_pending (c : Cpl) : (s.complete c).pending = s.pending := rfl
@[simp] theorem State.complete_free (c : Cpl) : (s.complete c).free = s.free := rfl
@[simp] theorem State.complete_pw (c : Cpl) : (s.complete c).pw = s.pw := rfl
@[simp] theorem State.complete_ck (c : Cpl) : (s.complete c).ck = s.ck := rfl
@[simp] theorem State.complete_rt (c : Cpl) : (s.complete c).rt = s.rt := rfl
@[simp] theorem State.complete_tp (c : Cpl) : (s.complete c).tp = s.tp := rfl
@[simp] theorem State.complete_rs (c : Cpl) : (s.complete c).rs = s.rs := rfl
@[simp] theorem State.complete_ml (c : Cpl) : (s.complete c).ml = s.ml := rfl
@[simp] theorem State.complete_mn (c : Cpl) : (s.complete c).mn = s.mn := rfl
@[simp] theorem State.complete_ms (c : Cpl) : (s.complete c).ms = s.ms := rfl
@[simp] theorem State.complete_kv (c : Cpl) : (s.complete c).kv = s.kv := rfl
@[simp] theorem State.complete_lh (c : Cpl) : (s.complete c).lh = s.lh := rfl
@[simp] theorem State.complete_wl (c : Cpl) : (s.complete c).wl = s.wl := rfl
@[simp] theorem State.complete_pt (c : Cpl) : (s.complete c).pt = s.pt := rfl
@[simp] theorem State.complete_sr (c : Cpl) : (s.complete c).sr = s.sr := rfl
@[simp] theorem State.complete_qm (c : Cpl) : (s.complete c).qm = s.qm := rfl
@[simp] theorem State.complete_tw (c : Cpl) : (s.complete c).tw = s.tw := rfl
@[simp] theorem State.complete_up (c : Cpl) : (s.complete c).up = s.up := rfl
@[simp] theorem State.complete_dk (c : Cpl) : (s.complete c).dk = s.dk := rfl
@[simp] theorem State.complete_fl (c : Cpl) : (s.complete c).fl = s.fl := rfl
@[simp] theorem State.complete_pn (c : Cpl) : (s.complete c).pn = s.pn := rfl
@[simp] theorem State.complete_nv (c : Cpl) : (s.complete c).nv = s.nv := rfl

/-! ## `State.useFree` -/

@[simp] theorem State.useFree_now : (s.useFree).now = s.now := rfl
@[simp] theorem State.useFree_pending : (s.useFree).pending = s.pending := rfl
@[simp] theorem State.useFree_pw : (s.useFree).pw = s.pw := rfl
@[simp] theorem State.useFree_ck : (s.useFree).ck = s.ck := rfl
@[simp] theorem State.useFree_rt : (s.useFree).rt = s.rt := rfl
@[simp] theorem State.useFree_tp : (s.useFree).tp = s.tp := rfl
@[simp] theorem State.useFree_rs : (s.useFree).rs = s.rs := rfl
@[simp] theorem State.useFree_ml : (s.useFree).ml = s.ml := rfl
@[simp] theorem State.useFree_mn : (s.useFree).mn = s.mn := rfl
@[simp] theorem State.useFree_ms : (s.useFree).ms = s.ms := rfl
@[simp] theorem State.useFree_kv : (s.useFree).kv = s.kv := rfl
@[simp] theorem State.useFree_lh : (s.useFree).lh = s.lh := rfl
@[simp] theorem State.useFree_wl : (s.useFree).wl = s.wl := rfl
@[simp] theorem State.useFree_pt : (s.useFree).pt = s.pt := rfl
@[simp] theorem State.useFree_sr : (s.useFree).sr = s.sr := rfl
@[simp] theorem State.useFree_qm : (s.useFree).qm = s.qm := rfl
@[simp] theorem State.useFree_tw : (s.useFree).tw = s.tw := rfl
@[simp] theorem State.useFree_up : (s.useFree).up = s.up := rfl
@[simp] theorem State.useFree_dk : (s.useFree).dk = s.dk := rfl
@[simp] theorem State.useFree_fl : (s.useFree).fl = s.fl := rfl
@[simp] theorem State.useFree_pn : (s.useFree).pn = s.pn := rfl
@[simp] theorem State.useFree_nv : (s.useFree).nv = s.nv := rfl
@[simp] theorem State.useFree_io : (s.useFree).io = s.io := rfl

/-! ## `State.log` -/

@[simp] theorem State.log_now (k r d : Nat) : (s.log k r d).now = s.now := rfl
@[simp] theorem State.log_pending (k r d : Nat) : (s.log k r d).pending = s.pending := rfl
@[simp] theorem State.log_free (k r d : Nat) : (s.log k r d).free = s.free := rfl
@[simp] theorem State.log_pw (k r d : Nat) : (s.log k r d).pw = s.pw := rfl
@[simp] theorem State.log_ck (k r d : Nat) : (s.log k r d).ck = s.ck := rfl
@[simp] theorem State.log_rt (k r d : Nat) : (s.log k r d).rt = s.rt := rfl
@[simp] theorem State.log_tp (k r d : Nat) : (s.log k r d).tp = s.tp := rfl
@[simp] theorem State.log_rs (k r d : Nat) : (s.log k r d).rs = s.rs := rfl
@[simp] theorem State.log_ml (k r d : Nat) : (s.log k r d).ml = s.ml := rfl
@[simp] theorem State.log_mn (k r d : Nat) : (s.log k r d).mn = s.mn := rfl
@[simp] theorem State.log_ms (k r d : Nat) : (s.log k r d).ms = s.ms := rfl
@[simp] theorem State.log_kv (k r d : Nat) : (s.log k r d).kv = s.kv := rfl
@[simp] theorem State.log_lh (k r d : Nat) : (s.log k r d).lh = s.lh := rfl
@[simp] theorem State.log_wl (k r d : Nat) : (s.log k r d).wl = s.wl := rfl
@[simp] theorem State.log_pt (k r d : Nat) : (s.log k r d).pt = s.pt := rfl
@[simp] theorem State.log_sr (k r d : Nat) : (s.log k r d).sr = s.sr := rfl
@[simp] theorem State.log_qm (k r d : Nat) : (s.log k r d).qm = s.qm := rfl
@[simp] theorem State.log_tw (k r d : Nat) : (s.log k r d).tw = s.tw := rfl
@[simp] theorem State.log_up (k r d : Nat) : (s.log k r d).up = s.up := rfl
@[simp] theorem State.log_dk (k r d : Nat) : (s.log k r d).dk = s.dk := rfl
@[simp] theorem State.log_fl (k r d : Nat) : (s.log k r d).fl = s.fl := rfl
@[simp] theorem State.log_pn (k r d : Nat) : (s.log k r d).pn = s.pn := rfl
@[simp] theorem State.log_io (k r d : Nat) : (s.log k r d).io = s.io := rfl

/-! ## `State.faultEv` -/

@[simp] theorem State.faultEv_now (c r d : Nat) : (s.faultEv c r d).now = s.now := rfl
@[simp] theorem State.faultEv_pending (c r d : Nat) : (s.faultEv c r d).pending = s.pending := rfl
@[simp] theorem State.faultEv_free (c r d : Nat) : (s.faultEv c r d).free = s.free := rfl
@[simp] theorem State.faultEv_pw (c r d : Nat) : (s.faultEv c r d).pw = s.pw := rfl
@[simp] theorem State.faultEv_ck (c r d : Nat) : (s.faultEv c r d).ck = s.ck := rfl
@[simp] theorem State.faultEv_rt (c r d : Nat) : (s.faultEv c r d).rt = s.rt := rfl
@[simp] theorem State.faultEv_tp (c r d : Nat) : (s.faultEv c r d).tp = s.tp := rfl
@[simp] theorem State.faultEv_rs (c r d : Nat) : (s.faultEv c r d).rs = s.rs := rfl
@[simp] theorem State.faultEv_ml (c r d : Nat) : (s.faultEv c r d).ml = s.ml := rfl
@[simp] theorem State.faultEv_mn (c r d : Nat) : (s.faultEv c r d).mn = s.mn := rfl
@[simp] theorem State.faultEv_ms (c r d : Nat) : (s.faultEv c r d).ms = s.ms := rfl
@[simp] theorem State.faultEv_kv (c r d : Nat) : (s.faultEv c r d).kv = s.kv := rfl
@[simp] theorem State.faultEv_lh (c r d : Nat) : (s.faultEv c r d).lh = s.lh := rfl
@[simp] theorem State.faultEv_wl (c r d : Nat) : (s.faultEv c r d).wl = s.wl := rfl
@[simp] theorem State.faultEv_pt (c r d : Nat) : (s.faultEv c r d).pt = s.pt := rfl
@[simp] theorem State.faultEv_sr (c r d : Nat) : (s.faultEv c r d).sr = s.sr := rfl
@[simp] theorem State.faultEv_qm (c r d : Nat) : (s.faultEv c r d).qm = s.qm := rfl
@[simp] theorem State.faultEv_tw (c r d : Nat) : (s.faultEv c r d).tw = s.tw := rfl
@[simp] theorem State.faultEv_up (c r d : Nat) : (s.faultEv c r d).up = s.up := rfl
@[simp] theorem State.faultEv_dk (c r d : Nat) : (s.faultEv c r d).dk = s.dk := rfl
@[simp] theorem State.faultEv_fl (c r d : Nat) : (s.faultEv c r d).fl = s.fl := rfl
@[simp] theorem State.faultEv_pn (c r d : Nat) : (s.faultEv c r d).pn = s.pn := rfl

/-! ## `State.mramFault` -/

@[simp] theorem State.mramFault_now (r d : Nat) : (s.mramFault r d).now = s.now := rfl
@[simp] theorem State.mramFault_pending (r d : Nat) : (s.mramFault r d).pending = s.pending := rfl
@[simp] theorem State.mramFault_free (r d : Nat) : (s.mramFault r d).free = s.free := rfl
@[simp] theorem State.mramFault_pw (r d : Nat) : (s.mramFault r d).pw = s.pw := rfl
@[simp] theorem State.mramFault_ck (r d : Nat) : (s.mramFault r d).ck = s.ck := rfl
@[simp] theorem State.mramFault_rt (r d : Nat) : (s.mramFault r d).rt = s.rt := rfl
@[simp] theorem State.mramFault_tp (r d : Nat) : (s.mramFault r d).tp = s.tp := rfl
@[simp] theorem State.mramFault_rs (r d : Nat) : (s.mramFault r d).rs = s.rs := rfl
@[simp] theorem State.mramFault_ml (r d : Nat) : (s.mramFault r d).ml = s.ml := rfl
@[simp] theorem State.mramFault_mn (r d : Nat) : (s.mramFault r d).mn = s.mn := rfl
@[simp] theorem State.mramFault_ms (r d : Nat) : (s.mramFault r d).ms = s.ms := rfl
@[simp] theorem State.mramFault_kv (r d : Nat) : (s.mramFault r d).kv = s.kv := rfl
@[simp] theorem State.mramFault_lh (r d : Nat) : (s.mramFault r d).lh = s.lh := rfl
@[simp] theorem State.mramFault_wl (r d : Nat) : (s.mramFault r d).wl = s.wl := rfl
@[simp] theorem State.mramFault_pt (r d : Nat) : (s.mramFault r d).pt = s.pt := rfl
@[simp] theorem State.mramFault_sr (r d : Nat) : (s.mramFault r d).sr = s.sr := rfl
@[simp] theorem State.mramFault_qm (r d : Nat) : (s.mramFault r d).qm = s.qm := rfl
@[simp] theorem State.mramFault_tw (r d : Nat) : (s.mramFault r d).tw = s.tw := rfl
@[simp] theorem State.mramFault_up (r d : Nat) : (s.mramFault r d).up = s.up := rfl
@[simp] theorem State.mramFault_dk (r d : Nat) : (s.mramFault r d).dk = s.dk := rfl
@[simp] theorem State.mramFault_fl (r d : Nat) : (s.mramFault r d).fl = s.fl := rfl
@[simp] theorem State.mramFault_pn (r d : Nat) : (s.mramFault r d).pn = s.pn := rfl

@[simp] theorem State.at_now (t : Nat) : (s.at t).now = max s.now t := rfl

end Sys2Proof.Machine
end

