-- ==== Sys2Proof/Laws/Tbl.lean ====
section
/-!
SUPPORT. Sys2Proof/Laws/Tbl.lean: what a read of a table gives after each update, and that every update keeps the
canonical form (keys strictly rising).
-/

namespace Sys2Proof.Machine

variable {α : Type}

@[simp] theorem Tbl.get?_nil (n : Nat) : Tbl.get? ([] : Tbl α) n = none := rfl

@[simp] theorem Tbl.get?_put_self (t : Tbl α) (n : Nat) (v : α) : Tbl.get? (Tbl.put t n v) n = some v := by
  induction t with
  | nil => simp [Tbl.put, Tbl.get?]
  | cons p t ih =>
    obtain ⟨k, w⟩ := p
    unfold Tbl.put
    split
    · simp [Tbl.get?]
    · split
      · simp [Tbl.get?]
      · rename_i h1 h2
        have hk : k ≠ n := fun h => h2 h.symm
        simp [Tbl.get?, hk, ih]

theorem Tbl.get?_put_ne (t : Tbl α) {n m : Nat} (v : α) (h : n ≠ m) :
    Tbl.get? (Tbl.put t n v) m = Tbl.get? t m := by
  induction t with
  | nil => simp [Tbl.put, Tbl.get?, h]
  | cons p t ih =>
    obtain ⟨k, w⟩ := p
    unfold Tbl.put
    split
    · simp [Tbl.get?, h]
    · split
      · rename_i h1 h2
        subst h2
        simp [Tbl.get?, h]
      · simp [Tbl.get?, ih]

@[simp] theorem Tbl.get?_del_self (t : Tbl α) (n : Nat) : Tbl.get? (Tbl.del t n) n = none := by
  induction t with
  | nil => rfl
  | cons p t ih =>
    obtain ⟨k, w⟩ := p
    by_cases hk : k = n
    · simpa [Tbl.del, hk] using ih
    · have : Tbl.del ((k, w) :: t) n = (k, w) :: Tbl.del t n := by simp [Tbl.del, hk]
      rw [this]
      simp [Tbl.get?, hk, ih]

theorem Tbl.get?_del_ne (t : Tbl α) {n m : Nat} (h : n ≠ m) : Tbl.get? (Tbl.del t n) m = Tbl.get? t m := by
  induction t with
  | nil => rfl
  | cons p t ih =>
    obtain ⟨k, w⟩ := p
    by_cases hk : k = n
    · have : Tbl.del ((k, w) :: t) n = Tbl.del t n := by simp [Tbl.del, hk]
      rw [this, ih]
      have hm : k ≠ m := hk ▸ h
      simp [Tbl.get?, hm]
    · have : Tbl.del ((k, w) :: t) n = (k, w) :: Tbl.del t n := by simp [Tbl.del, hk]
      rw [this]
      simp [Tbl.get?, ih]

@[simp] theorem Tbl.getD_put_self (t : Tbl α) (n : Nat) (v d : α) : Tbl.getD (Tbl.put t n v) n d = v := by
  simp [Tbl.getD]

theorem Tbl.getD_put_ne (t : Tbl α) {n m : Nat} (v d : α) (h : n ≠ m) :
    Tbl.getD (Tbl.put t n v) m d = Tbl.getD t m d := by
  simp [Tbl.getD, Tbl.get?_put_ne t v h]

@[simp] theorem Tbl.getD_del_self (t : Tbl α) (n : Nat) (d : α) : Tbl.getD (Tbl.del t n) n d = d := by
  simp [Tbl.getD]

theorem Tbl.getD_del_ne (t : Tbl α) {n m : Nat} (d : α) (h : n ≠ m) :
    Tbl.getD (Tbl.del t n) m d = Tbl.getD t m d := by
  simp [Tbl.getD, Tbl.get?_del_ne t h]

@[simp] theorem Tbl.getD_putDef_self [DecidableEq α] (t : Tbl α) (n : Nat) (v d : α) :
    Tbl.getD (Tbl.putDef t n v d) n d = v := by
  unfold Tbl.putDef
  split <;> simp_all

theorem Tbl.getD_putDef_ne [DecidableEq α] (t : Tbl α) {n m : Nat} (v d e : α) (h : n ≠ m) :
    Tbl.getD (Tbl.putDef t n v d) m e = Tbl.getD t m e := by
  unfold Tbl.putDef
  split
  · exact Tbl.getD_del_ne t e h
  · exact Tbl.getD_put_ne t v e h

/-! ## The canonical form -/

theorem Tbl.sorted_cons (p : Nat × α) (t : Tbl α) :
    Tbl.sorted (p :: t) = (t.all (fun q => decide (p.1 < q.1)) && Tbl.sorted t) := rfl

theorem Tbl.all_put (t : Tbl α) (n b : Nat) (v : α) (hb : b < n) (h : t.all (fun q => decide (b < q.1)) = true) :
    (Tbl.put t n v).all (fun q => decide (b < q.1)) = true := by
  induction t with
  | nil => simp [Tbl.put, hb]
  | cons p t ih =>
    obtain ⟨k, w⟩ := p
    simp only [List.all_cons, Bool.and_eq_true, decide_eq_true_eq] at h
    unfold Tbl.put
    split
    · simp only [List.all_cons, Bool.and_eq_true, decide_eq_true_eq]
      exact ⟨hb, h.1, h.2⟩
    · split
      · simp only [List.all_cons, Bool.and_eq_true, decide_eq_true_eq]
        exact ⟨hb, h.2⟩
      · simp only [List.all_cons, Bool.and_eq_true, decide_eq_true_eq]
        exact ⟨h.1, ih h.2⟩

/-- Setting a value keeps the canonical form. -/
theorem Tbl.sorted_put (t : Tbl α) (n : Nat) (v : α) (h : Tbl.sorted t = true) : Tbl.sorted (Tbl.put t n v) = true := by
  induction t with
  | nil => rfl
  | cons p t ih =>
    obtain ⟨k, w⟩ := p
    rw [Tbl.sorted_cons, Bool.and_eq_true] at h
    unfold Tbl.put
    split
    · rename_i hn
      rw [Tbl.sorted_cons, Bool.and_eq_true, Tbl.sorted_cons, Bool.and_eq_true]
      refine ⟨?_, h⟩
      simp only [List.all_cons, Bool.and_eq_true, decide_eq_true_eq]
      refine ⟨hn, ?_⟩
      have h1 := h.1
      rw [List.all_eq_true] at h1 ⊢
      intro q hq
      have := h1 q hq
      simp only [decide_eq_true_eq] at this ⊢
      omega
    · split
      · rename_i hn
        rw [Tbl.sorted_cons, Bool.and_eq_true]
        exact ⟨by simpa [hn] using h.1, h.2⟩
      · rename_i h1 h2
        rw [Tbl.sorted_cons, Bool.and_eq_true]
        exact ⟨Tbl.all_put t n k v (by omega) h.1, ih h.2⟩

/-- Removing a key keeps the canonical form. -/
theorem Tbl.sorted_del (t : Tbl α) (n : Nat) (h : Tbl.sorted t = true) : Tbl.sorted (Tbl.del t n) = true := by
  induction t with
  | nil => rfl
  | cons p t ih =>
    rw [Tbl.sorted_cons, Bool.and_eq_true] at h
    by_cases hp : p.1 = n
    · have : Tbl.del (p :: t) n = Tbl.del t n := by simp [Tbl.del, hp]
      rw [this]
      exact ih h.2
    · have : Tbl.del (p :: t) n = p :: Tbl.del t n := by simp [Tbl.del, hp]
      rw [this, Tbl.sorted_cons, Bool.and_eq_true]
      refine ⟨?_, ih h.2⟩
      have h1 := h.1
      rw [List.all_eq_true] at h1 ⊢
      intro q hq
      exact h1 q (List.mem_filter.mp hq).1

theorem Tbl.sorted_putDef [DecidableEq α] (t : Tbl α) (n : Nat) (v d : α) (h : Tbl.sorted t = true) :
    Tbl.sorted (Tbl.putDef t n v d) = true := by
  unfold Tbl.putDef
  split
  · exact Tbl.sorted_del t n h
  · exact Tbl.sorted_put t n v h

theorem Tbl.sorted_upd (t : Tbl α) (n : Nat) (f : α → α) (h : Tbl.sorted t = true) :
    Tbl.sorted (Tbl.upd t n f) = true := by
  unfold Tbl.upd
  split
  · exact Tbl.sorted_put t n _ h
  · exact h

end Sys2Proof.Machine
end

