-- ==== Sys2Proof/Laws/Regs.lean ====
section
/-!
SUPPORT. Sys2Proof/Laws/Regs.lean: what a field of a register reads after a field, a counter or a register is
written.
-/

namespace Sys2Proof.Machine

/-! ## Bits of a word -/

theorem testBit_bitsN (n hi lo i : Nat) :
    (bitsN n hi lo).testBit i = (decide (i < hi + 1 - lo) && n.testBit (lo + i)) := by
  unfold bitsN
  rw [Nat.testBit_mod_two_pow, Nat.testBit_div_two_pow, Nat.add_comm i lo]

theorem getLsbD_setBits (w : Word) (hi lo v j : Nat) (hj : j < 32) :
    (setBits w hi lo v).getLsbD j =
      if lo ≤ j ∧ j < lo + (hi + 1 - lo) then v.testBit (j - lo) else w.getLsbD j := by
  have hm : ((2 ^ (hi + 1 - lo) - 1) * 2 ^ lo).testBit j = (decide (lo ≤ j) && decide (j - lo < hi + 1 - lo)) := by
    rw [Nat.testBit_mul_two_pow, Nat.testBit_two_pow_sub_one]
  have hv : (v % 2 ^ (hi + 1 - lo) * 2 ^ lo).testBit j =
      (decide (lo ≤ j) && (decide (j - lo < hi + 1 - lo) && v.testBit (j - lo))) := by
    rw [Nat.testBit_mul_two_pow, Nat.testBit_mod_two_pow]
  unfold setBits
  simp only [BitVec.getLsbD_or, BitVec.getLsbD_and, BitVec.getLsbD_not, BitVec.getLsbD_ofNat, hm, hv, hj]
  by_cases h1 : lo ≤ j
  · by_cases h2 : j - lo < hi + 1 - lo
    · have h3 : j < lo + (hi + 1 - lo) := by omega
      simp [h1, h2, h3]
    · have h3 : ¬ j < lo + (hi + 1 - lo) := by omega
      simp [h1, h2, h3]
  · simp [h1]

/-- A field reads the value written to it, modulo its width. -/
theorem Fld.of_setBits_self (f : Fld) (w : Word) (v : Nat) (h : f.hi < 32) :
    f.of (setBits w f.hi f.lo v) = v % 2 ^ f.width := by
  apply Nat.eq_of_testBit_eq
  intro i
  rw [Fld.of, testBit_bitsN, Nat.testBit_mod_two_pow, Fld.width]
  by_cases hi : i < f.hi + 1 - f.lo
  · have hj : f.lo + i < 32 := by omega
    have := getLsbD_setBits w f.hi f.lo v (f.lo + i) hj
    rw [BitVec.getLsbD] at this
    rw [this]
    have : f.lo ≤ f.lo + i ∧ f.lo + i < f.lo + (f.hi + 1 - f.lo) := by omega
    simp [hi, this]
  · simp [hi]

/-- A field of a word is unchanged by a write to another field of the word. -/
theorem Fld.of_setBits_ne (f g : Fld) (w : Word) (v : Nat) (h : f.hi < 32) (d : f.hi < g.lo ∨ g.hi < f.lo) :
    f.of (setBits w g.hi g.lo v) = f.of w := by
  apply Nat.eq_of_testBit_eq
  intro i
  rw [Fld.of, Fld.of, testBit_bitsN, testBit_bitsN]
  by_cases hi : i < f.hi + 1 - f.lo
  · have hj : f.lo + i < 32 := by omega
    have := getLsbD_setBits w g.hi g.lo v (f.lo + i) hj
    rw [BitVec.getLsbD, BitVec.getLsbD] at this
    rw [this]
    have : ¬ (g.lo ≤ f.lo + i ∧ f.lo + i < g.lo + (g.hi + 1 - g.lo)) := by omega
    simp [this]
  · simp [hi]

/-! ## Registers -/

@[simp] theorem Io.word_setWord_self (io : Io) (off : Nat) (w : Word) : (io.setWord off w).word off = w := by
  simp [Io.word, Io.setWord]

theorem Io.word_setWord_ne (io : Io) {off m : Nat} (w : Word) (h : off ≠ m) : (io.setWord off w).word m = io.word m := by
  simp [Io.word, Io.setWord, Tbl.getD_putDef_ne _ _ _ _ h]

@[simp] theorem Io.setWord_eff (io : Io) (off : Nat) (w : Word) : (io.setWord off w).eff = io.eff := rfl
@[simp] theorem Io.setWord_latch (io : Io) (off : Nat) (w : Word) : (io.setWord off w).latch = io.latch := rfl
@[simp] theorem Io.setWord_heldLo (io : Io) (off : Nat) (w : Word) : (io.setWord off w).heldLo = io.heldLo := rfl
@[simp] theorem Io.setWord_hf (io : Io) (off : Nat) (w : Word) : (io.setWord off w).hf = io.hf := rfl
@[simp] theorem Io.setWord_out (io : Io) (off : Nat) (w : Word) : (io.setWord off w).out = io.out := rfl

theorem Io.fld_setFld_self (io : Io) (f : Fld) (v : Nat) (h : f.hi < 32) : (io.setFld f v).fld f = v % 2 ^ f.width := by
  simp [Io.fld, Io.setFld, Fld.of_setBits_self f _ v h]

theorem Io.fld_setFld_off (io : Io) (f g : Fld) (v : Nat) (h : g.off ≠ f.off) : (io.setFld g v).fld f = io.fld f := by
  simp [Io.fld, Io.setFld, Io.word_setWord_ne io _ h]

theorem Io.fld_setFld_bits (io : Io) (f g : Fld) (v : Nat) (h : f.hi < 32) (d : f.hi < g.lo ∨ g.hi < f.lo) :
    (io.setFld g v).fld f = io.fld f := by
  by_cases ho : g.off = f.off
  · simp [Io.fld, Io.setFld, ho, Fld.of_setBits_ne f g _ v h d]
  · exact Io.fld_setFld_off io f g v ho

theorem State.fld_setFld_self (s : State) (f : Fld) (v : Nat) (h : f.hi < 32) :
    (s.setFld f v).fld f = v % 2 ^ f.width := Io.fld_setFld_self s.io f v h

theorem State.fld_setFld_off (s : State) (f g : Fld) (v : Nat) (h : g.off ≠ f.off) :
    (s.setFld g v).fld f = s.fld f := Io.fld_setFld_off s.io f g v h

theorem State.fld_setFld_bits (s : State) (f g : Fld) (v : Nat) (h : f.hi < 32) (d : f.hi < g.lo ∨ g.hi < f.lo) :
    (s.setFld g v).fld f = s.fld f := Io.fld_setFld_bits s.io f g v h d

theorem State.word_setFld_off (s : State) (g : Fld) (v : Nat) {m : Nat} (h : g.off ≠ m) :
    (s.setFld g v).word m = s.word m := Io.word_setWord_ne s.io _ h

theorem State.word_setWord_ne (s : State) {off m : Nat} (w : Word) (h : off ≠ m) :
    (s.setWord off w).word m = s.word m := Io.word_setWord_ne s.io w h

@[simp] theorem State.word_setWord_self (s : State) (off : Nat) (w : Word) : (s.setWord off w).word off = w :=
  Io.word_setWord_self s.io off w

/-- A counter that saturates. -/
theorem State.fld_count_self (s : State) (f : Fld) (n : Nat) (h : f.hi < 32) :
    (s.count f n).fld f = min (s.fld f + n) (2 ^ f.width - 1) := by
  have : (s.count f n).fld f = (s.setFld f (min (s.fld f + n) (2 ^ f.width - 1))).fld f := rfl
  rw [this, State.fld_setFld_self s f _ h, Nat.mod_eq_of_lt]
  have := Nat.two_pow_pos f.width
  omega

theorem State.fld_count_off (s : State) (f g : Fld) (n : Nat) (h : g.off ≠ f.off) : (s.count g n).fld f = s.fld f :=
  State.fld_setFld_off s f g _ h

theorem State.word_count_off (s : State) (g : Fld) (n : Nat) {m : Nat} (h : g.off ≠ m) :
    (s.count g n).word m = s.word m := State.word_setFld_off s g _ h

theorem State.fld_eq (s : State) (f : Fld) : s.fld f = f.of (s.word f.off) := rfl

@[simp] theorem State.at_word (s : State) (t off : Nat) : (s.at t).word off = s.word off := rfl
@[simp] theorem State.at_fld (s : State) (t : Nat) (f : Fld) : (s.at t).fld f = s.fld f := rfl

end Sys2Proof.Machine
end

