-- ==== Sys2Proof/Laws/Rings.lean ====
section
/-!
SUPPORT. Sys2Proof/Laws/Rings.lean: what posting a completion or an event can touch: registers of the `HIF_` block
alone, the outputs and the host interface's own state.
-/

namespace Sys2Proof.Machine

theorem Io.word_setFld_hif (io : Io) (f : Fld) (v off : Nat) (h : offHif off) (lo : 0x050000 ≤ f.off)
    (hi : f.off < 0x060000) : (io.setFld f v).word off = io.word off :=
  Io.word_setWord_ne io _ (by unfold offHif at h; omega)

@[simp] theorem Io.put_word (io : Io) (o : Out) (off : Nat) : (io.put o).word off = io.word off := rfl
@[simp] theorem Io.setEWord_word (io : Io) (e : Nat) (w : Word) (off : Nat) : (io.setEWord e w).word off = io.word off :=
  rfl

@[simp] theorem Io.latchReg_word (io : Io) (r off : Nat) : (io.latchReg r).word off = io.word off := by
  unfold Io.latchReg
  split <;> rfl

theorem Io.raiseVector_word (io : Io) (v off : Nat) (hv : v < 64) (h : offHif off) :
    (io.raiseVector v).word off = io.word off := by
  unfold Io.raiseVector
  split
  · refine Io.word_setWord_ne io _ ?_
    have : v / 32 ≤ 1 := by omega
    unfold offHif at h
    simp only [F.MSIX_PBA_pend]
    omega
  · rfl

theorem Fld.of_lt (f : Fld) (w : Word) : f.of w < 2 ^ f.width := Nat.mod_lt _ (Nat.two_pow_pos _)

theorem Io.ringMessage_word (io : Io) (n off : Nat) (h : offHif off) : (io.ringMessage n).word off = io.word off := by
  unfold Io.ringMessage
  refine (Io.raiseVector_word _ _ off ?_ h).trans (Io.latchReg_word io _ off)
  exact Fld.of_lt (F.HIF_CQ_CFG_vector n) _

theorem Io.coalesce_word (io : Io) (now n off : Nat) (h : offHif off) : (io.coalesce now n).word off = io.word off := by
  unfold Io.coalesce
  dsimp only
  split
  · rw [Io.ringMessage_word _ _ _ h, Io.latchReg_word]
  · exact Io.latchReg_word io _ off

theorem Io.writeEntry_word (io : Io) (now n : Nat) (b : Bytes) (off : Nat) (hn : n < 64) (h : offHif off) :
    (io.writeEntry now n b).word off = io.word off := by
  have h1 : 0x050000 ≤ (F.HIF_CQ_STAT_tail n).off ∧ (F.HIF_CQ_STAT_tail n).off < 0x060000 := by
    simp only [F.HIF_CQ_STAT_tail]; omega
  have h2 : 0x050000 ≤ (F.HIF_CQ_ERR_phase n).off ∧ (F.HIF_CQ_ERR_phase n).off < 0x060000 := by
    simp only [F.HIF_CQ_ERR_phase]; omega
  unfold Io.writeEntry
  dsimp only
  rw [Io.coalesce_word _ _ _ _ h]
  split
  · rw [Io.word_setFld_hif _ _ _ _ h h2.1 h2.2, Io.word_setFld_hif _ _ _ _ h h1.1 h1.2, Io.put_word]
  · rw [Io.word_setFld_hif _ _ _ _ h h1.1 h1.2, Io.put_word]

theorem Io.complete_word (io : Io) (now : Nat) (c : Cpl) (off : Nat) (h : offHif off) :
    (io.complete now c).word off = io.word off := by
  unfold Io.complete
  dsimp only
  split
  · rfl
  · split
    · exact Io.writeEntry_word io now _ _ off (Fld.of_lt (F.HIF_SQ_CFG_cq c.sq) _) h
    · rfl

theorem Io.eventRing_lt (io : Io) (n : Nat) (h : io.eventRing = some n) : n < 64 := by
  have := List.mem_of_find?_eq_some h
  simpa using this

theorem Io.drain_word (io : Io) (now : Nat) (ok : Bool) (l : List Ev) (off : Nat) (h : offHif off) :
    (io.drain now ok l).word off = io.word off := by
  induction l generalizing io with
  | nil => rfl
  | cons e es ih =>
    unfold Io.drain
    split
    · rename_i n hn
      dsimp only
      split
      · exact (ih _).trans (Io.writeEntry_word _ _ _ _ _ (Io.eventRing_lt io n hn) h)
      · rfl
    · rfl

theorem Io.event_word (io : Io) (now : Nat) (ok : Bool) (ty : Nat) (b : Bytes) (off : Nat) (h : offHif off) :
    (io.event now ok ty b).word off = io.word off := by
  unfold Io.event
  dsimp only
  split
  · exact Io.drain_word _ _ _ _ _ h
  · exact Io.word_setFld_hif _ _ _ _ h (by decide) (by decide)

/-! ## The same on states -/

theorem State.event_word (s : State) (ty : Nat) (b : Bytes) (off : Nat) (h : offHif off) :
    (s.event ty b).word off = s.word off := Io.event_word s.io s.now s.evOk ty b off h

theorem State.event_fld (s : State) (ty : Nat) (b : Bytes) (f : Fld) (h : offHif f.off) :
    (s.event ty b).fld f = s.fld f := by
  rw [State.fld_eq, State.fld_eq, State.event_word s ty b f.off h]

theorem State.drainEvents_word (s : State) (off : Nat) (h : offHif off) : s.drainEvents.word off = s.word off :=
  Io.drain_word s.io s.now s.evOk _ off h

theorem State.complete_word (s : State) (c : Cpl) (off : Nat) (h : offHif off) : (s.complete c).word off = s.word off :=
  Io.complete_word s.io s.now c off h

@[simp] theorem State.log_word (s : State) (k r d off : Nat) : (s.log k r d).word off = s.word off := rfl
@[simp] theorem State.log_fld (s : State) (k r d : Nat) (f : Fld) : (s.log k r d).fld f = s.fld f := rfl

theorem State.faultEv_word (s : State) (c r d off : Nat) (h : offHif off) : (s.faultEv c r d).word off = s.word off :=
  State.event_word (s.log c r d) _ _ off h

theorem State.faultEv_fld (s : State) (c r d : Nat) (f : Fld) (h : offHif f.off) :
    (s.faultEv c r d).fld f = s.fld f := State.event_fld (s.log c r d) _ _ f h

/-- `run` answers a next state, on which only the queue is put back. -/
theorem run_next (t : Nat) (s : State) (f : State → State) :
    run t s f = .next { f (s.at t) with pending := s.pending } := rfl

end Sys2Proof.Machine
end

