-- ==== Sys2Proof/WellFormed.lean ====
section
/-!
DEFINITION. Sys2Proof/WellFormed.lean: what the operands of a command must satisfy, where their types do not say it.
A command's meaning does not ask for it (exec answers on every operand); it names the operands the spec's tables give.
-/

namespace Sys2Proof

/-- `n` is less than `2^w`. -/
def fits (w n : Nat) : Bool := decide (n < 2 ^ w)

/-- A descriptor has 32 bytes, 24 of them its body (R467). -/
def Cmd.wf (c : Cmd) : Bool := c.body.length == 24

/-- The opcodes that name a command, in the order of R486. -/
def namedOpcodes : List Nat :=
  [0x0001, 0x0002, 0x0003, 0x0004, 0x0101, 0x0102, 0x0103, 0x0104, 0x0110, 0x0111, 0x0112, 0x0113, 0x0120,
   0x0201, 0x0202, 0x0203, 0x0204, 0x0301, 0x0302, 0x0303, 0x0304, 0x0305, 0x0306, 0x0401, 0x0402, 0x0403,
   0x0404, 0x0405, 0x0501, 0x0601, 0x0602, 0x0603, 0x0604, 0x0701, 0x0702, 0x0801, 0x0802, 0x0803, 0x0804,
   0x0805, 0x0901, 0x0A01, 0x0A02, 0x1001, 0x1002]

/-- The opcodes of the NOP row: 0x0001, and those no command has (notes/assumptions/1.md). -/
def nopOpcode (op : Nat) : Bool := fits 16 op && (op == 1 || !namedOpcodes.contains op)

/-- A carrier: one of the profiles of R152; data preambles of 64 to 1,024 bits in steps of 8 or 32 bits of a receipt
(R167). -/
def Carrier.wf (c : Carrier) : Bool :=
  decide (c.prof < 3) && (if c.receipt then c.preamble == 32 else
    decide (64 ≤ c.preamble) && decide (c.preamble ≤ 1024) && c.preamble % 8 == 0)

/-- The carriers of a transmission are 1 to 64 (R167), and its times are in order (R175). -/
def TxReq.wf (r : TxReq) : Bool :=
  decide (1 ≤ r.carriers.length) && decide (r.carriers.length ≤ 64) && r.carriers.all Carrier.wf &&
    decide (r.start ≤ r.deadline)

/-- Connection parameters within the fields of a parameter block (R231). -/
def ConnOp.wf (o : ConnOp) : Bool :=
  fits 64 o.map && fits 8 o.base && fits 8 o.inc && fits 16 o.interval && fits 8 o.latency && fits 24 o.timeout &&
    fits 40 o.anchor

/-- The PHR's length field has 11 bits (R155). -/
def Phr.wf (p : Phr) : Bool := fits 11 p.len

/-- Link addresses have 48 bits; a key ID 2 bits in a data frame, a PN 48 (R358). -/
def WRx.wf (x : WRx) : Bool := fits 48 x.src && fits 48 x.dst && (x.keyId.all (fits 2)) && fits 48 x.pn

/-- As `WRx.wf`; key IDs of management frames have 3 bits. -/
def WMgmt.wf (m : WMgmt) : Bool :=
  fits 48 m.src && m.prot.all fun p => fits 3 p.1 && fits 48 p.2.1

/-- As `WRx.wf`; an agreement's wake duration lies within its interval (R354). -/
def TwtReq.wf (q : TwtReq) : Bool := fits 48 q.src && decide (q.dur ≤ q.interval)

/-- The predicted losses name clients 0 to 511. -/
def Txop.wf (x : Txop) : Bool := x.loss.all fun p => decide (p.1 < 512)

/-- A slot record's entry: 24-bit address, 40-bit counter, 8-bit epoch (R502, R274). -/
def TRec.wf (r : TRec) : Bool := fits 24 r.addr && fits 40 r.ctr && fits 8 r.epoch

/-- A twin link message carries 64-bit session and sequence numbers (R501). -/
def THdr.wf (m : THdr) : Bool := fits 64 m.session && fits 64 m.seq

/-- The fields of a failure record (R540). -/
def DskHit.wf (h : DskHit) : Bool :=
  fits 12 h.inst && decide (1 ≤ h.kind) && decide (h.kind ≤ 7) && fits 32 h.addr && fits 8 h.bit

/-- DRAM is at most 8 GiB (spec/01_architecture.md, after R35). -/
def ErrAt.wf : ErrAt → Bool
  | .dram a => fits 33 a
  | _ => true

/-- A negotiated PCIe link: 2.5 to 16 GT/s, 1, 2 or 4 lanes (R461). -/
def linkOk (speed width : Nat) : Bool := decide (1 ≤ speed) && decide (speed ≤ 4) && (width == 1 || width == 2 || width == 4)

/-- A write of one register or part of one (1 to 3 bytes), or of consecutive ones (R9), inside BAR0's 16 MiB (R461). -/
def writeOk (off len val : Nat) : Bool :=
  fits 24 off && decide (1 ≤ len) && (decide (len < 4) || len % 4 == 0) && fits (8 * len) val

/-- The operands of a command lie where the spec's tables put them. -/
def Instr.wf : Instr → Bool
  | .nop _ c op => c.wf && nopOpcode op
  | .devStatus _ c | .modeRequest _ c | .logRead _ c | .meshSfSet _ c | .meshConnSet _ c | .meshConnGet _ c
  | .meshConnClose _ c | .meshAdmit _ c | .meshRoute _ c | .meshJoinDecide _ c | .meshCircSend _ c
  | .meshEpochSet _ c | .kvLetter _ c | .kvInfo _ c | .kvUnitPub _ c | .kvCmac _ c | .wlnBssSet _ c
  | .wlnClientSet _ c | .wlnKeySet _ c | .wlnMgmtTx _ c | .wlnChanSwitch _ c | .wlnClientGet _ c | .pctWrite _ c
  | .pctRead _ c | .pctDump _ c | .pctAudit _ c | .pctFlush _ c | .srtVlanSet _ c | .qmsShaperSet _ c
  | .qmsShaperGet _ c | .qmsQueueSet _ c | .qmsQueueGet _ c | .twnRoleRequest _ c | .twnStatus _ c | .updStage _ c
  | .updVerify _ c | .updActivate _ c _ | .updStatus _ c | .updLetter _ c | .dskResult _ c | .fltSet _ c
  | .telRead _ c | .pktTx _ c | .pktRxPost _ c => c.wf
  | .letterProcess .. | .updStageDone .. | .updVerifyDone .. | .pctDumpDone .. | .pctFlushDone .. => true
  | .submissionDoorbell .. | .completionDoorbell .. | .descriptorFetchFailure .. | .msixCoalesceTimer .. => true
  | .sqEnable _ _ v | .cqEnable _ _ v => bitN v.toNat 0
  | .sqDisable _ _ v | .cqDisable _ _ v => !bitN v.toNat 0
  | .hifBump .. | .hostWdogKick .. | .hostWdogExpiry .. | .hostLoss .. | .perstNAssert .. => true
  | .perstNRelease _ sp w | .pcieLinkUp _ sp w => linkOk sp w
  | .softwareReset .. | .dskAbort .. | .rtcSet .. | .rtcShift .. | .rtcAddHour .. | .rtcSubHour .. => true
  | .alm1ClearMark .. | .srxCalQuick .. | .srxCalFull .. | .lhCalFull .. | .lhCalChannel .. => true
  | .gpiSet .. | .gpiClr .. => true
  | .pairLoRead _ off => fits 24 off && off % 4 == 0
  | .registerWrite _ off len val => writeOk off len val
  | .pboxPop .. | .vinOkRise .. | .vinOkFall .. | .vbackBrownOut .. | .resetNAssert .. | .resetNRelease .. => true
  | .wakeInRise .. | .gpioWake .. | .ethSignalDetect .. | .dawnImageVerified .. | .dawnOnAir .. => true
  | .dramTrainingDone .. | .vddqRetry .. | .fullSetLoaded .. => true
  | .enginesLoaded _ _ lost _ | .fullReached _ _ lost | .activationLoadDone _ _ lost _ => lost.all (fits 14)
  | .bootWatchdogExpiry .. | .dozeEntry .. | .dozeHoldLimit .. | .dozeSlotWake .. | .hibernateEntry .. => true
  | .requestedDawnEntry .. | .duskEntry .. => true
  | .duskGroupEnd _ fails _ => fails.all DskHit.wf
  | .duskRunEnd .. | .snapshotPeriodic .. | .rcOscFailOne .. | .rcOscFailTwo .. | .rcHoldEnd .. => true
  | .rcTrimTick .. | .refclkStopDetect .. | .refclkFreqDetect .. | .refclkAbsent100ms .. | .refclkReturn .. => true
  | .xtal32Stop .. | .xtal32Restart .. | .xtal32GapHibernate .. | .pllUnlock .. | .pllRelockAttempt .. => true
  | .opStepDone .. => true
  | .thermalCapChange _ temp => decide (-128 ≤ temp) && decide (temp ≤ 127)
  | .gateCloseTimeout _ _ _ host => host.all (fits 24)
  | .backupTick .. | .alarm0Fire .. | .alarm1Fire .. | .rtcTrimWindow .. | .vbatMeasure .. => true
  | .laneDisagreement .. | .resyncRejoin .. | .pairDisagreement .. | .tplFatalReset .. | .pboxStateRefresh .. => true
  | .slotBoundary .. | .rxWindowOpen .. | .rxWindowClose .. | .preambleDetect .. | .diversityDecision .. => true
  | .adcClip .. => true
  | .sfdFound _ _ errs phr => decide (errs ≤ 16) && phr.wf
  | .sfdSearchTimeout .. => true
  | .frameDelivery _ _ _ psdu _ _ => decide (psdu.length ≤ 2047)
  | .keyRequest _ addr epoch => fits 24 addr && fits 8 epoch
  | .keyDerivation .. | .frameDecision .. | .dawnFrame .. | .innerBlockCheck .. => true
  | .admission _ par => par.wf
  | .joinDecideDeadline .. | .receiptBurst .. | .dSlotTx .. | .nodeReceipt .. | .connectionEvent .. => true
  | .connUpdateInstant .. | .lapseHoldExpiry .. | .postmarkExpiry .. | .fragmentTimeout .. | .micWindowEnd .. => true
  | .leaseExtend .. | .leaseWriteRetry .. | .epochRotation .. | .graceEnd .. | .dlCounterWarn .. => true
  | .dlCounterExhausted .. => true
  | .txRequest _ req => req.wf
  | .txDecisionDeadline .. | .rxToTxTurnaround .. | .txEnd .. | .txCut .. | .synthLockLoss .. => true
  | .srxCalStart .. | .srxCalDone .. | .srxCalDue .. | .coxbExtReqRise .. | .coxbExtReqFall .. => true
  | .coxbPreempt .. | .coxaExtReqRise .. | .coxaExtReqFall .. | .coxaPreempt .. | .reservedIntervalStart .. => true
  | .lhTxStart .. | .lhTxEnd .. | .lhTxCut .. | .lhCalDone .. | .lhTrackingPiece .. => true
  | .probeRequest _ _ src ssid => fits 48 src && decide (ssid.length ≤ 32)
  | .wifiMgmtRx _ m => m.wf
  | .twtSetupRequest _ q => q.wf
  | .wifiDataRx _ f _ => f.wf
  | .txopWon _ x => x.wf
  | .bsrpTrigger _ _ _ polled => polled.all fun k => decide (k < 512)
  | .sounding .. | .tbttBeacon .. | .clientUnreachable .. | .pnLeaseExtend .. | .ethFrameRx .. => true
  | .sorterPacket .. | .learnUpdate .. | .learnFailRecord .. | .roundVisit .. | .tableEccError .. => true
  | .digestRescan .. | .spillMove .. | .spillFetchDone .. | .xoffRepeat .. => true
  | .pauseRx _ _ pfc _ quanta => quanta.length == (if pfc then 8 else 1) && quanta.all (fits 16)
  | .pauseTimerExpiry .. | .ethLinkDown .. | .shaperRefill .. | .egressDequeue .. | .claimInChange .. => true
  | .gateOpen .. => true
  | .hello _ m claim _ _ _ _ => m.wf && fits 4 claim
  | .time _ m _ _ => m.wf
  | .slotRec _ m _ link inner =>
    m.wf && decide (link.length ≤ 64) && decide (inner.length ≤ 64) && link.all TRec.wf && inner.all TRec.wf
  | .lease _ m epoch e _ | .leaseAck _ m epoch e => m.wf && fits 8 epoch && fits 41 e
  | .revert _ m _ | .status _ m _ => m.wf
  | .helloTx .. | .statusTx .. | .leaseResend .. | .twinLinkTimeout .. | .twinLinkRetrain .. => true
  | .holdoffExpiry .. | .preferredRaise .. | .recoveryWindowClose .. | .peerLost .. | .standDown .. => true
  | .remaskPass .. | .rewrapScheduled .. | .pauseStart .. | .triplicateUpdate .. => true
  | .activationTimeout .. | .trialCommitTimer .. | .xmodemDownload .. | .tftpWriteRequest .. => true
  | .engineWatchdogExpiry .. => true
  | .uncorrectableError _ what _ => what.wf
  | .scrubPass .. | .mramPageMigrate .. => true
  | .telemetrySample _ temps _ _ _ => temps.length == 8
  | .faultWindowExpiry .. | .reorderHoldExpiry .. | .twnHoldTimeout .. | .synthRelockDone .. => true
  | .ethLinkUp .. | .pcieConfigWrite .. | .twtServicePeriod .. | .railOutOfRange .. => true

end Sys2Proof
end

