-- ==== Sys2Proof/Tests/Slice0.lean ====
section
/-!
SUPPORT. Sys2Proof/Tests/Slice0.lean: for each clause of the statements, a small state and operands that meet its
hypotheses, with what the command then leaves; the ill-formed operands that each check of WellFormed refuses.  The
expected values are read from the rules the statements cite.
-/

open Sys2Proof Sys2Proof.Machine

-- one theorem at a time: each waits for the kernel
set_option Elab.async false

namespace Sys2Proof.Tests

/-! ## States and commands for the tests -/

/-- The command answers a next state of which `p` holds. -/
def gives (o : Host.Outcome State Fault Refusal) (p : State → Bool) : Bool := match o with
  | .next u => p u
  | _ => false

/-- Fields set, in order. -/
def set (l : List (Fld × Nat)) (s : State) : State := l.foldl (fun s x => s.setFld x.1 x.2) s

/-- A counter has gone up by one. -/
def cnt (s u : State) (f : Fld) : Bool := u.fld f == s.fld f + 1

/-- In Full: Radios S, L and H in service, the voter voting, every PLL locked, the gate open. -/
def full : State :=
  { State.reset with
    io := { regs := [(0x010004, 0x000B000B#32), (0x010010, 4#32), (0x020000, 0x3FF#32), (0x040000, 0x40007#32),
      (0x100000, 3#32), (0x180000, 3#32), (0x1C0000, 3#32)] }
    pw := { mode := .full, prevMode := 2, changes := 1, stage := .done, dram := true }
    tw := { claim := 12, gate := true }, rs := { ready := some 0 }, kv := { ready := true } }

/-- With the host: the link up, completion ring 1, and submission ring 0 of a kind with three descriptors waiting. -/
def hosted (s : State) (kind : Nat := 0) : State :=
  let s := set [(F.HIF_STAT_link_up, 1), (F.HIF_CQ_CFG_en 1, 1), (F.HIF_CQ_CFG_size_log2 1, 6),
    (F.HIF_CQ_ERR_active 1, 1), (F.HIF_CQ_ERR_phase 1, 1), (F.HIF_SQ_CFG_en 0, 1), (F.HIF_SQ_CFG_size_log2 0, 6),
    (F.HIF_SQ_CFG_cq 0, 1), (F.HIF_SQ_CFG_kind 0, kind), (F.HIF_SQ_ERR_active 0, 1), (F.HIF_SQ_STAT_tail 0, 3)] s
  { s with io := { s.io with hf := { s.io.hf with busMaster := true, memSpace := true, cfgReady := true } } }

/-- A descriptor of ring 0 with tag 7: the fields of its body in order, each with its bytes, and what its reads return. -/
def cmd (body : List (Nat × Nat)) (rd : Bytes := []) : Cmd :=
  let b : Bytes := (body.map fun f => toLE f.1 f.2).flatten
  { sq := 0, gen := 1#8, b3 := 0#8, tag := 7#32, body := b ++ List.replicate (24 - b.length) 0#8, rd := rd
    rdErr := none, wrFail := false }

/-- Bytes of a record, its fields in order. -/
def rec_ (l : List (Nat × Nat)) : Bytes := (l.map fun f => toLE f.1 f.2).flatten

/-- The status of the completion written or held last. -/
def lastSt (u : State) : Option Nat := match u.io.hf.cqHeld.getLast? with
  | some p => some p.2.status
  | none => u.io.out.findSome? fun o => match o with
    | .dma _ d => if d.length = 16 then some (d.le 7 1) else none
    | _ => none

/-- The command was answered with a status. -/
def replied (st : Nat) (u : State) : Bool := lastSt u == some st

def x0 : Straps := ⟨false, false, false⟩

/-- Full, with the host. -/
def host0 : State := hosted full

/-- Dawn at a stage of the start. -/
def dawn (st : Stage) (tr : Option Trans := none) : State :=
  { full with pw := { full.pw with mode := .dawn, prevMode := 0, changes := 0, stage := st, trans := tr, dram := false } }
/-- Hibernate. -/
def hib : State := { full with pw := { full.pw with mode := .hibernate, stage := .off } }
/-- Doze. -/
def doze : State := { full with pw := { full.pw with mode := .doze } }

/-! ## Operands that are not well formed -/

theorem test_bad_body : (Instr.devStatus 0 { cmd [] with body := [] }).wf = false ∧ (Instr.devStatus 0 (cmd [])).wf = true := by
  decide
theorem test_bad_opcode : (Instr.nop 0 (cmd []) 2).wf = false ∧ (Instr.nop 0 (cmd []) 65536).wf = false ∧
    (Instr.nop 0 (cmd []) 1).wf = true ∧ (Instr.nop 0 (cmd []) 0x9999).wf = true := by decide +kernel
theorem test_named_opcodes : namedOpcodes = opcodes := by decide +kernel
theorem test_bad_ring_word : (Instr.sqEnable 0 0 0#32).wf = false ∧ (Instr.sqDisable 0 0 1#32).wf = false ∧
    (Instr.cqEnable 0 0 0#32).wf = false ∧ (Instr.cqDisable 0 0 1#32).wf = false := by decide
theorem test_bad_link : (Instr.perstNRelease 0 0 4).wf = false ∧ (Instr.pcieLinkUp 0 4 3).wf = false := by decide
theorem test_bad_read : (Instr.pairLoRead 0 2).wf = false ∧ (Instr.pairLoRead 0 (2 ^ 24)).wf = false := by decide +kernel
theorem test_bad_write : (Instr.registerWrite 0 0 0 0).wf = false ∧ (Instr.registerWrite 0 0 5 0).wf = false ∧
    (Instr.registerWrite 0 (2 ^ 24) 4 0).wf = false ∧ (Instr.registerWrite 0 0 1 256).wf = false := by decide +kernel
theorem test_bad_lost : (Instr.enginesLoaded 0 true [16384] x0).wf = false ∧ (Instr.fullReached 0 true [16384]).wf = false ∧
    (Instr.activationLoadDone 0 true [16384] x0).wf = false := by decide +kernel
theorem test_bad_hit : (Instr.duskGroupEnd 0 [⟨1, 0, 0, 0⟩] 0).wf = false ∧ (Instr.duskGroupEnd 0 [⟨1, 8, 0, 0⟩] 0).wf = false ∧
    (Instr.duskGroupEnd 0 [⟨4096, 1, 0, 0⟩] 0).wf = false ∧ (Instr.duskGroupEnd 0 [⟨1, 1, 2 ^ 32, 0⟩] 0).wf = false ∧
    (Instr.duskGroupEnd 0 [⟨1, 1, 0, 256⟩] 0).wf = false := by decide +kernel
theorem test_bad_temp : (Instr.thermalCapChange 0 128).wf = false ∧ (Instr.thermalCapChange 0 (-129)).wf = false := by decide
theorem test_bad_gate : (Instr.gateCloseTimeout 0 0 none [2 ^ 24]).wf = false := by decide +kernel
theorem test_bad_sfd : (Instr.sfdFound 0 0 17 ⟨false, true, true, 5⟩).wf = false ∧
    (Instr.sfdFound 0 0 0 ⟨false, true, true, 2048⟩).wf = false := by decide +kernel
theorem test_bad_psdu : (Instr.frameDelivery 0 0 none (List.replicate 2048 0#8) 0 0).wf = false := by decide +kernel
theorem test_bad_key : (Instr.keyRequest 0 (2 ^ 24) 0).wf = false ∧ (Instr.keyRequest 0 0 256).wf = false := by decide +kernel
theorem test_bad_conn : (Instr.admission 0 ⟨2 ^ 64, 0, 0, 0, 0, 0, 0⟩).wf = false ∧ (Instr.admission 0 ⟨0, 256, 0, 0, 0, 0, 0⟩).wf = false ∧
    (Instr.admission 0 ⟨0, 0, 256, 0, 0, 0, 0⟩).wf = false ∧ (Instr.admission 0 ⟨0, 0, 0, 65536, 0, 0, 0⟩).wf = false ∧
    (Instr.admission 0 ⟨0, 0, 0, 0, 256, 0, 0⟩).wf = false ∧ (Instr.admission 0 ⟨0, 0, 0, 0, 0, 2 ^ 24, 0⟩).wf = false ∧
    (Instr.admission 0 ⟨0, 0, 0, 0, 0, 0, 2 ^ 40⟩).wf = false := by decide +kernel
theorem test_bad_request : (Instr.txRequest 0 ⟨0, 0, 0, false, false, []⟩).wf = false ∧
    (Instr.txRequest 0 ⟨0, 0, 0, false, false, List.replicate 65 ⟨0, 0, 64, false, [], .test⟩⟩).wf = false ∧
    (Instr.txRequest 0 ⟨1, 0, 0, false, false, [⟨0, 0, 64, false, [], .test⟩]⟩).wf = false ∧
    (Instr.txRequest 0 ⟨0, 0, 0, false, false, [⟨0, 3, 64, false, [], .test⟩]⟩).wf = false ∧
    (Instr.txRequest 0 ⟨0, 0, 0, false, false, [⟨0, 0, 63, false, [], .test⟩]⟩).wf = false ∧
    (Instr.txRequest 0 ⟨0, 0, 0, false, false, [⟨0, 0, 64, true, [], .test⟩]⟩).wf = false := by decide +kernel
theorem test_bad_probe : (Instr.probeRequest 0 false (2 ^ 48) []).wf = false ∧
    (Instr.probeRequest 0 false 0 (List.replicate 33 0#8)).wf = false := by decide +kernel
theorem test_bad_mgmt : (Instr.wifiMgmtRx 0 ⟨false, 0, 2 ^ 48, .host, [], 0, none, false, false⟩).wf = false ∧
    (Instr.wifiMgmtRx 0 ⟨false, 0, 0, .host, [], 0, some (8, 0, true), false, false⟩).wf = false ∧
    (Instr.wifiMgmtRx 0 ⟨false, 0, 0, .host, [], 0, some (0, 2 ^ 48, true), false, false⟩).wf = false := by decide +kernel
theorem test_bad_twt : (Instr.twtSetupRequest 0 ⟨false, 2 ^ 48, 2, 1, 0, false, false, false⟩).wf = false ∧
    (Instr.twtSetupRequest 0 ⟨false, 0, 1, 2, 0, false, false, false⟩).wf = false := by decide +kernel
theorem test_bad_data : (Instr.wifiDataRx 0 ⟨false, 2 ^ 48, 0, 0, none, 0, true, false, [], 0, none, false, false⟩ 0).wf = false ∧
    (Instr.wifiDataRx 0 ⟨false, 0, 2 ^ 48, 0, none, 0, true, false, [], 0, none, false, false⟩ 0).wf = false ∧
    (Instr.wifiDataRx 0 ⟨false, 0, 0, 0, some 4, 0, true, false, [], 0, none, false, false⟩ 0).wf = false ∧
    (Instr.wifiDataRx 0 ⟨false, 0, 0, 0, none, 2 ^ 48, true, false, [], 0, none, false, false⟩ 0).wf = false := by
  decide +kernel
theorem test_bad_txop : (Instr.txopWon 0 ⟨false, 0, false, true, 1, 0, 0, 0, [(512, 0)]⟩).wf = false := by decide +kernel
theorem test_bad_polled : (Instr.bsrpTrigger 0 false 0 [512]).wf = false := by decide +kernel
theorem test_bad_pause : (Instr.pauseRx 0 0 false 0#8 []).wf = false ∧ (Instr.pauseRx 0 0 true 0#8 [0]).wf = false ∧
    (Instr.pauseRx 0 0 false 0#8 [65536]).wf = false := by decide +kernel
theorem test_bad_msg : (Instr.hello 0 ⟨2 ^ 64, 0, true⟩ 0 0 0 false false).wf = false ∧
    (Instr.hello 0 ⟨0, 2 ^ 64, true⟩ 0 0 0 false false).wf = false ∧
    (Instr.hello 0 ⟨0, 0, true⟩ 16 0 0 false false).wf = false ∧ (Instr.time 0 ⟨2 ^ 64, 0, true⟩ 0 0).wf = false ∧
    (Instr.revert 0 ⟨2 ^ 64, 0, true⟩ 0).wf = false ∧ (Instr.status 0 ⟨2 ^ 64, 0, true⟩ []).wf = false := by decide +kernel
theorem test_bad_slot_rec : (Instr.slotRec 0 ⟨0, 0, true⟩ 0 [⟨2 ^ 24, 0, 0, false⟩] []).wf = false ∧
    (Instr.slotRec 0 ⟨0, 0, true⟩ 0 [] [⟨0, 2 ^ 40, 0, false⟩]).wf = false ∧
    (Instr.slotRec 0 ⟨0, 0, true⟩ 0 [⟨0, 0, 256, false⟩] []).wf = false ∧
    (Instr.slotRec 0 ⟨0, 0, true⟩ 0 (List.replicate 65 ⟨0, 0, 0, false⟩) []).wf = false ∧
    (Instr.slotRec 0 ⟨0, 0, true⟩ 0 [] (List.replicate 65 ⟨0, 0, 0, false⟩)).wf = false := by decide +kernel
theorem test_bad_lease : (Instr.lease 0 ⟨0, 0, true⟩ 256 0 true).wf = false ∧
    (Instr.leaseAck 0 ⟨0, 0, true⟩ 0 (2 ^ 41)).wf = false := by decide +kernel
theorem test_bad_dram : (Instr.uncorrectableError 0 (.dram (2 ^ 33)) x0).wf = false := by decide +kernel
theorem test_bad_sample : (Instr.telemetrySample 0 [25] [] 0 0).wf = false := by decide

/-! ## Decoding -/

/-- No row of the table gives bits: no word spells a command. -/
theorem test_no_word : decodeTableWord 32 0 = none ∧ State.reset.withFetchWord 32 0 = State.reset := by
  refine ⟨rfl, rfl⟩

/-! ## The machine as a whole -/

theorem test_idle : State.reset.pending = [] := rfl
theorem test_stale : (let s := hosted full
    let c := { cmd [(8, 0x1000)] with gen := 9#8 }
    ringRow (.devStatus 1 c) = some (2, .command, c) ∧ s.canFetch c = true ∧ s.io.hf.inFlight 0 = false ∧ c.wrFail = false ∧
    s.pw.mode ≠ .doze ∧ c.gen.toNat ≠ s.fld F.HIF_GEN_gen ∧ gives (exec (.devStatus 1 c) s) (replied stSTALE) = true) := by
  decide +kernel
theorem test_reserved : (let s := hosted full
    let c := { cmd [(8, 0x1000)] with b3 := 2#8 }
    s.canFetch c = true ∧ c.gen.toNat = s.fld F.HIF_GEN_gen ∧ c.b3.toNat / 2 ≠ 0 ∧
    gives (exec (.devStatus 1 c) s) (replied stBAD_ARG) = true) := by decide +kernel
theorem test_unlisted : (let s := hosted full
    s.canFetch (cmd []) = true ∧ 0x9999 ∉ opcodes ∧ gives (exec (.nop 1 (cmd []) 0x9999) s) (replied stUNSUPPORTED) = true) := by
  decide +kernel
theorem test_wrong_kind : (let s := hosted full 1
    s.canFetch (cmd []) = true ∧ RingKind.command.code ≠ s.fld (F.HIF_SQ_CFG_kind 0) ∧
    gives (exec (.devStatus 1 (cmd [])) s) (replied stUNSUPPORTED) = true) := by decide +kernel
theorem test_not_in_dawn : (let s := hosted { full with pw := { full.pw with mode := .dawn, stage := .onAir } }
    s.canFetch (cmd []) = true ∧ modeStatus s.pw.mode 0x0103 = some stUNSUPPORTED ∧
    gives (exec (.meshConnGet 1 (cmd [])) s) (replied stUNSUPPORTED) = true) := by decide +kernel
theorem test_rescue : (let s := hosted { full with pw := { full.pw with mode := .rescue, stage := .rom } }
    s.canFetch (cmd []) = true ∧ s.up.job = none ∧ modeStatus s.pw.mode 0x0001 = some stUNSUPPORTED ∧
    gives (exec (.nop 1 (cmd []) 1) s) (replied stUNSUPPORTED) = true) := by decide +kernel
/-- Blocks: two that answer OK, then one that does not. -/
theorem test_blocks : (let f (s : State) (b : Bytes) : BlockReply :=
      { st := { s with free := s.free + 1 }, status := if b = [1#8] then stBAD_ARG else stOK, writes := [] }
    (∀ b ∈ [[2#8], [3#8]], (f State.reset b).status = stOK) ∧ (f State.reset [1#8]).status ≠ stOK ∧
    (runBlocks false f 100 1 0 [[2#8], [3#8], [1#8], [4#8]] State.reset []).st.free = 3) := by decide +kernel
/-- A step from a state with an authority slot programmed. -/
theorem test_permanent : (let s : State := { full with
      pending := [.backupTick 5], nv := { full.nv with auth := [(0, { hash := [1#8], programmed := true })] } }
    gives (step s) (fun u => u.nv.auth == s.nv.auth && u.nv.unitId == s.nv.unitId) = true) := by decide +kernel
/-- A state with a register off its reset value. -/
theorem test_canonical : (let s : State := { full with pending := [.backupTick 5] }
    Tbl.sorted s.io.regs = true ∧ (∀ p ∈ s.io.regs, p.2 ≠ regReset p.1) ∧ gives (step s) (fun _ => true) = true) := by
  decide +kernel

/-! ## The real-time clock -/

theorem test_rtc_commands : host0.barUp = true ∧ (1#16 : BitVec 16) ≠ 0#16 ∧ (1#16 : BitVec 16) ≠ 0x8000#16 ∧
    gives (exec (.rtcSet 5 0x40000001#32) host0) (fun u => u.rt.setNext == some (2 ^ 32, 0x4000)) = true ∧
    gives (exec (.rtcShift 5 0xFFFF#16) host0) (fun u => u.rt.act == some (.shift (-1))) = true ∧
    gives (exec (.rtcAddHour 5) host0) (fun u => u.rt.act == some .addHour) = true ∧
    gives (exec (.rtcSubHour 5) host0) (fun u => u.rt.act == some .subHour) = true ∧
    gives (exec (.alm1ClearMark 5) host0) (fun u => u.rt.act == some .clearMark) = true ∧
    gives (exec (.rtcShift 5 0x8000#16) host0) (fun u => u.rt.act == none && u.fld F.RTC_STAT_cmd_err == 1) = true := by
  decide +kernel
theorem test_tick : full.rt.wr = [] ∧ full.rt.setNext = none ∧ full.rt.act = none ∧ full.rt.offsetNext = none ∧
    gives (exec (.backupTick 5) full) (fun u => u.rt.frac == 1 && u.rt.sec == 0) = true := by decide +kernel
theorem test_tick_wraps : gives (exec (.backupTick 5) { full with rt := { full.rt with sec := 9, frac := 32767 } })
    (fun u => u.rt.frac == 0 && u.rt.sec == 10) = true := by decide +kernel
theorem test_set : (let s : State := { full with
      rt := { full.rt with sec := 5, setNext := some (100, 32767) }
      ml := { full.ml with conns := [(0, { addr := 1, par := ⟨1, 0, 1, 1, 0, 9, 0, 0⟩, anchorRtc := 7 })] } }
    s.rt.wr = [] ∧ s.rt.setNext = some (100, 32767) ∧ s.rt.act ≠ some .clearMark ∧
    gives (exec (.backupTick 5) s) (fun u => u.rt.sec == 100 && u.rt.frac == 32767 && u.rt.setNext == none &&
      u.ml.conns.map (·.2.anchorRtc) == [7 + (100 * 32768 + 32767) - (5 * 32768 + 1)]) = true) := by decide +kernel
theorem test_alarm0 : (let s : State := { full with rt := { full.rt with due0 := some true } }
    s.rt.due0 = some true ∧ s.pw.mode ≠ .hibernate ∧ s.pw.mode ≠ .doze ∧ s.pw.hold = none ∧
    gives (exec (.alarm0Fire 5 x0) s) (fun u => u.fld F.RTC_ALM_STAT_fired0 == 1 && u.fld F.RTC_ALM_STAT_late0 == 1 &&
      u.rt.due0 == none) = true) := by decide +kernel
theorem test_alarm1 : (let s : State := { full with rt := { full.rt with due1 := some (false, 77) } }
    s.rt.due1 = some (false, 77) ∧ s.pw.hold = none ∧
    gives (exec (.alarm1Fire 5 x0) s) (fun u => u.fld F.RTC_ALM_STAT_fired1 == 1 && u.fld F.RTC_ALM_STAT_late1 == 0 &&
      u.rt.mark == some 77) = true) := by decide +kernel
theorem test_trim : (let s := set [(F.RTC_TRIM_auto, 1)] full
    s.powered = true ∧ s.flag F.RTC_TRIM_auto = true ∧
    4878 * 2557442560 < (2560000000 - (2557442560 : Int)).natAbs * 10000000 ∧
    gives (exec (.rtcTrimWindow 5 2557442560 true) s) (fun u => u.fld F.RTC_TRIM_dir == 1 &&
      u.fld F.RTC_TRIM_pulses == 1023 && u.fld F.RTC_STAT_trim_sat == 1) = true ∧
    gives (exec (.rtcTrimWindow 5 2560001221 true) s) (fun u => u.fld F.RTC_TRIM_dir == 0 &&
      u.fld F.RTC_TRIM_pulses == 1 && u.fld F.RTC_STAT_trim_sat == 0) = true) := by decide +kernel
theorem test_vbat : full.powered = true ∧
    gives (exec (.vbatMeasure 5 1800) full) (fun u => u.fld F.RTC_VBAT_mv == 1800 && u.fld F.RTC_STAT_vbat_low == 0) = true ∧
    gives (exec (.vbatMeasure 5 999) full) (fun u => u.fld F.RTC_STAT_vbat_low == 1 &&
      u.fld F.RTC_STAT_vbat_absent == 1) = true := by decide +kernel

/-! ## The host interface -/

theorem test_reads : (let c := cmd [(8, 0x1000)]
    Ready host0 c .command ∧ host0.pw.mode = .full ∧ c.f 0 8 % 32 = 0 ∧ c.zero 8 16 = true ∧
    gives (exec (.nop 5 (cmd []) 1) host0) (replied stOK) = true ∧
    gives (exec (.devStatus 5 c) host0) (fun u => replied stOK u && u.io.out.any fun o => match o with
      | .dma 0x1000 b => b.length == 64 && b.le 16 1 == 1
      | _ => false) = true ∧
    gives (exec (.telRead 5 c) host0) (replied stOK) = true) := by decide +kernel
theorem test_log : (let e : LogEntry := ⟨1, 0, 2, 9, 0, 3, 0, 1⟩
    let s : State := { host0 with nv := { host0.nv with log := [e], logSeq := 1 } }
    let c := cmd [(8, 0x1000), (4, 0), (2, 2048)]
    Ready s c .command ∧ c.f 0 8 % 32 = 0 ∧ c.zero 14 10 = true ∧ c.f 12 2 = 2048 ∧
    gives (exec (.logRead 5 c) s) (fun u => u.io.out.any fun o => match o with
      | .dma 0x1000 b => b == rec_ [(4, 1), (4, 1), (4, 1), (4, 0)] ++ e.bytes
      | _ => false) = true) := by decide +kernel
theorem test_doorbell_bad : host0.barUp = true ∧
    gives (exec (.submissionDoorbell 5 0 true 0x00010001#32) host0) (cnt host0 · F.HIF_DB_ERR_bad_db) = true ∧
    gives (exec (.submissionDoorbell 5 0 false 0x01010001#32) host0) (cnt host0 · F.HIF_DB_ERR_bad_db) = true ∧
    gives (exec (.submissionDoorbell 5 1 false 0x00010001#32) host0) (cnt host0 · F.HIF_DB_ERR_bad_db) = true ∧
    gives (exec (.submissionDoorbell 5 0 false 0x00010040#32) host0) (cnt host0 · F.HIF_DB_ERR_bad_db) = true ∧
    gives (exec (.completionDoorbell 5 1 false 0x00000040#32) host0) (cnt host0 · F.HIF_DB_ERR_bad_db) = true := by
  decide +kernel
theorem test_doorbell : host0.fld (F.HIF_SQ_CFG_en 0) ≠ 0 ∧ 63 < host0.io.sqSize 0 ∧
    gives (exec (.submissionDoorbell 5 0 false 0x0002003F#32) host0) (cnt host0 · F.HIF_DB_ERR_stale_db) = true ∧
    gives (exec (.submissionDoorbell 5 0 false 0x0001003F#32) host0) (fun u => u.fld (F.HIF_SQ_STAT_tail 0) == 63) = true ∧
    host0.fld (F.HIF_CQ_CFG_en 1) ≠ 0 ∧ 63 < host0.io.cqSize 1 ∧ host0.io.hf.cqHeld = [] ∧ host0.io.hf.evHeld = [] ∧
    gives (exec (.completionDoorbell 5 1 false 0x0000003F#32) host0) (fun u => u.fld (F.HIF_CQ_STAT_head 1) == 63) = true := by
  decide +kernel
theorem test_sq_enable : (let v : Word := 0x80043F10#32
    host0.barUp = true ∧ v.getLsbD 31 = true ∧ host0.fld (F.HIF_SQ_CFG_en 2) = 0 ∧ host0.io.sqActive 2 = false ∧
    bitsN v.toNat 4 0 = 16 ∧ bitsN v.toNat 13 8 = 63 ∧ bitsN v.toNat 17 16 ≠ 3 ∧
    gives (exec (.sqEnable 5 2 v) host0) (fun u => u.io.sqActive 2 && u.fld (F.HIF_SQ_CFG_size_log2 2) == 16 &&
      u.fld (F.HIF_SQ_CFG_cq 2) == 1) = true) := by decide +kernel
theorem test_sq_disable : (let v : Word := host0.word (F.HIF_SQ_CFG_en 0).off &&& 0x7FFFFFFF#32
    let s : State := { host0 with io := { host0.io with hf := { host0.io.hf with rxBufs := [⟨0, 0, 0, 0, 1, 0⟩] } } }
    v.getLsbD 31 = false ∧ s.fld (F.HIF_SQ_CFG_en 0) ≠ 0 ∧
    (∀ f ∈ [F.HIF_SQ_CFG_size_log2 0, F.HIF_SQ_CFG_buf_256 0, F.HIF_SQ_CFG_kind 0, F.HIF_SQ_CFG_cq 0], f.of v = s.fld f) ∧
    gives (exec (.sqDisable 5 0 v) s) (fun u => u.fld (F.HIF_SQ_CFG_en 0) == 0 && u.io.hf.rxBufs == [] &&
      !u.io.sqActive 0) = true) := by decide +kernel
theorem test_cq_enable : (let v : Word := 0x800A0006#32
    v.getLsbD 31 = true ∧ host0.fld (F.HIF_CQ_CFG_en 3) = 0 ∧ host0.io.cqActive 3 = false ∧ bitsN v.toNat 4 0 = 6 ∧
    (∀ k < 64, k ≠ 3 → host0.fld (F.HIF_CQ_CFG_event k) = 0) ∧
    gives (exec (.cqEnable 5 3 v) host0) (fun u => u.io.cqActive 3 && u.fld (F.HIF_CQ_ERR_phase 3) == 1 &&
      u.fld (F.HIF_CQ_CFG_vector 3) == 10) = true) := by decide +kernel
theorem test_cq_disable : (let v : Word := host0.word (F.HIF_CQ_CFG_en 1).off &&& 0x7FFFFFFF#32
    (∀ f ∈ [F.HIF_CQ_CFG_size_log2 1, F.HIF_CQ_CFG_event 1], f.of v = host0.fld f) ∧
    (∃ k < 64, host0.fld (F.HIF_SQ_CFG_en k) ≠ 0 ∧ host0.fld (F.HIF_SQ_CFG_cq k) = 1) ∧
    gives (exec (.cqDisable 5 1 v) host0) (fun u => u.fld (F.HIF_CQ_CFG_en 1) == 1 &&
      u.fld (F.HIF_CQ_ERR_cfg_err 1) == 1) = true ∧
    let s := set [(F.HIF_SQ_CFG_en 0, 0)] host0
    (∀ k < 64, s.fld (F.HIF_SQ_CFG_en k) ≠ 0 → s.fld (F.HIF_SQ_CFG_cq k) ≠ 1) ∧
    gives (exec (.cqDisable 5 1 v) s) (fun u => u.fld (F.HIF_CQ_CFG_en 1) == 0 && !u.io.cqActive 1) = true) := by
  decide +kernel
theorem test_ring_errors : (let s := set [(F.HIF_CQ_CFG_event 2, 1), (F.HIF_CQ_CFG_en 2, 1), (F.HIF_CQ_ERR_active 2, 1),
      (F.HIF_CQ_CFG_size_log2 2, 6)] host0
    s.fetchable 0 = true ∧ s.io.cqActive 1 = true ∧ s.fld (F.HIF_CQ_CFG_event 1) = 0 ∧ s.io.hostOk = true ∧
    s.io.eventRing = some 2 ∧ (∀ k < 64, k ≠ 2 → s.fld (F.HIF_CQ_CFG_event k) = 0) ∧ s.io.hf.evHeld.length < 256 ∧
    gives (exec (.descriptorFetchFailure 5 .fetch 0 .ur) s) (fun u => !u.io.sqActive 0 && u.io.hf.evSeq == 1) = true ∧
    gives (exec (.descriptorFetchFailure 5 .completion 1 .ca) s) (fun u => u.fld (F.HIF_CQ_ERR_err 1) == 3) = true ∧
    gives (exec (.descriptorFetchFailure 5 .event 2 .timeout) s) (fun u => u.fld (F.HIF_CQ_ERR_err 2) == 3 &&
      u.io.hf.evHeld.length == 1) = true) := by decide +kernel
theorem test_coalesce : (let s := set [(F.HIF_CQ_COAL_coal_us 1, 2)] host0
    let s : State := { s with io := { s.io with
      eff := [((F.HIF_CQ_COAL_coal_us 1).off, s.word (F.HIF_CQ_COAL_coal_us 1).off)]
      hf := { s.io.hf with coal := [(1, ⟨1, 0⟩)] } } }
    let q := set [(F.MSIX_CTRL_mask 0, 0)] s
    let m := set [(F.MSIX_CTRL_mask 0, 1)] s
    Tbl.get? s.io.hf.coal 1 = some ⟨1, 0⟩ ∧ 0 + 1000 * s.eFld (F.HIF_CQ_COAL_coal_us 1) ≤ max s.now 2000 ∧
    s.fld (F.HIF_CQ_CFG_vector 1) = 0 ∧ q.fld (F.MSIX_CTRL_mask 0) = 0 ∧ m.fld (F.MSIX_CTRL_mask 0) ≠ 0 ∧
    gives (exec (.msixCoalesceTimer 2000 1) q) (fun u => u.io.out.length == 1 && u.io.hf.coal == []) = true ∧
    gives (exec (.msixCoalesceTimer 2000 1) m) (fun u => u.io.out.length == 0 && u.io.hf.coal == [] &&
      u.word (F.MSIX_PBA_pend 0).off == 1#32) = true) := by decide +kernel
theorem test_bump : host0.barUp = true ∧ gives (exec (.hifBump 5 0x5A5A0001#32) host0) (fun u =>
      u.fld F.HIF_GEN_gen == 2 && u.fld F.HIF_GEN_cause == 6) = true ∧
    gives (exec (.hifBump 5 0x5A590001#32) host0) (fun u => u.fld F.HIF_GEN_gen == 1) = true ∧
    gives (exec (.hostWdogKick 5 0x80000032#32) host0) (fun u => u.fld F.HIF_HOST_WDOG_timeout_ms == 50 &&
      u.io.hf.wdogAt == 5) = true := by decide +kernel
theorem test_wdog : (let s := set [(F.HIF_HOST_WDOG_timeout_ms, 5)] host0
    s.powered = true ∧ s.io.hf.lost = none ∧ s.fld F.HIF_HOST_WDOG_timeout_ms ≠ 0 ∧
    s.io.hf.wdogAt + 1000000 * max 10 5 ≤ max s.now 10000000) := by decide +kernel
theorem test_losses : host0.powered = true ∧ host0.io.hf.lost = none ∧ host0.fld F.HIF_STAT_link_up = 1 ∧
    host0.io.hf.cfgReady = true ∧ host0.io.hf.perst = false ∧ host0.fld F.HIF_STAT_dstate ≠ 3 ∧
    host0.io.hf.busMaster = true ∧ host0.io.anyRing = true ∧ host0.fld F.CLK_STAT_pcie_lock = 1 := by decide +kernel
theorem test_perst : (let p : State := { host0 with io := { host0.io with hf := { host0.io.hf with perst := true } } }
    host0.io.hf.perst = false ∧ p.io.hf.perst = true ∧ p.powered = true ∧ p.fld F.CLK_STAT_pcie_lock = 1) := by
  decide +kernel
theorem test_config : host0.cfgUp = true ∧ host0.io.hf.lost = none ∧ host0.fld F.HIF_STAT_dstate ≠ 3 ∧
    host0.io.hf.busMaster = true ∧ host0.io.anyRing = true := by
  decide +kernel

/-- A signing key (the private key 5), its hash, and the digest of no bytes. -/
def pub0 : Bytes := toBE 96 0x11DE24A2C251C777573CAC5EA025E467F208E51DBFF98FC54F6661CBE56583B037882F4A1CA297E60ABCDBC3836D84BC8FA696C77440F92D0F5837E90A00E7C5284B447754D5DEE88C986533B6901AEB3177686D0AE8FB33184414ABE6C1713A
def pubHash : Bytes := toBE 48 0x3966D6C7E6A199E21807F0F8347406AA40AA59C18578B061C2BCAFB3DA86B24ECD4DA2100402993D56C9B5E1F6B0F369
def nil384 : Bytes := toBE 48 0x38B060A751AC96384CD9327EB1B1E36A21FDB71114BE07434C0CC7BF63F6E1DA274EDEBFE76F65FBD51AD2F14898B95B
/-- An image set of nine empty components, signed. -/
def image : Bytes :=
  rec_ [(4, 0x53494D50), (4, 0x00000901), (4, 157813249), (4, 5), (4, 7), (16, 0), (4, 4096)] ++ pub0 ++
    ((List.range 9).map fun i => rec_ [(4, i + 1), (4, 4096), (8, 0)] ++ nil384).flatten ++ List.replicate 448 0#8 ++
    toBE 96 0xAA87CA22BE8B05378EB1C71EF320AD746E1D3B628BA79B9859F741E082542A385502F25DBF55296C3A545E3872760AB79103B04CD1E7FD09FEFD3589EA7B2FA7C93A820520D8E0782FE18C48F0BF6B175B33B7B030B46417CA7D11868EC293C5
/-- A letter of a type, its counter 1, with 8 bytes of body and more, and its signature. -/
def letter (type body sig : Nat) (more : Bytes := []) : Bytes :=
  rec_ [(4, 0x4C534D50), (1, 1), (1, type), (1, 0), (1, 0), (2, 240 + more.length), (6, 0), (16, 0), (8, 1)] ++ pub0 ++
    rec_ [(8, body)] ++ more ++ toBE 96 sig

def eraseLetter : Bytes := letter 2 3 0xAA87CA22BE8B05378EB1C71EF320AD746E1D3B628BA79B9859F741E082542A385502F25DBF55296C3A545E3872760AB7385DCC4F10484BB7782D013EBE05215189138781640D38FF8380DB4539AA65745134073426E36276E6D337083700E86A
def revokeLetter : Bytes := letter 4 1 0xAA87CA22BE8B05378EB1C71EF320AD746E1D3B628BA79B9859F741E082542A385502F25DBF55296C3A545E3872760AB70315F3DE45DF3FD432F1CEC6A80BB4563500F1ADFE0BFDC17718140A3E58B3448D7CF0B449E4EEEDA9C7A1F325E1145C
def unlockLetter : Bytes := letter 6 0 0xAA87CA22BE8B05378EB1C71EF320AD746E1D3B628BA79B9859F741E082542A385502F25DBF55296C3A545E3872760AB7B6DAD43BEA02011E18AB3E7DE5CD358DFFAD55A035FDE9798D8E98ADB3BE863EF1679FA0BF851AC1E2AE53B1B188158C
def retireLetter : Bytes := letter 7 0 0xAA87CA22BE8B05378EB1C71EF320AD746E1D3B628BA79B9859F741E082542A385502F25DBF55296C3A545E3872760AB78FEE34CC01BF4E416D2C1C13D95A03507B59DF784D3C1DE134AE3A21CCCC4B89B46F4E95749D2D92A86F12E1620D781E
/-- Enrol in slot 2 the hash that is 48 zero bytes. -/
def enrolLetter : Bytes := letter 3 2 0xAA87CA22BE8B05378EB1C71EF320AD746E1D3B628BA79B9859F741E082542A385502F25DBF55296C3A545E3872760AB7D9589086D86720D3AC5693BDFFD5F45978BCF4C6C71CADEA4AB4EA16F3C53957DD742A5E36D57075E65C808B024B6C0A
  (List.replicate 48 0#8)
/-- The pages of an image. -/
def pages (b : Bytes) : Tbl Bytes := (List.range 5).map fun i => (i, Bytes.slice b (256 * i) 256)
/-- One authority, the image in set A, and the directory. -/
def imageNv : Nv :=
  { auth := [(0, { hash := pubHash, programmed := true })], flashA := pages image
    dir0 := some ⟨1, false, { state := 4, svn := 5, fw := 7, tries := 3 }, {}⟩ }
def imaged (s : State) : State := { s with nv := imageNv }

/-- The check of a set reads the flash, OTP, MRAM and `TOP_HWTYPE` only. -/
theorem setCheck_congr (s u : State) (b f) (x : Nat → Bool) (n : u.nv = s.nv) (w : u.word 4 = s.word 4) :
    u.setCheck b x f = s.setCheck b x f := by
  unfold State.setCheck State.headerCheck State.flash State.hwType State.authOk State.floor?
  rw [n, w]

/-- The image is verified. -/
theorem image_ok : (imaged State.reset).setCheck false allComps = none := by decide +kernel

/-- A set that passes with every component passes with fewer. -/
theorem setCheck_fewer (s : State) (b f) (x : Nat → Bool) (h : s.setCheck b allComps f = none) : s.setCheck b x f = none := by
  unfold State.setCheck at h ⊢
  simp only at h ⊢
  split at h
  · cases h
  · split at h
    · rename_i d
      have : digestsOk (flashRead (s.flash b)) (flashRead (s.flash b) 0 1256) x = true := by
        unfold digestsOk at d ⊢
        simp only [List.all_eq_true, List.mem_filter] at d ⊢
        exact fun c hc => d c ⟨hc.1, rfl⟩
      simp [this]
    · cases h

/-! ## Modes, power and start -/

theorem test_rail : full.pw.vin = true ∧ gives (exec (.railOutOfRange 5 false) full) (fun u => u.pn.railBad &&
    u.fld F.PWR_STAT_rails_ok == 0 && u.fld F.PWR_STAT_vin_ok == 1) = true := by decide +kernel
theorem test_vin_fall : full.pw.vin = true ∧ full.pw.mode ≠ .hibernate ∧ full.fltOpen = false := by decide +kernel
theorem test_vin_rise : (let s : State := { hib with pw := { hib.pw with vin := false } }
    let cold : State := { s with rt := { s.rt with cold := true } }
    let fell := set [(F.PWR_STAT_hib_source, 2)] s
    let asked := set [(F.PWR_STAT_hib_source, 1)] s
    s.pw.vin = false ∧ s.fltOpen = false ∧ cold.rt.cold = true ∧ cold.pn.resetLow = false ∧
    fell.rt.cold = false ∧ 2 ≤ fell.fld F.PWR_STAT_hib_source ∧ asked.rt.wakes = [] ∧ asked.fld F.PWR_STAT_hib_source < 2 ∧
    gives (exec (.vinOkRise 5 x0) asked) (fun u => u.pw.mode == .hibernate && u.pw.vin) = true) := by decide +kernel
theorem test_brown_out : gives (exec (.vbackBrownOut 5) { full with rt := { full.rt with sec := 9 } }) (fun u =>
    u.rt.sec == 0 && !u.rt.cold && u.fld F.RTC_STAT_time_lost == 1 && u.rt.blog.length == 1) = true := by decide +kernel
theorem test_reset_pin : full.pw.vin = true ∧ full.fltOpen = false ∧
    gives (exec (.resetNAssert 5 199 true) full) (fun u => u.pw == full.pw && u.now == 5) = true ∧
    gives (exec (.resetNAssert 5 200 false) full) (fun u => u.pw == full.pw) = true := by decide +kernel
theorem test_release : (let s : State := { dawn .held with
      pw := { (dawn .held).pw with hold := some .pin }, tw := { full.tw with claim := 0, gate := false }
      pn := { full.pn with resetLow := true } }
    let rc : State := { s with pn := { s.pn with rcDown := true } }
    s.pw.hold = some .pin ∧ s.pn.rcDown = false ∧ s.tw.claim = 0 ∧ rc.pw.hold = some .pin ∧ rc.pn.rcDown = true ∧
    gives (exec (.resetNRelease 5 ⟨true, false, false⟩) s) (fun u => u.pw.mode == .rescue &&
      u.fld F.UPD_STAT_rescue_cause == 1) = true ∧
    gives (exec (.resetNRelease 5 x0) rc) (fun u => u.pw.hold == some .rc) = true) := by decide +kernel
theorem test_soft_reset : host0.barUp = true ∧ bitsN (0x5A5A0000#32 : Word).toNat 31 16 = 0x5A5A ∧ host0.fltOpen = false ∧
    gives (exec (.softwareReset 5 0#32 x0) host0) (fun u => u.pw == host0.pw) = true ∧ full.barUp = false := by decide +kernel
theorem test_doze_wakes : (let s := (doze.setWord 0x010008 0x3FFF#32).setFld F.GPI_WAKE_LVL_level 0xFF
    s.pw.mode = .doze ∧ s.pw.trans = none ∧ s.wakeOn 1 = true ∧ s.wakeOn 4 = true ∧ s.wakeOn 5 = true ∧
    s.wakeOn 6 = true ∧ s.wakeOn 13 = true ∧ bitN (s.word 0x480004).toNat 7 = false ∧ bitN s.pn.gpioExt 7 = false ∧
    bitN (s.fld F.GPI_WAKE_LVL_level) 7 = true ∧
    gives (exec (.wakeInRise 5 x0) s) (fun u => u.pw.trans == some .fromDoze && u.fld F.PWR_WAKE_CAUSE_wake_in == 1) = true ∧
    gives (exec (.ethSignalDetect 5 1) s) (fun u => (u.word 0x01000C).getLsbD 5) = true ∧
    gives (exec (.gpioWake 5 7 true) s) (fun u => (u.word 0x01000C).getLsbD 13 && u.pn.gpioExt == 128) = true) := by
  decide +kernel
theorem test_hib_wakes : (let s : State := { hib with pw := { hib.pw with vin := false } }
    hib.pw.mode = .hibernate ∧ hib.rt.wakeEn.getLsbD 1 = true ∧ hib.pw.vin = true ∧ hib.pn.resetLow = false ∧
    hib.pn.rcDown = false ∧ hib.fltOpen = false ∧ s.pw.vin = false ∧
    gives (exec (.wakeInRise 5 x0) s) (fun u => u.rt.wakes == [4]) = true) := by decide +kernel
theorem test_dusk_wake : (let s := set [(F.DSK_STAT_running, 1)] (({ full with pw := { full.pw with mode := .dusk } } :
      State).setWord 0x010008 2#32)
    s.pw.mode = .dusk ∧ s.wakeOn 1 = true ∧ s.fld F.DSK_STAT_running = 1 ∧ s.dk.abort = 0 ∧
    gives (exec (.wakeInRise 5 x0) s) (fun u => u.dk.abort == 2) = true ∧
    gives (exec (.wakeInRise 5 x0) full) (fun u => u.pw == full.pw) = true) := by decide +kernel
theorem test_rom : (let s := dawn .rom
    s.ck.refFailed = false ∧ s.pw.mode = .dawn ∧ Alone s ∧ s.pw.stage = .rom ∧ s.pw.hold = none ∧
    ((s.at 5).chooseSet [s.bootSet, !s.bootSet]).1 = none ∧
    gives (exec (.dawnImageVerified 5 false) s) (fun u => u.pw.mode == .rescue && u.fld F.UPD_STAT_rescue_cause == 3) = true ∧
    gives (exec (.dawnImageVerified 5 true) s) (fun u => u.pw.mode == .rescue && u.fld F.UPD_STAT_rescue_cause == 2) = true) := by
  decide +kernel
theorem test_rom_set : (((imaged (dawn .rom)).at 5).chooseSet [false, true]).1 = some false ∧
    (imaged (dawn .rom)).bootSet = false := by
  have h : ((imaged (dawn .rom)).at 5).setCheck false dawnComps = none :=
    setCheck_fewer _ _ _ _ ((setCheck_congr (imaged State.reset) ((imaged (dawn .rom)).at 5) _ _ _ rfl (by decide +kernel)).trans
      image_ok)
  have e : (((imaged (dawn .rom)).at 5).ent false).usable = true := by decide +kernel
  refine ⟨?_, by decide +kernel⟩
  have f : ((imaged (dawn .rom)).at 5).bootSet = false := by decide +kernel
  simp [State.chooseSet, e, h]
theorem test_verified : (let s : State := { dawn .verified with up := { full.up with running := some true } }
    s.pw.stage = .verified ∧ s.pw.trans = none ∧ s.fld F.CLK_STAT_a_lock = 1 ∧ s.up.running = some true ∧
    gives (exec (.dawnOnAir 7000000) s) (fun u => u.pw.stage == .training && u.pw.trans == some .toFull &&
      u.pw.wdog == some (7000000 + 1000000 * max 2000 (s.fld F.UPD_CFG_wdog_ms)) &&
      u.fld F.PWR_START_TIME_dawn_ms == 7) = true) := by decide +kernel
theorem test_training : (let s := dawn .training (some .toFull)
    s.pw.stage = .training ∧ s.pw.trans = some .toFull ∧ s.fld F.CLK_STAT_a_lock = 1 ∧ s.fld F.CLK_STAT_b_lock = 1 ∧
    s.fld F.CLK_STAT_ddr_lock = 1 ∧ (dawn .training).pw.trans = none ∧
    gives (exec (.dramTrainingDone 5 true true) s) (fun u => u.pw.stage == .loading && u.pw.dram) = true ∧
    gives (exec (.dramTrainingDone 5 false true) s) (fun u => u.pw.trans == none &&
      u.fld F.PWR_STAT_vddq_missing == 1) = true ∧
    gives (exec (.vddqRetry 5 true) (dawn .training)) (fun u => u.pw.trans == some .toFull) = true) := by decide +kernel
def loading : State := { imaged full with pw := (dawn .loading).pw }
theorem test_loading : loading.ck.refFailed = false ∧ loading.pw.mode = .dawn ∧ Alone loading ∧ loading.pw.stage = .loading ∧
    loading.loadSet = false ∧ loading.setCheck false allComps = none :=
  ⟨by decide +kernel, by decide +kernel, by decide +kernel, by decide +kernel, by decide +kernel,
    (setCheck_congr (imaged State.reset) loading _ _ _ rfl (by decide +kernel)).trans image_ok⟩
theorem test_engines : (let s := dawn .engines (some .toFull)
    s.pw.stage = .engines ∧ s.pw.trans = some .toFull ∧ (s.ent (!s.loadSet)).usable = false ∧
    gives (exec (.enginesLoaded 5 true [] x0) s) (fun u => u.pw.stage == .done) = true) := by decide +kernel
theorem test_done : (let s := dawn .done (some .toFull)
    s.pw.stage = .done ∧ s.pw.trans = some .toFull ∧ s.lhReady false = true ∧ s.lhReady true = true ∧
    gives (exec (.fullReached 5 true []) s) (fun u => u.pw.mode == .full && u.pw.prevMode == 2) = true) := by decide +kernel
theorem test_boot_wdog : (let s := dawn .training (some .toFull)
    let s : State := { s with pw := { s.pw with wdog := some 100 } }
    s.pw.wdog = some 100 ∧ max s.now 99 < 100 ∧ 100 ≤ max s.now 100 ∧ (s.ent (!s.loadSet)).usable = false) := by
  decide +kernel
theorem test_mode_request : (let c (m : Nat) := cmd [(1, m)]
    let move (s : State) : State := { s with pw := { s.pw with trans := some .toDoze } }
    Ready host0 (c 3) .command ∧ host0.pw.mode = .full ∧ (c 3).f 0 1 = 3 ∧ (c 3).f 1 1 = 0 ∧ (c 3).f 4 4 = 0 ∧
    (c 3).zero 2 2 = true ∧ (c 3).zero 8 16 = true ∧ host0.moving = false ∧ (move host0).moving = true ∧
    host0.tw.role = .solo ∧ host0.fld F.PWR_RADIO_PERS_s_eff = 1 ∧ host0.io.hf.deferred = [] ∧
    gives (exec (.modeRequest 5 (c 0)) (move host0)) (replied stUNSUPPORTED) = true ∧
    gives (exec (.modeRequest 5 (c 3)) host0) (replied stOK) = true ∧
    gives (exec (.modeRequest 5 (c 0)) host0) (fun u => replied stDEFERRED u && u.pw.trans == some .toHibernate) = true ∧
    gives (exec (.modeRequest 5 (c 1)) host0) (fun u => replied stDEFERRED u && u.pw.trans == some .toDoze) = true ∧
    gives (exec (.modeRequest 5 (c 2)) host0) (fun u => replied stDEFERRED u && u.pw.trans == some .toDawn) = true ∧
    gives (exec (.modeRequest 5 (c 4)) host0) (fun u => replied stDEFERRED u && u.pw.trans == some .toDusk) = true) := by
  decide +kernel
theorem test_mode_refused : (let s := set [(F.PWR_RADIO_PERS_s_eff, 0)] host0
    let q : State := { host0 with io := { host0.io with hf := { host0.io.hf with deferred := [⟨5, 0, 1, 0, 3, 0⟩] } } }
    Ready s (cmd [(1, 1)]) .command ∧ s.fld F.PWR_RADIO_PERS_s_eff = 0 ∧ Ready q (cmd [(1, 4)]) .command ∧
    q.io.hf.deferred ≠ [] ∧ gives (exec (.modeRequest 5 (cmd [(1, 1)])) s) (replied stUNSUPPORTED) = true ∧
    gives (exec (.modeRequest 5 (cmd [(1, 4)])) q) (replied stUNSUPPORTED) = true) := by decide +kernel
theorem test_doze_entry : (let s : State := { full with
      pw := { full.pw with trans := some .toDoze }, sr := { input := [(0, { src := .eth 0, data := [] }), (1, { src := .ctrl, data := [] })] } }
    Alone s ∧ s.pw.trans = some .toDoze ∧ s.startedWork = false ∧ s.pw.mode = .full ∧
    gives (exec (.dozeEntry 5) s) (fun u => u.pw.mode == .doze && u.sr.input.length == 1 &&
      u.fld F.PWR_RADIO_PERS_l_eff == 0 && u.fld F.CLK_STAT_timebase_src == 1) = true) := by decide +kernel
theorem test_doze_hold : (let s : State := { doze with pw := { doze.pw with held := [{ cells := 100000, at_ns := 0, data := [], src := 1 }] } }
    Alone s ∧ s.pw.mode = .doze ∧ s.pw.trans = none ∧ max 1 (s.fld F.PWR_DOZE_CFG_hold_cells) ≤ s.heldCells ∧
    s.pw.slotPowered = false ∧ s.ck.refFailed = false ∧
    gives (exec (.dozeHoldLimit 5) s) (fun u => u.pw.trans == some .fromDoze && (u.word 0x01000C).getLsbD 14) = true ∧
    gives (exec (.dozeSlotWake 5) s) (fun u => u.pw.slotPowered) = true) := by decide +kernel
theorem test_from_doze : (let s : State := { doze with pw := { doze.pw with trans := some .fromDoze } }
    s.pw.mode = .doze ∧ s.pw.trans = some .fromDoze ∧ s.ck.refFailed = false ∧ s.pw.held = [] ∧
    gives (exec (.fullReached 5 true []) s) (fun u => u.pw.mode == .full && u.pw.prevMode == 1) = true) := by decide +kernel
theorem test_to_hibernate : ({ full with pw := { full.pw with trans := some .toHibernate } } : State).pw.trans =
    some .toHibernate := rfl
theorem test_to_dawn : (let s : State := { full with pw := { full.pw with trans := some .toDawn } }
    Alone s ∧ s.pw.trans = some .toDawn ∧ s.pw.mode = .full) := by decide +kernel
theorem test_snapshot : (let s := set [(F.PWR_SNAP_CFG_enable, 1)] full
    s.flag F.PWR_SNAP_CFG_enable = true ∧ s.pw.mode = .full ∧
    s.pw.snapAt + 1000000000 * clamp 10 3600 (s.eFld F.PWR_SNAP_CFG_interval_s) ≤ max s.now 3600000000000 ∧
    gives (exec (.snapshotPeriodic 3600000000000 true) s) (fun u => (u.nv.snap0.map (·.seq)) == some 1 ||
      (u.nv.snap1.map (·.seq)) == some 1) = true ∧
    gives (exec (.snapshotPeriodic 3600000000000 false) s) (fun u => u.fld F.PWR_SNAP_STAT_write_err == 1) = true) := by
  decide +kernel

/-! ## Clocks -/

theorem test_rc : full.powered = true ∧ full.pw.mode ≠ .hibernate ∧ full.pw.vin = true ∧ full.pn.rcDown = false ∧
    gives (exec (.rcOscFailOne 5) full) (fun u => u.fld F.CLK_FAIL_rc_one == 1 && u.fld F.CLK_STAT_rc_count == 0) = true ∧
    (let s : State := { dawn .held with
        pw := { (dawn .held).pw with hold := some .rc }, tw := { full.tw with claim := 0, gate := false }
        pn := { full.pn with rcDown := true } }
     s.pn.rcDown = true ∧ s.pw.hold = some .rc ∧ s.pn.resetLow = false ∧ s.tw.claim = 0) := by decide +kernel
theorem test_rc_trim : (let s := set [(F.CLK_STAT_xtal_ok, 0)] full
    s.fld F.CLK_STAT_xtal_ok = 0 ∧ full.fld F.CLK_STAT_xtal_ok ≠ 0 ∧
    gives (exec (.rcTrimTick 5 96048001) s) (fun u => u.fld F.CLK_RC_TRIM_frozen == 1) = true ∧
    gives (exec (.rcTrimTick 5 96048001) full) (fun u => u.fld F.CLK_RC_TRIM_code + 1 == full.fld F.CLK_RC_TRIM_code) = true ∧
    gives (exec (.rcTrimTick 5 95951999) full) (fun u => u.fld F.CLK_RC_TRIM_code == full.fld F.CLK_RC_TRIM_code + 1) = true ∧
    gives (exec (.rcTrimTick 5 96048000) full) (fun u => u.fld F.CLK_RC_TRIM_code == full.fld F.CLK_RC_TRIM_code) = true) := by
  decide +kernel
theorem test_refclk : full.powered = true ∧ full.ck.refFailed = false ∧ Alone full ∧ full.fld F.CLK_STAT_xtal_ok = 1 ∧
    refOut 39072 = true ∧ refOut 39053 = true ∧ refOut 39054 = false ∧ refOut 39071 = false ∧
    gives (exec (.refclkFreqDetect 5 39053 39054) full) (fun u => u.fld F.CLK_REF_COUNT_count == 39054 && !u.ck.refFailed) = true := by
  decide +kernel
theorem test_refclk_back : (let s : State := { full with ck := { full.ck with refFailed := true, forced := true } }
    let off : State := { s with pw := { s.pw with hold := some .pin } }
    s.powered = true ∧ s.ck.refFailed = true ∧ s.fl.live % 2 = 0 ∧ off.powered = false ∧ s.pw.mode = .full ∧
    (s.at 5).justReturned = false ∧ Alone s ∧
    gives (exec (.refclkAbsent100ms 5) s) (fun u => u.fl.live == 1 && u.fld F.TEL_FAULT_clock_supply == 1) = true ∧
    gives (exec (.refclkReturn 5) off) (fun u => !u.ck.refFailed && u.fld F.CLK_STAT_ref_ok == 1) = true) := by decide +kernel
theorem test_xtal : full.pw.vin = true ∧ full.pw.mode ≠ .hibernate ∧ full.fld F.CLK_STAT_xtal_ok = 1 ∧ hib.pw.mode = .hibernate ∧
    (set [(F.CLK_STAT_xtal_ok, 0)] full).fld F.CLK_STAT_xtal_ok = 0 ∧
    gives (exec (.xtal32Stop 5) full) (fun u => u.fld F.CLK_STAT_tick_src == 1 && u.rt.frac == 8) = true ∧
    gives (exec (.xtal32Restart 5) (set [(F.CLK_STAT_xtal_ok, 0)] full)) (fun u => u.fld F.CLK_STAT_tick_src == 0 &&
      u.fld F.CLK_STAT_xtal_ok == 1) = true ∧
    gives (exec (.xtal32GapHibernate 5) hib) (fun u => u.fld F.RTC_STAT_xtal_gap == 1) = true := by decide +kernel
theorem test_pll : full.powered = true ∧ (∀ p < 7, full.fld (pllLock p) = 1) ∧ Alone full ∧ host0.io.hf.lost = none ∧
    full.ck.refFailed = false ∧
    gives (exec (.pllUnlock 5 6) full) (fun u => u.fld (pllLock 6) == 0 && u.fld F.CLK_FAIL_pll_unlock == 64) = true ∧
    gives (exec (.pllRelockAttempt 5 6 true) (set [(F.CLK_STAT_twin_lock, 0)] full)) (fun u => u.fld (pllLock 6) == 1) = true ∧
    (set [(F.CLK_STAT_twin_lock, 0)] full).fld (pllLock 6) = 0 := by decide +kernel
theorem test_op_step : (let s : State := { full with ck := { full.ck with seqTo := some 3 } }
    s.ck.seqTo = some 3 ∧ min (s.fld F.CLK_OP_CFG_target) (min s.modeLimit (s.fld F.CLK_OP_STAT_cap)) = 3 ∧
    gives (exec (.opStepDone 5) s) (fun u => u.fld F.CLK_OP_STAT_op == 3 && u.ck.seqTo == none) = true) := by decide +kernel
theorem test_thermal : full.powered = true ∧ full.pw.mode ≠ .dusk ∧
    gives (exec (.thermalCapChange 5 120) full) (fun u => u.fld F.CLK_OP_STAT_cap == 1) = true ∧
    gives (exec (.thermalCapChange 5 119) full) (fun u => u.fld F.CLK_OP_STAT_cap == 2) = true ∧
    gives (exec (.thermalCapChange 5 115) (set [(F.CLK_OP_STAT_cap, 1)] full)) (fun u => u.fld F.CLK_OP_STAT_cap == 2) = true ∧
    gives (exec (.thermalCapChange 5 111) (set [(F.CLK_OP_STAT_cap, 1)] full)) (fun u => u.fld F.CLK_OP_STAT_cap == 2) = true ∧
    gives (exec (.thermalCapChange 5 110) (set [(F.CLK_OP_STAT_cap, 2)] full)) (fun u => u.fld F.CLK_OP_STAT_cap == 3) = true ∧
    gives (exec (.gateCloseTimeout 5 22 none []) full) (fun u => u.fld F.CLK_GATE_ERR_block == 22 &&
      u.fld F.CLK_GATE_ERR_count == 1) = true := by decide +kernel

/-! ## Triplicate and the Post-box -/

def pair (resync : Nat) : State :=
  set [(F.TPL_STAT_voting, 5), (F.TPL_STAT_pair_mode, 1), (F.TPL_STAT_resync_busy, resync), (F.TPL_STAT_resync_lane, 1)] full
theorem test_lane : full.votes = true ∧ bitN (full.fld F.TPL_STAT_voting) 2 = true ∧ full.fld F.TPL_STAT_pair_mode = 0 ∧
    Alone full ∧ gives (exec (.laneDisagreement 5 2 .compare) full) (fun u => u.fld F.TPL_STAT_voting == 3 &&
      u.fld F.TPL_STAT_resync_busy == 1 && u.fld F.TPL_STAT_retired == 0) = true ∧
    (let s : State := { full with tp := { full.tp with marks := [(2, 0), (2, 0)] } }
     gives (exec (.laneDisagreement 60000000000 2 .memory) s) (fun u => bitN (u.fld F.TPL_STAT_retired) 2) = true ∧
     gives (exec (.laneDisagreement 60000000001 2 .memory) s) (fun u => u.fld F.TPL_STAT_retired == 0) = true) ∧
    (pair 0).votes = true ∧ bitN ((pair 0).fld F.TPL_STAT_voting) 2 = true ∧ (pair 0).fld F.TPL_STAT_pair_mode = 1 ∧
    Alone (pair 0) ∧ gives (exec (.laneDisagreement 5 2 .compare) (pair 0)) (fun u => u.tp.pairFail == some 5 && u.tw.claim == 0) = true ∧
    gives (exec (.pairDisagreement 5) (pair 0)) (fun u => u.tp.pairFail == some 5 && u.ck.forced) = true := by decide +kernel
theorem test_resync : (let s : State := { pair 1 with tp := { full.tp with resyncAt := 1000 } }
    let r : State := { s with tp := { s.tp with copyRestarted := true } }
    s.votes = true ∧ s.fld F.TPL_STAT_resync_busy = 1 ∧ s.fld F.TPL_STAT_resync_lane = 1 ∧ s.tp.copyRestarted = false ∧
    r.tp.copyRestarted = true ∧ Alone r ∧
    gives (exec (.laneDisagreement 5 1 .readBack) s) (fun u => u.tp.copyRestarted && u.fld F.TPL_STAT_retired == 0) = true ∧
    gives (exec (.laneDisagreement 5 1 .readBack) r) (fun u => bitN (u.fld F.TPL_STAT_retired) 1) = true ∧
    gives (exec (.resyncRejoin 3001) s) (fun u => u.fld F.TPL_STAT_voting == 7 && u.fld F.TPL_RESYNC_last_us == 3) = true) := by
  decide +kernel
theorem test_fatal : (let s : State := { pair 0 with tp := { full.tp with pairFail := some 50 } }
    s.tp.pairFail = some 50 ∧ max s.now 10049 < 50 + 10000 ∧ 50 + 10000 ≤ max s.now 10050 ∧ s.fltOpen = false ∧
    s.pn.resetLow = false ∧ s.pn.rcDown = false ∧
    gives (exec (.tplFatalReset 10049 x0) s) (fun u => u.tp == s.tp && u.pw == s.pw) = true) := by decide +kernel
theorem test_pbox : (let s := set [(F.TPL_STAT_code, 1)] full
    let p : State := { full with tp := { full.tp with pbox := [List.replicate 1024 0#64] } }
    let q : State := { full with tp := { full.tp with pbox := [[1#64, 2#64], [3#64]] } }
    let o : State := { full with tp := { full.tp with pbox := [[3#64]], read := [1#64] } }
    s.votes = true ∧ s.fld F.TPL_STAT_code = 1 ∧ s.tp.words < 1024 ∧ 1024 ≤ p.tp.words ∧ full.inFull = true ∧
    full.tp.pbox = [] ∧ q.tp.pbox = (1#64 :: 2#64 :: []) :: [[3#64]] ∧ o.tp.pbox = [3#64] :: [] ∧
    gives (exec (.pboxStateRefresh 5) s) (fun u => u.tp.pbox.length == 1 && u.tp.pseq == 1) = true ∧
    gives (exec (.pboxPop 5 0#64) full) (fun u => u.io.out == [.pbox 0#64]) = true ∧
    gives (exec (.pboxPop 5 4#64) q) (fun u => u.io.out == [.pbox 5#64] && u.tp.pbox == [[2#64], [3#64]] && u.tp.read == [5#64]) = true ∧
    gives (exec (.pboxPop 5 0#64) o) (fun u => u.tp.pbox == [] && u.fld F.TPL_PBOX_ERR_crc_drop == 1) = true) := by
  decide +kernel
theorem test_pbox_full : (let s : State := { set [(F.TPL_STAT_code, 1)] full with tp := { full.tp with pbox := [List.replicate 1024 0#64] } }
    s.votes = true ∧ s.fld F.TPL_STAT_code = 1 ∧ 1024 ≤ s.tp.words ∧
    gives (exec (.pboxStateRefresh 5) s) (fun u => u.tp.plost == 1 && u.fld F.TPL_PBOX_ERR_overflow == 1) = true) := by
  decide +kernel

/-! ## Register accesses -/

theorem test_discarded : full.barUp = false ∧ host0.barUp = true ∧ doze.pw.mode = .doze ∧ host0.blockOn 0x100008 = true ∧
    famOf 0x0000FC = none ∧ (hosted doze).barUp = true ∧ (hosted doze).blockOn 0x100008 = false ∧ host0.blockOn 0x0000FC = true ∧
    gives (exec (.registerWrite 5 0x1C 3 7) host0) (fun u => u.fld F.HIF_ACC_ERR_narrow_wr == 1 && u.word 0x05001C == 0x0100001C#32) = true ∧
    gives (exec (.registerWrite 5 0x1E 4 7) host0) (fun u => u.fld F.HIF_ACC_ERR_narrow_wr == 1) = true ∧
    gives (exec (.registerWrite 5 0x100008 4 7) (hosted doze)) (fun u => u.fld F.HIF_ACC_ERR_gated == 1 &&
      u.word 0x05001C == 0x02100008#32) = true := by decide +kernel
/-- `SRX_SYNTH_CFG` (RW-Q) while Radio S runs and while it is stopped; `TOP_SCRATCH` (RW); `PWR_RESET_CAUSE` (W1C). -/
theorem test_types : (let q := set [(F.PWR_RADIO_PERS_s_eff, 0)] host0
    host0.barUp = true ∧ host0.blockOn 0x00001C = true ∧ (famOf 0x00001C).isSome = true ∧ (famOf 0x010010).isSome = true ∧
    cfgErr 0x100034 = some F.SRX_STAT_cfg_err ∧ host0.regStopped 0x100034 = false ∧ q.regStopped 0x100034 = true ∧
    gives (exec (.registerWrite 5 0x00001C 4 0xA5A5A5A5) host0) (fun u => u.word 0x00001C == 0xA5A5A5A5#32) = true ∧
    gives (exec (.registerWrite 5 0x010010 4 4) host0) (fun u => u.word 0x010010 == 0#32) = true) := by decide +kernel
theorem test_undefined_read : (hosted full).barUp = true ∧ famOf 0x00FFFC = none ∧
    gives (exec (.pairLoRead 5 0x00FFFC) host0) (fun u => u.io.out == [.readData 0x00FFFC 0#32]) = true := by decide +kernel
theorem test_pair : host0.barUp = true ∧ isPairLo 0x140220 = true ∧ (0x140220 : Nat) ≠ 0x030004 ∧ host0.blockOn 0x140220 = true ∧
    host0.blockOn 0x140224 = true ∧
    gives (exec (.registerWrite 5 0x140220 4 9) host0) (fun u => u.word 0x140220 == host0.word 0x140220 &&
      u.io.heldLo == [(0x140220, 9#32)]) = true ∧
    gives (exec (.registerWrite 5 0x140224 4 0x1FF) { host0 with io := { host0.io with heldLo := [(0x140220, 9#32)] } })
      (fun u => u.word 0x140220 == 9#32 && u.word 0x140224 == 0xFF#32) = true ∧
    gives (exec (.pairLoRead 5 0x140220) host0) (fun u => u.io.latch == [(0x140224, host0.readReg 0x140224)]) = true := by
  decide +kernel
theorem test_cal_commands : (let d : State := { host0 with pw := { host0.pw with mode := .dawn } }
    host0.barUp = true ∧ host0.pw.mode = .full ∧ d.barUp = true ∧ d.pw.mode = .dawn ∧ host0.inFull = true ∧
    host0.fld (radioEff true) ≠ 0 ∧ (host0.radio true).stopped = false ∧ host0.fld (F.LRX_STAT_cal.on true) = 0 ∧
    (set [(F.LRX_STAT_cal.on true, 1)] host0).fld (F.LRX_STAT_cal.on true) ≠ 0 ∧
    gives (exec (.srxCalQuick 5) host0) (fun u => u.fld F.SRX_CAL_STAT_pending == 1 && !u.rs.calFull) = true ∧
    gives (exec (.srxCalFull 5) host0) (fun u => u.fld F.SRX_CAL_STAT_pending == 1 && u.rs.calFull) = true ∧
    gives (exec (.srxCalFull 5) d) (fun u => u.rs.calHeld == 2) = true ∧
    gives (exec (.lhCalFull 5 true) host0) (fun u => u.fld (F.LRX_STAT_cal.on true) == 2 && u.lh.h.calAt == 5) = true ∧
    gives (exec (.lhCalChannel 5 false) host0) (fun u => u.fld F.LRX_STAT_cal == 1) = true ∧
    gives (exec (.lhCalChannel 5 true) (set [(F.LRX_STAT_cal.on true, 1)] host0)) (fun u => u.lh.h.held == 1) = true) := by
  decide +kernel
theorem test_gpi_dusk : (let s : State := set [(F.DSK_STAT_running, 1)] { host0 with pw := { host0.pw with mode := .dusk } }
    host0.barUp = true ∧ s.barUp = true ∧ s.pw.mode = .dusk ∧ s.flag F.DSK_STAT_running = true ∧ s.dk.abort = 0 ∧
    gives (exec (.gpiSet 5 0x81#32) host0) (fun u => u.word 0x480008 == 0x81#32) = true ∧
    gives (exec (.gpiClr 5 0x80#32) (host0.setWord 0x480008 0x81#32)) (fun u => u.word 0x480008 == 1#32) = true ∧
    gives (exec (.dskAbort 5 0x5A5A0001#32) s) (fun u => u.dk.abort == 4 && u.dk.abortAt == 5) = true ∧
    gives (exec (.dskAbort 5 0x5A5B0001#32) s) (fun u => u.dk == s.dk) = true) := by decide +kernel


/-! ## Radio S -/

/-- A register word written and in effect. -/
def eset (l : List (Fld × Nat)) (s : State) : State := (set l s).latchRegs (l.map fun x => x.1.off)

/-- A slot of the mesh: slot 0 is a U slot, slot 3 a D slot. -/
def slot (n : Nat) (s : State) : State := { s with ml := { s.ml with slot := n } }

theorem test_rx_window : (let m1 := set [(F.SRX_AGC_CFG_lna_mode, 1), (F.COX_B_CFG_req_rx, 1)] full
    let m2 := set [(F.SRX_AGC_CFG_lna_mode, 2)] full
    let o : State := { full with rs := { full.rs with window := some false, demods := [(3, .psdu 1 900 20 0 false false)] } }
    full.sServes = true ∧ full.rs.window = none ∧ full.rs.tx = none ∧ full.fld F.SRX_STAT_cal = 0 ∧
    m1.sServes = true ∧ m2.sServes = true ∧ m1.isShadow = false ∧
    o.rs.window = some false ∧ o.rs.paEn = false ∧ o.rs.tx = none ∧ o.rs.demods = [(3, .psdu 1 900 20 0 false false)] ∧
    gives (exec (.rxWindowOpen 5 true (-60) (-60)) m1) (fun u => u.rs.window == some true && u.rs.coxbReq && !u.rs.coxbPri &&
      !u.rs.lnaRx) = true ∧
    gives (exec (.rxWindowOpen 5 true (-60) 10) m1) (fun u => u.rs.lnaRx && u.fld F.SRX_STAT_lna_byp == 1) = true ∧
    gives (exec (.rxWindowOpen 5 true (-60) (-60)) m2) (fun u => u.rs.lnaRx) = true ∧
    gives (exec (.rxWindowClose 5) o) (fun u => u.rs.window == none && u.fld F.SRX_RX_ERR_truncated == 1 &&
      u.rs.rx.map (fun f => (f.truncated, f.demod, f.sfdEnd, f.psdu)) == [(true, 3, 900, [])]) = true) := by decide +kernel

def rxAt (d : Tbl DemodState) : State := { full with rs := { full.rs with window := some false, demods := d } }
theorem test_demod : (let a := rxAt []
    let b := rxAt [(0, .preamble true false 4)]
    let both := rxAt [(0, .preamble true true 4)]
    let d := rxAt [(0, .decided 1 true 4)]
    a.rs.window ≠ none ∧ a.demodChannel 0 = some 0 ∧ a.demodProfile 0 = some 0 ∧ a.eFld F.SRX_DIV_CFG_div_mode = 0 ∧
    d.eFld F.SRX_SFD_CFG_sfd_err = 1 ∧ maxPsdu ((d.demodProfile 0).getD 0) = 96 ∧
    gives (exec (.preambleDetect 5 0 1) a) (fun u => u.rs.demods == [(0, .preamble false true 5)] &&
      u.fld F.SRX_STAT_frozen1 == 1 && u.fld F.SRX_STAT_frozen0 == 0) = true ∧
    gives (exec (.preambleDetect 5 0 1) b) (fun u => u.rs.demods == [(0, .preamble true true 4)]) = true ∧
    gives (exec (.diversityDecision 5 0 10 10) both) (fun u => u.rs.demods == [(0, .decided 0 true 4)]) = true ∧
    gives (exec (.diversityDecision 5 0 10 11) both) (fun u => u.rs.demods == [(0, .decided 1 true 4)]) = true ∧
    gives (exec (.diversityDecision 5 0 10 11) b) (fun u => u.rs.demods == [(0, .decided 0 false 4)]) = true ∧
    gives (exec (.sfdFound 9 0 2 ⟨false, true, true, 96⟩) d) (fun u => u.rs.demods == [(0, .decided 1 true 4)]) = true ∧
    gives (exec (.sfdFound 9 0 1 ⟨false, true, true, 96⟩) d) (fun u => u.rs.demods == [(0, .psdu 1 9 96 1 false false)]) = true ∧
    gives (exec (.sfdFound 9 0 1 ⟨false, true, true, 97⟩) d) (fun u => u.rs.demods == [] && u.fld F.SRX_RX_ERR_len_err == 1) = true ∧
    gives (exec (.sfdFound 9 0 0 ⟨false, true, true, 0⟩) d) (fun u => u.fld F.SRX_RX_ERR_len_err == 1) = true ∧
    gives (exec (.sfdFound 9 0 0 ⟨true, true, true, 9⟩) d) (fun u => u.fld F.SRX_RX_ERR_len_err == 1) = true ∧
    gives (exec (.sfdSearchTimeout 9 0) d) (fun u => u.rs.demods == []) = true) := by decide +kernel

/-- Mesh and Wi-Fi share Radio L; its mesh index 0 is channel 15. -/
def shared : State := set [(F.PWR_RADIO_PERS_l_eff, 2), (F.LRX_MESH_CH_0_ch, 0x1A17148F)] full
theorem test_clip : (let a := set [(F.SRX_STAT_frozen1, 1)] (rxAt [(0, .psdu 1 9 2 1 false false)])
    let n : State := { a with io := (eset [(F.SRX_AGC_CFG_step_en, 0)] a).io }
    let b := set [(F.SRX_STAT_step1, 1)] a
    a.rs.window ≠ none ∧ a.flag F.SRX_STAT_frozen1 = true ∧ a.eFlag F.SRX_AGC_CFG_step_en = true ∧ a.flag F.SRX_STAT_step1 = false ∧
    n.eFlag F.SRX_AGC_CFG_step_en = false ∧ b.flag F.SRX_STAT_step1 = true ∧ a.fltOpen = false ∧
    gives (exec (.adcClip 5 1) a) (fun u => u.rs.demods == [(0, .psdu 1 9 2 1 true false)] && u.fld F.SRX_AGC_EVT_steps == 1) = true ∧
    gives (exec (.adcClip 5 1) n) (fun u => u.rs.demods == [(0, .psdu 1 9 2 1 false true)]) = true ∧
    gives (exec (.adcClip 5 1) b) (fun u => u.rs.demods == [(0, .psdu 1 9 2 1 false true)] &&
      u.fld F.SRX_AGC_EVT_clip_frames == 1) = true ∧
    gives (exec (.frameDelivery 5 0 none [7#8, 8#8] (-70) 3) a) (fun u => u.rs.demods == [] && u.fld F.SRX_RX_FRAMES_frames == 1 &&
      u.rs.rx.map (fun f => (f.psdu, f.rssi, f.chain, f.sfdEnd)) == [([7#8, 8#8], -70, 1, 9)]) = true) := by decide +kernel
theorem test_l_delivery : shared.fltOpen = false ∧ shared.lServes 0 = true ∧ shared.ml.inWindow 1000000 = true ∧
    shared.ml.inWindow 20500000 = true ∧ shared.ml.inWindow 999999 = false ∧ shared.ml.inWindow 20500001 = false ∧
    gives (exec (.frameDelivery 20500000 0 (some ⟨0, 1000000, true, false⟩) (List.replicate 130 1#8) (-70) 3) shared)
      (fun u => u.rs.rx.map (fun f => (f.psdu.length, f.onL, f.sfdEnd)) == [(127, some 0, 1000000)]) = true := by decide +kernel

theorem test_s_cal : (let p := slot 3 (set [(F.SRX_CAL_STAT_pending, 1)] full)
    let c1 : State := set [(F.SRX_STAT_cal, 1)] full
    let c2 : State := set [(F.SRX_STAT_cal, 2)] full
    let l : State := { set [(F.SRX_STAT_lock, 0)] full with rs := {} }
    full.pw.mode = .full ∧ full.flag F.PWR_RADIO_PERS_s_eff = true ∧ full.rs.calTemp = 0 ∧
    max 2 (full.fld F.SRX_CAL_CFG_temp_delta) = 10 ∧
    p.fld F.SRX_CAL_STAT_pending = 1 ∧ p.fld F.SRX_STAT_cal = 0 ∧ p.sServes = true ∧ p.ml.isD p.ml.slot = true ∧
    full.ml.isD full.ml.slot = false ∧ c1.fld F.SRX_STAT_cal ≠ 0 ∧ c1.rs.switching = false ∧ c1.rs.calRetry = false ∧
    l.flag F.PWR_RADIO_PERS_s_eff = true ∧ l.rs.ready = none ∧ l.fld F.SRX_STAT_lock = 0 ∧ l.fld F.SRX_STAT_cal = 0 ∧ l.rs.tx = none ∧
    gives (exec (.srxCalDue 5 (-10)) full) (fun u => u.fld F.SRX_CAL_STAT_pending == 1) = true ∧
    gives (exec (.srxCalDue 5 9) full) (fun u => u.fld F.SRX_CAL_STAT_pending == 0) = true ∧
    gives (exec (.srxCalStart 5) p) (fun u => u.fld F.SRX_STAT_cal == 2 && u.rs.ready == none) = true ∧
    gives (exec (.srxCalDone 5 true (-3)) c2) (fun u => u.fld F.SRX_CAL_STAT_last_temp == 0xFD &&
      u.nv.calS == some (full.fld F.SRX_SYNTH_CFG_centre_khz, 0, -3) && u.fld F.SRX_CAL_STAT_last_type == 2) = true ∧
    gives (exec (.srxCalDone 5 true (-3)) c1) (fun u => u.nv == full.nv && u.fld F.SRX_CAL_STAT_last_type == 1) = true ∧
    gives (exec (.srxCalDone 5 false 0) c1) (fun u => u.fld F.SRX_CAL_STAT_failed == 1 && u.rs.calRetry) = true ∧
    gives (exec (.synthLockLoss 5) full) (fun u => u.fld F.SRX_STAT_lock == 0 && u.rs.ready == none) = true ∧
    gives (exec (.synthRelockDone 5 true) l) (fun u => u.fld F.SRX_STAT_lock == 1 && u.rs.ready == some 5) = true) := by
  decide +kernel

/-- A carrier of P1 on a channel: 64 bits of preamble and a PSDU of two bytes, 2.24 ms. -/
def car (ch : Nat) (w : TxWhat := .test) : Carrier := ⟨ch, 0, 64, false, [1#8, 2#8], w⟩
def req (start deadline : Nat) (cs : List Carrier) : TxReq := ⟨start, deadline, 20000000, true, false, cs⟩
def job (e : Option Nat) (started : Bool := false) : State :=
  { full with rs := { full.rs with tx := some ⟨req 5 1000000 [car 0], 5, e, started⟩ } }
theorem test_tx_request : (let w : State := { full with rs := { full.rs with ready := none } }
    full.sServes = true ∧ full.rs.tx = none ∧ full.rs.ready = some 0 ∧ w.rs.ready = none ∧ w.sServes = true ∧
    TxReq.valid (req 5 96005 [car 0]) full.grid100 = true ∧ TxReq.valid (req 5 96005 [car 64]) full.grid100 = false ∧
    TxReq.dur (req 5 96005 [car 0]) = 2240000 ∧ (job none).rs.tx = some ⟨req 5 1000000 [car 0], 5, none, false⟩ ∧
    gives (exec (.txRequest 5 (req 5 96005 [car 64])) full) (fun u => u.rs.outcome == stBAD_ARG && u.rs.tx == none) = true ∧
    gives (exec (.txRequest 5 (req 5 96005 [car 0])) full) (fun u => u.rs.tx == some ⟨req 5 96005 [car 0], 5, some 96005, false⟩) = true ∧
    gives (exec (.txRequest 5 (req 5 96005 [car 0])) w) (fun u => u.rs.tx == some ⟨req 5 96005 [car 0], 5, none, false⟩) = true ∧
    gives (exec (.txRequest 5 (req 5 96004 [car 0])) full) (fun u => u.rs.outcome == stLATE && u.fld F.SRX_TX_ERR_late == 1) = true ∧
    gives (exec (.txDecisionDeadline 904000) (job none)) (fun u => u.rs.outcome == stLATE && u.rs.tx == none) = true ∧
    gives (exec (.txDecisionDeadline 903999) (job none)) (fun u => u.rs.tx.isSome) = true) := by decide +kernel
theorem test_turnaround : (let j := job (some 500000)
    let en : State := j.setFld F.COX_B_CFG_en 0
    let shut : State := { j with tw := { j.tw with gate := false } }
    j.rs.tx = some ⟨req 5 1000000 [car 0], 5, some 500000, false⟩ ∧ j.rs.window = none ∧ j.flag F.COX_B_STAT_ext_gnt = false ∧
    500000 ≤ max j.now 404000 + 96000 ∧ en.outEnabled = true ∧ en.flag F.COX_B_CFG_en = false ∧ shut.outEnabled = false ∧
    s8 (j.fld F.SRX_CCA_CFG_cca_thresh) = -85 ∧ ccaKeep (-85) [car 0] [-85] = [car 0] ∧ ccaKeep (-85) [car 0] [-84] = [] ∧
    j.outEnabled = true ∧ j.flag F.COX_B_CFG_en = true ∧ j.flag F.COX_B_CFG_honour_gnt = true ∧
    gives (exec (.rxToTxTurnaround 404000 [-85] false) en) (fun u => u.io.out == [.radioS 0 0 500000 [1#8, 2#8]] && u.rs.paEn &&
      u.rs.trsw && u.fld F.SRX_STAT_tx_active == 1 && u.rs.tx.any (·.started)) = true ∧
    gives (exec (.rxToTxTurnaround 404000 [-85] true) shut) (fun u => u.rs.outcome == stDISCARDED && u.fld F.SRX_TX_ERR_cut == 1 &&
      u.io.out == []) = true ∧
    gives (exec (.rxToTxTurnaround 404000 [-85] false) j) (fun u => u.rs.outcome == stLATE && u.fld F.COX_B_STAT_denied == 1) = true) := by
  decide +kernel
theorem test_tx_end : (let j := job (some 500000) true
    let shut : State := { j with tw := { j.tw with gate := false } }
    j.rs.tx = some ⟨req 5 1000000 [car 0], 5, some 500000, true⟩ ∧ j.outEnabled = true ∧
    500000 + TxReq.dur (req 5 1000000 [car 0]) = 2740000 ∧ max j.now 2739999 < 2740000 ∧ shut.outEnabled = false ∧
    (∀ c ∈ [car 0], c.what = .beacon ∨ c.what = .test) ∧
    gives (exec (.txEnd 2740000) j) (fun u => u.rs.outcome == stOK && u.rs.tx == none && u.rs.prevEnd == 2740000 &&
      u.fld F.SRX_TX_CNT_transmissions == 1) = true ∧
    gives (exec (.txEnd 2739999) j) (fun u => u.rs.tx.isSome) = true ∧
    gives (exec (.txCut 600000) shut) (fun u => u.rs.outcome == stDISCARDED && u.fld F.SRX_TX_ERR_cut == 1) = true) := by
  decide +kernel

theorem test_coxb : (let off := eset [(F.COX_B_CFG_ext_en, 0)] full
    let g : State := set [(F.COX_B_STAT_ext_gnt, 1), (F.COX_B_STAT_ext_req, 1)] (job (some 500000))
    let late := eset [(F.COX_B_CFG_ext_preempt, 0)] g
    full.isShadow = false ∧ full.eFlag F.COX_B_CFG_ext_en = true ∧ off.eFlag F.COX_B_CFG_ext_en = false ∧ full.sServes = true ∧
    full.rs.tx = none ∧ full.rs.paEn = false ∧ full.rs.window = none ∧ full.fld F.COX_B_STAT_ext_gnt = 0 ∧
    (job (some 500000) true).rs.tx = some ⟨req 5 1000000 [car 0], 5, some 500000, true⟩ ∧
    g.flag F.COX_B_STAT_ext_gnt = true ∧ g.eFlag F.COX_B_CFG_ext_preempt = true ∧ late.eFlag F.COX_B_CFG_ext_preempt = false ∧
    g.rs.tx = some ⟨req 5 1000000 [car 0], 5, some 500000, false⟩ ∧ late.flag F.COX_B_STAT_ext_gnt = true ∧
    500000 ≤ max g.now 204000 + 96000 + 1000 * clamp 50 1000 (g.eFld F.COX_B_TIME_preempt_lead) ∧
    gives (exec (.coxbExtReqRise 5) full) (fun u => u.fld F.COX_B_STAT_ext_gnt == 1) = true ∧
    gives (exec (.coxbExtReqRise 5) off) (fun u => u.fld F.COX_B_STAT_ext_gnt == 1) = true ∧
    gives (exec (.coxbExtReqRise 5) (job (some 500000) true)) (fun u => u.fld F.COX_B_STAT_ext_gnt == 0) = true ∧
    gives (exec (.coxbExtReqFall 5) g) (fun u => u.fld F.COX_B_STAT_ext_gnt == 0 && u.fld F.COX_B_STAT_ext_req == 0) = true ∧
    gives (exec (.coxbPreempt 204000) g) (fun u => u.fld F.COX_B_STAT_ext_gnt == 0 && u.fld F.COX_B_STAT_preempt == 1) = true ∧
    gives (exec (.coxbPreempt 204000) late) (fun u => u.rs.tx == none && u.rs.outcome == stLATE) = true) := by decide +kernel

/-! ## Radios L and H -/

/-- Mesh carriers wait on Radio L for 2.0 ms. -/
def meshL (s : State) : State := { s with lh := { s.lh with mesh := some (2000000, [car 0]) } }
theorem test_coxa : (let sh := slot 3 shared
    let off := eset [(F.COX_A_CFG_ext_en, 0)] shared
    let g : State := set [(F.COX_A_STAT_ext_gnt, 1), (F.COX_A_STAT_ext_req, 1)] sh
    let at_ (s : State) : State := { s with now := max s.now 1940000 }
    let late := eset [(F.COX_A_CFG_ext_preempt, 0)] (meshL g)
    let on : State := { full with lh := { full.lh with l := { full.lh.l with tx := some (.mesh [car 0] 1) } } }
    off.eFlag F.COX_A_CFG_ext_en = false ∧ full.eFlag F.COX_A_CFG_ext_en = true ∧ full.lhServes false = true ∧
    full.lh.l.tx = none ∧ full.lh.l.queue = [] ∧ full.fld F.PWR_RADIO_PERS_l_eff < 2 ∧ on.lh.l.tx ≠ none ∧
    (at_ g).lhServes false = true ∧ g.flag F.COX_A_STAT_ext_gnt = true ∧ g.flag F.COX_A_CFG_ext_en = true ∧
    ((at_ g).latchRegs coxaRegs).meshSoon = true ∧ g.flag F.COX_A_CFG_ext_preempt = true ∧
    late.flag F.COX_A_CFG_ext_preempt = false ∧ ((at_ late).latchRegs coxaRegs).meshSoon = true ∧
    gives (exec (.coxaExtReqRise 5) off) (fun u => u.fld F.COX_A_STAT_ext_gnt == 1) = true ∧
    gives (exec (.coxaExtReqRise 5) full) (fun u => u.fld F.COX_A_STAT_ext_gnt == 1) = true ∧
    gives (exec (.coxaExtReqRise 5) on) (fun u => u.fld F.COX_A_STAT_ext_gnt == 0) = true ∧
    gives (exec (.coxaExtReqFall 5) g) (fun u => u.fld F.COX_A_STAT_ext_gnt == 0) = true ∧
    gives (exec (.coxaPreempt 1940000) g) (fun u => u.fld F.COX_A_STAT_ext_gnt == 0 && u.fld F.COX_A_STAT_preempt == 1) = true ∧
    gives (exec (.coxaPreempt 1940000) late) (fun u => u.lh.mesh == none && u.fld F.COX_A_STAT_ext_gnt == 1) = true) := by
  decide +kernel
theorem test_interval : (let d := meshL (slot 3 shared)
    let rx := set [(F.COX_A_CFG_req_rx, 1)] shared
    d.lh.ivlEnd = none ∧ { d with now := 1950000 }.lhServes false = true ∧ d.fld F.PWR_RADIO_PERS_l_eff = 2 ∧ d.isShadow = false ∧
    d.flag F.COX_A_STAT_ext_gnt = false ∧ d.ivlAt 1950000 = some (1950000, 6300000, true) ∧ d.ivlAt 1949999 = none ∧
    d.ivlAt 6300000 = none ∧ d.flag F.COX_A_CFG_en = true ∧ d.flag F.COX_A_CFG_honour_gnt = true ∧ d.meshBurst = false ∧
    d.reserves = true ∧ rx.ivlAt 1000000 = some (1000000, 7300000, false) ∧ rx.flag F.COX_A_CFG_req_rx = true ∧
    gives (exec (.reservedIntervalStart 1950000 true true) d) (fun u => u.lh.ivlEnd == some 6300000 && u.lh.coxaReq &&
      u.lh.coxaPri && u.fld F.LRX_ERR_wifi_abandoned == 1 && u.lh.mesh == d.lh.mesh) = true ∧
    gives (exec (.reservedIntervalStart 1950000 false false) d) (fun u => u.lh.ivlDenied && u.lh.mesh == none &&
      u.fld F.COX_A_STAT_denied == 1) = true ∧
    gives (exec (.reservedIntervalStart 1000000 true false) rx) (fun u => u.lh.coxaReq && !u.lh.coxaPri &&
      u.fld F.LRX_STAT_reserved_ivl == 1) = true) := by decide +kernel

def ppdu : Ppdu := { kind := .beacon, data := [1#8], dur := 100000, granted := true }
def airing (h : Bool) (p : Ppdu) : State := full.setRadio h { full.radio h with tx := some (.wifi p 3) }
def q (h : Bool) : State :=
  set [(F.WLN_CTRL_run_h, 1), (F.WLN_CTRL_run_l, 1)] (full.setRadio h { full.radio h with queue := [ppdu] })
theorem test_ppdu_start : (let m := meshL (slot 3 shared)
    let m' : State := { m with lh := { m.lh with ivlDenied := true } }
    (∀ h : Bool, { q h with now := 5 }.lhServes h = true ∧ ((q h).radio h).tx = none ∧ (q h).isShadow = false ∧ (q h).lh.ivlEnd = none ∧
      { q h with now := 5 }.meshTurn h = false ∧ ((q h).radio h).queue = [ppdu] ∧
      (q h).fld (if h then F.WLN_CTRL_run_h else F.WLN_CTRL_run_l) = 1 ∧ (q h).fld F.PWR_RADIO_PERS_l_eff = 1 ∧
      (q h).tw.peerRevert = none ∧ (q h).outEnabled = true ∧
      gives (exec (.lhTxStart 5 h true 100000) (q h)) (fun u => (u.radio h).tx == some (.wifi ppdu 5) && (u.radio h).queue == [] &&
        u.io.out == [.wifi h ppdu.kind.name ppdu.users ppdu.bytes]) = true ∧
      gives (exec (.lhTxStart 5 h true 100000) { q h with tw := { full.tw with gate := false } }) (fun u =>
        (u.radio h).tx == none && u.fld (F.LRX_ERR_cut.on h) == 1 && u.io.out == []) = true) ∧
    m.lh.mesh = some (2000000, [car 0]) ∧ { m with now := 1996000 }.lhServes false = true ∧ m.lh.ivlEnd = none ∧
    m.lh.l.tx = none ∧ m.lh.ivlDenied = false ∧ m'.lh.ivlDenied = true ∧
    gives (exec (.lhTxStart 2004000 false true 0) m) (fun u => u.lh.mesh == none && u.lh.l.tx == some (.mesh [car 0] 2004000) &&
      u.io.out == [.radioLMesh 0 2000000 [1#8, 2#8]]) = true ∧
    gives (exec (.lhTxStart 2004001 false true 0) m) (fun u => u.lh.mesh == none && u.io.out == []) = true ∧
    gives (exec (.lhTxStart 1996000 false true 0) m') (fun u => u.lh.mesh == none && u.io.out == []) = true) := by decide +kernel

def client : Client := { mld := 0xAABB, links := 1, caps := 0, flags := 1, unacked := 3, told := true }
def mpdu : Mpdu := { client := 7, tid := 0, keyId := none, pn := 1, pkt := { src := .eth 0, data := [] } }
theorem test_ppdu_end : (let p : Ppdu := { kind := .su, users := [7], mpdus := [mpdu], dur := 9 }
    let s : State := { airing false p with wl := { clients := [(7, client)] } }
    let c : State := { airing true ppdu with tw := { full.tw with gate := false } }
    (s.radio false).tx = some (.wifi p 3) ∧ s.outEnabled = true ∧ p.kind = .su ∧ p.mpdus = [mpdu] ∧ mpdu.client = 7 ∧
    p.users = [7] ∧ Tbl.get? s.wl.clients 7 = some client ∧ (c.radio true).tx = some (.wifi ppdu 3) ∧ c.outEnabled = false ∧
    ppdu.key = none ∧ ppdu.mpdus = [] ∧
    gives (exec (.lhTxEnd 9 false 1 0 []) s) (fun u => u.wl.clients == [(7, { client with unacked := 0, told := false })]) = true ∧
    gives (exec (.lhTxEnd 9 false 0 1 []) s) (fun u => u.wl.clients == [(7, { client with unacked := 4 })]) = true ∧
    gives (exec (.lhTxEnd 9 false 0 0 []) s) (fun u => u.wl.clients == [(7, { client with unacked := 4, retry := [mpdu] })] &&
      (u.radio false).tx == none) = true ∧
    gives (exec (.lhTxCut 9 false) s) (fun u => (u.radio false).tx == some (.wifi p 3)) = true ∧
    gives (exec (.lhTxCut 9 true) c) (fun u => (u.radio true).tx == none && u.fld (F.LRX_ERR_cut.on true) == 1) = true) := by
  decide +kernel

theorem test_lh_cal : (let c (k : Nat) (h : Bool) : State := set [(F.LRX_STAT_cal.on h, k)] full
    let r (h : Bool) : State := (c 1 h).setRadio h { full.radio h with repeated := true }
    (∀ h : Bool, (c 1 h).fld (F.LRX_STAT_cal.on h) = 1 ∧ (c 2 h).fld (F.LRX_STAT_cal.on h) = 2 ∧ ((c 1 h).radio h).calAt ≤ 5 ∧
      ((c 1 h).radio h).switching = false ∧ ((c 1 h).radio h).switch = none ∧ ((c 1 h).radio h).held = 0 ∧
      (c 1 h).fld F.PWR_RADIO_PERS_l_eff ≠ 2 ∧ ((r h).radio h).repeated = true ∧ ((r h).radio h).tx = none ∧
      ((r h).radio h).queue = [] ∧ Alone (r h) ∧ (r h).fltOpen = false ∧
      gives (exec (.lhCalDone 5 h true 40) (c 2 h)) (fun u => u.fld (F.LRX_STAT_cal.on h) == 0 &&
        (if h then u.nv.calH else u.nv.calL) == some (full.word (chanOff h)) && (u.radio h).trackTemp == 40) = true ∧
      gives (exec (.lhCalDone 5 h true 40) (c 1 h)) (fun u => u.fld (F.LRX_CAL_STAT_count.on h) == 1 && u.nv == full.nv) = true ∧
      gives (exec (.lhCalDone 5 h false 40) (c 1 h)) (fun u => (u.radio h).repeated && u.fld (F.LRX_STAT_cal.on h) == 1) = true ∧
      gives (exec (.lhCalDone 5 h false 40) (r h)) (fun u => (u.radio h).stopped && u.fld (radioEff h) == 0 &&
        u.fld F.TEL_FAULT_radio == 1) = true ∧
      { full with now := 5 }.lhServes h = true ∧ { full with now := 5 }.calGap h = true ∧
      gives (exec (.lhTrackingPiece 5 h true 40) full) (fun u => (u.radio h).trackTemp == 40 && (u.radio h).trackAt == 5) = true ∧
      (max 2 (full.fld (F.LRX_CAL_CFG_temp_delta.on h)) : Int) ≤ 40 - (full.radio h).trackTemp)) := by decide +kernel

/-! ## The mesh -/

def eui : Nat := 0x0011223344556601
def rootKey : Bytes := (List.range 16).map fun i => BitVec.ofNat 8 (i + 1)
def netKey : Bytes := (List.range 16).map fun i => BitVec.ofNat 8 (i + 101)
def work (policy : Nat) (k : Bytes) : KvWork :=
  ⟨policy, 16, 0, 0, List.replicate 16 0#8, k, List.replicate 16 0#8, k, false⟩
/-- Every 4 slots from slot 7 on channel 3; at most 4 events missed, 100 s. -/
def par : ConnPar := { map := 8, base := 1, inc := 3, interval := 1, latency := 0, timeout := 100, anchor := 7, ctr := 9 }
def conn : Conn := { addr := 9, par := par, eui := eui, b11 := 0x20, ep := 1, fc := 20 }
def ctx9 : Ctx := { eui := eui, addr := 9, rec_ := true, ep := 1, ctr := 20, conn := some 0 }
/-- The epoch in force is 1; the node 9 has context 5, a route of depth 1, and connection 0. -/
def mesh : State :=
  let s := set [(F.MSH_STAT_running, 1), (F.MSH_CTRL_run, 1), (F.MSH_CONN_CNT_active, 1)] full
  { s with
    ms := { s.ms with rec_ := some ⟨1, ⟨3, 4⟩, 0x100000, none, 0, none, 0⟩ }
    kv := { s.kv with work := [(3, work 0x101 rootKey), (4, work 0x101 netKey), (6, work 8 rootKey)] }
    pt := { s.pt with ctx := [(5, ctx9)], ident := [(eui, 5)], route := [(9, { parent := 0, depth := 1, ctx := 5 })] }
    ml := { s.ml with conns := [(0, conn)] } }
def meshH : State := hosted mesh
def meshH' : State := hosted { mesh with ml := full.ml }
/-- A command over one block. -/
def block (b : Bytes) (more : List (Nat × Nat) := []) : Cmd := cmd ([(8, 0x5000), (2, 1)] ++ more) b
def connBlock (op : Nat) : Bytes := rec_ [(3, 9), (1, op), (1, 0), (8, 8), (1, 1), (1, 3), (2, 1), (1, 0), (3, 100), (5, 7),
  (2, 9), (3, 0), (1, 0)]

theorem test_sf_set : (let c (at_ : Nat) : Cmd := cmd [(5, 8), (1, 4), (5, at_)]
    (∀ a ∈ [24000, 23999], Ready meshH (c a) .command ∧ sfOk ((c a).f 5 1) ((c a).f 0 5) = true ∧ (c a).zero 11 13 = true ∧
      (c a).f 6 5 = a) ∧
    meshH.pw.mode = .full ∧ meshH.isShadow = false ∧ meshH.ml.next = none ∧ meshH.ml.slot + meshH.announceSlots = 24000 ∧
    gives (exec (.meshSfSet 5 (c 24000)) meshH) (fun u => replied stDEFERRED u && u.ml.next == some (4, 8, 24000) &&
      u.fld F.MSH_STAT_sf_pending == 1) = true ∧
    gives (exec (.meshSfSet 5 (c 23999)) meshH) (fun u => replied stLATE u && u.ml.next == none) = true) := by decide +kernel
theorem test_conn_set : (let b := connBlock 0
    let c := block b
    Ready meshH c .command ∧ Ready meshH' c .command ∧ OneBlock c 32 10 b ∧ b.le 3 1 = 0 ∧ b.le 28 3 = 0 ∧ b.le 0 3 = 9 ∧
    (connParOf b).valid (b.le 4 1 % 2 == 1) (meshH.io.contMask (b.le 4 1 % 2 == 1)) = true ∧
    meshH'.ml.connAny 9 = none ∧ Tbl.firstFree meshH'.ml.conns 0 16384 = some 0 ∧ meshH.ml.connOf 9 ≠ none ∧
    gives (exec (.meshConnSet 5 c) meshH') (fun u => replied stOK u && u.ml.conns.map (fun p => (p.1, p.2.par, p.2.heard)) ==
      [(0, par, 5)]) = true ∧
    gives (exec (.meshConnSet 5 c) meshH) (fun u => replied stBAD_ARG u && u.ml == meshH.ml) = true) := by decide +kernel
theorem test_conn_get : (let c := block (connBlock 0)
    meshH.ml.connAny 9 = some (0, conn) ∧ OneBlock c 32 10 (connBlock 0) ∧
    gives (exec (.meshConnGet 5 c) meshH) (fun u => u.io.out.getLast? == some (.dma 0x5004 (rec_ [(1, 2), (8, 8), (1, 1), (1, 3),
      (2, 1), (1, 0), (3, 100), (5, 7), (2, 9)])) && replied stOK u) = true ∧
    gives (exec (.meshConnGet 5 c) meshH') (fun u => u.io.out.getLast? == some (.dma 0x501F [5#8]) && replied stOK u) = true) := by
  decide +kernel
theorem test_conn_close : (let c (n : Nat) : Cmd := cmd [(3, 9), (1, 1), (1, n)]
    (∀ n ∈ [0, 1], Ready meshH (c n) .command ∧ (c n).f 0 3 = 9 ∧ (c n).f 3 1 ≤ 2 ∧ (c n).zero 5 19 = true ∧ (c n).f 4 1 = n) ∧
    Ready meshH' (c 0) .command ∧ meshH'.ml.connAny 9 = none ∧ meshH.ml.connAny 9 = some (0, conn) ∧ meshH.ml.dl = [] ∧
    meshH.ctrlCells < meshH.ctrlReserve ∧
    gives (exec (.meshConnClose 5 (c 0)) meshH') (fun u => replied stBAD_ARG u) = true ∧
    gives (exec (.meshConnClose 5 (c 0)) meshH) (fun u => replied stOK u && u.ml.conns == []) = true ∧
    gives (exec (.meshConnClose 5 (c 1)) meshH) (fun u => replied stDEFERRED u && u.ml.conns == meshH.ml.conns &&
      u.ml.dl.map (fun d => (d.dst, d.kind, d.payload)) == [(9, .close 1, [2#8, 1#8])]) = true) := by decide +kernel

theorem test_admit : (let b (act : Nat) : Bytes := rec_ [(8, eui), (3, 0), (1, act), (3, 0), (1, 0)]
    let o := rec_ [(8, eui + 1), (3, 10), (1, 2), (3, 0), (1, 0)]
    let bound := rec_ [(8, eui + 1), (3, 9), (1, 2), (3, 0), (1, 0)]
    (∀ a ∈ [0, 1], Ready meshH (block (b a)) .command ∧ OneBlock (block (b a)) 16 10 (b a) ∧
      meshH.ctxOfEui ((b a).le 0 8) = some (5, ctx9) ∧ (b a).le 11 1 ≤ 1 ∧ (b a).le 8 3 = 0 ∧ (b a).le 12 3 = 0 ∧
      gives (exec (.meshAdmit 5 (block (b a))) meshH) (fun u => replied stOK u &&
        u.pt.ctx == [(5, { ctx9 with deny := a == 1, hit := true })]) = true) ∧
    Ready meshH (block o) .command ∧ OneBlock (block o) 16 10 o ∧ meshH.ctxOfEui (o.le 0 8) = none ∧ o.le 11 1 = 2 ∧
    o.le 8 3 ≠ 0xFFFFFF ∧ meshH.ctxOfAddr (o.le 8 3) = none ∧ o.le 12 3 = 0 ∧
    gives (exec (.meshAdmit 5 (block bound)) meshH) (replied stBAD_ARG) = true ∧
    gives (exec (.meshAdmit 5 (block o)) meshH) (fun u => replied stOK u && u.pt == meshH.pt) = true) := by decide +kernel
theorem test_route : (let b (a op : Nat) : Bytes := rec_ [(3, a), (1, op), (3, 0), (1, 0), (3, 0), (4, 0), (1, 0)]
    let r : Route := { parent := 0, depth := 1, ctx := 6 }
    let g : State := { meshH with pt := { meshH.pt with route := [(9, { parent := 0, depth := 1, ctx := 5 }), (10, r)] } }
    (∀ x ∈ [b 9 2, b 10 0, b 11 0, b 11 2], Ready g (block x) .command ∧ OneBlock (block x) 16 10 x ∧ x.le 11 4 = 0) ∧
    Tbl.get? g.pt.route 9 = some { parent := 0, depth := 1, ctx := 5 } ∧ Tbl.get? g.pt.route 10 = some r ∧
    Tbl.get? g.pt.route 11 = none ∧ g.ctxOfAddr 10 = none ∧
    gives (exec (.meshRoute 5 (block (b 9 2))) g) (fun u => replied stOK u && Tbl.get? u.pt.route 9 == none) = true ∧
    gives (exec (.meshRoute 5 (block (b 10 0))) g) (fun u => replied stOK u && u.io.out.getLast? ==
      some (.dma 0x5004 (rec_ [(3, 0), (1, 1), (3, 10)]))) = true ∧
    gives (exec (.meshRoute 5 (block (b 11 0))) g) (fun u => u.io.out.getLast? == some (.dma 0x500F [5#8]) && replied stBAD_ARG u) = true ∧
    gives (exec (.meshRoute 5 (block (b 11 2))) g) (fun u => replied stBAD_ARG u && u.pt == g.pt) = true) := by decide +kernel

/-- A join request of a direct joiner, with one D slot of its window to come. -/
def jreq (e window : Nat) : JoinReq :=
  { eui := e, epoch := 1, fc := 1, caps := 0, interval := 1, reattach := false, ch := 2, l := false, at_ns := 3, window := window }
theorem test_join_decide : (let c := cmd [(2, 4)]
    let s : State := { meshH with mn := { meshH.mn with pend := [⟨4, jreq (eui + 1) 1, 3⟩] } }
    let r : State := { s with now := 5, io := s.io.fetched 0 }
    Ready s c .command ∧ c.f 0 2 = 4 ∧ c.f 2 1 = 0 ∧ c.f 3 3 = 0 ∧ c.zero 7 17 = true ∧ r.joinLate ⟨4, jreq (eui + 1) 1, 3⟩ = false ∧
    r.admitRoom (jreq (eui + 1) 1) 0 = none ∧ Ready meshH c .command ∧ meshH.mn.pend = [] ∧ meshH.mn.past = []) := by
  decide +kernel
theorem test_join_decide_done : (let c := cmd [(2, 4)]
    let s : State := { meshH with mn := { meshH.mn with pend := [⟨4, jreq (eui + 1) 1, 3⟩] } }
    gives (exec (.meshJoinDecide 5 c) s) (fun u => replied stOK u && u.mn.joins == [{ jreq (eui + 1) 1 with approved := some 0 }] &&
      u.mn.pend == []) = true ∧
    gives (exec (.meshJoinDecide 5 c) meshH) (fun u => replied stBAD_ARG u) = true) := by decide +kernel

/-- An IPv6 packet to ff02::1 with one byte of payload. -/
def toAll : Bytes := rec_ [(4, 0x60), (2, 0x0100), (1, 59), (1, 64)] ++ List.replicate 16 0#8 ++
  [0xFF#8, 2#8] ++ List.replicate 13 0#8 ++ [1#8, 0xAA#8]
theorem test_circ : (let c := cmd [(8, 0x5000), (2, 41), (1, 0x10), (1, 0)] toAll
    let r : State := { meshH with now := 5, io := meshH.io.fetched 0 }
    Ready meshH c .command ∧ c.rd.take (c.f 8 2) = toAll ∧ c.f 0 8 % 32 = 0 ∧ 40 ≤ c.f 8 2 ∧ toAll.be 24 1 = 0xFF ∧
    c.f 10 1 / 16 = 1 ∧ c.zero 14 10 = true ∧ meshH.mn.circs = [] ∧
    ((lowpanCompress r.ctxLatch.io 0 0xFFFFFF 0 2047 toAll).headD []).length ≤ r.circMax ∧
    gives (exec (.meshCircSend 5 c) meshH) (fun u => replied stDEFERRED u && u.mn.circs.map (fun x => x.payload.take 9) ==
      [rec_ [(3, 0), (2, 0), (1, 0x10), (3, 0)]] && u.fld F.MSH_CIRC_ID_next_id == 1 && u.marked 0 0) = true) := by decide +kernel
theorem test_epoch_set : (let c (at_ : Nat) : Cmd := cmd [(1, 0), (1, 2), (1, 3), (1, 4), (2, 8760), (5, at_)]
    (∀ a ∈ [400, 399], Ready meshH (c a) .command ∧ (c a).f 0 1 = 0 ∧ (c a).f 1 1 = (1 + 1) % 256 ∧ 1 ≤ (c a).f 4 2 ∧
      (c a).f 4 2 ≤ 8760 ∧ (c a).f 2 1 < 64 ∧ (c a).f 3 1 < 64 ∧ meshH.rootSlot ((c a).f 2 1) = true ∧
      meshH.rootSlot ((c a).f 3 1) = true ∧ (c a).zero 11 13 = true ∧ (c a).f 6 5 = a) ∧
    meshH.ms.rec_ = some ⟨1, ⟨3, 4⟩, 0x100000, none, 0, none, 0⟩ ∧ meshH.ml.slot + 400 = 400 ∧
    gives (exec (.meshEpochSet 5 (c 400)) meshH) (fun u => replied stDEFERRED u &&
      u.nv.lease == some ⟨1, ⟨3, 4⟩, 0x100000, none, 0, some ⟨2, ⟨3, 4⟩, 8760, 400⟩, 0⟩) = true ∧
    gives (exec (.meshEpochSet 5 (c 399)) meshH) (fun u => replied stLATE u && u.nv == meshH.nv) = true) := by decide +kernel

theorem test_slot : (let n : State := { mesh with ml := { mesh.ml with next := some (8, 0x88, 1) } }
    let f : State := { mesh with ml := { mesh.ml with next := some (8, 0x88, 2) } }
    (dawn .rom).slotsRun = false ∧ mesh.slotsRun = true ∧ Alone mesh ∧ mesh.tw.shadow = [] ∧ mesh.tw.adopt = none ∧
    mesh.flag F.MSH_CTRL_run = true ∧ mesh.flag F.MSH_STAT_running = true ∧ mesh.ml.next = none ∧
    (∀ x ∈ [F.PWR_RADIO_PERS_s_en, F.PWR_RADIO_PERS_l_mode, F.PWR_RADIO_PERS_h_en], mesh.eFld x = mesh.fld x) ∧
    n.ml.next = some (8, 0x88, 1) ∧ f.ml.next = some (8, 0x88, 2) ∧
    gives (exec (.slotBoundary 25000000) (dawn .rom)) (fun u => u.ml == (dawn .rom).ml) = true ∧
    gives (exec (.slotBoundary 25000000) n) (fun u => u.ml.slot == 1 && u.ml.slotAt == 25000000 && u.ml.sfLen == 8 &&
      u.ml.sfMap == 0x88 && u.ml.next == none) = true ∧
    gives (exec (.slotBoundary 25000000) f) (fun u => u.ml.sfLen == 4 && u.ml.next == some (8, 0x88, 2)) = true) := by
  decide +kernel
def withConn (c : Conn) (n : Nat) : State := { mesh with ml := { mesh.ml with slot := n, conns := [(0, c)] } }
theorem test_event : (let s := withConn conn 7
    let p := { par with ctr := 9, map := 16 }
    let up := withConn { conn with upd := some p, state := 2 } 7
    let la := withConn { conn with state := 3, lapsedAt := 0 } 7
    Tbl.get? s.ml.conns 0 = some conn ∧ (withConn conn 6).ml.slot < par.anchor ∧ conn.upd = none ∧ conn.state ≠ 3 ∧
    par.anchor ≤ s.ml.slot ∧ max s.now 100000000000 ≤ conn.heard + secNs par.timeout ∧
    conn.heard + secNs par.timeout < max s.now 100000000001 ∧ s.pw.mode ≠ .dawn ∧ par.ctr = p.ctr ∧
    la.fld F.MSH_LAPSE_CFG_hold_s = 3600 ∧ max la.now 3599999999999 < 0 + secNs 3600 ∧ 0 + secNs 3600 ≤ max la.now 3600000000000 ∧
    gives (exec (.connectionEvent 5 0) (withConn conn 6)) (fun u => u.ml.conns == [(0, conn)]) = true ∧
    gives (exec (.connectionEvent 5 0) s) (fun u => u.ml.conns.map (fun x => (x.2.cur, x.2.par.anchor, x.2.par.ctr, x.2.due)) ==
      [(some (7, 9), 7 + par.period, 10, true)]) = true ∧
    gives (exec (.connectionEvent 100000000001 0) s) (fun u => u.ml.conns.map (fun x => (x.2.state, x.2.lapsedAt)) ==
      [(3, 100000000001)] && u.fld F.MSH_SUPV_CNT_lapses == 1) = true ∧
    gives (exec (.connUpdateInstant 5 0) up) (fun u => u.ml.conns ==
      [(0, { conn with par := p, anchorRtc := ({ up with now := 5 } : State).rtcBefore p })]) = true ∧
    gives (exec (.lapseHoldExpiry 3600000000000 0) la) (fun u => u.ml.conns == []) = true ∧
    gives (exec (.lapseHoldExpiry 3599999999999 0) la) (fun u => u.ml.conns == la.ml.conns) = true) := by decide +kernel

/-- A poll of node 9 with the counter 21, and one with 19: the header, the MIC under its K_ep of epoch 1, the FCS. -/
def poll21 : Bytes := rec_ [(1, 12), (3, 0), (3, 9), (5, 21), (1, 1), (8, 0x68A9645C60D64712), (2, 0xF7EB)]
def poll19 : Bytes := rec_ [(1, 12), (3, 0), (3, 9), (5, 19), (1, 1), (8, 0x6B8D636B75B33B7A), (2, 0x47D1)]
def frame (p : Bytes) : RxFrame :=
  { ch := 3, demod := 3, chain := 0, prof := 0, sfdEnd := 1, rssi := -70, cfo := 0, step := false, clip := false
    truncated := false, fcs := 1, psdu := p, endAt := 2 }
def heard (p : Bytes) (s : State := mesh) : State := { s with rs := { s.rs with rx := [frame p] } }
def rcpt (a : Nat) : Rcpt := ⟨false, 3, 0, a, 21, 0, 0, 0, 0⟩
theorem test_poll_new : mesh.frameCheck (hdrOf poll21) poll21 = .new [] := by decide +kernel
theorem test_poll_replay : mesh.frameCheck (hdrOf poll19) poll19 = .replay := by decide +kernel
/-- The header of a poll is a new frame's for a node without a place, on a channel that is free, or taken. -/
theorem test_decision : mesh.listens = false ∧ mesh.flag F.MSH_STAT_running = true ∧ mesh.pllA = true ∧
    mesh.ml.isD mesh.ml.slot = false ∧ (heard poll21).rs.rx = [frame poll21] ∧ (frame (poll21 ++ [1#8])).fcsGood = false ∧
    ([poll19, poll21].all fun p => (frame p).fcsGood && headerGood p && (hdrOf p).dst == 0 && (hdrOf p).sec &&
      (hdrOf p).src == 9 && (hdrOf p).type == 4 && mesh.cellIndex (frame p) == 3) = true ∧ mesh.ml.decided.contains 9 = false ∧
    mesh.placeOpen false 3 9 = true ∧
    { mesh with ml := { mesh.ml with places := [rcpt 8] } }.placeOpen false 3 9 = false ∧
    gives (exec (.frameDecision 5 false) (heard (poll21 ++ [1#8]))) (fun u => u.fld F.MSH_RX_ERR_fcs_err == 1 &&
      u.rs.rx == []) = true := by decide +kernel
theorem test_accepted : gives (exec (.frameDecision 5 false) (heard poll21)) (fun u => u.ml.places.map (fun r => (r.addr, r.status,
    r.ctrEcho, r.ch)) == [(9, 0, 21, 3)] && u.fld F.MSH_RX_CNT_accepted == 1 && u.pt.ctx.map (fun x => x.2.ctr) == [21]) = true := by
  decide +kernel
theorem test_deferred : gives (exec (.frameDecision 5 false) { heard poll21 with ml := { mesh.ml with places := [rcpt 8] } })
    (fun u => u.ml.owed.map (fun r => (r.addr, r.status)) == [(9, 2)] && u.ml.places == [rcpt 8] && u.pt == mesh.pt) = true := by
  decide +kernel
theorem test_replay : gives (exec (.frameDecision 5 false) (heard poll19)) (fun u => u.fld F.MSH_SEC_ERR_replay == 1 &&
    u.fld F.MSH_SEC_LAST_reason == 4) = true := by decide +kernel
/-- In Dawn the node is known from its connection. -/
def meshDawn : State :=
  set [(F.TPL_STAT_dawn_active, 1)] { mesh with
    pw := (dawn .onAir).pw, pt := {}, ml := { mesh.ml with conns := [(0, { conn with b11 := 0x20 })] } }
theorem test_dawn_new : meshDawn.frameCheck (hdrOf poll21) poll21 = .new [] := by decide +kernel
theorem test_dawn_frame : meshDawn.listens = false ∧ meshDawn.pw.mode = .dawn ∧ meshDawn.flag F.TPL_STAT_dawn_active = true ∧
    meshDawn.tp.reload = false ∧ meshDawn.pllA = true ∧ meshDawn.flag F.MSH_STAT_running = true ∧
    meshDawn.ml.isD meshDawn.ml.slot = false ∧ (heard poll21 meshDawn).rs.rx = [frame poll21] ∧
    meshDawn.placeOpen false (meshDawn.cellIndex (frame poll21)) 9 = true := by decide +kernel

/-- An inner block of node 9 relayed to the root, its counter as last accepted. -/
def relayed : Bytes := rec_ [(1, 0), (3, 9), (1, 0), (5, 20), (1, 1), (8, 0x945B7D51D37CFD16)]
def inner (p : Bytes) : State := { mesh with mn := { mesh.mn with inner := [⟨8, p, 3, false, -70⟩] } }
theorem test_inner : (inner [8#8]).mn.inner = [⟨8, [8#8], 3, false, -70⟩] ∧ relayedOk [8#8] = false ∧ relayedOk relayed = true ∧
    bitN (relayed.le 0 1) 2 = false ∧ relayed.le 1 3 = 9 ∧
    (let block : Bytes := relayed.drop (5 + 3 * relayed.le 4 1)
     (inner relayed).secCheck 2 9 (block.le 0 5) (block.le 5 1) (innerAad (relayed.le 0 1) 9 (block.take 6)) (block.drop 6) =
      .dup []) ∧
    gives (exec (.innerBlockCheck 5 false) (inner [8#8])) (fun u => u.mn.inner == [] &&
      u.fld F.MSH_LOWPAN_ERR_lowpan_err == 1) = true := by
  decide +kernel

theorem test_dawn_done :
    gives (exec (.dawnFrame 5) (heard poll21 meshDawn)) (fun u => u.ml.places.map (fun r => (r.addr, r.status)) == [(9, 2)] &&
      u.fld F.TPL_DAWN_DEFER_defers == 0) = true :=
  by decide +kernel
theorem test_inner_dup :
    gives (exec (.innerBlockCheck 5 false) (inner relayed)) (fun u => u.mn.inner == [] &&
      u.fld F.MSH_LOWPAN_ERR_inner_dup == 1) = true := by decide +kernel

def noLock (s : State) : State := { s with rs := { s.rs with ready := none } }
theorem test_burst : (let e := noLock mesh
    let s : State := { e with ml := { e.ml with places := [rcpt 9] } }
    let cs := (s.burstCarriers.filter fun c => !c.1).map (·.2)
    let q : TxReq := ⟨s.ml.slotAt + 20900000, s.ml.slotAt + 20900000, s.ml.slotAt + 24952000, false, true, cs⟩
    s.listens = false ∧ s.meshSends = true ∧ s.ml.planned = false ∧ s.tp.reload = false ∧ s.sServes = true ∧ s.rs.tx = none ∧
    s.rs.ready = none ∧ s.ml.isD s.ml.slot = false ∧ e.ml.places = [] ∧ cs.length = 1 ∧ TxReq.valid q s.grid100 = true ∧
    gives (exec (.receiptBurst 5) e) (fun u => u.ml.planned && u.rs.tx == none) = true ∧
    gives (exec (.receiptBurst 5) s) (fun u => u.ml.planned && u.rs.tx.any (fun j => j.req == q && !j.started)) = true) := by
  decide +kernel
theorem test_d_slot : (let e : State := { noLock (set [(F.MSH_BCN_CFG_bcn_every, 2)] mesh) with pw := { full.pw with mode := .doze, slotPowered := true } }
    let x : Rcpt := { rcpt 9 with status := 2 }
    let s : State := { e with ml := { e.ml with slot := 3, owed := [x], dCount := 1 } }
    let r := ({ s with now := 5 } : State).latchRegs dRegs
    let start := s.ml.slotAt + 2000000
    let q : TxReq := ⟨start, start, s.ml.slotAt + 20500000, r.eFlag F.MSH_DL_CFG_dl_cca, false, [r.rcptCarrier x false]⟩
    s.meshSends = true ∧ s.sServes = true ∧ s.ml.isD s.ml.slot = true ∧ s.pw.mode = .doze ∧ r.beaconChannels = [] ∧ x.l = false ∧
    r.canSend false x.ch = true ∧ TxReq.valid q s.grid100 = true ∧ s.ml.planned = false ∧
    gives (exec (.dSlotTx 5) s) (fun u => u.rs.tx.any (fun j => j.req == q) && u.ml.owed == [] && u.ml.planned) = true) := by
  decide +kernel
/-- A keep-alive to node 9, sent once, and a node receipt of a status for it. -/
def kept : DlFrame :=
  { id := 1, kind := .keepAlive, dst := 9, l := false, payload := [], psdu := rec_ [(9, 0), (1, 0xAB), (2, 0)], fc := 300, sent := 1
    waiting := true }
def nodeRcpt (st : Nat) : Bytes := withFcs (rec_ [(1, 5), (3, 9), (2, 300), (1, 0xAB), (1, st), (1, 0), (1, 7)])
def receiptIn (st at_ : Nat) : State :=
  { mesh with rs := { mesh.rs with rx := [{ frame (nodeRcpt st) with sfdEnd := at_ }] }
              ml := { mesh.ml with slot := 3, dl := [kept] } }
theorem test_node_receipt : mesh.isShadow = false ∧ (receiptIn 0 20700000).ml.isD 3 = true ∧
    ([0, 1, 2].all fun st => (nodeRcpt st).length == 12 && Bytes.le (nodeRcpt st) 0 1 % 16 == 5 && fcsOk (nodeRcpt st) &&
      rcptMatches (nodeRcpt st) kept && Bytes.le (nodeRcpt st) 7 1 % 4 == st) = true ∧
    ([0, 1].all fun st => gives (exec (.nodeReceipt 24950009) (receiptIn st 24950000)) fun u => u.ml.dl == [] &&
      u.fld F.MSH_DL_SENT_sent == 1) = true ∧
    gives (exec (.nodeReceipt 20700009) (receiptIn 2 20700000)) (fun u =>
      u.ml.dl == [{ kept with waiting := false, sent := 0, notBefore := 20700009 + secNs 7 }] &&
      u.ml.conns.all fun k => k.2.addr != 9 || k.2.heard == 20700009) = true := by decide +kernel

/-- A node that is known but has no connection asks to join; the host's policy is to let in what is known. -/
def joining (r : JoinReq) (c : Ctx) : State := set [(F.MSH_JOIN_CFG_policy, 0)] { mesh with
  mn := { mesh.mn with joins := [r] }, pt := { mesh.pt with ctx := [(5, c)], route := [] }
  ml := { mesh.ml with conns := [] } }
def offer : ConnOp := ⟨8, 1, 3, 1, 0, 100, 7⟩
theorem test_admission : (let r := jreq eui 1
    let d := joining r { ctx9 with deny := true, conn := none }
    let s := joining r { ctx9 with conn := none }
    let v (s : State) : State := ({ s with now := max s.now 5 } : State).latchRegs [F.MSH_JOIN_CFG_policy.off]
    let p : ConnPar := { par with ctr := 0 }
    s.mn.joins = [r] ∧ d.mn.joins = [r] ∧ s.isShadow = false ∧ s.pw.mode = .full ∧ r.route = [] ∧ s.ml.dl = [] ∧
    d.ctxOfEui eui = some (5, { ctx9 with deny := true, conn := none }) ∧ s.ctxOfEui eui = some (5, { ctx9 with conn := none }) ∧
    (v d).offered r offer = some p ∧ (v s).offered r offer = some p ∧ r.reattach = false ∧ r.approved = none ∧
    (v s).fld F.MSH_JOIN_CFG_policy = 0 ∧ (v s).admitRoom r 0 = none ∧
    gives (exec (.admission 5 offer) d) (fun u => u.mn.joins == [] && u.ml.dl.map (fun d => (d.kind, Bytes.le d.payload 1 1)) ==
      [(.joinResp eui, 2)]) = true ∧
    gives (exec (.admission 5 offer) s) (fun u => u.mn.joins == [] && u.ml.dl.map (fun d => (d.kind, d.dst, d.par)) ==
      [(.joinResp eui, 9, some p)] && u.fld F.MSH_JOIN_CNT_admitted == 1) = true) := by decide +kernel
theorem test_join_deadline : (let p : PendJoin := ⟨4, jreq eui 1, 3⟩
    let s (n : Nat) : State := { mesh with mn := { mesh.mn with pend := [p] }, ml := { mesh.ml with slot := n } }
    (s 0).mn.pend = [p] ∧ (s 0).isShadow = false ∧ (s 0).ml.dl = [] ∧
    ({ s 3 with now := 5 } : State).joinLate p = true ∧ ({ s 0 with now := 5 } : State).joinLate p = false ∧
    gives (exec (.joinDecideDeadline 5 4#16) (s 3)) (fun u => u.mn.pend == [] && u.mn.past == [(4, 3)] &&
      u.ml.dl.map (fun d => Bytes.le d.payload 1 1) == [3]) = true ∧
    gives (exec (.joinDecideDeadline 5 4#16) (s 0)) (fun u => u.mn.pend == [p]) = true) := by decide +kernel
theorem test_mesh_timers : (let s : State := { mesh with mn := { mesh.mn with
      marks := [(9, 1, 5), (9, 0, 4)], frags := [⟨9, 1, 100, 5, []⟩, ⟨9, 0, 100, 4, []⟩] } }
    mesh.fld F.MSH_FRAG_CFG_timeout_s = 60 ∧
    gives (exec (.postmarkExpiry 120000000004) s) (fun u => u.mn.marks == [(9, 1, 5)]) = true ∧
    gives (exec (.fragmentTimeout 60000000004) s) (fun u => u.mn.frags == [⟨9, 1, 100, 5, []⟩] &&
      u.fld F.MSH_FRAG_CNT_timed_out == 1) = true) := by decide +kernel
theorem test_mic_window : (let s (n : Nat) : State := { set [(F.MSH_SEC_CFG_mic_evt, 10)] mesh with
      rt := { mesh.rt with sec := 60 }, ms := { mesh.ms with micCount := n, micAddr := 9 } }
    let z : State := (s 10).setFld F.MSH_SEC_CFG_mic_evt 0
    (s 9).ms.micEnd ≤ (s 9).rt.sec ∧ (s 9).fld F.MSH_SEC_CFG_mic_evt = 10 ∧ z.fld F.MSH_SEC_CFG_mic_evt = 0 ∧
    gives (exec (.micWindowEnd 5) (s 10)) (fun u => u.ms.micCount == 0 && u.ms.micEnd == 120 && u.fld F.MSH_SEC_STAT_mic_evt == 1) = true ∧
    gives (exec (.micWindowEnd 5) (s 9)) (fun u => u.io == (s 9).io) = true ∧
    gives (exec (.micWindowEnd 5) z) (fun u => u.io == z.io) = true) := by decide +kernel

/-! ## Leases, epochs and keys -/

def leased (r : LeaseRec) (ctr : Nat) : State :=
  { mesh with ms := { mesh.ms with rec_ := some r, ctr := ctr } }
theorem test_lease : (let r : LeaseRec := ⟨1, ⟨3, 4⟩, 0x100000, none, 0, none, 0⟩
    let s := leased r 0xF0000
    let e : State := { s with ms := { s.ms with retry := true } }
    s.ms.rec_ = some r ∧ s.tw.role = .solo ∧ r.leaseEnd + 2 ^ 20 ≤ 2 ^ 40 ∧ s.ms.retry = false ∧ s.tw.leaseOut = none ∧
    r.leaseEnd ≤ s.ms.ctr + 2 ^ 16 ∧ e.ms.retry = true ∧
    gives (exec (.leaseExtend 5 true) s) (fun u => u.nv.lease == some { r with leaseEnd := 0x200000 }) = true ∧
    gives (exec (.leaseExtend 5 true) (leased r 0xEFFFF)) (fun u => u.nv.lease == none) = true ∧
    gives (exec (.leaseExtend 5 false) s) (fun u => u.ms.retry && u.fld F.MSH_SEC_STAT_lease_err == 1) = true ∧
    gives (exec (.leaseWriteRetry 5 true) e) (fun u => !u.ms.retry && u.nv.lease == u.ms.rec_) = true ∧
    gives (exec (.leaseWriteRetry 5 false) e) (fun u => u.ms.retry) = true) := by decide +kernel
theorem test_dl_counter : (let r : LeaseRec := ⟨1, ⟨3, 4⟩, 0x100000, none, 0, none, 0⟩
    let w := leased r mesh.dlWarnAt
    let x := leased r (2 ^ 40)
    w.ms.rec_ = some r ∧ w.ms.warned = false ∧ w.dlWarnAt ≤ w.ms.ctr ∧ x.ms.exhausted = false ∧ 2 ^ 40 ≤ x.ms.ctr ∧
    gives (exec (.dlCounterWarn 5) w) (fun u => u.ms.warned && u.fld F.MSH_SEC_STAT_dl_warn == 1) = true ∧
    gives (exec (.dlCounterExhausted 5) x) (fun u => u.ms.exhausted && u.fld F.MSH_SEC_STAT_dl_exhausted == 1 && !u.canSecure) = true) := by
  decide +kernel
theorem test_epochs : (let p : Rot := ⟨2, ⟨4, 3⟩, 2, 7⟩
    let s : State := { leased ⟨1, ⟨3, 4⟩, 0x100000, none, 0, some p, 0⟩ 99 with ml := { mesh.ml with slot := 7 } }
    let g := leased ⟨2, ⟨3, 4⟩, 0x100000, some (1, ⟨4, 3⟩), 50, none, 0⟩ 99
    s.ms.rec_.bind (·.pending) = some p ∧ s.pw.mode = .full ∧ p.at_slot ≤ s.ml.slot ∧
    g.ms.rec_.bind (·.prev) = some (1, ⟨4, 3⟩) ∧ 50 ≤ max g.now 50 ∧
    gives (exec (.epochRotation 5) s) (fun u => u.ms.ctr == 0 && u.nv.lease ==
      some ⟨2, ⟨4, 3⟩, 2 ^ 20, some (1, ⟨3, 4⟩), 5 + 7200000000000, none, 2 ^ 20⟩) = true ∧
    gives (exec (.graceEnd 50) g) (fun u => u.nv.lease == some ⟨2, ⟨3, 4⟩, 0x100000, none, 0, none, 0⟩ && u.ms.ctr == 99) = true ∧
    gives (exec (.graceEnd 49) g) (fun u => u.ms.rec_ == g.ms.rec_) = true) := by decide +kernel
theorem test_keys : (let k : KeyEnt := ⟨9, 1, false, []⟩
    let s : State := { mesh with ms := { mesh.ms with cache := [k] } }
    let w : State := { mesh with ms := { mesh.ms with kreq := [(9, 1)] } }
    s.ms.cache = [k] ∧ mesh.ms.cache = [] ∧ mesh.ms.kreq = [] ∧ w.ms.kreq = [(9, 1)] ∧ w.pllA = true ∧
    (w.nodeRec 9).map (·.eui) = some eui ∧ (w.keyOf eui 1).isSome = true ∧
    gives (exec (.keyRequest 5 9 1) s) (fun u => u.fld F.MSH_KCACHE_HIT_hits == 1 && u.ms.cache == [k]) = true ∧
    gives (exec (.keyRequest 5 9 1) mesh) (fun u => u.fld F.MSH_KCACHE_MISS_misses == 1 && u.ms.kreq == [(9, 1)]) = true ∧
    gives (exec (.keyDerivation 5) w) (fun u => u.ms.kreq == [] && u.ms.cache.map (fun e => (e.addr, e.epoch)) == [(9, 1)]) = true) := by
  decide +kernel
theorem test_remask : (let s : State := { mesh with kv := { mesh.kv with rewrapAt := 5 } }
    s.kv.ready = true ∧ (Tbl.keys s.kv.work).Nodup ∧ (s.kv.work.all fun p => p.2.key.length == p.2.size) = true ∧
    s.kv.rewrapAt ≤ max s.now 5) := by decide +kernel

/-! ## The key vault -/

/-- Lifecycle Production, two authorities, and in slot 3 a key for host_cmac that authority 0 may write. -/
def vault : State :=
  { full with
    kv := { full.kv with work := [(3, work 0x104 netKey)] }
    nv := { full.nv with
      lifecycle := 1, auth := [(0, { hash := pubHash, programmed := true }), (1, { hash := nil384, programmed := true })] } }
theorem test_vault_commands : (let s := hosted vault
    let f : State := { s with kv := { s.kv with letters := List.replicate 4 ⟨1, 0x201, 240, []⟩ } }
    let info := cmd [(8, 0x5000)]
    let mac (k : Nat) : Cmd := cmd [(8, 0x5000), (2, 4), (1, k)] [1#8, 2#8, 3#8, 4#8]
    let let_ := cmd [(8, 0x5000), (2, 4)] [1#8, 2#8, 3#8, 4#8]
    Ready s info .command ∧ s.pw.mode = .full ∧ info.f 0 8 % 32 = 0 ∧ info.zero 8 16 = true ∧
    Tbl.get? s.kv.work 3 = some (work 0x104 netKey) ∧
    (∀ k ∈ [3, 4], Ready s (mac k) .command ∧ (mac k).zero 11 13 = true ∧ 1 ≤ (mac k).f 8 2 ∧ (mac k).f 8 2 ≤ 4096 ∧
      (mac k).f 10 1 = k ∧ (mac k).rdErr = none) ∧ s.slotKey 4 2 = none ∧ s.slotKey 3 2 = some netKey ∧
    Ready s let_ .command ∧ let_.zero 10 14 = true ∧ s.kv.letters.length < 4 ∧ 4 ≤ f.kv.letters.length ∧
    gives (exec (.kvUnitPub 5 info) s) (replied stOK) = true ∧
    gives (exec (.kvCmac 5 (mac 4)) s) (replied stBAD_ARG) = true ∧
    gives (exec (.kvCmac 5 (mac 3)) s) (replied stOK) = true ∧
    (∀ i ∈ [Instr.kvLetter 5 let_, .updLetter 5 let_], gives (exec i s) (fun u => replied stDEFERRED u &&
      u.kv.letters.map (fun l => (l.key, l.data)) == [(1, [1#8, 2#8, 3#8, 4#8])]) = true ∧
      gives (exec i f) (replied stNO_ROOM) = true)) := by decide +kernel
/-- A letter is the first that waits. -/
def posted (b : Bytes) : Letter := ⟨1, 0x201, b.length, b⟩
theorem test_letter_2 : vault.letterCheck (posted eraseLetter) = none := by decide +kernel
theorem test_letter_3 : vault.letterCheck (posted enrolLetter) = none := by decide +kernel
theorem test_letter_4 : vault.letterCheck (posted revokeLetter) = none := by decide +kernel
theorem test_letter_6 : vault.letterCheck (posted unlockLetter) = none := by decide +kernel
theorem test_letter_7 : vault.letterCheck (posted retireLetter) = none := by decide +kernel
theorem test_letters : (let bad := posted [1#8]
    let s : State := { vault with kv := { vault.kv with letters := [bad] } }
    let old : State := { vault with nv := { vault.nv with letterCtr := 1 } }
    s.kv.letters = [bad] ∧ s.kv.ready = true ∧ s.pllA = true ∧ s.letterCheck bad = some (2, stBAD_ARG) ∧
    (posted eraseLetter).counter = 1 ∧ (posted eraseLetter).counter ≤ old.letterCtr ∧
    [eraseLetter, enrolLetter, revokeLetter, unlockLetter, retireLetter].map (fun b => ((posted b).type, (posted b).body 0 1)) =
      [(2, 3), (3, 2), (4, 1), (6, 0), (7, 0)] ∧
    Tbl.get? vault.nv.auth 1 = some { hash := nil384, programmed := true } ∧
    gives (exec (.letterProcess 5 true true) s) (fun u => u.kv.letters == [] && u.fld F.KV_LETTER_LAST_step == 2 &&
      u.fld F.KV_LETTER_CNT_refused == 1) = true) := by decide +kernel

/-! ## Wi-Fi -/

def bss0 : Bss := { mld := 0xA0, bssid := 0xA2, ssid := [0x41#8], flags := 0, bcnInt := 100, dtim := 2, cipher := 1, maxClients := 10 }
/-- Client 7: links to BSS 0 of L and of H at the addresses 0x10 and 0x110, HE, authorised. -/
def sta : Client :=
  { mld := 0x10, links := 3, l := some { addr := 0x10, bss := 0 }, h := some { addr := 0x110, bss := 0 }, caps := 0x11, flags := 1 }
def wkey : WKey :=
  { target := 0x10, kind := 0, id := 0, cipher := 1, txUse := true, key := rootKey, pn := 5, lease := 65541, start := 5 }
def wifi : State :=
  { eset [(F.WLN_CTRL_run_h, 1), (F.WLN_CTRL_run_l, 1)] full with
    wl := { bss := [(0, bss0), (16, bss0)], clients := [(7, sta)], keys := [wkey] } }
def wifiH : State := hosted wifi
def bssRec (h idx op int : Nat) : Bytes := rec_ [(1, h), (1, idx), (1, op), (1, 0xFF), (6, 0xB2), (1, 1), (1, 0), (2, int), (1, 2),
  (1, 1), (2, 10)] ++ [0x41#8] ++ List.replicate 45 0#8
theorem test_bss : (let e : State := { wifiH with wl := {} }
    (∀ h : Bool, ∀ b ∈ [bssRec h.toNat 0 0 15, bssRec h.toNat 0 0 1000, bssRec h.toNat 15 1 0], Ready e (block b) .command ∧
      OneBlock (block b) 64 10 b ∧ b.le 0 1 = h.toNat ∧ Bytes.zero (Bytes.slice b 50 13) = true) ∧
    e.pw.mode = .full ∧ e.isShadow = false ∧
    (∀ h : Bool, (bssRec h.toNat 0 0 15).le 12 2 = 15 ∧ (bssRec h.toNat 0 0 15).le 10 1 = 1 ∧
      gives (exec (.wlnBssSet 5 (block (bssRec h.toNat 0 0 15))) e) (fun u => replied stOK u && (u.bss h 0).any (fun x => x.bssid == 0xB2 &&
        x.ssid == [0x41#8] && x.bcnInt == 15)) = true ∧
      gives (exec (.wlnBssSet 5 (block (bssRec h.toNat 15 1 0))) e) (replied stOK) = true)) := by decide +kernel
def clRec (mld op : Nat) : Bytes := rec_ [(6, mld), (1, op), (1, 1), (6, mld), (6, 0), (1, 0), (1, 0), (1, 0), (1, 3), (7, 0), (1, 0)]
theorem test_client : (Ready wifiH (block (clRec 0x20 0)) .command ∧ OneBlock (block (clRec 0x20 0)) 32 10 (clRec 0x20 0) ∧
    Bytes.zero (Bytes.slice (clRec 0x20 0) 24 7) = true ∧ wifiH.clientMld 0x20 = none ∧ (clRec 0x20 0).le 0 6 = 0x20 ∧
    (clRec 0x20 0).le 8 6 = 0x20 ∧ wifiH.bss false 0 = some bss0 ∧ wifiH.bssCnt false 0 = 1 ∧ wifiH.clientAt false 0x20 = none ∧
    wifiH.linkCnt = 2 ∧ Tbl.firstFree wifiH.wl.clients 0 512 = some 0 ∧
    gives (exec (.wlnClientSet 5 (block (clRec 0x20 2))) wifiH) (fun u => replied stBAD_ARG u && u.wl == wifiH.wl) = true ∧
    gives (exec (.wlnClientSet 5 (block (clRec 0x20 0))) wifiH) (fun u => replied stOK u && (Tbl.get? u.wl.clients 0).any (fun y =>
      y.mld == 0x20 && y.flags == 3 && y.h == none && y.l == some { addr := 0x20, bss := 0 })) = true ∧
    gives (exec (.wlnClientGet 5 (block (clRec 0x20 0))) wifiH) (fun u => replied stOK u &&
      u.io.out.getLast? == some (.dma 0x501F [5#8])) = true ∧
    gives (exec (.wlnClientGet 5 (block (clRec 0x10 0))) wifiH) (fun u => replied stOK u && u.io.out.any (· == .dma 0x501F [0#8])) = true ∧
    wifiH.clientMld 0x10 = some (7, sta)) := by decide +kernel
def keyRec (op id : Nat) : Bytes := rec_ [(6, 0x10), (1, op), (1, 0), (1, id), (1, 1), (1, 0), (1, 0), (6, 9), (14, 0)] ++ netKey ++
  List.replicate 16 0#8
theorem test_key : (∀ b ∈ [keyRec 0 1, keyRec 1 1], Ready wifiH (block b) .command ∧ OneBlock (block b) 64 10 b ∧
      Bytes.zero (Bytes.slice b 18 14) = true ∧ b.le 11 1 = 0 ∧ b.le 10 1 = 0 ∧ keyIdOk (b.le 7 1) (b.le 8 1) = true) ∧
    keyCipherOk 0 1 (Bytes.slice (keyRec 0 1) 32 32) = true ∧ wifiH.keyFits 0x10 0 1 = true ∧ wifiH.wkey 0x10 0 1 = none ∧
    gives (exec (.wlnKeySet 5 (block (keyRec 0 1))) wifiH) (fun u => replied stOK u && (u.wkey 0x10 0 1).any (fun k => k.pn == 9 &&
      k.lease == 65545) && u.nv.pnRecs == [⟨0x10, 0, 1, 65545⟩]) = true ∧
    gives (exec (.wlnKeySet 5 (block (keyRec 1 1))) wifiH) (fun u => replied stBAD_ARG u && u.wl == wifiH.wl) = true := by decide +kernel
theorem test_mgmt_tx : (let c (h : Bool) : Cmd := cmd [(8, 0x5000), (2, 24), (1, h.toNat), (1, 0), (1, 0)] (List.replicate 24 7#8)
    (∀ h : Bool, Ready wifiH (c h) .command ∧ (c h).f 8 2 = 24 ∧ (c h).f 10 1 = h.toNat ∧ (c h).zero 13 11 = true ∧
      wifiH.bss h ((c h).f 11 1) ≠ none ∧
      gives (exec (.wlnMgmtTx 5 (c h)) wifiH) (fun u => u.io.out == [] && (u.radio h).queue.map (fun p => (p.kind, p.data)) ==
        [(.mgmt, List.replicate 24 7#8)]) = true)) := by decide +kernel
theorem test_chan_switch : (let c (h : Bool) (w : Nat) : Cmd := cmd [(1, h.toNat), (1, 3), (2, 0), (4, w), (2, 0)]
    (∀ p ∈ [(false, 0x1), (true, 0x02002A00)], Ready wifiH (c p.1 p.2) .command ∧ (c p.1 p.2).f 0 1 = p.1.toNat ∧
      (c p.1 p.2).zero 2 2 = true ∧ (c p.1 p.2).zero 10 14 = true ∧ (c p.1 p.2).f 8 2 = 0 ∧
      chanOk p.1 (BitVec.ofNat 32 ((c p.1 p.2).f 4 4)) = true ∧ (wifiH.radio p.1).switch = none ∧
      ({ wifiH with now := 5 } : State).wifiOn p.1 = true ∧ wifiH.bss p.1 0 ≠ none ∧ 1 ≤ (c p.1 p.2).f 1 1 ∧
      gives (exec (.wlnChanSwitch 5 (c p.1 p.2)) wifiH) (fun u => replied stDEFERRED u &&
        (u.radio p.1).switch == some (BitVec.ofNat 32 p.2, 0, 4)) = true)) := by decide +kernel

theorem test_wifi_starts : (∀ h : Bool, (let p : State := { wifi with wl := { wifi.wl with bss := [(0, bss0), (16, bss0)] } }
    wifi.isShadow = false ∧ (({ wifi with now := 5 } : State).wlnLatch h).wifiOn h = true ∧ wifi.bss h 0 = some bss0 ∧
    bitN bss0.flags 0 = false ∧ bss0.tbtt ≤ max wifi.now 5 ∧ (wifi.radio h).queue = [] ∧ (wifi.radio h).switch = none ∧
    (wifi.radio h).bsrpAt ≤ 5 ∧ (({ wifi with now := 5 } : State).wlnLatch h).schedLatch.fits h 9 = true ∧
    gives (exec (.probeRequest 5 h 0x33 []) p) (fun u => (u.radio h).queue == [{ kind := .answer, data := toBE 6 0x33, dur := 0 }]) = true ∧
    gives (exec (.tbttBeacon 5 h) p) (fun u => (u.radio h).queue == [{ kind := .beacon, dur := 0 }] &&
      (u.bss h 0).any (fun b => b.tbtt == 102400000)) = true ∧
    gives (exec (.bsrpTrigger 5 h 9 []) p) (fun u => (u.radio h).queue.map (fun q => (q.kind, q.users, q.dur)) ==
      [(.bsrp, [], 9)]) = true)) := by decide +kernel
def twt : Twt := { h := true, interval := 100000, dur := 10240, start := 4, trigger := false, announced := true, broadcast := false }
theorem test_twt : (let q : TwtReq := ⟨true, 0x110, 100000, 10240, 4, false, true, false⟩
    let r := ({ wifi with now := max wifi.now 5 } : State).wlnLatch true
    let s : State := { wifi with wl := { wifi.wl with clients := [(7, { sta with twts := [twt] })] } }
    wifi.clientAt true 0x110 = some (7, sta) ∧ Tbl.get? wifi.wl.clients 7 = some sta ∧ r.twtAnswer q sta = (0, some twt) ∧
    sta.link true = some { addr := 0x110, bss := 0 } ∧ twt.start ≤ max s.now 5 ∧ twt.trigger = false ∧
    gives (exec (.twtSetupRequest 5 q) wifi) (fun u => (Tbl.get? u.wl.clients 7).any (fun c => c.twts == [twt]) &&
      (u.radio true).queue.map (fun p => (p.kind, p.data.le 0 1)) == [(.answer, 0)]) = true ∧
    gives (exec (.twtServicePeriod 5 7 0) s) (fun u => (Tbl.get? u.wl.clients 7).any (fun c =>
      c.h == some { addr := 0x110, bss := 0, sp := some (4 + 10240000) })) = true) := by decide +kernel
theorem test_txop : (let c : Client := { sta with caps := 0, l := none, retry := [{ mpdu with tid := 3 }] }
    let x : Txop := ⟨true, 0, false, true, 1, 200000, 50000, 40000, []⟩
    let s : State := { wifi with wl := { wifi.wl with clients := [(7, c)], keys := [] } }
    (({ s with now := 5 } : State).wlnLatch true).wifiOn true = true ∧ (s.radio true).tx = none ∧ s.tw.peerRevert = none ∧ x.mpdus = 1 ∧
    c.h ≠ none ∧ c.he = false ∧ 3 ∈ acTids x.ac ∧ s.txKey c.mld = none ∧ bitN sta.caps 4 = true ∧ (wifi.radio true).soundAt ≤ 5 ∧
    gives (exec (.txopWon 5 x) s) (fun u => (u.radio true).queue == [{
      kind := .su, users := [7], mpdus := [{ mpdu with tid := 3 }], dur := 250000, granted := true }]) = true ∧
    gives (exec (.sounding 5 9) wifi) (fun u => (u.radio true).queue == [{ kind := .sounding, users := [7], dur := 9 }]) = true) := by
  decide +kernel

def wrx (pn : Nat) (src : Nat := 0x10) (mic : Bool := true) : WRx :=
  ⟨false, src, 0xA2, 0, some 0, pn, mic, false, List.replicate 60 0#8, -50, none, false, false⟩
theorem test_wifi_rx : (let s : State := { wifi with wl := { wifi.wl with keys := [{ wkey with rx := [(0, 9)] }] } }
    let u : State := { wifi with wl := { wifi.wl with clients := [(7, { sta with flags := 0 })] } }
    wifi.isShadow = false ∧ (({ wifi with now := 5 } : State).wlnLatch false).wifiOn false = true ∧
    wifi.clientAt false 0x33 = none ∧ wifi.clientAt false 0x10 = some (7, sta) ∧ u.clientAt false 0x10 = some (7, { sta with flags := 0 }) ∧
    (parseEth (wrx 9).frame).ethertype ≠ 0x888E ∧ bitN sta.flags 0 = true ∧ wifi.wkey 0x10 0 0 = some wkey ∧
    s.wkey 0x10 0 0 = some { wkey with rx := [(0, 9)] } ∧ (wifi.latchRegs admRegs).admitWifi 0 (cellsOf 60) = true ∧
    gives (exec (.wifiDataRx 5 (wrx 9 0x33) 0) wifi) (fun u => u.fld F.WLN_RX_DROP_unknown == 1) = true ∧
    gives (exec (.wifiDataRx 5 (wrx 9) 0) u) (fun u => u.fld F.WLN_RX_DROP_unauth == 1) = true ∧
    gives (exec (.wifiDataRx 5 (wrx 9 0x10 false) 0) wifi) (fun u => u.fld F.WLN_SEC_ERR_mic_fail == 1) = true ∧
    gives (exec (.wifiDataRx 5 (wrx 9) 0) s) (fun u => u.fld F.WLN_SEC_ERR_replay == 1 && u.sr.input == []) = true ∧
    gives (exec (.wifiDataRx 5 (wrx 9) 0) wifi) (fun u => u.wl.keys.map (·.rx) == [[(0, 9)]] && u.sr.input.length == 1) = true) := by
  decide +kernel
theorem test_wifi_rest : (let m : WMgmt := ⟨true, 0, 0x110, .saQuery, [], -50, none, false, false⟩
    let s (n : Nat) (told : Bool) : State := { wifi with wl := { wifi.wl with clients := [(7, { sta with unacked := n, told := told })] } }
    let k (pn : Nat) : State := { wifi with wl := { wifi.wl with keys := [{ wkey with pn := pn }] } }
    wifi.clientAt m.h m.src = some (7, sta) ∧ (({ wifi with now := 5 } : State).wlnLatch true).wifiOn true = true ∧ bitN sta.flags 1 = false ∧
    (k 61444).wl.keys[0]? = some { wkey with pn := 61444 } ∧ 61444 + 4096 < wkey.lease ∧ wkey.lease ≤ 61445 + 4096 ∧
    gives (exec (.wifiMgmtRx 5 m) wifi) (fun u => (u.radio true).queue == [{ kind := .answer, users := [7], data := [0#8], dur := 0 }]) = true ∧
    gives (exec (.clientUnreachable 5 7) (s 32 false)) (fun u => u.wl.clients == [(7, { sta with unacked := 32, told := true })]) = true ∧
    gives (exec (.clientUnreachable 5 7) (s 31 false)) (fun u => u == { s 31 false with now := 5 }) = true ∧
    gives (exec (.clientUnreachable 5 7) (s 32 true)) (fun u => u == { s 32 true with now := 5 }) = true ∧
    gives (exec (.pnLeaseExtend 5 0 true) (k 61444)) (fun u => u.wl == (k 61444).wl) = true ∧
    gives (exec (.pnLeaseExtend 5 0 true) (k 61445)) (fun u => u.wl.keys.map (·.lease) == [131077] &&
      u.nv.pnRecs == [⟨0x10, 0, 0, 131077⟩]) = true ∧
    gives (exec (.pnLeaseExtend 5 0 false) (k 61445)) (fun u => u.wl == (k 61445).wl && u.fld F.TEL_FAULT_mram == 1) = true) := by
  decide +kernel

/-! ## Tables and queues -/

/-- The key of the MAC address 0x20 in FID 1. -/
def mkey : Nat := 2 ^ 48 + 0x20
def ent : MacEnt := { dest := 1 }
/-- One learnt MAC entry, in slot 8 of its table. -/
def mac (e : MacEnt := ent) : State :=
  { full with pt := { full.pt with mac := [(mkey, e)], pMac := { slots := [(8, mkey)] } } }
def macRec (m dest op : Nat) : Bytes := toBE 6 m ++ rec_ [(2, 1), (2, dest), (1, 0), (35, 0), (1, op), (1, 0)]
def mcmd (b : Bytes) : Cmd := block b [(1, 3)]
/-- Every place of the MAC table holds a static entry. -/
def macFull : State :=
  { full with pt := { full.pt with mac := (List.range 65536).map fun k => (k, { ent with static_ := true }) } }
theorem get?_none {α : Type} (t : Tbl α) (n : Nat) (h : ∀ p ∈ t, p.1 ≠ n) : Tbl.get? t n = none := by
  induction t with
  | nil => rfl
  | cons p t ih =>
    have hp := h p (by simp)
    simp only [Tbl.get?, if_neg hp]
    exact ih fun q hq => h q (by simp [hq])
theorem macFull_get : Tbl.get? macFull.pt.mac mkey = none :=
  get?_none _ _ fun p hp => by
    simp only [macFull, List.mem_map, List.mem_range] at hp
    obtain ⟨k, hk, rfl⟩ := hp
    simp only [mkey]
    omega
theorem macFull_room : macFull.pt.room 3 mkey = none := by
  simp [Pt.room, ratedEntries, Pt.count, macFull]
theorem macFull_place : macFull.pt.place? 3 mkey = none := by
  simp [Pt.place?, Pt.has, macFull_get, macFull_room]
theorem macFull_learned : (macFull.pt.mac.filter fun e => !e.2.static_).length = 0 := by
  simp [macFull, List.filter_map, Function.comp_def]
theorem test_pct_full : (let c := mcmd (macRec 0x20 1 0)
    Ready (hosted macFull) c .command ∧ OneBlock c 48 11 (macRec 0x20 1 0) ∧
    (macRec 0x20 1 0).le 6 2 % 4096 * 2 ^ 48 + (macRec 0x20 1 0).be 0 6 = mkey) := by decide +kernel
theorem test_pct : (let s := hosted (mac)
    let e := hosted full
    (∀ b ∈ [macRec 0x20 1 0, macRec 0x20 1 1, macRec 0x21 1 1], Ready s (mcmd b) .command ∧ OneBlock (mcmd b) 48 11 b ∧
      (mcmd b).f 10 1 = 3 ∧ b.le 6 2 = 1 ∧ b.le 10 1 / 8 % 8 = 0 ∧ Bytes.zero (Bytes.slice b 11 35) = true) ∧
    s.pw.mode = .full ∧ destOk 1 = true ∧ (s.pt.place? 3 mkey).isSome = true ∧ (e.pt.place? 3 mkey).isSome = true ∧
    s.pt.has 3 mkey = true ∧ s.pt.has 3 (mkey + 1) = false ∧ Tbl.get? s.pt.mac mkey = some ent ∧ Tbl.get? s.pt.mac (mkey + 1) = none ∧
    gives (exec (.pctWrite 5 (mcmd (macRec 0x20 0x1003 0))) s) (fun u => replied stOK u && Tbl.get? u.pt.mac mkey == some { dest := 0x1003 } &&
      u.fld (F.PCT_SEQ_seq 3) == 1) = true ∧
    gives (exec (.pctWrite 5 (mcmd (macRec 0x20 1 1))) s) (fun u => replied stOK u && u.pt.mac == []) = true ∧
    gives (exec (.pctWrite 5 (mcmd (macRec 0x21 1 1))) s) (fun u => replied stBAD_ARG u && u.pt == s.pt) = true ∧
    gives (exec (.pctRead 5 (mcmd (macRec 0x20 0 0))) s) (fun u => replied stOK u && u.io.out.getLast? ==
      some (.dma 0x5000 (ent.record mkey))) = true ∧
    gives (exec (.pctRead 5 (mcmd (macRec 0x21 0 0))) s) (fun u => u.io.out.getLast? == some (.dma 0x502F [5#8])) = true) := by
  decide +kernel
theorem test_pct_jobs : (let s := hosted (mac)
    let d := cmd [(8, 0x5000), (2, 4096), (1, 5), (1, 1), (2, 0xFFF)]
    let a := cmd [(8, 0x5000), (2, 0), (1, 5)]
    let f := cmd [(1, 7), (1, 0), (2, 1), (2, 1), (4, 0), (1, 3)]
    Ready s d .command ∧ d.f 0 8 % 32 = 0 ∧ d.f 8 2 = 4096 ∧ d.f 10 1 = 5 ∧ d.f 11 1 = 1 ∧ d.f 12 2 = 0xFFF ∧ d.zero 14 10 = true ∧
    Ready s a .command ∧ a.f 10 1 = 5 ∧ a.zero 8 2 = true ∧ a.zero 11 13 = true ∧ Ready s f .command ∧ f.f 0 1 = 7 ∧
    f.f 10 1 = 3 ∧ f.zero 1 1 = true ∧ f.zero 6 4 = true ∧ f.zero 11 13 = true ∧
    gives (exec (.pctDump 5 d) s) (fun u => replied stDEFERRED u && u.pt.jobs == [(1, [0x5000, 4096, 5, 1, 0xFFF, 0])]) = true ∧
    gives (exec (.pctFlush 5 f) s) (fun u => replied stDEFERRED u && u.pt.jobs == [(1, [7, 1, 1])]) = true) := by decide +kernel
/-- A DEFERRED command of an opcode under key 1. -/
def waits (s : State) (op : Nat) : State :=
  { s with io := { s.io with hf := { s.io.hf with deferred := [⟨0, 0, 1, 7, op, 1⟩] } } }
theorem test_pct_done : (let s := waits (hosted (mac)) 0x0403
    let g := segOf 3 (ent.record mkey)
    let d (max : Nat) : State := { s with pt := { s.pt with jobs := [(1, [0x5000, max, 3, 0, g, 0])] } }
    let f (dest : Nat) : State := { waits (hosted (mac)) 0x0405 with pt := { s.pt with jobs := [(1, [2, 0, dest])] } }
    (d 1).deferredOp 0x0403 = some ⟨0, 0, 1, 7, 0x0403, 1⟩ ∧ (d 1).io.hostOk = true ∧ ((d 1).pt.segment 3 g).length = 1 ∧
    (f 1).deferredOp 0x0405 = some ⟨0, 0, 1, 7, 0x0405, 1⟩ ∧ Tbl.sorted (f 1).pt.mac = true ∧
    gives (exec (.pctDumpDone 5) (d 0)) (replied stNO_ROOM) = true ∧
    gives (exec (.pctDumpDone 5) (d 1)) (fun u => replied stOK u && u.pt.jobs == []) = true ∧
    gives (exec (.pctFlushDone 5) (f 1)) (fun u => replied stOK u && u.pt.mac == []) = true ∧
    gives (exec (.pctFlushDone 5) (f 2)) (fun u => replied stOK u && u.pt.mac.map (·.1) == [mkey]) = true) := by decide +kernel
def vlan (bssL : Nat) : Vlan := ⟨1, true, true, false, false, true, true, 0, bssL, 0⟩
theorem test_vlan : (let s : State := hosted { full with sr := { full.sr with vlans := [(2, vlan 1)] } }
    let b (vid l op : Nat) : Bytes := rec_ [(2, vid), (2, 4095), (1, 0x3F), (1, 63), (2, l), (2, 0), (4, 0), (1, op), (1, 0)]
    (∀ x ∈ [b 4094 2 0, b 1 2 0, b 2 0 1], Ready s (block x) .command ∧ OneBlock (block x) 16 10 x ∧ 1 ≤ x.le 0 2 ∧ x.le 0 2 ≤ 4094 ∧
      x.le 2 2 ≤ 4095 ∧ x.le 4 1 ≤ 63 ∧ x.le 5 1 ≤ 63 ∧ x.le 10 4 = 0) ∧ (vlan 1).bssL &&& 2 = 0 ∧
    gives (exec (.srtVlanSet 5 (block (b 4094 2 0))) s) (fun u => replied stOK u && (Tbl.get? u.sr.vlans 4094).any (fun v => v.fid == 4095 &&
      v.bssL == 2 && v.ring == 63 && v.routeEn)) = true ∧
    gives (exec (.srtVlanSet 5 (block (b 4094 1 0))) s) (replied stBAD_ARG) = true ∧
    gives (exec (.srtVlanSet 5 (block (b 2 0 1))) s) (fun u => replied stOK u && u.sr.vlans == []) = true) := by decide +kernel
def pkt (n : Nat) : Packet := { src := .eth 0, data := List.replicate n 0xAB#8, cells := 1, charge := .shared, vid := 1 }
def queued (n : Nat) (q : Queue) : State := { full with qm := { full.qm with queues := [(n, q)] } }
theorem test_queue_set : (let b (n : Nat) : Bytes := rec_ [(3, n), (1, 0), (1, 0x53), (2, 0x9FFF), (1, 0), (7, 0), (1, 0)]
    let e := hosted full
    let s := hosted (queued 0x2104F { pkts := [pkt 60] })
    (∀ n ∈ [0, 0x2104F], Ready s (block (b n)) .command ∧ OneBlock (block (b n)) 16 10 (b n) ∧ (b n).le 0 3 = n ∧ (b n).le 3 1 = 0 ∧
      (b n).le 4 1 / 8 % 2 = 0 ∧ (b n).le 4 1 / 16 ≠ 0 ∧ (b n).le 5 2 / 8192 % 4 = 0 ∧ (b n).le 7 1 = 0) ∧
    (e.queue 0x2104F).pkts = [] ∧ (s.queue 0x2104F).pkts ≠ [] ∧ (s.queue 0x2104F).next = none ∧
    gives (exec (.qmsQueueSet 5 (block (b 0x2104F))) e) (fun u => replied stOK u && (u.queue 0x2104F).weight == 5 &&
      (u.queue 0x2104F).cls == 3 && (u.queue 0x2104F).shaper == some 8191) = true ∧
    gives (exec (.qmsQueueSet 5 (block (b 0x2104F))) s) (fun u => replied stOK u && (u.queue 0x2104F).weight == 1 &&
      (u.queue 0x2104F).next == some (3, 5)) = true ∧
    gives (exec (.qmsQueueGet 5 (block (b 0x2104F))) s) (replied stOK) = true) := by decide +kernel
theorem test_shaper_set : (let b (n : Nat) : Bytes := rec_ [(2, n), (1, 0x0B), (1, 0xC0), (3, 9), (1, 0), (3, 500), (1, 0), (3, 600), (1, 0),
      (14, 0), (1, 0), (1, 0)]
    let s := hosted full
    (∀ n ∈ [8191, 8192], Ready s (block (b n)) .command ∧ OneBlock (block (b n)) 32 10 (b n)) ∧ shaperRecOk (b 8191) = true ∧
    shaperRecOk (b 8192) = false ∧ (b 8191).le 0 2 < 8192 ∧
    gives (exec (.qmsShaperSet 5 (block (b 8191))) s) (fun u => replied stOK u && (u.shaper 8191).pend ==
      some (⟨true, 1, -64, 9, 500, 500⟩, 1)) = true ∧
    gives (exec (.qmsShaperSet 5 (block (b 8192))) s) (fun u => replied stBAD_ARG u && u.qm == s.qm) = true ∧
    gives (exec (.qmsShaperGet 5 (block (b 8191))) s) (replied stOK) = true) := by decide +kernel
def learns (e : MacEnt) (key dest : Nat) : State := { mac e with pt := { (mac e).pt with learn := [⟨key, dest⟩] } }
theorem test_learn : (let off : State := { learns ent mkey 2 with pw := doze.pw }
    let two (n : Nat) : State := set [(F.PCT_LEARN_CFG_learn_max, n)] { mac with pt := {
      mac := [(mkey, ent)], learn := [⟨mkey + 2, 2⟩] } }
    off.learnOn = false ∧ (learns ent mkey 2).learnOn = true ∧ bitN (mkey % 2 ^ 48 / 2 ^ 40) 0 = false ∧
    Tbl.get? (two 1).pt.mac (mkey + 2) = none ∧ ((two 2).pt.room 3 (mkey + 2)).isSome = true ∧
    ((two 1).latchRegs [0x300004]).eFld F.PCT_LEARN_CFG_learn_max = 1 ∧
    gives (exec (.learnUpdate 5) off) (fun u => u.pt.learn == [] && u.pt.mac == [(mkey, ent)]) = true ∧
    gives (exec (.learnUpdate 5) (learns { ent with discardSrc := true } mkey 2)) (fun u =>
      u.pt.mac == [(mkey, { ent with discardSrc := true })]) = true ∧
    gives (exec (.learnUpdate 5) (learns { ent with hit := false } mkey 1)) (fun u => u.pt.mac == [(mkey, ent)]) = true ∧
    gives (exec (.learnUpdate 5) (learns { ent with sticky := true } mkey 2)) (fun u => u.fld F.PCT_LEARN_ERR_static_conflict == 1) = true ∧
    gives (exec (.learnUpdate 5) (learns ent mkey 2)) (fun u => u.pt.mac == [(mkey, { dest := 2 })] &&
      u.fld F.PCT_LEARN_CNT_moves == 1) = true ∧
    gives (exec (.learnUpdate 5) (two 1)) (fun u => u.fld F.PCT_LEARN_ERR2_capped == 1) = true ∧
    gives (exec (.learnUpdate 5) (two 2)) (fun u => u.pt.mac == [(mkey, ent), (mkey + 2, { dest := 2 })]) = true) := by
  decide +kernel
theorem test_learn_fail_record : (let s (a : Option Nat) : State := { mac with pt := { (mac).pt with learnFail := 3, failAt := a } }
    (s none).pt.learnFail = 3 ∧ (mac).pt.learnFail = 0 ∧
    gives (exec (.learnFailRecord 5) (s none)) (fun u => u.pt.learnFail == 0 && u.pt.failAt == some 5) = true ∧
    gives (exec (.learnFailRecord 1000000004) (s (some 5))) (fun u => u.pt.learnFail == 3) = true ∧
    gives (exec (.learnFailRecord 1000000005) (s (some 5))) (fun u => u.pt.learnFail == 0) = true) := by decide +kernel
theorem test_round : (let at_ (e : MacEnt) : State := { mac e with pt := { (mac e).pt with macPtr := 8, macAt := 1000 } }
    let period := ((mac).latchRegs [0x300008]).macPeriod
    let t := 1000 + period / 73792
    (mac).roundRuns = true ∧ max (mac).now (t - 1) < t ∧ (at_ ent).pt.pMac.keyAt 73728 8 = some mkey ∧ mkey ∉ (at_ ent).pt.macGrace ∧
    (at_ ent).isShadow = false ∧
    gives (exec (.roundVisit (t - 1) false false) (at_ ent)) (fun u => u.pt == (at_ ent).pt) = true ∧
    gives (exec (.roundVisit t false false) (at_ ent)) (fun u => u.pt.mac == [(mkey, { ent with hit := false })] && u.pt.macPtr == 9) = true ∧
    gives (exec (.roundVisit t false false) (at_ { ent with hit := false })) (fun u => u.pt.mac == [(mkey, { ent with hit := false, strike := true })]) = true ∧
    gives (exec (.roundVisit t false true) (at_ { ent with hit := false, strike := true })) (fun u =>
      u.fld F.PCT_ROUND_SAVED_saved == 1 && u.pt.mac.length == 1) = true ∧
    gives (exec (.roundVisit t false false) (at_ { ent with hit := false, strike := true })) (fun u => u.pt.mac == [] &&
      u.fld F.PCT_ROUND_CNT_mac_aged == 1) = true) := by decide +kernel
theorem test_ecc : (mac).inFull = true ∧ Tbl.get? (mac).pt.mac mkey = some ent ∧
    gives (exec (.tableEccError 5 3 mkey true) mac) (fun u => u.fld F.PCT_ECC_corrected == 1 && u.pt == (mac).pt) = true ∧
    gives (exec (.tableEccError 5 3 mkey false) mac) (fun u => u.fld F.PCT_ECC_lost == 1 && u.pt.mac == []) = true := by decide +kernel

/-! ## Packets and ports -/

/-- Both Ethernet links up, the Sorters running without cut-through, VLAN 1 (FID 1) on both ports, 0x20 learnt at port 1. -/
def ports : State :=
  eset [(F.SRT_CTRL_run, 1), (F.SRT_CTRL_ct_en, 0)] (set [(F.ETH_STAT_link 0, 1), (F.ETH_STAT_link 1, 1)]
    { mac with sr := { full.sr with vlans := [(1, vlan 0)] } })
/-- A frame from a MAC address to another, of a type. -/
def eth (dst src type : Nat) : Bytes := toBE 6 dst ++ toBE 6 src ++ toBE 2 type ++ List.replicate 46 0#8
def send (flags vid : Nat) (frame : Bytes) : Cmd := cmd [(8, 0x5000), (2, frame.length), (1, flags), (1, 0), (2, vid)] frame
theorem test_pkt_tx : (let f := eth 0x20 0x30 0x0800
    let s := hosted ports 1
    let no : State := s.setFld F.SRT_STAT_pool_state 2
    let d : State := hosted { ports with pw := (dawn .onAir).pw } 1
    let sh : State := { s with tw := { s.tw with role := .shadow } }
    let c := send 6 0 f
    s.canFetch c = true ∧ no.canFetch c = true ∧ d.canFetch c = true ∧ sh.canFetch c = true ∧ (hosted ports).canFetch c = true ∧
    s.pw.mode ≠ .doze ∧ c.wrFail = false ∧ (no.latchRegs admRegs).admitHost (c.f 10 1 / 2 % 8) (cellsOf (c.f 8 2)) = false ∧
    (s.latchRegs admRegs).admitHost (c.f 10 1 / 2 % 8) (cellsOf (c.f 8 2)) = true ∧ s.io.hf.inFlight 0 = false ∧
    c.gen.toNat = s.fld F.HIF_GEN_gen ∧ s.fld (F.HIF_SQ_CFG_kind 0) = 1 ∧ modeStatus d.pw.mode 0x1001 = some stUNSUPPORTED ∧
    c.zero 11 1 = true ∧ c.zero 16 8 = true ∧ f.be 12 2 ≠ 0x8100 ∧ sh.isShadow = true ∧ s.fltOpen = false ∧ s.fl.held = [] ∧
    gives (exec (.pktTx 5 c) no) (fun u => u.sr == no.sr && u.io.out == [] && u.io.hf.deferred == []) = true ∧
    gives (exec (.pktTx 5 { c with gen := 2#8 }) s) (replied stSTALE) = true ∧
    gives (exec (.pktTx 5 { c with b3 := 2#8 }) s) (replied stBAD_ARG) = true ∧
    gives (exec (.pktTx 5 c) (hosted ports)) (replied stUNSUPPORTED) = true ∧
    gives (exec (.pktTx 5 c) d) (replied stUNSUPPORTED) = true ∧
    gives (exec (.pktTx 5 (send 6 0 (List.replicate 13 0#8))) s) (replied stBAD_ARG) = true ∧
    gives (exec (.pktTx 5 (send 16 0 f)) s) (replied stBAD_ARG) = true ∧
    gives (exec (.pktTx 5 (send 6 1 (eth 0x20 0x30 0x8100))) s) (replied stBAD_ARG) = true ∧
    gives (exec (.pktTx 5 c) sh) (replied stNOT_LEAD) = true ∧
    (send 6 0 (List.replicate 13 0#8)).f 8 2 < 14 ∧ 15 < (send 16 0 f).f 10 1) := by decide +kernel
theorem test_rx_post : (let s := hosted ports 2
    let c := cmd [(8, 0x5000)]
    s.canFetch c = true ∧ s.fld (F.HIF_SQ_CFG_kind 0) = 2 ∧ c.f 0 8 % 64 = 0 ∧ c.zero 8 16 = true ∧
    gives (exec (.pktRxPost 5 c) s) (fun u => u.io.hf.rxBufs.map (fun b => (b.addr, b.tag)) == [(0x5000, 7)]) = true) := by decide +kernel
theorem test_eth_rx : (let f := eth 0x20 0x30 0x0800
    let down : State := ports.setFld (F.ETH_STAT_link 0) 0
    let paused : State := { ports with pw := { ports.pw with mode := .dawn, trans := some .pause } }
    let sh : State := { ports with tw := { ports.tw with role := .shadow } }
    let un : State := ports.setFld (F.ETH_MAC_CFG_accept_untagged 0) 0
    let r := ports.latchRegs (admRegs ++ [0x340000, (F.ETH_MAC_CFG_pvid 0).off, (F.ETH_PCP_MAP_class 0).off])
    let no : State := ports.setFld F.SRT_STAT_pool_state 2
    let r' := no.latchRegs (admRegs ++ [0x340000, (F.ETH_MAC_CFG_pvid 0).off, (F.ETH_PCP_MAP_class 0).off])
    let ru := un.latchRegs (admRegs ++ [0x340000, (F.ETH_MAC_CFG_pvid 0).off, (F.ETH_PCP_MAP_class 0).off])
    down.fld (F.ETH_STAT_link 0) = 0 ∧ ports.fld (F.ETH_STAT_link 0) = 1 ∧ paused.inFull = false ∧ ports.inFull = true ∧ sh.isShadow = true ∧
    ports.flag F.SRT_CTRL_run = true ∧ ports.fltOpen = false ∧ r.eFlag F.SRT_CTRL_ct_en = false ∧ f.length = 60 ∧
    60 + 4 ≤ ports.fld (F.ETH_MAC_CFG_max_frame 0) ∧ (parseEth f).tag = none ∧ ports.io.unitOf 0 0 = none ∧
    ru.eFlag (F.ETH_MAC_CFG_accept_untagged 0) = false ∧ r.eFlag (F.ETH_MAC_CFG_accept_untagged 0) = true ∧
    r.admitEth none (bitsN (r.eFld (F.ETH_PCP_MAP_class 0)) 2 0) (cellsOf 60) = .shared ∧
    r'.admitEth none (bitsN (r'.eFld (F.ETH_PCP_MAP_class 0)) 2 0) (cellsOf 60) = .drop ∧ no.io.unitOf 0 0 = none ∧
    gives (exec (.ethFrameRx 5 0 f true) down) (fun u => u == { down with now := 5 }) = true ∧
    gives (exec (.ethFrameRx 5 0 f true) paused) (fun u => u.fld (F.ETH_DROP_adm_drop 0) == 1) = true ∧
    gives (exec (.ethFrameRx 5 0 f true) sh) (fun u => u.fld F.SRT_SHADOW_DROP_drops == 1) = true ∧
    gives (exec (.ethFrameRx 5 0 (f.take 59) true) ports) (fun u => u.fld (F.ETH_RX_ERR_len_err 0) == 1) = true ∧
    gives (exec (.ethFrameRx 5 0 f false) ports) (fun u => u.fld (F.ETH_RX_ERR_fcs_err 0) == 1) = true ∧
    gives (exec (.ethFrameRx 5 0 f true) un) (fun u => u.sr == un.sr) = true ∧
    gives (exec (.ethFrameRx 5 0 f true) no) (fun u => u.fld (F.ETH_DROP_adm_drop 0) == 1) = true) := by decide +kernel
/-- A packet from port 0 waits at Sorter 1. -/
def waiting (f : Bytes) (s : State := ports) : State :=
  { s with sr := { s.sr with input := [(1, { pkt 0 with data := f })] } }
theorem test_sorter : (let f := eth 0x20 0x30 0x0800
    let sh : State := { waiting f with tw := { ports.tw with role := .shadow } }
    let nv : State := { waiting f with sr := { (waiting f).sr with vlans := [] } }
    let un : State := waiting (eth 0x40 0x30 0x0800)
    let rt : State := set [(F.SRT_ROUTER_MAC_LO_mac, 0x50)]
      { waiting (eth 0x50 0x30 0x0806) with sr := { (waiting (eth 0x50 0x30 0x0806)).sr with vlans := [(1, { vlan 0 with routeEn := true })] } }
    ports.sr.input = [] ∧ (waiting f).sr.input.find? (fun (x : Nat × Packet) => x.1 == 1) = some (1, { pkt 0 with data := f }) ∧
    sh.isShadow = true ∧ (waiting f).sortersRun = true ∧ (waiting f).isShadow = false ∧ Tbl.get? nv.sr.vlans 1 = none ∧
    Tbl.get? ports.sr.vlans 1 = some (vlan 0) ∧ Tbl.get? ports.pt.mac (2 ^ 48 + 0x30) = none ∧ rt.routerMac = 0x50 ∧
    (vlan 0).routeEn = false ∧ bitN (0x20 / 2 ^ 40) 0 = false ∧ Tbl.get? ports.pt.mac (2 ^ 48 + 0x40) = none ∧
    Tbl.get? ports.pt.mac (2 ^ 48 + 0x20) = some ent ∧ ports.fld (F.ETH_STAT_link 1) = 1 ∧
    ((waiting f).latchRegs [0x340000]).eFlag F.SRT_CTRL_ct_en = false ∧
    wireLen (ethEgress (1, vlan 0) 1 { pkt 0 with data := f }) = 64 ∧ 64 ≤ ports.fld (F.ETH_MAC_CFG_max_frame 1) ∧
    (waiting f).overLimit (ethQ 1 0) 1 (cellsOf 60) = false ∧
    gives (exec (.sorterPacket 5 1) ports) (fun u => u == { ports with now := 5 }) = true ∧
    gives (exec (.sorterPacket 5 1) sh) (fun u => u.sr.input == [] && u.qm == sh.qm) = true ∧
    gives (exec (.sorterPacket 5 1) nv) (fun u => u.sr.input == [] && u.fld F.SRT_DROP_ADM_no_vlan == 1) = true ∧
    gives (exec (.sorterPacket 5 1) rt) (fun u => u.fld F.SRT_EXC_CNT_exceptions == 1) = true ∧
    gives (exec (.sorterPacket 5 1) un) (fun u => u.fld F.PCT_FLOOD_flood_unknown == 1) = true ∧
    gives (exec (.sorterPacket 5 1) (waiting f)) (fun u => (u.queue (ethQ 1 0)).pkts.map (·.data) == [f]) = true) := by decide +kernel
/-- A queue of one packet, alone in the round of its class at an egress point. -/
def egress (e n c : Nat) (p : Packet) (s : State := ports) : State :=
  { s with qm := { s.qm with queues := [(n, { cls := c, deficit := 9000, pkts := [p] })], rounds := [(8 * e + c, [n])] } }
theorem test_egress : (let s := egress 1 (ethQ 1 7) 7 (pkt 60)
    let r := s.latchRegs ((F.QMS_EGRESS_sp_min 1).off :: (List.range 8).map fun c => (F.QMS_CLASS_SHP_en 1 c).off)
    let cut : State := { ports with sr := { ports.sr with cutting := [(1, pkt 60)] } }
    r.eFld (F.QMS_EGRESS_sp_min 1) ≤ 7 ∧ s.round 1 7 = [ethQ 1 7] ∧ (s.queue (ethQ 1 7)).cls = 7 ∧
    (s.queue (ethQ 1 7)).pkts = [pkt 60] ∧ r.shaperOk 1 (ethQ 1 7) = true ∧ s.inFull = true ∧ s.isShadow = false ∧
    Tbl.get? s.sr.cutting 1 = none ∧ s.fld (F.ETH_STAT_link 1) = 1 ∧ s.paused 1 7 = false ∧
    (wireLen (pkt 60).data : Int) ≤ (s.queue (ethQ 1 7)).deficit ∧ Tbl.get? cut.sr.cutting 1 = some (pkt 60) ∧
    gives (exec (.egressDequeue 5 5) s) (fun u => u == { s with now := 5 }) = true ∧
    gives (exec (.egressDequeue 5 1) cut) (fun u => u.sr.cutting == [] && u.fld (F.ETH_TX_FRAMES_frames 1) == 1) = true ∧
    gives (exec (.egressDequeue 5 1) s) (fun u => u.io.out.any (fun o => match o with | .eth 1 _ => true | _ => false) &&
      (u.queue (ethQ 1 7)).pkts == [] && u.fld (F.QMS_TX_PKTS_count 1 7) == 1) = true) := by decide +kernel
theorem test_host_egress : (let h := hosted ports 2
    let b : RxBuf := ⟨0, 0, 0x5000, 7, 1, 0⟩
    let s (n size : Nat) : State := set [(F.HIF_SQ_CFG_buf_256 0, size)] (egress 6 (hostQ 0) 7 (pkt n)
      { h with io := { h.io with hf := { h.io.hf with rxBufs := [b] } } })
    let r := (s 60 1).latchRegs ((F.QMS_EGRESS_sp_min 6).off :: (List.range 8).map fun c => (F.QMS_CLASS_SHP_en 6 c).off)
    r.eFld (F.QMS_EGRESS_sp_min 6) ≤ 7 ∧ (s 60 1).round 6 7 = [hostQ 0] ∧ r.shaperOk 6 (hostQ 0) = true ∧ (s 60 1).inFull = true ∧
    (s 60 1).rxReady 0 = some b ∧ (s 241 1).rxReady 0 = some b ∧ (s 60 1).fltOpen = false ∧ (s 60 1).fl.held = [] ∧
    240 + 16 ≤ (s 240 1).fld (F.HIF_SQ_CFG_buf_256 0) * 256 ∧ (s 241 1).fld (F.HIF_SQ_CFG_buf_256 0) * 256 < 241 + 16 ∧
    gives (exec (.egressDequeue 5 6) (s 240 1)) (fun u => (u.queue (hostQ 0)).pkts == [] && u.io.out.any (fun o => match o with
      | .dma 0x5000 _ => true
      | _ => false)) = true ∧
    gives (exec (.egressDequeue 5 6) (s 241 1)) (fun u => (u.queue (hostQ 0)).pkts == [] && u.fld F.HIF_RX_DROP_too_big == 1 &&
      u.io.hf.rxBufs == [b]) = true) := by decide +kernel
theorem test_shaper : (let par : ShpPar := { en := true, inc := 300, burst := 4 }
    let s (x : Shaper) : State := { full with qm := { full.qm with shapers := [(3, x)] } }
    let a : Shaper := { par := par, tokens := 900, at_ns := 10 }
    let p : Shaper := { pend := some (par, 1), at_ns := 10 }
    (s a).shaper 3 = a ∧ (s p).shaper 3 = p ∧ max (s a).now 9 < 10 ∧ (full.shaper 3).par.en = false ∧ (full.shaper 3).pend = none ∧
    gives (exec (.shaperRefill 9 3) (s a)) (fun u => u == { s a with now := 9 }) = true ∧
    gives (exec (.shaperRefill 9 3) full) (fun u => u == { full with now := 9 }) = true ∧
    gives (exec (.shaperRefill 10 3) (s p)) (fun u => (u.shaper 3).tokens == 1024 && (u.shaper 3).par == par && (u.shaper 3).pend == none) = true) := by
  decide +kernel
theorem test_shaper_fills : (let par : ShpPar := { en := true, inc := 300, burst := 4, idleCap := 4 }
    let s : State := { full with qm := { full.qm with shapers := [(3, { par := par, tokens := 900, at_ns := 10 })] } }
    gives (exec (.shaperRefill 10 3) s) (fun u => (u.shaper 3).tokens == 1024) = true) := by decide +kernel
def spilling : State :=
  eset [(F.SRT_SPILL_CFG_spill_en, 1), (F.SRT_SPILL_THR_spill_on, 1), (F.SRT_SPILL_THR_spill_off, 0)]
    (queued 0x20003 { pkts := [pkt 60] })
theorem test_spill : (let on := spilling
    let off := eset [(F.SRT_SPILL_CFG_spill_en, 0)] full
    let out : Packet := { pkt 60 with spilled := true }
    (off.latchRegs admRegs).eFlag F.SRT_SPILL_CFG_spill_en = false ∧ on.inFull = true ∧
    (on.latchRegs admRegs).eFlag F.SRT_SPILL_CFG_spill_en = true ∧ on.fld F.SRT_STAT_spill_full = 0 ∧
    (on.latchRegs admRegs).thr ((on.latchRegs admRegs).eFld F.SRT_SPILL_THR_spill_on) ≤ on.sharedUsed ∧ Tbl.sorted on.qm.queues = true ∧
    (queued 9 { pkts := [out] }).roomFor out.cells = true ∧ out.spilled = true ∧
    gives (exec (.spillMove 5) off) (fun u => u.fld F.SRT_STAT_spill_active == 0 && u.qm == full.qm) = true ∧
    (queued 9 { pkts := [out] }).inFull = true ∧ ((queued 9 { pkts := [out] }).queue 9).pkts = [out] ∧
    gives (exec (.spillFetchDone 5 9 0#8) full) (fun u => u == { full with now := 5 }) = true) := by decide +kernel
theorem test_pause : (let x := set [(F.ETH_STAT_xoff_sent 0, 1)] ports
    let due := 32768 * x.io.quantum10 0 / 10
    let no : State := ports.setFld (F.ETH_FC_CFG_rx_honour 0) 0
    let p (at_ : Nat) : State := set [(F.ETH_STAT_paused 0, 4)] { ports with sr := { ports.sr with paused := [(2, at_)] } }
    x.ethServes = true ∧ x.xoffOn 0 0 = true ∧ ports.xoffOn 0 0 = false ∧ max x.now (due - 1) < due ∧ ports.inFull = true ∧
    (no.latchRegs [(F.ETH_FC_CFG_rx_honour 0).off]).eFlag (F.ETH_FC_CFG_rx_honour 0) = false ∧
    ports.eFlag (F.ETH_FC_CFG_rx_honour 0) = true ∧ full.fld (F.ETH_STAT_link 0) = 0 ∧
    gives (exec (.xoffRepeat due 0 0) x) (fun u => u.fld (F.ETH_PAUSE_CNT_tx 0) == 1 && u.io.out == [.pause 0 1 0xFFFF]) = true ∧
    gives (exec (.xoffRepeat (due - 1) 0 0) x) (fun u => u.io.out == []) = true ∧
    gives (exec (.pauseRx 5 0 false 0#8 [9]) full) (fun u => u == { full with now := 5 }) = true ∧
    gives (exec (.pauseRx 5 0 false 0#8 [9]) no) (fun u => u.fld (F.ETH_PAUSE_CNT_rx 0) == 1 && u.sr == no.sr) = true ∧
    gives (exec (.pauseRx 5 0 false 0#8 [10]) ports) (fun u => u.fld (F.ETH_STAT_paused 0) == 255 &&
      Tbl.get? u.sr.paused 7 == some (5 + 512)) = true ∧
    gives (exec (.pauseRx 5 0 false 0#8 [0]) (p 99)) (fun u => u.fld (F.ETH_STAT_paused 0) == 0 && u.sr.paused == []) = true ∧
    gives (exec (.pauseRx 5 0 true (BitVec.twoPow 8 7) [0, 0, 0, 0, 0, 0, 0, 10]) ports) (fun u => u.paused 0 7 && !u.paused 0 0) = true ∧
    gives (exec (.pauseTimerExpiry 98 0 2) (p 99)) (fun u => u.paused 0 2) = true ∧
    gives (exec (.pauseTimerExpiry 99 0 2) (p 99)) (fun u => !u.paused 0 2 && u.sr.paused == []) = true ∧
    gives (exec (.pauseTimerExpiry 99 0 3) (p 99)) (fun u => u.paused 0 2) = true) := by decide +kernel
theorem test_eth_link : (let s : State := { queued (ethQ 0 2) { pkts := [pkt 60, pkt 61] } with io := ports.io }
    let en (m : Nat) : State := set [(F.ETH_CTRL_en 0, 1), (F.ETH_CTRL_mode 0, m)] full
    s.fld (F.ETH_STAT_link 0) = 1 ∧ full.fld (F.ETH_STAT_link 0) = 0 ∧ full.fld (F.ETH_CTRL_en 0) = 0 ∧ (en 2).flag F.CLK_STAT_eth0_lock = true ∧
    (en 2).fld (F.ETH_CTRL_en 0) = 1 ∧ (en 2).pw.mode = .full ∧
    gives (exec (.ethLinkDown 5 0) full) (fun u => u == { full with now := 5 }) = true ∧
    gives (exec (.ethLinkDown 5 0) s) (fun u => u.fld (F.ETH_STAT_link 0) == 0 && (u.queue (ethQ 0 2)).pkts == [] &&
      u.fld (F.ETH_DROP2_link_down 0) == 2) = true ∧
    gives (exec (.ethLinkUp 5 0 5) full) (fun u => u.fld (F.ETH_STAT_link 0) == 0) = true ∧
    gives (exec (.ethLinkUp 5 0 5) (en 5)) (fun u => u.fld (F.ETH_STAT_link 0) == 0) = true ∧
    gives (exec (.ethLinkUp 5 0 5) (en 4)) (fun u => u.fld (F.ETH_STAT_link 0) == 1 && u.fld (F.ETH_STAT_speed 0) == 5) = true ∧
    gives (exec (.ethLinkUp 5 0 5) (en 3)) (fun u => u.fld (F.ETH_STAT_speed 0) == 2) = true) := by decide +kernel

/-! ## The twin -/

/-- The twin link up with a peer that claims 12: the peer's session is 0x51 and its last number 4. -/
def twin : State :=
  { set [(F.TWN_CFG_link_en, 1), (F.TWN_CFG_key_slot, 3), (F.TWN_CFG_pair_en, 1)] full with
    kv := { full.kv with work := [(3, work 0x102 netKey)] }
    tw := { full.tw with claimIn := 12, link := .up, peerSession := some 0x51, rxSeq := 4, session := 0x52, txSeq := 8 } }
/-- As Lead: the claim 13 with id 1. -/
def lead : State := { twin with tw := { twin.tw with role := .lead, claim := 13 } }
/-- As Shadow of a Lead that claims 13; its gate is closed. -/
def shadow : State := { twin with tw := { twin.tw with role := .shadow, claimIn := 13, claim := 12, gate := false } }
theorem test_claim : (let solo : State := { full with tw := { full.tw with claimIn := 8 } }
    full.tw.claimIn = 0 ∧ full.tw.claim = 12 ∧
    gives (exec (.claimInChange 5 0) full) (fun u => u == { full with now := 5 }) = true ∧
    gives (exec (.claimInChange 5 11) full) (fun u => u.tw.claimIn == 11 && u.tw.gate && u.tw.role == .solo) = true ∧
    gives (exec (.claimInChange 5 7) solo) (fun u => u.tw.claimIn == 7 && u.tw.gate) = true ∧
    gives (exec (.claimInChange 5 12) full) (fun u => !u.tw.gate && u.tw.role == .shadow && u.tw.claim == 12) = true) := by decide +kernel
theorem test_gate : (let s : State := { full with tw := { full.tw with gate := false, claimIn := 8, changedAt := 100 } }
    let sh : State := { s with tw := { s.tw with role := .shadow } }
    s.ck.refFailed = false ∧ s.tw.claimIn < s.tw.claim ∧ s.tw.changedAt + 150 = 250 ∧ shadow.tw.claim ≤ shadow.tw.claimIn ∧
    sh.tw.role = .shadow ∧ s.tw.role = .solo ∧
    gives (exec (.gateOpen 249) s) (fun u => !u.tw.gate) = true ∧
    gives (exec (.gateOpen 250) s) (fun u => u.tw.gate && u.tw.role == .lead && u.fld F.TWN_ROLE_CNT_changes == 1) = true ∧
    gives (exec (.gateOpen 250) sh) (fun u => u.tw.gate && u.tw.role == .lead && u.fld F.HIF_GEN_gen == 2) = true) := by decide +kernel
def hd (session seq : Nat) (ok : Bool := true) : THdr := ⟨session, seq, ok⟩
theorem test_messages : (let tr : State := { twin with tw := { twin.tw with link := .training, peerSession := none } }
    let off : State := twin.setFld F.TWN_CFG_link_en 0
    let l : LeaseRec := ⟨1, ⟨3, 4⟩, 0x100000, none, 0, none, 7⟩
    let k : State := { twin with ms := { twin.ms with rec_ := some l }, tw := { twin.tw with leaseOut := some (1, 9) } }
    twin.twinReady = true ∧ twin.tw.link = .up ∧ off.twinReady = false ∧ full.tw.link = .down ∧ twin.fltOpen = false ∧ twin.fl.held = [] ∧
    tr.tw.link = .training ∧ tr.twinReady = true ∧ twin.isShadow = false ∧ twin.listens = false ∧ k.ms.rec_ = some l ∧
    gives (exec (.status 5 (hd 0x51 5) []) full) (fun u => u == { full with now := 5 }) = true ∧
    gives (exec (.status 5 (hd 0x51 5) []) off) (fun u => u == { off with now := 5 }) = true ∧
    gives (exec (.revert 5 (hd 0x51 5 false) 7) twin) (fun u => u.fld F.TWN_LINK_ERR_tag_fail == 1 && u.tw == twin.tw) = true ∧
    gives (exec (.hello 5 (hd 0x53 1) 12 3 1 true true) tr) (fun u => u.tw.link == .up && u.tw.absent && u.tw.peerSession == some 0x53) = true ∧
    gives (exec (.hello 5 (hd 0x53 1) 12 3 1 false false) tr) (fun u => u.tw.link == .training) = true ∧
    gives (exec (.time 5 (hd 0x51 5) 7 900) twin) (fun u => u.ml == twin.ml && u.tw.rxSeq == 5) = true ∧
    gives (exec (.slotRec 5 (hd 0x51 5) 0 [] []) twin) (fun u => u.pt == twin.pt && u.tw.rxSeq == 5) = true ∧
    gives (exec (.lease 5 (hd 0x51 5) 2 9 true) k) (fun u => u.ms == k.ms && u.io == k.io) = true ∧
    gives (exec (.lease 5 (hd 0x51 5) 1 9 false) k) (fun u => u.ms == k.ms && u.fld F.TEL_FAULT_mram == 1) = true ∧
    gives (exec (.lease 5 (hd 0x51 5) 1 9 true) k) (fun u => u.nv.lease == some { l with peerEnd := 9 } &&
      u.io.out == [.twin 5 9 (rec_ [(1, 1), (5, 9)])]) = true ∧
    gives (exec (.leaseAck 5 (hd 0x51 5) 1 9) k) (fun u => u.tw.leaseOut == none && u.fld F.TWN_ACKED_LO_acked == 9) = true ∧
    gives (exec (.revert 5 (hd 0x51 5) 7) twin) (fun u => u.tw.peerRevert == some 7) = true ∧
    gives (exec (.status 5 (hd 0x51 5) [1#8]) twin) (fun u => u.tw.peerStatus == [1#8]) = true) := by decide +kernel
theorem test_shadow_messages : (let f : ShadowFrame := ⟨0, 9, 30, 1, 0, false, 0⟩
    let s : State := { shadow with tw := { shadow.tw with shadow := [f] }, pt := mesh.pt }
    let r : TRec := ⟨9, 30, 1, false⟩
    shadow.isShadow = true ∧ shadow.twinReady = true ∧ shadow.ml.slotAt ≤ 0 + 12500000 ∧ 12499999 < shadow.ml.slotAt + 12500000 ∧ s.listens = true ∧
    s.pw.mode = .full ∧ s.ctxOfAddr 9 = some (5, ctx9) ∧ s.tw.shadow = [f] ∧ f.slot = 0 ∧
    gives (exec (.time 5 (hd 0x51 5) 0 12499999) shadow) (fun u => u.ml.slotAt == 12499999 && u.fld F.TWN_STAT_time_src == 1 &&
      u.fld F.TWN_TIME_offset == 124999 % 65536) = true ∧
    gives (exec (.slotRec 5 (hd 0x51 5) 0 [] []) s) (fun u => u.tw.shadow == [] && u.pt == s.pt) = true ∧
    gives (exec (.slotRec 5 (hd 0x51 5) 0 [r] []) s) (fun u => u.tw.shadow == [] && u.pt.ctx.map (fun x => x.2.ctr) == [30] &&
      u.fld F.TWN_SLOT_REC_received == 1) = true) := by decide +kernel
theorem test_twin_link : (let k : State := { lead with tw := { lead.tw with leaseOut := some (1, 9), leaseAt := 5 } }
    let d : State := { twin with tw := { twin.tw with link := .down, linkDownAt := 5 } }
    k.tw.link = .up ∧ k.tw.role = .lead ∧ d.tw.link = .down ∧ twin.twinReady = true ∧ d.twinReady = true ∧
    gives (exec (.helloTx 5) d) (fun u => u == { d with now := 5 }) = true ∧
    gives (exec (.helloTx 5) k) (fun u => u.io.out == [.twin 1 9 (rec_ [(8, 0x52), (1, 13), (1, 3), (1, 1), (1, 0)])]) = true ∧
    gives (exec (.statusTx 5) k) (fun u => match u.io.out with | [.twin 7 9 _] => true | _ => false) = true ∧
    gives (exec (.leaseResend 10000004) k) (fun u => u.io.out == []) = true ∧
    gives (exec (.leaseResend 10000005) k) (fun u => u.io.out == [.twin 4 9 (rec_ [(1, 1), (5, 9)])] && u.tw.leaseAt == 10000005) = true ∧
    gives (exec (.twinLinkTimeout 9999999) twin) (fun u => u.tw.link == .up) = true ∧
    gives (exec (.twinLinkTimeout 10000000) twin) (fun u => u.tw.link == .down && u.fld F.TWN_LINK_ERR_downs == 1) = true ∧
    gives (exec (.twinLinkTimeout 5) (twin.setFld F.TWN_CFG_link_en 0)) (fun u => u.tw.link == .down) = true ∧
    gives (exec (.twinLinkRetrain 100000004) d) (fun u => u.tw.link == .down) = true ∧
    gives (exec (.twinLinkRetrain 100000005) d) (fun u => u.tw.link == .training && u.tw.txSeq == 0) = true) := by decide +kernel
/-- A unit that wants to lead again, serviceable since an instant. -/
def wants : State :=
  set [(F.TOP_STRAP_twin_pref, 1)] { twin with tw := { twin.tw with servSince := some 5, window := true } }
theorem test_holdoff : (let e := wants.holdoff * 1000000000
    full.tw.servSince = none ∧ wants.wantsLead = true ∧ wants.tw.preferred = false ∧ wants.tw.hold = false ∧ wants.tw.revertSlot = none ∧
    gives (exec (.holdoffExpiry (4 + e)) wants) (fun u => u.tw.revertSlot == none) = true ∧
    gives (exec (.holdoffExpiry (5 + e)) wants) (fun u => u.tw.revertSlot == some 1) = true ∧
    gives (exec (.holdoffExpiry 5) full) (fun u => u == { full with now := 5 }) = true ∧
    gives (exec (.recoveryWindowClose 60000000004) wants) (fun u => u.tw.window) = true ∧
    gives (exec (.recoveryWindowClose 60000000005) wants) (fun u => !u.tw.window) = true) := by decide +kernel
theorem test_raise : (let r : State := { wants with tw := { wants.tw with revertSlot := some 0 } }
    let d : State := { twin with tw := { twin.tw with dusk := true, preferred := true, claim := 14 }, pw := { twin.pw with trans := some .toDusk } }
    let h : State := { lead with tw := { lead.tw with hold := true, preferred := true, claim := 15 } }
    r.tw.dusk = false ∧ r.tw.hold = false ∧ r.tw.revertSlot = some r.ml.slot ∧ r.servNow = true ∧ r.wantsLead = true ∧
    d.tw.dusk = true ∧ d.tw.duskWait = none ∧ d.pw.trans = some .toDusk ∧ h.tw.holdClr = false ∧ h.peerServ = true ∧
    h.tw.claimIn < h.tw.claim ∧ twin.tw.revertSlot ≠ some twin.ml.slot ∧
    gives (exec (.preferredRaise 24499999) r) (fun u => !u.tw.preferred) = true ∧
    gives (exec (.preferredRaise 24500000) r) (fun u => u.tw.preferred && u.tw.claim == 14) = true ∧
    gives (exec (.preferredRaise 24500000) d) (fun u => u.tw.duskWait == some 24500000 && u.tw.absence && u.tw.claim == 8) = true ∧
    gives (exec (.preferredRaise 24500000) twin) (fun u => u == { twin with now := 24500000 }) = true) := by decide +kernel
theorem test_raise_hold : (let h : State := { lead with tw := { lead.tw with hold := true, preferred := true, claim := 15 } }
    gives (exec (.preferredRaise 24500000) h) (fun u => u.tw.holdClr && !u.tw.preferred && u.tw.claim / 2 % 4 == 0) = true) := by
  decide +kernel
theorem test_peer : (let s : State := { twin with tw := { twin.tw with peerDeadAt := some 5 } }
    let d : State := { full with tw := { full.tw with standDue := true } }
    full.flag F.TWN_CFG_pair_en = false ∧ s.flag F.TWN_CFG_pair_en = true ∧ s.tw.absent = false ∧ full.tw.standDue = false ∧
    gives (exec (.peerLost 5) full) (fun u => u.fld F.TWN_STAT_peer_lost == 0) = true ∧
    gives (exec (.peerLost 1000000005) s) (fun u => u.fld F.TWN_STAT_peer_lost == 0) = true ∧
    gives (exec (.peerLost 1000000006) s) (fun u => u.fld F.TWN_STAT_peer_lost == 1 && u.fld F.TEL_FAULT_twin == 1) = true ∧
    gives (exec (.standDown 5) full) (fun u => u == { full with now := 5 }) = true ∧
    gives (exec (.standDown 5) d) (fun u => u.nv.stoodDown && u.tw.claim == 0 && !u.tw.gate) = true) := by decide +kernel
theorem test_hold : (let s : State := waits (hosted { lead with tw := { lead.tw with hold := true, holdAt := some 5 } }) 0x0701
    full.tw.holdAt = none ∧ s.tw.holdAt = some 5 ∧ s.io.hostOk = true ∧
    s.io.hf.deferred.filter (fun d => d.opcode == 0x0701) = [⟨0, 0, 1, 7, 0x0701, 1⟩] ∧
    gives (exec (.twnHoldTimeout 50000004) s) (fun u => u.tw.hold) = true ∧
    gives (exec (.twnHoldTimeout 50000005) s) (fun u => !u.tw.hold && u.tw.holdAt == none && replied stTIMEOUT u) = true) := by decide +kernel
theorem test_role : (let c (op : Nat) : Cmd := cmd [(1, op)]
    let s := hosted full
    let h : State := { s with tw := { s.tw with hold := true } }
    let d : State := { s with nv := { s.nv with stoodDown := true } }
    let r : State := { s with pw := { s.pw with mode := .rescue } }
    s.canFetch (c 0) = true ∧ s.io.hf.inFlight 0 = false ∧ s.pw.mode ≠ .doze ∧ modeStatus .dusk 0x0701 = some stBUSY_TEST ∧
    (∀ k ∈ [0, 1, 2], Ready s (c k) .command ∧ (c k).zero 1 23 = true ∧ (c k).f 0 1 = k) ∧ Alone s ∧
    (hosted s 1).canFetch (c 0) = true ∧ (hosted s 1).fld (F.HIF_SQ_CFG_kind 0) ≠ 0 ∧ modeStatus r.pw.mode 0x0701 = some stUNSUPPORTED ∧
    r.canFetch (c 0) = true ∧
    gives (exec (.twnRoleRequest 5 { c 0 with gen := 2#8 }) s) (replied stSTALE) = true ∧
    gives (exec (.twnRoleRequest 5 { c 0 with b3 := 2#8 }) s) (replied stBAD_ARG) = true ∧
    gives (exec (.twnRoleRequest 5 (c 0)) (hosted s 1)) (replied stUNSUPPORTED) = true ∧
    gives (exec (.twnRoleRequest 5 (c 0)) s) (fun u => replied stOK u && u.tw.hold) = true ∧
    gives (exec (.twnRoleRequest 5 (c 1)) h) (fun u => replied stOK u && !u.tw.hold) = true ∧
    gives (exec (.twnRoleRequest 5 (c 2)) s) (replied stBAD_ARG) = true ∧
    gives (exec (.twnRoleRequest 5 (c 2)) d) (fun u => replied stOK u && !u.nv.stoodDown) = true) := by decide +kernel
theorem test_role_lead : (let c := cmd [(1, 0)]
    let s := set [(F.TOP_STRAP_twin_id, 1)] (hosted lead)
    Ready s c .command ∧ s.tw.role = .lead ∧ s.peerServ = true ∧
    gives (exec (.twnRoleRequest 5 c) s) (fun u => replied stDEFERRED u && u.tw.hold && u.tw.holdAt == some 5) = true) := by decide +kernel
theorem test_twn_status : (let c := cmd [(8, 0x5000)]
    let s := hosted full
    Ready s c .command ∧ modeStatus s.pw.mode 0x0702 = none ∧ c.f 0 8 % 32 = 0 ∧ c.zero 8 16 = true ∧
    gives (exec (.twnStatus 5 c) s) (replied stOK) = true) := by decide +kernel

/-! ## Updates and Rescue -/

/-- In Full on set A, Confirmed; set B is at `b`. -/
def sets (b : SetEnt) (job : Option UpJob := none) : State :=
  { hosted full with
    nv := { dir0 := some ⟨1, false, { state := 4, svn := 5, fw := 7, tries := 3 }, b⟩, floor0 := some 4, floor1 := some 3 }
    up := { running := some false, job := job, copyB := true } }
/-- In Full on set B, on trial since an instant. -/
def trial : State :=
  { hosted full with
    nv := { dir0 := some ⟨1, true, { state := 4, svn := 5 }, { state := 3, svn := 6, tries := 1 }⟩ }
    up := { running := some true, trialAt := some 5, copyA := true } }
def page : Bytes := List.replicate 256 0xAB#8
def stageCmd (len off which : Nat) : Cmd := cmd [(8, 0x5000), (4, len), (4, off), (1, which)] (page ++ page)
theorem test_stage : (let s := sets {}
    let j := sets {} (some (.verify true))
    (∀ c ∈ [stageCmd 256 0 1, stageCmd 512 (setArea - 512) 3, stageCmd 512 (setArea - 256) 1, stageCmd 1048576 0 1, stageCmd 256 0 0],
      Ready s c .command ∧ c.f 0 8 % 32 = 0 ∧ c.zero 17 7 = true ∧ c.rdErr = none ∧ c.f 12 4 % 256 = 0 ∧ 256 ≤ c.f 8 4 ∧ c.f 8 4 ≤ 1048576) ∧
    s.pw.mode = .full ∧ s.up.running = some false ∧ s.dir.isSome = true ∧ s.bootSet = false ∧ (stageCmd 512 (setArea - 512) 3).f 12 4 + 512 = setArea ∧
    gives (exec (.updStage 5 (stageCmd 256 0 1)) j) (replied stNO_ROOM) = true ∧
    gives (exec (.updStage 5 (stageCmd 256 0 0)) s) (replied stBAD_ARG) = true ∧
    gives (exec (.updStage 5 (stageCmd 512 (setArea - 256) 1)) s) (replied stBAD_ARG) = true ∧
    gives (exec (.updStage 5 (stageCmd 128 0 1)) s) (replied stBAD_ARG) = true ∧
    gives (exec (.updStage 5 (stageCmd 512 (setArea - 512) 3)) s) (fun u => replied stDEFERRED u &&
      u.up.job == some (.stage true (setArea - 512) (page ++ page) true)) = true) := by decide +kernel
/-- Two pages that hold the header's numbers: `svn` 9, `fw` 8, `set_len` 512. -/
def chunk : Bytes := rec_ [(12, 0), (4, 9), (4, 8), (16, 0), (4, 512)] ++ List.replicate 472 0xAB#8
theorem test_staged : (let s := waits (sets { state := 2 } (some (.stage true 0 chunk true))) 0x0801
    let m := waits (sets { state := 2 } (some (.stage true 256 page false))) 0x0801
    s.dir ≠ none ∧ (s.deferredOp 0x0801).isSome = true ∧ chunk.length = 512 ∧
    gives (exec (.updStageDone 5 true) s) (fun u => replied stOK u && u.ent true == { state := 1, svn := 9, fw := 8 } &&
      flashRead (u.flash true) 510 3 == [0xAB#8, 0xAB#8, 0xFF#8] && !u.hasCopy true) = true ∧
    gives (exec (.updStageDone 5 true) m) (fun u => replied stOK u && (u.ent true).state == 0) = true ∧
    gives (exec (.updStageDone 5 false) s) (fun u => replied stHW_FAULT u && (u.ent true).state == 0) = true) := by decide +kernel
theorem test_verify : (let c := cmd [(16, 0), (1, 1)]
    let s := sets { state := 1 }
    let v := waits (sets { state := 1 } (some (.verify true))) 0x0802
    Ready s c .command ∧ c.f 16 1 = true.toNat ∧ c.zero 0 16 = true ∧ c.zero 17 7 = true ∧ s.up.job = none ∧ s.pw.mode = .full ∧
    v.up.job = some (.verify true) ∧ v.dir ≠ none ∧ (v.deferredOp 0x0802).isSome = true ∧ v.setCheck true allComps = some stBAD_ARG ∧
    gives (exec (.updVerify 5 c) s) (fun u => replied stDEFERRED u && u.up.job == some (.verify true)) = true ∧
    gives (exec (.updVerifyDone 5) v) (fun u => replied stBAD_ARG u && u.up.job == none && (u.ent true).state == 1) = true) := by
  decide +kernel
/-- The image under verification in set A. -/
def verifying : State := waits { imaged full with up := { job := some (.verify false) } } 0x0802
theorem test_upd_verified : verifying.up.job = some (.verify false) ∧ verifying.dir ≠ none ∧
    (verifying.deferredOp 0x0802).isSome = true ∧ verifying.pw.mode = .full ∧ verifying.setCheck false allComps = none :=
  ⟨by decide +kernel, by decide +kernel, by decide +kernel, by decide +kernel,
    (setCheck_congr (imaged State.reset) verifying false _ allComps rfl (by decide +kernel)).trans image_ok⟩
theorem test_activate : (let c (set op : Nat) : Cmd := cmd [(16, 0), (1, set), (1, op)]
    let s := sets { state := 2, svn := 6 }
    let r : State := { s with pw := { s.pw with mode := .rescue } }
    let g := sets { state := 1 }
    let j := sets { state := 2 } (some (.verify true))
    Ready j (c 1 0) .command ∧ j.up.job ≠ none ∧ g.up.job = none ∧ trial.up.job = none ∧
    gives (exec (.updActivate 5 (c 1 1) x0) j) (replied stNO_ROOM) = true ∧
    (∀ op ∈ [0, 1], Ready s (c 1 op) .command ∧ (c 1 op).f 16 1 = true.toNat ∧ (c 1 op).zero 0 16 = true ∧
      (c 1 op).zero 18 6 = true ∧ (c 1 op).f 17 1 = op) ∧ Ready trial (c 1 1) .command ∧ Ready r (c 1 0) .command ∧
    (s.ent true).state = 2 ∧ s.hasCopy true = true ∧ s.up.job = none ∧ (g.ent true).state ≠ 2 ∧ (s.ent true).state ≠ 3 ∧
    s.pw.mode = .full ∧ r.pw.mode = .rescue ∧ trial.up.running = some true ∧ (trial.ent true).state = 3 ∧ s.sameDawn = true ∧
    gives (exec (.updActivate 5 (c 1 0) x0) s) (fun u => replied stDEFERRED u && (u.ent true).state == 3 && (u.ent true).tries == 2 &&
      u.bootSet && u.up.job == some (.activate true .ready)) = true ∧
    gives (exec (.updActivate 5 (c 1 0) x0) g) (replied stBAD_ARG) = true ∧
    gives (exec (.updActivate 5 (c 1 1) x0) s) (replied stBAD_ARG) = true ∧
    gives (exec (.updActivate 5 (c 1 1) x0) trial) (fun u => replied stOK u && u.ent true == { state := 4, svn := 6, tries := 3 } &&
      u.floor? == some 6 && u.up.trialAt == none) = true) := by decide +kernel
theorem test_rescue_activate : (let c : Cmd := cmd [(16, 0), (1, 1), (1, 0)]
    let s := sets { state := 2, svn := 6 }
    gives (exec (.updActivate 5 c x0) { s with pw := { s.pw with mode := .rescue } }) (fun u =>
      u.pw.mode == .dawn && u.pw.stage == .rom && u.fld F.PWR_RESET_CAUSE_soft == 1 && (u.ent true).state == 3 && u.bootSet) =
      true) := by decide +kernel
theorem test_upd_status : (let c := cmd [(8, 0x5000)]
    let s := sets { state := 2, svn := 6 }
    Ready s c .command ∧ s.pw.mode = .full ∧ c.f 0 8 % 32 = 0 ∧ c.zero 8 16 = true ∧ s.floor? = some 4 ∧
    gives (exec (.updStatus 5 c) s) (fun u => replied stOK u && u.io.out.any fun o => match o with
      | .dma a b => a == 0x5000 && b.take 8 == rec_ [(4, 32), (4, 4)]
      | _ => false) = true) := by decide +kernel
theorem test_tpl_update : (let s := waits (sets { state := 3 } (some (.activate true .update))) 0x0803
    let n := sets { state := 3 }
    s.dir ≠ none ∧ (s.deferredOp 0x0803).isSome = true ∧ s.pw.mode = .full ∧ s.pw.trans = none ∧ s.resyncing = false ∧
    n.up.job = none ∧
    gives (exec (.triplicateUpdate 5 true) s) (fun u => u.fld F.TPL_STAT_image_set == 1 &&
      u.up.job == some (.activate true .ready)) = true ∧
    gives (exec (.triplicateUpdate 5 false) s) (fun u => replied stBAD_SIGNATURE u && (u.ent true).state == 2 && !u.bootSet) = true ∧
    gives (exec (.triplicateUpdate 5 true) n) (fun u => u == { n with now := 5 }) = true) := by decide +kernel
theorem test_upd_pause : (let s := sets { state := 3 } (some (.activate true .ready))
    s.up.job = some (.activate true .ready) ∧ s.pw.mode = .full ∧ s.pw.trans = none ∧ (sets {}).up.job = none ∧
    gives (exec (.pauseStart 5) s) (fun u => u.pw.mode == .dawn && u.pw.trans == some .pause && u.up.t0 == 5 &&
      u.up.job == some (.activate true .pause) && u.fld F.HIF_GEN_gen == 2 && u.fld F.HIF_GEN_cause == 2) = true ∧
    gives (exec (.pauseStart 5) (sets {})) (fun u => u == { sets {} with now := 5 }) = true) := by decide +kernel
/-- In the pause of an activation of set B that began at instant 0. -/
def paused (p : ActPhase) : State :=
  let s := waits (sets { state := 3 } (some (.activate true p))) 0x0803
  { s with pw := { s.pw with mode := .dawn, trans := some .pause } }
theorem test_load : (let s := paused .pause
    let b := paused (.back stTIMEOUT)
    s.pw.trans = some .pause ∧ s.up.job = some (.activate true .pause) ∧ b.up.job = some (.activate true (.back stTIMEOUT)) ∧
    full.pw.trans ≠ some .pause ∧ s.dir ≠ none ∧ Alone s ∧ s.io.hostOk = true ∧ (s.deferredOp 0x0803).isSome = true ∧
    gives (exec (.activationLoadDone 5 true [] x0) full) (fun u => u == { full with now := 5 }) = true ∧
    gives (exec (.activationLoadDone 5 true [] x0) s) (fun u => u.pw.mode == .full && u.pw.trans == none &&
      u.up.running == some true && u.up.job == none && u.fld F.UPD_CNT_activations == 1) = true ∧
    gives (exec (.activationLoadDone 5 false [] x0) s) (fun u => u.up.job == some (.activate true (.back stBAD_SIGNATURE)) &&
      (u.ent true).state == 5 && !u.bootSet && u.fld F.UPD_CNT_fallbacks == 1) = true ∧
    gives (exec (.activationLoadDone 5 true [] x0) b) (fun u => u.pw.mode == .full && u.up.running == some false) = true) := by
  decide +kernel
theorem test_load_late : (let s := paused .pause
    let b := paused (.back stTIMEOUT)
    gives (exec (.activationTimeout 99999999 x0) s) (fun u => u.up == s.up) = true ∧
    gives (exec (.activationTimeout 100000000 x0) s) (fun u => u.up.job == some (.activate true (.back stTIMEOUT))) = true ∧
    gives (exec (.activationTimeout 149999999 x0) b) (fun u => u.up == b.up) = true ∧
    gives (exec (.activationTimeout 150000000 x0) b) (fun u => u.pw.stage == .rom && u.fld F.PWR_RESET_CAUSE_wdog == 1) = true ∧
    gives (exec (.activationLoadDone 5 false [] x0) b) (fun u => u.pw.stage == .rom && u.fld F.PWR_RESET_CAUSE_wdog == 1) =
      true) := by decide +kernel
theorem test_trial : (let s := set [(F.UPD_CFG_commit_s, 2)] trial
    let z := set [(F.UPD_CFG_commit_s, 0)] trial
    s.fld F.UPD_CFG_commit_s = 2 ∧ z.fld F.UPD_CFG_commit_s = 0 ∧ s.up.running = some true ∧ s.up.trialAt = some 5 ∧
    (s.ent true).state = 3 ∧ s.pw.mode = .full ∧ s.floor? = some 0 ∧
    gives (exec (.trialCommitTimer 2000000004) s) (fun u => u.nv == s.nv) = true ∧
    gives (exec (.trialCommitTimer 2000000005) z) (fun u => u.nv == z.nv) = true ∧
    gives (exec (.trialCommitTimer 2000000005) s) (fun u => u.ent true == { state := 4, svn := 6, tries := 3 } && u.bootSet &&
      u.up.trialAt == none && !u.hasCopy false && u.floor? == some 6) = true) := by decide +kernel
/-- In Rescue. -/
def rescue (s : State) : State := { s with pw := { s.pw with mode := .rescue, stage := .done } }
theorem test_loader : (let s := rescue State.reset
    full.loaderReady = false ∧ s.loaderReady = true ∧ s.headerCheck [] s.floor?.isNone ≠ none ∧
    gives (exec (.xmodemDownload 5 [1#8] true) full) (fun u => u == { full with now := 5 }) = true ∧
    gives (exec (.tftpWriteRequest 5 (ascii "set") true [1#8] true) full) (fun u => u == { full with now := 5 }) = true ∧
    gives (exec (.xmodemDownload 5 [1#8] true) s) (fun u => u.io.out == [.loader "CAN"]) = true ∧
    gives (exec (.tftpWriteRequest 5 (ascii "set") true [] true) s) (fun u => u.io.out == [.loader "ERROR 0 set rejected"]) = true ∧
    gives (exec (.tftpWriteRequest 5 (ascii "set") false [] true) s) (fun u => u.io.out == [.loader "ERROR 0 refused"]) = true ∧
    gives (exec (.tftpWriteRequest 5 (ascii "st") true [] true) s) (fun u => u.io.out == [.loader "ERROR 0 refused"]) = true) := by
  decide +kernel
/-- The image as a file: its header, then zeros up to its length. -/
def file : Bytes := image ++ List.replicate 2840 0#8
/-- A file that the loader installs. -/
theorem test_file_good : (rescue (imaged State.reset)).headerCheck (Bytes.slice file 0 1256) false = none ∧
    (Bytes.slice file 0 1256).le 36 4 = file.length ∧
    digestsOk (Bytes.slice file) (Bytes.slice file 0 1256) allComps = true := by decide +kernel

/-! ## Dusk, injection, faults and background work -/

def dskRun (fails : List DskFail := []) (memOnly : Bool := false) : DskRun :=
  { run := 7, memOnly := memOnly, thenFull := true, startSec := 0, fails := fails, nFail := fails.length }
/-- A Dusk run with groups to come, that goes on to Full. -/
def dusk (groups : List Nat) (r : DskRun := dskRun) (abort : Nat := 0) (thenFull : Bool := true) : State :=
  { set [(F.DSK_STAT_running, 1)] full with
    pw := { full.pw with mode := .dusk, stage := .onAir, duskThenFull := thenFull }
    dk := { groups := groups, abort := abort }, nv := { runs := [r] } }
def hit (kind : Nat) : DskHit := ⟨3, kind, 0x40, 5⟩
def fail (rep : Bool) : DskFail := { inst := 3, kind := 1, addr := 0x40, bit := 5, rep := rep, soft := true }
theorem test_dsk_result : (let c (n : Nat) := cmd [(8, 0x5000), (1, n)]
    let s := hosted { full with nv := { runs := [dskRun [fail true]] } }
    (∀ n ∈ [0, 1], Ready s (c n) .command ∧ (c n).f 8 1 = n ∧ (c n).f 0 8 % 32 = 0 ∧ (c n).zero 9 15 = true) ∧
    modeStatus s.pw.mode 0x0901 = none ∧ s.nv.runs[0]? = some (dskRun [fail true]) ∧ s.nv.runs[1]? = none ∧
    gives (exec (.dskResult 5 (c 0)) s) (fun u => replied stOK u && u.io.out.any fun o => match o with
      | .dma a b => a == 0x5000 && b.drop 64 == rec_ [(2, 0x1003), (4, 0x40), (1, 5), (1, 3)]
      | _ => false) = true ∧
    gives (exec (.dskResult 5 (c 1)) s) (replied stBAD_ARG) = true) := by decide +kernel
def fltCmd (rule op path action rate depth flags limit : Nat) : Cmd :=
  cmd [(1, rule), (1, op), (1, path), (1, action), (2, rate), (1, depth), (1, flags), (4, limit), (4, 0), (4, 99)]
/-- A window open until 1 s for the two Ethernet ports and the twin link. -/
def window (s : State) : State :=
  { set [(F.FLT_STAT_open, 1), (F.FLT_STAT_paths, 0x3E)] s with fl := { s.fl with until_ns := 1000000000 } }
def fltRule : FltRule := ⟨1, 1, 65535, 0, false, 0, 0, 1, 0, 0⟩
theorem test_flt_set : (let s := window (hosted full)
    let d : State := { s with fl := { s.fl with rules := [(15, fltRule)] } }
    let set_ := fltCmd 15 0 5 3 65535 15 1 2
    let one := fltCmd 0 0 1 1 1 0 0 0
    (∀ c ∈ [set_, one, fltCmd 15 1 0 0 0 0 0 0, fltCmd 15 2 0 0 0 0 0 0], Ready s c .command ∧ c.f 0 1 ≤ 15 ∧ c.f 7 1 ≤ 3 ∧
      c.zero 15 1 = true ∧ c.zero 20 4 = true) ∧
    (∀ c ∈ [set_, one], c.f 1 1 = 0 ∧ 1 ≤ c.f 2 1 ∧ c.f 2 1 ≤ 5 ∧ bitN (s.fld F.FLT_STAT_paths) (c.f 2 1) = true ∧
      1 ≤ c.f 3 1 ∧ c.f 3 1 ≤ 3 ∧ (c.f 3 1 = 3 → c.f 6 1 ≠ 0) ∧ c.f 6 1 ≤ 15) ∧ s.fltOpen = true ∧ (hosted full).fltOpen = false ∧
    gives (exec (.fltSet 5 set_) (hosted full)) (replied stUNSUPPORTED) = true ∧
    gives (exec (.fltSet 5 set_) s) (fun u => replied stOK u && u.fl.rules == [(15, ⟨5, 3, 65535, 15, true, 2, 0, 99, 0, 0⟩)]) = true ∧
    gives (exec (.fltSet 5 (fltCmd 15 1 0 0 0 0 0 0)) d) (fun u => replied stOK u && u.fl.rules == []) = true ∧
    gives (exec (.fltSet 5 (fltCmd 15 2 0 0 0 0 0 0)) d) (fun u => replied stOK u && u.fl.rules == [] && u.fltOpen) = true) := by
  decide +kernel
theorem test_dusk_entry : (let s : State := { full with pw := { full.pw with trans := some .toDusk } }
    let w : State := { lead with pw := s.pw, tw := { lead.tw with dusk := true } }
    full.pw.trans ≠ some .toDusk ∧ w.tw.dusk = true ∧ w.tw.duskWait = none ∧ s.tw.dusk = false ∧ s.fltOpen = false ∧
    gives (exec (.duskEntry 5) full) (fun u => u == { full with now := 5 }) = true ∧
    gives (exec (.duskEntry 5) w) (fun u => u == { w with now := 5 }) = true ∧
    gives (exec (.duskEntry 5) s) (fun u => u.pw.mode == .dusk && u.pw.trans == none && u.fld F.DSK_STAT_running == 1 &&
      u.dk.startAt == 5 && u.dk.groups.take 2 == [1, 2] && u.nv.runs.map (fun r => (r.run, r.incomplete)) == [(1, true)]) =
      true) := by decide +kernel
theorem test_group : (let s := dusk [1, 2] (dskRun [fail true])
    let e := dusk [8]
    (dusk []).dk.groups = [] ∧ full.fld F.DSK_STAT_running = 0 ∧ (dusk [1] dskRun 4).dk.abort ≠ 0 ∧
    s.dk.groups = [1, 2] ∧ e.dk.groups = [8] ∧ s.pw.mode = .dusk ∧ s.fld F.DSK_STAT_running = 1 ∧ s.dk.abort = 0 ∧
    s.nv.runs = [dskRun [fail true]] ∧ sramKind (hit 6).kind = false ∧
    gives (exec (.duskGroupEnd 5 [] 900) (dusk [])) (fun u => u == { dusk [] with now := 5 }) = true ∧
    gives (exec (.duskGroupEnd 5 [] 900) s) (fun u => u.dk.groups == [2] && u.fld F.DSK_STAT_group == 2 && u.kv.work == [] &&
      u.run0 == some { dskRun [fail true] with done := 1, peakMw := 900 }) = true ∧
    gives (exec (.duskGroupEnd 5 [hit 6] 900) e) (fun u => u.dk.groups == [] && u.fld F.DSK_STAT_group == 0 &&
      u.fld F.TEL_FAULT_unrepairable == 1 && u.run0 == some { dskRun with
        done := 0x80, failed := 0x80, nFail := 1, peakMw := 900, unrep := true
        fails := [{ inst := 3, kind := 6, addr := 0x40, bit := 5, unrep := true }] }) = true) := by decide +kernel
theorem test_run_end : (let s := set [(F.DSK_CFG_fuse_en, 1)] (dusk [] (dskRun [fail true]))
    let e := eset [(F.DSK_CFG_fuse_en, 1)] s
    let n := eset [(F.DSK_CFG_fuse_en, 1)] (dusk [] (dskRun [fail false]))
    let z := eset [(F.DSK_CFG_fuse_en, 0)] s
    let a := dusk [3] dskRun 4
    let h := dusk [] dskRun 6
    s.run0 = some (dskRun [fail true]) ∧ e.eFlag F.DSK_CFG_fuse_en = true ∧ z.eFlag F.DSK_CFG_fuse_en = false ∧
    (fail true).soft = true ∧ e.fusedList.any (fail true).same = false ∧ e.nv.fuses.length < 128 ∧ e.pw.duskThenFull = true ∧
    (dusk [1]).dk.groups ≠ [] ∧ a.dk.abort ≠ 0 ∧ e.fltOpen = false ∧ (dskRun [] true).memOnly = true ∧
    gives (exec (.duskRunEnd 5 []) (dusk [1])) (fun u => u == { dusk [1] with now := 5 }) = true ∧
    gives (exec (.duskRunEnd 5 []) a) (fun u => u.pw.mode == .dusk && u.pw.trans == some .fromDusk && u.pw.stage == .rom &&
      u.run0 == some { dskRun with abort := 4 }) = true ∧
    gives (exec (.duskRunEnd 5 []) h) (fun u => u.pw.mode == .hibernate && u.run0 == some { dskRun with abort := 6 }) = true ∧
    gives (exec (.duskRunEnd 5 []) z) (fun u => u.nv.fuses == [] && u.run0 == some { dskRun [fail true] with incomplete := false }) =
      true ∧
    gives (exec (.duskRunEnd 5 []) (dusk [] (dskRun [] true) 0 false)) (fun u => u.pw.mode == .hibernate) = true ∧
    gives (exec (.duskRunEnd 5 [true]) n) (fun u => u.nv.fuses == []) = true ∧
    gives (exec (.duskRunEnd 5 [true]) e) (fun u => u.nv.fuses == [some (fail true)] && (u.run0.map (·.fused)) == some 1) = true ∧
    gives (exec (.duskRunEnd 5 [false]) e) (fun u => u.nv.fuses == [none] && u.fld F.TEL_FAULT_otp == 1) = true) := by
  decide +kernel
theorem test_window_expiry : (let s : State := window { full with fl := { rules := [(1, fltRule)] } }
    full.fltOpen = false ∧ s.fltOpen = true ∧ s.fl.held = [] ∧ s.fl.until_ns = 1000000000 ∧
    gives (exec (.faultWindowExpiry 999999999) s) (fun u => u == { s with now := 999999999 }) = true ∧
    gives (exec (.faultWindowExpiry 1000000000) s) (fun u => !u.fltOpen && u.fl.rules == [] &&
      u.fld F.FLT_STAT_paths == 0 && u.nv.log.map (·.kind) == [0x14]) = true) := by decide +kernel
def heldFrame : FltHeld :=
  { rule := 0, depth := 9, path := 1, ring := 0, passed := 0, at_ns := 5, data := eth 0x20 (2 ^ 40 + 1) 0x800 }
theorem test_hold_expiry : (let s : State := window { ports with fl := { held := [heldFrame] } }
    s.fl.held = [heldFrame] ∧ heldFrame.path = (0 : Fin 2).val + 1 ∧ heldFrame.data.length = 60 ∧ 64 ≤ s.fld (F.ETH_MAC_CFG_max_frame 0) ∧
    gives (exec (.reorderHoldExpiry 1000004) s) (fun u => u.fl.held == [heldFrame]) = true ∧
    gives (exec (.reorderHoldExpiry 1000005) s) (fun u => u.fl.held == [] && u.fld (F.ETH_RX_FRAMES_frames 0) == 1) = true) := by
  decide +kernel
theorem test_engine : (let d := set [(F.TPL_STAT_dawn_active, 1)] (dawn .onAir)
    let r : State := { full with pw := { full.pw with returnedAt := some 0 } }
    full.pw.mode = .full ∧ hib.pw.mode = .hibernate ∧ (dusk [1]).pw.mode = .dusk ∧ d.pw.mode = .dawn ∧
    d.fld F.TPL_STAT_dawn_active = 1 ∧ full.ck.refFailed = false ∧ ({ r with now := 60000000000 }).justReturned = true ∧
    ({ r with now := 60000000001 }).justReturned = false ∧
    gives (exec (.engineWatchdogExpiry 5 2) full) (fun u => u == { full with now := 5 }) = true ∧
    gives (exec (.engineWatchdogExpiry 5 7) hib) (fun u => u == { hib with now := 5 }) = true ∧
    gives (exec (.engineWatchdogExpiry 5 7) d) (fun u => u.tp.reload && u.nv.log.map (fun e => (e.kind, e.source)) == [(2, 7)]) = true ∧
    gives (exec (.engineWatchdogExpiry 60000000000 3) r) (fun u => u.pw.mode == .dawn && u.pw.stage == .onAir &&
      u.fld F.TEL_FAULT_fatal_hold == 1) = true ∧
    gives (exec (.engineWatchdogExpiry 60000000001 14) r) (fun u => u.pw.mode == .dawn && u.pw.stage == .training &&
      u.pw.trans == some .toFull && u.pw.retry) = true) := by decide +kernel
theorem test_mem_error : (let p := pkt 60
    let s := queued 1 { pkts := [p, pkt 70] }
    let r : State := { full with pw := { full.pw with mode := .rescue } }
    let l : State := { full with nv := { lease := some ⟨1, ⟨3, 4⟩, 5, none, 0, none, 0⟩ } }
    s.powered = true ∧ s.inFull = true ∧ (s.queue 1).pkts[0]? = some p ∧ p.spilled = false ∧ mesh.powered = true ∧
    Tbl.get? mesh.ml.conns 0 = some conn ∧ conn.state ≠ 3 ∧ r.powered = true ∧ r.pw.mode = .rescue ∧
    gives (exec (.uncorrectableError 5 (.cell 1 0) x0) s) (fun u => (u.queue 1).pkts == [pkt 70]) = true ∧
    gives (exec (.uncorrectableError 5 (.connection 0) x0) mesh) (fun u => u.ml.conns.map (fun x => (x.1, x.2.state)) == [(0, 3)]) = true ∧
    gives (exec (.uncorrectableError 5 .l2 x0) full) (fun u => u.pw.mode == .dawn && u.nv.log.any fun e => e.kind == 4) = true ∧
    gives (exec (.uncorrectableError 5 .lane0 x0) r) (fun u => u.pw.stage == .rom && u.fld F.PWR_RESET_CAUSE_tpl == 1) = true ∧
    gives (exec (.uncorrectableError 5 .backupRam x0) full) (fun u => (u.word 0x30000).toNat / 1024 % 2 == 1) = true ∧
    (let w := full.log 0x10 0xFF 3;
      w.powered = true ∧ w.nv.log.length = 1 ∧
      gives (exec (.uncorrectableError 5 .logWrite x0) w) (fun u => u.nv.log.map (fun e => (e.seq, e.kind)) == [(2, 6)] &&
        u.fld F.TEL_STAT_log_err == 1 && u.fld F.TEL_FAULT_mram == 1) = true) ∧
    gives (exec (.uncorrectableError 5 (.record .lease) x0) l) (fun u => u.nv == {}) = true) := by decide +kernel
theorem test_background : (let s : State := { full with nv := { spares := 1 } }
    let m : State := { full with fl := { sample := some ⟨[1], [], 0, 0, 0⟩ } }
    let due := 1000000 * clamp 10 60000 (m.fld F.TEL_CFG_tel_ms)
    hib.inFull = false ∧ (dawn .onAir).powered = true ∧ s.powered = true ∧ s.inFull = true ∧ s.fl.sample = none ∧
    gives (exec (.scrubPass 5 true false (1, 2, 3)) (dawn .onAir)) (fun u => u.io.regs == (dawn .onAir).io.regs) = true ∧
    gives (exec (.scrubPass 5 false false (1, 0, 300)) (dawn .onAir)) (fun u => u.fld F.TEL_SCRUB_CNT_sram_passes == 1 &&
      (u.word 0x4000C).toNat == 0xFF0001) = true ∧
    gives (exec (.scrubPass 5 true true (1, 2, 3)) full) (fun u => u.fld F.TEL_STAT_scrub_late == 1) = true ∧
    gives (exec (.mramPageMigrate 5 3 (2 ^ 24) true) s) (fun u => u.nv == { s.nv with pageWr := [(3, 2 ^ 24)] }) = true ∧
    gives (exec (.mramPageMigrate 5 3 (2 ^ 24 + 1) true) s) (fun u => u.nv == { s.nv with pageWr := [(3, 0)], spares := 0 }) = true ∧
    gives (exec (.mramPageMigrate 5 3 (2 ^ 24 + 1) false) s) (fun u => u.nv.spares == 1) = true ∧
    gives (exec (.telemetrySample (due - 1) [40] [] 0 0) m) (fun u => u.fl == m.fl) = true ∧
    gives (exec (.telemetrySample due [40, -5, 61, 61] [] 12000 9000) m) (fun u => u.fl.sampleAt == due &&
      u.fld F.TEL_TEMP_sensor == 2 && u.fld F.TEL_TEMP_max_c == 61) = true) := by decide +kernel

end Sys2Proof.Tests
end

section
/-!
SUPPORT. Accesses that reach no register (R5, R6, R8, R39): what the record of a discarded access changes, and that
both halves of every pair are defined, so that an offset without a register is never held as half of one.
-/

namespace Sys2Proof.Machine

/-! ## Commands that leave the queue -/

/-- A command whose effect is `u`, with the queue as it was, answers `u`. -/
theorem run_eq_next {t : Nat} {s u : State} {f : State → State} (h : f (s.at t) = u) (hq : u.pending = s.pending) :
    run t s f = .next u := by
  rw [run_next, h, ← hq]

/-- REGISTER_WRITE answers what the BAR0 write leaves. -/
theorem exec_registerWrite_eq_next {t off len val : Nat} {s u : State} (h : (s.at t).busWrite off len val = u)
    (hq : u.pending = s.pending) : exec (.registerWrite t off len val) s = .next u :=
  run_eq_next (f := fun s => s.busWrite off len val) h hq

/-! ## `RegsOnly` -/

theorem RegsOnly.at (s : State) (t : Nat) (l : List Nat) : RegsOnly s (s.at t) l :=
  ⟨rfl, rfl, fun _ _ => rfl⟩

theorem RegsOnly.setWord {s u : State} {l : List Nat} (h : RegsOnly s u l) {off : Nat} (hoff : off ∈ l) (w : Word) :
    RegsOnly s (u.setWord off w) l := by
  obtain ⟨hparts, hio, hword⟩ := h
  refine ⟨hparts, hio, fun x hx => ?_⟩
  have hne : off ≠ x := fun e => hx (e ▸ hoff)
  rw [State.word_setWord_ne u w hne, hword x hx]

theorem RegsOnly.count {s u : State} {l : List Nat} (h : RegsOnly s u l) {f : Fld} (hf : f.off ∈ l) (n : Nat) :
    RegsOnly s (u.count f n) l :=
  h.setWord hf _

/-! ## The record of a discarded access (R5, R39) -/

/-- Count an access in the field `f` and note `w` in `HIF_ACC_ADDR`. -/
def State.recordAccess (s : State) (f : Fld) (w : Word) : State := (s.count f).setWord 0x05001C w

theorem State.narrowWrite_eq (s : State) (off : Nat) : s.narrowWrite off =
    s.recordAccess F.HIF_ACC_ERR_narrow_wr (BitVec.ofNat 32 (2 ^ 24 + off / 2 ^ 16 % 256 * 2 ^ 16 + off % 2 ^ 16)) := rfl

theorem State.gatedAccess_eq (s : State) (off : Nat) : s.gatedAccess off =
    s.recordAccess F.HIF_ACC_ERR_gated (BitVec.ofNat 32 (2 * 2 ^ 24 + off / 2 ^ 16 % 256 * 2 ^ 16 + off % 2 ^ 16)) := rfl

theorem State.recordAccess_effect (s : State) (t : Nat) (f : Fld) (w : Word) (hoff : f.off = 0x050018) (hhi : f.hi < 32)
    (hwidth : f.width = 16) :
    ((s.at t).recordAccess f w).fld f = min (s.fld f + 1) 65535 ∧ ((s.at t).recordAccess f w).word 0x05001C = w ∧
      RegsOnly s ((s.at t).recordAccess f w) [0x050018, 0x05001C] := by
  refine ⟨?_, State.word_setWord_self _ _ _, ?_⟩
  · rw [State.recordAccess, State.fld_eq, State.word_setWord_ne _ _ (by simp [hoff]), ← State.fld_eq,
      State.fld_count_self _ f 1 hhi, hwidth, State.at_fld]
    rfl
  · exact ((RegsOnly.at s t _).count (by simp [hoff]) 1).setWord (by simp) w

theorem State.narrowWrite_effect (s : State) (t off : Nat) :
    ((s.at t).narrowWrite off).fld F.HIF_ACC_ERR_narrow_wr = min (s.fld F.HIF_ACC_ERR_narrow_wr + 1) 65535 ∧
      ((s.at t).narrowWrite off).word 0x05001C =
        BitVec.ofNat 32 (2 ^ 24 + off / 2 ^ 16 % 256 * 2 ^ 16 + off % 2 ^ 16) ∧
      RegsOnly s ((s.at t).narrowWrite off) [0x050018, 0x05001C] := by
  rw [State.narrowWrite_eq]
  exact State.recordAccess_effect s t _ _ rfl (by decide) rfl

theorem State.gatedAccess_effect (s : State) (t off : Nat) :
    ((s.at t).gatedAccess off).fld F.HIF_ACC_ERR_gated = min (s.fld F.HIF_ACC_ERR_gated + 1) 65535 ∧
      ((s.at t).gatedAccess off).word 0x05001C =
        BitVec.ofNat 32 (2 * 2 ^ 24 + off / 2 ^ 16 % 256 * 2 ^ 16 + off % 2 ^ 16) ∧
      RegsOnly s ((s.at t).gatedAccess off) [0x050018, 0x05001C] := by
  rw [State.gatedAccess_eq]
  exact State.recordAccess_effect s t _ _ rfl (by decide) rfl

/-! ## Offsets with no register (R6, R8) -/

theorem famOf_isSome_of_sqBase : ∀ n < 64,
    (famOf (0x051000 + 32 * n)).isSome = true ∧ (famOf (0x051000 + 32 * n + 4)).isSome = true := by decide +kernel

theorem famOf_isSome_of_cqBase : ∀ n < 64,
    (famOf (0x052000 + 32 * n)).isSome = true ∧ (famOf (0x052000 + 32 * n + 4)).isSome = true := by decide +kernel

/-- Both halves of every pair are registers: of the pairs that stand alone, and of the base addresses of the 64
submission rings and of the 64 completion rings. -/
theorem famOf_isSome_of_isPairLo {off : Nat} (h : isPairLo off = true) :
    (famOf off).isSome = true ∧ (famOf (off + 4)).isSome = true := by
  simp only [isPairLo, Bool.or_eq_true, Bool.and_eq_true, decide_eq_true_eq, beq_iff_eq, List.contains_iff_mem] at h
  obtain (hlist | ⟨⟨hlo, hhi⟩, hmod⟩) | ⟨⟨hlo, hhi⟩, hmod⟩ := h
  · exact (by decide +kernel : ∀ o ∈ _, (famOf o).isSome = true ∧ (famOf (o + 4)).isSome = true) off hlist
  · obtain ⟨n, hn, rfl⟩ : ∃ n < 64, off = 0x051000 + 32 * n := ⟨(off - 0x051000) / 32, by omega, by omega⟩
    exact famOf_isSome_of_sqBase n hn
  · obtain ⟨n, hn, rfl⟩ : ∃ n < 64, off = 0x052000 + 32 * n := ⟨(off - 0x052000) / 32, by omega, by omega⟩
    exact famOf_isSome_of_cqBase n hn

theorem isPairLo_eq_false {off : Nat} (h : famOf off = none) : isPairLo off = false := by
  by_contra hlo
  have hdef := (famOf_isSome_of_isPairLo (Bool.eq_true_of_not_eq_false hlo)).1
  simp [h] at hdef

theorem isPairLo_sub_eq_false {off : Nat} (hoff : 4 ≤ off) (h : famOf off = none) : isPairLo (off - 4) = false := by
  by_contra hlo
  have hdef := (famOf_isSome_of_isPairLo (Bool.eq_true_of_not_eq_false hlo)).2
  simp [Nat.sub_add_cancel hoff, h] at hdef

theorem State.readReg_of_undefined (s : State) {off : Nat} (h : famOf off = none) : s.readReg off = 0#32 := by
  simp [State.readReg, h]

theorem State.regWriteAt_of_undefined (s : State) {off : Nat} (w : Word) (h : famOf off = none) :
    s.regWriteAt off w = s := by
  simp [State.regWriteAt, h]

/-! ## A BAR0 access by what it reaches -/

theorem State.busWrite_of_not_barUp (s : State) (off len val : Nat) (h : s.barUp = false) :
    s.busWrite off len val = s := by
  simp [State.busWrite, h]

theorem State.busWrite_narrow (s : State) (off len val : Nat) (hbar : s.barUp = true) (h : len < 4 ∨ off % 4 ≠ 0) :
    s.busWrite off len val = s.narrowWrite off := by
  simp [State.busWrite, hbar, h]

/-- An aligned write of 4 bytes is one write of a word. -/
theorem State.busWrite_word (s : State) (off val : Nat) (hbar : s.barUp = true) (hal : off % 4 = 0) :
    s.busWrite off 4 val = s.wordWrite off (BitVec.ofNat 32 val) := by
  simp [State.busWrite, hbar, hal, State.wordWrites]

theorem State.wordWrite_gated (s : State) (off : Nat) (w : Word) (h : s.blockOn off = false) :
    s.wordWrite off w = s.gatedAccess off := by
  simp [State.wordWrite, h]

theorem State.wordWrite_of_undefined (s : State) (off : Nat) (w : Word) (hon : s.blockOn off = true)
    (h : famOf off = none) : s.wordWrite off w = s := by
  have hhi : (decide (4 ≤ off) && isPairLo (off - 4)) = false := by
    by_cases hoff : 4 ≤ off
    · rw [isPairLo_sub_eq_false hoff h, Bool.and_false]
    · simp [hoff]
  simp [State.wordWrite, hon, isPairLo_eq_false h, hhi, State.regWriteAt_of_undefined s w h]

/-- A read of an offset with no register, in a gated block or in one that is on, returns 0. -/
theorem State.loRead_of_undefined (s : State) (off : Nat) (hbar : s.barUp = true) (h : famOf off = none) :
    (s.loRead off).io.out = .readData off 0#32 :: s.io.out := by
  unfold State.loRead
  rw [hbar, State.readReg_of_undefined s h, isPairLo_eq_false h]
  cases s.blockOn off with
  | false => rfl
  | true => by_cases hcal : off = 0x030004 <;> simp [hcal, State.put]

/-- Settles O30, clause by clause: each access is reduced to the record it leaves, or to nothing. -/
theorem writesThatAreDiscarded : Obligations.WritesThatAreDiscarded := by
  intro t off len val s
  refine ⟨fun hbar => ?unreached, fun hbar hnarrow => ?narrow, fun hbar hal hoff => ?gated,
    fun hbar hal hon hundef => ?undefined, fun hbar _ hundef => ?read⟩
  case unreached =>
    exact exec_registerWrite_eq_next (State.busWrite_of_not_barUp (s.at t) off len val hbar) rfl
  case narrow =>
    have hw := State.busWrite_narrow (s.at t) off len val hbar hnarrow
    exact ⟨_, exec_registerWrite_eq_next hw rfl, State.narrowWrite_effect s t off⟩
  case gated =>
    have hw := (State.busWrite_word (s.at t) off val hbar hal).trans (State.wordWrite_gated _ _ _ hoff)
    exact ⟨_, exec_registerWrite_eq_next hw rfl, State.gatedAccess_effect s t off⟩
  case undefined =>
    have hw := (State.busWrite_word (s.at t) off val hbar hal).trans (State.wordWrite_of_undefined _ _ _ hon hundef)
    exact exec_registerWrite_eq_next hw rfl
  case read =>
    exact ⟨_, rfl, State.loRead_of_undefined (s.at t) off hbar hundef⟩

end Sys2Proof.Machine
end

section
/-!
SUPPORT. Doorbells (R470): which case of a doorbell its conditions select, what each case writes, and that writing the
entries held for a completion ring moves no ring's head.
-/

namespace Sys2Proof.Machine

/-! ## A counter or a field written at an instant -/

theorem State.count_effect (s : State) (t : Nat) (f : Fld) (hhi : f.hi < 32) (hwidth : f.width = 16) :
    ((s.at t).count f).fld f = min (s.fld f + 1) 65535 ∧ RegsOnly s ((s.at t).count f) [f.off] := by
  refine ⟨?_, (RegsOnly.at s t _).count (by simp) 1⟩
  rw [State.fld_count_self _ f 1 hhi, hwidth, State.at_fld]
  rfl

theorem State.setFld_effect (s : State) (t : Nat) (f : Fld) (v : Nat) (hhi : f.hi < 32) (hv : v < 2 ^ f.width) :
    ((s.at t).setFld f v).fld f = v ∧ RegsOnly s ((s.at t).setFld f v) [f.off] := by
  refine ⟨?_, (RegsOnly.at s t _).setWord (by simp) _⟩
  rw [State.fld_setFld_self _ f v hhi, Nat.mod_eq_of_lt hv]

/-! ## A written entry moves no completion ring's head

A written entry changes its ring's tail and phase and, where its vector is masked, the PBA; of these the tail alone
shares a word with a head. -/

theorem Io.raiseVector_word_below_pba (io : Io) (v off : Nat) (h : off < 0x05F000) :
    (io.raiseVector v).word off = io.word off := by
  unfold Io.raiseVector
  split
  · exact Io.word_setWord_ne io _ (by simp only [F.MSIX_PBA_pend]; omega)
  · rfl

theorem Io.ringMessage_word_below_pba (io : Io) (n off : Nat) (h : off < 0x05F000) :
    (io.ringMessage n).word off = io.word off :=
  (Io.raiseVector_word_below_pba _ _ off h).trans (Io.latchReg_word io _ off)

theorem Io.coalesce_word_below_pba (io : Io) (now n off : Nat) (h : off < 0x05F000) :
    (io.coalesce now n).word off = io.word off := by
  unfold Io.coalesce
  dsimp only
  split
  · rw [Io.ringMessage_word_below_pba _ _ _ h, Io.latchReg_word]
  · exact Io.latchReg_word io _ off

theorem Io.writeEntry_cqHead (io : Io) (now n : Nat) (b : Bytes) (k : Nat) (hk : k < 64) :
    (io.writeEntry now n b).fld (F.HIF_CQ_STAT_head k) = io.fld (F.HIF_CQ_STAT_head k) := by
  have hpba : (F.HIF_CQ_STAT_head k).off < 0x05F000 := by simp only [F.HIF_CQ_STAT_head]; omega
  have hphase : (F.HIF_CQ_ERR_phase n).off ≠ (F.HIF_CQ_STAT_head k).off := by
    simp only [F.HIF_CQ_ERR_phase, F.HIF_CQ_STAT_head]; omega
  have htail (io : Io) (v : Nat) :
      (io.setFld (F.HIF_CQ_STAT_tail n) v).fld (F.HIF_CQ_STAT_head k) = io.fld (F.HIF_CQ_STAT_head k) :=
    Io.fld_setFld_bits io _ _ v (by decide : 31 < 32) (.inr (by decide : 15 < 16))
  unfold Io.writeEntry
  dsimp only
  rw [Io.fld, Io.coalesce_word_below_pba _ _ _ _ hpba, ← Io.fld]
  split
  · rw [Io.fld_setFld_off _ _ _ _ hphase, htail]
    rfl
  · rw [htail]
    rfl

/-! ## Writing what is held -/

/-- What no written entry changes, and what does not depend on the interface's own state, writing the completions held
for a ring does not change. -/
theorem Io.flushHeld_keeps {α : Type} (g : Io → α) (now n : Nat)
    (hhf : ∀ (io : Io) (hf : Hif), g { io with hf := hf } = g io)
    (hwrite : ∀ (io : Io) (b : Bytes), g (io.writeEntry now n b) = g io) (l : List (Nat × Cpl)) (io : Io) :
    g (io.flushHeld now n l) = g io := by
  induction l generalizing io with
  | nil => rfl
  | cons p ps ih =>
    unfold Io.flushHeld
    split
    · exact (ih _).trans ((hwrite _ _).trans (hhf _ _))
    · exact ih io

/-- The same for the held events, which go to the event ring. -/
theorem Io.drain_keeps {α : Type} (g : Io → α) (now : Nat) (ok : Bool)
    (hhf : ∀ (io : Io) (hf : Hif), g { io with hf := hf } = g io)
    (hwrite : ∀ (io : Io) (n : Nat) (b : Bytes), g (io.writeEntry now n b) = g io) (l : List Ev) (io : Io) :
    g (io.drain now ok l) = g io := by
  induction l generalizing io with
  | nil => rfl
  | cons e es ih =>
    unfold Io.drain
    split
    · dsimp only
      split
      · exact (ih _).trans ((hwrite _ _ _).trans (hhf _ _))
      · rfl
    · rfl

theorem State.cqRoom_word (s : State) (n off : Nat) (hn : n < 64) (h : offHif off) :
    (s.cqRoom n).word off = s.word off :=
  (State.drainEvents_word _ off h).trans
    (Io.flushHeld_keeps (·.word off) s.now n (fun _ _ => rfl)
      (fun io b => Io.writeEntry_word io s.now n b off hn h) _ s.io)

theorem State.cqRoom_cqHead (s : State) (n k : Nat) (hk : k < 64) :
    (s.cqRoom n).fld (F.HIF_CQ_STAT_head k) = s.fld (F.HIF_CQ_STAT_head k) :=
  (Io.drain_keeps (·.fld (F.HIF_CQ_STAT_head k)) s.now _ (fun _ _ => rfl)
      (fun io m b => Io.writeEntry_cqHead io s.now m b k hk) _ _).trans
    (Io.flushHeld_keeps (·.fld (F.HIF_CQ_STAT_head k)) s.now n (fun _ _ => rfl)
      (fun io b => Io.writeEntry_cqHead io s.now n b k hk) _ s.io)

theorem State.cqRoom_of_none_held (s : State) (n : Nat) (hcq : s.io.hf.cqHeld = []) (hev : s.io.hf.evHeld = []) :
    s.cqRoom n = s := by
  rw [State.cqRoom, hcq, Io.flushHeld, State.drainEvents, hev, Io.drain]

/-! ## The stop of a ring's fetching in Doze -/

theorem State.dozeStop_pending (s : State) : s.dozeStop.pending = s.pending := by
  unfold State.dozeStop State.dozeWake
  split
  · split <;> rfl
  · rfl

theorem State.dozeStop_word (s : State) (off : Nat) (h : off ≠ 0x01000C) : s.dozeStop.word off = s.word off := by
  unfold State.dozeStop State.dozeWake
  split
  · split
    · exact State.word_setWord_ne s _ h.symm
    · rfl
  · rfl

/-! ## The conditions of a doorbell, in their order (R470) -/

/-- SUBMISSION_DOORBELL answers what the doorbell leaves. -/
theorem exec_submissionDoorbell_eq_next {t : Nat} {n : Fin 64} {narrow : Bool} {v : Word} {s u : State}
    (h : (s.at t).sqDoorbell n narrow v = u) (hq : u.pending = s.pending) :
    exec (.submissionDoorbell t n narrow v) s = .next u :=
  run_eq_next (f := fun s => s.sqDoorbell n narrow v) h hq

/-- COMPLETION_DOORBELL answers what the doorbell leaves. -/
theorem exec_completionDoorbell_eq_next {t : Nat} {n : Fin 64} {narrow : Bool} {v : Word} {s u : State}
    (h : (s.at t).cqDoorbell n narrow v = u) (hq : u.pending = s.pending) :
    exec (.completionDoorbell t n narrow v) s = .next u :=
  run_eq_next (f := fun s => s.cqDoorbell n narrow v) h hq

section
variable {s : State} (n : Nat) (narrow : Bool) (v : Word)

theorem State.sqDoorbell_bad (hbar : s.barUp = true)
    (h : narrow = true ∨ bitsN v.toNat 31 24 ≠ 0 ∨ s.fld (F.HIF_SQ_CFG_en n) = 0 ∨ s.io.sqSize n ≤ bitsN v.toNat 15 0) :
    s.sqDoorbell n narrow v = s.count F.HIF_DB_ERR_bad_db := by
  simp [State.sqDoorbell, State.badDb, hbar, h, or_assoc]

theorem State.cqDoorbell_bad (hbar : s.barUp = true)
    (h : narrow = true ∨ bitsN v.toNat 31 24 ≠ 0 ∨ s.fld (F.HIF_CQ_CFG_en n) = 0 ∨ s.io.cqSize n ≤ bitsN v.toNat 15 0) :
    s.cqDoorbell n narrow v = s.count F.HIF_DB_ERR_bad_db := by
  simp [State.cqDoorbell, State.badDb, hbar, h, or_assoc]

theorem State.sqDoorbell_stale (hbar : s.barUp = true) (hzero : bitsN v.toNat 31 24 = 0)
    (hen : s.fld (F.HIF_SQ_CFG_en n) ≠ 0) (hidx : bitsN v.toNat 15 0 < s.io.sqSize n)
    (hgen : bitsN v.toNat 23 16 ≠ s.fld F.HIF_GEN_gen) :
    s.sqDoorbell n false v = s.count F.HIF_DB_ERR_stale_db := by
  simp [State.sqDoorbell, hbar, hzero, hen, hidx, hgen]

theorem State.sqDoorbell_applied (hbar : s.barUp = true) (hzero : bitsN v.toNat 31 24 = 0)
    (hen : s.fld (F.HIF_SQ_CFG_en n) ≠ 0) (hidx : bitsN v.toNat 15 0 < s.io.sqSize n)
    (hgen : bitsN v.toNat 23 16 = s.fld F.HIF_GEN_gen) :
    s.sqDoorbell n false v =
      let u := s.setFld (F.HIF_SQ_STAT_tail n) (bitsN v.toNat 15 0)
      u.when (u.pw.mode == .doze && u.fld (F.HIF_SQ_CFG_kind n) != 0) State.dozeStop := by
  simp [State.sqDoorbell, State.when, hbar, hzero, hen, hidx, hgen]

theorem State.cqDoorbell_applied (hbar : s.barUp = true) (hzero : bitsN v.toNat 31 24 = 0)
    (hen : s.fld (F.HIF_CQ_CFG_en n) ≠ 0) (hidx : bitsN v.toNat 15 0 < s.io.cqSize n) :
    s.cqDoorbell n false v = (s.setFld (F.HIF_CQ_STAT_head n) (bitsN v.toNat 15 0)).cqRoom n := by
  simp [State.cqDoorbell, hbar, hzero, hen, hidx]

end

/-! ## What an applied doorbell leaves -/

/-- The tail is set, and the head, which shares its word, stays; where fetching then stops in Doze, neither moves. -/
theorem State.sqTail_effect (s : State) (t n idx : Nat) (b : Bool) (hidx : idx < 2 ^ 16) :
    let u := ((s.at t).setFld (F.HIF_SQ_STAT_tail n) idx).when b State.dozeStop
    u.pending = s.pending ∧ u.fld (F.HIF_SQ_STAT_tail n) = idx ∧
      u.fld (F.HIF_SQ_STAT_head n) = s.fld (F.HIF_SQ_STAT_head n) ∧
      (b = false → RegsOnly s u [(F.HIF_SQ_STAT_tail n).off]) := by
  obtain ⟨htail, hregs⟩ := State.setFld_effect s t (F.HIF_SQ_STAT_tail n) idx (by decide : 15 < 32) hidx
  have hhead : ((s.at t).setFld (F.HIF_SQ_STAT_tail n) idx).fld (F.HIF_SQ_STAT_head n) = s.fld (F.HIF_SQ_STAT_head n) :=
    State.fld_setFld_bits _ _ _ _ (by decide : 31 < 32) (.inr (by decide : 15 < 16))
  cases b with
  | false => exact ⟨rfl, htail, hhead, fun _ => hregs⟩
  | true =>
    have hoff : 0x5100C + 0x20 * n ≠ 0x01000C := by omega
    have hkeep (f : Fld) (hf : f.off = 0x5100C + 0x20 * n) (u : State) : u.dozeStop.fld f = u.fld f := by
      rw [State.fld_eq, State.dozeStop_word u _ (hf ▸ hoff), ← State.fld_eq]
    exact ⟨State.dozeStop_pending _, (hkeep _ rfl _).trans htail, (hkeep _ rfl _).trans hhead, fun h => nomatch h⟩

/-- The head is set, and the room it gives is used for what was held. -/
theorem State.cqHead_effect (s : State) (t n idx : Nat) (hn : n < 64) (hidx : idx < 2 ^ 16) :
    let u := ((s.at t).setFld (F.HIF_CQ_STAT_head n) idx).cqRoom n
    u.fld (F.HIF_CQ_STAT_head n) = idx ∧ HostOnly s u [] ∧
      (s.io.hf.cqHeld = [] → s.io.hf.evHeld = [] → RegsOnly s u [(F.HIF_CQ_STAT_head n).off]) := by
  obtain ⟨hhead, hregs⟩ := State.setFld_effect s t (F.HIF_CQ_STAT_head n) idx (by decide : 31 < 32) hidx
  refine ⟨(State.cqRoom_cqHead _ n n hn).trans hhead, ⟨rfl, fun off hoff _ => ?_⟩, fun hcq hev => ?_⟩
  · have hne : (F.HIF_CQ_STAT_head n).off ≠ off := by
      simp only [F.HIF_CQ_STAT_head]; unfold offHif at hoff; omega
    rw [State.cqRoom_word _ n off hn hoff, State.word_setFld_off _ _ _ hne, State.at_word]
  · rw [State.cqRoom_of_none_held (s := (s.at t).setFld (F.HIF_CQ_STAT_head n) idx) n hcq hev]
    exact hregs

/-- Settles O13: the first condition that applies (R470) selects the counter or the field that is written. -/
theorem doorbells : Obligations.Doorbells := by
  intro t n narrow v s hbar idx counted
  have hidx16 : idx < 2 ^ 16 := Nat.mod_lt _ (Nat.two_pow_pos 16)
  refine ⟨fun h => ?sqBad, fun hnarrow hzero hen hidx => ⟨fun hgen => ?sqStale, fun hgen => ?sqApplied⟩,
    fun h => ?cqBad, fun hnarrow hzero hen hidx => ?cqApplied⟩
  case sqBad =>
    exact ⟨_, exec_submissionDoorbell_eq_next (State.sqDoorbell_bad n narrow v (s := s.at t) hbar h) rfl,
      State.count_effect s t F.HIF_DB_ERR_bad_db (by decide) rfl⟩
  case sqStale =>
    subst hnarrow
    exact ⟨_, exec_submissionDoorbell_eq_next (State.sqDoorbell_stale n v (s := s.at t) hbar hzero hen hidx hgen) rfl,
      State.count_effect s t F.HIF_DB_ERR_stale_db (by decide) rfl⟩
  case sqApplied =>
    subst hnarrow
    obtain ⟨hpending, htail, hhead, hregs⟩ := State.sqTail_effect s t n idx _ hidx16
    have happlied := State.sqDoorbell_applied n v (s := s.at t) hbar hzero hen hidx hgen
    refine ⟨_, exec_submissionDoorbell_eq_next happlied hpending, htail, hhead, fun hdoze => hregs ?_⟩
    simp [hdoze]
  case cqBad =>
    exact ⟨_, exec_completionDoorbell_eq_next (State.cqDoorbell_bad n narrow v (s := s.at t) hbar h) rfl,
      State.count_effect s t F.HIF_DB_ERR_bad_db (by decide) rfl⟩
  case cqApplied =>
    subst hnarrow
    exact ⟨_, exec_completionDoorbell_eq_next (State.cqDoorbell_applied n v (s := s.at t) hbar hzero hen hidx) rfl,
      State.cqHead_effect s t n idx n.isLt hidx16⟩

end Sys2Proof.Machine
end

-- ==== The whole machine: reset, and one step ====
section
/-!
SUPPORT. What reset leaves, and that every command is answered: the tier 1 statements about the machine as a whole.
-/

namespace Sys2Proof.Machine

/-- Settles O8: one register is listed, and its word is not its reset value. -/
theorem resetRegistersCanonical : Obligations.ResetRegistersCanonical := by
  unfold Obligations.ResetRegistersCanonical Io.Canonical
  decide

/-- Settles O1: by the definition of a step. -/
theorem stepRunsTheFrontCommand : Obligations.StepRunsTheFrontCommand :=
  ⟨fun _ _ _ => rfl, fun s h => by rw [step, h]⟩

/-- A command is answered with the queue as it was. -/
theorem exec_eq_next (i : Instr) (s : State) : ∃ u, exec i s = .next u ∧ u.pending = s.pending := by
  cases i <;> exact ⟨_, rfl, rfl⟩

/-- Settles O2: each command is a `run`, which answers a next state and gives the queue back. -/
theorem everyCommandCompletes : Obligations.EveryCommandCompletes := by
  refine ⟨exec_eq_next, fun s => ?_⟩
  unfold SafeStep step
  cases s.pending with
  | nil => exact ⟨_, rfl⟩
  | cons c rest =>
    obtain ⟨u, hu, _⟩ := exec_eq_next c { s with pending := rest }
    exact ⟨u, hu⟩

theorem State.reset_word (off : Nat) (h : off ≠ 0x010010) : State.reset.word off = regReset off := by
  simp [State.reset, State.word, Io.word, Tbl.getD, Tbl.get?, Ne.symm h]

/-- Settles O3: the reset state lists the word of the reset cause and nothing else. -/
theorem resetLeaves : Obligations.ResetLeaves := by
  refine ⟨rfl, rfl, rfl, rfl, by decide, State.reset_word, fun n hn => ⟨?_, ?_⟩, rfl, rfl⟩
  · revert n; decide
  · revert n; decide

end Sys2Proof.Machine
end

-- ==== What every step keeps: the registers' form, and the permanent records ====
section
/-!
SUPPORT. `Keeps`: one lemma per function of the model says that it keeps the canonical form of the register words and
the records of OTP and MRAM that the spec calls permanent. Two functions do less: a run of Dusk appends fuses
(`KeepsBut`), and a letter moves the counter record and the authorities (`KeepsLetter`).
-/

namespace Sys2Proof.Machine

/-- What nearly every update keeps: the canonical form of the register words, and the records of OTP and MRAM that
the spec calls permanent. -/
def Keeps (o s : State) : Prop :=
  (o.io.Canonical → s.io.Canonical) ∧
    s.nv.unitId = o.nv.unitId ∧ s.nv.fuses = o.nv.fuses ∧ s.nv.auth = o.nv.auth ∧ s.nv.letterCtr = o.nv.letterCtr

theorem Keeps.refl (s : State) : Keeps s s := ⟨id, rfl, rfl, rfl, rfl⟩

theorem Keeps.trans {o s u : State} (h : Keeps o s) (h' : Keeps s u) : Keeps o u := by
  obtain ⟨hc, hid, hf, ha, hl⟩ := h
  obtain ⟨hc', hid', hf', ha', hl'⟩ := h'
  exact ⟨hc' ∘ hc, hid'.trans hid, hf'.trans hf, ha'.trans ha, hl'.trans hl⟩

theorem Io.Canonical.setWord {io : Io} {off : Nat} {w : Word} (h : io.Canonical) : (io.setWord off w).Canonical := by
  obtain ⟨hsort, hreset⟩ := h
  refine ⟨Tbl.sorted_putDef _ _ _ _ hsort, ?_⟩
  have hdel : ∀ p ∈ Tbl.del io.regs off, p.2 ≠ regReset p.1 := fun p hp => hreset p (List.mem_filter.mp hp).1
  have hput : w ≠ regReset off → ∀ t : Tbl Word, (∀ p ∈ t, p.2 ≠ regReset p.1) →
      ∀ p ∈ Tbl.put t off w, p.2 ≠ regReset p.1 := by
    intro hw t
    induction t with
    | nil => simpa [Tbl.put] using hw
    | cons q t ih =>
      intro ht
      simp only [List.forall_mem_cons] at ht
      unfold Tbl.put
      split_ifs
      · simpa [hw] using ht
      · simpa [hw] using ht.2
      · simpa using ⟨ht.1, by simpa using ih ht.2⟩
  show ∀ p ∈ Tbl.putDef io.regs off w (regReset off), p.2 ≠ regReset p.1
  unfold Tbl.putDef
  split
  · exact hdel
  · exact hput ‹_› _ hreset

/-- Registers dropped: what is left is canonical too. -/
theorem Io.Canonical.filter {io io' : Io} (h : io.Canonical) (keep : Nat × Word → Bool)
    (hregs : io'.regs = io.regs.filter keep) : io'.Canonical := by
  obtain ⟨hsort, hreset⟩ := h
  have hsorted : ∀ t : Tbl Word, Tbl.sorted t = true → Tbl.sorted (t.filter keep) = true := by
    intro t
    induction t with
    | nil => exact id
    | cons p t ih =>
      intro ht
      rw [Tbl.sorted_cons, Bool.and_eq_true] at ht
      rw [List.filter_cons]
      split
      · rw [Tbl.sorted_cons, Bool.and_eq_true]
        refine ⟨?_, ih ht.2⟩
        have hall := List.all_eq_true.mp ht.1
        exact List.all_eq_true.mpr fun q hq => hall q (List.mem_filter.mp hq).1
      · exact ih ht.2
  unfold Io.Canonical
  rw [hregs]
  exact ⟨hsorted _ hsort, fun p hp => hreset p (List.mem_filter.mp hp).1⟩

section
variable {io : Io}
theorem Io.Canonical.setFld {f : Fld} {v : Nat} (h : io.Canonical) : (io.setFld f v).Canonical := h.setWord
theorem Io.Canonical.count {f : Fld} {n : Nat} (h : io.Canonical) : (io.count f n).Canonical := h.setWord
theorem Io.Canonical.setEWord {off : Nat} {w : Word} (h : io.Canonical) : (io.setEWord off w).Canonical := h
theorem Io.Canonical.put {x : Out} (h : io.Canonical) : (io.put x).Canonical := h
theorem Io.Canonical.latchFld {f : Fld} (h : io.Canonical) : (io.latchFld f).Canonical := h
end

section
variable {o s : State}

/-- A change of the registers that keeps their form. -/
theorem Keeps.withIo {u : State} (h : Keeps o s) (hio : s.io.Canonical → u.io.Canonical) (hnv : u.nv = s.nv := by rfl) : Keeps o u := by
  unfold Keeps at h ⊢
  rw [hnv]
  exact ⟨hio ∘ h.1, h.2⟩

theorem Keeps.at {t : Nat} (h : Keeps o s) : Keeps o (s.at t) := h
theorem Keeps.setWord {off : Nat} {w : Word} (h : Keeps o s) : Keeps o (s.setWord off w) := h.withIo fun hc => hc.setWord
theorem Keeps.setFld {f : Fld} {v : Nat} (h : Keeps o s) : Keeps o (s.setFld f v) := h.withIo fun hc => hc.setFld
theorem Keeps.count {f : Fld} {n : Nat} (h : Keeps o s) : Keeps o (s.count f n) := h.withIo fun hc => hc.count
theorem Keeps.countMod {f : Fld} (h : Keeps o s) : Keeps o (s.countMod f) := h.setFld
theorem Keeps.latchFld {f : Fld} (h : Keeps o s) : Keeps o (s.latchFld f) := h
theorem Keeps.put {x : Out} (h : Keeps o s) : Keeps o (s.put x) := h

theorem Keeps.when {b : Bool} {f : State → State} (h : Keeps o s) (hf : ∀ {u}, Keeps o u → Keeps o (f u)) : Keeps o (s.when b f) := by
  unfold State.when
  split
  · exact hf h
  · exact h

theorem Keeps.each {α : Type} {l : List α} {f : State → α → State} (h : Keeps o s) (hf : ∀ {u a}, Keeps o u → Keeps o (f u a)) :
    Keeps o (s.each l f) := by
  induction l generalizing s with
  | nil => exact h
  | cons a as ih => exact ih (hf h)
theorem Keeps.foldl {α : Type} {l : List α} {f : State → α → State} (h : Keeps o s) (hf : ∀ {u a}, Keeps o u → Keeps o (f u a)) :
    Keeps o (l.foldl f s) := by
  induction l generalizing s with
  | nil => exact h
  | cons a as ih => exact ih (hf h)
end

theorem Keeps.ite {o s u : State} {c : Prop} [Decidable c] (hs : Keeps o s) (hu : Keeps o u) :
    Keeps o (if c then s else u) := by
  split <;> assumption

/-- The same for the state in a reply, a plan or a pair. -/
theorem Keeps.iteIn {β : Type} {st : β → State} {o : State} {a b : β} {c : Prop} [Decidable c] (ha : Keeps o (st a))
    (hb : Keeps o (st b)) : Keeps o (st (if c then a else b)) := by
  split <;> assumption

theorem Keeps.ok {o s : State} {w : List (Nat × Bytes)} {r : Nat} (h : Keeps o s) : Keeps o (Reply.ok s w r).st := h
theorem Keeps.err {o s : State} {st : Nat} (h : Keeps o s) : Keeps o (Reply.err s st).st := h
theorem Keeps.defer {o s : State} {k : Nat} (h : Keeps o s) : Keeps o (Reply.defer s k).st := h

section
variable {now : Nat} {pending : List Instr} {free : Nat} {io : Io} {pw : Pw} {ck : Ck} {rt : Rtc} {tp : Tp} {rs : Rs}
  {ml : Ml} {mn : Mn} {ms : Ms} {kv : Kv} {lh : Lh} {wl : Wl} {pt : Pt} {sr : Sr} {qm : Qm} {tw : Tw} {up : Up}
  {dk : Dk} {fl : Fl} {pn : Pn}

/-- Other parts of the state may be anything. -/
theorem Keeps.parts {o s : State} (h : Keeps o s) :
    Keeps o ⟨now, pending, free, s.io, pw, ck, rt, tp, rs, ml, mn, ms, kv, lh, wl, pt, sr, qm, tw, up, dk, fl, pn, s.nv⟩ :=
  h

theorem Keeps.partsIo {o s : State} (h : Keeps o s) (hio : s.io.Canonical → io.Canonical) :
    Keeps o ⟨now, pending, free, io, pw, ck, rt, tp, rs, ml, mn, ms, kv, lh, wl, pt, sr, qm, tw, up, dk, fl, pn, s.nv⟩ :=
  h.withIo hio

variable {log : List LogEntry} {logSeq : Nat} {snap0 snap1 : Option Snap} {calS : Option (Nat × Nat × Int)}
  {lease : Option LeaseRec} {stoodDown : Bool} {circId : Option Nat} {mirror : Tbl Mirror}
  {vault : Tbl (Option KvRec × Option KvRec)} {lifecycle : Nat} {pnRecs : List PnRec} {dir0 dir1 : Option Dir}
  {flashA flashB : Tbl Bytes} {floor0 floor1 : Option Nat} {runs : List DskRun} {calL calH : Option Word}
  {pageWr : Tbl Nat} {spares : Nat}

/-- So may the records that are not permanent. -/
theorem Keeps.partsNv {o s : State} (h : Keeps o s) :
    Keeps o ⟨now, pending, free, s.io, pw, ck, rt, tp, rs, ml, mn, ms, kv, lh, wl, pt, sr, qm, tw, up, dk, fl, pn,
      { log, logSeq, snap0, snap1, calS, lease, stoodDown, circId, mirror, vault, letterCtr := s.nv.letterCtr,
        auth := s.nv.auth, lifecycle, unitId := s.nv.unitId, pnRecs, dir0, dir1, flashA, flashB, floor0, floor1, runs,
        fuses := s.nv.fuses, calL, calH, pageWr, spares }⟩ :=
  h

/-- One of two states that differ in their records. -/
theorem Keeps.iteNv {o : State} {nv nv' : Nv} {c : Prop} [Decidable c]
    (hs : Keeps o ⟨now, pending, free, io, pw, ck, rt, tp, rs, ml, mn, ms, kv, lh, wl, pt, sr, qm, tw, up, dk, fl, pn, nv⟩)
    (hu : Keeps o ⟨now, pending, free, io, pw, ck, rt, tp, rs, ml, mn, ms, kv, lh, wl, pt, sr, qm, tw, up, dk, fl, pn, nv'⟩) :
    Keeps o ⟨now, pending, free, io, pw, ck, rt, tp, rs, ml, mn, ms, kv, lh, wl, pt, sr, qm, tw, up, dk, fl, pn,
      if c then nv else nv'⟩ := by
  split <;> assumption

end

theorem Io.Canonical.ite {io io' : Io} {c : Prop} [Decidable c] (hs : io.Canonical) (hu : io'.Canonical) :
    (if c then io else io').Canonical := by
  split <;> assumption

theorem Io.Canonical.parts {io : Io} {eff latch heldLo : Tbl Word} {hf : Hif} {out : List Out} (h : io.Canonical) :
    Io.Canonical ⟨io.regs, eff, latch, heldLo, hf, out⟩ := h

theorem Io.Canonical.foldl {α : Type} {io : Io} {l : List α} {f : Io → α → Io} (h : io.Canonical)
    (hf : ∀ {io a}, Io.Canonical io → (f io a).Canonical) : (l.foldl f io).Canonical := by
  induction l generalizing io with
  | nil => exact h
  | cons a as ih => exact ih (hf h)

theorem Keeps.foldlPlan {α : Type} {o : State} {p : Plan} {l : List α} {f : Plan → α → Plan} (h : Keeps o p.st)
    (hf : ∀ {p a}, Keeps o (Plan.st p) → Keeps o (f p a).st) : Keeps o (l.foldl f p).st := by
  induction l generalizing p with
  | nil => exact h
  | cons a as ih => exact ih (hf h)

theorem Keeps.foldlPair {α β : Type} {o : State} {p : β × State} {l : List α} {f : β × State → α → β × State}
    (h : Keeps o p.2) (hf : ∀ {p a}, Keeps o (Prod.snd p) → Keeps o (f p a).2) : Keeps o (l.foldl f p).2 := by
  induction l generalizing p with
  | nil => exact h
  | cons a as ih => exact ih (hf h)

theorem Keeps.runBlocks {o s : State} {all : Bool} {f : State → Bytes → BlockReply} {base size statusAt : Nat}
    {bs : List Bytes} {ws : List (Nat × Bytes)} (h : Keeps o s) (hf : ∀ {u b}, Keeps o u → Keeps o (f u b).st) :
    Keeps o (runBlocks all f base size statusAt bs s ws).st := by
  induction bs generalizing s base ws with
  | nil => exact h
  | cons b bs ih =>
    rw [Machine.runBlocks]
    exact .iteIn (ih (hf h)) (hf h)

theorem Keeps.checked {o s : State} {c : Cmd} {op : Nat} {kind : RingKind} {f : State → Reply} (h : Keeps o s)
    (hf : ∀ {u}, Keeps o u → Keeps o (f u).st) : Keeps o (checked c op kind s f).st := by
  unfold Machine.checked
  refine .iteIn h (.iteIn h (.iteIn h ?_))
  split
  · exact h
  · exact hf h

theorem Keeps.snd {α : Type} {o u : State} {p : α × State} {a : α} (hp : p = (a, u)) (h : Keeps o p.2) : Keeps o u := by
  rw [hp] at h; exact h


section
variable {o s : State} {io : Io}

/-! ### Ops -/

theorem Io.Canonical.latchReg {off : ℕ} (h : io.Canonical) : (io.latchReg off).Canonical := by
  unfold Io.latchReg
  split
  · exact h.setEWord
  · exact h

theorem Io.Canonical.latchRegs {a : List ℕ} (h : io.Canonical) : (io.latchRegs a).Canonical := by
  induction a generalizing io with
  | nil =>
    exact h
  | cons x as ih =>
    rw [Io.latchRegs]
    exact ih h.latchReg

theorem Keeps.latchRegs {l : List ℕ} (h : Keeps o s) : Keeps o (s.latchRegs l) := .partsIo h fun hc => hc.latchRegs

theorem Keeps.useFree (h : Keeps o s) : Keeps o s.useFree := h

theorem Io.Canonical.raiseVector {v : ℕ} (h : io.Canonical) : (io.raiseVector v).Canonical := .ite h.setWord h.put

theorem Io.Canonical.ringMessage {n : ℕ} (h : io.Canonical) : (io.ringMessage n).Canonical :=
  .raiseVector (.parts h.latchReg)

theorem Io.Canonical.coalesce {now n : ℕ} (h : io.Canonical) : (io.coalesce now n).Canonical :=
  .ite h.latchReg.ringMessage (.parts h.latchReg)

theorem Io.Canonical.writeEntry {now n : ℕ} {body : Bytes} (h : io.Canonical) : (io.writeEntry now n body).Canonical :=
  .coalesce (.ite h.put.setFld.setFld h.put.setFld)

theorem Io.Canonical.complete {now : ℕ} {c : Cpl} (h : io.Canonical) : (io.complete now c).Canonical :=
  .ite h (.ite h.writeEntry h)

theorem Io.Canonical.flushHeld {now n : ℕ} {a : List (ℕ × Cpl)} (h : io.Canonical) :
    (io.flushHeld now n a).Canonical := by
  induction a generalizing io now n with
  | nil =>
    exact h
  | cons x as ih =>
    rw [Io.flushHeld]
    dsimp only
    exact .ite (ih (.writeEntry h)) (ih h)

theorem Io.Canonical.drain {now : ℕ} {ok : Bool} {a : List Ev} (h : io.Canonical) : (io.drain now ok a).Canonical := by
  induction a generalizing io now ok with
  | nil =>
    exact h
  | cons x as ih =>
    rw [Io.drain]
    dsimp only
    split
    · exact .ite (ih (.writeEntry h)) h
    · exact h

theorem Io.Canonical.event {now : ℕ} {ok : Bool} {type : ℕ} {body : Bytes} (h : io.Canonical) :
    (io.event now ok type body).Canonical :=
  .ite (.drain h) (.count h)

theorem Keeps.event {type : ℕ} {body : Bytes} (h : Keeps o s) : Keeps o (s.event type body) :=
  .partsIo h fun hc => hc.event

theorem Keeps.drainEvents (h : Keeps o s) : Keeps o s.drainEvents := .partsIo h fun hc => hc.drain

theorem Keeps.complete {c : Cpl} (h : Keeps o s) : Keeps o (s.complete c) := .partsIo h fun hc => hc.complete

theorem Keeps.log {kind source detail : ℕ} (h : Keeps o s) : Keeps o (s.log kind source detail) := h

theorem Keeps.faultEv {cls source detail : ℕ} (h : Keeps o s) : Keeps o (s.faultEv cls source detail) := h.log.event

theorem Keeps.mramFault {source detail : ℕ} (h : Keeps o s) : Keeps o (s.mramFault source detail) := h.setFld.faultEv

theorem Keeps.twinSend {type : ℕ} {body : Bytes} (h : Keeps o s) : Keeps o (s.twinSend type body) := .ite (.put h) h

theorem Keeps.sendLease (h : Keeps o s) : Keeps o s.sendLease := by
  unfold State.sendLease
  split
  · exact .twinSend h
  · exact h

/-! ### OpPoint -/

theorem Keeps.opStart (h : Keeps o s) : Keeps o s.opStart :=
  .ite h.setFld (.ite h.latchFld.setFld (.ite (.setFld (.parts h.latchFld.setFld)) (.setFld (.setFld (.parts
    h.latchFld.setFld)))))

theorem Keeps.opDone (h : Keeps o s) : Keeps o s.opDone := by
  unfold State.opDone
  split
  · exact h
  · exact .countMod (.setFld (.setFld h))

theorem Keeps.opToZero (h : Keeps o s) : Keeps o s.opToZero := .ite h.opDone (.countMod (.setFld (.parts h.opDone)))

theorem Keeps.opStepDone (h : Keeps o s) : Keeps o s.opStepDone := .ite h.opDone.opStart h

/-! ### Directory -/

theorem Keeps.putDir {d : Dir} (h : Keeps o s) : Keeps o (s.putDir d) := .iteNv h h

theorem Keeps.updDir {f : Dir → Dir} (h : Keeps o s) : Keeps o (s.updDir f) := by
  unfold State.updDir
  split
  · exact h.putDir
  · exact h

theorem Keeps.updEnt {b : Bool} {f : SetEnt → SetEnt} (h : Keeps o s) : Keeps o (s.updEnt b f) := h.updDir

theorem Keeps.undoActivate {b : Bool} (h : Keeps o s) : Keeps o (s.undoActivate b) := h.updDir

/-! ### Rings -/

theorem Io.Canonical.fetched {n : ℕ} (h : io.Canonical) : (io.fetched n).Canonical := .parts h.setFld

theorem Io.Canonical.settle {n : ℕ} (h : io.Canonical) : (io.settle n).Canonical := .ite h.setFld h

theorem Keeps.ringStops {completion : Bool} {n err : ℕ} (h : Keeps o s) : Keeps o (s.ringStops completion n err) :=
  .event (.ite h.setFld.setFld h.setFld.setFld)

theorem Io.Canonical.writes {a : List (ℕ × Bytes)} (h : io.Canonical) : (io.writes a).Canonical := by
  induction a generalizing io with
  | nil =>
    exact h
  | cons x as ih =>
    rw [Io.writes]
    exact ih h.put

theorem Keeps.queueTx {n serial gen tag : ℕ} {done : Option ℕ} (h : Keeps o s) :
    Keeps o (s.queueTx n serial gen tag done) :=
  h

theorem Keeps.queueRx {b : RxBuf} (h : Keeps o s) : Keeps o (s.queueRx b) := h

theorem Keeps.deliver {r : Reply} {c : Cmd} {op serial : ℕ} (h : Keeps o r.st) : Keeps o (deliver c op serial r) := by
  unfold Machine.deliver
  refine .ite h.ringStops ?_
  split
  · exact .partsIo h fun hc => hc.writes
  · exact .ite (.queueTx (.partsIo h fun hc => hc.writes)) (.ite (.queueRx (.partsIo h fun hc => hc.writes)) (.ite
      (.partsIo (.complete (.partsIo h fun hc => hc.writes)) fun hc => hc) (.complete (.partsIo h fun hc =>
      hc.writes))))

theorem Keeps.dozeWake {b : ℕ} (h : Keeps o s) : Keeps o (s.dozeWake b) := .ite (.parts h.setWord) h

theorem Keeps.dozeStop (h : Keeps o s) : Keeps o s.dozeStop := .ite h.dozeWake h

theorem Keeps.ringRun {op : ℕ} {kind : RingKind} {c : Cmd} {h' : State → Reply} (h : Keeps o s) (hh' : ∀ {u}, Keeps o u
    → Keeps o (h' u).st) :
    Keeps o (ringRun op kind c h' s) :=
  .ite h (.ite h.dozeStop (.deliver (.checked (.partsIo h fun hc => hc.fetched) hh')))

theorem Keeps.blockRun {c : Cmd} {size statusAt rsv : ℕ} {f : State → Bytes → BlockReply} {most : ℕ} {all : Bool} (h :
    Keeps o s) (hf : ∀ {u a1}, Keeps o u → Keeps o (f u a1).st) :
    Keeps o (blockRun c size statusAt rsv s f most all).st := by
  unfold Machine.blockRun
  refine .iteIn h ?_
  split
  · exact h
  · exact h.runBlocks hf

theorem Keeps.finish {d : Dfr} {status result : ℕ} (h : Keeps o s) : Keeps o (s.finish d status result) :=
  .partsIo (.complete h) fun hc => hc.settle

theorem Keeps.flushTx {n a : ℕ} (h : Keeps o s) : Keeps o (s.flushTx n a) := by
  induction a generalizing s n with
  | zero =>
    exact h
  | succ n0 ih =>
    rw [State.flushTx]
    dsimp only
    split
    · exact h
    · split
      · exact h
      · exact ih (.partsIo (.complete h) fun hc => hc.settle)

theorem Keeps.txOver {key : Option ℕ} {status : ℕ} (h : Keeps o s) : Keeps o (s.txOver key status) := by
  unfold State.txOver
  split
  · exact h
  · exact .flushTx h

theorem Keeps.flushRx {n a : ℕ} (h : Keeps o s) : Keeps o (s.flushRx n a) := by
  induction a generalizing s n with
  | zero =>
    exact h
  | succ n0 ih =>
    rw [State.flushRx]
    dsimp only
    split
    · exact h
    · exact .ite h (ih (.complete h))

theorem Keeps.finishOp {op status result : ℕ} (h : Keeps o s) : Keeps o (s.finishOp op status result) := by
  unfold State.finishOp
  split
  · exact h.finish
  · exact h

theorem Keeps.finishKey {op key status result : ℕ} (h : Keeps o s) : Keeps o (s.finishKey op key status result) := by
  unfold State.finishKey
  split
  · exact h.finish
  · exact h

/-! ### Tables -/

theorem Keeps.seqNext {table : ℕ} (h : Keeps o s) : Keeps o (s.seqNext table) := h.countMod

theorem Keeps.tableEvent {table subtype op cause dest : ℕ} {key : Bytes} (h : Keeps o s) :
    Keeps o (s.tableEvent table subtype op cause dest key) :=
  .ite h h.event

theorem Keeps.changed {table op : ℕ} {cause : Option ℕ} {dest : ℕ} {key : Bytes} (h : Keeps o s) :
    Keeps o (s.changed table op cause dest key) := by
  unfold State.changed
  split
  · exact .ite h.seqNext h.seqNext.tableEvent
  · exact h.seqNext

theorem Keeps.mirror {n : ℕ} {c : Ctx} {fail : Bool} (h : Keeps o s) : Keeps o (s.mirror n c fail) :=
  .ite h.count.mramFault h

theorem Keeps.setCtx {n : ℕ} {c : Ctx} {fail : Bool} (h : Keeps o s) : Keeps o (s.setCtx n c fail) := by
  unfold State.setCtx
  refine .ite ?_ (.mirror ?_)
  · split <;> exact h
  · split <;> exact h

theorem Keeps.nodeCnt (h : Keeps o s) : Keeps o s.nodeCnt := h.setFld

theorem Keeps.setRoute {addr parent depth ctx : ℕ} {cause : Option ℕ} (h : Keeps o s) :
    Keeps o (s.setRoute addr parent depth ctx cause) := by
  unfold State.setRoute
  split
  · exact .changed h
  · split
    · exact .changed h
    · exact h

theorem Keeps.delRoute {addr : ℕ} {cause : Option ℕ} (h : Keeps o s) : Keeps o (s.delRoute addr cause) := by
  unfold State.delRoute
  split
  · exact .changed h
  · exact h

theorem Keeps.newCtx {u : State} {c : Ctx} {cause : Option ℕ} {n : ℕ} (h : Keeps o s) (hu : s.newCtx c cause = some (n,
    u)) :
    Keeps o u := by
  unfold State.newCtx at hu
  dsimp only at hu
  split at hu
  · cases hu
    exact .nodeCnt (.seqNext (.changed (.setCtx h)))
  · cases hu

theorem Keeps.redepth {a a' : ℕ} (h : Keeps o s) : Keeps o (s.redepth a a') := by
  induction a generalizing s a' with
  | zero =>
    exact h
  | succ n ih =>
    rw [State.redepth]
    dsimp only
    split
    · exact h
    · exact .each h (fun hu => (ih hu))

/-! ### MeshSec -/

theorem Keeps.draw {n : ℕ} (h : Keeps o s) : Keeps o (s.draw n).2 := h.useFree

theorem Keeps.vaultFault (h : Keeps o s) : Keeps o s.vaultFault := h.setFld

theorem Keeps.keyRequest {addr epoch : ℕ} (h : Keeps o s) : Keeps o (s.keyRequest addr epoch) := by
  unfold State.keyRequest
  split
  · exact .count h
  · exact .ite h.count (.parts h.count)

theorem Keeps.keyDerive (h : Keeps o s) : Keeps o s.keyDerive := by
  unfold State.keyDerive
  dsimp only
  refine .ite h ?_
  split
  · exact h
  · split <;> exact h

theorem Keeps.cacheDrop {p : KeyEnt → Bool} (h : Keeps o s) : Keeps o (s.cacheDrop p) := h

theorem Keeps.remaskSlots {a : List ℕ} (h : Keeps o s) : Keeps o (s.remaskSlots a) := by
  induction a generalizing s with
  | nil =>
    exact h
  | cons x as ih =>
    rw [State.remaskSlots]
    dsimp only
    exact ih (.parts h.useFree)

theorem Keeps.remask (h : Keeps o s) : Keeps o s.remask := by
  unfold State.remask
  dsimp only
  exact .countMod (.parts h.remaskSlots.draw)

theorem Keeps.secLast {reason addr : ℕ} (h : Keeps o s) : Keeps o (s.secLast reason addr) := h.setFld.setFld

theorem Keeps.secFail {c : SecCheck} {addr : ℕ} (h : Keeps o s) : Keeps o (s.secFail c addr) := by
  unfold State.secFail
  split
  · exact h.count.secLast
  · exact h.count.secLast
  · exact .parts h.count.secLast
  · exact h.count.secLast
  · exact h

theorem Keeps.secEvent {subtype addr value : ℕ} (h : Keeps o s) : Keeps o (s.secEvent subtype addr value) := h.event

theorem Keeps.micWindowEnd (h : Keeps o s) : Keeps o s.micWindowEnd := .parts (.ite h.secEvent.setFld h)

theorem Keeps.ulWarn {n : NodeRec} {addr epoch ctr : ℕ} (h : Keeps o s) : Keeps o (s.ulWarn n addr epoch ctr) :=
  .ite h.setFld.secEvent h

theorem Keeps.recordCtr {addr epoch ctr : ℕ} {mirrorFail : Bool} (h : Keeps o s) :
    Keeps o (s.recordCtr addr epoch ctr mirrorFail) := by
  unfold State.recordCtr
  dsimp only
  split
  · split
    · refine .setCtx ?_
      split
      · exact .ite h h.ulWarn
      · exact h
    · split
      · exact .ite h h.ulWarn
      · exact h
  · split
    · refine .parts ?_
      split
      · exact .ite h h.ulWarn
      · exact h
    · split
      · exact .ite h h.ulWarn
      · exact h
  · split
    · exact .ite h h.ulWarn
    · exact h

theorem Keeps.takeCtr (h : Keeps o s) : Keeps o (s.takeCtr).2 := h

theorem Keeps.writeLease {ok : Bool} (h : Keeps o s) : Keeps o (s.writeLease ok) := by
  unfold State.writeLease
  split
  · exact h
  · exact .ite h (.ite (.sendLease h) (.setFld h))

theorem Keeps.leaseExtend {ok : Bool} (h : Keeps o s) : Keeps o (s.leaseExtend ok) := .ite h.writeLease h

theorem Keeps.leaseRetry {ok : Bool} (h : Keeps o s) : Keeps o (s.leaseRetry ok) := .ite h.writeLease h

theorem Keeps.dlWarn (h : Keeps o s) : Keeps o s.dlWarn := .ite (.secEvent (.setFld h)) h

theorem Keeps.dlExhausted (h : Keeps o s) : Keeps o s.dlExhausted := .ite (.secEvent (.setFld h)) h

theorem Keeps.restoreLease (h : Keeps o s) : Keeps o s.restoreLease := by
  unfold State.restoreLease
  split <;> exact h

theorem Keeps.endGrace (h : Keeps o s) : Keeps o s.endGrace := by
  unfold State.endGrace
  split
  · exact h
  · split
    · exact h
    · exact .vaultFault (.secEvent (.cacheDrop h))

theorem Keeps.graceEnd (h : Keeps o s) : Keeps o s.graceEnd := by
  unfold State.graceEnd
  split
  · exact .ite h.endGrace h
  · exact h

theorem Keeps.setPending {p : Option Rot} (h : Keeps o s) : Keeps o (s.setPending p) := by
  unfold State.setPending
  split <;> exact h

theorem Keeps.rotate (h : Keeps o s) : Keeps o s.rotate := by
  unfold State.rotate
  split
  · exact h
  · exact .ite h (.vaultFault (.finishOp (.cacheDrop (.setFld h))))

theorem Keeps.epochSet {c : Cmd} (h : Keeps o s) : Keeps o (s.epochSet c).st := by
  unfold State.epochSet
  refine .iteIn ?_ (.iteIn h (.iteIn h (.iteIn h (.defer h.setPending))))
  split
  · exact .ok h.endGrace
  · exact h

theorem Keeps.undoEpochSet (h : Keeps o s) : Keeps o s.undoEpochSet := h.setPending

/-! ### Buffer -/

theorem Keeps.sendPause {p u quanta : ℕ} (h : Keeps o s) : Keeps o (s.sendPause p u quanta) := h.put.count

theorem Keeps.setXoff {p u : ℕ} {b : Bool} (h : Keeps o s) : Keeps o (s.setXoff p u b) := h.setFld

theorem Keeps.sendXoff {p u : ℕ} (h : Keeps o s) : Keeps o (s.sendXoff p u) := .parts h.sendPause.setXoff

theorem Keeps.flowControl (h : Keeps o s) : Keeps o s.flowControl :=
  .ite h (h.each (fun hu => (.ite hu (hu.latchRegs.each (fun hv => (.ite (.ite hv.sendPause.setXoff hv) (.ite
    hv.sendXoff hv)))))))

theorem Keeps.updatePool (h : Keeps o s) : Keeps o s.updatePool := h.setFld.flowControl

theorem Keeps.xoffRepeat {p u : ℕ} (h : Keeps o s) : Keeps o (s.xoffRepeat p u) := .ite h.sendXoff h

/-! ### Shaping -/

theorem Keeps.setQueue {n : ℕ} {q : Queue} (h : Keeps o s) : Keeps o (s.setQueue n q) := h

theorem Keeps.setShaper {n : ℕ} {x : Shaper} (h : Keeps o s) : Keeps o (s.setShaper n x) := h

theorem Keeps.charge {shapers : List ℕ} {base : ℕ} (h : Keeps o s) : Keeps o (s.charge shapers base) :=
  h.each (fun hu => (.ite hu hu.setShaper))

theorem Keeps.shaperRefill {k : ℕ} (h : Keeps o s) : Keeps o (s.shaperRefill k) := .ite h h.setShaper

theorem Keeps.setRound {e c : ℕ} {l : List ℕ} (h : Keeps o s) : Keeps o (s.setRound e c l) := h

theorem Keeps.giveHead {e c : ℕ} (h : Keeps o s) : Keeps o (s.giveHead e c) := by
  unfold State.giveHead
  split
  · exact h.setQueue
  · exact h

theorem Keeps.joinRound {e n : ℕ} (h : Keeps o s) : Keeps o (s.joinRound e n) :=
  .ite h.setQueue (.ite h.setQueue.setRound.giveHead h.setQueue.setRound)

theorem Keeps.leaveRound {n : ℕ} (h : Keeps o s) : Keeps o (s.leaveRound n) := .setQueue h

theorem Keeps.pickQueue {u : State} {e c : ℕ} {elig : State → ℕ → Bool} {len : State → ℕ → ℕ} {fuel n : ℕ} (h : Keeps o
    s) (hu : s.pickQueue e c elig len fuel = some (n, u)) :
    Keeps o u := by
  induction fuel generalizing s with
  | zero => cases hu
  | succ fuel ih =>
    rw [State.pickQueue] at hu
    split at hu
    · cases hu
    · split at hu
      · cases hu
      · split at hu
        · cases hu
          exact h
        · exact ih h.setRound.giveHead hu

theorem Keeps.pickClass {u : State} {e sp : ℕ} {elig : State → ℕ → Bool} {len : State → ℕ → ℕ} {fuel c n : ℕ} (h :
    Keeps o s) (hu : s.pickClass e sp elig len fuel = some (c, n, u)) :
    Keeps o u := by
  induction fuel generalizing s with
  | zero => cases hu
  | succ fuel ih =>
    rw [State.pickClass] at hu
    split at hu
    · cases hu
    · extract_lets cur at_ nxt s₂ dn _ s₃ at hu
      have h₃ : Keeps o s₃ := .parts (.ite h.latchRegs h)
      split at hu
      · cases hu
      · rename_i hpick
        clear_value s₃ at_
        extract_lets d l at hu
        split at hu
        · cases hu
          exact .parts (h.pickQueue hpick)
        · exact ih h₃ hu

theorem Keeps.schedule {u : State} {e : ℕ} {elig : State → ℕ → Bool} {len : State → ℕ → ℕ} {c n : ℕ} (h : Keeps o s)
    (hu : s.schedule e elig len = some (c, n, u)) :
    Keeps o u := by
  unfold State.schedule at hu
  dsimp only at hu
  split at hu
  · obtain ⟨_, hpick, hu⟩ := Option.map_eq_some_iff.mp hu
    cases hu
    exact h.latchRegs.pickQueue hpick
  · exact h.latchRegs.pickClass hu

theorem Keeps.txCount {e c base : ℕ} (h : Keeps o s) : Keeps o (s.txCount e c base) := .setFld (.setFld h)

theorem Keeps.takeHead {u : State} {e n base : ℕ} {p : Packet} (h : Keeps o s) (hu : s.takeHead e n base = some (p, u))
    :
    Keeps o u := by
  unfold State.takeHead at hu
  dsimp only at hu
  split at hu
  · cases hu
  · cases hu
    have hq : ∀ {b : Prop} [Decidable b] {q : Queue},
        Keeps o (if b then (s.setQueue n q).leaveRound n else s.setQueue n q) :=
      .ite h.setQueue.leaveRound h.setQueue
    exact .updatePool (.txCount (.charge (.ite (.parts hq) hq)))

theorem Keeps.limitDrop {n : ℕ} (h : Keeps o s) : Keeps o (s.limitDrop n) := h.count

theorem Keeps.enqueue {n : ℕ} {ps : List Packet} (h : Keeps o s) : Keeps o (s.enqueue n ps) :=
  .ite h (.updatePool (.ite (h.setQueue.each (fun hu => hu.joinRound)) h.setQueue))

theorem Keeps.enqueueLim {n : ℕ} {p : Packet} (h : Keeps o s) : Keeps o (s.enqueueLim n p) := .ite h.limitDrop h.enqueue

theorem Keeps.dropQueue {n : ℕ} (h : Keeps o s) : Keeps o (s.dropQueue n) := h.setQueue.leaveRound.updatePool

theorem Keeps.dropAll {keep : ℕ → Bool} (h : Keeps o s) : Keeps o (s.dropAll keep) :=
  h.each (fun hu => (.ite hu hu.dropQueue.count))

theorem Keeps.shaperSet {b : Bytes} (h : Keeps o s) : Keeps o (s.shaperSet b).st := .iteIn h h.setShaper

theorem Keeps.shaperGet {b : Bytes} (h : Keeps o s) : Keeps o (s.shaperGet b).st := .iteIn h h

theorem Keeps.queueSet {b : Bytes} (h : Keeps o s) : Keeps o (s.queueSet b).st := .iteIn h h.setQueue

theorem Keeps.queueGet {b : Bytes} (h : Keeps o s) : Keeps o (s.queueGet b).st := .iteIn h h

/-! ### MeshLink -/

theorem Keeps.setPattern {len map : ℕ} (h : Keeps o s) : Keeps o (s.setPattern len map) := .setFld (.setFld (.setFld h))

theorem Keeps.showNext (h : Keeps o s) : Keeps o s.showNext := h.setFld.setFld.setFld.setFld.setFld.setFld

theorem Keeps.sfActivate (h : Keeps o s) : Keeps o s.sfActivate := by
  unfold State.sfActivate
  split
  · exact .ite (.finishOp (.showNext (.parts h.setPattern))) h
  · exact h

theorem Keeps.meshService (h : Keeps o s) : Keeps o s.meshService :=
  .ite h.setFld (.ite h (.ite h.setPattern.setFld h.setFld))

theorem Keeps.sfSet {c : Cmd} (h : Keeps o s) : Keeps o (s.sfSet c).st :=
  .iteIn h (.iteIn h (.iteIn h (.iteIn h (.defer (.showNext h)))))

theorem Keeps.setConn {k : ℕ} {c : Conn} (h : Keeps o s) : Keeps o (s.setConn k c) := h

theorem Keeps.connCnt (h : Keeps o s) : Keeps o s.connCnt := h.setFld.setFld

theorem Keeps.bindConn {k addr : ℕ} (h : Keeps o s) : Keeps o (s.bindConn k addr) := by
  unfold State.bindConn
  split
  · exact h.setCtx
  · exact h

theorem Keeps.freeConn {k : ℕ} (h : Keeps o s) : Keeps o (s.freeConn k) := by
  unfold State.freeConn
  split
  · exact h
  · refine .connCnt (.finishKey ?_)
    split
    · exact .setCtx h
    · exact h

theorem Keeps.closeAddr {addr : ℕ} (h : Keeps o s) : Keeps o (s.closeAddr addr) := by
  unfold State.closeAddr
  split
  · exact h.freeConn
  · exact h

theorem Keeps.newConn {u : State} {addr : ℕ} {l : Bool} {p : ConnPar} (h : Keeps o s) (hu : s.newConn addr l p = some
    u) :
    Keeps o u := by
  unfold State.newConn at hu
  dsimp only at hu
  split at hu
  · cases hu
  · cases hu
    exact h.closeAddr.setConn.bindConn.connCnt

theorem Keeps.lapseConn {k : ℕ} {c : Conn} (h : Keeps o s) : Keeps o (s.lapseConn k c) := .connCnt (.parts h.setConn)

theorem Keeps.connInstant {k : ℕ} (h : Keeps o s) : Keeps o (s.connInstant k) := by
  unfold State.connInstant
  split
  · exact .ite h.setConn.connCnt h
  · exact h

theorem Keeps.connEvent {k : ℕ} (h : Keeps o s) : Keeps o (s.connEvent k) := by
  unfold State.connEvent
  split
  · exact h
  · exact .ite h (.ite h.lapseConn.count h.setConn)

theorem Keeps.lapseHold {k : ℕ} (h : Keeps o s) : Keeps o (s.lapseHold k) := by
  unfold State.lapseHold
  split
  · exact .ite h.freeConn h
  · exact h

theorem Keeps.writeSnap (h : Keeps o s) : Keeps o s.writeSnap := .ite h h

theorem Keeps.journal {k : ℕ} {p : ConnPar} (h : Keeps o s) : Keeps o (s.journal k p) :=
  .ite (.partsNv (.ite h.writeSnap h)) (.partsNv (.ite h.writeSnap h))

theorem Keeps.queueDl {kind : DlKind} {dst : ℕ} {l : Bool} {payload : Bytes} (h : Keeps o s) :
    Keeps o (s.queueDl kind dst l payload) :=
  h

theorem Keeps.connSet {b : Bytes} (h : Keeps o s) : Keeps o (s.connSet b).st := by
  unfold State.connSet
  refine .iteIn h (.iteIn ?_ ?_)
  · split
    · exact h
    · split
      · exact h
      · rename_i hx
        exact h.newConn hx
  · split
    · exact h
    · exact .iteIn h (.iteIn h (.ite h.journal.setConn h.journal.setConn.queueDl))

theorem Keeps.connGet {b : Bytes} (h : Keeps o s) : Keeps o (s.connGet b).st := by
  unfold State.connGet
  split <;> exact h

theorem Keeps.connClose {c : Cmd} (h : Keeps o s) : Keeps o (s.connClose c).st := by
  unfold State.connClose
  dsimp only
  split
  · exact h
  · exact .iteIn h (.iteIn (.ok h.freeConn) (.iteIn h (.iteIn h (.defer h.queueDl))))

theorem Keeps.removeCtx {n : ℕ} {cause : Option ℕ} (h : Keeps o s) : Keeps o (s.removeCtx n cause) := by
  unfold State.removeCtx
  split
  · exact h
  · refine .nodeCnt (.count (.dropQueue (.cacheDrop (.seqNext (.changed (.partsNv (.ite ?_ (.delRoute ?_))))))))
    · split
      · exact h.freeConn
      · exact h
    · split
      · exact h.freeConn
      · exact h

theorem Keeps.setAddr {n addr : ℕ} (h : Keeps o s) : Keeps o (s.setAddr n addr) := by
  unfold State.setAddr
  split
  · exact h
  · refine .ite h (.setRoute ?_)
    split
    · exact .seqNext (.setCtx (.ite h (.parts h.closeAddr.delRoute)))
    · exact .ite h (.parts h.closeAddr.delRoute)

theorem Keeps.admitBlock {b : Bytes} (h : Keeps o s) : Keeps o (s.admitBlock b).st := by
  unfold State.admitBlock
  refine .iteIn h (.iteIn ?_ ?_)
  · split
    · exact h.removeCtx
    · exact h
  · split
    · exact .ite h.setCtx.seqNext h.setCtx.seqNext.setAddr
    · split
      · exact h
      · rename_i hx
        exact .ite (h.newCtx hx) ((h.newCtx hx).setAddr)

theorem Keeps.routeCmd {b : Bytes} (h : Keeps o s) : Keeps o (s.routeCmd b).st := by
  unfold State.routeCmd
  dsimp only
  refine .iteIn h (.iteIn ?_ ?_)
  · split
    · exact h
    · refine .iteIn h ?_
      split
      · exact .setCtx (.redepth (.setRoute (.ite h h.closeAddr)))
      · exact .redepth (.setRoute (.ite h h.closeAddr))
  · split
    · exact h
    · refine .iteIn h.delRoute ?_
      split
      · exact h.setCtx
      · exact h

/-! ### Flt -/

theorem Keeps.fltScan {path addr : ℕ} {a : List ℕ} (h : Keeps o s) : Keeps o (s.fltScan path addr a).2 := by
  induction a generalizing s path addr with
  | nil =>
    rw [State.fltScan]
    dsimp only
    exact h
  | cons x as ih =>
    rw [State.fltScan]
    dsimp only
    split
    · exact ih h
    · exact .iteIn (.count h) (ih h)

theorem Keeps.fltTest {path addr : ℕ} (h : Keeps o s) : Keeps o (s.fltTest path addr).2 := .iteIn h.fltScan h

theorem Keeps.fltHold {h' : FltHeld} (h : Keeps o s) : Keeps o (s.fltHold h') := h

theorem Keeps.fltPassed {path ring : ℕ} (h : Keeps o s) : Keeps o (s.fltPassed path ring).2 := h

/-! ### Reset -/

theorem Keeps.backupLog {cause fromMode toMode : ℕ} (h : Keeps o s) : Keeps o (s.backupLog cause fromMode toMode) := h

theorem Keeps.hardReset {soft : Bool} (h : Keeps o s) : Keeps o (s.hardReset soft) :=
  .setFld (h.withIo fun hc => hc.filter _ rfl)

theorem Keeps.backupCold (h : Keeps o s) : Keeps o s.backupCold := .backupLog (h.withIo fun hc => hc.filter _ rfl)

theorem Keeps.sampleStraps {x : Straps} (h : Keeps o s) : Keeps o (s.sampleStraps x) := h.setFld.setFld.setFld.setFld

/-! ### Rtc -/

theorem Keeps.alarms {old new oldCal newCal : ℤ} {jump : Bool} (h : Keeps o s) :
    Keeps o (s.alarms old new oldCal newCal jump) :=
  h

theorem Keeps.anchorsBy {d : ℤ} (h : Keeps o s) : Keeps o (s.anchorsBy d) := h

theorem Keeps.setTime {new : ℤ} (h : Keeps o s) : Keeps o (s.setTime new) := h

theorem Keeps.wholeSecond {before : ℤ} (h : Keeps o s) : Keeps o (s.wholeSecond before) := by
  unfold State.wholeSecond
  dsimp only
  split
  · refine .ite (.setFld (.parts ?_)) (.setFld (.parts ?_))
    · split <;> exact h
    · split <;> exact h
  · refine .ite (.setFld (.parts ?_)) (.setFld (.parts ?_))
    · split <;> exact h
    · split <;> exact h
  · split <;> exact h

theorem Keeps.goesOn {new : ℤ} (h : Keeps o s) : Keeps o (s.goesOn new) :=
  .ite h.setTime.alarms h.setTime.wholeSecond.alarms

theorem Keeps.repeatEnds (h : Keeps o s) : Keeps o s.repeatEnds := by
  unfold State.repeatEnds
  split
  · exact .ite h h
  · exact h

theorem Keeps.rtcTransfer {p : ℕ × Word} (h : Keeps o s) : Keeps o (s.rtcTransfer p) := by
  unfold State.rtcTransfer
  refine .ite (.parts h.setFld) (.ite (.parts h.setWord) (.ite (.ite h.setFld h.setWord) ?_))
  split
  · exact h.setWord
  · exact h

theorem Keeps.newWindow (h : Keeps o s) : Keeps o s.newWindow := h

theorem Keeps.backupTick (h : Keeps o s) : Keeps o s.backupTick := by
  unfold State.backupTick
  refine .ite (.newWindow (.repeatEnds ?_)) (.parts (.repeatEnds ?_))
  · split
    · refine .alarms (.setTime (.setFld (.setFld (.parts (.anchorsBy ?_)))))
      split <;> exact .parts (h.each (fun hu => hu.rtcTransfer))
    · refine .alarms (.setTime (.parts (.anchorsBy ?_)))
      split <;> exact .parts (h.each (fun hu => hu.rtcTransfer))
    · refine .goesOn ?_
      split <;> exact .parts (h.each (fun hu => hu.rtcTransfer))
  · split
    · refine .alarms (.setTime (.setFld (.setFld (.parts (.anchorsBy ?_)))))
      split <;> exact .parts (h.each (fun hu => hu.rtcTransfer))
    · refine .alarms (.setTime (.parts (.anchorsBy ?_)))
      split <;> exact .parts (h.each (fun hu => hu.rtcTransfer))
    · refine .goesOn ?_
      split <;> exact .parts (h.each (fun hu => hu.rtcTransfer))

theorem Keeps.rtcSet {hi : Word} (h : Keeps o s) : Keeps o (s.rtcSet hi) := h

theorem Keeps.rtcCmd {w : Word} (h : Keeps o s) : Keeps o (s.rtcCmd w) := by
  unfold State.rtcCmd
  dsimp only
  split
  · exact h
  · exact .ite h.setFld h
  · exact h.setFld

theorem Keeps.rtcWrite {off : ℕ} {w : Word} (h : Keeps o s) : Keeps o (s.rtcWrite off w) :=
  .ite h (.ite h.rtcSet (.ite h.rtcCmd (.ite h h)))

/-! ### Postbox -/

theorem Keeps.pushItem {type : ℕ} {payload : List PWord} (h : Keeps o s) : Keeps o (s.pushItem type payload) :=
  .ite h (.count h)

theorem Keeps.stateRefresh (h : Keeps o s) : Keeps o s.stateRefresh := h.pushItem

theorem Keeps.popWord {upset : PWord} (h : Keeps o s) : Keeps o (s.popWord upset) := by
  unfold State.popWord
  split
  · exact h.put
  · exact .put h
  · exact .ite (.ite (.put h) (.count (.put h))) (.put h)

theorem Keeps.flushPbox (h : Keeps o s) : Keeps o s.flushPbox := .count h

/-! ### RadioS -/

theorem Keeps.srxSlotLatch (h : Keeps o s) : Keeps o s.srxSlotLatch := h.latchRegs.setFld

theorem Keeps.windowLatch (h : Keeps o s) : Keeps o s.windowLatch := h.latchRegs

theorem Keeps.openWindow {rcpt : Bool} {p0 p1 : ℤ} (h : Keeps o s) : Keeps o (s.openWindow rcpt p0 p1) :=
  .ite h (.ite (.parts (.setFld (.parts (.setFld (.setFld (.setFld (.setFld (.setFld (.parts h.windowLatch)))))))))
    (.setFld (.parts (.setFld (.setFld (.setFld (.setFld (.setFld (.parts h.windowLatch)))))))))

theorem Keeps.toCourier {f : RxFrame} (h : Keeps o s) : Keeps o (s.toCourier f) := .count (.count h)

theorem Keeps.truncate {p : ℕ × DemodState} (h : Keeps o s) : Keeps o (s.truncate p) := by
  unfold State.truncate
  split
  · exact h.toCourier.count
  · exact h

theorem Keeps.stopDemods (h : Keeps o s) : Keeps o s.stopDemods := .parts (h.each (fun hu => hu.truncate))

theorem Keeps.coxbGrant (h : Keeps o s) : Keeps o s.coxbGrant := h.setFld

theorem Keeps.closeWindow (h : Keeps o s) : Keeps o s.closeWindow := by
  unfold State.closeWindow
  split
  · exact h
  · exact .coxbGrant (.ite (.setFld (.setFld (.parts h.stopDemods))) (.parts (.setFld (.setFld (.parts h.stopDemods)))))

theorem Keeps.preamble {j chain : ℕ} (h : Keeps o s) : Keeps o (s.preamble j chain) := by
  unfold State.preamble
  dsimp only
  refine .ite h (.ite h ?_)
  split
  · exact .setFld h
  · exact .setFld h
  · exact h.setFld

theorem Keeps.diversity {j : ℕ} {snr0 snr1 : ℤ} (h : Keeps o s) : Keeps o (s.diversity j snr0 snr1) := by
  unfold State.diversity
  split <;> exact h

theorem Keeps.adcClip {chain : ℕ} (h : Keeps o s) : Keeps o (s.adcClip chain) :=
  .ite h (.ite (.parts h.setFld.count) (.parts h.count))

theorem Keeps.sfdFound {j errs : ℕ} {phr : Phr} (h : Keeps o s) : Keeps o (s.sfdFound j errs phr) := by
  unfold State.sfdFound
  split
  · exact .ite h (.ite (.count h) h)
  · exact h

theorem Keeps.sfdTimeout {j : ℕ} (h : Keeps o s) : Keeps o (s.sfdTimeout j) := by
  unfold State.sfdTimeout
  split <;> exact h

theorem Keeps.injectMesh {path : ℕ} {f : RxFrame} (h : Keeps o s) : Keeps o (s.injectMesh path f).2 := by
  unfold State.injectMesh
  split
  · rename_i hx
    exact Keeps.snd hx h.fltTest
  · rename_i hy
    exact Keeps.snd hy h.fltTest
  · rename_i hz
    exact Keeps.snd hz h.fltTest

theorem Keeps.deliverFrame {j : ℕ} {psdu : Bytes} {rssi cfo : ℤ} (h : Keeps o s) :
    Keeps o (s.deliverFrame j psdu rssi cfo) := by
  unfold State.deliverFrame
  dsimp only
  split
  · split
    · rename_i hx
      exact (Keeps.snd hx (.injectMesh h)).toCourier
    · rename_i hy
      exact Keeps.snd hy (.injectMesh h)
  · exact h

theorem Keeps.deliverL {x : LRx} {psdu : Bytes} {rssi cfo : ℤ} (h : Keeps o s) : Keeps o (s.deliverL x psdu rssi cfo) :=
  .ite (.parts h.count.setFld.injectMesh) h

theorem Keeps.setAir {b : ℕ} {v : ℤ} (h : Keeps o s) : Keeps o (s.setAir b v) := h

theorem Keeps.airCharge {cs : List Carrier} (h : Keeps o s) : Keeps o (s.airCharge cs) :=
  h.each (fun hu => (.ite hu (.ite hu.setAir.count hu.setAir)))

theorem Keeps.airRefund {charged sent : ℕ → ℕ} (h : Keeps o s) : Keeps o (s.airRefund charged sent) :=
  h.each (fun hu => hu.setAir)

theorem Keeps.airRefill (h : Keeps o s) : Keeps o s.airRefill :=
  h.each (fun hu => (.ite hu.latchRegs hu.latchRegs.setAir))

theorem Keeps.calPend {full : Bool} (h : Keeps o s) : Keeps o (s.calPend full) := .setFld h

theorem Keeps.srxCalCmd {quick full : Bool} (h : Keeps o s) : Keeps o (s.srxCalCmd quick full) :=
  .ite h (.ite h.calPend h)

theorem Keeps.srxCalDue {temp : ℤ} (h : Keeps o s) : Keeps o (s.srxCalDue temp) := .ite (.calPend h) h

theorem Keeps.srxCalStart {dSlot : Bool} (h : Keeps o s) : Keeps o (s.srxCalStart dSlot) := .ite h (.setFld (.setFld h))

theorem Keeps.synthLost (h : Keeps o s) : Keeps o s.synthLost := .ite (.setFld h) h

/-! ### Lowpan -/

theorem Keeps.ctxLatch (h : Keeps o s) : Keeps o s.ctxLatch := h.latchRegs

theorem Keeps.addPart {origin tag size : ℕ} {part : ℕ × Bytes} (h : Keeps o s) :
    Keeps o (s.addPart origin tag size part).1 := by
  unfold State.addPart
  dsimp only
  split
  · exact h.count
  · split
    · split
      · exact h.count
      · split
        · exact h.count
        · exact h
    · split
      · exact .count (.parts h)
      · split
        · exact .count (.parts h)
        · exact h

theorem Keeps.lowpanIn {origin src dst : ℕ} {b : Bytes} (h : Keeps o s) : Keeps o (s.lowpanIn origin src dst b).1 := by
  unfold State.lowpanIn
  dsimp only
  split
  · split
    · split
      · exact h.ctxLatch.count
      · exact h.ctxLatch.addPart
    · exact h.ctxLatch.count
  · split
    · split
      · exact h.ctxLatch.count
      · exact h.ctxLatch.addPart
    · split
      · exact h.ctxLatch
      · exact h.ctxLatch.count

theorem Keeps.fragTimeout (h : Keeps o s) : Keeps o s.fragTimeout := .count h

/-! ### Parse -/

theorem Keeps.toSorter {p : Packet} (h : Keeps o s) : Keeps o (s.toSorter p) := .updatePool h

/-! ### MeshNet -/

theorem Keeps.joinFail {c : SecCheck} (h : Keeps o s) : Keeps o (s.joinFail c) := by
  unfold State.joinFail
  split
  · exact h.count.secLast
  · exact h.secFail

theorem Keeps.recordJoin {eui ep ctr : ℕ} {mirrorFail : Bool} (h : Keeps o s) :
    Keeps o (s.recordJoin eui ep ctr mirrorFail) := by
  unfold State.recordJoin
  split
  · exact h.setCtx
  · exact h

theorem Keeps.addJoin {r : JoinReq} (h : Keeps o s) : Keeps o (s.addJoin r) := h

theorem Keeps.dropUnsent {eui : ℕ} (h : Keeps o s) : Keeps o (s.dropUnsent eui) := h

theorem Keeps.joinArrives {r : JoinReq} (h : Keeps o s) : Keeps o (s.joinArrives r) :=
  .ite (.addJoin (.parts h.dropUnsent)) h

theorem Keeps.respond {r : JoinReq} {result addr hint : ℕ} {par : Option ConnPar} (h : Keeps o s) :
    Keeps o (s.respond r result addr hint par) :=
  .ite (.ite (.count (.parts h.dropUnsent)) (.count (.parts h.dropUnsent))) (.parts (.ite (.count (.parts
    h.dropUnsent)) (.count (.parts h.dropUnsent))))

theorem Keeps.hint (h : Keeps o s) : Keeps o (s.hint).2 := h.latchRegs

theorem Keeps.refuseJoin {r : JoinReq} {result : ℕ} (h : Keeps o s) : Keeps o (s.refuseJoin r result) := by
  unfold State.refuseJoin
  exact h.hint.respond

theorem Keeps.writeRecord {addr : ℕ} {a : List ℕ} (h : Keeps o s) : Keeps o (s.writeRecord addr a) := by
  induction a generalizing s addr with
  | nil =>
    rw [State.writeRecord]
    split
    · exact h.setRoute
    · exact h
  | cons x as ih =>
    rw [State.writeRecord]
    split
    · exact ((ih h).setRoute).redepth
    · exact ih h

theorem Keeps.grant {r : JoinReq} {par : Option ConnPar} (h : Keeps o s) : Keeps o (s.grant r par) := by
  have hbound : ∀ {n : ℕ} {u : State}, (match s.ctxOfEui r.eui with
      | some (n, _) => some (n, s)
      | none => s.newCtx { eui := r.eui } (some 2)) = some (n, u) → Keeps o u := by
    intro n u hu
    split at hu
    · cases hu
      exact h
    · exact h.newCtx hu
  unfold State.grant
  dsimp only
  split
  · exact h.refuseJoin
  · rename_i hu
    have h := hbound hu
    exact .respond (.ite (.changed (.setCtx (.ite h h.setAddr)))
      (.writeRecord (.closeAddr (.changed (.setCtx (.ite h h.setAddr))))))

theorem Keeps.askHost {r : JoinReq} (h : Keeps o s) : Keeps o (s.askHost r) := .event h

theorem Keeps.admission {o' : ConnOp} (h : Keeps o s) : Keeps o (s.admission o') := by
  unfold State.admission
  split
  · exact h
  · refine .ite h (.ite h.latchRegs (.ite (.refuseJoin (.parts h.latchRegs)) (.ite (.ite (.refuseJoin (.parts
      h.latchRegs)) (.grant (.parts h.latchRegs))) (.ite (.refuseJoin (.parts h.latchRegs)) (.ite (.askHost (.parts
      h.latchRegs)) ?_)))))
    split
    · exact .refuseJoin (.parts h.latchRegs)
    · exact .grant (.parts h.latchRegs)

theorem Keeps.joinDeadline {tok : ℕ} (h : Keeps o s) : Keeps o (s.joinDeadline tok) := by
  unfold State.joinDeadline
  split
  · exact .ite (.refuseJoin h) h
  · exact h

theorem Keeps.joinDecide {c : Cmd} (h : Keeps o s) : Keeps o (s.joinDecide c).st := by
  unfold State.joinDecide
  dsimp only
  split
  · exact .iteIn h h
  · refine .iteIn h (.iteIn h (.iteIn h (.iteIn (.ok (.respond h)) ?_)))
    split
    · exact .refuseJoin h
    · exact .ok (.addJoin h)

theorem Keeps.mark {origin id : ℕ} (h : Keeps o s) : Keeps o (s.mark origin id) := .ite (.count h) h

theorem Keeps.markExpiry (h : Keeps o s) : Keeps o s.markExpiry := h

theorem Keeps.addCirc {key : ℕ} {payload : Bytes} (h : Keeps o s) : Keeps o (s.addCirc key payload) := .ite h h

theorem Keeps.uplink {origin : ℕ} {content : Bytes} {rssi : ℤ} (h : Keeps o s) :
    Keeps o (s.uplink origin content rssi) :=
  h.toSorter

theorem Keeps.circReceive {payload : Bytes} {rssi : ℤ} (h : Keeps o s) : Keeps o (s.circReceive payload rssi) :=
  .ite h (.ite h.count (.ite h.mark.uplink.addCirc h.mark.uplink))

theorem Keeps.takeCircId (h : Keeps o s) : Keeps o (s.takeCircId).2 := .ite (.partsNv h.setFld) h.setFld

theorem Keeps.originate {key ttl scope target : ℕ} {content : Bytes} (h : Keeps o s) :
    Keeps o (s.originate key ttl scope target content) :=
  h.takeCircId.mark.addCirc

theorem Keeps.circSend {c : Cmd} (h : Keeps o s) : Keeps o (s.circSend c).st := by
  unfold State.circSend
  dsimp only
  split
  · exact h
  · exact .iteIn h (.iteIn h (.iteIn h (.defer (.originate h))))

theorem Keeps.heardCtx {addr : ℕ} (h : Keeps o s) : Keeps o (s.heardCtx addr) := by
  unfold State.heardCtx
  split <;> exact h

theorem Keeps.noteRec {inner : Bool} {addr ctr epoch : ℕ} {dup : Bool} (h : Keeps o s) :
    Keeps o (s.noteRec inner addr ctr epoch dup) :=
  .ite h h

theorem Keeps.innerCheck {mirrorFail : Bool} (h : Keeps o s) : Keeps o (s.innerCheck mirrorFail) := by
  unfold State.innerCheck
  dsimp only
  split
  · exact h
  · refine .ite (.count h) (.ite (.count h) (.ite (.ite (.count h) (.ite (.count h) ?_)) ?_))
    · split
      · exact .joinArrives (.recordJoin h)
      · exact h
      · exact .joinFail h
    · split
      · exact .count (.secFail h)
      · exact .count h
      · refine .ite ?_ (.uplink (.heardCtx (.recordCtr (.noteRec h))))
        split
        · exact .ite (.joinArrives (.heardCtx (.recordCtr (.noteRec h)))) (.heardCtx (.recordCtr (.noteRec h)))
        · exact .heardCtx (.recordCtr (.noteRec h))
      · exact .secFail h

/-! ### TxPath -/

theorem Keeps.circSent {num ch : ℕ} (h : Keeps o s) : Keeps o (s.circSent num ch) := by
  unfold State.circSent
  split
  · exact h
  · exact .ite (.ite h (.finishKey h)) h

theorem Keeps.joinSent {d : DlFrame} (h : Keeps o s) : Keeps o (s.joinSent d) := by
  unfold State.joinSent
  split
  · split
    · extract_lets s₁
      have h₁ : Keeps o s₁ := .redepth (.setRoute h)
      cases hnew : s₁.newConn _ _ _ with
      | none => exact h₁
      | some u => exact h₁.newConn hnew
    · exact h
  · exact h

theorem Keeps.cellGained {d : DlFrame} (h : Keeps o s) : Keeps o (s.cellGained d) := by
  unfold State.cellGained
  split
  · exact h
  · split <;> exact h

theorem Keeps.downSent {id : ℕ} (h : Keeps o s) : Keeps o (s.downSent id) := by
  unfold State.downSent
  split
  · exact h
  · exact .parts (.cellGained (.ite h (.ite h.count (.ite h.count h.joinSent))))

theorem Keeps.linkSent {c : Carrier} (h : Keeps o s) : Keeps o (s.linkSent c) := by
  unfold State.linkSent
  split
  · exact .ite (.count (.ite h.count.count h.count)) (.ite h.count.count h.count)
  · exact h.downSent
  · exact h.circSent
  · refine .count ?_
    split <;> exact h
  · exact h

theorem Keeps.noReceipt {addr : ℕ} (h : Keeps o s) : Keeps o (s.noReceipt addr) := by
  unfold State.noReceipt
  split
  · exact .ite h h
  · exact h

theorem Keeps.linkUnsent {c : Carrier} (h : Keeps o s) : Keeps o (s.linkUnsent c) := by
  unfold State.linkUnsent
  split
  · exact .ite h.noReceipt.count h.noReceipt
  · exact h

theorem Keeps.txFinish {charged sent : List Carrier} {st : ℕ} (h : Keeps o s) : Keeps o (s.txFinish charged sent st) :=
  .each (.each (.parts h.airRefund) (fun hu => hu.linkSent)) (fun hu => hu.linkUnsent)

theorem Keeps.txLate {j : TxJob} (h : Keeps o s) : Keeps o (s.txLate j) := h.txFinish.count

theorem Keeps.txDecide (h : Keeps o s) : Keeps o s.txDecide := by
  unfold State.txDecide
  split
  · exact .ite h (.ite h.txLate h)
  · exact h

theorem Keeps.txRequest {r : TxReq} (h : Keeps o s) : Keeps o (s.txRequest r) :=
  .ite h (.ite h (.txDecide (.parts h.airCharge)))

theorem Keeps.txDeadline (h : Keeps o s) : Keeps o s.txDeadline := by
  unfold State.txDeadline
  split
  · exact .ite h.txLate h
  · exact h

theorem Keeps.coxbPreempt (h : Keeps o s) : Keeps o s.coxbPreempt := by
  unfold State.coxbPreempt
  split
  · exact h
  · split
    · exact h
    · exact .ite h (.ite h.setFld.count h.txLate)

theorem Keeps.coxbReq {level : Bool} (h : Keeps o s) : Keeps o (s.coxbReq level) := h.setFld.coxbGrant

theorem Keeps.txPins {burst : Bool} (h : Keeps o s) : Keeps o (s.txPins burst) :=
  .setFld (.setFld (.setFld (.parts h.closeWindow)))

theorem Keeps.txRefused {u : State} {j : TxJob} {gnt : Bool} (h : Keeps o s) (hu : s.txRefused j gnt = some u) :
    Keeps o u := by
  unfold State.txRefused at hu
  split at hu
  · cases hu
    exact h.txFinish.count
  · split at hu
    · cases hu
      exact h.txLate.count
    · cases hu

theorem Keeps.txLaunch {j : TxJob} {e : ℕ} {energy : List ℤ} (h : Keeps o s) : Keeps o (s.txLaunch j e energy) :=
  .ite h.count.txLate (.each (.ite (.count (.parts ((h.count.airRefund.each (fun hu => hu.linkUnsent)).txPins)))
    (.parts ((h.count.airRefund.each (fun hu => hu.linkUnsent)).txPins))) (fun hu => hu.put))

theorem Keeps.turnaround {energy : List ℤ} {gnt : Bool} (h : Keeps o s) : Keeps o (s.turnaround energy gnt) := by
  unfold State.turnaround
  dsimp only
  split
  · exact h.latchRegs.coxbPreempt
  · split
    · exact h.latchRegs.coxbPreempt
    · refine .ite h.latchRegs.coxbPreempt ?_
      split
      · rename_i hx
        exact h.latchRegs.coxbPreempt.setFld.txRefused hx
      · exact h.latchRegs.coxbPreempt.setFld.txLaunch

theorem Keeps.rxPins (h : Keeps o s) : Keeps o s.rxPins := .coxbGrant (.setFld (.setFld (.setFld h)))

theorem Keeps.sendSlotRec (h : Keeps o s) : Keeps o s.sendSlotRec := .ite h (.twinSend h)

theorem Keeps.txCut (h : Keeps o s) : Keeps o s.txCut := by
  unfold State.txCut
  split
  · exact h
  · exact .ite h (.rxPins (.count (.each (.parts h.airRefund) (fun hu => hu.linkUnsent))))

theorem Keeps.txEnd (h : Keeps o s) : Keeps o s.txEnd := by
  unfold State.txEnd
  split
  · split
    · exact .ite h.txCut (.ite (.ite h.txFinish.count.rxPins.sendSlotRec h.txFinish.count.rxPins) h)
    · exact h
  · exact h

theorem Keeps.txWithdraw (h : Keeps o s) : Keeps o s.txWithdraw := by
  unfold State.txWithdraw
  split
  · exact .ite h.txCut h.txFinish
  · exact h

/-! ### Service -/

theorem Keeps.undoMode {target : ℕ} (h : Keeps o s) : Keeps o (s.undoMode target) := by
  unfold State.undoMode
  split
  · exact h
  · exact h
  · exact h
  · exact .ite h h
  · exact .ite h h
  · exact h
  · exact h

theorem Keeps.undo {d : Dfr} (h : Keeps o s) : Keeps o (s.undo d) := by
  unfold State.undo
  refine .ite h.undoMode (.ite (.showNext h) (.ite h (.ite h (.ite h (.ite h.undoEpochSet (.ite h (.ite h (.ite (.ite h
    (.parts ?_)) h))))))))
  split
  · exact h.undoActivate
  · exact h

theorem Keeps.discardOne {d : Dfr} (h : Keeps o s) : Keeps o (s.discardOne d) :=
  .ite (.parts h.complete) h.complete.undo

theorem Keeps.discardBuf {b : RxBuf} (h : Keeps o s) : Keeps o (s.discardBuf b) := h.complete

theorem Keeps.nextGen {cause n : ℕ} (h : Keeps o s) : Keeps o (s.nextGen cause n) := h.setFld.setFld.count.log.event

theorem Keeps.discard {cause : ℕ} {keep : Dfr → Bool} (h : Keeps o s) : Keeps o (s.discard cause keep) :=
  .nextGen (.updatePool (.each h (fun hu => (.partsIo ((hu.each (fun hv => hv.discardOne)).each (fun hv =>
    hv.discardBuf)) fun hc => hc.settle))))

theorem Io.Canonical.dropRings (h : io.Canonical) : (io.dropRings).Canonical :=
  .parts (h.foldl (fun hi => hi.setFld.setFld.setFld.setFld))

theorem Keeps.emptyHost (h : Keeps o s) : Keeps o s.emptyHost := h.each (fun hu => hu.dropQueue.count)

theorem Keeps.hostLoss {c : LossCause} (h : Keeps o s) : Keeps o (s.hostLoss c) :=
  .ite h.setWord (.emptyHost (.partsIo (.discard (.partsIo h.setWord fun hc => hc)) fun hc => hc.dropRings))

theorem Keeps.twinEvent {subtype : ℕ} {old : Role} {cause ctr : ℕ} (h : Keeps o s) :
    Keeps o (s.twinEvent subtype old cause ctr) :=
  h.event

theorem Keeps.leadCounter (h : Keeps o s) : Keeps o s.leadCounter := by
  unfold State.leadCounter
  split
  · exact h
  · exact .ite (.twinEvent (.count (.sendLease h))) (.sendLease h)

theorem Keeps.leadGone (h : Keeps o s) : Keeps o s.leadGone := .setFld (.setFld (.each h (fun hu => hu.dropQueue)))

theorem Keeps.leadStarts (h : Keeps o s) : Keeps o s.leadStarts := by
  unfold State.leadStarts
  refine .partsNv ?_
  split
  · exact h.leadCounter.setFld
  · exact h.leadCounter

theorem Keeps.holdDone (h : Keeps o s) : Keeps o s.holdDone := .each h (fun hu => hu.finish)

theorem Keeps.roleChange {new : Role} {cause : ℕ} (h : Keeps o s) : Keeps o (s.roleChange new cause) := by
  unfold State.roleChange
  dsimp only
  refine .ite h ?_
  split
  · exact .discard (.twinEvent (.leadStarts (.log (.ite (.count (.count h)) (.count h)))))
  · exact .holdDone (.discard (.twinEvent (.leadGone (.log (.ite (.count (.count h)) (.count h))))))
  · exact .twinEvent (.sendLease (.parts (.log (.ite (.count (.count h)) (.count h)))))
  · exact .twinEvent (.parts (.log (.ite (.count (.count h)) (.count h))))

theorem Keeps.closeGate {cause : ℕ} (h : Keeps o s) : Keeps o (s.closeGate cause) := .roleChange h

theorem Keeps.reclaim {cause : ℕ} (h : Keeps o s) : Keeps o (s.reclaim cause) :=
  .ite (.parts (.ite h.latchFld h)) (.ite (.closeGate (.parts (.ite h.latchFld h))) (.parts (.ite h.latchFld h)))

theorem Keeps.claimFault (h : Keeps o s) : Keeps o s.claimFault := .ite (.reclaim h) h

theorem Keeps.claimFell (h : Keeps o s) : Keeps o s.claimFell := .ite h.reclaim.claimFault h.reclaim

theorem Keeps.modeIs {m : Mode} (h : Keeps o s) : Keeps o (s.modeIs m) := .event (.stateRefresh (.pushItem (.log h)))

theorem Keeps.duskService {cause : ℕ} (h : Keeps o s) : Keeps o (s.duskService cause) := .ite (.setFld h) h

theorem Keeps.finishMode {target status : ℕ} (h : Keeps o s) : Keeps o (s.finishMode target status) := h.finishKey

/-! ### MeshRx -/

theorem Keeps.takePlace {r : Rcpt} (h : Keeps o s) : Keeps o (s.takePlace r) := h

theorem Keeps.oweDefer {r : Rcpt} (h : Keeps o s) : Keeps o (s.oweDefer r) := .count h

theorem Keeps.updConnOf {addr : ℕ} {f : Conn → Conn} (h : Keeps o s) : Keeps o (s.updConnOf addr f) := by
  unfold State.updConnOf
  split <;> exact h

theorem Keeps.heardU {addr : ℕ} {l : Bool} {ch : ℕ} {heard deferred : Bool} (h : Keeps o s) :
    Keeps o (s.heardU addr l ch heard deferred) :=
  .ite h.updConnOf.heardCtx h.updConnOf

theorem Keeps.offCell {addr : ℕ} {l : Bool} {ch : ℕ} (h : Keeps o s) : Keeps o (s.offCell addr l ch) := by
  unfold State.offCell
  dsimp only
  split
  · exact .ite (.ite h.count h) (.count (.ite h.count h))
  · exact .ite h.count h

theorem Keeps.holdPayload {h' : Hdr} {payload : Bytes} {ch : ℕ} {rssi : ℤ} (h : Keeps o s) :
    Keeps o (s.holdPayload h' payload ch rssi) :=
  h

theorem Keeps.dataPayload {src : ℕ} {payload : Bytes} {ch : ℕ} {l : Bool} {rssi : ℤ} (h : Keeps o s) :
    Keeps o (s.dataPayload src payload ch l rssi) :=
  .ite h.uplink (.ite h h.count)

theorem Keeps.reattach {h' : Hdr} {p : Bytes} {ch : ℕ} {l : Bool} (h : Keeps o s) : Keeps o (s.reattach h' p ch l) := by
  unfold State.reattach
  split
  · exact .ite h.joinArrives h
  · exact h

theorem Keeps.payloadIn {h' : Hdr} {payload : Bytes} {ch : ℕ} {l : Bool} {rssi : ℤ} (h : Keeps o s) :
    Keeps o (s.payloadIn h' payload ch l rssi) :=
  .ite (.ite h.holdPayload h) (.ite h.dataPayload (.ite h.reattach (.ite h.circReceive h)))

theorem Keeps.decide1 {who : ℕ} (h : Keeps o s) : Keeps o (s.decide1 who) := h

theorem Keeps.dupFrame {f : RxFrame} {h' : Hdr} (h : Keeps o s) : Keeps o (s.dupFrame f h') :=
  .ite h.offCell.takePlace.noteRec.heardU h.offCell.oweDefer.heardU

theorem Keeps.newFrame {f : RxFrame} {h' : Hdr} {payload : Bytes} {mirrorFail : Bool} (h : Keeps o s) :
    Keeps o (s.newFrame f h' payload mirrorFail) :=
  .ite h.offCell.takePlace.noteRec.count.recordCtr.heardU.payloadIn h.offCell.oweDefer.heardU

theorem Keeps.securedFrame {f : RxFrame} {h' : Hdr} {mirrorFail : Bool} (h : Keeps o s) :
    Keeps o (s.securedFrame f h' mirrorFail) := by
  unfold State.securedFrame
  split
  · exact .ite h.count (.ite h h.decide1.dupFrame)
  · exact .ite h.count (.ite h h.decide1.newFrame)
  · exact h.secFail

theorem Keeps.joinFrame {f : RxFrame} {h' : Hdr} {mirrorFail : Bool} (h : Keeps o s) :
    Keeps o (s.joinFrame f h' mirrorFail) := by
  unfold State.joinFrame
  refine .ite h (.ite h.count ?_)
  split
  · exact .ite h.count (.ite h.decide1.offCell.takePlace h.decide1.offCell.oweDefer)
  · exact .ite h.count (.ite h.decide1.offCell.takePlace.count.recordJoin.joinArrives h.decide1.offCell.oweDefer)
  · exact h.joinFail

theorem Keeps.shadowFrame {f : RxFrame} {h' : Hdr} (h : Keeps o s) : Keeps o (s.shadowFrame f h') := by
  unfold State.shadowFrame
  split
  · exact .ite (.mark h) h
  · exact h
  · exact h.secFail

theorem Keeps.heardReceipt {p : Bytes} (h : Keeps o s) : Keeps o (s.heardReceipt p) := h

theorem Keeps.heardCtr {epoch ctr : ℕ} (h : Keeps o s) : Keeps o (s.heardCtr epoch ctr) := by
  unfold State.heardCtr
  split
  · exact h
  · exact .ite h (.setFld (.setFld h))

theorem Keeps.heardBeacon {f : RxFrame} {p : Bytes} (h : Keeps o s) : Keeps o (s.heardBeacon f p) :=
  .ite h (.ite (.showNext h) (.setFld (.setFld (.parts (.showNext h)))))

theorem Keeps.heardCommand {dst : ℕ} {p : Bytes} (h : Keeps o s) : Keeps o (s.heardCommand dst p) := by
  unfold State.heardCommand
  split
  · exact h
  · exact .ite (.ite h.setConn h) (.ite h.freeConn h)

theorem Keeps.heardLead {f : RxFrame} {h' : Hdr} (h : Keeps o s) : Keeps o (s.heardLead f h') := by
  unfold State.heardLead
  dsimp only
  split
  · exact h
  · exact .ite h.heardCtr.heardBeacon (.ite (.ite (.ite (.parts h.heardCtr) h.heardCtr) (.mark (.ite (.parts
      h.heardCtr) h.heardCtr))) (.ite h.heardCtr.heardCommand h.heardCtr))

theorem Keeps.frameIn {f : RxFrame} {mirrorFail : Bool} (h : Keeps o s) : Keeps o (s.frameIn f mirrorFail) :=
  .ite h.count (.ite h.count (.ite (.ite h.heardReceipt h) (.ite h.count (.ite h.heardLead (.ite h.count (.ite (.ite
    h.shadowFrame h) (.ite h.securedFrame h.joinFrame)))))))

theorem Keeps.takeFrame {f : RxFrame} (h : Keeps o s) : Keeps o (s.takeFrame f) := h

theorem Keeps.frameDecision {mirrorFail : Bool} (h : Keeps o s) : Keeps o (s.frameDecision mirrorFail) := by
  unfold State.frameDecision
  split
  · exact .ite h.takeFrame.frameIn h
  · exact h

theorem Keeps.dawnHeard {addr ctr : ℕ} {l : Bool} {ch : ℕ} {defer : Bool} (h : Keeps o s) :
    Keeps o (s.dawnHeard addr ctr l ch defer) := by
  unfold State.dawnHeard
  split
  · exact h
  · exact .ite h.heardU (.heardU h)

theorem Keeps.dawnReceipt {f : RxFrame} {h' : Hdr} (h : Keeps o s) : Keeps o (s.dawnReceipt f h') :=
  .ite h.takePlace h.oweDefer

theorem Keeps.dawnIn {f : RxFrame} (h : Keeps o s) : Keeps o (s.dawnIn f) := by
  unfold State.dawnIn
  dsimp only
  refine .ite h.count (.ite h.count (.ite h (.ite h.count (.ite h.heardLead (.ite h.count (.ite h.count ?_))))))
  split
  · exact .ite h.count (.ite h.decide1.dawnHeard h.decide1.dawnReceipt.dawnHeard)
  · exact .ite h.count (.ite h.decide1.dawnHeard h.decide1.dawnReceipt.dawnHeard)
  · exact h.secFail.count
  · exact h.secFail

theorem Keeps.dawnFrame (h : Keeps o s) : Keeps o s.dawnFrame := by
  unfold State.dawnFrame
  split
  · exact .ite h.takeFrame.dawnIn h
  · exact h

/-! ### MeshTx -/

theorem Keeps.add {o s : State} {p : Plan} {l : Bool} {ch : ℕ} {c : Carrier} (h : Keeps o s) :
    Keeps o (p.add s l ch c).st := h

theorem Keeps.noteStall (h : Keeps o s) : Keeps o s.noteStall :=
  .ite h (.ite (.twinEvent (.count (.count h))) (.count h))

theorem Keeps.sealBroadcast {u : State} {type : ℕ} {payload f : Bytes} (h : Keeps o s) (hu : s.sealBroadcast type
    payload = some (f, u)) :
    Keeps o u := by
  unfold State.sealBroadcast at hu
  dsimp only at hu
  split at hu
  · cases hu
  · split at hu
    · cases hu
    · split at hu
      · cases hu
        exact h.takeCtr
      · cases hu

theorem Keeps.beaconOn {p : Plan} {l : Bool} {ch : ℕ} (h : Keeps o p.st) : Keeps o (p.beaconOn l ch).st := by
  unfold Plan.beaconOn
  refine .iteIn h ?_
  split
  · exact .add (h.sealBroadcast ‹_›)
  · exact h.noteStall

theorem Keeps.beacons {p : Plan} (h : Keeps o p.st) : Keeps o (p.beacons).st := h.foldlPlan (fun hu => hu.beaconOn)

theorem Keeps.deferOne {p : Plan} {r : Rcpt} (h : Keeps o p.st) : Keeps o (p.deferOne r).st :=
  .iteIn (.parts h) (.iteIn h.add h.count)

theorem Keeps.defers {p : Plan} (h : Keeps o p.st) : Keeps o (p.defers).st :=
  .foldlPlan (.parts h) (fun hu => hu.deferOne)

theorem Keeps.framePlain {u : State} {d : DlFrame} {ep : ℕ} {k f : Bytes} (h : Keeps o s) (hu : s.framePlain d ep =
    some (k, f, u)) :
    Keeps o u := by
  unfold State.framePlain at hu
  dsimp only at hu
  split at hu
  · split at hu
    · cases hu
      exact h.takeCtr
    · cases hu
  · split at hu
    all_goals
      obtain ⟨_, _, hu⟩ := Option.map_eq_some_iff.mp hu
      cases hu
      exact h

theorem Keeps.sealDl {u : State} {d d' : DlFrame} {pend : Bool} (h : Keeps o s) (hu : s.sealDl d pend = some (d', u)) :
    Keeps o u := by
  unfold State.sealDl at hu
  dsimp only at hu
  split at hu
  · cases hu
  · split at hu
    · split at hu
      · rename_i hplain
        cases hu
        exact (h.framePlain hplain).takeCtr
      · cases hu
    · cases hu

/-! ### Lh -/

theorem Keeps.fits {p : Plan} {l : Bool} {ch : ℕ} {c : Carrier} (h : Keeps o p.st) : Keeps o (p.fits l ch c).2.st := by
  unfold Plan.fits
  split
  · exact h
  · split
    · exact h
    · exact h.each fun hu => hu.count

/-! ### MeshTx -/

theorem Keeps.place {p : Plan} {d : DlFrame} {l : Bool} {ch : ℕ} {conn : Option (ℕ × Conn)} (h : Keeps o p.st) :
    Keeps o (p.place d l ch conn).st := by
  unfold Plan.place
  dsimp only
  split
  · exact h.noteStall
  · rename_i hseal
    refine .iteIn h.fits (.add (.parts ?_))
    split at hseal
    · exact h.sealDl hseal
    · cases hseal
      exact h

theorem Keeps.placeOwn {p : Plan} {d : DlFrame} (h : Keeps o p.st) : Keeps o (p.placeOwn d).st := by
  unfold Plan.placeOwn
  refine .iteIn h ?_
  split
  · exact .iteIn h h.place
  · split
    · exact h.place
    · exact h

theorem Keeps.commands {p : Plan} (h : Keeps o p.st) : Keeps o (p.commands).st :=
  ((h.foldlPlan (fun hu => hu.placeOwn)).foldlPlan (fun hu => hu.placeOwn)).foldlPlan (fun hu => hu.placeOwn)

theorem Keeps.emptyFrame {kind : DlKind} {c : Conn} (h : Keeps o s) : Keeps o (s.emptyFrame kind c).2 := h

theorem Keeps.keepOne {p : Plan} {k : ℕ} (h : Keeps o p.st) : Keeps o (p.keepOne k).st := by
  unfold Plan.keepOne
  split
  · exact h
  · rename_i c _
    have hnotice := h.emptyFrame (kind := .notice) (c := c)
    have hkeep := h.emptyFrame (kind := .keepAlive) (c := c)
    split
    · exact h
    · exact .iteIn (.iteIn (.place hnotice) (.parts (.place hnotice))) (.iteIn (.place hkeep) h)

theorem Keeps.keepAlives {p : Plan} (h : Keeps o p.st) : Keeps o (p.keepAlives).st := h.foldlPlan (fun hu => hu.keepOne)

theorem Keeps.repeats {p : Plan} (h : Keeps o p.st) : Keeps o (p.repeats).st := h.foldlPlan (fun hu => hu.placeOwn)

theorem Keeps.circOne {p : Plan} {c : Circ} (h : Keeps o p.st) : Keeps o (p.circOne c).st := by
  unfold Plan.circOne
  dsimp only
  split
  · exact h.noteStall
  · rename_i hseal
    refine .foldlPlan (.parts ?_) fun hu => .iteIn (.add hu.fits) hu.fits
    split at hseal
    · exact h.sealBroadcast hseal
    · cases hseal
      exact h

theorem Keeps.circulars {p : Plan} (h : Keeps o p.st) : Keeps o (p.circulars).st :=
  .iteIn h (h.foldlPlan (fun hu => hu.circOne))

theorem Keeps.newFrames {p : Plan} {e : ℕ} {l : Bool} {fuel : ℕ} (h : Keeps o p.st) :
    Keeps o (Plan.newFrames e l fuel p).st := by
  induction fuel generalizing p with
  | zero => exact h
  | succ fuel ih =>
    rw [Plan.newFrames]
    dsimp only
    split
    · exact h
    · rename_i hsched
      split
      · exact h
      · split
        · rename_i htake
          exact .iteIn h.noteStall (ih (.place (.parts ((h.schedule hsched).takeHead htake))))
        · exact h

theorem Keeps.countWithheld {p : Plan} (h : Keeps o p.st) : Keeps o (p.countWithheld).st := h.each (fun hu => hu.count)

theorem Keeps.dropSpent (h : Keeps o s) : Keeps o s.dropSpent := by
  unfold State.dropSpent
  refine .updatePool (.count (.each h (fun hu => ?_)))
  split
  · exact hu.freeConn
  · exact hu

theorem Keeps.issue {p : Plan} (h : Keeps o p.st) : Keeps o (p.issue) := by
  unfold Plan.issue
  dsimp only
  split
  · split <;> exact .parts h
  · refine .txRequest ?_
    split <;> exact .parts h

theorem Keeps.deepNotices (h : Keeps o s) : Keeps o s.deepNotices := h.each (fun hu => (.ite (.enqueue hu) hu))

theorem Keeps.dawnKeep {p : Plan} (h : Keeps o p.st) : Keeps o (p.dawnKeep).st := by
  unfold Plan.dawnKeep
  dsimp only
  refine h.foldlPlan fun hu => ?_
  split
  · exact hu
  · split
    · exact .noteStall hu.emptyFrame
    · rename_i hseal
      exact .iteIn (.add (hu.emptyFrame.sealDl hseal)) hu.fits

theorem Keeps.planD (h : Keeps o s) : Keeps o (s.planD).st := by
  unfold State.planD
  dsimp only
  split
  · exact .countWithheld (.newFrames (.newFrames (.circulars (.repeats (.keepAlives (.commands (.iteIn (.beacons h)
      (.defers (.beacons h)))))))))
  · exact .iteIn (.iteIn (.beacons h) (.defers (.beacons h))) (.dawnKeep (.iteIn (.beacons h) (.defers (.beacons h))))
  · exact .iteIn (.beacons h) (.defers (.beacons h))

theorem Keeps.dSlotTx (h : Keeps o s) : Keeps o s.dSlotTx :=
  .ite h (.ite h.latchRegs.deepNotices.planD.issue h.latchRegs.planD.issue)

theorem Keeps.pendMarks (h : Keeps o s) : Keeps o s.pendMarks := h.each (fun hu => (.ite hu.updConnOf hu))

theorem Keeps.receiptBurst (h : Keeps o s) : Keeps o s.receiptBurst := by
  unfold State.receiptBurst
  dsimp only
  refine .ite h ?_
  split
  · split <;> exact .parts h.pendMarks
  · refine .txRequest ?_
    split <;> exact .parts h.pendMarks

theorem Keeps.rcptHeard {addr : ℕ} (h : Keeps o s) : Keeps o (s.rcptHeard addr) := h.updConnOf.heardCtx

theorem Keeps.confirmed {d : DlFrame} (h : Keeps o s) : Keeps o (s.confirmed d) := by
  unfold State.confirmed
  split
  · exact .freeConn (.rcptHeard (.count h))
  · exact .updatePool (.rcptHeard (.count h))

theorem Keeps.nodeReceipt {f : RxFrame} (h : Keeps o s) : Keeps o (s.nodeReceipt f) := by
  unfold State.nodeReceipt
  refine .ite h (.ite h.count (.ite h ?_))
  split
  · exact h
  · exact .ite h.confirmed (.ite (.rcptHeard h) h)

theorem Keeps.nodeReceipts (h : Keeps o s) : Keeps o s.nodeReceipts := by
  unfold State.nodeReceipts
  split
  · exact h
  · exact .ite h (.nodeReceipt h)

theorem Keeps.reservePlaces (h : Keeps o s) : Keeps o s.reservePlaces := h

theorem Keeps.meshSlot (h : Keeps o s) : Keeps o s.meshSlot := by
  unfold State.meshSlot
  refine .ite (.airRefill (.srxSlotLatch (.latchRegs (.ite (.latchRegs (.setFld (.meshService (.sfActivate ?_))))
    (.latchRegs (.setFld (.meshService (.sfActivate ?_)))))))) (.reservePlaces (.airRefill (.srxSlotLatch (.latchRegs
    (.ite (.latchRegs (.setFld (.meshService (.sfActivate ?_)))) (.latchRegs (.setFld (.meshService (.sfActivate
    ?_)))))))))
  · split
    · exact .twinEvent (.parts (.ite (.dropSpent h) h))
    · exact .parts (.ite (.dropSpent h) h)
  · split
    · exact .twinEvent (.parts (.ite (.dropSpent h) h))
    · exact .parts (.ite (.dropSpent h) h)
  · split
    · exact .twinEvent (.parts (.ite (.dropSpent h) h))
    · exact .parts (.ite (.dropSpent h) h)
  · split
    · exact .twinEvent (.parts (.ite (.dropSpent h) h))
    · exact .parts (.ite (.dropSpent h) h)

/-! ### Pct -/

theorem Keeps.pctWrite {table : ℕ} {b : Bytes} (h : Keeps o s) : Keeps o (s.pctWrite table b).st := by
  unfold State.pctWrite
  refine .iteIn h (.iteIn (.iteIn (.seqNext h) h) (.iteIn h ?_))
  split
  · exact h
  · exact .seqNext h

theorem Keeps.pctRead {table : ℕ} {b : Bytes} (h : Keeps o s) : Keeps o (s.pctRead table b).st := by
  unfold State.pctRead
  dsimp only
  split <;> exact h

theorem Keeps.pctJob {operands : List ℕ} (h : Keeps o s) : Keeps o (s.pctJob operands).st := .defer h

theorem Keeps.pctDump {c : Cmd} (h : Keeps o s) : Keeps o (s.pctDump c).st := .iteIn h h.pctJob

theorem Keeps.finalWriteFails {d : Dfr} (h : Keeps o s) : Keeps o (s.finalWriteFails d) := .ringStops h

theorem Keeps.pctDumpDone (h : Keeps o s) : Keeps o s.pctDumpDone := by
  unfold State.pctDumpDone
  dsimp only
  split
  · exact h
  · split
    · exact .ite (.finish h) (.ite (.finalWriteFails h) (.finish (.partsIo h fun hc => hc.writes)))
    · exact .finish h

theorem Keeps.pctAudit {c : Cmd} (h : Keeps o s) : Keeps o (s.pctAudit c).st := .iteIn h h

theorem Keeps.pctFlush {c : Cmd} (h : Keeps o s) : Keeps o (s.pctFlush c).st := .iteIn h h.pctJob

theorem Keeps.macRemove {keys : List ℕ} {cause : Option ℕ} (h : Keeps o s) : Keeps o (s.macRemove keys cause) :=
  h.each (fun hu => (.changed hu))

theorem Keeps.pctFlushDone (h : Keeps o s) : Keeps o s.pctFlushDone := by
  unfold State.pctFlushDone
  dsimp only
  split
  · exact h
  · split
    · exact .finish (.macRemove h)
    · exact .finish h

theorem Keeps.macForget {dest : ℕ} (h : Keeps o s) : Keeps o (s.macForget dest) := h.macRemove

theorem Keeps.learnAsk {key dest : ℕ} (h : Keeps o s) : Keeps o (s.learnAsk key dest) := .ite h h.count

theorem Keeps.learn1 {q : Learn} (h : Keeps o s) : Keeps o (s.learn1 q) := by
  unfold State.learn1
  refine .ite h ?_
  split
  · exact .ite h (.ite h (.ite h.count (.count (.changed h))))
  · refine .ite h.count ?_
    split
    · exact .count (.changed h)
    · exact .count h

theorem Keeps.learnUpdate (h : Keeps o s) : Keeps o s.learnUpdate := by
  unfold State.learnUpdate
  split
  · exact h
  · exact .ite (.learn1 (.latchRegs h)) h

theorem Keeps.learnFailRecord (h : Keeps o s) : Keeps o s.learnFailRecord := .ite h (.parts h.tableEvent)

theorem Keeps.visitMac {key : ℕ} {hitNow : Bool} (h : Keeps o s) : Keeps o (s.visitMac key hitNow) := by
  unfold State.visitMac
  split
  · exact h
  · exact .ite h (.ite h (.ite h (.ite h (.ite (.count h) h.macRemove.count))))

theorem Keeps.visitNode {n : ℕ} {hitNow : Bool} (h : Keeps o s) : Keeps o (s.visitNode n hitNow) := by
  unfold State.visitNode
  split
  · exact h
  · exact .ite h (.ite h (.ite h (.ite (.count h) h.removeCtx.count)))

theorem Keeps.roundVisit {node hitNow : Bool} (h : Keeps o s) : Keeps o (s.roundVisit node hitNow) := by
  unfold State.roundVisit
  refine .ite h (.ite h.latchRegs (.ite (.parts (.ite (.visitNode (.ite h.latchRegs.setFld h.latchRegs)) ?_)) (.parts
    (.ite (.visitNode (.ite h.latchRegs.setFld h.latchRegs)) ?_))))
  · split
    · exact .visitMac (.ite h.latchRegs.setFld h.latchRegs)
    · exact .ite h.latchRegs.setFld h.latchRegs
  · split
    · exact .visitMac (.ite h.latchRegs.setFld h.latchRegs)
    · exact .ite h.latchRegs.setFld h.latchRegs

theorem Keeps.eccRemove {table key : ℕ} (h : Keeps o s) : Keeps o (s.eccRemove table key) := by
  unfold State.eccRemove
  dsimp only
  split
  · split
    · exact h.delRoute.removeCtx
    · exact h
  · exact h.delRoute
  · split
    · split
      · exact h.delRoute.removeCtx
      · exact h
    · exact h
  · exact .seqNext h

theorem Keeps.tableEcc {table key : ℕ} {corrected : Bool} (h : Keeps o s) :
    Keeps o (s.tableEcc table key corrected) := by
  unfold State.tableEcc
  refine .ite h (.ite h.count ?_)
  split
  · exact h
  · exact .faultEv (.ite h.eccRemove.count.tableEvent (.parts h.eccRemove.count.tableEvent))

theorem Keeps.digestRescan (h : Keeps o s) : Keeps o s.digestRescan := h

/-! ### Sorter -/

theorem Keeps.vlanSet {b : Bytes} (h : Keeps o s) : Keeps o (s.vlanSet b).st := .iteIn h h

theorem Keeps.toEth {k : ℕ} {p : Packet} {one : Bool} (h : Keeps o s) : Keeps o (s.toEth k p one) := by
  unfold State.toEth
  extract_lets n long s₁
  have h₁ : Keeps o s₁ := h.enqueue.count
  clear_value s₁
  refine .ite (.ite h h.count) (.ite ?_ (.ite h h.enqueueLim))
  split
  · exact .parts (h₁.takeHead ‹_›)
  · exact h₁

theorem Keeps.toClient {k : ℕ} {p : Packet} (h : Keeps o s) : Keeps o (s.toClient k p) := by
  unfold State.toClient
  split
  · exact .ite h h.enqueueLim
  · exact h

theorem Keeps.toHost {r reason : ℕ} {p : Packet} (h : Keeps o s) : Keeps o (s.toHost r reason p) :=
  .ite h.count (.ite h h.enqueueLim)

theorem Keeps.toException {p : Packet} (h : Keeps o s) : Keeps o (s.toException p) := h.latchRegs.toHost.count

theorem Keeps.flood {vid : ℕ} {v : Vlan} {p : Packet} (h : Keeps o s) : Keeps o (s.flood vid v p) := by
  unfold State.flood
  dsimp only
  split
  · refine .ite ((h.each (fun hu => ?_)).each (fun hu => hu.toClient)) (((h.each (fun hu => ?_)).each (fun hu =>
      hu.toClient)).toHost)
    · split
      · exact .ite hu hu.toEth
      · exact hu
    · split
      · exact .ite hu hu.toEth
      · exact hu
  · refine (h.each (fun hu => ?_)).each (fun hu => hu.toClient)
    split
    · exact .ite hu hu.toEth
    · exact hu

theorem Keeps.toNode {addr : ℕ} {ip : Bytes} {p : Packet} (h : Keeps o s) : Keeps o (s.toNode addr ip p) := by
  unfold State.toNode
  split
  · exact .ite h.ctxLatch.count (.ite (.limitDrop (.parts h.ctxLatch)) (.enqueue (.parts h.ctxLatch)))
  · exact h.count

theorem Keeps.toMesh {ip : Bytes} {p : Packet} (h : Keeps o s) : Keeps o (s.toMesh ip p) := by
  unfold State.toMesh
  refine .ite (.ite h h.originate) ?_
  split
  · exact h.toNode
  · exact h.count

theorem Keeps.ipLookup {v4 : Bool} {a : ℕ} (h : Keeps o s) : Keeps o (s.ipLookup v4 a).2 := by
  unfold State.ipLookup
  dsimp only
  split <;> exact h

theorem Keeps.route {v6 : Bool} {ip : Bytes} {p : Packet} (h : Keeps o s) : Keeps o (s.route v6 ip p) := by
  unfold State.route
  dsimp only
  split
  · rename_i hx
    exact Keeps.snd hx h.ipLookup
  · rename_i hy
    split
    · exact (Keeps.snd hy h.ipLookup).toEth
    · exact (Keeps.snd hy h.ipLookup).toClient
    · exact (Keeps.snd hy h.ipLookup).toException
    · exact .ite ((Keeps.snd hy h.ipLookup).toMesh) ((Keeps.snd hy h.ipLookup).count)
    · split
      · exact (Keeps.snd hy h.ipLookup).flood
      · exact (Keeps.snd hy h.ipLookup).count
    · exact Keeps.snd hy h.ipLookup

theorem Keeps.routeFrame {p : Packet} (h : Keeps o s) : Keeps o (s.routeFrame p) :=
  .ite h.toException (.ite (.ite h.toException h.route) h)

theorem Keeps.learnFrame {p : Packet} {key : ℕ} (h : Keeps o s) : Keeps o (s.learnFrame p key) := by
  unfold State.learnFrame
  dsimp only
  split
  · exact .ite h.latchRegs.learnAsk h.latchRegs
  · exact h.latchRegs

theorem Keeps.bridge {vid : ℕ} {v : Vlan} {p : Packet} (h : Keeps o s) : Keeps o (s.bridge vid v p) := by
  unfold State.bridge
  refine .ite h.flood ?_
  split
  · exact h.count.flood
  · split
    · exact h.toEth
    · exact h.toClient
    · exact h.toHost
    · exact h.flood
    · exact h

theorem Keeps.sortFrame {p : Packet} (h : Keeps o s) : Keeps o (s.sortFrame p) := by
  unfold State.sortFrame
  dsimp only
  split
  · exact .ite h h.count
  · exact .ite h.learnFrame (.ite h.learnFrame.routeFrame h.learnFrame.bridge)

theorem Keeps.sortMesh {origin : ℕ} {p : Packet} (h : Keeps o s) : Keeps o (s.sortMesh origin p) := by
  have hin := h.lowpanIn (origin := origin) (src := origin) (dst := 0) (b := p.data)
  unfold State.sortMesh
  dsimp only
  split
  · rename_i hp
    rw [hp] at hin
    exact .ite hin.count (.ite (.toException hin.draw) hin.route)
  · rename_i hp
    rw [hp] at hin
    exact hin

theorem Keeps.sortDirect {dest : ℕ} {p : Packet} (h : Keeps o s) : Keeps o (s.sortDirect dest p) := by
  unfold State.sortDirect
  dsimp only
  split
  · split <;> exact h.toEth
  · exact h.toClient
  · exact .ite h.toMesh (.ite h.count h)
  · split
    · exact h.flood
    · exact h.count

theorem Keeps.sortBad {p : Packet} (h : Keeps o s) : Keeps o (s.sortBad p) := .ite (.ite h h.sortFrame) h

theorem Keeps.sorterPacket {n : ℕ} (h : Keeps o s) : Keeps o (s.sorterPacket n) := by
  unfold State.sorterPacket
  split
  · exact h
  · refine .updatePool (.txOver (.ite (.latchRegs h) ?_))
    split
    · exact .sortDirect (.countMod (.latchRegs h))
    · exact .sortMesh (.countMod (.latchRegs h))
    · exact .ite (.sortBad (.countMod (.latchRegs h))) (.sortFrame (.countMod (.latchRegs h)))

theorem Keeps.fillRx {r : ℕ} {p : Packet} (h : Keeps o s) : Keeps o (s.fillRx r p) := by
  unfold State.fillRx
  split
  · exact .ite h.setQueue.joinRound h.setQueue
  · exact .ite h.count (.flushRx (.complete (.put h)))

theorem Keeps.deliverRx {r : ℕ} {p : Packet} (h : Keeps o s) : Keeps o (s.deliverRx r p) := by
  unfold State.deliverRx
  split
  · rename_i hx
    refine (((Keeps.snd hx h.fltTest).fillRx).fltPassed).each (fun hu => ?_)
    split
    · exact hu.fillRx
    · exact hu
  · rename_i hy
    exact Keeps.snd hy h.fltTest
  · rename_i hz
    refine (((Keeps.snd hz h.fltTest).fillRx).fltPassed).each (fun hu => ?_)
    split
    · exact hu.fillRx
    · exact hu
  · rename_i hw
    exact (Keeps.snd hw h.fltTest).fltHold

theorem Keeps.pktTx {c : Cmd} (h : Keeps o s) : Keeps o (s.pktTx c).st := by
  unfold State.pktTx
  dsimp only
  refine .iteIn h ?_
  split
  · exact h
  · refine .iteIn h (.iteIn h ?_)
    split
    · rename_i hx
      refine (((Keeps.snd hx h.queueTx.fltTest).toSorter).fltPassed).each (fun hu => ?_)
      split
      · exact hu.toSorter
      · exact hu
    · rename_i hy
      exact (Keeps.snd hy h.queueTx.fltTest).txOver
    · rename_i hz
      refine (((Keeps.snd hz h.queueTx.fltTest).toSorter).fltPassed).each (fun hu => ?_)
      split
      · exact hu.toSorter
      · exact hu
    · rename_i hw
      exact (Keeps.snd hw h.queueTx.fltTest).fltHold

theorem Keeps.pktTxRun {c : Cmd} (h : Keeps o s) : Keeps o (s.pktTxRun c) :=
  .ite h.latchRegs (h.latchRegs.ringRun (fun hu => hu.pktTx))

theorem Keeps.pktRxPost {c : Cmd} (h : Keeps o s) : Keeps o (s.pktRxPost c).st := .iteIn h h.queueRx

theorem Keeps.ethAccept {p : ℕ} {frame : Bytes} {fcsOk noCt : Bool} (h : Keeps o s) :
    Keeps o (s.ethAccept p frame fcsOk noCt) := by
  unfold State.ethAccept
  dsimp only
  refine .ite (.ite h.latchRegs.count (.ite h.latchRegs.count h.latchRegs.countMod)) ?_
  split
  · exact .toSorter (.ite h.latchRegs.count (.ite h.latchRegs.count h.latchRegs.countMod))
  · exact .toSorter (.ite h.latchRegs.count (.ite h.latchRegs.count h.latchRegs.countMod))
  · exact .count (.ite h.latchRegs.count (.ite h.latchRegs.count h.latchRegs.countMod))
  · exact .count (.ite h.latchRegs.count (.ite h.latchRegs.count h.latchRegs.countMod))

theorem Keeps.ethFrameRx {p : ℕ} {frame : Bytes} {fcsOk : Bool} (h : Keeps o s) :
    Keeps o (s.ethFrameRx p frame fcsOk) := by
  unfold State.ethFrameRx
  dsimp only
  refine .ite h (.ite (.ite h.count h) (.ite h.count (.ite h ?_)))
  split
  · rename_i hx
    exact (((Keeps.snd hx h.fltTest).ethAccept).fltPassed).each (fun hu => hu.ethAccept)
  · rename_i hy
    exact Keeps.snd hy h.fltTest
  · rename_i hz
    exact (((Keeps.snd hz h.fltTest).ethAccept).fltPassed).each (fun hu => hu.ethAccept)
  · rename_i hw
    exact .ite ((Keeps.snd hw h.fltTest).count) ((Keeps.snd hw h.fltTest).fltHold)

theorem Keeps.ethLinkUp {p speed : ℕ} (h : Keeps o s) : Keeps o (s.ethLinkUp p speed) := .ite h h.setFld.setFld

theorem Keeps.ethDown {p : ℕ} (h : Keeps o s) : Keeps o (s.ethDown p) := by
  unfold State.ethDown
  extract_lets s₁ qs n s₂ clear _ _ s₃ s₄
  have h₁ : Keeps o s₁ := .setFld (.setFld (.setFld h))
  clear_value s₁
  have h₂ : Keeps o s₂ := .count (.each h₁ fun hu => hu.dropQueue)
  clear_value s₂
  have h₃ : Keeps o s₃ := .parts h₂
  clear_value s₃
  have h₄ : Keeps o s₄ := .ite h₃.macForget h₃
  exact .ite h h₄.updatePool

theorem Keeps.pauseRx {p : ℕ} {pfc : Bool} {classes : ℕ} {quanta : List ℕ} (h : Keeps o s) :
    Keeps o (s.pauseRx p pfc classes quanta) :=
  .ite h (.ite h.latchRegs.count (h.latchRegs.count.each (fun hu => (.ite (.parts hu.setFld) (.parts hu.setFld)))))

theorem Keeps.pauseExpiry {p c : ℕ} (h : Keeps o s) : Keeps o (s.pauseExpiry p c) := by
  unfold State.pauseExpiry
  split
  · exact h
  · exact .ite h (.parts h.setFld)

theorem Keeps.ethSend {k : ℕ} {p : Packet} (h : Keeps o s) : Keeps o (s.ethSend k p) :=
  .ite h.put.countMod.count h.put.countMod

theorem Keeps.dequeueEth {k : ℕ} (h : Keeps o s) : Keeps o (s.dequeueEth k) := by
  unfold State.dequeueEth
  dsimp only
  split
  · exact .updatePool (.ethSend h)
  · refine .ite h ?_
    split
    · exact h
    · rename_i hx
      split
      · rename_i hy
        exact ((h.schedule hx).takeHead hy).ethSend
      · exact h.schedule hx

theorem Keeps.dequeueHost (h : Keeps o s) : Keeps o s.dequeueHost := by
  unfold State.dequeueHost
  refine .ite h ?_
  split
  · exact h
  · rename_i hx
    split
    · rename_i hy
      exact ((h.schedule hx).takeHead hy).deliverRx
    · exact h.schedule hx

theorem Keeps.egressDequeue {e : ℕ} (h : Keeps o s) : Keeps o (s.egressDequeue e) :=
  .ite h.dequeueEth (.ite h.dequeueHost h)

theorem Keeps.spillLoop {off a : ℕ} (h : Keeps o s) : Keeps o (s.spillLoop off a) := by
  induction a generalizing s off with
  | zero =>
    exact h
  | succ n ih =>
    rw [State.spillLoop]
    refine .ite h ?_
    split
    · exact h
    · split
      · exact h
      · exact .ite h.setFld (ih h.setQueue)

theorem Keeps.spillLow (h : Keeps o s) : Keeps o s.spillLow := .ite h.setFld h

theorem Keeps.spillMove (h : Keeps o s) : Keeps o s.spillMove :=
  .ite h.latchRegs.setFld (.ite h.latchRegs.setFld h.latchRegs.spillLoop.updatePool.setFld)

theorem Keeps.fetchLoop {n bad a a' : ℕ} (h : Keeps o s) : Keeps o (s.fetchLoop n bad a a') := by
  induction a generalizing s n bad a' with
  | zero =>
    exact h
  | succ n0 ih =>
    rw [State.fetchLoop]
    dsimp only
    split
    · exact h
    · split
      · exact h
      · exact .ite (ih (.faultEv (.count (.ite h.setQueue.leaveRound h.setQueue)))) (.ite h (ih h.setQueue))

theorem Keeps.spillFetch {n bad : ℕ} (h : Keeps o s) : Keeps o (s.spillFetch n bad) :=
  .ite h h.fetchLoop.spillLow.updatePool

/-! ### Lh -/

theorem Keeps.setRadio {h' : Bool} {r : Radio} (h : Keeps o s) : Keeps o (s.setRadio h' r) := h

theorem Keeps.wlnLatch {h' : Bool} (h : Keeps o s) : Keeps o (s.wlnLatch h') := .ite h h.latchFld

theorem Keeps.coxaGrant (h : Keeps o s) : Keeps o s.coxaGrant := h.setFld

theorem Keeps.coxaReq {level : Bool} (h : Keeps o s) : Keeps o (s.coxaReq level) := h.setFld.coxaGrant

theorem Keeps.coxaSample {gnt : Bool} (h : Keeps o s) : Keeps o (s.coxaSample gnt).2 :=
  .iteIn h.latchRegs.setFld.count h.latchRegs.setFld

theorem Keeps.coxaPins {req pri : Bool} (h : Keeps o s) : Keeps o (s.coxaPins req pri) := h

theorem Keeps.meshLate (h : Keeps o s) : Keeps o s.meshLate := by
  unfold State.meshLate
  split
  · exact h
  · exact .each h (fun hu => hu.linkUnsent)

theorem Keeps.coxaPreempt (h : Keeps o s) : Keeps o s.coxaPreempt :=
  .ite h.latchRegs (.ite h.latchRegs.setFld.count h.latchRegs.meshLate)

theorem Keeps.ivlSettle (h : Keeps o s) : Keeps o s.ivlSettle := by
  unfold State.ivlSettle
  split
  · exact h
  · exact .ite h (.coxaGrant (.coxaPins (.setFld h)))

theorem Keeps.ivlStart {gnt busy : Bool} (h : Keeps o s) : Keeps o (s.ivlStart gnt busy) := by
  unfold State.ivlStart
  refine .ite h.ivlSettle ?_
  split
  · exact h.ivlSettle
  · exact .ite (.ite (.coxaPins (.parts h.ivlSettle.latchRegs.setFld)) (.parts h.ivlSettle.latchRegs.setFld)) (.ite
      (.ite (.count (.parts h.ivlSettle.latchRegs.setFld)) (.parts h.ivlSettle.latchRegs.setFld)) (.ite (.setFld
      (.coxaPins (.coxaPreempt (.ite (.count (.parts h.ivlSettle.latchRegs.setFld)) (.parts
      h.ivlSettle.latchRegs.setFld))))) (.ite (.meshLate (.parts (.coxaSample (.coxaPins (.coxaPreempt (.ite (.count
      (.parts h.ivlSettle.latchRegs.setFld)) (.parts h.ivlSettle.latchRegs.setFld))))))) (.coxaSample (.coxaPins
      (.coxaPreempt (.ite (.count (.parts h.ivlSettle.latchRegs.setFld)) (.parts h.ivlSettle.latchRegs.setFld))))))))

theorem Keeps.lhPins {h' mesh : Bool} (h : Keeps o s) : Keeps o (s.lhPins h' mesh) := h.latchFld.setRadio.setFld

theorem Keeps.lhPinsOff {h' : Bool} (h : Keeps o s) : Keeps o (s.lhPinsOff h') := h.setRadio.setFld

theorem Keeps.calBegin {h' : Bool} {kind : ℕ} (h : Keeps o s) : Keeps o (s.calBegin h' kind) :=
  .ite h.setRadio.setFld h.setRadio.setFld

theorem Keeps.calSlot (h : Keeps o s) : Keeps o s.calSlot := .ite h.setRadio.setFld.setFld h

theorem Keeps.calRequest {h' : Bool} {kind : ℕ} (h : Keeps o s) : Keeps o (s.calRequest h' kind) :=
  .ite h (.ite h.setRadio.setFld h.calBegin)

theorem Keeps.retryBack {ms : List Mpdu} (h : Keeps o s) : Keeps o (s.retryBack ms) := h

theorem Keeps.ppduBack {h' : Bool} {p : Ppdu} (h : Keeps o s) : Keeps o (s.ppduBack h' p) :=
  .ite h.retryBack.setRadio h.retryBack

theorem Keeps.lhAbort {h' : Bool} (h : Keeps o s) : Keeps o (s.lhAbort h') := by
  unfold State.lhAbort
  split
  · exact h
  · exact h.lhPinsOff.ppduBack
  · exact h.lhPinsOff.each (fun hu => hu.linkUnsent)

theorem Keeps.lhFlush {h' : Bool} (h : Keeps o s) : Keeps o (s.lhFlush h') := h.setRadio.each (fun hu => hu.retryBack)

theorem Keeps.lhStops {h' : Bool} (h : Keeps o s) : Keeps o (s.lhStops h') :=
  .claimFell (.faultEv (.ite h.lhAbort.lhFlush.setRadio.setFld.setFld.setFld.setRadio.finishKey
    h.lhAbort.lhFlush.setRadio.setFld.setFld.setFld))

theorem Keeps.radioFault (h : Keeps o s) : Keeps o s.radioFault := h.setFld.reclaim

theorem Keeps.calGood {h' : Bool} {kind : ℕ} {temp : ℤ} (h : Keeps o s) : Keeps o (s.calGood h' kind temp) :=
  .ite (.setFld (.radioFault (.setRadio (.ite (.iteNv (.partsNv h.setFld.setFld.count.setFld) (.partsNv
    h.setFld.setFld.count.setFld)) h.setFld.setFld.count.setFld)))) (.setRadio (.ite (.iteNv (.partsNv
    h.setFld.setFld.count.setFld) (.partsNv h.setFld.setFld.count.setFld)) h.setFld.setFld.count.setFld))

theorem Keeps.calDone {h' ok : Bool} {temp : ℤ} (h : Keeps o s) : Keeps o (s.calDone h' ok temp) := by
  unfold State.calDone
  refine .ite h (.ite (.ite ?_ (.calBegin (.setFld (.setRadio ?_)))) (.ite h.setFld.setFld.lhStops
    h.setFld.setFld.setRadio.calBegin))
  · split
    · exact h.setFld.calGood.setRadio.finishKey
    · exact h.setFld.calGood
  · split
    · exact h.setFld.calGood.setRadio.finishKey
    · exact h.setFld.calGood

theorem Keeps.trackPiece {h' last : Bool} {temp : ℤ} (h : Keeps o s) : Keeps o (s.trackPiece h' last temp) :=
  .ite h h.count.setFld.setRadio

theorem Keeps.antSlot (h : Keeps o s) : Keeps o s.antSlot := by
  unfold State.antSlot
  dsimp only
  refine .ite h ?_
  split
  · exact h.latchFld.setFld
  · exact h.latchFld.setFld.useFree
  · exact h.latchFld.setFld

theorem Keeps.lhSlot (h : Keeps o s) : Keeps o s.lhSlot := h.latchFld.latchFld.latchFld.ivlSettle.calSlot.antSlot

/-! ### WifiSet -/

theorem Keeps.setClient {k : ℕ} {c : Client} (h : Keeps o s) : Keeps o (s.setClient k c) := h

theorem Keeps.setWKey {k : WKey} (h : Keeps o s) : Keeps o (s.setWKey k) := h

theorem Keeps.dropMpdus {f : Mpdu → Bool} (h : Keeps o s) : Keeps o (s.dropMpdus f) := .updatePool (.parts h.count)

theorem Keeps.bssSet {b : Bytes} (h : Keeps o s) : Keeps o (s.bssSet b).st :=
  .iteIn h (.iteIn (.iteIn h h) (.iteIn h h))

theorem Keeps.clientDel {k : ℕ} {c : Client} (h : Keeps o s) : Keeps o (s.clientDel k c) :=
  .macForget (.partsNv (h.dropMpdus.each (fun hu => hu.dropQueue)))

theorem Keeps.clientSet {b : Bytes} (h : Keeps o s) : Keeps o (s.clientSet b).st := by
  unfold State.clientSet
  extract_lets _ _ _ _ _ _ _ _ old _ _ k0 _ c0
  clear_value c0 k0 old
  refine .iteIn h (.iteIn ?_ (.iteIn h (.iteIn h (.iteIn h ?_))))
  · split
    · dsimp only
      exact h.clientDel
    · exact h
  · split
    refine .iteIn h ?_
    split
    · exact h.setClient
    · exact h

theorem Keeps.useKey {target kind id : ℕ} {on : Bool} (h : Keeps o s) : Keeps o (s.useKey target kind id on) := h

theorem Keeps.keyInstall {target kind id cipher flags pn : ℕ} {key : Bytes} (h : Keeps o s) :
    Keeps o (s.keyInstall target kind id cipher flags pn key) :=
  .ite (.useKey h) h

theorem Keeps.keyDelete {target kind id : ℕ} (h : Keeps o s) : Keeps o (s.keyDelete target kind id) := by
  unfold State.keyDelete
  refine .partsNv ?_
  split
  · exact h.dropMpdus
  · exact h

theorem Keeps.keySet {b : Bytes} (h : Keeps o s) : Keeps o (s.keySet b).st :=
  .iteIn h (.iteIn (.iteIn h h.keyInstall) (.iteIn h (.iteIn h.keyDelete h.useKey)))

theorem Keeps.mgmtOver {key status : ℕ} (h : Keeps o s) : Keeps o (s.mgmtOver key status) := by
  unfold State.mgmtOver
  split
  · exact h
  · exact .partsIo (.complete h) fun hc => hc.settle

theorem Keeps.addPpdu {h' : Bool} {p : Ppdu} (h : Keeps o s) : Keeps o (s.addPpdu h' p) := h.setRadio

theorem Keeps.mgmtTx {c : Cmd} (h : Keeps o s) : Keeps o (s.mgmtTx c).st := by
  unfold State.mgmtTx
  refine .iteIn h ?_
  split
  · exact h
  · exact .iteIn h (.addPpdu h)

theorem Keeps.switchNow {h' : Bool} (h : Keeps o s) : Keeps o (s.switchNow h') := by
  unfold State.switchNow
  split
  · exact h.setWord.setRadio.calRequest
  · exact h

theorem Keeps.chanSwitch {c : Cmd} (h : Keeps o s) : Keeps o (s.chanSwitch c).st :=
  .iteIn h (.iteIn h (.iteIn h (.defer (.ite h.setRadio.switchNow h.setRadio))))

theorem Keeps.clientGet {b : Bytes} (h : Keeps o s) : Keeps o (s.clientGet b).st := by
  unfold State.clientGet
  split <;> exact h

theorem Keeps.wifiLost (h : Keeps o s) : Keeps o s.wifiLost := .parts h.count

/-! ### Wifi -/

theorem Keeps.schedLatch (h : Keeps o s) : Keeps o s.schedLatch := h.latchRegs

theorem Keeps.onLink {h' : Bool} {k : ℕ} {f : WLink → WLink} (h : Keeps o s) : Keeps o (s.onLink h' k f) := by
  unfold State.onLink
  split
  · exact h.setClient
  · exact h

theorem Keeps.takeMpdu {u : State} {b : Bool} {k : ℕ} {tids : List ℕ} {m : Mpdu} (h : Keeps o s) (hu : s.takeMpdu b k
    tids = some (m, u)) :
    Keeps o u := by
  unfold State.takeMpdu at hu
  dsimp only at hu
  split at hu
  · cases hu
  · split at hu
    · cases hu
      exact h.setClient
    · split at hu
      · cases hu
      · split at hu
        · cases hu
        · split at hu
          · cases hu
          · rename_i htake
            cases hu
            split
            · exact (h.takeHead htake).setWKey
            · exact h.takeHead htake

theorem Keeps.takeMpdus {h' : Bool} {k : ℕ} {tids : List ℕ} {a : ℕ} (h : Keeps o s) :
    Keeps o (s.takeMpdus h' k tids a).2 := by
  induction a generalizing s h' k tids with
  | zero =>
    rw [State.takeMpdus]
    dsimp only
    exact h
  | succ n ih =>
    rw [State.takeMpdus]
    dsimp only
    split
    · exact h
    · rename_i hx
      exact ih (h.takeMpdu hx)

theorem Keeps.pnStall {c : Client} (h : Keeps o s) : Keeps o (s.pnStall c) := by
  unfold State.pnStall
  split
  · exact .ite h.setWKey.count h
  · exact h

theorem Keeps.grow {h' ul : Bool} {list : List ℕ} (h : Keeps o s) : Keeps o (s.grow h' ul list) :=
  h.each (fun hu => hu.onLink)

theorem Keeps.txopDown {x : Txop} {left : Option ℕ} (h : Keeps o s) : Keeps o (s.txopDown x left) := by
  unfold State.txopDown
  extract_lets tids s₁ listed s₂ order want fit
  have h₁ : Keeps o s₁ := h.each fun hu => .ite hu.pnStall hu
  have h₂ : Keeps o s₂ := h₁.grow
  split
  refine .ite h₂ ?_
  extract_lets s₃
  have h₃ : Keeps o s₃ := .ite h₂.count h₂
  split
  rename_i hp
  have h₄ := Keeps.snd hp (.foldlPair h₃ fun hp => .onLink hp.takeMpdus)
  exact .ite h₄ h₄.addPpdu

theorem Keeps.txopUp {x : Txop} {left : Option ℕ} (h : Keeps o s) : Keeps o (s.txopUp x left) :=
  .ite h (.ite h.grow (.ite h.grow.count (.addPpdu (.each (.ite h.grow.count h.grow) (fun hu => hu.onLink)))))

theorem Keeps.txopWon {x : Txop} (h : Keeps o s) : Keeps o (s.txopWon x) :=
  .ite h.wlnLatch (.ite h.wlnLatch.schedLatch (.ite h.wlnLatch.schedLatch.count (.ite (.iteIn h.wlnLatch.schedLatch
    h.wlnLatch.schedLatch.coxaSample) (.ite (.txopUp (.iteIn h.wlnLatch.schedLatch h.wlnLatch.schedLatch.coxaSample))
    (.txopDown (.iteIn h.wlnLatch.schedLatch h.wlnLatch.schedLatch.coxaSample))))))

theorem Keeps.bsrpTrigger {h' : Bool} {dur : ℕ} {polled : List ℕ} (h : Keeps o s) :
    Keeps o (s.bsrpTrigger h' dur polled) :=
  .ite h.wlnLatch (.ite h.wlnLatch.schedLatch.setRadio.count h.wlnLatch.schedLatch.setRadio.addPpdu)

theorem Keeps.sounding {dur : ℕ} (h : Keeps o s) : Keeps o (s.sounding dur) :=
  .ite h.wlnLatch (.ite h.wlnLatch.schedLatch.setRadio h.wlnLatch.schedLatch.setRadio.addPpdu)

theorem Keeps.meshStart (h : Keeps o s) : Keeps o s.meshStart := by
  unfold State.meshStart
  split
  · exact h
  · exact .ite h.meshLate (.ite (.count (.each h (fun hu => hu.linkUnsent))) (.each (.lhPins (.setRadio (.latchFld h)))
      (fun hu => hu.put)))

theorem Keeps.ppduStart {h' : Bool} {p : Ppdu} (h : Keeps o s) : Keeps o (s.ppduStart h' p) := by
  unfold State.ppduStart
  split
  · exact h.setRadio.lhPins.put.count
  · exact h.setRadio.lhPins.put.count
  · exact h.setRadio.lhPins.put.count
  · exact h.setRadio.lhPins.put.count
  · exact h.setRadio.lhPins.put

theorem Keeps.txStart {h' gnt : Bool} {dur : ℕ} (h : Keeps o s) : Keeps o (s.txStart h' gnt dur) := by
  unfold State.txStart
  dsimp only
  refine .ite (.ite h h.ivlSettle) (.ite (.meshStart (.ite h h.ivlSettle)) ?_)
  split
  · exact .wlnLatch (.ite h h.ivlSettle)
  · exact .ite (.wlnLatch (.ite h h.ivlSettle)) (.ite (.ite (.setRadio (.wlnLatch (.ite h h.ivlSettle))) (.ite (.count
      (.schedLatch (.wlnLatch (.ite h h.ivlSettle)))) (.retryBack (.setRadio (.count (.schedLatch (.wlnLatch (.ite h
      h.ivlSettle)))))))) (.ite (.wlnLatch (.ite h h.ivlSettle)) (.ite (.ite (.setRadio (.iteIn (.wlnLatch (.ite h
      h.ivlSettle)) (.coxaSample (.wlnLatch (.ite h h.ivlSettle))))) (.iteIn (.wlnLatch (.ite h h.ivlSettle))
      (.coxaSample (.wlnLatch (.ite h h.ivlSettle))))) (.ite (.ppduBack (.count (.setRadio (.iteIn (.wlnLatch (.ite h
      h.ivlSettle)) (.coxaSample (.wlnLatch (.ite h h.ivlSettle))))))) (.ite (.ppduStart (.setRadio (.iteIn (.wlnLatch
      (.ite h h.ivlSettle)) (.coxaSample (.wlnLatch (.ite h h.ivlSettle)))))) (.coxaPins (.ppduStart (.setRadio (.iteIn
      (.wlnLatch (.ite h h.ivlSettle)) (.coxaSample (.wlnLatch (.ite h h.ivlSettle))))))))))))

theorem Keeps.dataEnd {p : Ppdu} {acked giveUp : ℕ} (h : Keeps o s) : Keeps o (s.dataEnd p acked giveUp) := by
  unfold State.dataEnd
  refine h.retryBack.each (fun hu => ?_)
  split
  · exact hu
  · exact .ite hu (.ite hu.setClient hu.setClient)

theorem Keeps.triggerEnd {h' : Bool} {p : Ppdu} {acked : ℕ} {reports : List ℕ} (h : Keeps o s) :
    Keeps o (s.triggerEnd h' p acked reports) := by
  unfold State.triggerEnd
  dsimp only
  refine h.each (fun hu => (.ite hu.onLink ?_))
  split
  · exact hu
  · exact .ite hu (.ite hu.onLink.count hu.onLink)

theorem Keeps.csaSent {h' : Bool} (h : Keeps o s) : Keeps o (s.csaSent h') := by
  unfold State.csaSent
  dsimp only
  split
  · exact .ite h.setRadio.switchNow h.setRadio
  · exact h

theorem Keeps.ppduEnd {h' : Bool} {p : Ppdu} {acked giveUp : ℕ} {reports : List ℕ} (h : Keeps o s) :
    Keeps o (s.ppduEnd h' p acked giveUp reports) := by
  unfold State.ppduEnd
  split
  · exact h.dataEnd
  · exact h.dataEnd
  · exact h.dataEnd
  · exact h.triggerEnd
  · exact h.triggerEnd
  · exact h.csaSent
  · refine h.each (fun hu => ?_)
    split
    · exact hu.setClient
    · exact hu
  · split
    · exact h
    · exact .ite h.mgmtOver (.ite h.mgmtOver h.ppduBack)
  · exact h
  · exact h
  · exact h

theorem Keeps.coxaOver {h' : Bool} (h : Keeps o s) : Keeps o (s.coxaOver h') :=
  .ite h (.ite h.coxaGrant h.coxaPins.coxaGrant)

theorem Keeps.txEndLh {h' : Bool} {acked giveUp : ℕ} {reports : List ℕ} (h : Keeps o s) :
    Keeps o (s.txEndLh h' acked giveUp reports) := by
  unfold State.txEndLh
  split
  · exact h
  · refine .ite h.lhAbort.count.coxaOver (.updatePool (.coxaOver (.wlnLatch ?_)))
    split
    · exact h.lhPinsOff.each (fun hu => hu.linkSent)
    · exact h.lhPinsOff.ppduEnd

theorem Keeps.txCutLh {h' : Bool} (h : Keeps o s) : Keeps o (s.txCutLh h') := .ite h h.lhAbort.count.coxaOver

theorem Keeps.tbtt {h' : Bool} (h : Keeps o s) : Keeps o (s.tbtt h') := by
  unfold State.tbtt
  dsimp only
  split
  · exact h.wlnLatch
  · exact .ite h.wlnLatch (.ite (.parts h.wlnLatch) (.setRadio (.parts h.wlnLatch)))

theorem Keeps.probe {h' : Bool} {src : ℕ} {ssid : Bytes} (h : Keeps o s) : Keeps o (s.probe h' src ssid) :=
  .ite h.wlnLatch h.wlnLatch.addPpdu

theorem Keeps.toMgmt {p : Packet} (h : Keeps o s) : Keeps o (s.toMgmt p) :=
  .ite h.latchRegs.count (.ite h.latchRegs.count h.latchRegs.enqueueLim)

theorem Keeps.heardOn {h' : Bool} {k : ℕ} {rssi : ℤ} {buf : Option ℕ} (h : Keeps o s) :
    Keeps o (s.heardOn h' k rssi buf) :=
  h.onLink

theorem Keeps.wifiCheck {mld keyId pn rec_ : ℕ} {micOk : Bool} (h : Keeps o s) :
    Keeps o (s.wifiCheck mld keyId pn rec_ micOk).2 := by
  unfold State.wifiCheck
  split
  · exact h.count
  · split
    · exact h.count
    · split
      · exact .iteIn h.count h
      · exact h

theorem Keeps.leadPn {f : WRx} (h : Keeps o s) : Keeps o (s.leadPn f) := by
  unfold State.leadPn
  dsimp only
  split
  · split
    · exact h.setWKey
    · exact h
  · split
    · exact h.setWKey
    · exact h
  · exact h

theorem Keeps.wifiAdmit {f : WRx} {n : ℕ} {key : Option WKey} (h : Keeps o s) : Keeps o (s.wifiAdmit f n key) := by
  unfold State.wifiAdmit
  refine .ite h.latchRegs.count (.ite ?_ (.toSorter ?_))
  · split
    · exact h.latchRegs.setWKey
    · exact h.latchRegs
  · split
    · exact h.latchRegs.setWKey
    · exact h.latchRegs

theorem Keeps.agcMarks {h' clip step : Bool} (h : Keeps o s) : Keeps o (s.agcMarks h' clip step) :=
  .ite h.count h.count.setFld

theorem Keeps.wifiDataRx {f : WRx} {respNs : ℕ} (h : Keeps o s) : Keeps o (s.wifiDataRx f respNs) := by
  unfold State.wifiDataRx
  extract_lets s₁ s₂ s₃ own
  have h₁ : Keeps o s₁ := h.wlnLatch
  have h₃ : Keeps o s₃ := .ite h₁.agcMarks.leadPn h₁.agcMarks
  refine .ite h₁ ?_
  split
  · exact .ite h₃ h₃.count
  · extract_lets s₄ s₅ _ s₆
    have h₅ : Keeps o s₅ := by
      unfold s₅
      split
      · exact h₃.heardOn.setClient
      · exact h₃.heardOn
    have h₆ : Keeps o s₆ := .ite h₅ h₅.setRadio
    refine .ite (.ite h₆ (.ite h₆.toMgmt h₆.count)) ?_
    split
    · split
      · exact (Keeps.snd ‹_› h₆.wifiCheck).wifiAdmit
      · exact Keeps.snd ‹_› h₆.wifiCheck
    · exact .ite h₆.count h₆.wifiAdmit

theorem Keeps.mgmtAct {m : WMgmt} {client : Option (ℕ × Client)} (h : Keeps o s) : Keeps o (s.mgmtAct m client) := by
  unfold State.mgmtAct
  split
  · exact .ite h h.toMgmt
  · exact .ite h h.addPpdu
  · exact .ite h h.addPpdu
  · exact .ite h h.addPpdu
  · exact h.setClient
  · exact h

theorem Keeps.wifiMgmtRx {m : WMgmt} (h : Keeps o s) : Keeps o (s.wifiMgmtRx m) := by
  unfold State.wifiMgmtRx
  dsimp only
  refine .ite h.wlnLatch ?_
  split
  · exact h.wlnLatch.agcMarks.mgmtAct
  · split
    · exact h.wlnLatch.agcMarks.heardOn
    · split
      · exact .ite h.wlnLatch.agcMarks.heardOn.count h.wlnLatch.agcMarks.heardOn.mgmtAct
      · split
        · rename_i hx
          exact ((Keeps.snd hx h.wlnLatch.agcMarks.heardOn.wifiCheck).setWKey).mgmtAct
        · rename_i hy
          exact Keeps.snd hy h.wlnLatch.agcMarks.heardOn.wifiCheck

theorem Keeps.twtSetup {q : TwtReq} (h : Keeps o s) : Keeps o (s.twtSetup q) := by
  unfold State.twtSetup
  refine .ite h.wlnLatch ?_
  split
  · exact h.wlnLatch
  · split
    · exact h.wlnLatch
    · refine .addPpdu ?_
      split
      · exact h.wlnLatch.setClient
      · exact h.wlnLatch

theorem Keeps.twtStart {k i : ℕ} (h : Keeps o s) : Keeps o (s.twtStart k i) := by
  unfold State.twtStart
  split
  · exact h
  · split
    · exact h
    · exact .ite h (.ite h.setClient.onLink h.setClient.onLink.addPpdu)

theorem Keeps.unreachable {k : ℕ} (h : Keeps o s) : Keeps o (s.unreachable k) := by
  unfold State.unreachable
  split
  · exact h
  · exact .ite h h.setClient.event

theorem Keeps.pnExtend {i : ℕ} {ok : Bool} (h : Keeps o s) : Keeps o (s.pnExtend i ok) := by
  unfold State.pnExtend
  split
  · exact h
  · exact .ite h (.ite h.mramFault (.partsNv h.setWKey))

/-! ### Twin -/

theorem Keeps.twinFault (h : Keeps o s) : Keeps o s.twinFault := .ite h.setFld.setFld.twinEvent h.setFld.setFld

theorem Keeps.claimIn {v : ℕ} (h : Keeps o s) : Keeps o (s.claimIn v) :=
  .ite h (.twinFault (.ite (.duskService (.ite (.closeGate (.ite (.twinEvent (.setFld h)) (.setFld h))) (.ite
    (.twinEvent (.setFld h)) (.setFld h)))) (.ite (.closeGate (.ite (.twinEvent (.setFld h)) (.setFld h))) (.ite
    (.twinEvent (.setFld h)) (.setFld h)))))

theorem Keeps.gateOpens (h : Keeps o s) : Keeps o s.gateOpens :=
  .ite h (.ite (.roleChange h) (.ite (.roleChange (.useFree h)) (.roleChange h)))

theorem Keeps.twinDown (h : Keeps o s) : Keeps o s.twinDown :=
  .ite h (.ite (.twinEvent (.count (.ite (.setFld h) h))) (.ite (.setFld h) h))

theorem Keeps.twinTrain (h : Keeps o s) : Keeps o s.twinTrain := by
  unfold State.twinTrain
  dsimp only
  exact .ite h (.parts h.draw)

theorem Keeps.twinTimeout (h : Keeps o s) : Keeps o s.twinTimeout := .ite h.twinFault (.ite h.twinDown.twinFault h)

theorem Keeps.twinRetrain (h : Keeps o s) : Keeps o s.twinRetrain := .ite h h.twinTrain

theorem Keeps.twinValid {m : TMsg} (h : Keeps o s) : Keeps o (s.twinValid m).2 := .iteIn h h.count

theorem Keeps.onHello {mode : ℕ} {absent heard : Bool} (h : Keeps o s) : Keeps o (s.onHello mode absent heard) :=
  .ite (.twinFault (.sendLease (.twinEvent h))) (.twinFault h)

theorem Keeps.onTime {slot boundary : ℕ} (h : Keeps o s) : Keeps o (s.onTime slot boundary) :=
  .ite h (.setFld (.setFld h))

theorem Keeps.shadowRecord {e : ShadowFrame} (h : Keeps o s) : Keeps o (s.shadowRecord e) :=
  h.recordCtr.updConnOf.heardCtx

theorem Keeps.onSlotRec {slot : ℕ} {link inner : List TRec} (h : Keeps o s) :
    Keeps o (s.onSlotRec slot link inner) := by
  unfold State.onSlotRec
  refine .ite h (.each (.each (.parts h.count) (fun hu => hu.shadowRecord)) (fun hu => ?_))
  split
  · exact .ite hu.recordCtr.heardCtx hu
  · exact hu

theorem Keeps.onLease {epoch leaseEnd : ℕ} {ok : Bool} (h : Keeps o s) : Keeps o (s.onLease epoch leaseEnd ok) := by
  unfold State.onLease
  split
  · exact h
  · exact .ite h (.ite h.mramFault (.twinSend h))

theorem Keeps.onLeaseAck {epoch leaseEnd : ℕ} (h : Keeps o s) : Keeps o (s.onLeaseAck epoch leaseEnd) :=
  .ite h (.ite (.parts h.setFld.setFld) h.setFld.setFld)

theorem Keeps.twinBody {m : TMsg} {ok : Bool} (h : Keeps o s) : Keeps o (s.twinBody m ok) := by
  unfold State.twinBody
  split
  · exact h.onHello
  · exact .ite h.onTime h
  · exact .ite h.onSlotRec h
  · exact .ite h.onLease h
  · exact .ite h.onLeaseAck h
  · exact .ite h h
  · exact .ite h h

theorem Keeps.twinAccept {m : TMsg} {ok : Bool} (h : Keeps o s) : Keeps o (s.twinAccept m ok) := by
  unfold State.twinAccept
  split
  · rename_i hx
    exact (Keeps.snd hx h.twinValid).twinBody
  · rename_i hy
    exact Keeps.snd hy h.twinValid

theorem Keeps.twinRx {m : TMsg} {ok : Bool} (h : Keeps o s) : Keeps o (s.twinRx m ok) := by
  unfold State.twinRx
  refine .ite h ?_
  split
  · rename_i hx
    refine (((Keeps.snd hx h.fltTest).twinAccept).fltPassed).each (fun hu => ?_)
    split
    · exact hu.twinAccept
    · exact hu
  · rename_i hy
    exact Keeps.snd hy h.fltTest
  · rename_i hz
    refine (((Keeps.snd hz h.fltTest).twinAccept).fltPassed).each (fun hu => ?_)
    split
    · exact hu.twinAccept
    · exact hu
  · rename_i hw
    exact (Keeps.snd hw h.fltTest).fltHold

theorem Keeps.helloTx (h : Keeps o s) : Keeps o s.helloTx := h.twinSend

theorem Keeps.statusTx (h : Keeps o s) : Keeps o s.statusTx := h.twinSend

theorem Keeps.leaseResend (h : Keeps o s) : Keeps o s.leaseResend := .ite h h.sendLease

theorem Keeps.twinSlotEnd (h : Keeps o s) : Keeps o s.twinSlotEnd :=
  .parts (.each (.ite h.sendSlotRec.count h.sendSlotRec) (fun hu => hu.shadowRecord))

theorem Keeps.twinSlotStart (h : Keeps o s) : Keeps o s.twinSlotStart := .ite h.twinSend h

theorem Keeps.holdoffEnd (h : Keeps o s) : Keeps o s.holdoffEnd := by
  unfold State.holdoffEnd
  split
  · exact h
  · exact .ite h h

theorem Keeps.preferredRaise (h : Keeps o s) : Keeps o s.preferredRaise :=
  .ite h (.ite (.reclaim (.helloTx (.parts h.twinSend))) (.ite (.ite h (.reclaim (.parts h.twinSend))) (.ite (.reclaim
    (.parts h.twinSend)) h)))

theorem Keeps.windowClose (h : Keeps o s) : Keeps o s.windowClose := by
  unfold State.windowClose
  split
  · exact .ite h h
  · exact h

theorem Keeps.standDown (h : Keeps o s) : Keeps o s.standDown := .ite h (.twinFault (.twinEvent (.reclaim h)))

theorem Keeps.holdTimeout (h : Keeps o s) : Keeps o s.holdTimeout := by
  unfold State.holdTimeout
  split
  · exact h
  · exact .ite h (.reclaim (.each h (fun hu => hu.finish)))

theorem Keeps.roleRequest {c : Cmd} (h : Keeps o s) : Keeps o (s.roleRequest c).st :=
  .iteIn h (.iteIn h (.iteIn (.iteIn (.defer h) (.ok h)) (.iteIn (.ok h) (.ok h))))

theorem Keeps.roleSettle (h : Keeps o s) : Keeps o s.roleSettle := .twinFault (.ite h.reclaim.holdDone h.reclaim)

theorem Keeps.twnStatus {c : Cmd} (h : Keeps o s) : Keeps o (s.twnStatus c).st := .iteIn h h

/-! ### Window -/

theorem Keeps.fltRelease {h' : FltHeld} (h : Keeps o s) : Keeps o (s.fltRelease h') := by
  unfold State.fltRelease
  split
  · exact h.ethAccept
  · exact h.ethAccept
  · split
    · exact .ite h h.twinAccept
    · exact h
  · split
    · exact h.toSorter
    · exact h
  · split
    · exact h.fillRx
    · exact h
  · exact h

theorem Keeps.windowOpen {secs paths : ℕ} {addrs : List ℕ} (h : Keeps o s) : Keeps o (s.windowOpen secs paths addrs) :=
  .log (.parts h.setFld.setFld)

theorem Keeps.windowShut (h : Keeps o s) : Keeps o s.windowShut :=
  .ite h (.each (.log (.parts h.setFld.setFld)) (fun hu => hu.fltRelease))

theorem Keeps.fltSet {c : Cmd} (h : Keeps o s) : Keeps o (s.fltSet c).st :=
  .iteIn h (.iteIn h (.iteIn (.ok h) (.iteIn (.iteIn (.ok h.windowShut) (.ok h)) (.iteIn h (.ok (.setFld h))))))

theorem Keeps.windowExpiry (h : Keeps o s) : Keeps o s.windowExpiry := .ite h.windowShut h

theorem Keeps.reorderExpiry (h : Keeps o s) : Keeps o s.reorderExpiry := .each h (fun hu => hu.fltRelease)

/-! ### Vault -/

theorem Keeps.putKvRec {slot : ℕ} {mk : ℕ → KvRec} (h : Keeps o s) : Keeps o (s.putKvRec slot mk) := h

theorem Keeps.storeKey {slot : ℕ} {key : Bytes} {policy size auth ctr : ℕ} (h : Keeps o s) :
    Keeps o (s.storeKey slot key policy size auth ctr) := by
  unfold State.storeKey
  dsimp only
  exact h.draw.putKvRec

theorem Keeps.loadWork {slot : ℕ} {key : Bytes} {policy size auth ctr : ℕ} (h : Keeps o s) :
    Keeps o (s.loadWork slot key policy size auth ctr) := by
  unfold State.loadWork
  dsimp only
  exact .parts h.draw

theorem Keeps.rewrap {slot : ℕ} (h : Keeps o s) : Keeps o (s.rewrap slot) := by
  unfold State.rewrap
  split
  · exact h.storeKey
  · exact h

theorem Keeps.loadSlot {slot : ℕ} (h : Keeps o s) : Keeps o (s.loadSlot slot) := by
  unfold State.loadSlot
  dsimp only
  split
  · split
    · exact h.loadWork
    · exact h
  · exact .ite h (.when (.event (.draw (.setFld h))) (fun hu => hu.faultEv))

theorem Keeps.vaultLoad (h : Keeps o s) : Keeps o s.vaultLoad :=
  .parts (.each (.vaultFault (.each h (fun hu => hu.loadSlot))) (fun hu => hu.rewrap))

theorem Keeps.rewrapAll (h : Keeps o s) : Keeps o s.rewrapAll := .ite h (.count (.parts (h.each (fun hu => hu.rewrap))))

theorem Keeps.eraseSlot {signer ctr slot : ℕ} (h : Keeps o s) : Keeps o (s.eraseSlot signer ctr slot) := .cacheDrop h

theorem Keeps.fuse {otpOk : Bool} {f : State → State} (h : Keeps o s) (hf : ∀ {u}, Keeps o u → Keeps o (f u)) :
    Keeps o (s.fuse otpOk f) :=
  .ite (hf h) h.setFld.faultEv

theorem Keeps.letterOver {l : Letter} {status : ℕ} (h : Keeps o s) : Keeps o (s.letterOver l status) := h.finishKey

theorem Keeps.letterSubmit {op : ℕ} {c : Cmd} (h : Keeps o s) : Keeps o (s.letterSubmit op c).st := by
  unfold State.letterSubmit
  refine .iteIn h (.iteIn h ?_)
  split
  · exact h
  · exact .defer h

theorem Keeps.kvInfo {c : Cmd} (h : Keeps o s) : Keeps o (s.kvInfo c).st := .iteIn h (.ok h.useFree)

theorem Keeps.kvUnitPub {c : Cmd} (h : Keeps o s) : Keeps o (s.kvUnitPub c).st := .iteIn h h

theorem Keeps.kvCmac {c : Cmd} (h : Keeps o s) : Keeps o (s.kvCmac c).st := by
  unfold State.kvCmac
  refine .iteIn h ?_
  split
  · exact h
  · split <;> exact h

/-! ### Update -/

theorem Keeps.setFlash {b : Bool} {t : Tbl Bytes} (h : Keeps o s) : Keeps o (s.setFlash b t) := .iteNv h h

theorem Keeps.updEvent {subtype : ℕ} {b : Bool} (h : Keeps o s) : Keeps o (s.updEvent subtype b) := h.event

theorem Keeps.putFloor {n : ℕ} (h : Keeps o s) : Keeps o (s.putFloor n) := h

theorem Keeps.setFails {b : Bool} (h : Keeps o s) : Keeps o (s.setFails b) := .ite h h.updDir.count.updEvent

theorem Keeps.bootFrom {b : Bool} (h : Keeps o s) : Keeps o (s.bootFrom b) := .ite h h.updDir

theorem Keeps.chooseSet {a : List Bool} (h : Keeps o s) : Keeps o (s.chooseSet a).2 := by
  induction a generalizing s with
  | nil =>
    rw [State.chooseSet]
    dsimp only
    exact h
  | cons x as ih =>
    rw [State.chooseSet]
    exact .iteIn (ih h) (.iteIn h.bootFrom (ih h.setFails))

theorem Keeps.markEmpty {b : Bool} (h : Keeps o s) : Keeps o (s.markEmpty b) := h.updEnt

theorem Keeps.dropCopy {b : Bool} (h : Keeps o s) : Keeps o (s.dropCopy b) := h

theorem Keeps.updStage {c : Cmd} (h : Keeps o s) : Keeps o (s.updStage c).st := by
  unfold State.updStage
  dsimp only
  refine .iteIn h (.iteIn h (.iteIn h ?_))
  split
  · exact h
  · split
    · exact .err h.markEmpty
    · exact .defer h

theorem Keeps.stageDone {ok : Bool} (h : Keeps o s) : Keeps o (s.stageDone ok) := by
  unfold State.stageDone
  split
  · exact .ite (.finishOp (.dropCopy (.markEmpty (.ite (.setFlash h) h)))) (.finishOp (.ite (.updEnt (.setFlash
      (.dropCopy (.markEmpty (.ite (.setFlash h) h))))) (.setFlash (.dropCopy (.markEmpty (.ite (.setFlash h) h))))))
  · exact h

theorem Keeps.updVerify {c : Cmd} (h : Keeps o s) : Keeps o (s.updVerify c).st := .iteIn h (.iteIn h (.defer h))

theorem Keeps.installed {b : Bool} (h : Keeps o s) : Keeps o (s.installed b) := .putDir (.ite h.putFloor h)

theorem Keeps.verifyDone (h : Keeps o s) : Keeps o s.verifyDone := by
  unfold State.verifyDone
  dsimp only
  split
  · split
    · exact .finishOp (.ite (.markEmpty h) h)
    · exact .finishOp (.ite (.parts (.ite (.installed h) (.updEnt h))) (.ite (.installed h) (.updEnt h)))
  · exact h

theorem Keeps.commitSet {b : Bool} (h : Keeps o s) : Keeps o (s.commitSet b) :=
  .updEvent (.dropCopy (.parts (.ite h.updEnt.putFloor.updEvent h.updEnt)))

theorem Keeps.trialTimer (h : Keeps o s) : Keeps o s.trialTimer := by
  unfold State.trialTimer
  split
  · exact .ite h.commitSet h
  · exact h

theorem Keeps.updStatus {c : Cmd} (h : Keeps o s) : Keeps o (s.updStatus c).st := .iteIn h (.ok h.useFree)

theorem Keeps.download {file : Bytes} {ok : Bool} (h : Keeps o s) : Keeps o (s.download file ok).2 :=
  .iteIn h.setFlash.markEmpty h.setFlash.markEmpty.setFlash.installed

theorem Keeps.xmodem {file : Bytes} {ok : Bool} (h : Keeps o s) : Keeps o (s.xmodem file ok) := .ite h h.download.put

theorem Keeps.tftp {name : Bytes} {octet : Bool} {file : Bytes} {ok : Bool} (h : Keeps o s) :
    Keeps o (s.tftp name octet file ok) :=
  .ite h (.ite h.put h.download.put)

/-! ### Start -/

theorem Keeps.supply {bit : ℕ} {on : Bool} (h : Keeps o s) : Keeps o (s.supply bit on) :=
  .ite (.faultEv (.setFld h)) (.setFld h)

theorem Keeps.pllsLock (h : Keeps o s) : Keeps o s.pllsLock := .ite h (h.each (fun hu => hu.setFld))

theorem Keeps.enterRescue {cause : ℕ} (h : Keeps o s) : Keeps o (s.enterRescue cause) :=
  .reclaim (.setFld (.setFld (.setFld (.setFld (.setFld (.pllsLock h))))))

theorem Keeps.resetFault (h : Keeps o s) : Keeps o s.resetFault := .ite h (.ite h h)

theorem Keeps.keepOutside {off : ℕ} {old : Word} (h : Keeps o s) : Keeps o (s.keepOutside off old) := h.setWord

theorem Keeps.resetDown {soft : Bool} (h : Keeps o s) : Keeps o (s.resetDown soft) :=
  .parts (.ite (.setFld (.keepOutside (.keepOutside (.hardReset (.ite h.windowShut h.windowShut.resetFault)))))
    (.keepOutside (.keepOutside (.hardReset (.ite h.windowShut h.windowShut.resetFault)))))

theorem Keeps.startUp {x : Straps} {cause : Fld} (h : Keeps o s) : Keeps o (s.startUp x cause) :=
  .ite (.enterRescue (.ite (.twinEvent (.each (.parts h.sampleStraps.setFld) (fun hu => hu.faultEv))) (.each (.parts
    h.sampleStraps.setFld) (fun hu => hu.faultEv)))) (.ite (.twinEvent (.each (.parts h.sampleStraps.setFld) (fun hu =>
    hu.faultEv))) (.each (.parts h.sampleStraps.setFld) (fun hu => hu.faultEv)))

theorem Keeps.restart {x : Straps} {cause : Fld} (h : Keeps o s) : Keeps o (s.restart x cause) := h.resetDown.startUp

theorem Keeps.slotFrom {b : Snap} (h : Keeps o s) : Keeps o (s.slotFrom b) := h

theorem Keeps.restoreSnap (h : Keeps o s) : Keeps o s.restoreSnap := by
  unfold State.restoreSnap
  split
  · exact .setFld (.connCnt h)
  · exact .setFld (.connCnt (.parts (.ite h.slotFrom h.slotFrom.setPattern)))

theorem Keeps.srxCalGood {full : Bool} {temp : ℤ} (h : Keeps o s) : Keeps o (s.srxCalGood full temp) :=
  .ite (.radioFault (.setFld (.setFld (.setFld (.count (.setFld (.setFld (.setFld (.iteNv h h))))))))) (.setFld
    (.setFld (.count (.setFld (.setFld (.setFld (.iteNv h h)))))))

theorem Keeps.startLoad (h : Keeps o s) : Keeps o s.startLoad := h

theorem Keeps.useTry {b : Bool} (h : Keeps o s) : Keeps o (s.useTry b) := h.updEnt

theorem Keeps.resumeCirc (h : Keeps o s) : Keeps o s.resumeCirc := by
  unfold State.resumeCirc
  split
  · exact h.setFld
  · exact h

theorem Keeps.dawnImage {flashOk : Bool} (h : Keeps o s) : Keeps o (s.dawnImage flashOk) := by
  unfold State.dawnImage
  refine .ite h (.ite h.enterRescue ?_)
  split
  · exact (Keeps.snd ‹_› h.chooseSet).enterRescue
  · rename_i hset
    extract_lets _ _ s₁ s₂ s₃
    have h₁ : Keeps o s₁ := .parts (Keeps.snd hset h.chooseSet)
    clear_value s₁
    have h₃ : Keeps o s₃ := .srxCalGood (.pllsLock (.setFld (.setFld h₁)))
    exact h₃.vaultLoad.restoreLease.resumeCirc.restoreSnap.reclaim

theorem Keeps.stamp {f : Fld} (h : Keeps o s) : Keeps o (s.stamp f) := .ite h.setFld h.setFld.useFree

theorem Keeps.dawnOnAir (h : Keeps o s) : Keeps o s.dawnOnAir := by
  unfold State.dawnOnAir
  refine .ite h (.drainEvents (.opStart (.reclaim (.startLoad ?_))))
  split
  · exact .useTry (.ite h.latchRegs.setFld.setFld.stamp h.latchRegs.setFld.setFld.modeIs)
  · exact .ite h.latchRegs.setFld.setFld.stamp h.latchRegs.setFld.setFld.modeIs

theorem Keeps.trained {vddq ok : Bool} (h : Keeps o s) : Keeps o (s.trained vddq ok) :=
  .ite h (.ite (.parts (.supply (.parts h.setFld.supply))) (.parts (.supply (.parts h.setFld.supply))))

theorem Keeps.trainAgain {vddq : Bool} (h : Keeps o s) : Keeps o (s.trainAgain vddq) :=
  .ite h (.ite (.parts h.setFld.supply) h.setFld.supply)

theorem Keeps.loadFails {status : ℕ} {x : Straps} (h : Keeps o s) : Keeps o (s.loadFails status x) := by
  unfold State.loadFails
  refine .ite (.startLoad (.parts (.useTry ?_))) (.restart ?_)
  · split
    · exact .finishOp (.parts (.ite h.setFails h))
    · exact .ite h.setFails h
  · split
    · exact .finishOp (.parts (.ite h.setFails h))
    · exact .ite h.setFails h

theorem Keeps.setInDram {x : Straps} (h : Keeps o s) : Keeps o (s.setInDram x) := by
  unfold State.setInDram
  dsimp only
  refine .ite h ?_
  split
  · exact h.loadFails
  · exact .ite (.ite h (.calBegin h)) (.calBegin (.ite h (.calBegin h)))

theorem Keeps.rebuildCtx {n : ℕ} {m : Mirror} (h : Keeps o s) : Keeps o (s.rebuildCtx n m) := by
  unfold State.rebuildCtx
  split
  · exact h.count
  · exact .ite (.setRoute h) h

theorem Keeps.rebuild {lost : List ℕ} (h : Keeps o s) : Keeps o (s.rebuild lost) := by
  unfold State.rebuild
  dsimp only
  exact .each (.nodeCnt (.each (.each (.parts h.draw) (fun hu => (.ite hu.count hu.rebuildCtx))) (fun hu =>
    hu.setFld))) (fun hu => hu.tableEvent)

theorem Keeps.enginesIn {ok : Bool} {lost : List ℕ} {x : Straps} (h : Keeps o s) : Keeps o (s.enginesIn ok lost x) :=
  .ite h (.ite h.loadFails (.parts h.rebuild))

theorem Keeps.lhDown {pause : Bool} (h : Keeps o s) : Keeps o (s.lhDown pause) :=
  .ite (.setFld (.setFld (.parts h.lhAbort.lhAbort.lhFlush.lhFlush.meshLate.wifiLost))) (.each (.setFld (.setFld
    (.parts h.lhAbort.lhAbort.lhFlush.lhFlush.meshLate.wifiLost))) (fun hu => hu.setFld.setFld.setFld))

theorem Keeps.packetsLost {pause : Bool} (h : Keeps o s) : Keeps o (s.packetsLost pause) :=
  .updatePool (.parts (.setFld (.setFld (.ite h.count.dropAll h.count.dropAll.ethDown.ethDown))))

theorem Keeps.dataLost {pause graceful : Bool} (h : Keeps o s) : Keeps o (s.dataLost pause graceful) :=
  .parts (.packetsLost (.lhDown (.ite h.opToZero h.opToZero.txWithdraw)))

theorem Keeps.toDawn (h : Keeps o s) : Keeps o s.toDawn := .parts h.flushPbox.modeIs

theorem Keeps.holdDawn (h : Keeps o s) : Keeps o s.holdDawn := .setFld h

theorem Keeps.fatalFull (h : Keeps o s) : Keeps o s.fatalFull :=
  .claimFell (.opStart (.ite h.discard.dataLost.toDawn.holdDawn (.parts h.discard.dataLost.toDawn.startLoad)))

theorem Keeps.fatalLoad (h : Keeps o s) : Keeps o s.fatalLoad := .ite h.discard.holdDawn (.parts h.discard.startLoad)

theorem Keeps.activationFails {status : ℕ} (h : Keeps o s) : Keeps o (s.activationFails status) := by
  unfold State.activationFails
  split
  · exact h
  · exact .parts h.updDir.count
  · exact h

theorem Keeps.rescueJobFails (h : Keeps o s) : Keeps o s.rescueJobFails := by
  unfold State.rescueJobFails
  split
  · exact .finishOp (.markEmpty h)
  · exact .finishOp (.markEmpty h)
  · exact h

theorem Keeps.fatal {source detail : ℕ} (h : Keeps o s) : Keeps o (s.fatal source detail) := by
  unfold State.fatal
  dsimp only
  split
  · exact h.faultEv.fatalFull
  · exact h.faultEv.fatalFull
  · exact .ite h.faultEv.activationFails (.ite h.faultEv.fatalLoad h.faultEv)
  · exact h.faultEv.rescueJobFails
  · exact h.faultEv

theorem Keeps.lhServe (h : Keeps o s) : Keeps o s.lhServe := h.each (fun hu => (.ite hu hu.setFld))

theorem Keeps.lapseTimedOut (h : Keeps o s) : Keeps o s.lapseTimedOut := h.each (fun hu => (.ite hu.lapseConn.count hu))

theorem Keeps.fullStarts (h : Keeps o s) : Keeps o s.fullStarts := .opStart (.ite h (.calPend h))

theorem Keeps.setRuns {b : Bool} (h : Keeps o s) : Keeps o (s.setRuns b) := .ite (.updEnt h) (.ite h h)

theorem Keeps.fullFromDawn (h : Keeps o s) : Keeps o s.fullFromDawn := by
  unfold State.fullFromDawn
  extract_lets after s₁ _ s₂ s₃ s₄ s₅ 
  have h₁ : Keeps o s₁ := h.modeIs
  clear_value s₁
  have h₂ : Keeps o s₂ := .parts h₁
  clear_value s₂
  have h₃ : Keeps o s₃ := h₂.setRuns.setFld
  clear_value s₃
  have h₄ : Keeps o s₄ := .ite h₃.stamp h₃
  clear_value s₄
  have h₅ : Keeps o s₅ := h₄.lhServe.lapseTimedOut.fullStarts.reclaim.finishMode.finishMode
  clear_value s₅
  split
  · exact .finishOp (.parts h₅)
  · exact h₅

/-! ### Dusk -/

theorem Keeps.enterHib {source : ℕ} (h : Keeps o s) : Keeps o (s.enterHib source) :=
  .parts (.log (.parts (.setFld (.hardReset (.parts h.windowShut.backupLog)))))

theorem Keeps.updRun {f : DskRun → DskRun} (h : Keeps o s) : Keeps o (s.updRun f) := by
  unfold State.updRun
  split <;> exact h

theorem Keeps.dskEvent {subtype group : ℕ} (h : Keeps o s) : Keeps o (s.dskEvent subtype group) := h.event

theorem Keeps.dskFail {g : ℕ} {h' : DskHit} (h : Keeps o s) : Keeps o (s.dskFail g h') := by
  unfold State.dskFail
  split
  · exact h
  · exact .ite (.dskEvent (.faultEv (.setFld (.setFld h)))) h

theorem Keeps.derate (h : Keeps o s) : Keeps o s.derate := .ite h.updRun.setFld h

theorem Keeps.groupStart (h : Keeps o s) : Keeps o s.groupStart := by
  unfold State.groupStart
  split
  · exact h.setFld
  · exact .derate (.opStart (.setFld (.ite h h)))

theorem Keeps.groupEnd {fails : List DskHit} {peakMw : ℕ} (h : Keeps o s) : Keeps o (s.groupEnd fails peakMw) := by
  unfold State.groupEnd
  split
  · exact h
  · exact .ite h (.groupStart (.parts (((h.each (fun hu => hu.dskFail)).updRun).dskEvent)))

theorem Keeps.duskLost (h : Keeps o s) : Keeps o s.duskLost := h

theorem Keeps.newRun (h : Keeps o s) : Keeps o s.newRun := h

theorem Keeps.duskEntry (h : Keeps o s) : Keeps o s.duskEntry :=
  .ite h (.groupStart (.dskEvent (.parts (.setFld (.setFld (.setFld (.newRun (.reclaim (.modeIs (.setFld (.parts
    h.writeSnap.windowShut.dataLost.duskLost.latchRegs.setFld.setFld.setFld.setFld)))))))))))

theorem Keeps.duskCut (h : Keeps o s) : Keeps o s.duskCut := .ite h.updRun h

theorem Keeps.dskResult {c : Cmd} (h : Keeps o s) : Keeps o (s.dskResult c).st := by
  unfold State.dskResult
  refine .iteIn h ?_
  split <;> exact h

/-! ### Modes -/

theorem Keeps.announceAbsence (h : Keeps o s) : Keeps o s.announceAbsence := .helloTx h

theorem Keeps.armWake {secs : ℕ} (h : Keeps o s) : Keeps o (s.armWake secs) := .ite h h.setFld.setFld.setFld

theorem Keeps.moveTo {tr : Trans} (h : Keeps o s) : Keeps o (s.moveTo tr) := h

theorem Keeps.beginMove {target thenFull memOnly wake : ℕ} (h : Keeps o s) :
    Keeps o (s.beginMove target thenFull memOnly wake) := by
  unfold State.beginMove
  split
  · exact .ite h.armWake.announceAbsence.duskService h.armWake.announceAbsence.moveTo
  · exact h.moveTo
  · exact h.moveTo
  · split
    · exact h.duskService
    · exact h.moveTo
    · exact .parts h.startLoad
  · exact .ite (.moveTo h) (.moveTo (.announceAbsence h))

theorem Keeps.modeRequest {c : Cmd} (h : Keeps o s) : Keeps o (s.modeRequest c).st :=
  .iteIn h (.iteIn h (.iteIn h (.iteIn h (.iteIn h (.iteIn h (.iteIn h (.defer h.beginMove)))))))

theorem Keeps.deauthAll {h' : Bool} (h : Keeps o s) : Keeps o (s.deauthAll h') := by
  unfold State.deauthAll
  refine .ite h (h.each (fun hu => ?_))
  split
  · exact hu.put
  · exact hu

theorem Keeps.dropRetries (h : Keeps o s) : Keeps o s.dropRetries := .parts h.count

theorem Keeps.radiosOff (h : Keeps o s) : Keeps o s.radiosOff :=
  .each (.setFld (.setFld h)) (fun hu => hu.setFld.setFld.setFld)

theorem Keeps.dozeDrops (h : Keeps o s) : Keeps o s.dozeDrops :=
  .updatePool (.ethDown (.ethDown (.parts h.count.dropAll)))

theorem Keeps.dozeEntry (h : Keeps o s) : Keeps o s.dozeEntry :=
  .ite h (.each (.finishMode (.reclaim (.opStart (.setFld (.parts
    h.windowShut.lhAbort.lhAbort.lhFlush.lhFlush.deauthAll.deauthAll.meshLate.dropRetries.dozeDrops.radiosOff.modeIs))))) (fun hu => hu.dozeWake))

theorem Keeps.dozeHold (h : Keeps o s) : Keeps o s.dozeHold := .ite h.dozeWake h

theorem Keeps.slotWake (h : Keeps o s) : Keeps o s.slotWake :=
  .ite h (.ite (.remask (.setFld (.setFld h))) (.setFld (.setFld h)))

theorem Keeps.replay {e : Held} (h : Keeps o s) : Keeps o (s.replay e) := .ite h.dataPayload h.circReceive

theorem Keeps.copiesBack (h : Keeps o s) : Keeps o s.copiesBack := by
  unfold State.copiesBack
  refine h.each (fun hu => (.ite hu ?_))
  split
  · exact hu.setCtx
  · exact hu

theorem Keeps.copyFails {lost : List ℕ} (h : Keeps o s) : Keeps o (s.copyFails lost) := by
  unfold State.copyFails
  exact .rebuild (.parts h.discard.wifiLost.flushPbox)

theorem Keeps.radiosOn (h : Keeps o s) : Keeps o s.radiosOn := h.each (fun hu => (.ite hu hu.setRadio.calBegin))

theorem Keeps.fullFromDoze {copyOk : Bool} {lost : List ℕ} (h : Keeps o s) : Keeps o (s.fullFromDoze copyOk lost) :=
  .drainEvents (.finishMode (.updatePool (.each (.reclaim (.radiosOn (.copiesBack (.setFld (.parts (.fullStarts
    (.modeIs (.ite h h.copyFails)))))))) (fun hu => hu.replay))))

theorem Keeps.fullReached {copyOk : Bool} {lost : List ℕ} (h : Keeps o s) : Keeps o (s.fullReached copyOk lost) :=
  .ite h (.ite (.ite h.fullFromDawn.drainEvents h) (.ite h.fullFromDoze h))

theorem Keeps.hibernateEntry (h : Keeps o s) : Keeps o s.hibernateEntry := .ite h h.writeSnap.finishMode.enterHib

theorem Keeps.dawnEntry (h : Keeps o s) : Keeps o s.dawnEntry :=
  .ite h (.finishMode (.reclaim (.opStart (.setFld (.parts h.discard.dataLost.toDawn)))))

/-! ### Activate -/

theorem Keeps.makeTrial {b : Bool} (h : Keeps o s) : Keeps o (s.makeTrial b) := h.updDir.updEvent

theorem Keeps.activating {b : Bool} {p : ActPhase} (h : Keeps o s) : Keeps o (s.activating b p) := h

theorem Keeps.activateDawn {b : Bool} (h : Keeps o s) : Keeps o (s.activateDawn b) :=
  .startLoad (.parts h.makeTrial.useTry.activating.setFld)

theorem Keeps.updActivate {c : Cmd} (h : Keeps o s) : Keeps o (s.updActivate c).st := by
  unfold State.updActivate
  refine .iteIn h (.iteIn h (.iteIn (.iteIn (.ok h.commitSet) h) ?_))
  split
  · exact .iteIn h (.defer h.makeTrial.activating)
  · exact .iteIn h (.defer h.activateDawn)
  · exact .iteIn h (.ok (.activating (.ite h.makeTrial h)))

theorem Keeps.rescueLeaves {x : Straps} (h : Keeps o s) : Keeps o (s.rescueLeaves x) := by
  unfold State.rescueLeaves
  split
  · exact h.resetDown.startUp
  · exact h

theorem Keeps.tplUpdate {ok : Bool} (h : Keeps o s) : Keeps o (s.tplUpdate ok) := by
  unfold State.tplUpdate
  split
  · exact .ite h (.ite h.setFld.activating (.finishOp (.parts h.undoActivate)))
  · exact h

theorem Keeps.pauseStart (h : Keeps o s) : Keeps o s.pauseStart := by
  unfold State.pauseStart
  dsimp only
  split
  · exact .ite h (.opStart (.activating (.setFld (.parts h.writeSnap.discard.dataLost.toDawn))))
  · exact h

theorem Keeps.pauseEnd {b : Bool} {subtype status : ℕ} {about : Bool} {lost : List ℕ} (h : Keeps o s) :
    Keeps o (s.pauseEnd b subtype status about lost) := by
  unfold State.pauseEnd
  exact .finishOp (.updEvent (.reclaim (.fullStarts (.lapseTimedOut (.lhServe (.setFld (.setRuns (.parts
    h.rebuild.modeIs))))))))

theorem Keeps.loadDone {ok : Bool} {lost : List ℕ} {x : Straps} (h : Keeps o s) : Keeps o (s.loadDone ok lost x) := by
  unfold State.loadDone
  refine .ite h ?_
  split
  · exact .ite h.pauseEnd h.restart
  · exact .ite h.count.pauseEnd h.activationFails
  · exact h

theorem Keeps.loadLate {x : Straps} (h : Keeps o s) : Keeps o (s.loadLate x) := by
  unfold State.loadLate
  refine .ite h ?_
  split
  · exact .ite h.restart h
  · exact .ite h.activationFails h
  · exact h

/-! ### Slots -/

theorem Keeps.sStops (h : Keeps o s) : Keeps o s.sStops := .setFld (.setFld (.setFld (.parts h.txWithdraw.closeWindow)))

theorem Keeps.sStarts (h : Keeps o s) : Keeps o s.sStarts := .setFld h

theorem Keeps.srxCalBad {full : Bool} (h : Keeps o s) : Keeps o (s.srxCalBad full) :=
  .ite (.claimFell (.faultEv (.setFld (.parts h.setFld.setFld.sStops)))) (.calPend (.parts h.setFld.setFld))

theorem Keeps.srxCalDone {ok : Bool} {temp : ℤ} (h : Keeps o s) : Keeps o (s.srxCalDone ok temp) :=
  .ite h (.ite h.srxCalGood h.srxCalBad)

theorem Keeps.relockDone {ok : Bool} (h : Keeps o s) : Keeps o (s.relockDone ok) :=
  .ite h (.ite (.txDecide (.setFld h)) h.srxCalBad)

theorem Keeps.lhStopsServing {h' : Bool} (h : Keeps o s) : Keeps o (s.lhStopsServing h') :=
  .setFld (.setFld (.setFld (.setFld (.setRadio (.ite h.lhAbort.lhFlush h.lhAbort.lhFlush.meshLate)))))

theorem Keeps.persLh {h' : Bool} {old new : ℕ} (h : Keeps o s) : Keeps o (s.persLh h' old new) :=
  .ite h (.ite (.ite h.lhStopsServing (.ite h.setRadio.calBegin (.ite (.ite h h.setFld) (.meshLate (.ite h
    h.setFld))))) (.ite h.setRadio.calBegin h))

theorem Keeps.persSlot (h : Keeps o s) : Keeps o s.persSlot :=
  .persLh (.persLh (.ite h.latchRegs (.ite h.latchRegs.sStops h.latchRegs.sStarts)))

theorem Keeps.dawnSlot (h : Keeps o s) : Keeps o s.dawnSlot := .ite h h.setFld.count

theorem Keeps.dozeSlot (h : Keeps o s) : Keeps o s.dozeSlot := .ite (.setFld h) h

theorem Keeps.slotBoundary (h : Keeps o s) : Keeps o s.slotBoundary :=
  .ite h (.dozeSlot (.twinSlotStart (.lhSlot (.meshSlot (.parts (.dawnSlot (.latchRegs (.persSlot (.twinSlotEnd (.ite
    h.pushItem h))))))))))

theorem Keeps.periodicSnap {ok : Bool} (h : Keeps o s) : Keeps o (s.periodicSnap ok) :=
  .ite h (.ite h.latchFld.writeSnap (.setFld (.parts h.latchFld)))

/-! ### Power -/

theorem Keeps.hold {h' : Hold} (h : Keeps o s) : Keeps o (s.hold h') := h

theorem Keeps.startOrHold {x : Straps} {cause : Fld} (h : Keeps o s) : Keeps o (s.startOrHold x cause) :=
  .ite h.setFld.hold (.ite h.setFld.hold h.startUp)

theorem Keeps.standClear (h : Keeps o s) : Keeps o s.standClear := h

theorem Keeps.supplies (h : Keeps o s) : Keeps o s.supplies := h.setFld.setFld.setFld

theorem Keeps.startFromHib {x : Straps} {bits causes : List ℕ} (h : Keeps o s) :
    Keeps o (s.startFromHib x bits causes) :=
  .startOrHold (.supplies (.resetDown (.parts (h.setWord.each (fun hu => hu.backupLog)))))

theorem Keeps.powerOn {x : Straps} (h : Keeps o s) : Keeps o (s.powerOn x) :=
  .startOrHold (.supplies (.standClear (.setFld (.setWord (.setWord (.resetDown h))))))

theorem Keeps.vinRise {x : Straps} (h : Keeps o s) : Keeps o (s.vinRise x) :=
  .ite h (.ite (.powerOn h) (.ite (.supplies h) (.startFromHib h)))

theorem Keeps.rtcCut (h : Keeps o s) : Keeps o s.rtcCut := h

theorem Keeps.vinFall (h : Keeps o s) : Keeps o s.vinFall :=
  .ite h (.supplies (.parts (.ite h h.duskCut.rtcCut.enterHib)))

theorem Keeps.brownOut (h : Keeps o s) : Keeps o s.brownOut := .parts h.backupCold

theorem Keeps.rails {inRange : Bool} (h : Keeps o s) : Keeps o (s.rails inRange) := .ite h (.supplies h)

theorem Keeps.resetAssert {width : ℕ} {acts : Bool} (h : Keeps o s) : Keeps o (s.resetAssert width acts) :=
  .ite h (.ite h (.hold (.supplies (.standClear (.resetDown h)))))

theorem Keeps.resetRelease {x : Straps} (h : Keeps o s) : Keeps o (s.resetRelease x) := .ite (.startOrHold h) h

theorem Keeps.softReset {val : Word} {x : Straps} (h : Keeps o s) : Keeps o (s.softReset val x) :=
  .ite h.resetDown.startUp h

theorem Keeps.hibWake {b cause : ℕ} {x : Straps} (h : Keeps o s) : Keeps o (s.hibWake b cause x) :=
  .ite h (.ite h.startFromHib h)

theorem Keeps.wakeIn {x : Straps} (h : Keeps o s) : Keeps o (s.wakeIn x) := by
  unfold State.wakeIn
  split
  · exact h.hibWake
  · exact .ite h.dozeWake h
  · exact .ite h.duskService h
  · exact h

theorem Keeps.gpioLevel {n : Fin 8} {level : Bool} (h : Keeps o s) : Keeps o (s.gpioLevel n level) :=
  .ite (.dozeWake h) h

theorem Keeps.signalDetect {port : ℕ} (h : Keeps o s) : Keeps o (s.signalDetect port) := .ite h.dozeWake h

theorem Keeps.alarmFired {one late : Bool} {x : Straps} (h : Keeps o s) : Keeps o (s.alarmFired one late x) := by
  unfold State.alarmFired
  dsimp only
  split
  · exact h.setFld.setFld.hibWake
  · exact .ite h.setFld.setFld (.ite (.dozeWake (.ite h.setFld.setFld.event h.setFld.setFld)) (.ite
      h.setFld.setFld.event h.setFld.setFld))

theorem Keeps.alarm0 {x : Straps} (h : Keeps o s) : Keeps o (s.alarm0 x) := by
  unfold State.alarm0
  split
  · exact h
  · exact .alarmFired (.setFld h)

theorem Keeps.alarm1 {x : Straps} (h : Keeps o s) : Keeps o (s.alarm1 x) := by
  unfold State.alarm1
  split
  · exact h
  · exact .alarmFired h

/-! ### Clocks -/

theorem Keeps.rcOne (h : Keeps o s) : Keeps o s.rcOne := .ite h.setFld.setFld h

theorem Keeps.rcTwo (h : Keeps o s) : Keeps o s.rcTwo := .ite h (.hold (.parts h.resetDown.setFld))

theorem Keeps.rcBack {x : Straps} (h : Keeps o s) : Keeps o (s.rcBack x) :=
  .ite h (.ite (.startOrHold (.parts (.useFree (.setFld h)))) (.useFree (.setFld h)))

theorem Keeps.rcTrim {count : ℕ} (h : Keeps o s) : Keeps o (s.rcTrim count) :=
  .ite h (.ite h.setFld h.setFld.setFld.setFld)

theorem Keeps.radioStop (h : Keeps o s) : Keeps o s.radioStop :=
  .parts h.closeWindow.txWithdraw.lhAbort.lhAbort.lhFlush.lhFlush.meshLate

theorem Keeps.linkGone (h : Keeps o s) : Keeps o s.linkGone := .partsIo h.setFld.setFld.setFld fun hc => hc

theorem Keeps.refFail {bit : Fld} (h : Keeps o s) : Keeps o (s.refFail bit) :=
  .ite h.setFld.setFld (.ite (.parts h.setFld.setFld) (.twinFault (.claimFell (.parts (.linkGone (.hostLoss (.twinDown
    (.ethDown (.ethDown (.setFld (.setFld (.setFld (.setFld (.setFld (.each (.radioStop (.parts h.setFld.setFld)) (fun
    hu => hu.setFld))))))))))))))))

theorem Keeps.refStop (h : Keeps o s) : Keeps o s.refStop := .ite h h.refFail

theorem Keeps.refFreq {c1 c2 : ℕ} (h : Keeps o s) : Keeps o (s.refFreq c1 c2) := .ite h (.ite h.setFld.refFail h.setFld)

theorem Keeps.refAbsent (h : Keeps o s) : Keeps o s.refAbsent := .ite h.supply h

theorem Keeps.refReturn (h : Keeps o s) : Keeps o s.refReturn := by
  unfold State.refReturn
  dsimp only
  refine .ite h (.ite (.setFld (.setFld h)) ?_)
  split
  · exact .pllsLock (.supply (.setFld (.setFld (.setFld h))))
  · exact .pllsLock (.supply (.setFld (.setFld (.setFld h))))
  · exact .supply (.setFld (.setFld (.setFld h)))
  · refine .reclaim ?_
    split
    · refine .ite (.activationFails (.pllsLock (.faultEv (.supply (.setFld (.setFld (.setFld h))))))) ?_
      split
      · exact .parts (.discard (.faultEv (.supply (.setFld (.setFld (.setFld h))))))
      · exact .parts (.discard (.faultEv (.supply (.setFld (.setFld (.setFld h))))))
      · exact .pllsLock (.discard (.faultEv (.supply (.setFld (.setFld (.setFld h))))))
      · exact .ite (.holdDawn (.pllsLock (.discard (.faultEv (.supply (.setFld (.setFld (.setFld h)))))))) (.parts
          (.startLoad (.pllsLock (.discard (.faultEv (.supply (.setFld (.setFld (.setFld h)))))))))
    · exact .opStart (.ite (.holdDawn (.pllsLock (.toDawn (.dataLost (.discard (.faultEv (.supply (.setFld (.setFld
        (.setFld h)))))))))) (.parts (.startLoad (.pllsLock (.toDawn (.dataLost (.discard (.faultEv (.supply (.setFld
        (.setFld (.setFld h))))))))))))

theorem Keeps.xtalStop (h : Keeps o s) : Keeps o s.xtalStop := .ite h h.setFld.setFld.setFld.setFld.goesOn.repeatEnds

theorem Keeps.xtalBack (h : Keeps o s) : Keeps o s.xtalBack := .ite h h.setFld.setFld.setFld

theorem Keeps.xtalGap (h : Keeps o s) : Keeps o s.xtalGap := .ite h.setFld.setFld h

theorem Keeps.pcieUnlock (h : Keeps o s) : Keeps o s.pcieUnlock := h.setFld.faultEv.hostLoss.linkGone

theorem Keeps.pllUnlock {p : ℕ} (h : Keeps o s) : Keeps o (s.pllUnlock p) := by
  unfold State.pllUnlock
  refine .ite h ?_
  split
  · exact h.setFld.setFld.radioStop.fatal.setFld
  · exact h.setFld.setFld.fatal
  · exact h.setFld.setFld.fatal
  · exact h.setFld.setFld.pcieUnlock
  · exact h.setFld.setFld.ethDown.faultEv
  · exact h.setFld.setFld.ethDown.faultEv
  · exact h.setFld.setFld.twinDown.faultEv.twinFault

theorem Keeps.pllRelock {p : ℕ} {ok : Bool} (h : Keeps o s) : Keeps o (s.pllRelock p ok) :=
  .ite h (.ite (.parts (.ite (.parts h.setFld) h.setFld)) (.ite (.parts h.setFld) h.setFld))

theorem Keeps.thermal {temp : ℤ} (h : Keeps o s) : Keeps o (s.thermal temp) :=
  .ite h (.ite h (.derate (.opStart (.setFld h))))

theorem Keeps.gatedAccess {off : ℕ} (h : Keeps o s) : Keeps o (s.gatedAccess off) := h.count.setWord

theorem Keeps.gateTimeout {block : ℕ} {engine : Option (Fin 15)} {host : List ℕ} (h : Keeps o s) :
    Keeps o (s.gateTimeout block engine host) := by
  unfold State.gateTimeout
  refine .ite h ?_
  split
  · exact (h.setFld.count.setFld.each (fun hu => hu.gatedAccess)).fatal
  · exact (h.setFld.count.setFld.each (fun hu => hu.gatedAccess)).faultEv

theorem Keeps.trimWindow {count : ℕ} {clear : Bool} (h : Keeps o s) : Keeps o (s.trimWindow count clear) :=
  .ite h h.setFld.setFld.setFld

theorem Keeps.vbat {mv : ℕ} (h : Keeps o s) : Keeps o (s.vbat mv) := .ite h h.setFld.setFld.setFld

theorem Keeps.hostWrites {f : State → State} (h : Keeps o s) (hf : ∀ {u}, Keeps o u → Keeps o (f u)) :
    Keeps o (s.hostWrites f) :=
  .ite (hf h) h

/-! ### Triplicate -/

theorem Keeps.noteLane {lane : ℕ} {what : LaneWhat} (h : Keeps o s) : Keeps o (s.noteLane lane what) :=
  h.count.setFld.setFld.setFld

theorem Keeps.isolate {lane : ℕ} (h : Keeps o s) : Keeps o (s.isolate lane) := h.setFld.setFld

theorem Keeps.retire {lane : ℕ} (h : Keeps o s) : Keeps o (s.retire lane) :=
  h.setFld.setFld.pushItem.stateRefresh.setFld.faultEv.claimFell

theorem Keeps.pairFails (h : Keeps o s) : Keeps o s.pairFails := .claimFell (.setFld (.radioStop h))

theorem Keeps.resyncStart {lane : ℕ} (h : Keeps o s) : Keeps o (s.resyncStart lane) := .parts h.setFld.setFld

theorem Keeps.laneDiffers {lane : ℕ} {what : LaneWhat} (h : Keeps o s) : Keeps o (s.laneDiffers lane what) := by
  unfold State.laneDiffers
  refine .ite h ?_
  split
  · exact .ite h (.ite h.noteLane.retire (.parts h.noteLane))
  · exact .ite h (.ite h.noteLane.pairFails (.ite (.retire (.stateRefresh (.pushItem (.isolate (.parts h.noteLane)))))
      (.resyncStart (.stateRefresh (.pushItem (.isolate (.parts h.noteLane)))))))

theorem Keeps.rejoin (h : Keeps o s) : Keeps o s.rejoin :=
  .ite h h.setFld.setFld.setFld.count.setFld.pushItem.stateRefresh

theorem Keeps.pairDiffers (h : Keeps o s) : Keeps o s.pairDiffers := .ite h.pairFails h

theorem Keeps.tplReset {x : Straps} (h : Keeps o s) : Keeps o (s.tplReset x) := by
  unfold State.tplReset
  split
  · exact .ite h h.resetDown.startOrHold
  · exact h

theorem Keeps.refreshDue (h : Keeps o s) : Keeps o s.refreshDue := .ite h.stateRefresh h

/-! ### Faults -/

theorem Keeps.logRead {c : Cmd} (h : Keeps o s) : Keeps o (s.logRead c).st := .iteIn h h

theorem Keeps.telRead {c : Cmd} (h : Keeps o s) : Keeps o (s.telRead c).st := .iteIn h h

theorem Keeps.telSample {x : Sample} (h : Keeps o s) : Keeps o (s.telSample x) := .ite h (.setFld (.setFld (.setFld h)))

theorem Keeps.reloadReduced (h : Keeps o s) : Keeps o s.reloadReduced := .faultEv h

theorem Keeps.engineDead {e : ℕ} (h : Keeps o s) : Keeps o (s.engineDead e) := by
  unfold State.engineDead
  split
  · exact .ite h.fatal h
  · exact .ite h.reloadReduced h
  · exact .ite h.reloadReduced h
  · exact h

theorem Keeps.cellError {n place : ℕ} (h : Keeps o s) : Keeps o (s.cellError n place) := by
  unfold State.cellError
  dsimp only
  split
  · exact .ite h (.faultEv (.updatePool (.ite h.setQueue.leaveRound h.setQueue)))
  · exact h

theorem Keeps.lose {r : RecordAt} (h : Keeps o s) : Keeps o { s with nv := s.nv.lose r } := by
  unfold Nv.lose
  split
  · exact h
  · exact .iteNv h h
  · exact .iteNv h h
  · exact .iteNv h h
  · dsimp only
    split <;> exact h

theorem Keeps.logFailed (h : Keeps o s) : Keeps o s.logFailed := by
  unfold State.logFailed
  split
  · exact h
  · exact .mramFault (.setFld h)

theorem Keeps.memError {w : ErrAt} {x : Straps} (h : Keeps o s) : Keeps o (s.memError w x) := by
  unfold State.memError
  split
  · split
    · exact h.lose
    · exact h
  · split
    · exact .ite h.cellError h
    · split
      · exact .ite h (.faultEv h.lapseConn)
      · exact h
    · exact .ite h (.loadSlot (.faultEv (.parts h)))
    · exact .ite h.fatal h
    · exact .ite h.fatal h
    · exact .ite h.reloadReduced (.ite h.fatal h)
    · exact .ite h.fatal h
    · exact .ite h.fatal h
    · exact .ite h.fatal h
    · exact .ite h.fatal h
    · exact .ite (.restart (.parts h)) h
    · exact h.setFld
    · exact h.logFailed
    · exact h.lose

theorem Keeps.laneEcc {ecc : ℕ × ℕ × ℕ} (h : Keeps o s) : Keeps o (s.laneEcc ecc) := h.count.count.count

theorem Keeps.scrub {dram late : Bool} {ecc : ℕ × ℕ × ℕ} (h : Keeps o s) : Keeps o (s.scrub dram late ecc) :=
  .ite h (.ite (.setFld (.ite h h.laneEcc)) (.count (.ite h h.laneEcc)))

theorem Keeps.migrate {page writes : ℕ} {ok : Bool} (h : Keeps o s) : Keeps o (s.migrate page writes ok) :=
  .ite h (.iteNv h h)

/-! ### Host -/

theorem Keeps.nop {opcode : ℕ} (h : Keeps o s) : Keeps o (s.nop opcode).st := .iteIn h h

theorem Keeps.devStatus {c : Cmd} (h : Keeps o s) : Keeps o (s.devStatus c).st := .iteIn h h

theorem Keeps.badDb (h : Keeps o s) : Keeps o s.badDb := h.count

theorem Keeps.sqDoorbell {n : ℕ} {narrow : Bool} {v : Word} (h : Keeps o s) : Keeps o (s.sqDoorbell n narrow v) :=
  .ite h (.ite h.badDb (.ite h.count (.ite h.setFld.dozeStop h.setFld)))

theorem Keeps.cqRoom {n : ℕ} (h : Keeps o s) : Keeps o (s.cqRoom n) := .drainEvents (.partsIo h fun hc => hc.flushHeld)

theorem Keeps.cqDoorbell {n : ℕ} {narrow : Bool} {v : Word} (h : Keeps o s) : Keeps o (s.cqDoorbell n narrow v) :=
  .ite h (.ite h.badDb h.setFld.cqRoom)

theorem Keeps.ringFld {f err : Fld} {active valid : Bool} {w : Word} (h : Keeps o s) :
    Keeps o (s.ringFld f err active valid w) :=
  .ite h (.ite h.setFld h.setFld)

theorem Keeps.hostBack (h : Keeps o s) : Keeps o s.hostBack := .ite h h

theorem Keeps.sqStart {n : ℕ} (h : Keeps o s) : Keeps o (s.sqStart n) :=
  h.setFld.setWord.hostBack.setFld.setFld.drainEvents

theorem Keeps.sqStop {n : ℕ} (h : Keeps o s) : Keeps o (s.sqStop n) := .partsIo h.setFld fun hc => (.settle hc)

theorem Keeps.sqCfgWrite {n : ℕ} {w : Word} (h : Keeps o s) : Keeps o (s.sqCfgWrite n w) :=
  .ite (.ite h.ringFld.ringFld.ringFld.ringFld h.ringFld.ringFld.ringFld.ringFld.sqStart) (.ite
    h.ringFld.ringFld.ringFld.ringFld.sqStop h.ringFld.ringFld.ringFld.ringFld)

theorem Keeps.cqStart {n : ℕ} (h : Keeps o s) : Keeps o (s.cqStart n) :=
  h.setFld.setWord.hostBack.setFld.setFld.setFld.cqRoom

theorem Keeps.cqStop {n : ℕ} (h : Keeps o s) : Keeps o (s.cqStop n) := .partsIo h.setFld.setFld fun hc => .parts hc

theorem Keeps.cqCfgWrite {n : ℕ} {w : Word} (h : Keeps o s) : Keeps o (s.cqCfgWrite n w) :=
  .ite (.ite (.ite h.ringFld.ringFld.setFld h.ringFld.ringFld.setFld.latchFld) (.cqStart (.ite h.ringFld.ringFld.setFld
    h.ringFld.ringFld.setFld.latchFld))) (.ite (.ite h.ringFld.ringFld.setFld h.ringFld.ringFld.setFld.latchFld) (.ite
    (.setFld (.ite h.ringFld.ringFld.setFld h.ringFld.ringFld.setFld.latchFld)) (.cqStop (.ite h.ringFld.ringFld.setFld
    h.ringFld.ringFld.setFld.latchFld))))

theorem Keeps.ringFails {what : RingFail} {n : ℕ} {err : DmaErr} (h : Keeps o s) :
    Keeps o (s.ringFails what n err) := by
  unfold State.ringFails
  split
  · exact .ite h.ringStops h
  · exact .ite h.ringStops h
  · split
    · exact .ite h.ringStops h
    · exact h

theorem Keeps.coalTimer {n : ℕ} (h : Keeps o s) : Keeps o (s.coalTimer n) := by
  unfold State.coalTimer
  split
  · exact .ite (.partsIo h fun hc => hc.ringMessage) h
  · exact h

theorem Keeps.hifCtrl {w : Word} (h : Keeps o s) : Keeps o (s.hifCtrl w) := .ite h.discard h

theorem Keeps.wdogWrite {w : Word} (h : Keeps o s) : Keeps o (s.wdogWrite w) :=
  .ite (.partsIo h.setFld fun hc => hc) h.setFld

theorem Keeps.hostWdog (h : Keeps o s) : Keeps o s.hostWdog := .ite h.hostLoss h

theorem Keeps.enterD3 (h : Keeps o s) : Keeps o s.enterD3 := .ite h h.hostLoss.setFld

theorem Keeps.masterOff (h : Keeps o s) : Keeps o s.masterOff := .partsIo (.ite h.hostLoss h) fun hc => hc

theorem Keeps.hostGone {cause : LossKind} (h : Keeps o s) : Keeps o (s.hostGone cause) := by
  unfold State.hostGone
  split
  · exact .ite h.hostLoss.linkGone h
  · exact h.pllUnlock
  · exact .ite h.enterD3 h
  · exact .ite h.masterOff h

theorem Io.Canonical.perstReset (h : io.Canonical) : io.perstReset.Canonical := .setFld (h.filter _ rfl)

theorem Keeps.perstLow (h : Keeps o s) : Keeps o s.perstLow :=
  .ite h (.ite (.partsIo h.hostLoss fun hc => hc.perstReset) h)

theorem Keeps.linkUp {speed width : ℕ} (h : Keeps o s) : Keeps o (s.linkUp speed width) :=
  .ite (.drainEvents (.partsIo h.setFld.setFld.setFld fun hc => hc)) h

theorem Keeps.perstHigh {speed width : ℕ} (h : Keeps o s) : Keeps o (s.perstHigh speed width) := .ite (.linkUp h) h

theorem Keeps.configWrite {memSpace busMaster : Bool} {dstate : ℕ} {relaxed clearPme : Bool} (h : Keeps o s) :
    Keeps o (s.configWrite memSpace busMaster dstate relaxed clearPme) :=
  .ite h (.drainEvents (.partsIo (.ite (.partsIo (.ite h.enterD3 (.ite h.setFld h)) fun hc => hc) (.masterOff (.ite
    h.enterD3 (.ite h.setFld h)))) fun hc => hc))

/-! ### Registers -/

theorem Keeps.regErr {off : ℕ} (h : Keeps o s) : Keeps o (s.regErr off) := by
  unfold State.regErr
  split
  · exact h.setFld
  · exact h

theorem Keeps.plainWrite {f : RegFam} {off : ℕ} {w : Word} (h : Keeps o s) : Keeps o (s.plainWrite f off w) :=
  .ite (.regErr (.ite (.partsIo h.setWord fun hc => hc.latchReg) h.setWord)) (.ite (.partsIo h.setWord fun hc =>
    hc.latchReg) h.setWord)

theorem Keeps.checkedWrite {f : RegFam} {off : ℕ} {w : Word} {ok : Bool} (h : Keeps o s) :
    Keeps o (s.checkedWrite f off w ok) :=
  .ite h.plainWrite h.regErr

theorem Keeps.fieldWrite {f : RegFam} {x : Fld} {w : Word} {ok : Bool} (h : Keeps o s) :
    Keeps o (s.fieldWrite f x w ok) :=
  .ite h.plainWrite h.plainWrite.regErr

theorem Keeps.gpioLook (h : Keeps o s) : Keeps o s.gpioLook := .ite (h.foldl (fun hu => hu.dozeWake)) h

theorem Keeps.msixCtrl {f : RegFam} {n : ℕ} {w : Word} (h : Keeps o s) : Keeps o (s.msixCtrl f n w) :=
  .ite (.partsIo h.plainWrite fun hc => hc.setWord.raiseVector) h.plainWrite

theorem Keeps.ethCtrl {f : RegFam} {p : ℕ} {w : Word} (h : Keeps o s) : Keeps o (s.ethCtrl f p w) :=
  .ite h.fieldWrite.ethDown h.fieldWrite

theorem Keeps.twnCfg {f : RegFam} {w : Word} (h : Keeps o s) : Keeps o (s.twnCfg f w) :=
  .twinFault (.ite h.plainWrite h.plainWrite.twinDown)

theorem Keeps.chanWrite {f : RegFam} {h' : Bool} {w : Word} (h : Keeps o s) : Keeps o (s.chanWrite f h' w) :=
  h.checkedWrite

theorem Keeps.meshChWrite {f : RegFam} {off : ℕ} {w : Word} (h : Keeps o s) : Keeps o (s.meshChWrite f off w) :=
  h.checkedWrite

theorem Keeps.lhCalCmd {h' : Bool} {w : Word} (h : Keeps o s) : Keeps o (s.lhCalCmd h' w) :=
  .ite h.calRequest (.ite h.calRequest h)

theorem Keeps.regWrite {f : RegFam} {off : ℕ} {w : Word} (h : Keeps o s) : Keeps o (s.regWrite f off w) :=
  .ite (.ite h h.rtcWrite) (.ite h.plainWrite.gpioLook (.ite h.plainWrite.opStart (.ite h.plainWrite.latchRegs (.ite
    h.hifCtrl (.ite h.wdogWrite (.ite h.sqCfgWrite (.ite h.cqCfgWrite (.ite h.msixCtrl (.ite h.twnCfg (.ite (.ite
    h.duskService h) (.ite h.plainWrite (.ite h.checkedWrite (.ite h.srxCalCmd (.ite h.fieldWrite (.ite h.chanWrite
    (.ite h.chanWrite (.ite h.meshChWrite (.ite h.lhCalCmd (.ite h.lhCalCmd (.ite h.plainWrite.wlnLatch.wlnLatch (.ite
    h.fieldWrite (.ite h.ethCtrl (.ite h.ethCtrl (.ite h.setWord (.ite h.setWord h.plainWrite)))))))))))))))))))))))))

theorem Keeps.regWriteAt {off : ℕ} {w : Word} (h : Keeps o s) : Keeps o (s.regWriteAt off w) := by
  unfold State.regWriteAt
  split
  · exact h.regWrite
  · exact h

theorem Keeps.wordWrite {off : ℕ} {w : Word} (h : Keeps o s) : Keeps o (s.wordWrite off w) :=
  .ite h.gatedAccess (.ite h (.ite h.regWriteAt.regWriteAt h.regWriteAt))

theorem Keeps.narrowWrite {off : ℕ} (h : Keeps o s) : Keeps o (s.narrowWrite off) := h.count.setWord

theorem Keeps.wordWrites {off a a' : ℕ} (h : Keeps o s) : Keeps o (s.wordWrites off a a') := by
  induction a generalizing s off a' with
  | zero =>
    exact h
  | succ n ih =>
    rw [State.wordWrites]
    exact ih h.wordWrite

theorem Keeps.busWrite {off len val : ℕ} (h : Keeps o s) : Keeps o (s.busWrite off len val) :=
  .ite h (.ite h.narrowWrite h.wordWrites)

theorem Keeps.loRead {off : ℕ} (h : Keeps o s) : Keeps o (s.loRead off) :=
  .ite h (.ite h.gatedAccess.put (.put (.ite (.parts (.ite h h)) (.ite h h))))

end

/-! ### Fuses: a run of Dusk appends to the list -/

/-- `Keeps`, but for fuse entries that were appended. -/
def KeepsBut (o s : State) : Prop :=
  ∃ more, Keeps { o with nv := { o.nv with fuses := o.nv.fuses ++ more } } s

theorem Keeps.but {o s : State} (h : Keeps o s) : KeepsBut o s := ⟨[], by simpa using h⟩

theorem KeepsBut.keeps {o s u : State} (h : KeepsBut o s) (hu : ∀ {p}, Keeps p s → Keeps p u) : KeepsBut o u := by
  obtain ⟨more, hk⟩ := h
  exact ⟨more, hu hk⟩

theorem KeepsBut.append {o s : State} (h : KeepsBut o s) (x : Option DskFail) :
    KeepsBut o { s with nv := { s.nv with fuses := s.nv.fuses ++ [x] } } := by
  obtain ⟨more, hc, hid, hf, ha, hl⟩ := h
  refine ⟨more ++ [x], hc, hid, ?_, ha, hl⟩
  show s.nv.fuses ++ [x] = o.nv.fuses ++ (more ++ [x])
  rw [hf, List.append_assoc]

theorem KeepsBut.fuseRepairs {o s : State} {fs : List DskFail} {oks : List Bool} (h : KeepsBut o s) :
    KeepsBut o (State.fuseRepairs fs oks s) := by
  induction fs generalizing s oks with
  | nil => exact h
  | cons f fs ih =>
    rw [State.fuseRepairs]
    extract_lets fresh failed blown mark
    split
    · exact ih h
    · split
      · exact ih (h.keeps fun hk => hk.setFld.updRun)
      · split
        · exact ih ((h.append _).keeps fun hk => hk.updRun)
        · exact ih ((h.append _).keeps fun hk => hk.setFld.faultEv)

theorem KeepsBut.fuses {o s : State} {oks : List Bool} (h : KeepsBut o s) : KeepsBut o (s.fuses oks) := by
  unfold State.fuses
  split
  · exact h
  · split
    · exact h
    · have h₁ := h.fuseRepairs (fs := ‹DskRun›.fails) (oks := oks)
      exact h₁.keeps fun hk => .ite hk hk.dskEvent

theorem KeepsBut.runEnd {o s : State} {oks : List Bool} (h : KeepsBut o s) : KeepsBut o (s.runEnd oks) := by
  unfold State.runEnd
  split
  · exact h
  · extract_lets cause s₁ ms s₂ s₃ s₄ hib _ s₅
    have h₁ : KeepsBut o s₁ := by
      unfold s₁
      split
      · exact h.fuses
      · exact h
    clear_value s₁
    refine h₁.keeps fun hk => ?_
    have h₅ : Keeps _ s₅ := .parts (.setFld (.setFld (.setFld (.dskEvent (.updRun hk)))))
    exact .ite (.enterHib (.finishMode (.finishMode h₅))) (.parts h₅)

/-! ### Letters: the counter record, and the authorities -/

/-- Every programmed authority of `t` stands in `t'` with its hash, and revoked if it was. -/
def AuthsLast (t t' : Tbl Authority) : Prop :=
  ∀ k a, Tbl.get? t k = some a → a.programmed = true →
    ∃ b, Tbl.get? t' k = some b ∧ b.programmed = true ∧ b.hash = a.hash ∧ (a.revoked = true → b.revoked = true)

theorem AuthsLast.refl (t : Tbl Authority) : AuthsLast t t := fun _ a hk hp => ⟨a, hk, hp, rfl, id⟩

/-- A slot that was not programmed may be. -/
theorem AuthsLast.put {t : Tbl Authority} {slot : Nat} (x : Authority)
    (hfree : (Tbl.getD t slot {}).programmed = false) : AuthsLast t (Tbl.put t slot x) := by
  intro k a hk hp
  have hne : slot ≠ k := by
    rintro rfl
    simp [Tbl.getD, hk, hp] at hfree
  exact ⟨a, by rw [Tbl.get?_put_ne _ _ hne, hk], hp, rfl, id⟩

theorem AuthsLast.revoke (t : Tbl Authority) (slot : Nat) :
    AuthsLast t (Tbl.upd t slot fun a => { a with revoked := true }) := by
  intro k a hk hp
  unfold Tbl.upd
  by_cases hs : slot = k
  · subst hs
    exact ⟨{ a with revoked := true }, by simp [hk], hp, rfl, fun _ => rfl⟩
  · refine ⟨a, ?_, hp, rfl, id⟩
    split
    · rw [Tbl.get?_put_ne _ _ hs, hk]
    · exact hk

/-- The records that a letter may change, changed. -/
def State.withLetter (o : State) (auth : Tbl Authority) (ctr : Nat) : State :=
  { o with nv := { o.nv with auth := auth, letterCtr := ctr } }

/-- `Keeps`, but for the letter counter record and the authorities, which last. -/
def KeepsLetter (o s : State) : Prop := ∃ auth ctr, AuthsLast o.nv.auth auth ∧ Keeps (o.withLetter auth ctr) s

theorem Keeps.letter {o s : State} (h : Keeps o s) : KeepsLetter o s :=
  ⟨o.nv.auth, o.nv.letterCtr, .refl _, h⟩

theorem KeepsLetter.keeps {o s u : State} (h : KeepsLetter o s) (hu : ∀ {p}, Keeps p s → Keeps p u) :
    KeepsLetter o u := by
  obtain ⟨auth, ctr, hlast, hk⟩ := h
  exact ⟨auth, ctr, hlast, hu hk⟩

theorem KeepsLetter.putLetterCtr {o s : State} {ctr : Nat} (h : KeepsLetter o s) :
    KeepsLetter o (s.putLetterCtr ctr) := by
  obtain ⟨auth, _, hlast, hc, hid, hf, ha, -⟩ := h
  exact ⟨auth, ctr, hlast, hc, hid, hf, ha, rfl⟩

/-- Authorities that last beyond those of `s`, which are those of `o`. -/
theorem KeepsLetter.auths {o s : State} {auth : Tbl Authority} (h : Keeps o s) (ctr : Nat)
    (hlast : AuthsLast s.nv.auth auth) : KeepsLetter o { s with nv := { s.nv with auth := auth, letterCtr := ctr } } := by
  obtain ⟨hc, hid, hf, ha, -⟩ := h
  exact ⟨auth, ctr, ha ▸ hlast, hc, hid, hf, rfl, rfl⟩

theorem KeepsLetter.fuse {o s : State} {otpOk : Bool} {f : State → State} (h : KeepsLetter o s)
    (hf : KeepsLetter o (f s)) : KeepsLetter o (s.fuse otpOk f) := by
  unfold State.fuse
  split
  · exact hf
  · exact h.keeps fun hk => hk.setFld.faultEv

/-- A letter that `typeOk` passes programs only a slot that was free. -/
theorem KeepsLetter.letterCommit {o s : State} {l : Letter} {otpOk : Bool} (h : Keeps o s) (htype : s.typeOk l = true) :
    KeepsLetter o (s.letterCommit l otpOk) := by
  have hctr {ctr : Nat} : KeepsLetter o (s.putLetterCtr ctr) := h.letter.putLetterCtr
  unfold State.letterCommit
  extract_lets slot ctr
  split
  · split
    · have hstore : KeepsLetter o _ := (h.storeKey (slot := slot) (key := ‹Bytes›) (policy := l.body 4 4)
        (size := l.body 1 1) (auth := l.signer) (ctr := ctr)).letter
      exact hstore.putLetterCtr.keeps fun hk => hk.loadWork
    · exact h.letter
  · exact h.eraseSlot.letter.putLetterCtr
  · refine hctr.fuse (.auths h _ (.put _ ?_))
    simpa [State.typeOk, ‹l.type = 3›] using htype
  · exact hctr.fuse (.auths h _ (.revoke _ _))
  · exact hctr.keeps fun hk => hk.windowOpen
  · exact hctr.keeps fun hk => .parts hk
  · have herase : KeepsLetter o ((s.putLetterCtr ctr).each (Tbl.keys (s.putLetterCtr ctr).nv.vault)
        (State.eraseSlot · l.signer ctr)) := hctr.keeps fun hk => hk.each fun hu => hu.eraseSlot
    exact herase.fuse (herase.keeps fun hk => .partsNv hk)
  · exact h.letter

theorem State.typeOk_of_letterCheck {s : State} {l : Letter} (h : s.letterCheck l = none) : s.typeOk l = true := by
  by_contra htype
  have htype := Bool.eq_false_of_not_eq_true htype
  unfold State.letterCheck at h
  simp only [htype, Bool.not_false, if_true] at h
  split_ifs at h

theorem KeepsLetter.letterProcess {o s : State} {mramOk otpOk : Bool} (h : Keeps o s) :
    KeepsLetter o (s.letterProcess mramOk otpOk) := by
  unfold State.letterProcess
  split
  · exact h.letter
  · split
    · exact h.letter
    · extract_lets _ s₁ last
      have h₁ : Keeps o s₁ := .parts h
      have hlast {p u : State} {step status : Nat} (hu : Keeps p u) : Keeps p (last u step status) := hu.setFld.setFld.setFld
      clear_value s₁ last
      split
      · exact (hlast h₁).count.letterOver.letter
      · rename_i hcheck
        split
        · exact (hlast h₁).mramFault.letterOver.letter
        · have hcommit := KeepsLetter.letterCommit (otpOk := otpOk) h₁ (State.typeOk_of_letterCheck hcheck)
          exact hcommit.keeps fun hk => (hlast hk.log).count.setFld.vaultFault.letterOver

/-! ### Every command -/

/-- The command was answered with a state that keeps the registers' form and the permanent records. -/
def Kept (s : State) (r : Host.Outcome State Fault Refusal) : Prop := ∃ u, r = .next u ∧ Keeps s u

theorem Kept.run {s : State} {t : Nat} {f : State → State} (hf : ∀ {o u}, Keeps o u → Keeps o (f u)) :
    Kept s (run t s f) :=
  ⟨_, rfl, hf (Keeps.refl s).at⟩

theorem Kept.ringCommand {s : State} {op t : Nat} {c : Cmd} {f : State → Reply}
    (hf : ∀ {o u}, Keeps o u → Keeps o (f u).st) : Kept s (ringCommand op t c f s) :=
  .run fun hu => hu.ringRun hf

theorem Keeps.bootWatchdog {o s : State} {x : Straps} (h : Keeps o s) :
    Keeps o (match s.pw.wdog with
      | some d =>
        if s.now < d then s
        else if s.pw.trans = some .pause then s.restart x F.PWR_RESET_CAUSE_wdog
        else s.loadFails stTIMEOUT x
      | none => s) := by
  split
  · exact .ite h (.ite h.restart h.loadFails)
  · exact h

/-- Every command but the end of a Dusk run and the processing of a letter. -/
theorem exec_kept (i : Instr) (s : State) (hdusk : ∀ t oks, i ≠ .duskRunEnd t oks)
    (hletter : ∀ t mramOk otpOk, i ≠ .letterProcess t mramOk otpOk) : Kept s (exec i s) := by
  unfold exec
  cases i with
  | nop => exact .ringCommand fun hu => hu.nop
  | devStatus => exact .ringCommand fun hu => hu.devStatus
  | modeRequest => exact .ringCommand fun hu => hu.modeRequest
  | logRead => exact .ringCommand fun hu => hu.logRead
  | meshSfSet => exact .ringCommand fun hu => hu.sfSet
  | meshConnSet => exact .ringCommand fun hu => hu.blockRun (fun hv => hv.connSet)
  | meshConnGet => exact .ringCommand fun hu => hu.blockRun (fun hv => hv.connGet)
  | meshConnClose => exact .ringCommand fun hu => hu.connClose
  | meshAdmit => exact .ringCommand fun hu => hu.blockRun (fun hv => hv.admitBlock)
  | meshRoute => exact .ringCommand fun hu => hu.blockRun (fun hv => hv.routeCmd)
  | meshJoinDecide => exact .ringCommand fun hu => hu.joinDecide
  | meshCircSend => exact .ringCommand fun hu => hu.circSend
  | meshEpochSet => exact .ringCommand fun hu => hu.epochSet
  | kvLetter => exact .ringCommand fun hu => hu.letterSubmit
  | kvInfo => exact .ringCommand fun hu => hu.kvInfo
  | kvUnitPub => exact .ringCommand fun hu => hu.kvUnitPub
  | kvCmac => exact .ringCommand fun hu => hu.kvCmac
  | wlnBssSet => exact .ringCommand fun hu => hu.blockRun (fun hv => hv.bssSet)
  | wlnClientSet => exact .ringCommand fun hu => hu.blockRun (fun hv => hv.clientSet)
  | wlnKeySet => exact .ringCommand fun hu => hu.blockRun (fun hv => hv.keySet)
  | wlnMgmtTx => exact .ringCommand fun hu => hu.mgmtTx
  | wlnChanSwitch => exact .ringCommand fun hu => hu.chanSwitch
  | wlnClientGet => exact .ringCommand fun hu => hu.blockRun (fun hv => hv.clientGet)
  | pctWrite => exact .ringCommand fun hu => hu.blockRun (fun hv => hv.pctWrite)
  | pctRead => exact .ringCommand fun hu => hu.blockRun (fun hv => hv.pctRead)
  | pctDump => exact .ringCommand fun hu => hu.pctDump
  | pctAudit => exact .ringCommand fun hu => hu.pctAudit
  | pctFlush => exact .ringCommand fun hu => hu.pctFlush
  | srtVlanSet => exact .ringCommand fun hu => hu.blockRun (fun hv => hv.vlanSet)
  | qmsShaperSet => exact .ringCommand fun hu => hu.blockRun (fun hv => hv.shaperSet)
  | qmsShaperGet => exact .ringCommand fun hu => hu.blockRun (fun hv => hv.shaperGet)
  | qmsQueueSet => exact .ringCommand fun hu => hu.blockRun (fun hv => hv.queueSet)
  | qmsQueueGet => exact .ringCommand fun hu => hu.blockRun (fun hv => hv.queueGet)
  | twnRoleRequest => exact .run fun hu => (hu.ringRun (fun hv => hv.roleRequest)).roleSettle
  | twnStatus => exact .ringCommand fun hu => hu.twnStatus
  | updStage => exact .ringCommand fun hu => hu.updStage
  | updVerify => exact .ringCommand fun hu => hu.updVerify
  | updActivate => exact .run fun hu => (hu.ringRun (fun hv => hv.updActivate)).rescueLeaves
  | updStatus => exact .ringCommand fun hu => hu.updStatus
  | updLetter => exact .ringCommand fun hu => hu.letterSubmit
  | dskResult => exact .ringCommand fun hu => hu.dskResult
  | fltSet => exact .ringCommand fun hu => hu.fltSet
  | telRead => exact .ringCommand fun hu => hu.telRead
  | pktTx => exact .run fun hu => hu.pktTxRun
  | pktRxPost => exact .run fun hu => hu.ringRun (fun hv => hv.pktRxPost)
  | letterProcess => exact absurd rfl (hletter _ _ _)
  | updStageDone => exact .run fun hu => hu.stageDone
  | updVerifyDone => exact .run fun hu => hu.verifyDone
  | pctDumpDone => exact .run fun hu => hu.pctDumpDone
  | pctFlushDone => exact .run fun hu => hu.pctFlushDone
  | submissionDoorbell => exact .run fun hu => hu.sqDoorbell
  | completionDoorbell => exact .run fun hu => hu.cqDoorbell
  | descriptorFetchFailure => exact .run fun hu => hu.ringFails
  | msixCoalesceTimer => exact .run fun hu => hu.coalTimer
  | sqEnable => exact .run fun hu => hu.hostWrites (fun hv => hv.sqCfgWrite)
  | sqDisable => exact .run fun hu => hu.hostWrites (fun hv => hv.sqCfgWrite)
  | cqEnable => exact .run fun hu => hu.hostWrites (fun hv => hv.cqCfgWrite)
  | cqDisable => exact .run fun hu => hu.hostWrites (fun hv => hv.cqCfgWrite)
  | hifBump => exact .run fun hu => hu.hostWrites (fun hv => hv.hifCtrl)
  | hostWdogKick => exact .run fun hu => hu.hostWrites (fun hv => hv.wdogWrite)
  | hostWdogExpiry => exact .run fun hu => hu.hostWdog
  | hostLoss => exact .run fun hu => hu.hostGone
  | perstNAssert => exact .run fun hu => hu.perstLow
  | perstNRelease => exact .run fun hu => hu.perstHigh
  | softwareReset => exact .run fun hu => hu.softReset
  | dskAbort => exact .run fun hu => .ite hu.duskService hu
  | rtcSet => exact .run fun hu => hu.hostWrites (fun hv => hv.rtcSet)
  | rtcShift => exact .run fun hu => hu.hostWrites (fun hv => hv.rtcCmd)
  | rtcAddHour => exact .run fun hu => hu.hostWrites (fun hv => hv.rtcCmd)
  | rtcSubHour => exact .run fun hu => hu.hostWrites (fun hv => hv.rtcCmd)
  | alm1ClearMark => exact .run fun hu => hu.hostWrites (fun hv => hv.rtcCmd)
  | srxCalQuick => exact .run fun hu => hu.busWrite
  | srxCalFull => exact .run fun hu => hu.busWrite
  | lhCalFull => exact .run fun hu => hu.busWrite
  | lhCalChannel => exact .run fun hu => hu.busWrite
  | gpiSet => exact .run fun hu => hu.busWrite
  | gpiClr => exact .run fun hu => hu.busWrite
  | pairLoRead => exact .run fun hu => hu.loRead
  | registerWrite => exact .run fun hu => hu.busWrite
  | pboxPop => exact .run fun hu => .ite hu.popWord hu
  | vinOkRise => exact .run fun hu => hu.vinRise
  | vinOkFall => exact .run fun hu => hu.vinFall
  | vbackBrownOut => exact .run fun hu => hu.brownOut
  | resetNAssert => exact .run fun hu => hu.resetAssert
  | resetNRelease => exact .run fun hu => hu.resetRelease
  | wakeInRise => exact .run fun hu => hu.wakeIn
  | gpioWake => exact .run fun hu => hu.gpioLevel
  | ethSignalDetect => exact .run fun hu => hu.signalDetect
  | dawnImageVerified => exact .run fun hu => hu.dawnImage
  | dawnOnAir => exact .run fun hu => hu.dawnOnAir
  | dramTrainingDone => exact .run fun hu => hu.trained
  | vddqRetry => exact .run fun hu => hu.trainAgain
  | fullSetLoaded => exact .run fun hu => hu.setInDram
  | enginesLoaded => exact .run fun hu => hu.enginesIn
  | fullReached => exact .run fun hu => hu.fullReached
  | bootWatchdogExpiry => exact .run fun hu => hu.bootWatchdog
  | dozeEntry => exact .run fun hu => hu.dozeEntry
  | dozeHoldLimit => exact .run fun hu => hu.dozeHold
  | dozeSlotWake => exact .run fun hu => hu.slotWake
  | hibernateEntry => exact .run fun hu => hu.hibernateEntry
  | requestedDawnEntry => exact .run fun hu => hu.dawnEntry
  | duskEntry => exact .run fun hu => hu.duskEntry
  | duskGroupEnd => exact .run fun hu => hu.groupEnd
  | duskRunEnd => exact absurd rfl (hdusk _ _)
  | snapshotPeriodic => exact .run fun hu => hu.periodicSnap
  | rcOscFailOne => exact .run fun hu => hu.rcOne
  | rcOscFailTwo => exact .run fun hu => hu.rcTwo
  | rcHoldEnd => exact .run fun hu => hu.rcBack
  | rcTrimTick => exact .run fun hu => hu.rcTrim
  | refclkStopDetect => exact .run fun hu => hu.refStop
  | refclkFreqDetect => exact .run fun hu => hu.refFreq
  | refclkAbsent100ms => exact .run fun hu => hu.refAbsent
  | refclkReturn => exact .run fun hu => hu.refReturn
  | xtal32Stop => exact .run fun hu => hu.xtalStop
  | xtal32Restart => exact .run fun hu => hu.xtalBack
  | xtal32GapHibernate => exact .run fun hu => hu.xtalGap
  | pllUnlock => exact .run fun hu => hu.pllUnlock
  | pllRelockAttempt => exact .run fun hu => hu.pllRelock
  | opStepDone => exact .run fun hu => hu.opStepDone
  | thermalCapChange => exact .run fun hu => hu.thermal
  | gateCloseTimeout => exact .run fun hu => hu.gateTimeout
  | backupTick => exact .run fun hu => hu.backupTick
  | alarm0Fire => exact .run fun hu => hu.alarm0
  | alarm1Fire => exact .run fun hu => hu.alarm1
  | rtcTrimWindow => exact .run fun hu => hu.trimWindow
  | vbatMeasure => exact .run fun hu => hu.vbat
  | laneDisagreement => exact .run fun hu => hu.laneDiffers
  | resyncRejoin => exact .run fun hu => hu.rejoin
  | pairDisagreement => exact .run fun hu => hu.pairDiffers
  | tplFatalReset => exact .run fun hu => hu.tplReset
  | pboxStateRefresh => exact .run fun hu => hu.refreshDue
  | slotBoundary => exact .run fun hu => hu.slotBoundary
  | rxWindowOpen => exact .run fun hu => hu.openWindow
  | rxWindowClose => exact .run fun hu => hu.closeWindow
  | preambleDetect => exact .run fun hu => hu.preamble
  | diversityDecision => exact .run fun hu => hu.diversity
  | adcClip => exact .run fun hu => hu.adcClip
  | sfdFound => exact .run fun hu => hu.sfdFound
  | sfdSearchTimeout => exact .run fun hu => hu.sfdTimeout
  | frameDelivery t d l => cases l with
    | none => exact .run fun hu => hu.deliverFrame
    | some x => exact .run fun hu => hu.deliverL
  | keyRequest => exact .run fun hu => hu.keyRequest
  | keyDerivation => exact .run fun hu => hu.keyDerive
  | frameDecision => exact .run fun hu => hu.frameDecision
  | dawnFrame => exact .run fun hu => hu.dawnFrame
  | innerBlockCheck => exact .run fun hu => hu.innerCheck
  | admission => exact .run fun hu => hu.admission
  | joinDecideDeadline => exact .run fun hu => hu.joinDeadline
  | receiptBurst => exact .run fun hu => hu.receiptBurst
  | dSlotTx => exact .run fun hu => hu.dSlotTx
  | nodeReceipt => exact .run fun hu => hu.nodeReceipts
  | connectionEvent => exact .run fun hu => hu.connEvent
  | connUpdateInstant => exact .run fun hu => hu.connInstant
  | lapseHoldExpiry => exact .run fun hu => hu.lapseHold
  | postmarkExpiry => exact .run fun hu => hu.markExpiry
  | fragmentTimeout => exact .run fun hu => hu.fragTimeout
  | micWindowEnd => exact .run fun hu => .ite hu.micWindowEnd hu
  | leaseExtend => exact .run fun hu => hu.leaseExtend
  | leaseWriteRetry => exact .run fun hu => hu.leaseRetry
  | epochRotation => exact .run fun hu => hu.rotate
  | graceEnd => exact .run fun hu => hu.graceEnd
  | dlCounterWarn => exact .run fun hu => hu.dlWarn
  | dlCounterExhausted => exact .run fun hu => hu.dlExhausted
  | txRequest => exact .run fun hu => hu.txRequest
  | txDecisionDeadline => exact .run fun hu => hu.txDeadline
  | rxToTxTurnaround => exact .run fun hu => hu.turnaround
  | txEnd => exact .run fun hu => hu.txEnd
  | txCut => exact .run fun hu => .ite hu hu.txCut
  | synthLockLoss => exact .run fun hu => hu.synthLost
  | srxCalStart => exact .run fun hu => hu.srxCalStart
  | srxCalDone => exact .run fun hu => hu.srxCalDone
  | srxCalDue => exact .run fun hu => hu.srxCalDue
  | coxbExtReqRise => exact .run fun hu => hu.coxbReq
  | coxbExtReqFall => exact .run fun hu => hu.coxbReq
  | coxbPreempt => exact .run fun hu => hu.coxbPreempt
  | coxaExtReqRise => exact .run fun hu => hu.coxaReq
  | coxaExtReqFall => exact .run fun hu => hu.coxaReq
  | coxaPreempt => exact .run fun hu => hu.coxaPreempt
  | reservedIntervalStart => exact .run fun hu => hu.ivlStart
  | lhTxStart => exact .run fun hu => hu.txStart
  | lhTxEnd => exact .run fun hu => hu.txEndLh
  | lhTxCut => exact .run fun hu => hu.txCutLh
  | lhCalDone => exact .run fun hu => hu.calDone
  | lhTrackingPiece => exact .run fun hu => hu.trackPiece
  | probeRequest => exact .run fun hu => hu.probe
  | wifiMgmtRx => exact .run fun hu => hu.wifiMgmtRx
  | twtSetupRequest => exact .run fun hu => hu.twtSetup
  | wifiDataRx => exact .run fun hu => hu.wifiDataRx
  | txopWon => exact .run fun hu => hu.txopWon
  | bsrpTrigger => exact .run fun hu => hu.bsrpTrigger
  | sounding => exact .run fun hu => hu.sounding
  | tbttBeacon => exact .run fun hu => hu.tbtt
  | clientUnreachable => exact .run fun hu => hu.unreachable
  | pnLeaseExtend => exact .run fun hu => hu.pnExtend
  | ethFrameRx => exact .run fun hu => hu.ethFrameRx
  | sorterPacket => exact .run fun hu => hu.sorterPacket
  | learnUpdate => exact .run fun hu => hu.learnUpdate
  | learnFailRecord => exact .run fun hu => hu.learnFailRecord
  | roundVisit => exact .run fun hu => hu.roundVisit
  | tableEccError => exact .run fun hu => hu.tableEcc
  | digestRescan => exact .run fun hu => hu.digestRescan
  | spillMove => exact .run fun hu => hu.spillMove
  | spillFetchDone => exact .run fun hu => hu.spillFetch
  | xoffRepeat => exact .run fun hu => hu.xoffRepeat
  | pauseRx => exact .run fun hu => hu.pauseRx
  | pauseTimerExpiry => exact .run fun hu => hu.pauseExpiry
  | ethLinkDown => exact .run fun hu => hu.ethDown
  | shaperRefill => exact .run fun hu => hu.shaperRefill
  | egressDequeue => exact .run fun hu => hu.egressDequeue
  | claimInChange => exact .run fun hu => hu.claimIn
  | gateOpen => exact .run fun hu => hu.gateOpens
  | hello => exact .run fun hu => hu.twinRx
  | time => exact .run fun hu => hu.twinRx
  | slotRec => exact .run fun hu => hu.twinRx
  | lease => exact .run fun hu => hu.twinRx
  | leaseAck => exact .run fun hu => hu.twinRx
  | revert => exact .run fun hu => hu.twinRx
  | status => exact .run fun hu => hu.twinRx
  | helloTx => exact .run fun hu => hu.helloTx
  | statusTx => exact .run fun hu => hu.statusTx
  | leaseResend => exact .run fun hu => hu.leaseResend
  | twinLinkTimeout => exact .run fun hu => hu.twinTimeout
  | twinLinkRetrain => exact .run fun hu => hu.twinRetrain
  | holdoffExpiry => exact .run fun hu => hu.holdoffEnd
  | preferredRaise => exact .run fun hu => hu.preferredRaise
  | recoveryWindowClose => exact .run fun hu => hu.windowClose
  | peerLost => exact .run fun hu => hu.twinFault
  | standDown => exact .run fun hu => hu.standDown
  | remaskPass => exact .run fun hu => .ite (hu.remask.when (fun hv => hv.setFld)) hu
  | rewrapScheduled => exact .run fun hu => hu.rewrapAll
  | pauseStart => exact .run fun hu => hu.pauseStart
  | triplicateUpdate => exact .run fun hu => hu.tplUpdate
  | activationLoadDone => exact .run fun hu => hu.loadDone
  | activationTimeout => exact .run fun hu => hu.loadLate
  | trialCommitTimer => exact .run fun hu => hu.trialTimer
  | xmodemDownload => exact .run fun hu => hu.xmodem
  | tftpWriteRequest => exact .run fun hu => hu.tftp
  | engineWatchdogExpiry => exact .run fun hu => hu.engineDead
  | uncorrectableError => exact .run fun hu => hu.memError
  | scrubPass => exact .run fun hu => hu.scrub
  | mramPageMigrate => exact .run fun hu => hu.migrate
  | telemetrySample => exact .run fun hu => hu.telSample
  | faultWindowExpiry => exact .run fun hu => hu.windowExpiry
  | reorderHoldExpiry => exact .run fun hu => hu.reorderExpiry
  | twnHoldTimeout => exact .run fun hu => hu.holdTimeout
  | synthRelockDone => exact .run fun hu => hu.relockDone
  | ethLinkUp => exact .run fun hu => hu.ethLinkUp
  | pcieLinkUp => exact .run fun hu => hu.linkUp
  | pcieConfigWrite => exact .run fun hu => hu.configWrite
  | twtServicePeriod => exact .run fun hu => hu.twtStart
  | railOutOfRange => exact .run fun hu => hu.rails

/-! ### The permanent records, and the form of the registers -/

/-- What O6 states of a step from `s` to `u`, but for the letter counter record. -/
def RecordsLast (s u : State) : Prop :=
  u.nv.unitId = s.nv.unitId ∧ (∃ more, u.nv.fuses = s.nv.fuses ++ more) ∧ AuthsLast s.nv.auth u.nv.auth

theorem Keeps.recordsLast {s u : State} (h : Keeps s u) : RecordsLast s u := by
  obtain ⟨-, hid, hf, ha, -⟩ := h
  exact ⟨hid, ⟨[], by rw [hf, List.append_nil]⟩, ha ▸ .refl _⟩

theorem KeepsBut.recordsLast {s u : State} (h : KeepsBut s u) :
    RecordsLast s u ∧ u.nv.letterCtr = s.nv.letterCtr ∧ (s.io.Canonical → u.io.Canonical) := by
  obtain ⟨more, hc, hid, hf, ha, hl⟩ := h
  have hauth : u.nv.auth = s.nv.auth := ha
  exact ⟨⟨hid, ⟨more, hf⟩, hauth ▸ .refl _⟩, hl, hc⟩

theorem KeepsLetter.recordsLast {s u : State} (h : KeepsLetter s u) :
    RecordsLast s u ∧ (s.io.Canonical → u.io.Canonical) := by
  obtain ⟨auth, ctr, hlast, hc, hid, hf, ha, -⟩ := h
  exact ⟨⟨hid, ⟨[], hf.trans (List.append_nil _).symm⟩, (show u.nv.auth = auth from ha) ▸ hlast⟩, hc⟩

/-- A command lets the records last, changes the letter counter record only where it processes a letter, and keeps the
form of the registers. -/
theorem exec_lasts (i : Instr) (s u : State) (h : exec i s = .next u) :
    RecordsLast s u ∧ (u.nv.letterCtr = s.nv.letterCtr ∨ ∃ t m o, i = .letterProcess t m o) ∧
      (s.io.Canonical → u.io.Canonical) := by
  by_cases hdusk : ∃ t oks, i = .duskRunEnd t oks
  · obtain ⟨t, oks, rfl⟩ := hdusk
    cases h
    obtain ⟨hlast, hctr, hc⟩ := ((Keeps.refl s).at (t := t)).but.runEnd (oks := oks) |>.recordsLast
    exact ⟨hlast, .inl hctr, hc⟩
  · by_cases hletter : ∃ t m o, i = .letterProcess t m o
    · obtain ⟨t, m, o, rfl⟩ := hletter
      cases h
      obtain ⟨hlast, hc⟩ := (KeepsLetter.letterProcess (mramOk := m) (otpOk := o) ((Keeps.refl s).at (t := t))).recordsLast
      exact ⟨hlast, .inr ⟨t, m, o, rfl⟩, hc⟩
    · obtain ⟨v, hv, hk⟩ := exec_kept i s (fun t oks hi => hdusk ⟨t, oks, hi⟩) (fun t m o hi => hletter ⟨t, m, o, hi⟩)
      obtain rfl : v = u := Host.Outcome.next.inj (hv.symm.trans h)
      have hlast := hk.recordsLast
      obtain ⟨hc, -, -, -, hl⟩ := hk
      exact ⟨hlast, .inl hl, hc⟩

/-- So does a step, from the state at its start. -/
theorem step_lasts (s u : State) (h : step s = .next u) :
    RecordsLast s u ∧ (u.nv.letterCtr = s.nv.letterCtr ∨ ∃ t m o rest, s.pending = .letterProcess t m o :: rest) ∧
      (s.io.Canonical → u.io.Canonical) := by
  unfold step at h
  split at h
  · cases h
    exact ⟨(Keeps.refl s).recordsLast, .inl rfl, id⟩
  · rename_i c rest hpending
    obtain ⟨hlast, hctr, hc⟩ := exec_lasts c { s with pending := rest } u h
    refine ⟨hlast, hctr.imp_right ?_, hc⟩
    rintro ⟨t, m, o, rfl⟩
    exact ⟨t, m, o, rest, hpending⟩

/-- Settles O6: every command keeps the permanent records, but that Dusk appends fuses and a letter moves the counter
record and programs or revokes an authority. -/
theorem permanentRecordsStay : Obligations.PermanentRecordsStay := by
  intro s u h
  obtain ⟨⟨hid, hfuses, hauth⟩, hctr, -⟩ := step_lasts s u h
  exact ⟨hid, hfuses, hauth, hctr⟩

/-- Settles O7: registers are only set, or dropped by a reset. -/
theorem registersStayCanonical : Obligations.RegistersStayCanonical := fun s u h => (step_lasts s u h).2.2

end Sys2Proof.Machine
end

-- ==== Reading through an update ====
section
/-!
SUPPORT. What a field or a word reads behind an update, and that a chain of updates changes no other register: one rule for each operation of the state.
-/

namespace Sys2Proof.Machine

/-! ### Fields and words behind an update -/

section
variable (s : State)

theorem State.fld_event (ty : Nat) (b : Bytes) (f : Fld) (h : f.off < 0x050000 ∨ 0x060000 ≤ f.off) :
    (s.event ty b).fld f = s.fld f := State.event_fld s ty b f h

theorem State.fld_complete (c : Cpl) (f : Fld) (h : f.off < 0x050000 ∨ 0x060000 ≤ f.off) :
    (s.complete c).fld f = s.fld f := by
  rw [State.fld_eq, State.fld_eq, State.complete_word s c f.off h]

theorem State.fld_drainEvents (f : Fld) (h : f.off < 0x050000 ∨ 0x060000 ≤ f.off) :
    s.drainEvents.fld f = s.fld f := by
  rw [State.fld_eq, State.fld_eq, State.drainEvents_word s f.off h]

theorem State.fld_faultEv (c r d : Nat) (f : Fld) (h : f.off < 0x050000 ∨ 0x060000 ≤ f.off) :
    (s.faultEv c r d).fld f = s.fld f := State.faultEv_fld s c r d f h

theorem State.fld_setFld_eq {f : Fld} {v : Nat} (h : f.hi < 32) (hv : v < 2 ^ f.width) : (s.setFld f v).fld f = v := by
  rw [State.fld_setFld_self s f v h, Nat.mod_eq_of_lt hv]

theorem State.fld_setFld_bool {f : Fld} {b : Bool} (h : f.hi < 32) (hlo : f.lo ≤ f.hi) :
    (s.setFld f b.toNat).fld f = b.toNat := by
  have hone : 1 < 2 ^ f.width := Nat.one_lt_two_pow (by unfold Fld.width; omega)
  exact State.fld_setFld_eq s h ((Bool.toNat_le b).trans_lt hone)

theorem State.fld_setWord_off {off : Nat} (w : Word) (f : Fld) (h : off ≠ f.off) :
    (s.setWord off w).fld f = s.fld f := by
  rw [State.fld_eq, State.fld_eq, State.word_setWord_ne s w h]

end

/-! ### `RegsOnly`, `SameWords` and `HostOnly` behind an update -/

section
variable {s u : State} {l : List Nat}

theorem RegsOnly.setFld (h : RegsOnly s u l) {f : Fld} (hf : f.off ∈ l) (v : Nat) : RegsOnly s (u.setFld f v) l :=
  h.setWord hf _

theorem SameWords.refl (s : State) (l : List Nat) : SameWords s s l := fun _ _ _ => rfl

theorem SameWords.setWord (h : SameWords s u l) {off : Nat} (hoff : off ∈ l) (w : Word) :
    SameWords s (u.setWord off w) l := fun x hhif hx => by
  have hne : off ≠ x := fun e => hx (e ▸ hoff)
  rw [State.word_setWord_ne u w hne, h x hhif hx]

/-- A word of the `HIF_` block. -/
theorem SameWords.setHif (h : SameWords s u l) {off : Nat} (lo : 0x050000 ≤ off) (hi : off < 0x060000) (w : Word) :
    SameWords s (u.setWord off w) l := fun x hhif hx => by
  have hne : off ≠ x := by unfold offHif at hhif; omega
  rw [State.word_setWord_ne u w hne, h x hhif hx]

theorem SameWords.setFld (h : SameWords s u l) {f : Fld} (hf : f.off ∈ l) (v : Nat) : SameWords s (u.setFld f v) l :=
  h.setWord hf _

theorem SameWords.count (h : SameWords s u l) {f : Fld} (hf : f.off ∈ l) (n : Nat) : SameWords s (u.count f n) l :=
  h.setWord hf _

theorem SameWords.event (h : SameWords s u l) (ty : Nat) (b : Bytes) : SameWords s (u.event ty b) l :=
  fun x hhif hx => (State.event_word u ty b x hhif).trans (h x hhif hx)

theorem SameWords.complete (h : SameWords s u l) (c : Cpl) : SameWords s (u.complete c) l :=
  fun x hhif hx => (State.complete_word u c x hhif).trans (h x hhif hx)

theorem SameWords.drainEvents (h : SameWords s u l) : SameWords s u.drainEvents l :=
  fun x hhif hx => (State.drainEvents_word u x hhif).trans (h x hhif hx)

theorem SameWords.faultEv (h : SameWords s u l) (c r d : Nat) : SameWords s (u.faultEv c r d) l :=
  fun x hhif hx => (State.faultEv_word u c r d x hhif).trans (h x hhif hx)

theorem HostOnly.at (s : State) (t : Nat) (l : List Nat) : HostOnly s (s.at t) l := ⟨rfl, fun _ _ _ => rfl⟩

theorem RegsOnly.hostOnly (h : RegsOnly s u l) : HostOnly s u l := by
  obtain ⟨hparts, -, hword⟩ := h
  exact ⟨hparts, fun off _ hoff => hword off hoff⟩

theorem HostOnly.setFld (h : HostOnly s u l) {f : Fld} (hf : f.off ∈ l) (v : Nat) : HostOnly s (u.setFld f v) l :=
  ⟨h.1, h.2.setFld hf v⟩

theorem HostOnly.setWord (h : HostOnly s u l) {off : Nat} (hf : off ∈ l) (w : Word) : HostOnly s (u.setWord off w) l :=
  ⟨h.1, h.2.setWord hf w⟩

theorem HostOnly.setHif (h : HostOnly s u l) {off : Nat} (lo : 0x050000 ≤ off) (hi : off < 0x060000) (w : Word) :
    HostOnly s (u.setWord off w) l :=
  ⟨h.1, h.2.setHif lo hi w⟩

theorem HostOnly.count (h : HostOnly s u l) {f : Fld} (hf : f.off ∈ l) (n : Nat) : HostOnly s (u.count f n) l :=
  ⟨h.1, h.2.setFld hf _⟩

theorem HostOnly.event (h : HostOnly s u l) (ty : Nat) (b : Bytes) : HostOnly s (u.event ty b) l :=
  ⟨h.1, h.2.event ty b⟩

theorem HostOnly.complete (h : HostOnly s u l) (c : Cpl) : HostOnly s (u.complete c) l :=
  ⟨h.1, h.2.complete c⟩

theorem HostOnly.drainEvents (h : HostOnly s u l) : HostOnly s u.drainEvents l :=
  ⟨h.1, h.2.drainEvents⟩

theorem HostOnly.trans {v : State} {m : List Nat} (h : HostOnly s u l) (h' : HostOnly u v m) : HostOnly s v (l ++ m) := by
  obtain ⟨hparts, hword⟩ := h
  obtain ⟨hparts', hword'⟩ := h'
  refine ⟨?_, fun off hhif hoff => ?_⟩
  · rw [← hparts, ← hparts']
  · rw [List.mem_append, not_or] at hoff
    rw [hword' off hhif hoff.2, hword off hhif hoff.1]

end

end Sys2Proof.Machine
end

-- ==== Posting to the host (16_host_rings) ====
section
/-!
SUPPORT. What an entry of a completion ring, a message or an event changes, and that a completion goes out or is held.
-/

namespace Sys2Proof.Machine

/-! ### What posting to the host changes

An entry written to a completion ring, a message or an event moves tails and phases, sets pending bits, counts a lost
event, and puts something out. -/

/-- The words that posting may change: `HIF_EVT_CNT`, the `STAT` and `ERR` words of the completion rings, the PBA. -/
def postedAt (off : Nat) : Bool :=
  off == 0x050020 || (decide (0x052010 ≤ off) && decide (off < 0x052800) && decide (16 ≤ off % 32) && decide (off % 32 < 24)) ||
    (decide (0x05F000 ≤ off) && decide (off < 0x060000))

theorem postedAt_eq_false {off : Nat} : postedAt off = false ↔
    off ≠ 0x050020 ∧ (off < 0x052010 ∨ 0x052800 ≤ off ∨ off % 32 < 16 ∨ 24 ≤ off % 32) ∧ (off < 0x05F000 ∨ 0x060000 ≤ off) := by
  simp [postedAt, and_assoc, or_assoc, imp_iff_not_or]

theorem postedAt_eq_true {off : Nat} : postedAt off = true ↔ off = 0x050020 ∨
    (0x052010 ≤ off ∧ off < 0x052800 ∧ 16 ≤ off % 32 ∧ off % 32 < 24) ∨ (0x05F000 ≤ off ∧ off < 0x060000) := by
  simp [postedAt, and_assoc, or_assoc]

/-- Interface `b` is interface `a` with something posted. -/
structure Posts (a b : Io) : Prop where
  word : ∀ off, postedAt off = false → b.word off = a.word off
  err : ∀ n < 64, ∀ f : Fld, f.off = 0x052014 + 0x20 * n → f.hi < 32 → f.hi < 4 ∨ 4 < f.lo → b.fld f = a.fld f
  out : ∃ more, b.out = more ++ a.out
  hf : { b.hf with
    coal := a.hf.coal, cqHeld := a.hf.cqHeld, evHeld := a.hf.evHeld, evSeq := a.hf.evSeq, evLost := a.hf.evLost
    wakeN := a.hf.wakeN, pme := a.hf.pme } = a.hf
  held : b.heldLo = a.heldLo
  latch : b.latch = a.latch

theorem Posts.refl (io : Io) : Posts io io := ⟨fun _ _ => rfl, fun _ _ _ _ _ _ => rfl, ⟨[], rfl⟩, rfl, rfl, rfl⟩

theorem Posts.trans {a b c : Io} (h : Posts a b) (h' : Posts b c) : Posts a c := by
  obtain ⟨hw, he, ⟨more, ho⟩, hh, hl, hx⟩ := h
  obtain ⟨hw', he', ⟨more', ho'⟩, hh', hl', hx'⟩ := h'
  refine ⟨fun off hoff => (hw' off hoff).trans (hw off hoff),
    fun n hn f hf hhi hbits => (he' n hn f hf hhi hbits).trans (he n hn f hf hhi hbits),
    ⟨more' ++ more, by rw [ho', ho, List.append_assoc]⟩, ?_, hl'.trans hl, hx'.trans hx⟩
  rw [← hh, ← hh']

/-- A field of a word that posting does not change. -/
theorem Posts.fld {a b : Io} (h : Posts a b) {f : Fld} (hf : postedAt f.off = false) : b.fld f = a.fld f :=
  congrArg f.of (h.word f.off hf)

/-- The same interface but for the state of its own that posting may change. -/
theorem Posts.ofHf {a : Io} {hf : Hif} (h : { hf with
      coal := a.hf.coal, cqHeld := a.hf.cqHeld, evHeld := a.hf.evHeld, evSeq := a.hf.evSeq, evLost := a.hf.evLost
      wakeN := a.hf.wakeN, pme := a.hf.pme } = a.hf) : Posts a { a with hf := hf } :=
  ⟨fun _ _ => rfl, fun _ _ _ _ _ _ => rfl, ⟨[], rfl⟩, h, rfl, rfl⟩

theorem Posts.put (io : Io) (x : Out) : Posts io (io.put x) :=
  ⟨fun _ _ => rfl, fun _ _ _ _ _ _ => rfl, ⟨[x], rfl⟩, rfl, rfl, rfl⟩

theorem Posts.latchReg (io : Io) (off : Nat) : Posts io (io.latchReg off) := by
  unfold Io.latchReg
  split
  · exact ⟨fun _ _ => rfl, fun _ _ _ _ _ _ => rfl, ⟨[], rfl⟩, rfl, rfl, rfl⟩
  · exact .refl io

/-- A word that posting may change, but not the `ERR` word of a ring. -/
theorem Posts.setWord (io : Io) {off : Nat} (hoff : postedAt off = true) (herr : ∀ n < 64, off ≠ 0x052014 + 0x20 * n)
    (w : Word) : Posts io (io.setWord off w) := by
  refine ⟨fun x hx => Io.word_setWord_ne io w ?_, fun n hn f hf _ _ => ?_, ⟨[], rfl⟩, rfl, rfl, rfl⟩
  · rintro rfl
    rw [hoff] at hx
    cases hx
  · exact congrArg f.of (Io.word_setWord_ne io w (hf ▸ herr n hn))

theorem Posts.setTail (io : Io) {n : Nat} (hn : n < 64) (v : Nat) : Posts io (io.setFld (F.HIF_CQ_STAT_tail n) v) :=
  .setWord io (by rw [postedAt_eq_true]; simp only [F.HIF_CQ_STAT_tail]; omega) (fun k _ => by simp only [F.HIF_CQ_STAT_tail]; omega) _

theorem Posts.setPhase (io : Io) {n : Nat} (hn : n < 64) (v : Nat) : Posts io (io.setFld (F.HIF_CQ_ERR_phase n) v) := by
  refine ⟨fun x hx => Io.word_setWord_ne io _ ?_, fun k hk f hf hhi hbits => ?_, ⟨[], rfl⟩, rfl, rfl, rfl⟩
  · rintro rfl
    rw [postedAt_eq_false] at hx
    simp only [F.HIF_CQ_ERR_phase] at hx
    omega
  · exact Io.fld_setFld_bits io f _ v hhi hbits

theorem Posts.raiseVector (io : Io) {v : Nat} (hv : v < 64) : Posts io (io.raiseVector v) := by
  unfold Io.raiseVector
  split
  · have : v / 32 ≤ 1 := by omega
    exact .setWord io (by rw [postedAt_eq_true]; simp only [F.MSIX_PBA_pend]; omega) (fun k _ => by simp only [F.MSIX_PBA_pend]; omega) _
  · exact .put io _

theorem Posts.ringMessage (io : Io) (n : Nat) : Posts io (io.ringMessage n) := by
  unfold Io.ringMessage
  dsimp only
  exact ((Posts.latchReg io _).trans (.ofHf (by rfl))).trans (.raiseVector _ (Fld.of_lt _ _))

theorem Posts.coalesce (io : Io) (now n : Nat) : Posts io (io.coalesce now n) := by
  unfold Io.coalesce
  dsimp only
  split
  · exact (Posts.latchReg io _).trans (.ringMessage _ n)
  · exact (Posts.latchReg io _).trans (.ofHf (by rfl))

theorem Posts.writeEntry (io : Io) (now : Nat) {n : Nat} (hn : n < 64) (b : Bytes) : Posts io (io.writeEntry now n b) := by
  have htail (x : Out) (v : Nat) : Posts io ((io.put x).setFld (F.HIF_CQ_STAT_tail n) v) :=
    (Posts.put io x).trans (.setTail _ hn v)
  unfold Io.writeEntry
  dsimp only
  split
  · exact ((htail _ _).trans (.setPhase _ hn _)).trans (.coalesce _ now n)
  · exact (htail _ _).trans (.coalesce _ now n)

theorem Posts.complete (io : Io) (now : Nat) (c : Cpl) : Posts io (io.complete now c) := by
  unfold Io.complete
  split
  · exact .refl io
  · dsimp only
    split
    · exact .writeEntry io now (Fld.of_lt (F.HIF_SQ_CFG_cq c.sq) _) _
    · exact .ofHf rfl

theorem Posts.drain (io : Io) (now : Nat) (ok : Bool) (l : List Ev) : Posts io (io.drain now ok l) := by
  induction l generalizing io with
  | nil => exact .refl io
  | cons e es ih =>
    unfold Io.drain
    split
    · rename_i n hn
      dsimp only
      split
      · exact ((Posts.ofHf (by rfl)).trans (.writeEntry _ now (Io.eventRing_lt io n hn) _)).trans (ih _)
      · exact .refl io
    · exact .refl io

theorem Posts.event (io : Io) (now : Nat) (ok : Bool) (type : Nat) (body : Bytes) :
    Posts io (io.event now ok type body) := by
  unfold Io.event
  dsimp only
  split
  · exact (Posts.ofHf (by rfl)).trans (.drain _ now ok _)
  · exact (Posts.ofHf (by rfl)).trans (.setWord _ (by decide) (fun k _ => by simp only [F.HIF_EVT_CNT_lost]; omega) _)

theorem Posts.flushHeld (io : Io) (now : Nat) {n : Nat} (hn : n < 64) (l : List (Nat × Cpl)) :
    Posts io (io.flushHeld now n l) := by
  induction l generalizing io with
  | nil => exact .refl io
  | cons p ps ih =>
    unfold Io.flushHeld
    split
    · exact ((Posts.ofHf (by rfl)).trans (.writeEntry _ now hn _)).trans (ih _)
    · exact ih io

/-! ### A completion reaches the host, or is held -/

theorem Io.raiseVector_hf (io : Io) (v : Nat) : (io.raiseVector v).hf = io.hf := by
  unfold Io.raiseVector
  split <;> rfl

theorem Io.latchReg_hf (io : Io) (off : Nat) : (io.latchReg off).hf = io.hf := by
  unfold Io.latchReg
  split <;> rfl

theorem Io.coalesce_cqHeld (io : Io) (now n : Nat) : (io.coalesce now n).hf.cqHeld = io.hf.cqHeld := by
  unfold Io.coalesce
  dsimp only
  split
  · unfold Io.ringMessage
    dsimp only
    rw [Io.raiseVector_hf]
    show ((io.latchReg _).latchReg _).hf.cqHeld = _
    rw [Io.latchReg_hf, Io.latchReg_hf]
  · show (io.latchReg _).hf.cqHeld = _
    rw [Io.latchReg_hf]

theorem Io.writeEntry_cqHeld (io : Io) (now n : Nat) (b : Bytes) : (io.writeEntry now n b).hf.cqHeld = io.hf.cqHeld := by
  unfold Io.writeEntry
  dsimp only
  rw [Io.coalesce_cqHeld]
  split <;> rfl

/-- A written entry goes out, with the phase bit behind it. -/
theorem Io.writeEntry_out (io : Io) (now n : Nat) (b : Bytes) :
    ∃ a phase more, (io.writeEntry now n b).out = more ++ Out.dma a (b ++ [phase]) :: io.out := by
  unfold Io.writeEntry
  dsimp only
  obtain ⟨more, hmore⟩ := (Posts.coalesce _ now n).out
  refine ⟨io.cqBase n + io.fld (F.HIF_CQ_STAT_tail n) * (b ++ [BitVec.ofNat 8 (io.fld (F.HIF_CQ_ERR_phase n))]).length,
    BitVec.ofNat 8 (io.fld (F.HIF_CQ_ERR_phase n)), more, hmore.trans ?_⟩
  split <;> rfl

/-- A completion goes out or is held, as long as the host can be written to. -/
theorem Io.complete_answers (io : Io) (now : Nat) (c : Cpl) (hok : io.hostOk = true) :
    ∃ after, (io.complete now c).out = after ++ io.out ∧
      ((io.fld (F.HIF_SQ_CFG_cq c.sq), c) ∈ (io.complete now c).hf.cqHeld ∨
        ∃ a head phase, Out.dma a (c.bytes head ++ [phase]) ∈ after) := by
  unfold Io.complete
  rw [if_neg (by simp [hok])]
  dsimp only
  split
  · obtain ⟨a, phase, more, hout⟩ := Io.writeEntry_out io now (io.fld (F.HIF_SQ_CFG_cq c.sq))
      (c.bytes (io.fld (F.HIF_SQ_STAT_head c.sq)))
    refine ⟨more ++ [Out.dma a (c.bytes (io.fld (F.HIF_SQ_STAT_head c.sq)) ++ [phase])], by rw [hout]; simp, .inr ⟨a, io.fld (F.HIF_SQ_STAT_head c.sq), phase, by simp⟩⟩
  · exact ⟨[], rfl, .inl (by simp)⟩

end Sys2Proof.Machine
end

-- ==== Ring commands (16_host_rings) ====
section
/-!
SUPPORT. The fetch of a descriptor, the common checks and the answer: one rule for every ring command.
-/

namespace Sys2Proof.Machine

/-! ### A ring command: fetched, checked, answered (R462, R471, R472) -/

/-- The state that a command of descriptor `c` finds: the instant has come, and the descriptor is fetched. -/
def State.found (s : State) (t : Nat) (c : Cmd) : State := { s.at t with io := s.io.fetched c.sq.val }

theorem State.found_word (s : State) (t : Nat) (c : Cmd) {off : Nat} (h : off ≠ 0x05100C + 0x20 * c.sq.val) :
    (s.found t c).word off = s.word off := Io.word_setWord_ne s.io _ h.symm

theorem State.found_fld (s : State) (t : Nat) (c : Cmd) {f : Fld} (h : f.off ≠ 0x05100C + 0x20 * c.sq.val) :
    (s.found t c).fld f = s.fld f := congrArg f.of (s.found_word t c h)

theorem HostOnly.found (s : State) (t : Nat) (c : Cmd) (l : List Nat) : HostOnly s (s.found t c) l := by
  refine ⟨rfl, fun off hhif _ => s.found_word t c ?_⟩
  have hsq := c.sq.isLt
  unfold offHif at hhif
  omega

/-- What a command's own rules leave for its answer: the host can be written to, the rings are as they were, and nothing
that went out is taken back. -/
structure Reaches (a b : Io) : Prop where
  host : b.hostOk = a.hostOk
  ring : ∀ n < 64, b.word (0x051008 + 0x20 * n) = a.word (0x051008 + 0x20 * n)
  out : ∃ more, b.out = more ++ a.out

theorem Reaches.refl (io : Io) : Reaches io io := ⟨rfl, fun _ _ => rfl, ⟨[], rfl⟩⟩

theorem Reaches.trans {a b c : Io} (h : Reaches a b) (h' : Reaches b c) : Reaches a c := by
  obtain ⟨hhost, hring, ⟨more, hout⟩⟩ := h
  obtain ⟨hhost', hring', ⟨more', hout'⟩⟩ := h'
  exact ⟨hhost'.trans hhost, fun n hn => (hring' n hn).trans (hring n hn),
    ⟨more' ++ more, by rw [hout', hout, List.append_assoc]⟩⟩

theorem Posts.reaches {a b : Io} (h : Posts a b) : Reaches a b := by
  refine ⟨?_, fun n hn => h.word _ (by rw [postedAt_eq_false]; omega), h.out⟩
  have hlost := congrArg Hif.lost h.hf
  have hmaster := congrArg Hif.busMaster h.hf
  dsimp only at hlost hmaster
  unfold Io.hostOk
  rw [hlost, hmaster, h.fld (f := F.HIF_STAT_link_up) (by decide)]

theorem Reaches.setWord (io : Io) {off : Nat} (h : off ≠ 0x050000 ∧ (off < 0x051008 ∨ 0x052000 ≤ off)) (w : Word) :
    Reaches io (io.setWord off w) := by
  refine ⟨?_, fun n hn => Io.word_setWord_ne io w (by omega), ⟨[], rfl⟩⟩
  have hlink : (io.setWord off w).fld F.HIF_STAT_link_up = io.fld F.HIF_STAT_link_up :=
    congrArg F.HIF_STAT_link_up.of (Io.word_setWord_ne io w h.1)
  unfold Io.hostOk
  rw [hlink]
  rfl

theorem State.found_reaches (s : State) (t : Nat) (c : Cmd) : Reaches s.io (s.found t c).io := by
  refine ⟨?_, fun n hn => s.found_word t c (by omega), ⟨[], rfl⟩⟩
  have hlink := s.found_fld t c (f := F.HIF_STAT_link_up) (by simp only [F.HIF_STAT_link_up]; omega)
  unfold Io.hostOk
  rw [show (s.found t c).io.fld F.HIF_STAT_link_up = s.io.fld F.HIF_STAT_link_up from hlink]
  rfl

theorem Io.writes_eq (io : Io) (ws : List (Nat × Bytes)) :
    io.writes ws = { io with out := (ws.map fun w => Out.dma w.1 w.2).reverse ++ io.out } := by
  induction ws generalizing io with
  | nil => rfl
  | cons w ws ih =>
    rw [Io.writes, ih]
    simp [Io.put]

theorem Posts.writes (io : Io) (ws : List (Nat × Bytes)) : Posts io (io.writes ws) := by
  rw [Io.writes_eq]
  exact ⟨fun _ _ => rfl, fun _ _ _ _ _ _ => rfl, ⟨_, rfl⟩, rfl, rfl, rfl⟩

/-- The state behind an answer: the result writes, then the completion. -/
def Reply.posted (r : Reply) (c : Cmd) (st : Nat) : State :=
  ({ r.st with io := r.st.io.writes r.writes }).complete
    { sq := c.sq.val, tag := c.tag.toNat, status := st, result := r.result, gen := c.gen.toNat }

theorem Reply.posted_eq (r : Reply) (c : Cmd) (st : Nat) :
    ∃ io, r.posted c st = { r.st with io := io } ∧ Posts r.st.io io :=
  ⟨_, rfl, (Posts.writes _ _).trans (.complete _ _ _)⟩

theorem HostOnly.posted {s : State} {l : List Nat} {r : Reply} (h : HostOnly s r.st l) (c : Cmd) (st : Nat) :
    HostOnly s (r.posted c st) l := by
  refine ⟨h.1, fun off hhif hoff => (State.complete_word _ _ off hhif).trans ?_⟩
  rw [Io.writes_eq]
  exact h.2 off hhif hoff

/-- The answer goes out: the writes in order, then the completion, unless that is held. -/
theorem Reply.posted_answered {s : State} {r : Reply} {c : Cmd} (h : Reaches s.io r.st.io) (hok : s.io.hostOk = true)
    (hws : r.writes = [] ∨ r.st.io.out = s.io.out) (st : Nat) :
    Answered s (r.posted c st) c st r.writes r.result := by
  obtain ⟨hhost, hring, more, hout⟩ := h
  have hsq := c.sq.isLt
  obtain ⟨after, hafter, hcase⟩ := Io.complete_answers (r.st.io.writes r.writes) r.st.now
    { sq := c.sq.val, tag := c.tag.toNat, status := st, result := r.result, gen := c.gen.toNat }
    (by rw [Io.writes_eq]; exact hhost.trans hok)
  have hcq : (r.st.io.writes r.writes).fld (F.HIF_SQ_CFG_cq c.sq.val) = s.fld (F.HIF_SQ_CFG_cq c.sq.val) := by
    rw [Io.writes_eq]
    exact congrArg (F.HIF_SQ_CFG_cq c.sq.val).of (hring _ hsq)
  rw [hcq] at hcase
  rcases hws with hws | hws
  · refine ⟨after ++ more, ?_, hcase.imp_right fun ⟨a, head, phase, hmem⟩ => ⟨a, head, phase, List.mem_append_left _ hmem⟩⟩
    refine hafter.trans ?_
    rw [Io.writes_eq, hws, hout]
    simp
  · refine ⟨after, ?_, hcase⟩
    refine hafter.trans ?_
    rw [Io.writes_eq, hws, List.append_assoc]

/-- A DEFERRED command is kept for its final completion. -/
def State.waits (s : State) (d : Dfr) : State :=
  { s with io := { s.io with hf := { s.io.hf with deferred := s.io.hf.deferred ++ [d] } } }

/-- What a command of a command ring is answered with: one completion, behind it, where it is DEFERRED, the record of it
that waits. -/
theorem deliver_command {c : Cmd} {op serial : Nat} {r : Reply} {st : Nat}
    (hkind : r.st.fld (F.HIF_SQ_CFG_kind c.sq.val) = 0) (hfail : c.wrFail = false) (hst : r.status = some st) :
    deliver c op serial r =
      if st = stDEFERRED then
        (r.posted c st).waits
          { sq := c.sq.val, idx := serial, gen := c.gen.toNat, tag := c.tag.toNat, opcode := op, key := r.key }
      else r.posted c st := by
  have hkind' : ({ r.st with io := r.st.io.writes r.writes } : State).fld (F.HIF_SQ_CFG_kind c.sq.val) = 0 := by
    rw [Io.writes_eq]
    exact hkind
  unfold deliver
  simp only [hfail, Bool.false_and, Bool.false_eq_true, if_false, hst, hkind', Nat.zero_ne_one, false_and,
    show (0 : Nat) ≠ 2 by decide]
  rfl

theorem checked_passes {c : Cmd} {op : Nat} {s : State} {kind : RingKind} {h : State → Reply}
    (hgen : c.gen.toNat = s.fld F.HIF_GEN_gen) (hflags : c.b3.toNat / 2 = 0) (hop : op ∈ opcodes)
    (hkind : s.fld (F.HIF_SQ_CFG_kind c.sq.val) = kind.code)
    (hmode : modeStatus s.pw.mode op = none) :
    checked c op kind s h = h s := by
  simp [checked, hgen, hflags, hop, hkind, hmode]

theorem ringRun_fetched {s : State} {t op : Nat} {c : Cmd} {kind : RingKind} {h : State → Reply}
    (hfetch : s.canFetch c = true) (hdoze : s.pw.mode = .doze → op ∈ opcodesDoze) :
    ringRun op kind c h (s.at t) = deliver c op s.io.hf.serial (checked c op kind (s.found t c) h) := by
  have hdoze' : ((s.at t).pw.mode == .doze && !opcodesDoze.contains op) = false := by
    by_cases hm : s.pw.mode = .doze
    · simp [State.at, hm, hdoze hm]
    · simp [State.at, hm]
  unfold ringRun
  rw [show (s.at t).canFetch c = true from hfetch, hdoze']
  rfl

theorem State.canFetch_hostOk {s : State} {c : Cmd} (h : s.canFetch c = true) : s.io.hostOk = true := by
  simp only [State.canFetch, State.fetchable, Bool.and_eq_true] at h
  tauto

/-- A command of a command ring that passes the common checks is answered as its own rules say. -/
theorem ringCommand_served {s : State} {t op st : Nat} {c : Cmd} {h : State → Reply} {r : Reply}
    (hready : Ready s c .command) (hop : op ∈ opcodes) (hmode : modeStatus s.pw.mode op = none)
    (hdoze : s.pw.mode = .doze → op ∈ opcodesDoze) (hr : h (s.found t c) = r) (hst : r.status = some st)
    (hreach : Reaches (s.found t c).io r.st.io) :
    ringRun op .command c h (s.at t) =
      if st = stDEFERRED then
        (r.posted c st).waits
          { sq := c.sq.val, idx := s.io.hf.serial, gen := c.gen.toNat, tag := c.tag.toNat, opcode := op, key := r.key }
      else r.posted c st := by
  obtain ⟨hfetch, -, hgen, hflags, hkind, hfail⟩ := hready
  have hsq := c.sq.isLt
  have hgen' : c.gen.toNat = (s.found t c).fld F.HIF_GEN_gen :=
    hgen.trans (s.found_fld t c (by simp only [F.HIF_GEN_gen]; omega)).symm
  have hkind' : (s.found t c).fld (F.HIF_SQ_CFG_kind c.sq.val) = 0 :=
    (s.found_fld t c (by simp only [F.HIF_SQ_CFG_kind]; omega)).trans hkind
  have hkind'' : r.st.fld (F.HIF_SQ_CFG_kind c.sq.val) = 0 :=
    (congrArg (F.HIF_SQ_CFG_kind c.sq.val).of (hreach.ring _ hsq)).trans hkind'
  rw [ringRun_fetched hfetch hdoze, checked_passes (kind := .command) hgen' hflags hop hkind' hmode, hr, deliver_command hkind'' hfail hst]

/-- The same, in one statement: the command is answered, and but for the host interface the state is the one that its
own rules leave. -/
theorem ringCommand_answered {s : State} {t op st : Nat} {c : Cmd} {h : State → Reply} {r : Reply} {l : List Nat} {v : State}
    (hready : Ready s c .command) (hop : op ∈ opcodes) (hmode : modeStatus s.pw.mode op = none)
    (hdoze : s.pw.mode = .doze → op ∈ opcodesDoze) (hr : h (s.found t c) = r) (hst : r.status = some st)
    (hreach : Reaches (s.found t c).io r.st.io) (hdef : st ≠ stDEFERRED) (hq : r.st.pending = s.pending)
    (hws : r.writes = [] ∨ r.st.io.out = s.io.out) (hhost : HostOnly v r.st l) :
    ∃ u, run t s (ringRun op .command c h) = .next u ∧ Answered s u c st r.writes r.result ∧ HostOnly v u l ∧
      u = r.posted c st := by
  have hrun := ringCommand_served hready hop hmode hdoze hr hst hreach
  rw [if_neg hdef] at hrun
  obtain ⟨hfetch, -⟩ := hready
  exact ⟨_, run_eq_next hrun hq, Reply.posted_answered ((s.found_reaches t c).trans hreach) (State.canFetch_hostOk hfetch)
    hws st, hhost.posted c st, rfl⟩

/-- A DEFERRED command is answered so, and waits. -/
theorem ringCommand_deferred {s : State} {t op : Nat} {c : Cmd} {h : State → Reply} {r : Reply} {l : List Nat} {v : State}
    (hready : Ready s c .command) (hop : op ∈ opcodes) (hmode : modeStatus s.pw.mode op = none)
    (hdoze : s.pw.mode = .doze → op ∈ opcodesDoze) (hr : h (s.found t c) = r) (hst : r.status = some stDEFERRED)
    (hreach : Reaches (s.found t c).io r.st.io) (hdef : r.st.io.hf.deferred = s.io.hf.deferred)
    (hq : r.st.pending = s.pending) (hws : r.writes = []) (hresult : r.result = 0) (hhost : HostOnly v r.st l) :
    ∃ u, run t s (ringRun op .command c h) = .next u ∧ Deferred s u c op r.key ∧ HostOnly v u l ∧
      u = (r.posted c stDEFERRED).waits
        { sq := c.sq.val, idx := s.io.hf.serial, gen := c.gen.toNat, tag := c.tag.toNat, opcode := op, key := r.key } := by
  have hrun := ringCommand_served hready hop hmode hdoze hr hst hreach
  rw [if_pos rfl] at hrun
  obtain ⟨hfetch, -⟩ := hready
  have hans := Reply.posted_answered (c := c) ((s.found_reaches t c).trans hreach) (State.canFetch_hostOk hfetch)
    (.inl hws) stDEFERRED
  obtain ⟨io, hposted, hposts⟩ := r.posted_eq c stDEFERRED
  have hkept := congrArg Hif.deferred hposts.hf
  dsimp only at hkept
  refine ⟨_, run_eq_next hrun hq, ⟨?_, ?_⟩, hhost.posted c stDEFERRED, rfl⟩
  · rw [hws, hresult] at hans
    exact hans
  · show (r.posted c stDEFERRED).io.hf.deferred ++ _ = _
    rw [hposted]
    show io.hf.deferred ++ _ = _
    rw [hkept, hdef]

end Sys2Proof.Machine
end

-- ==== Blocks in host memory (R232) ====
section
/-!
SUPPORT. The rules of a run over blocks: a good block is passed, a bad one ends it.
-/

namespace Sys2Proof.Machine



theorem runBlocks_cons_ok (f : State → Bytes → BlockReply) (base size statusAt : Nat) (b : Bytes) (bs : List Bytes)
    (s : State) (ws : List (Nat × Bytes)) (hok : (f s b).status = stOK) (hws : (f s b).writes = []) :
    runBlocks false f base size statusAt (b :: bs) s ws =
      runBlocks false f (base + size) size statusAt bs (f s b).st ((base + statusAt, toLE 1 stOK) :: ws) := by
  simp [runBlocks, hok, hws]

theorem runBlocks_cons_bad (f : State → Bytes → BlockReply) (base size statusAt : Nat) (b : Bytes) (bs : List Bytes)
    (s : State) (ws : List (Nat × Bytes)) (hbad : (f s b).status ≠ stOK) (hws : (f s b).writes = []) :
    runBlocks false f base size statusAt (b :: bs) s ws =
      { status := some (f s b).status, st := (f s b).st
        writes := ws.reverse ++ [(base + statusAt, toLE 1 (f s b).status)] } := by
  simp [runBlocks, hbad, hws]

/-- Good blocks before a bad one: their statuses are written in order, and the run goes on behind them. -/
theorem runBlocks_append_ok (f : State → Bytes → BlockReply) (base size statusAt : Nat) (good bs : List Bytes)
    (s : State) (ws : List (Nat × Bytes)) (hgood : ∀ u b, b ∈ good → (f u b).status = stOK ∧ (f u b).writes = []) :
    runBlocks false f base size statusAt (good ++ bs) s ws =
      runBlocks false f (base + good.length * size) size statusAt bs (good.foldl (fun u b => (f u b).st) s)
        (((List.range good.length).map fun k => (base + k * size + statusAt, toLE 1 stOK)).reverse ++ ws) := by
  induction good generalizing base s ws with
  | nil => simp
  | cons b good ih =>
    obtain ⟨hok, hws⟩ := hgood s b (by simp)
    rw [List.cons_append, runBlocks_cons_ok f _ _ _ _ _ _ _ hok hws,
      ih _ _ _ fun u x hx => hgood u x (List.mem_cons_of_mem _ hx)]
    have hbase (k : Nat) : base + size + k * size = base + (k + 1) * size := by ring
    simp [List.range_succ_eq_map, hbase, Function.comp_def]

/-- Settles O5: the good blocks run one behind the other, and the bad one ends the run. -/
theorem blocksUpToTheFirstFailure : Obligations.BlocksUpToTheFirstFailure := by
  intro f base size statusAt good bad rest s hgood hbad hws
  simp [runBlocks_append_ok f base size statusAt good (bad :: rest) s [] hgood,
    runBlocks_cons_bad f _ size statusAt bad rest _ _ (hbad _) (hws _)]

end Sys2Proof.Machine
end

-- ==== The real-time clock (04_rtc_backup) ====
section
/-!
SUPPORT. Its commands, its tick, its alarms, its trim and its cell.
-/

namespace Sys2Proof.Machine

/-- A write of the host through BAR0 acts while BAR0 is reachable. -/
theorem hostWrites_eq_next {t : Nat} {s u : State} {f : State → State} (hbar : s.barUp = true)
    (h : f (s.at t) = u) (hq : u.pending = s.pending) : run t s (fun s => s.hostWrites f) = .next u :=
  run_eq_next ((if_pos (show (s.at t).barUp = true from hbar)).trans h) hq

theorem rtcCmd_one {s : State} {w : Word} {a : RtcAct} (ha : a ≠ .shift (-32768))
    (h : (if bitsN w.toNat 15 0 ≠ 0 then [RtcAct.shift (signedN 16 (bitsN w.toNat 15 0))] else []) ++
        (if bitN w.toNat 16 then [.addHour] else []) ++ (if bitN w.toNat 17 then [.subHour] else []) ++
        (if bitN w.toNat 18 then [.clearMark] else []) = [a]) :
    s.rtcCmd w = { s with rt := { s.rt with act := some a } } := by
  unfold State.rtcCmd
  simp only [h, if_neg ha]

/-- A word of 16 bits holds a shift and none of the other actions. -/
theorem rtcCmd_shift (s : State) (n : BitVec 16) (hn : n ≠ 0#16) :
    s.rtcCmd (n.setWidth 32) =
      if n.toInt = -32768 then s.setFld F.RTC_STAT_cmd_err 1
      else { s with rt := { s.rt with act := some (.shift n.toInt) } } := by
  have hlt := n.isLt
  have hval : (n.setWidth 32).toNat = n.toNat := by simp; omega
  have hlow : bitsN n.toNat 15 0 = n.toNat := by simp [bitsN]; omega
  have hhigh (k : Nat) (hk : 16 ≤ k) : bitN n.toNat k = false := by
    have : n.toNat / 2 ^ k = 0 := Nat.div_eq_of_lt (hlt.trans_le (Nat.pow_le_pow_right (by decide) hk))
    simp [bitN, this]
  have hne : n.toNat ≠ 0 := fun h => hn (BitVec.eq_of_toNat_eq h)
  have hint : signedN 16 n.toNat = n.toInt := by
    rw [BitVec.toInt_eq_toNat_cond]
    simp only [signedN]
    omega
  unfold State.rtcCmd
  simp [hval, hlow, hhigh, hne, hint]

/-- Settles O9: each write leaves its action pending (R104, R110, R111). -/
theorem rtcCommandsWaitForTheTick : Obligations.RtcCommandsWaitForTheTick := by
  intro t s hbar
  refine ⟨fun hi => ?set, fun n hn hmin => ?shift, ?addHour, ?subHour, ?clearMark, ?invalid⟩
  case set =>
    refine hostWrites_eq_next hbar ?_ rfl
    have hlo : bitsN hi.toNat 15 0 = hi.toNat % 65536 := by simp [bitsN]
    have hfrac : bitsN hi.toNat 30 16 = hi.toNat / 65536 % 32768 := rfl
    simp only [State.rtcSet, hlo, hfrac]
    cases hheld : Tbl.get? s.io.heldLo 0x030004 <;> simp [State.at, hheld]
  case shift =>
    have hmin' : n.toInt ≠ -32768 := fun h => hmin (BitVec.eq_of_toInt_eq (h.trans (by decide)))
    exact hostWrites_eq_next hbar ((rtcCmd_shift _ n hn).trans (if_neg hmin')) rfl
  case addHour => exact hostWrites_eq_next hbar (rtcCmd_one (w := 0x10000#32) (by simp) (by decide)) rfl
  case subHour => exact hostWrites_eq_next hbar (rtcCmd_one (w := 0x20000#32) (by simp) (by decide)) rfl
  case clearMark => exact hostWrites_eq_next hbar (rtcCmd_one (w := 0x40000#32) (by simp) (by decide)) rfl
  case invalid =>
    obtain ⟨hfld, hregs⟩ := State.setFld_effect s t F.RTC_STAT_cmd_err 1 (by decide) (by decide)
    exact ⟨_, hostWrites_eq_next hbar ((rtcCmd_shift _ 0x8000#16 (by decide)).trans (if_pos (by decide))) rfl, hfld, hregs⟩

/-! ### A backup tick (R103, R104, R106) -/

theorem State.setTime_rtc (s : State) {new : Int} (h : 0 ≤ new) : (s.setTime new).rtc = new := by
  have hdm := Nat.div_add_mod' new.toNat 32768
  simp only [State.rtc, State.setTime, hdm, Int.toNat_of_nonneg h]

/-- `u` differs from `s` in the clock's state alone, and neither in the time, nor in the offset, nor in the set that
waits. -/
def SameTime (s u : State) : Prop :=
  { u with rt := s.rt } = s ∧ u.rt.sec = s.rt.sec ∧ u.rt.frac = s.rt.frac ∧ u.rt.offset = s.rt.offset ∧
    u.rt.setNext = s.rt.setNext

theorem SameTime.rtc {s u : State} (h : SameTime s u) : u.rtc = s.rtc := by
  obtain ⟨-, hsec, hfrac, -⟩ := h
  simp only [State.rtc, hsec, hfrac]

theorem SameTime.trans {s u v : State} (h : SameTime s u) (h' : SameTime u v) : SameTime s v := by
  obtain ⟨hparts, hsec, hfrac, hofs, hset⟩ := h
  obtain ⟨hparts', hsec', hfrac', hofs', hset'⟩ := h'
  refine ⟨?_, hsec'.trans hsec, hfrac'.trans hfrac, hofs'.trans hofs, hset'.trans hset⟩
  rw [← hparts, ← hparts']

theorem SameTime.alarms (s : State) (old new oldCal newCal : Int) (jump : Bool) :
    SameTime s (s.alarms old new oldCal newCal jump) := ⟨rfl, rfl, rfl, rfl, rfl⟩

theorem SameTime.repeatEnds (s : State) : SameTime s s.repeatEnds := by
  unfold State.repeatEnds
  split
  · split <;> exact ⟨rfl, rfl, rfl, rfl, rfl⟩
  · exact ⟨rfl, rfl, rfl, rfl, rfl⟩

/-- With no change of the offset waiting, the time goes on and nothing beside the clock's state changes. -/
theorem SameTime.goesOn (s : State) (new : Int) (hact : s.rt.act = none) (hofs : s.rt.offsetNext = none) :
    SameTime (s.setTime new) (s.goesOn new) := by
  have hsecond : (s.setTime new).wholeSecond s.calSec = s.setTime new := by
    simp [State.wholeSecond, State.setTime, hact, hofs]
  unfold State.goesOn
  dsimp only
  split
  · exact .alarms _ _ _ _ _ _
  · rw [hsecond]
    exact .alarms _ _ _ _ _ _

/-- The end of a tick: the repeated hour may be over, and the trim's position moves on. -/
def State.tickEnds (s : State) : State :=
  let s := s.repeatEnds
  if s.rt.tick + 1 = 2 ^ 21 then s.newWindow else { s with rt := { s.rt with tick := s.rt.tick + 1 } }

theorem SameTime.tickEnds (s : State) : SameTime s s.tickEnds := by
  refine (SameTime.repeatEnds s).trans ?_
  unfold State.tickEnds
  dsimp only
  split <;> exact ⟨rfl, rfl, rfl, rfl, rfl⟩

theorem State.rtc_nonneg (s : State) : 0 ≤ s.rtc := Int.natCast_nonneg _

/-- A tick with nothing waiting advances the time. -/
theorem State.backupTick_advance (s : State) (hwr : s.rt.wr = []) (hset : s.rt.setNext = none) (hact : s.rt.act = none) :
    s.backupTick = (s.goesOn (s.rtc + trimStep s.rt.tick s.rt.pulses s.rt.skip)).tickEnds := by
  obtain ⟨_, _, _, _, _, _, ⟨_, _⟩, _⟩ := s
  dsimp only at hwr hset hact
  subst hwr hset hact
  rfl

/-- The set of the time that waits, taking effect. -/
def State.setTakes (s : State) (sec frac : Nat) : State :=
  let u := s.anchorsBy ((sec * 32768 + frac : Nat) - (s.rtc + trimStep s.rt.tick s.rt.pulses s.rt.skip))
  (({ u with rt := { u.rt with setNext := none } }.setFld F.RTC_STAT_time_lost 0).setFld F.RTC_STAT_xtal_gap 0).setTime
    (sec * 32768 + frac : Nat)

/-- A tick with a set waiting applies it. -/
theorem State.backupTick_set (s : State) {sec frac : Nat} (hwr : s.rt.wr = []) (hset : s.rt.setNext = some (sec, frac))
    (hact : s.rt.act ≠ some .clearMark) : ∃ oldCal newCal, s.backupTick =
      ((s.setTakes sec frac).alarms s.rtc (sec * 32768 + frac : Nat) oldCal newCal true).tickEnds := by
  refine ⟨s.calSec, ((sec * 32768 + frac : Nat) : Int) / 32768 + s.rt.offset, ?_⟩
  obtain ⟨_, _, _, _, _, _, ⟨_, _, _, _, _, act, _⟩, _⟩ := s
  dsimp only at hwr hset hact
  subst hwr hset
  rcases act with _ | a
  · rfl
  · cases a with
    | clearMark => exact absurd rfl hact
    | shift | addHour | subHour => rfl

theorem State.setTakes_time (s : State) {sec frac : Nat} (hfrac : frac < 32768) :
    (s.setTakes sec frac).rt.sec = sec ∧ (s.setTakes sec frac).rt.frac = frac := by
  simp only [State.setTakes, State.setTime, Int.toNat_natCast]
  omega

theorem State.setTakes_io (s : State) (sec frac : Nat) :
    (s.setTakes sec frac).io = ((s.setFld F.RTC_STAT_time_lost 0).setFld F.RTC_STAT_xtal_gap 0).io := rfl

/-- Settles O10: a tick ends with the time that it set; nothing after that touches it. -/
theorem backupTickAdvancesOrSets : Obligations.BackupTickAdvancesOrSets := by
  intro t s hwr
  refine ⟨fun hset hact hofs => ?advance, fun sec frac hset hfrac hact => ?set⟩
  case advance =>
    have hnew : 0 ≤ s.rtc + trimStep s.rt.tick s.rt.pulses s.rt.skip := by have := s.rtc_nonneg; omega
    have htick := State.backupTick_advance (s.at t) hwr hset hact
    have hsame := (SameTime.goesOn (s.at t) (s.rtc + trimStep s.rt.tick s.rt.pulses s.rt.skip) hact hofs).trans (.tickEnds _)
    have hrtc := hsame.rtc
    obtain ⟨hparts, -, -, hofs', -⟩ := hsame
    have hpending := congrArg State.pending hparts
    refine ⟨_, run_eq_next htick hpending, hrtc.trans (State.setTime_rtc _ hnew), hofs', ?_⟩
    exact congrArg (fun u : State => { u with rt := s.rt, now := s.now }) hparts
  case set =>
    obtain ⟨oldCal, newCal, htick⟩ := State.backupTick_set (s.at t) hwr hset hact
    have hsame := (SameTime.alarms ((s.at t).setTakes sec frac) (s.at t).rtc (sec * 32768 + frac : Nat) oldCal newCal
      true).trans (.tickEnds _)
    obtain ⟨hsec, hfr⟩ := State.setTakes_time (s.at t) (sec := sec) hfrac
    obtain ⟨hparts, hsec', hfrac', -, hset'⟩ := hsame
    have hpending := congrArg State.pending hparts
    have hml := congrArg State.ml hparts
    have hio := (congrArg State.io hparts).trans (State.setTakes_io (s.at t) sec frac)
    refine ⟨_, run_eq_next htick hpending, hsec'.trans hsec, hfrac'.trans hfr, hset', ?_, ?_, hml, fun off hhif hoff => ?_⟩
    · rw [State.fld, hio]
      exact (State.fld_setFld_bits _ _ _ _ (by decide) (by decide)).trans (State.fld_setFld_self _ _ _ (by decide))
    · rw [State.fld, hio]
      exact State.fld_setFld_self _ _ _ (by decide)
    · have hne : 0x030000 ≠ off := fun h => hoff (by simp [h])
      rw [State.word, hio]
      exact (State.word_setFld_off _ _ _ hne).trans (State.word_setFld_off _ _ _ hne)


/-! ### The alarms, the trim and the cell (R112 to R117, R122) -/

/-- The field that records an alarm, and the one that records that it was late. -/
def alarmFields (one : Bool) : Fld × Fld :=
  if one then (F.RTC_ALM_STAT_fired1, F.RTC_ALM_STAT_late1) else (F.RTC_ALM_STAT_fired0, F.RTC_ALM_STAT_late0)

/-- An alarm recorded in its fields. -/
def State.alarmRecorded (s : State) (one late : Bool) : State :=
  (s.setFld (alarmFields one).1 1).setFld (alarmFields one).2 late.toNat

/-- An alarm that fires with the device awake is recorded, with an event in Full and Dawn. -/
theorem State.alarmFired_awake (s : State) (one late : Bool) (x : Straps) (hhib : s.pw.mode ≠ .hibernate)
    (hdoze : s.pw.mode ≠ .doze) (hhold : s.pw.hold = none) :
    s.alarmFired one late x = (s.alarmRecorded one late).when (decide (s.pw.mode = .full ∨ s.pw.mode = .dawn))
      (·.event 0x03 (toLE 1 one.toNat ++ toLE 1 late.toNat)) := by
  unfold State.alarmFired State.alarmRecorded
  cases one <;> cases hmode : s.pw.mode <;> simp_all [State.dozeWake, State.when, alarmFields]

theorem State.alarmRecorded_fld (s : State) (one late : Bool) :
    (s.alarmRecorded one late).fld (alarmFields one).1 = 1 ∧
      (s.alarmRecorded one late).fld (alarmFields one).2 = late.toNat := by
  unfold State.alarmRecorded
  cases one <;> simp (disch := decide) [alarmFields, State.fld_setFld_eq, State.fld_setFld_bool, State.fld_setFld_bits]

/-- What an alarm that fires with the device awake leaves. -/
theorem State.alarmFired_effect {s u : State} {l : List Nat} (one late : Bool) (x : Straps)
    (hhib : u.pw.mode ≠ .hibernate) (hdoze : u.pw.mode ≠ .doze) (hhold : u.pw.hold = none) (h : HostOnly s u l)
    (hl : 0x03002C ∈ l) :
    let v := u.alarmFired one late x
    v.fld (alarmFields one).1 = 1 ∧ v.fld (alarmFields one).2 = late.toNat ∧
      v.fld F.RTC_ALM0_HI_enable = u.fld F.RTC_ALM0_HI_enable ∧ v.rt = u.rt ∧ v.pending = u.pending ∧ HostOnly s v l := by
  obtain ⟨hfired, hlate⟩ := u.alarmRecorded_fld one late
  have hoff : (alarmFields one).1.off = 0x03002C ∧ (alarmFields one).2.off = 0x03002C := by cases one <;> exact ⟨rfl, rfl⟩
  have hrec : HostOnly s (u.alarmRecorded one late) l :=
    (h.setFld (by rw [hoff.1]; exact hl) _).setFld (by rw [hoff.2]; exact hl) _
  have henable : (u.alarmRecorded one late).fld F.RTC_ALM0_HI_enable = u.fld F.RTC_ALM0_HI_enable := by
    unfold State.alarmRecorded
    rw [State.fld_setFld_off _ _ _ _ (by rw [hoff.2]; decide), State.fld_setFld_off _ _ _ _ (by rw [hoff.1]; decide)]
  rw [State.alarmFired_awake u one late x hhib hdoze hhold]
  unfold State.when
  split
  · refine ⟨?_, ?_, ?_, rfl, rfl, hrec.event _ _⟩
    · exact (State.fld_event _ _ _ _ (by rw [hoff.1]; decide)).trans hfired
    · exact (State.fld_event _ _ _ _ (by rw [hoff.2]; decide)).trans hlate
    · exact (State.fld_event _ _ _ _ (by decide)).trans henable
  · exact ⟨hfired, hlate, henable, rfl, rfl, hrec⟩

/-- The error of a window's count is beyond the trim's range (R117). -/
def trimSat (count : Nat) : Bool := decide (4878 * count < (2560000000 - (count : Int)).natAbs * 10000000)

/-- The trim that a window's count gives (R117). -/
def trimPulses (count : Nat) : Nat :=
  if trimSat count then 1023
  else min 1023 ((2 * (2560000000 - (count : Int)).natAbs * 10 ^ 12 + count * 476837) / (2 * count * 476837))

theorem trimPulses_lt (count : Nat) : trimPulses count < 1024 := by
  unfold trimPulses
  split <;> omega

theorem State.trimWindow_eq (s : State) {count : Nat} (hpow : s.powered = true) (hauto : s.flag F.RTC_TRIM_auto = true)
    (hcount : 0 < count) :
    s.trimWindow count true =
      ((s.setFld F.RTC_TRIM_pulses (trimPulses count)).setFld F.RTC_TRIM_dir (decide (count < 2560000000)).toNat).setFld
        F.RTC_STAT_trim_sat (trimSat count).toNat := by
  have hdir : decide (0 < (2560000000 : Int) - count) = decide (count < 2560000000) := by
    rw [decide_eq_decide]; omega
  unfold State.trimWindow
  simp only [hpow, hauto, hdir, beq_eq_false_iff_ne.mpr hcount.ne', Bool.not_true, Bool.or_false]
  rfl

/-- Settles O11. -/
theorem alarmsTrimAndCell : Obligations.AlarmsTrimAndCell := by
  intro t x s
  refine ⟨fun late hdue hhib hdoze hhold => ?alarm0, fun late m hdue hhib hdoze hhold => ?alarm1,
    fun count hpow hauto hcount => ?trim, fun mv hpow => ?cell⟩
  case alarm0 =>
    let v : State := { s.at t with rt := { s.rt with due0 := none } }
    have hv : HostOnly { s with rt := v.rt } (v.setFld F.RTC_ALM0_HI_enable 0) [0x03002C, 0x030024] :=
      (HostOnly.at { s with rt := v.rt } t _).setFld (by decide) _
    obtain ⟨hfired, hlate, henable, hrt, hpending, hhost⟩ :=
      State.alarmFired_effect (u := v.setFld F.RTC_ALM0_HI_enable 0) false late x hhib hdoze hhold hv (by decide)
    have hrun : (s.at t).alarm0 x = (v.setFld F.RTC_ALM0_HI_enable 0).alarmFired false late x := by
      unfold State.alarm0
      rw [show (s.at t).rt.due0 = some late from hdue]
      rfl
    refine ⟨_, run_eq_next (s := s) (f := fun s => s.alarm0 x) hrun hpending, hfired, hlate, ?_, ?_, ?_⟩
    · exact henable.trans (State.fld_setFld_self _ _ _ (by decide))
    · rw [hrt]; rfl
    · rw [hrt]; exact hhost
  case alarm1 =>
    let v : State := { s.at t with rt := { s.rt with due1 := none, mark := some m } }
    obtain ⟨hfired, hlate, -, hrt, hpending, hhost⟩ :=
      State.alarmFired_effect (u := v) true late x hhib hdoze hhold (HostOnly.at { s with rt := v.rt } t [0x03002C])
        (by decide)
    have hrun : (s.at t).alarm1 x = v.alarmFired true late x := by
      unfold State.alarm1
      rw [show (s.at t).rt.due1 = some (late, m) from hdue]
      rfl
    refine ⟨_, run_eq_next (s := s) (f := fun s => s.alarm1 x) hrun hpending, hfired, hlate, hrt, ?_⟩
    rw [hrt]; exact hhost
  case trim =>
    have hrun := State.trimWindow_eq (s.at t) hpow hauto hcount
    refine ⟨_, run_eq_next (f := fun s => s.trimWindow count true) hrun rfl, ?_, fun hsat => ⟨?_, ?_⟩, ?_⟩
    · simp (disch := decide) only [State.fld_setFld_bool, State.fld_setFld_off]
    · simp (disch := decide) only [State.fld_setFld_off, State.fld_setFld_bits]
      rw [State.fld_setFld_eq _ (by decide) (trimPulses_lt count)]
      simp [trimPulses, trimSat, hsat]
    · rw [State.fld_setFld_bool _ (by decide) (by decide)]
      simp [trimSat, hsat]
    · exact (((RegsOnly.at s t _).setFld (by decide) _).setFld (by decide) _).setFld (by decide) _
  case cell =>
    have hrun : (s.at t).vbat mv = (((s.at t).setFld F.RTC_VBAT_mv (min mv 4095)).setFld F.RTC_STAT_vbat_low
        (decide (mv < 1800)).toNat).setFld F.RTC_STAT_vbat_absent (decide (mv < 1000)).toNat := by
      unfold State.vbat
      rw [show (s.at t).powered = true from hpow]
      rfl
    have hmv : min mv 4095 < 2 ^ F.RTC_VBAT_mv.width := (Nat.min_le_right _ _).trans_lt (by decide)
    refine ⟨_, run_eq_next (f := fun s => s.vbat mv) hrun rfl, ?_, ?_, ?_, ?_⟩
    · simp (disch := decide) only [State.fld_setFld_off]
      exact State.fld_setFld_eq _ (by decide) hmv
    · simp (disch := decide) only [State.fld_setFld_bool, State.fld_setFld_bits]
    · exact State.fld_setFld_bool _ (by decide) (by decide)
    · exact (((RegsOnly.at s t _).setFld (by decide) _).setFld (by decide) _).setFld (by decide) _


end Sys2Proof.Machine
end

-- ==== The common checks (R472) ====
section
/-!
SUPPORT. A counterexample to the statement of the common checks.
-/

namespace Sys2Proof.Machine

/-! ### The common checks fail of a NOP that spells the opcode of PKT_RX_POST -/

/-- Dusk, with a descriptor waiting on the command ring 0, whose completion ring is full. -/
def duskFull : State :=
  { State.reset with
    io := {
      regs := [(0x010010, 4#32), (0x050000, 1#32), (0x051008, 0x80000006#32), (0x05100C, 1#32), (0x051010, 1#32),
        (0x052008, 0x80000006#32), (0x052010, 0x00010000#32), (0x052014, 1#32)]
      hf := { busMaster := true } }
    pw := { mode := .dusk, stage := .done } }

/-- A NOP of opcode 0x1002 in that ring, of the current generation. -/
def nopOfRxPost : Cmd :=
  { sq := 0, tag := 0, gen := BitVec.ofNat 8 (duskFull.fld F.HIF_GEN_gen), b3 := 0, body := List.replicate 24 0, rd := [], rdErr := none, wrFail := false }

/-- It is answered BUSY_TEST, as a command that Dusk does not serve; the completion is held. -/
theorem exec_nopOfRxPost : ∃ u, exec (.nop 0 nopOfRxPost 0x1002) duskFull = .next u ∧ u.io.out = [] ∧
    u.io.hf.cqHeld = [(0, { sq := 0, tag := 0, status := stBUSY_TEST, result := 0, gen := nopOfRxPost.gen.toNat })] :=
  ⟨_, rfl, by decide, by decide⟩

/-- Refutes O4: the model checks a NOP against the command rings whatever opcode it spells. One that spells PKT_RX_POST's
on a command ring passes the check of the ring's kind, so in Dusk it is answered BUSY_TEST and not UNSUPPORTED. -/
theorem not_commonChecksInOrder : ¬ Obligations.CommonChecksInOrder := by
  intro h
  obtain ⟨-, -, hkind, -⟩ := h (.nop 0 nopOfRxPost 0x1002) 0x1002 .receive nopOfRxPost duskFull rfl (by decide) (by decide)
    (by decide) (by decide) rfl (by decide) (fun hmode => absurd hmode (by decide))
  obtain ⟨u, hu, ⟨after, hafter, hcpl⟩, -⟩ := hkind (by decide) (by decide) (.inr (by decide))
  obtain ⟨v, hv, hout, hheld⟩ := exec_nopOfRxPost
  obtain rfl : v = u := Host.Outcome.next.inj (hv.symm.trans hu)
  obtain rfl : after = [] := by
    rw [hout] at hafter
    exact (List.append_eq_nil_iff.mp (List.append_eq_nil_iff.mp hafter.symm).1).1
  rcases hcpl with hcpl | ⟨a, head, phase, hcpl⟩
  · rw [hheld] at hcpl
    revert hcpl
    decide
  · cases hcpl

end Sys2Proof.Machine
end

-- ==== Read commands (R485, R553, R556, R597) ====
section
/-!
SUPPORT. NOP, DEV_STATUS, LOG_READ and TEL_READ.
-/

namespace Sys2Proof.Machine

/-! ### Read commands (R485, R553, R556, R597) -/

theorem leNat_toLE (n v : Nat) : leNat (toLE n v) = v % 256 ^ n := by
  induction n generalizing v with
  | zero => simp [toLE, leNat, Nat.mod_one]
  | succ n ih =>
    rw [toLE, leNat, ih, BitVec.toNat_ofNat]
    exact (Nat.mod_mul.symm.trans (by rw [← Nat.pow_succ']))

/-- A field of a byte string that spells a number of its width reads it. -/
theorem Bytes.le_eq {b : Bytes} {off n v : Nat} (h : Bytes.slice b off n = toLE n v) (hv : v < 256 ^ n) :
    Bytes.le b off n = v := by
  rw [Bytes.le, h, leNat_toLE, Nat.mod_eq_of_lt hv]

theorem Bytes.length_slice (b : Bytes) (off n : Nat) : (Bytes.slice b off n).length = n := by
  simp [Bytes.slice]

theorem State.readReg_topMode (s : State) : s.readReg 0x000010 = s.topMode := by
  obtain ⟨f, hf, hwo⟩ : ∃ f, famOf 0x000010 = some f ∧ f.wo = 0 := ⟨_, rfl, rfl⟩
  have hview : s.view 0x000010 = some s.topMode := rfl
  rw [State.readReg, hf]
  simp only [hview, hwo, Option.getD_some]
  exact BitVec.and_allOnes

theorem Role.code_lt (r : Role) : r.code < 256 := by cases r <;> decide

/-- The fields of DEV_STATUS's bytes, in order (R597). -/
def devStatusLayout (mode engines reset radio gen role claim rails lo hi : Nat) : Bytes :=
  toLE 4 mode ++ toLE 4 engines ++ toLE 4 reset ++ toLE 4 radio ++ toLE 1 gen ++ toLE 1 role ++ toLE 1 claim ++ toLE 1 0 ++
    toLE 4 rails ++ toLE 4 lo ++ toLE 4 hi ++ toLE 32 0

theorem devStatusLayout_reads (mode engines reset radio gen role claim rails lo hi : Nat) :
    let b := devStatusLayout mode engines reset radio gen role claim rails lo hi
    b.length = 64 ∧ Bytes.slice b 16 1 = toLE 1 gen ∧ Bytes.slice b 17 1 = toLE 1 role ∧
      Bytes.slice b 18 1 = toLE 1 claim ∧ Bytes.slice b 0 4 = toLE 4 mode ∧ Bytes.zero (b.drop 32) = true := by
  simp [devStatusLayout, toLE, Bytes.slice, Bytes.zero]

theorem State.devStatusBytes_reads (s : State) :
    let b := s.devStatusBytes
    b.length = 64 ∧ Bytes.le b 16 1 = s.fld F.HIF_GEN_gen ∧ Bytes.le b 17 1 = s.tw.role.code ∧
      Bytes.le b 18 1 = (s.tw.claim + 16 * s.tw.claimIn) % 256 ∧ Bytes.le b 0 4 = s.topMode.toNat ∧
      Bytes.zero (b.drop 32) = true := by
  have hgen : s.fld F.HIF_GEN_gen < 256 := Fld.of_lt F.HIF_GEN_gen _
  have hmode : s.topMode.toNat < 4294967296 := s.topMode.isLt
  have hrole := s.tw.role.code_lt
  obtain ⟨engines, reset, radio, rails, lo, hi, hb⟩ : ∃ engines reset radio rails lo hi, s.devStatusBytes =
      devStatusLayout (s.readReg 0x000010).toNat engines reset radio (s.fld F.HIF_GEN_gen) s.tw.role.code
        (s.tw.claim + 16 * s.tw.claimIn) rails lo hi := ⟨_, _, _, _, _, _, rfl⟩
  obtain ⟨hlen, h16, h17, h18, h0, hrest⟩ := devStatusLayout_reads (s.readReg 0x000010).toNat engines reset radio
    (s.fld F.HIF_GEN_gen) s.tw.role.code (s.tw.claim + 16 * s.tw.claimIn) rails lo hi
  rw [State.readReg_topMode] at *
  rw [hb]
  exact ⟨hlen, Bytes.le_eq h16 (by simpa using hgen), Bytes.le_eq h17 (by simpa using hrole),
    (congrArg leNat h18).trans (leNat_toLE 1 _), Bytes.le_eq h0 (by simpa using hmode), hrest⟩

/-- A command that only reads is answered OK with what it writes, and changes nothing but the host interface. -/
theorem readCommand_answered {s : State} {t op : Nat} {c : Cmd} {h : State → Reply} {ws : List (Nat × Bytes)}
    (hready : Ready s c .command) (hfull : s.pw.mode = .full) (hop : op ∈ opcodes)
    (hr : h (s.found t c) = Reply.ok (s.found t c) ws) :
    ∃ u, run t s (ringRun op .command c h) = .next u ∧ Answered s u c stOK ws ∧ HostOnly s u [] := by
  obtain ⟨u, hu, hans, hhost, -⟩ := ringCommand_answered hready hop (by rw [hfull]; rfl)
    (fun hdoze => absurd (hfull.symm.trans hdoze) (by decide)) hr rfl (.refl _) (by decide) rfl (.inr rfl)
    (HostOnly.found s t c [])
  exact ⟨u, hu, hans, hhost⟩

/-- Settles O12: each of the four is answered OK with its bytes. -/
theorem hostReadCommands : Obligations.HostReadCommands := by
  intro t c s hready hfull
  refine ⟨?nop, fun haddr hzero => ⟨?devStatus, ?telRead⟩, fun haddr hzero hmin hmax => ?logRead⟩
  case nop => exact readCommand_answered (h := fun s => s.nop 0x0001) hready hfull (by decide) rfl
  case devStatus =>
    obtain ⟨hlen, hgen, hrole, hclaim, hmode, hrest⟩ := (s.found t c).devStatusBytes_reads
    have hr : (s.found t c).devStatus c = .ok (s.found t c) [(c.f 0 8, (s.found t c).devStatusBytes)] := by
      simp [State.devStatus, haddr, hzero]
    obtain ⟨u, hu, hans, hhost⟩ := readCommand_answered (op := 0x0002) (h := fun s => s.devStatus c) hready hfull (by decide) hr
    have hgen' := s.found_fld t c (f := F.HIF_GEN_gen) (by simp only [F.HIF_GEN_gen]; omega)
    exact ⟨u, _, hu, hlen, hgen.trans hgen', hrole, hclaim, hmode, hrest, hans, hhost⟩
  case telRead =>
    have hr : ∃ b, b.length = 128 ∧ (s.found t c).telRead c = .ok (s.found t c) [(c.f 0 8, b)] := by
      unfold State.telRead
      rw [if_neg (by simp [haddr, hzero])]
      exact ⟨_, Bytes.length_slice _ 0 128, rfl⟩
    obtain ⟨b, hlen, hr⟩ := hr
    obtain ⟨u, hu, hans, hhost⟩ := readCommand_answered (op := 0x0A02) (h := fun s => s.telRead c) hready hfull (by decide) hr
    exact ⟨u, b, hu, hlen, hans, hhost⟩
  case logRead =>
    intro es
    have hr : (s.found t c).logRead c = .ok (s.found t c) [(c.f 0 8,
        toLE 4 es.length ++ toLE 4 ((s.nv.log.getLast?.map (·.seq)).getD 0) ++
          toLE 4 ((s.nv.log.head?.map (·.seq)).getD 0) ++ toLE 4 0 ++ (es.map LogEntry.bytes).flatten)] := by
      have hbad : ¬ (c.f 0 8 % 32 ≠ 0 ∨ c.f 12 2 = 0 ∨ 2048 < c.f 12 2 ∨ (!c.zero 14 10) = true) := by
        simp [haddr, hzero]; omega
      unfold State.logRead
      rw [if_neg hbad, ← List.head?_reverse]
      rfl
    obtain ⟨u, hu, hans, hhost⟩ := readCommand_answered (op := 0x0004) (h := fun s => s.logRead c) hready hfull (by decide) hr
    exact ⟨u, hu, hhost, hans⟩

end Sys2Proof.Machine
end

-- ==== Rings enabled and disabled (16_host_rings) ====
section
/-!
SUPPORT. What a write of the configuration of a submission or completion ring does.
-/

namespace Sys2Proof.Machine

/-! ### One field of a ring's configuration (R483, R592) -/

section
variable (s : State) (f err : Fld) (w : Word)

/-- A valid value takes its field while the ring does not run. -/
theorem State.fld_ringFld_self (h : f.hi < 32) : (s.ringFld f err false true w).fld f = f.of w := by
  unfold State.ringFld
  split
  · exact Eq.symm ‹_›
  · exact State.fld_setFld_eq s h (Fld.of_lt f w)

theorem State.fld_ringFld_bits (g : Fld) (h : g.hi < 32) (d : g.hi < f.lo ∨ f.hi < g.lo) :
    (s.ringFld f err false true w).fld g = s.fld g := by
  unfold State.ringFld
  split
  · rfl
  · exact State.fld_setFld_bits s g f _ h d

theorem State.word_ringFld (off : Nat) (h : f.off ≠ off) : (s.ringFld f err false true w).word off = s.word off := by
  unfold State.ringFld
  split
  · rfl
  · exact State.word_setFld_off s f _ h

/-- The value that stands sets nothing. -/
theorem State.ringFld_same (active valid : Bool) (h : f.of w = s.fld f) : s.ringFld f err active valid w = s := if_pos h

theorem State.ringFld_eq : ∃ regs, s.ringFld f err false true w = { s with io := { s.io with regs := regs } } := by
  unfold State.ringFld
  split
  · exact ⟨_, rfl⟩
  · exact ⟨_, rfl⟩

end

/-! ### What a change of a ring leaves -/

section
variable {s u : State} {l : List Nat}

theorem HostOnly.refl (s : State) (l : List Nat) : HostOnly s s l := ⟨rfl, .refl s l⟩

theorem HostOnly.setFldHif (h : HostOnly s u l) {f : Fld} (lo : 0x050000 ≤ f.off) (hi : f.off < 0x060000) (v : Nat) :
    HostOnly s (u.setFld f v) l := h.setHif lo hi _

theorem HostOnly.pending (h : HostOnly s u l) : u.pending = s.pending := by
  have hpending := congrArg State.pending h.1
  exact hpending

theorem HostOnly.ringFld (h : HostOnly s u l) {f err : Fld} (hf : 0x050000 ≤ f.off ∧ f.off < 0x060000)
    (he : 0x050000 ≤ err.off ∧ err.off < 0x060000) (active valid : Bool) (w : Word) :
    HostOnly s (u.ringFld f err active valid w) l := by
  unfold State.ringFld
  split
  · exact h
  · split
    · exact h.setFldHif he.1 he.2 _
    · exact h.setFldHif hf.1 hf.2 _

/-- A change of what the interface keeps besides its registers. -/
theorem HostOnly.setHf (h : HostOnly s u l) (hf : Hif) : HostOnly s { u with io := { u.io with hf := hf } } l := h

theorem HostOnly.hostBack (h : HostOnly s u l) : HostOnly s u.hostBack l := by
  unfold State.hostBack
  split
  · exact h
  · exact h

theorem HostOnly.settle (h : HostOnly s u l) {n : Nat} (hn : n < 64) : HostOnly s { u with io := u.io.settle n } l := by
  unfold Io.settle
  split
  · exact h.setFldHif (f := F.HIF_SQ_ERR_active n) (by simp only [F.HIF_SQ_ERR_active]; omega)
      (by simp only [F.HIF_SQ_ERR_active]; omega) 0
  · exact h

end

theorem State.flag_eq_false {s : State} {f : Fld} : s.flag f = false ↔ s.fld f = 0 := bne_eq_false_iff_eq

theorem State.flag_eq_true {s : State} {f : Fld} : s.flag f = true ↔ s.fld f ≠ 0 := bne_iff_ne

theorem State.hostBack_regs (s : State) : s.hostBack.io.regs = s.io.regs := by
  unfold State.hostBack
  split <;> rfl

theorem State.fld_hostBack (s : State) (f : Fld) : s.hostBack.fld f = s.fld f := by
  unfold State.hostBack
  split <;> rfl

theorem State.hostBack_lost (s : State) : s.hostBack.io.hf.lost = none := by
  unfold State.hostBack
  split
  · rfl
  · exact Option.not_isSome_iff_eq_none.mp ‹_›

theorem State.fld_setWord_zero (s : State) (off hi lo : Nat) : (s.setWord off 0#32).fld ⟨off, hi, lo⟩ = 0 := by
  rw [State.fld_eq, State.word_setWord_self]
  simp [Fld.of, bitsN]

theorem bitN_eq_getLsbD (v : Word) (k : Nat) : bitN v.toNat k = v.getLsbD k := by
  rw [BitVec.getLsbD, Nat.testBit_eq_decide_div_mod_eq]
  rfl

/-! ### Submission rings (R483) -/

/-- The configuration fields of a submission ring that does not run take valid values. -/
def State.sqFields (s : State) (n : Nat) (w : Word) : State :=
  (((s.ringFld (F.HIF_SQ_CFG_size_log2 n) (F.HIF_SQ_ERR_cfg_err n) false true w).ringFld (F.HIF_SQ_CFG_buf_256 n)
    (F.HIF_SQ_ERR_cfg_err n) false true w).ringFld (F.HIF_SQ_CFG_kind n) (F.HIF_SQ_ERR_cfg_err n) false true w).ringFld
      (F.HIF_SQ_CFG_cq n) (F.HIF_SQ_ERR_cfg_err n) false true w

section
variable (s : State) (n : Nat) (w : Word)

/-- The four fields hold what was written, and the enable bit stays. -/
theorem State.sqFields_fld : (s.sqFields n w).fld (F.HIF_SQ_CFG_size_log2 n) = bitsN w.toNat 4 0 ∧
    (s.sqFields n w).fld (F.HIF_SQ_CFG_buf_256 n) = bitsN w.toNat 13 8 ∧
    (s.sqFields n w).fld (F.HIF_SQ_CFG_kind n) = bitsN w.toNat 17 16 ∧
    (s.sqFields n w).fld (F.HIF_SQ_CFG_cq n) = bitsN w.toNat 23 18 ∧
    (s.sqFields n w).fld (F.HIF_SQ_CFG_en n) = s.fld (F.HIF_SQ_CFG_en n) := by
  dsimp only [State.sqFields, F.HIF_SQ_CFG_size_log2, F.HIF_SQ_CFG_buf_256, F.HIF_SQ_CFG_kind, F.HIF_SQ_CFG_cq,
    F.HIF_SQ_CFG_en, F.HIF_SQ_ERR_cfg_err]
  simp (disch := (dsimp only; omega)) only [State.fld_ringFld_bits, State.fld_ringFld_self, Fld.of, and_self]

theorem HostOnly.sqFields {n : Nat} (hn : n < 64) : HostOnly s (s.sqFields n w) [] := by
  have hcfg : 0x050000 ≤ 0x51008 + 0x20 * n ∧ 0x51008 + 0x20 * n < 0x060000 := by omega
  have herr : 0x050000 ≤ 0x51010 + 0x20 * n ∧ 0x51010 + 0x20 * n < 0x060000 := by omega
  unfold State.sqFields
  exact ((((HostOnly.refl s []).ringFld hcfg herr false true w).ringFld hcfg herr false true w).ringFld hcfg herr
    false true w).ringFld hcfg herr false true w

/-- A submission ring that starts, before the events held back go out. -/
def State.sqStarted (s : State) (n : Nat) : State :=
  (((s.setFld (F.HIF_SQ_CFG_en n) 1).setWord (F.HIF_SQ_STAT_head n).off 0#32).hostBack.setFld (F.HIF_SQ_ERR_err n)
    0).setFld (F.HIF_SQ_ERR_active n) 1

theorem State.sqStart_eq : s.sqStart n = (s.sqStarted n).drainEvents := rfl

theorem State.fld_drained {f : Fld} (h : postedAt f.off = false) : s.drainEvents.fld f = s.fld f :=
  (Posts.drain s.io s.now s.evOk s.io.hf.evHeld).fld h

/-- A ring starts with head and tail 0, no error and active, and its other fields stay. -/
theorem State.sqStarted_fld : let u := s.sqStarted n
    u.fld (F.HIF_SQ_CFG_en n) = 1 ∧ u.fld (F.HIF_SQ_ERR_active n) = 1 ∧ u.fld (F.HIF_SQ_STAT_head n) = 0 ∧
      u.fld (F.HIF_SQ_STAT_tail n) = 0 ∧ u.fld (F.HIF_SQ_ERR_err n) = 0 ∧
      u.fld (F.HIF_SQ_CFG_size_log2 n) = s.fld (F.HIF_SQ_CFG_size_log2 n) ∧
      u.fld (F.HIF_SQ_CFG_buf_256 n) = s.fld (F.HIF_SQ_CFG_buf_256 n) ∧
      u.fld (F.HIF_SQ_CFG_kind n) = s.fld (F.HIF_SQ_CFG_kind n) ∧ u.fld (F.HIF_SQ_CFG_cq n) = s.fld (F.HIF_SQ_CFG_cq n) := by
  dsimp only [State.sqStarted, F.HIF_SQ_CFG_size_log2, F.HIF_SQ_CFG_buf_256, F.HIF_SQ_CFG_kind, F.HIF_SQ_CFG_cq,
    F.HIF_SQ_CFG_en, F.HIF_SQ_ERR_err, F.HIF_SQ_ERR_active, F.HIF_SQ_STAT_head, F.HIF_SQ_STAT_tail]
  simp (disch := (simp only [Fld.width]; omega)) only [State.fld_setFld_bits, State.fld_setFld_off, State.fld_setFld_eq,
    State.fld_setWord_off, State.fld_setWord_zero, State.fld_hostBack, and_self]

theorem State.sqStarted_lost : (s.sqStarted n).io.hf.lost = none := State.hostBack_lost _

theorem State.drainEvents_lost : s.drainEvents.io.hf.lost = s.io.hf.lost := by
  have h := (Posts.drain s.io s.now s.evOk s.io.hf.evHeld).hf
  have hlost := congrArg Hif.lost h
  exact hlost

theorem HostOnly.sqStart {u : State} {l : List Nat} (h : HostOnly s u l) {n : Nat} (hn : n < 64) :
    HostOnly s (u.sqStart n) l := by
  have hoff : 0x050000 ≤ 0x51008 + 0x20 * n ∧ 0x51010 + 0x20 * n < 0x060000 := by omega
  rw [State.sqStart_eq]
  unfold State.sqStarted
  refine ((((h.setFldHif ?_ ?_ 1).setHif ?_ ?_ 0#32).hostBack.setFldHif ?_ ?_ 0).setFldHif ?_ ?_ 1).drainEvents
  all_goals simp only [F.HIF_SQ_CFG_en, F.HIF_SQ_STAT_head, F.HIF_SQ_ERR_err, F.HIF_SQ_ERR_active]; omega

/-- A ring that is not enabled settles: it is inactive unless something started on it is left. -/
theorem Io.settle_active {io : Io} {n : Nat} (hen : io.fld (F.HIF_SQ_CFG_en n) = 0)
    (h : (io.settle n).sqActive n = true) : ∃ d ∈ io.hf.deferred, d.sq = n := by
  unfold Io.settle at h
  split at h
  · rw [Io.sqActive, Io.fld_setFld_self _ _ _ (show 0 < 32 by decide)] at h
    exact absurd h (by simp [Fld.width])
  · have hany : io.hf.deferred.any (fun d => d.sq == n) = true := by
      by_contra hnone
      simp_all
    simpa using hany

theorem Io.settle_en (io : Io) (n : Nat) : (io.settle n).fld (F.HIF_SQ_CFG_en n) = io.fld (F.HIF_SQ_CFG_en n) := by
  unfold Io.settle
  split
  · exact Io.fld_setFld_off _ _ _ _ (by simp only [F.HIF_SQ_ERR_active, F.HIF_SQ_CFG_en]; omega)
  · rfl

theorem Io.settle_hf (io : Io) (n : Nat) : (io.settle n).hf = io.hf := by
  unfold Io.settle
  split <;> rfl

theorem Io.settle_out (io : Io) (n : Nat) : (io.settle n).out = io.out := by
  unfold Io.settle
  split <;> rfl

/-- A ring that stops is disabled, its unfilled buffers are the host's again, and nothing goes out. -/
theorem State.sqStop_leaves : let u := s.sqStop n
    u.fld (F.HIF_SQ_CFG_en n) = 0 ∧ (∀ b ∈ u.io.hf.rxBufs, b.sq ≠ n) ∧ u.io.out = s.io.out ∧
      (u.io.sqActive n = true → ∃ d ∈ s.io.hf.deferred, d.sq = n) := by
  have hen : (s.setFld (F.HIF_SQ_CFG_en n) 0).fld (F.HIF_SQ_CFG_en n) = 0 :=
    State.fld_setFld_eq s (show 31 < 32 by decide) (by simp [Fld.width])
  refine ⟨(Io.settle_en _ n).trans hen, fun b hb => ?_, Io.settle_out _ n, fun hact => ?_⟩
  case refine_1 =>
    dsimp only [State.sqStop] at hb
    rw [Io.settle_hf] at hb
    simpa using (List.mem_filter.mp hb).2
  case refine_2 => exact Io.settle_active (io := { (s.setFld (F.HIF_SQ_CFG_en n) 0).io with
    hf := { s.io.hf with rxBufs := s.io.hf.rxBufs.filter fun b => b.sq != n } }) hen hact

theorem HostOnly.sqStop {u : State} {l : List Nat} (h : HostOnly s u l) {n : Nat} (hn : n < 64) :
    HostOnly s (u.sqStop n) l := by
  have hcfg := h.setFldHif (f := F.HIF_SQ_CFG_en n) (by simp only [F.HIF_SQ_CFG_en]; omega)
    (by simp only [F.HIF_SQ_CFG_en]; omega) 0
  exact (hcfg.setHf _).settle hn

end

/-! ### Completion rings (R483) -/

/-- The configuration fields of a completion ring that does not run take valid values. -/
def State.cqFields (s : State) (n : Nat) (w : Word) : State :=
  (((s.ringFld (F.HIF_CQ_CFG_size_log2 n) (F.HIF_CQ_ERR_cfg_err n) false true w).ringFld (F.HIF_CQ_CFG_event n)
    (F.HIF_CQ_ERR_cfg_err n) false true w).setFld (F.HIF_CQ_CFG_vector n) (bitsN w.toNat 21 16)).latchFld
      (F.HIF_CQ_CFG_vector n)

section
variable (s : State) (n : Nat) (w : Word)

theorem State.fld_setHf (hf : Hif) (f : Fld) : State.fld { s with io := { s.io with hf := hf } } f = s.fld f := rfl

theorem State.fld_cqStop (f : Fld) : (s.cqStop n).fld f =
    ((s.setFld (F.HIF_CQ_CFG_en n) 0).setFld (F.HIF_CQ_ERR_active n) 0).fld f :=
  State.fld_setHf ((s.setFld (F.HIF_CQ_CFG_en n) 0).setFld (F.HIF_CQ_ERR_active n) 0) _ f

theorem State.fld_latchFld (f g : Fld) : (s.latchFld f).fld g = s.fld g := rfl

theorem HostOnly.latchFld {u : State} {l : List Nat} (h : HostOnly s u l) (f : Fld) : HostOnly s (u.latchFld f) l := h

theorem State.cqFields_fld : (s.cqFields n w).fld (F.HIF_CQ_CFG_size_log2 n) = bitsN w.toNat 4 0 ∧
    (s.cqFields n w).fld (F.HIF_CQ_CFG_event n) = bitsN w.toNat 30 30 ∧
    (s.cqFields n w).fld (F.HIF_CQ_CFG_vector n) = bitsN w.toNat 21 16 ∧
    (s.cqFields n w).fld (F.HIF_CQ_CFG_en n) = s.fld (F.HIF_CQ_CFG_en n) := by
  have hvec : bitsN w.toNat 21 16 < 2 ^ 6 := Fld.of_lt ⟨0, 21, 16⟩ w
  dsimp only [State.cqFields, F.HIF_CQ_CFG_size_log2, F.HIF_CQ_CFG_event, F.HIF_CQ_CFG_vector, F.HIF_CQ_CFG_en,
    F.HIF_CQ_ERR_cfg_err]
  simp (disch := (simp only [Fld.width]; omega)) only [State.fld_latchFld, State.fld_setFld_bits, State.fld_setFld_eq,
    State.fld_ringFld_bits, State.fld_ringFld_self, Fld.of, and_self]

theorem State.cqFields_hf : (s.cqFields n w).io.hf = s.io.hf := by
  unfold State.cqFields
  obtain ⟨r1, h1⟩ := s.ringFld_eq (F.HIF_CQ_CFG_size_log2 n) (F.HIF_CQ_ERR_cfg_err n) w
  rw [h1]
  obtain ⟨r2, h2⟩ := State.ringFld_eq { s with io := { s.io with regs := r1 } } (F.HIF_CQ_CFG_event n)
    (F.HIF_CQ_ERR_cfg_err n) w
  rw [h2]
  rfl

theorem HostOnly.cqFields {n : Nat} (hn : n < 64) : HostOnly s (s.cqFields n w) [] := by
  have hcfg : 0x050000 ≤ 0x52008 + 0x20 * n ∧ 0x52008 + 0x20 * n < 0x060000 := by omega
  have herr : 0x050000 ≤ 0x52014 + 0x20 * n ∧ 0x52014 + 0x20 * n < 0x060000 := by omega
  unfold State.cqFields
  exact ((((HostOnly.refl s []).ringFld hcfg herr false true w).ringFld hcfg herr false true w).setFldHif hcfg.1 hcfg.2
    _).latchFld s _

/-- A completion ring that starts, before what is held for it is written. -/
def State.cqStarted (s : State) (n : Nat) : State :=
  ((((s.setFld (F.HIF_CQ_CFG_en n) 1).setWord (F.HIF_CQ_STAT_head n).off 0#32).hostBack.setFld (F.HIF_CQ_ERR_err n)
    0).setFld (F.HIF_CQ_ERR_phase n) 1).setFld (F.HIF_CQ_ERR_active n) 1

/-- A ring starts with head and tail 0 in phase 1, active, and its other fields stay. -/
theorem State.cqStarted_fld : let u := s.cqStarted n
    u.fld (F.HIF_CQ_CFG_en n) = 1 ∧ u.fld (F.HIF_CQ_ERR_active n) = 1 ∧ u.fld (F.HIF_CQ_STAT_head n) = 0 ∧
      u.fld (F.HIF_CQ_STAT_tail n) = 0 ∧ u.fld (F.HIF_CQ_ERR_phase n) = 1 ∧
      u.fld (F.HIF_CQ_CFG_size_log2 n) = s.fld (F.HIF_CQ_CFG_size_log2 n) ∧
      u.fld (F.HIF_CQ_CFG_event n) = s.fld (F.HIF_CQ_CFG_event n) ∧
      u.fld (F.HIF_CQ_CFG_vector n) = s.fld (F.HIF_CQ_CFG_vector n) := by
  dsimp only [State.cqStarted, F.HIF_CQ_CFG_size_log2, F.HIF_CQ_CFG_event, F.HIF_CQ_CFG_vector, F.HIF_CQ_CFG_en,
    F.HIF_CQ_ERR_err, F.HIF_CQ_ERR_active, F.HIF_CQ_ERR_phase, F.HIF_CQ_STAT_head, F.HIF_CQ_STAT_tail]
  simp (disch := (simp only [Fld.width]; omega)) only [State.fld_setFld_bits, State.fld_setFld_off, State.fld_setFld_eq,
    State.fld_setWord_off, State.fld_setWord_zero, State.fld_hostBack, and_self]

theorem State.hostBack_held : s.hostBack.io.hf.cqHeld = s.io.hf.cqHeld ∧ s.hostBack.io.hf.evHeld = s.io.hf.evHeld := by
  unfold State.hostBack
  split <;> exact ⟨rfl, rfl⟩

/-- Nothing held is written when the ring starts with nothing held. -/
theorem State.cqStart_eq (hcq : s.io.hf.cqHeld = []) (hev : s.io.hf.evHeld = []) : s.cqStart n = s.cqStarted n := by
  obtain ⟨hcq', hev'⟩ := ((s.setFld (F.HIF_CQ_CFG_en n) 1).setWord (F.HIF_CQ_STAT_head n).off 0#32).hostBack_held
  exact State.cqRoom_of_none_held (s.cqStarted n) n (hcq'.trans hcq) (hev'.trans hev)

theorem HostOnly.cqStarted {u : State} {l : List Nat} (h : HostOnly s u l) {n : Nat} (hn : n < 64) :
    HostOnly s (u.cqStarted n) l := by
  unfold State.cqStarted
  refine ((((h.setFldHif ?_ ?_ 1).setHif ?_ ?_ 0#32).hostBack.setFldHif ?_ ?_ 0).setFldHif ?_ ?_ 1).setFldHif ?_ ?_ 1
  all_goals
    simp only [F.HIF_CQ_CFG_en, F.HIF_CQ_STAT_head, F.HIF_CQ_ERR_err, F.HIF_CQ_ERR_active, F.HIF_CQ_ERR_phase]; omega

/-- A completion ring takes its vector at any time; it is in effect at once where the ring does not run. -/
def State.cqVector (s : State) (n : Nat) (w : Word) : State :=
  let u := s.setFld (F.HIF_CQ_CFG_vector n) (bitsN w.toNat 21 16)
  if s.io.cqActive n then u else u.latchFld (F.HIF_CQ_CFG_vector n)

theorem State.fld_cqVector (f : Fld) (h : f.off ≠ 0x52008 + 0x20 * n ∨ f.lo = 31 ∧ f.hi = 31) :
    (s.cqVector n w).fld f = s.fld f := by
  have hset : (s.setFld (F.HIF_CQ_CFG_vector n) (bitsN w.toNat 21 16)).fld f = s.fld f := by
    rcases h with hoff | ⟨hlo, hhi⟩
    · exact State.fld_setFld_off s f (F.HIF_CQ_CFG_vector n) _ (Ne.symm hoff)
    · exact State.fld_setFld_bits s f (F.HIF_CQ_CFG_vector n) _ (by omega) (.inr (by simp only [F.HIF_CQ_CFG_vector]; omega))
  unfold State.cqVector
  split
  · exact hset
  · exact hset

theorem HostOnly.cqVector {u : State} {l : List Nat} (h : HostOnly s u l) {n : Nat} (hn : n < 64) :
    HostOnly s (u.cqVector n w) l := by
  have hset := h.setFldHif (f := F.HIF_CQ_CFG_vector n) (by simp only [F.HIF_CQ_CFG_vector]; omega)
    (by simp only [F.HIF_CQ_CFG_vector]; omega) (bitsN w.toNat 21 16)
  unfold State.cqVector
  split
  · exact hset
  · exact hset

/-- A completion ring that stops is disabled and inactive. -/
theorem State.cqStop_fld : (s.cqStop n).fld (F.HIF_CQ_CFG_en n) = 0 ∧ (s.cqStop n).fld (F.HIF_CQ_ERR_active n) = 0 := by
  rw [State.fld_cqStop, State.fld_cqStop]
  dsimp only [F.HIF_CQ_CFG_en, F.HIF_CQ_ERR_active]
  simp (disch := (simp only [Fld.width]; omega)) only [State.fld_setFld_off, State.fld_setFld_eq, and_self]

theorem HostOnly.cqStop {u : State} {l : List Nat} (h : HostOnly s u l) {n : Nat} (hn : n < 64) :
    HostOnly s (u.cqStop n) l := by
  have hoff : HostOnly s ((u.setFld (F.HIF_CQ_CFG_en n) 0).setFld (F.HIF_CQ_ERR_active n) 0) l := by
    refine (h.setFldHif ?_ ?_ 0).setFldHif ?_ ?_ 0
    all_goals simp only [F.HIF_CQ_CFG_en, F.HIF_CQ_ERR_active]; omega
  exact hoff.setHf _

/-- An enabled submission ring names the completion ring. -/
theorem State.cqNamed_iff : s.cqNamed n = true ↔
    ∃ k < 64, s.fld (F.HIF_SQ_CFG_en k) ≠ 0 ∧ s.fld (F.HIF_SQ_CFG_cq k) = n := by
  simp only [State.cqNamed, List.any_eq_true, List.mem_range, Bool.and_eq_true, State.flag_eq_true, beq_iff_eq]

end

/-- A write that disables an enabled completion ring and changes no field that may not change. -/
theorem State.cqCfgWrite_disable {s : State} {n : Nat} {v : Word} (hon : v.getLsbD 31 = false)
    (hen : s.fld (F.HIF_CQ_CFG_en n) ≠ 0)
    (hsame : ∀ f ∈ [F.HIF_CQ_CFG_size_log2 n, F.HIF_CQ_CFG_event n], f.of v = s.fld f) :
    s.cqCfgWrite n v = if s.cqNamed n then (s.cqVector n v).setFld (F.HIF_CQ_ERR_cfg_err n) 1
      else (s.cqVector n v).cqStop n := by
  simp only [List.forall_mem_cons, List.not_mem_nil, false_implies, implies_true, and_true] at hsame
  obtain ⟨hsize, hevent⟩ := hsame
  have hen' : (s.cqVector n v).flag (F.HIF_CQ_CFG_en n) = true :=
    State.flag_eq_true.mpr ((s.fld_cqVector n v _ (.inr ⟨rfl, rfl⟩)).trans_ne hen)
  have hnamed : (s.cqVector n v).cqNamed n = s.cqNamed n := by
    rw [Bool.eq_iff_iff, State.cqNamed_iff, State.cqNamed_iff]
    refine exists_congr fun k => and_congr_right fun hk => ?_
    rw [s.fld_cqVector n v (F.HIF_SQ_CFG_en k) (.inl (by simp only [F.HIF_SQ_CFG_en]; omega)),
      s.fld_cqVector n v (F.HIF_SQ_CFG_cq k) (.inl (by simp only [F.HIF_SQ_CFG_cq]; omega))]
  unfold State.cqCfgWrite
  simp only [State.ringFld_same s _ _ _ _ _ hsize, State.ringFld_same s _ _ _ _ _ hevent, bitN_eq_getLsbD, hon,
    Bool.false_eq_true, if_false]
  rw [← hnamed]
  exact if_neg (by rw [← State.cqVector, hen']; decide)

/-! ### The writes of the two configuration registers -/

/-- Settles O14: each write configures, starts or stops its ring. -/
theorem ringsEnabledAndDisabled : Obligations.RingsEnabledAndDisabled := by
  intro t n v s hbar sq
  have hn := n.isLt
  refine ⟨fun hon hen hact hmin hmax hbuf hkind => ?sqEnable, fun hon hen hsame => ?sqDisable,
    fun hon hen hact hmin hmax hone hcq hev => ?cqEnable, fun hon hen hsame => ⟨fun hnamed => ?named, fun hfree => ?free⟩⟩
  case sqEnable =>
    have heq : (s.at t).sqCfgWrite n v = ((s.at t).sqFields n v).sqStart n := by
      obtain ⟨-, -, -, -, hkeep⟩ := (s.at t).sqFields_fld n v
      have hen' := State.flag_eq_false.mpr (hkeep.trans hen)
      unfold State.sqCfgWrite
      simp only [show (s.at t).io.sqActive n = false from hact, hmin, hmax, bitN_eq_getLsbD, hon, bne_iff_ne.mpr hbuf,
        bne_iff_ne.mpr hkind, decide_true, Bool.and_self, if_true]
      exact if_neg (by rw [← State.sqFields, hen']; decide)
    obtain ⟨hsize, hbuf, hkind, hcq, -⟩ := (s.at t).sqFields_fld n v
    obtain ⟨hen, hact, hhead, htail, herr, hsize', hbuf', hkind', hcq'⟩ := ((s.at t).sqFields n v).sqStarted_fld n
    have hhost := ((HostOnly.at s t []).trans (HostOnly.sqFields (s.at t) v hn)).sqStart _ hn
    have hfld {f : Fld} (hf : f.off < 0x052000 ∧ f.off ≠ 0x050020) :
        (((s.at t).sqFields n v).sqStart n).fld f = (((s.at t).sqFields n v).sqStarted n).fld f :=
      State.fld_drained _ (postedAt_eq_false.mpr (by omega))
    have hcfg : 0x51008 + 0x20 * n.val < 0x052000 ∧ 0x51008 + 0x20 * n.val ≠ 0x050020 := by omega
    have hstat : 0x5100C + 0x20 * n.val < 0x052000 ∧ 0x5100C + 0x20 * n.val ≠ 0x050020 := by omega
    have herrOff : 0x51010 + 0x20 * n.val < 0x052000 ∧ 0x51010 + 0x20 * n.val ≠ 0x050020 := by omega
    refine ⟨_, hostWrites_eq_next hbar heq hhost.pending, hhost, (hfld hcfg).trans hen,
      bne_iff_ne.mpr (((hfld herrOff).trans hact).trans_ne (by decide)), (hfld hstat).trans hhead,
      (hfld hstat).trans htail, (hfld herrOff).trans herr, (hfld hcfg).trans (hsize'.trans hsize),
      (hfld hcfg).trans (hbuf'.trans hbuf), (hfld hcfg).trans (hkind'.trans hkind), (hfld hcfg).trans (hcq'.trans hcq), ?_⟩
    rw [State.sqStart_eq, State.drainEvents_lost, State.sqStarted_lost]
  case sqDisable =>
    have heq : (s.at t).sqCfgWrite n v = (s.at t).sqStop n := by
      simp only [sq, List.forall_mem_cons, List.not_mem_nil, false_implies, implies_true, and_true] at hsame
      obtain ⟨hsize, hbuf, hkind, hcq⟩ := hsame
      unfold State.sqCfgWrite
      simp only [State.ringFld_same (s.at t) _ _ _ _ _ hsize, State.ringFld_same (s.at t) _ _ _ _ _ hbuf,
        State.ringFld_same (s.at t) _ _ _ _ _ hkind, State.ringFld_same (s.at t) _ _ _ _ _ hcq, bitN_eq_getLsbD, hon,
        Bool.false_eq_true, if_false]
      exact if_pos (State.flag_eq_true.mpr hen)
    obtain ⟨hoff, hbufs, hout, hact⟩ := (s.at t).sqStop_leaves n
    have hhost := HostOnly.sqStop s (HostOnly.at s t []) hn
    exact ⟨_, hostWrites_eq_next hbar heq hhost.pending, hhost, hoff, hbufs, hout, hact⟩
  case cqEnable =>
    have hother : ((List.range 64).any fun k => k != n.val && (s.at t).flag (F.HIF_CQ_CFG_event k)) = false := by
      simp only [List.any_eq_false, List.mem_range, Bool.and_eq_true, bne_iff_ne, State.flag_eq_true]
      rintro k hk ⟨hne, hev⟩
      exact hev (hone k hk hne)
    have heq : (s.at t).cqCfgWrite n v = ((s.at t).cqFields n v).cqStarted n := by
      obtain ⟨-, -, -, hkeep⟩ := (s.at t).cqFields_fld n v
      have hhf := (s.at t).cqFields_hf n v
      have hen' := State.flag_eq_false.mpr (hkeep.trans hen)
      rw [← State.cqStart_eq _ n ((congrArg Hif.cqHeld hhf).trans hcq) ((congrArg Hif.evHeld hhf).trans hev)]
      unfold State.cqCfgWrite
      simp only [show (s.at t).io.cqActive n = false from hact, hmin, hmax, bitN_eq_getLsbD, hon, hother,
        decide_true, Bool.and_self, if_true, Bool.and_false, Bool.not_false, Bool.false_eq_true, if_false]
      exact if_neg (by rw [← State.cqFields, hen']; decide)
    obtain ⟨hsize, hevent, hvec, -⟩ := (s.at t).cqFields_fld n v
    obtain ⟨hen, hact, hhead, htail, hphase, hsize', hevent', hvec'⟩ := ((s.at t).cqFields n v).cqStarted_fld n
    have hhost := HostOnly.cqStarted s ((HostOnly.at s t []).trans (HostOnly.cqFields (s.at t) v hn)) hn
    exact ⟨_, hostWrites_eq_next hbar heq hhost.pending, hhost, hen, bne_iff_ne.mpr (hact.trans_ne (by decide)), hhead,
      htail, hphase, hsize'.trans hsize, hevent'.trans hevent, hvec'.trans hvec⟩
  case named =>
    have heq := (State.cqCfgWrite_disable (s := s.at t) hon hen hsame).trans
      (if_pos ((State.cqNamed_iff (s.at t) n).mpr hnamed))
    have hhost := (HostOnly.cqVector s v (HostOnly.at s t []) hn).setFldHif (f := F.HIF_CQ_ERR_cfg_err n)
      (by simp only [F.HIF_CQ_ERR_cfg_err]; omega) (by simp only [F.HIF_CQ_ERR_cfg_err]; omega) 1
    refine ⟨_, hostWrites_eq_next hbar heq hhost.pending, ?_,
      State.fld_setFld_eq _ (show 2 < 32 by decide) (show 1 < 2 ^ 1 by decide), hhost⟩
    exact (State.fld_setFld_off _ _ _ _ (by simp only [F.HIF_CQ_ERR_cfg_err, F.HIF_CQ_CFG_en]; omega)).trans
      ((s.at t).fld_cqVector n v _ (.inr ⟨rfl, rfl⟩))
  case free =>
    have hnamed : ¬ (s.at t).cqNamed n = true := fun h => by
      obtain ⟨k, hk, hke, hkn⟩ := (State.cqNamed_iff (s.at t) n).mp h
      exact hfree k hk hke hkn
    have heq := (State.cqCfgWrite_disable (s := s.at t) hon hen hsame).trans (if_neg hnamed)
    obtain ⟨hoff, hact⟩ := ((s.at t).cqVector n v).cqStop_fld n
    have hhost := HostOnly.cqStop s (HostOnly.cqVector s v (HostOnly.at s t []) hn) hn
    exact ⟨_, hostWrites_eq_next hbar heq hhost.pending, hoff, bne_eq_false_iff_eq.mpr hact, hhost⟩

end Sys2Proof.Machine
end

-- ==== The discard of the host's work and the loss of the host (16_host_rings) ====
section
/-!
SUPPORT. What R480 and R482 change, and what they leave.
-/

namespace Sys2Proof.Machine

/-! ### What taking back the host's work changes (R480) -/

/-- The words that the discard of the host's work may change besides `HIF_GEN`: those of posting, `HIF_SQ_ERR`, the
announced pattern, the pool's state and its drops, and flow control. -/
def discardWord (off : Nat) : Bool :=
  postedAt off || (decide (0x051000 ≤ off) && decide (off < 0x051800) && off % 32 == 16) || off == 0x140004 ||
    (decide (0x140018 ≤ off) && decide (off ≤ 0x140020)) || off == 0x340004 || off == 0x340044 ||
      (decide (0x400000 ≤ off) && decide (off < 0x402000))

theorem discardWord_eq_false {off : Nat} : discardWord off = false ↔ postedAt off = false ∧
    (off < 0x051000 ∨ 0x051800 ≤ off ∨ off % 32 ≠ 16) ∧ off ≠ 0x140004 ∧ (off < 0x140018 ∨ 0x140020 < off) ∧
      off ≠ 0x340004 ∧ off ≠ 0x340044 ∧ (off < 0x400000 ∨ 0x402000 ≤ off) := by
  simp only [discardWord, Bool.or_eq_false_iff, Bool.and_eq_false_iff, decide_eq_false_iff_not, beq_eq_false_iff_ne]
  constructor
  · rintro ⟨⟨⟨⟨⟨⟨hpost, hring⟩, hnext⟩, hmap⟩, hpool⟩, hdrop⟩, heth⟩
    exact ⟨hpost, by omega⟩
  · rintro ⟨hpost, hrest⟩
    exact ⟨⟨⟨⟨⟨⟨hpost, by omega⟩, by omega⟩, by omega⟩, by omega⟩, by omega⟩, by omega⟩

/-- The rings `n` are neither enabled nor active. -/
abbrev Io.ringsOff (io : Io) (n : Nat) : Prop :=
  io.fld (F.HIF_SQ_CFG_en n) = 0 ∧ io.fld (F.HIF_CQ_CFG_en n) = 0 ∧ io.fld (F.HIF_SQ_ERR_active n) = 0 ∧
    io.fld (F.HIF_CQ_ERR_active n) = 0

/-- The interface keeps the same but for what posting changes. -/
def Hif.Like (a b : Hif) : Prop :=
  { b with
    coal := a.coal, cqHeld := a.cqHeld, evHeld := a.evHeld, evSeq := a.evSeq, evLost := a.evLost
    wakeN := a.wakeN, pme := a.pme } = a

theorem Hif.Like.trans {a b c : Hif} (h : a.Like b) (h' : b.Like c) : a.Like c := by
  unfold Hif.Like at *
  rw [← h, ← h']

/-- On the way from `a` to `b` nothing changed but what the discard of the host's work may change. -/
structure Takes (a b : State) : Prop where
  parts : { b with
    io := a.io, pw := a.pw, ml := a.ml, mn := a.mn, ms := a.ms, kv := a.kv, lh := a.lh, pt := a.pt, sr := a.sr
    qm := a.qm, tw := a.tw, up := a.up, fl := a.fl, nv := a.nv } = a
  pw : { b.pw with
    trans := a.pw.trans, requestedDawn := a.pw.requestedDawn, stage := a.pw.stage, wdog := a.pw.wdog } = a.pw
  tw : { b.tw with absence := a.tw.absence, dusk := a.tw.dusk, duskWait := a.tw.duskWait } = a.tw
  nv : { b.nv with
    log := a.nv.log, logSeq := a.nv.logSeq, lease := a.nv.lease, dir0 := a.nv.dir0, dir1 := a.nv.dir1 } = a.nv
  ml : { b.ml with next := a.ml.next, dl := a.ml.dl } = a.ml
  up : { b.up with job := a.up.job, load := a.up.load } = a.up
  fl : { b.fl with held := a.fl.held } = a.fl
  hf : a.io.hf.Like b.io.hf
  word : ∀ off, discardWord off = false → b.word off = a.word off
  out : ∃ more, b.io.out = more ++ a.io.out
  rings : ∀ n < 64, a.io.ringsOff n → b.io.ringsOff n

theorem Posts.ringsOff {a b : Io} (h : Posts a b) {n : Nat} (hn : n < 64) (hoff : a.ringsOff n) : b.ringsOff n := by
  obtain ⟨hsq, hcq, hsa, hca⟩ := hoff
  refine ⟨(h.fld ?_).trans hsq, (h.fld ?_).trans hcq, (h.fld ?_).trans hsa,
    (h.err n hn (F.HIF_CQ_ERR_active n) rfl (show 0 < 32 by decide) (.inl (show 0 < 4 by decide))).trans hca⟩
  all_goals
    rw [postedAt_eq_false]
    simp only [F.HIF_SQ_CFG_en, F.HIF_CQ_CFG_en, F.HIF_SQ_ERR_active]
    omega

theorem Takes.refl (s : State) : Takes s s :=
  ⟨rfl, rfl, rfl, rfl, rfl, rfl, rfl, rfl, fun _ _ => rfl, ⟨[], rfl⟩, fun _ _ h => h⟩

theorem Takes.trans {a b c : State} (h : Takes a b) (h' : Takes b c) : Takes a c := by
  obtain ⟨hp, hpw, htw, hnv, hml, hup, hfl, hhf, hw, ⟨more, ho⟩, hr⟩ := h
  obtain ⟨hp', hpw', htw', hnv', hml', hup', hfl', hhf', hw', ⟨more', ho'⟩, hr'⟩ := h'
  refine ⟨?_, ?_, ?_, ?_, ?_, ?_, ?_, ?_, fun off hoff => (hw' off hoff).trans (hw off hoff), ⟨more' ++ more, ?_⟩,
    fun n hn h => hr' n hn (hr n hn h)⟩
  · rw [← hp, ← hp']
  · rw [← hpw, ← hpw']
  · rw [← htw, ← htw']
  · rw [← hnv, ← hnv']
  · rw [← hml, ← hml']
  · rw [← hup, ← hup']
  · rw [← hfl, ← hfl']
  · exact hhf.trans hhf'
  · rw [ho', ho, List.append_assoc]

section
variable {a b : State} (h : Takes a b)
include h

theorem Takes.fld {f : Fld} (hf : discardWord f.off = false) : b.fld f = a.fld f := congrArg f.of (h.word f.off hf)

theorem Takes.posts {u : State} (hu : { u with io := b.io } = b) (hio : Posts b.io u.io) : Takes a u := by
  refine h.trans ⟨?_, ?_, ?_, ?_, ?_, ?_, ?_, hio.hf, fun off hoff => hio.word off (discardWord_eq_false.mp hoff).1, hio.out,
    fun n hn h => hio.ringsOff hn h⟩
  · rw [← hu]
  all_goals rw [← hu]

theorem Takes.complete (c : Cpl) : Takes a (b.complete c) := h.posts rfl (Posts.complete b.io b.now c)

theorem Takes.setWord {off : Nat} (hoff : discardWord off = true) (hring : off < 0x051000 ∨ 0x052800 ≤ off) (w : Word) :
    Takes a (b.setWord off w) := by
  refine h.trans ⟨rfl, rfl, rfl, rfl, rfl, rfl, rfl, rfl, fun x hx => ?_, ⟨[], rfl⟩, fun n hn hoff => ?_⟩
  · exact State.word_setWord_ne b w fun e => by rw [e, hx] at hoff; exact absurd hoff (by decide)
  · obtain ⟨hsq, hcq, hsa, hca⟩ := hoff
    refine ⟨(State.fld_setWord_off b w _ ?_).trans hsq, (State.fld_setWord_off b w _ ?_).trans hcq,
      (State.fld_setWord_off b w _ ?_).trans hsa, (State.fld_setWord_off b w _ ?_).trans hca⟩
    all_goals
      simp only [F.HIF_SQ_CFG_en, F.HIF_CQ_CFG_en, F.HIF_SQ_ERR_active, F.HIF_CQ_ERR_active]
      omega

theorem Takes.setFld {f : Fld} (hoff : discardWord f.off = true) (hring : f.off < 0x051000 ∨ 0x052800 ≤ f.off) (v : Nat) :
    Takes a (b.setFld f v) := h.setWord hoff hring _

theorem Takes.count {f : Fld} (hoff : discardWord f.off = true) (hring : f.off < 0x051000 ∨ 0x052800 ≤ f.off) (n : Nat) :
    Takes a (b.count f n) := h.setWord hoff hring _

theorem Takes.put (x : Out) : Takes a (b.put x) := h.posts rfl (Posts.put b.io x)

theorem Takes.setSr (x : Sr) : Takes a { b with sr := x } :=
  h.trans ⟨rfl, rfl, rfl, rfl, rfl, rfl, rfl, rfl, fun _ _ => rfl, ⟨[], rfl⟩, fun _ _ h => h⟩

theorem Takes.setQm (x : Qm) : Takes a { b with qm := x } :=
  h.trans ⟨rfl, rfl, rfl, rfl, rfl, rfl, rfl, rfl, fun _ _ => rfl, ⟨[], rfl⟩, fun _ _ h => h⟩

theorem Takes.log (k src d : Nat) : Takes a (b.log k src d) :=
  h.trans ⟨rfl, rfl, rfl, rfl, rfl, rfl, rfl, rfl, fun _ _ => rfl, ⟨[], rfl⟩, fun _ _ h => h⟩

theorem Takes.event (ty : Nat) (x : Bytes) : Takes a (b.event ty x) := h.posts rfl (Posts.event b.io b.now b.evOk ty x)

omit h in
/-- A step that is taken or not. -/
theorem Takes.ite {p : Prop} [Decidable p] {u v : State} (hu : Takes a u) (hv : Takes a v) :
    Takes a (if p then u else v) := by
  split
  · exact hu
  · exact hv

end

/-- Steps over a list, one after the other. -/
theorem Takes.each {α : Type} {f : State → α → State} {a b : State} (h : Takes a b) (l : List α)
    (hf : ∀ x ∈ l, ∀ {c : State}, Takes a c → Takes a (f c x)) : Takes a (b.each l f) := by
  induction l generalizing b with
  | nil => exact h
  | cons x l ih =>
    exact ih (hf x List.mem_cons_self h) fun y hy => hf y (List.mem_cons_of_mem x hy)

theorem discardWord_ring {off : Nat} (lo : 0x051000 ≤ off) (hi : off < 0x051800) (hmod : off % 32 = 16) :
    discardWord off = true := by
  simp [discardWord, lo, hi, hmod]

theorem discardWord_eth {off : Nat} (lo : 0x400000 ≤ off) (hi : off < 0x402000) : discardWord off = true := by
  simp [discardWord, lo, hi]

/-! ### Commands taken back -/

section
variable {a b : State} (h : Takes a b)
include h

theorem Takes.showNext : Takes a b.showNext := by
  unfold State.showNext
  have hone {c : State} (hc : Takes a c) (f : Fld) (v : Nat) (hf : f.off = 0x140004 ∨ 0x140018 ≤ f.off ∧ f.off ≤ 0x140020) :
      Takes a (c.setFld f v) := hc.setFld (by simp [discardWord]; omega) (.inr (by omega)) v
  refine hone (hone (hone (hone (hone (hone h _ _ ?_) _ _ ?_) _ _ ?_) _ _ ?_) _ _ ?_) _ _ ?_
  all_goals decide

theorem Takes.setPending (p : Option Rot) : Takes a (b.setPending p) := by
  unfold State.setPending
  split
  · exact h.trans ⟨rfl, rfl, rfl, rfl, rfl, rfl, rfl, rfl, fun _ _ => rfl, ⟨[], rfl⟩, fun _ _ h => h⟩
  · exact h.trans ⟨rfl, rfl, rfl, rfl, rfl, rfl, rfl, rfl, fun _ _ => rfl, ⟨[], rfl⟩, fun _ _ h => h⟩

theorem Takes.putDir (d : Dir) : Takes a (b.putDir d) := by
  refine h.trans ⟨rfl, rfl, rfl, ?_, rfl, rfl, rfl, rfl, fun _ _ => rfl, ⟨[], rfl⟩, fun _ _ h => h⟩
  unfold State.putDir
  dsimp only
  split_ifs
  · rfl
  · rfl

theorem Takes.undoActivate (x : Bool) : Takes a (b.undoActivate x) := by
  unfold State.undoActivate State.updDir
  split
  · exact h.putDir _
  · exact h

theorem Takes.undoMode (target : Nat) : Takes a (b.undoMode target) := by
  have hdrop {u : State} (hu : Takes b u) : Takes a u := h.trans hu
  unfold State.undoMode
  dsimp only
  split
  · exact hdrop ⟨rfl, rfl, rfl, rfl, rfl, rfl, rfl, rfl, fun _ _ => rfl, ⟨[], rfl⟩, fun _ _ h => h⟩
  · exact hdrop ⟨rfl, rfl, rfl, rfl, rfl, rfl, rfl, rfl, fun _ _ => rfl, ⟨[], rfl⟩, fun _ _ h => h⟩
  · exact hdrop ⟨rfl, rfl, rfl, rfl, rfl, rfl, rfl, rfl, fun _ _ => rfl, ⟨[], rfl⟩, fun _ _ h => h⟩
  · exact .ite h (hdrop ⟨rfl, rfl, rfl, rfl, rfl, rfl, rfl, rfl, fun _ _ => rfl, ⟨[], rfl⟩, fun _ _ h => h⟩)
  · exact .ite h (hdrop ⟨rfl, rfl, rfl, rfl, rfl, rfl, rfl, rfl, fun _ _ => rfl, ⟨[], rfl⟩, fun _ _ h => h⟩)
  · exact hdrop ⟨rfl, rfl, rfl, rfl, rfl, rfl, rfl, rfl, fun _ _ => rfl, ⟨[], rfl⟩, fun _ _ h => h⟩
  · exact h

theorem Takes.undo (d : Dfr) : Takes a (b.undo d) := by
  have hpart {u : State} (hu : Takes b u) : Takes a u := h.trans hu
  unfold State.undo
  refine .ite (h.undoMode _) (.ite ?next (.ite ?close (.ite ?circs (.ite ?frames (.ite ?epoch (.ite ?letters
    (.ite ?jobs (.ite ?update h))))))))
  case next =>
    exact Takes.showNext (hpart ⟨rfl, rfl, rfl, rfl, rfl, rfl, rfl, rfl, fun _ _ => rfl, ⟨[], rfl⟩, fun _ _ h => h⟩)
  case epoch => exact h.setPending none
  case update =>
    refine .ite h ?_
    have hjob : Takes a (match b.up.job with
        | some (.activate b' _) => b.undoActivate b'
        | _ => b) := by
      split
      · exact h.undoActivate _
      · exact h
    exact hjob.trans ⟨rfl, rfl, rfl, rfl, rfl, rfl, rfl, rfl, fun _ _ => rfl, ⟨[], rfl⟩, fun _ _ h => h⟩
  all_goals exact hpart ⟨rfl, rfl, rfl, rfl, rfl, rfl, rfl, rfl, fun _ _ => rfl, ⟨[], rfl⟩, fun _ _ h => h⟩

theorem Takes.discardOne (d : Dfr) : Takes a (b.discardOne d) := by
  unfold State.discardOne
  refine .ite ?_ ((h.complete _).undo d)
  exact (h.complete _).trans ⟨rfl, rfl, rfl, rfl, rfl, rfl, rfl, rfl, fun _ _ => rfl, ⟨[], rfl⟩, fun _ _ h => h⟩

theorem Takes.discardBuf (x : RxBuf) : Takes a (b.discardBuf x) := h.complete _

/-- A ring that settles may become inactive, and nothing else of a ring changes. -/
theorem Takes.settle {n : Nat} (hn : n < 64) : Takes a { b with io := b.io.settle n } := by
  unfold Io.settle
  split
  · have hoff : discardWord (0x51010 + 0x20 * n) = true := by apply discardWord_ring <;> omega
    refine h.trans ⟨rfl, rfl, rfl, rfl, rfl, rfl, rfl, rfl, fun x hx => ?_, ⟨[], rfl⟩, fun k hk hoffk => ?_⟩
    · exact State.word_setFld_off b (F.HIF_SQ_ERR_active n) 0 fun e => by
        rw [show x = 0x51010 + 0x20 * n from e.symm, hoff] at hx; exact absurd hx (by decide)
    · obtain ⟨hsq, hcq, hsa, hca⟩ := hoffk
      have hother (f : Fld) (hf : f.off ≠ 0x51010 + 0x20 * n) : (b.io.setFld (F.HIF_SQ_ERR_active n) 0).fld f = b.io.fld f :=
        Io.fld_setFld_off _ f _ _ (Ne.symm hf)
      refine ⟨(hother _ ?_).trans hsq, (hother _ ?_).trans hcq, ?_, (hother _ ?_).trans hca⟩
      · simp only [F.HIF_SQ_CFG_en]; omega
      · simp only [F.HIF_CQ_CFG_en]; omega
      · rcases eq_or_ne k n with rfl | hne
        · exact (Io.fld_setFld_self _ _ _ (show 0 < 32 by decide)).trans (Nat.zero_mod _)
        · exact (hother _ (by simp only [F.HIF_SQ_ERR_active]; omega)).trans hsa
      · simp only [F.HIF_CQ_ERR_active]; omega
  · exact h

/-! ### The pool follows -/

theorem Takes.latchRegs (l : List Nat) : Takes a (b.latchRegs l) := by
  refine h.posts rfl ?_
  show Posts b.io (b.io.latchRegs l)
  generalize b.io = io
  induction l generalizing io with
  | nil => exact .refl io
  | cons x l ih => exact (Posts.latchReg io x).trans (ih _)

theorem Takes.sendPause {p : Nat} (hp : p < 2) (u quanta : Nat) : Takes a (b.sendPause p u quanta) :=
  (h.put _).count (by apply discardWord_eth <;> simp only [F.ETH_PAUSE_CNT_tx] <;> omega)
    (.inr (by simp only [F.ETH_PAUSE_CNT_tx]; omega)) 1

theorem Takes.setXoff {p : Nat} (hp : p < 2) (u : Nat) (x : Bool) : Takes a (b.setXoff p u x) :=
  h.setFld (by apply discardWord_eth <;> simp only [F.ETH_STAT_xoff_sent] <;> omega)
    (.inr (by simp only [F.ETH_STAT_xoff_sent]; omega)) _

theorem Takes.sendXoff {p : Nat} (hp : p < 2) (u : Nat) : Takes a (b.sendXoff p u) :=
  ((h.sendPause hp u _).setXoff hp u true).setSr _

theorem Takes.flowControl : Takes a b.flowControl := by
  unfold State.flowControl
  refine .ite h (.each h [0, 1] fun p hp c hc => .ite hc (.each (hc.latchRegs _) _ fun u _ d hd => ?_))
  have hp : p < 2 := by simp at hp; omega
  exact .ite (.ite ((hd.sendPause hp u 0).setXoff hp u false) hd) (.ite (hd.sendXoff hp u) hd)

theorem Takes.updatePool : Takes a b.updatePool := (h.setFld (by decide) (.inr (by decide)) _).flowControl

theorem Takes.setQueue (n : Nat) (q : Queue) : Takes a (b.setQueue n q) := h.setQm _

theorem Takes.leaveRound (n : Nat) : Takes a (b.leaveRound n) := (h.setQm _).setQueue n _

theorem Takes.dropQueue (n : Nat) : Takes a (b.dropQueue n) := ((h.setQueue n _).leaveRound n).updatePool

theorem Takes.emptyHost : Takes a b.emptyHost :=
  .each h _ fun _ _ _ hc => (hc.dropQueue _).count (by decide) (.inr (by decide)) _

end

theorem Takes.mode {a b : State} (h : Takes a b) : b.pw.mode = a.pw.mode := (congrArg Pw.mode h.pw :)

theorem Takes.role {a b : State} (h : Takes a b) : b.tw.role = a.tw.role := (congrArg Tw.role h.tw :)

theorem Takes.claim {a b : State} (h : Takes a b) : b.tw.claim = a.tw.claim := (congrArg Tw.claim h.tw :)

theorem Takes.pending {a b : State} (h : Takes a b) : b.pending = a.pending := (congrArg State.pending h.parts :)

/-- The parts of the state beside the interface, of a step that takes host work back. -/
theorem Takes.rebase {a b : State} (h : Takes a b) (x : Io) : Takes { a with io := x } { b with io := x } := by
  obtain ⟨hp, hpw, htw, hnv, hml, hup, hfl, -, -, -, -⟩ := h
  refine ⟨?_, hpw, htw, hnv, hml, hup, hfl, rfl, fun _ _ => rfl, ⟨[], rfl⟩, fun _ _ h => h⟩
  have hparts := congrArg (fun a : State => { a with io := x }) hp
  exact hparts

/-! ### A discard (R479, R480) -/

section
variable (s : State) (cause : Nat) (keep : Dfr → Bool)

/-- The commands that `keep` does not exempt and the buffers are taken from the host's work. -/
def State.without : State :=
  { s with io := { s.io with hf := { s.io.hf with
    deferred := s.io.hf.deferred.filter keep, rxBufs := [], txDone := [] } } }

/-- The service generation is one on, with its cause and its count. -/
def State.advance : State :=
  ((s.setFld F.HIF_GEN_gen (s.fld F.HIF_GEN_gen + 1)).setFld F.HIF_GEN_cause cause).count F.HIF_GEN_bumps

theorem State.advance_fld : (s.advance cause).fld F.HIF_GEN_gen = (s.fld F.HIF_GEN_gen + 1) % 256 ∧
    (s.advance cause).fld F.HIF_GEN_cause = cause % 16 := by
  unfold State.advance State.count Io.count
  constructor
  · refine (State.fld_setFld_bits _ F.HIF_GEN_gen F.HIF_GEN_bumps _ (by decide) (.inl (by decide))).trans ?_
    rw [State.fld_setFld_bits _ _ _ _ (by decide) (.inl (by decide)), State.fld_setFld_self _ _ _ (by decide)]
    rfl
  · refine (State.fld_setFld_bits _ F.HIF_GEN_cause F.HIF_GEN_bumps _ (by decide) (.inl (by decide))).trans ?_
    rw [State.fld_setFld_self _ _ _ (by decide)]
    rfl

theorem State.word_advance {off : Nat} (h : off ≠ 0x050004) : (s.advance cause).word off = s.word off := by
  unfold State.advance
  rw [State.word_count_off _ _ _ (Ne.symm h), State.word_setFld_off _ _ _ (Ne.symm h),
    State.word_setFld_off _ _ _ (Ne.symm h)]

theorem Takes.nextGen (n : Nat) : Takes (s.advance cause) (s.nextGen cause n) :=
  ((Takes.refl _).log 0x12 0xFF cause).event _ _

/-- A discard takes the host's work back, and then the generation advances. -/
theorem State.discard_takes : ∃ v, Takes (s.without keep) v ∧ Takes (v.advance cause) (s.discard cause keep) := by
  refine ⟨_, ?_, Takes.nextGen _ cause _⟩
  refine Takes.updatePool (.each (.refl _) _ fun n hn c hc => ?_)
  exact (Takes.each (hc.each _ fun d _ _ hd => hd.discardOne d) _ fun b _ _ hb => hb.discardBuf b).settle
    (List.mem_range.mp hn)

end

/-- The host's work but what `keep` exempts was discarded for a cause, from `s` to `u`. -/
structure Discarded (s u : State) (cause : Nat) (keep : Dfr → Bool) : Prop where
  rest : Takes s { u with io := s.io }
  hf : (s.without keep).io.hf.Like u.io.hf
  gen : u.fld F.HIF_GEN_gen = (s.fld F.HIF_GEN_gen + 1) % 256
  cause : u.fld F.HIF_GEN_cause = cause % 16
  word : ∀ off, discardWord off = false → off ≠ 0x050004 → u.word off = s.word off
  out : ∃ more, u.io.out = more ++ s.io.out
  rings : ∀ n < 64, s.io.ringsOff n → u.io.ringsOff n

theorem State.advance_rings (s : State) (cause : Nat) {n : Nat} (h : s.io.ringsOff n) : (s.advance cause).io.ringsOff n := by
  obtain ⟨hsq, hcq, hsa, hca⟩ := h
  refine ⟨?_, ?_, ?_, ?_⟩
  · exact (congrArg _ (s.word_advance cause (by simp only [F.HIF_SQ_CFG_en]; omega))).trans hsq
  · exact (congrArg _ (s.word_advance cause (by simp only [F.HIF_CQ_CFG_en]; omega))).trans hcq
  · exact (congrArg _ (s.word_advance cause (by simp only [F.HIF_SQ_ERR_active]; omega))).trans hsa
  · exact (congrArg _ (s.word_advance cause (by simp only [F.HIF_CQ_ERR_active]; omega))).trans hca

theorem State.discard_leaves (s : State) (cause : Nat) (keep : Dfr → Bool) :
    Discarded s (s.discard cause keep) cause keep := by
  obtain ⟨v, hv, hd⟩ := s.discard_takes cause keep
  obtain ⟨hgen, hcause⟩ := v.advance_fld cause
  constructor
  case rest =>
    have h1 : Takes s { v with io := s.io } := hv.rebase s.io
    have h2 : Takes { v with io := s.io } { s.discard cause keep with io := s.io } := hd.rebase s.io
    exact h1.trans h2
  case hf => exact Hif.Like.trans hv.hf hd.hf
  case gen => exact (hd.fld (by decide)).trans (hgen.trans (by rw [hv.fld (by decide)]; rfl))
  case cause => exact (hd.fld (by decide)).trans hcause
  case word => exact fun off hoff hne => (hd.word off hoff).trans ((v.word_advance cause hne).trans (hv.word off hoff))
  case out =>
    obtain ⟨more, hmore⟩ := hv.out
    obtain ⟨more', hmore'⟩ := hd.out
    exact ⟨more' ++ more, hmore'.trans ((congrArg _ hmore).trans (List.append_assoc _ _ _).symm)⟩
  case rings => exact fun n hn h => hd.rings n hn (v.advance_rings cause (hv.rings n hn h))

/-- Everything was discarded: no command and no buffer is left. -/
theorem Discarded.emptied {s u : State} {cause : Nat} (h : Discarded s u cause keepNone) :
    u.io.hf.deferred = [] ∧ u.io.hf.rxBufs = [] := by
  have hd := congrArg Hif.deferred h.hf
  have hb := congrArg Hif.rxBufs h.hf
  exact ⟨hd.trans (by simp [State.without, keepNone]), hb⟩

/-! ### The loss of the host (R481, R482) -/

/-- One ring of each kind stops. -/
def Io.dropRing (io : Io) (n : Nat) : Io :=
  (((io.setFld (F.HIF_SQ_CFG_en n) 0).setFld (F.HIF_SQ_ERR_active n) 0).setFld (F.HIF_CQ_CFG_en n) 0).setFld
    (F.HIF_CQ_ERR_active n) 0

/-- The registers of the rings, `HIF_SQ_*_n` and `HIF_CQ_*_n`. -/
abbrev isRing (off : Nat) : Prop := 0x051000 ≤ off ∧ off < 0x052800

theorem Io.dropRing_self (io : Io) (n : Nat) : (io.dropRing n).ringsOff n := by
  dsimp only [Io.dropRing, Io.ringsOff, F.HIF_SQ_CFG_en, F.HIF_SQ_ERR_active, F.HIF_CQ_CFG_en, F.HIF_CQ_ERR_active]
  simp (disch := (dsimp only; omega)) only [Io.fld_setFld_self, Io.fld_setFld_off, Nat.zero_mod, and_self]

theorem Io.dropRing_word (io : Io) {n off : Nat} (hn : n < 64) (h : ¬ isRing off) :
    (io.dropRing n).word off = io.word off := by
  have hoff : off < 0x051000 ∨ 0x052800 ≤ off := by omega
  unfold Io.dropRing Io.setFld
  dsimp only [F.HIF_SQ_CFG_en, F.HIF_SQ_ERR_active, F.HIF_CQ_CFG_en, F.HIF_CQ_ERR_active]
  simp (disch := omega) only [Io.word_setWord_ne]

theorem Io.dropRing_keeps (io : Io) {n k : Nat} (hn : n < 64) (hk : k < 64) (h : io.ringsOff k) :
    (io.dropRing n).ringsOff k := by
  rcases eq_or_ne k n with rfl | hne
  · exact io.dropRing_self k
  · obtain ⟨hsq, hcq, hsa, hca⟩ := h
    dsimp only [F.HIF_SQ_CFG_en, F.HIF_SQ_ERR_active, F.HIF_CQ_CFG_en, F.HIF_CQ_ERR_active] at hsq hcq hsa hca
    dsimp only [Io.dropRing, Io.ringsOff, F.HIF_SQ_CFG_en, F.HIF_SQ_ERR_active, F.HIF_CQ_CFG_en, F.HIF_CQ_ERR_active]
    simp (disch := (dsimp only; omega)) only [Io.fld_setFld_off, hsq, hcq, hsa, hca, and_self]

/-- Rings that stop one after the other. -/
theorem Io.foldl_dropRing (l : List Nat) (io : Io) (hl : ∀ k ∈ l, k < 64) :
    (∀ k < 64, io.ringsOff k → (l.foldl Io.dropRing io).ringsOff k) ∧
    (∀ k ∈ l, (l.foldl Io.dropRing io).ringsOff k) ∧
    (∀ off, ¬ isRing off → (l.foldl Io.dropRing io).word off = io.word off) ∧
    { l.foldl Io.dropRing io with regs := io.regs } = io := by
  induction l generalizing io with
  | nil => exact ⟨fun _ _ h => h, fun k hk => absurd hk List.not_mem_nil, fun _ _ => rfl, rfl⟩
  | cons n l ih =>
    have hn := hl n List.mem_cons_self
    obtain ⟨hkeep, hoff, hword, hio⟩ := ih (io.dropRing n) fun k hk => hl k (List.mem_cons_of_mem n hk)
    refine ⟨fun k hk h => hkeep k hk (io.dropRing_keeps hn hk h), fun k hk => ?_, fun off h => ?_, ?_⟩
    · rcases List.mem_cons.mp hk with rfl | hk
      · exact hkeep k hn (io.dropRing_self k)
      · exact hoff k hk
    · exact (hword off h).trans (io.dropRing_word hn h)
    · have hregs : { l.foldl Io.dropRing (io.dropRing n) with regs := io.regs } = { io.dropRing n with regs := io.regs } :=
        congrArg (fun x : Io => { x with regs := io.regs }) hio
      exact hregs

/-- What is held for the rings is lost. -/
def Io.dropHeld (io : Io) : Io := { io with hf := { io.hf with cqHeld := [], coal := [] } }

theorem Io.dropRings_eq (io : Io) : io.dropRings = ((List.range 64).foldl Io.dropRing io).dropHeld := rfl

theorem Io.dropHeld_leaves {io x : Io} (h : { x with regs := io.regs } = io) :
    { x.dropHeld with regs := io.regs, hf := io.hf } = io ∧ x.dropHeld.hf = { io.hf with cqHeld := [], coal := [] } := by
  have hhf := congrArg Io.hf h
  dsimp only at hhf
  rw [hhf] at h
  exact ⟨h, by rw [← hhf]; rfl⟩

/-- Every ring is off, and what is held for them is lost. -/
theorem Io.dropRings_leaves (io : Io) : (∀ k < 64, io.dropRings.ringsOff k) ∧
    (∀ off, ¬ isRing off → io.dropRings.word off = io.word off) ∧
    { io.dropRings with regs := io.regs, hf := io.hf } = io ∧
    io.dropRings.hf = { io.hf with cqHeld := [], coal := [] } := by
  obtain ⟨-, hoff, hword, hio⟩ := Io.foldl_dropRing (List.range 64) io fun k hk => List.mem_range.mp hk
  rw [Io.dropRings_eq]
  simp only [List.mem_range] at hoff
  generalize (List.range 64).foldl Io.dropRing io = x at hoff hword hio
  exact ⟨hoff, hword, Io.dropHeld_leaves hio⟩

/-- The host is lost, from `s` to `u`, for the cause `c`. -/
structure HostLost (s u : State) (c : LossCause) : Prop where
  rest : Takes s { u with io := s.io }
  lost : u.io.hf.lost = some c
  bit : (u.word 0x050014).getLsbD c.bit = true
  deferred : u.io.hf.deferred = []
  rxBufs : u.io.hf.rxBufs = []
  gen : u.fld F.HIF_GEN_gen = (s.fld F.HIF_GEN_gen + 1) % 256
  cause : u.fld F.HIF_GEN_cause = 4
  rings : ∀ n < 64, u.io.ringsOff n
  busMaster : u.io.hf.busMaster = (s.io.hf.busMaster && c != LossCause.busMaster)
  hf : { u.io.hf with
    deferred := s.io.hf.deferred, rxBufs := s.io.hf.rxBufs, txDone := s.io.hf.txDone, lost := s.io.hf.lost
    busMaster := s.io.hf.busMaster, coal := s.io.hf.coal, cqHeld := s.io.hf.cqHeld, evHeld := s.io.hf.evHeld
    evSeq := s.io.hf.evSeq, evLost := s.io.hf.evLost, wakeN := s.io.hf.wakeN, pme := s.io.hf.pme } = s.io.hf
  word : ∀ off, discardWord off = false → ¬ isRing off → off ≠ 0x050004 → off ≠ 0x050014 → u.word off = s.word off

/-- The cause is recorded, and the interface marks the host lost. -/
def State.markLost (s : State) (c : LossCause) : State :=
  { s.setWord 0x050014 (s.word 0x050014 ||| BitVec.ofNat 32 (2 ^ c.bit)) with
    io := { (s.setWord 0x050014 (s.word 0x050014 ||| BitVec.ofNat 32 (2 ^ c.bit))).io with hf := { s.io.hf with
      lost := some c
      busMaster := s.io.hf.busMaster && c != LossCause.busMaster } } }

/-- Every ring stops. -/
def State.ringsDropped (s : State) : State := { s with io := s.io.dropRings }

theorem State.hostLoss_eq {s : State} (c : LossCause) (h : s.io.hf.lost = none) :
    s.hostLoss c = ((s.markLost c).discard 0x4 keepNone).ringsDropped.emptyHost := by
  unfold State.hostLoss
  exact if_neg (by rw [show (s.setWord F.HIF_LOSS_cause.off _).io.hf.lost = none from h]; decide)

theorem State.markLost_bit (s : State) (c : LossCause) : ((s.markLost c).word 0x050014).getLsbD c.bit = true := by
  have hword : (s.markLost c).word 0x050014 = s.word 0x050014 ||| BitVec.ofNat 32 (2 ^ c.bit) :=
    State.word_setWord_self s 0x050014 _
  rw [hword, BitVec.getLsbD_or]
  cases c <;> simp [LossCause.bit]

theorem State.word_markLost (s : State) (c : LossCause) {off : Nat} (h : off ≠ 0x050014) :
    (s.markLost c).word off = s.word off := State.word_setWord_ne s _ (Ne.symm h)

theorem State.hostLoss_leaves {s : State} (c : LossCause) (h : s.io.hf.lost = none) : HostLost s (s.hostLoss c) c := by
  have hd := (s.markLost c).discard_leaves 0x4 keepNone
  obtain ⟨hrings, hring, -, hhf⟩ := ((s.markLost c).discard 0x4 keepNone).io.dropRings_leaves
  have hempty := (Takes.refl ((s.markLost c).discard 0x4 keepNone).ringsDropped).emptyHost
  rw [← State.hostLoss_eq c h] at hempty
  have hword (off : Nat) (hoff : discardWord off = false) (hno : ¬ isRing off) :
      (s.hostLoss c).word off = ((s.markLost c).discard 0x4 keepNone).word off :=
    (hempty.word off hoff).trans (hring off hno)
  have hall : { (s.hostLoss c).io.hf with
      coal := s.io.hf.coal, cqHeld := s.io.hf.cqHeld, evHeld := s.io.hf.evHeld, evSeq := s.io.hf.evSeq
      evLost := s.io.hf.evLost, wakeN := s.io.hf.wakeN, pme := s.io.hf.pme } =
      ((s.markLost c).without keepNone).io.hf := by
    have hdrop : Hif.Like ((s.markLost c).discard 0x4 keepNone).io.hf
        ((s.markLost c).discard 0x4 keepNone).ringsDropped.io.hf := by
      rw [State.ringsDropped, hhf]
      rfl
    exact Hif.Like.trans hd.hf (Hif.Like.trans hdrop hempty.hf)
  constructor
  case gen =>
    refine (congrArg F.HIF_GEN_gen.of (hword 0x050004 (by decide) (by decide))).trans (hd.gen.trans ?_)
    rw [State.fld_eq, s.word_markLost c (by decide), State.fld_eq]
  case cause => exact (congrArg F.HIF_GEN_cause.of (hword 0x050004 (by decide) (by decide))).trans hd.cause
  case bit =>
    rw [hword _ (by decide) (by decide), hd.word _ (by decide) (by decide)]
    exact s.markLost_bit c
  case word =>
    intro off hoff hno hgen hloss
    rw [hword off hoff hno, hd.word off hoff hgen, s.word_markLost c hloss]
  case rest => exact (Takes.trans (b := { (s.markLost c).discard 0x4 keepNone with io := s.io }) (hd.rest.rebase s.io)
    (hempty.rebase s.io))
  case rings => exact fun n hn => hempty.rings n hn (hrings n hn)
  case hf =>
    have hmark : { ((s.markLost c).without keepNone).io.hf with
      deferred := s.io.hf.deferred, rxBufs := s.io.hf.rxBufs, txDone := s.io.hf.txDone, lost := s.io.hf.lost
      busMaster := s.io.hf.busMaster, coal := s.io.hf.coal, cqHeld := s.io.hf.cqHeld, evHeld := s.io.hf.evHeld
      evSeq := s.io.hf.evSeq, evLost := s.io.hf.evLost, wakeN := s.io.hf.wakeN, pme := s.io.hf.pme } = s.io.hf := rfl
    rw [← hall] at hmark
    exact hmark
  case lost => exact (congrArg Hif.lost hall :)
  case deferred => exact (congrArg Hif.deferred hall).trans (by simp [State.without, keepNone])
  case rxBufs => exact (congrArg Hif.rxBufs hall :)
  case busMaster => exact (congrArg Hif.busMaster hall :)

end Sys2Proof.Machine
end

-- ==== The discard by software, the host watchdog, and losses of the host (16_host_rings) ====
section
/-!
SUPPORT. What each does to the host interface, the mode, the claim and the role.
-/

namespace Sys2Proof.Machine

/-! ### The discard by software, the host watchdog and host losses (R480 to R482) -/

/-- The host is gone, and the mode, the claim and the role are as they were. -/
def HostGone (s u : State) (c : LossCause) : Prop :=
  u.io.hf.lost = some c ∧ (u.word 0x050014).getLsbD c.bit = true ∧
    (u.io.hf.deferred = [] ∧ u.io.hf.rxBufs = [] ∧
      u.fld F.HIF_GEN_gen = (s.fld F.HIF_GEN_gen + 1) % 256 ∧ u.fld F.HIF_GEN_cause = 4) ∧
    (∀ n < 64, u.fld (F.HIF_SQ_CFG_en n) = 0 ∧ u.fld (F.HIF_CQ_CFG_en n) = 0 ∧
      u.io.sqActive n = false ∧ u.io.cqActive n = false) ∧
    u.pw.mode = s.pw.mode ∧ u.tw.claim = s.tw.claim ∧ u.tw.role = s.tw.role

theorem HostLost.gone {s u : State} {c : LossCause} (h : HostLost s u c) : HostGone s u c := by
  refine ⟨h.lost, h.bit, ⟨h.deferred, h.rxBufs, h.gen, h.cause⟩, fun n hn => ?_, h.rest.mode, h.rest.claim, h.rest.role⟩
  obtain ⟨hsq, hcq, hsa, hca⟩ := h.rings n hn
  exact ⟨hsq, hcq, bne_eq_false_iff_eq.mpr hsa, bne_eq_false_iff_eq.mpr hca⟩

/-- `HIF_STAT` and what the interface keeps besides do not matter. -/
theorem HostGone.stat {s u u' : State} {c : LossCause} (h : HostGone s u c) (hpw : u'.pw = u.pw) (htw : u'.tw = u.tw)
    (hhf : u'.io.hf.lost = u.io.hf.lost ∧ u'.io.hf.deferred = u.io.hf.deferred ∧ u'.io.hf.rxBufs = u.io.hf.rxBufs)
    (hword : ∀ off, off ≠ 0x050000 → u'.word off = u.word off) : HostGone s u' c := by
  obtain ⟨hlost, hbit, ⟨hdef, hbuf, hgen, hcause⟩, hrings, hmode, hclaim, hrole⟩ := h
  obtain ⟨hlost', hdef', hbuf'⟩ := hhf
  have hfld (f : Fld) (hf : f.off ≠ 0x050000) : u'.fld f = u.fld f := congrArg f.of (hword f.off hf)
  refine ⟨hlost'.trans hlost, by rw [hword _ (by decide)]; exact hbit, ⟨hdef'.trans hdef, hbuf'.trans hbuf,
    (hfld _ (by decide)).trans hgen, (hfld _ (by decide)).trans hcause⟩, fun n hn => ?_, by rw [hpw, hmode],
    by rw [htw, hclaim], by rw [htw, hrole]⟩
  obtain ⟨hsq, hcq, hsa, hca⟩ := hrings n hn
  have hsa' := hfld (F.HIF_SQ_ERR_active n) (by simp only [F.HIF_SQ_ERR_active]; omega)
  have hca' := hfld (F.HIF_CQ_ERR_active n) (by simp only [F.HIF_CQ_ERR_active]; omega)
  exact ⟨(hfld _ (by simp only [F.HIF_SQ_CFG_en]; omega)).trans hsq, (hfld _ (by simp only [F.HIF_CQ_CFG_en]; omega)).trans hcq,
    (congrArg (· != 0) hsa').trans hsa, (congrArg (· != 0) hca').trans hca⟩

theorem HostGone.setFld {s u : State} {c : LossCause} (h : HostGone s u c) {f : Fld} (hf : f.off = 0x050000) (v : Nat) :
    HostGone s (u.setFld f v) c :=
  h.stat rfl rfl ⟨rfl, rfl, rfl⟩ fun _ hne => State.word_setFld_off u f v (by rw [hf]; exact Ne.symm hne)

theorem HostGone.setHf {s u : State} {c : LossCause} (h : HostGone s u c) (hf : Hif) (hlost : hf.lost = u.io.hf.lost)
    (hdef : hf.deferred = u.io.hf.deferred) (hbuf : hf.rxBufs = u.io.hf.rxBufs) :
    HostGone s { u with io := { u.io with hf := hf } } c :=
  h.stat rfl rfl ⟨hlost, hdef, hbuf⟩ fun _ _ => rfl

theorem HostGone.linkGone {s u : State} {c : LossCause} (h : HostGone s u c) : HostGone s u.linkGone c :=
  (((h.setFld (f := F.HIF_STAT_link_up) rfl 0).setFld (f := F.HIF_STAT_speed) rfl 0).setFld (f := F.HIF_STAT_width) rfl
    0).setHf _ rfl rfl rfl

theorem State.fld_linkGone (s : State) (f : Fld) : s.linkGone.fld f =
    (((s.setFld F.HIF_STAT_link_up 0).setFld F.HIF_STAT_speed 0).setFld F.HIF_STAT_width 0).fld f := rfl

theorem State.linkGone_up (s : State) : s.linkGone.fld F.HIF_STAT_link_up = 0 := by
  rw [State.fld_linkGone]
  simp (disch := decide) only [State.fld_setFld_bits, State.fld_setFld_eq]

/-- A loss seen from an earlier state of the same mode, claim, role and generation. -/
theorem HostGone.from {s u u' : State} {c : LossCause} (h : HostGone s u c) (hmode : s.pw.mode = u'.pw.mode)
    (htw : s.tw = u'.tw) (hgen' : s.fld F.HIF_GEN_gen = u'.fld F.HIF_GEN_gen) : HostGone u' u c := by
  obtain ⟨hlost, hbit, ⟨hdef, hbuf, hgen, hcause⟩, hrings, hmd, hclaim, hrole⟩ := h
  exact ⟨hlost, hbit, ⟨hdef, hbuf, hgen.trans (by rw [hgen']), hcause⟩, hrings, hmd.trans hmode, hclaim.trans (by rw [htw]),
    hrole.trans (by rw [htw])⟩

/-- A fault event is posted. -/
theorem State.faultEv_posts (s : State) (c r d : Nat) : Posts s.io (s.faultEv c r d).io := Posts.event _ _ _ _ _

/-- The function enters D3hot: the host is lost. -/
theorem State.enterD3_gone {s : State} (hlost : s.io.hf.lost = none) (hd : s.fld F.HIF_STAT_dstate ≠ 3) :
    HostGone s s.enterD3 .d3hot ∧ s.enterD3.fld F.HIF_STAT_dstate = 3 ∧ s.enterD3.pending = s.pending := by
  have hl := State.hostLoss_leaves .d3hot hlost
  rw [State.enterD3, if_neg hd]
  exact ⟨hl.gone.setFld rfl 3, State.fld_setFld_eq _ (by decide) (by decide), hl.rest.pending⟩

/-- Bus Master Enable is cleared with a ring enabled: the host is lost. -/
theorem State.masterOff_gone {s : State} (hlost : s.io.hf.lost = none) (hbm : s.io.hf.busMaster = true)
    (hring : s.io.anyRing = true) :
    HostGone s s.masterOff .busMaster ∧ s.masterOff.io.hf.busMaster = false ∧ s.masterOff.pending = s.pending := by
  have hl := State.hostLoss_leaves .busMaster hlost
  rw [State.masterOff, if_pos (by rw [hbm, hring]; rfl)]
  exact ⟨hl.gone.setHf _ rfl rfl rfl, rfl, hl.rest.pending⟩

/-- Configuration space answers the host while the link is up. -/
theorem State.cfgUp_eq {s : State} (hpow : s.powered = true) (hcfg : s.io.hf.cfgReady = true)
    (hup : s.fld F.HIF_STAT_link_up = 1) (hperst : s.io.hf.perst = false) : s.cfgUp = true := by
  rw [State.cfgUp, hpow, hcfg, hperst, State.flag_eq_true.mpr (hup.trans_ne (by decide))]
  rfl

/-- PLL_PCIE loses lock: the host is lost, and the link is down. -/
theorem State.pllUnlock_pcie {s : State} (hpow : s.powered = true) (hlost : s.io.hf.lost = none)
    (hlock : s.fld F.CLK_STAT_pcie_lock = 1) : HostGone s (s.pllUnlock 3) .pllPcie ∧
      (s.pllUnlock 3).fld F.CLK_STAT_pcie_lock = 0 ∧ (s.pllUnlock 3).pending = s.pending := by
  let v := (((s.setFld F.CLK_FAIL_pll_unlock (s.fld F.CLK_FAIL_pll_unlock ||| 2 ^ 3)).setFld F.CLK_STAT_pcie_lock 0).setFld
    F.CLK_STAT_pcie_lock 0)
  have hpost := v.faultEv_posts 0x2 6 0
  have hv : (v.faultEv 0x2 6 0).io.hf.lost = none := (congrArg Hif.lost hpost.hf).trans hlost
  have heq : s.pllUnlock 3 = ((v.faultEv 0x2 6 0).hostLoss .pllPcie).linkGone := by
    unfold State.pllUnlock
    rw [if_neg (by rw [hpow, State.flag_eq_true.mpr (show s.fld (pllLock 3) ≠ 0 from hlock.trans_ne (by decide))]; decide)]
    rfl
  have hl := State.hostLoss_leaves .pllPcie hv
  have hgen : v.fld F.HIF_GEN_gen = s.fld F.HIF_GEN_gen := by
    simp (disch := decide) only [v, State.fld_setFld_off]
  have hlock' : v.fld F.CLK_STAT_pcie_lock = 0 := State.fld_setFld_eq _ (by decide) (by decide)
  rw [heq]
  refine ⟨(hl.gone.from (u' := s) rfl rfl ((hpost.fld (f := F.HIF_GEN_gen) (by decide)).trans hgen)).linkGone, ?_, hl.rest.pending⟩
  have hlink : (((v.faultEv 0x2 6 0).hostLoss .pllPcie).linkGone).fld F.CLK_STAT_pcie_lock =
      ((v.faultEv 0x2 6 0).hostLoss .pllPcie).fld F.CLK_STAT_pcie_lock := by
    rw [State.fld_linkGone]
    simp (disch := decide) only [State.fld_setFld_off]
  rw [hlink, State.fld_eq, hl.word _ (by decide) (by decide) (by decide) (by decide)]
  exact (hpost.fld (f := F.CLK_STAT_pcie_lock) (by decide)).trans hlock'

/-- Settles O16: each discards, or loses the host, as `State.discard_leaves` and `State.hostLoss_leaves` say. -/
theorem discardAndHostLoss : Obligations.DiscardAndHostLoss := by
  intro t v s emptied gone
  have hgone {u : State} {c : LossCause} (h : HostGone s u c) : gone u c := h
  refine ⟨fun hbar => ⟨fun hkey hbit => ?bump, fun hno => ?noBump, fun hkick => ?kick⟩, fun hpow hlost => ⟨fun hms hdue => ?expiry,
    fun hup => ⟨?linkDown, fun hcfg hperst => ⟨fun hd => ?d3hot, fun hbm hring => ?busMaster⟩⟩, fun hlock => ?pllPcie⟩⟩
  case bump =>
    have hd := (s.at t).discard_leaves 0x6 keepNone
    have heq : (s.at t).hifCtrl v = (s.at t).discard 0x6 keepNone := if_pos ⟨hkey, by rw [bitN_eq_getLsbD]; exact hbit⟩
    obtain ⟨hdef, hbuf⟩ := hd.emptied
    exact ⟨_, hostWrites_eq_next hbar heq hd.rest.pending, ⟨hdef, hbuf, hd.gen, hd.cause⟩, hd.rest.mode, hd.rest.role⟩
  case noBump =>
    have heq : (s.at t).hifCtrl v = s.at t := if_neg fun ⟨hkey, hbit⟩ => by
      rw [bitN_eq_getLsbD] at hbit
      exact hno.elim (absurd hkey) fun h => by rw [h] at hbit; exact absurd hbit (by decide)
    exact ⟨_, hostWrites_eq_next hbar heq rfl, RegsOnly.at s t []⟩
  case kick =>
    have heq : (s.at t).wdogWrite v =
        { (s.at t).setFld F.HIF_HOST_WDOG_timeout_ms (bitsN v.toNat 15 0) with
          io := { ((s.at t).setFld F.HIF_HOST_WDOG_timeout_ms (bitsN v.toNat 15 0)).io with
            hf := { s.io.hf with wdogAt := max s.now t } } } := by
      unfold State.wdogWrite
      rw [bitN_eq_getLsbD, hkick]
      rfl
    have hhost := (HostOnly.at s t []).setFldHif (f := F.HIF_HOST_WDOG_timeout_ms) (by decide) (by decide)
      (bitsN v.toNat 15 0)
    refine ⟨_, hostWrites_eq_next hbar heq rfl, ?_, rfl, hhost.setHf _⟩
    exact State.fld_setFld_eq (s.at t) (f := F.HIF_HOST_WDOG_timeout_ms) (by decide) (Fld.of_lt ⟨0, 15, 0⟩ v)
  case expiry =>
    have hl := State.hostLoss_leaves (s := s.at t) .watchdog hlost
    have heq : (s.at t).hostWdog = (s.at t).hostLoss .watchdog := by
      refine if_pos ?_
      rw [show (s.at t).powered = true from hpow, show (s.at t).io.hf.lost = none from hlost,
        State.flag_eq_true.mpr (show (s.at t).fld F.HIF_HOST_WDOG_timeout_ms ≠ 0 from hms)]
      simpa [State.wdogNs, msNs, Nat.mul_comm] using hdue
    exact ⟨_, run_eq_next heq hl.rest.pending, hgone hl.gone⟩
  case linkDown =>
    have hl := State.hostLoss_leaves (s := s.at t) .linkDown hlost
    have heq : (s.at t).hostGone .linkDown = ((s.at t).hostLoss .linkDown).linkGone :=
      if_pos (by rw [show (s.at t).powered = true from hpow, State.flag_eq_true.mpr (show (s.at t).fld _ ≠ 0 from hup.trans_ne (by decide))]; rfl)
    exact ⟨_, run_eq_next (f := fun s => s.hostGone .linkDown) heq hl.rest.pending, hgone hl.gone.linkGone, State.linkGone_up _⟩
  case d3hot =>
    obtain ⟨hg, hst, hp⟩ := State.enterD3_gone (s := s.at t) hlost hd
    exact ⟨_, run_eq_next (f := fun s => s.hostGone .d3hot) (if_pos (State.cfgUp_eq hpow hcfg hup hperst)) hp, hgone hg, hst⟩
  case busMaster =>
    obtain ⟨hg, hst, hp⟩ := State.masterOff_gone (s := s.at t) hlost hbm hring
    exact ⟨_, run_eq_next (f := fun s => s.hostGone .busMaster) (if_pos (State.cfgUp_eq hpow hcfg hup hperst)) hp, hgone hg, hst⟩
  case pllPcie =>
    obtain ⟨hg, hst, hp⟩ := State.pllUnlock_pcie (s := s.at t) hpow hlost hlock
    exact ⟨_, run_eq_next (f := fun s => s.hostGone .pllPcie) rfl hp, hgone hg, hst⟩

end Sys2Proof.Machine
end

-- ==== PERST_N and the PCIe link (16_host_rings) ====
section
/-!
SUPPORT. What PERST_N, a link that comes up, and a configuration write leave.
-/

namespace Sys2Proof.Machine

/-! ### PERST_N and the PCIe link (R61, R73, R462, R482) -/

theorem Tbl.get?_filter {α : Type} (t : Tbl α) (q : Nat → Bool) (n : Nat) :
    Tbl.get? (t.filter fun p => q p.1) n = if q n then Tbl.get? t n else none := by
  induction t with
  | nil => simp
  | cons p t ih =>
    obtain ⟨k, v⟩ := p
    rw [List.filter_cons]
    by_cases hkn : k = n
    · subst hkn
      cases hq : q k
      · simp [ih, hq]
      · simp [Tbl.get?]
    · cases hq : q k
      · simp [ih, Tbl.get?, hkn]
      · simp [ih, Tbl.get?, hkn]

/-- PERST_N takes the `HIF_` block to reset, all but `HIF_GEN`, and its loss is recorded. -/
theorem Io.perstReset_word (io : Io) (off : Nat) : io.perstReset.word off =
    if off = 0x050014 then setBits (regReset off) 5 0 1 else if perstResets off then regReset off else io.word off := by
  have hdrop : Tbl.getD (io.regs.filter fun p => !perstResets p.1) off (regReset off) =
      if perstResets off then regReset off else io.word off := by
    rw [Tbl.getD, Tbl.get?_filter io.regs (fun n => !perstResets n)]
    cases perstResets off
    · rfl
    · rfl
  unfold Io.perstReset
  split
  · next h =>
    subst h
    refine (Io.word_setWord_self _ _ _).trans ?_
    exact congrArg (fun w => setBits w 5 0 1) hdrop
  · next h => exact (Io.word_setWord_ne _ _ (Ne.symm h)).trans hdrop

theorem State.perstLow_eq {s : State} (hpow : s.powered = true) (hperst : s.io.hf.perst = false) :
    s.perstLow = { s.hostLoss .perst with io := (s.hostLoss .perst).io.perstReset } := by
  unfold State.perstLow
  rw [if_neg (by rw [hperst]; decide), if_pos hpow]

section
variable {α : Type} {g : Hif → α} (hcoal : ∀ (hf : Hif) (c : Tbl Coal), g { hf with coal := c } = g hf)
include hcoal

theorem Io.coalesce_hf (io : Io) (now n : Nat) : g (io.coalesce now n).hf = g io.hf := by
  unfold Io.coalesce
  dsimp only
  split
  · unfold Io.ringMessage
    dsimp only
    rw [Io.raiseVector_hf]
    exact (hcoal _ _).trans (congrArg g ((Io.latchReg_hf _ _).trans (Io.latchReg_hf _ _)))
  · exact (hcoal _ _).trans (congrArg g (Io.latchReg_hf io _))

/-- An entry that is written changes the messages that wait, and nothing else that the interface keeps. -/
theorem Io.writeEntry_hf (io : Io) (now n : Nat) (b : Bytes) : g (io.writeEntry now n b).hf = g io.hf := by
  unfold Io.writeEntry
  dsimp only
  refine (Io.coalesce_hf hcoal _ now n).trans (congrArg g ?_)
  split <;> rfl

/-- Held events that go out change what is held and the messages, and nothing else that the interface keeps. -/
theorem Io.drain_hf (hheld : ∀ (hf : Hif) (e : List Ev) (n : Nat), g { hf with evHeld := e, evLost := n } = g hf)
    (now : Nat) (ok : Bool) (l : List Ev) (io : Io) : g (io.drain now ok l).hf = g io.hf := by
  induction l generalizing io with
  | nil => rfl
  | cons e es ih =>
    unfold Io.drain
    split
    · dsimp only
      split
      · exact (ih _).trans ((Io.writeEntry_hf hcoal _ now _ _).trans (hheld io.hf _ _))
      · rfl
    · rfl

end

/-- Held events that go out leave WAKE_N and PME_Status. -/
theorem State.drainEvents_wake (s : State) : s.drainEvents.io.hf.wakeN = s.io.hf.wakeN ∧
    s.drainEvents.io.hf.pme = s.io.hf.pme :=
  ⟨Io.drain_hf (g := Hif.wakeN) (fun _ _ => rfl) (fun _ _ _ => rfl) _ _ _ _,
    Io.drain_hf (g := Hif.pme) (fun _ _ => rfl) (fun _ _ _ => rfl) _ _ _ _⟩

/-- The rest of what the interface keeps stays while events are posted. -/
theorem State.drainEvents_hf (s : State) : s.io.hf.Like s.drainEvents.io.hf :=
  (Posts.drain s.io s.now s.evOk s.io.hf.evHeld).hf

/-- The link comes up while PLL_PCIE has lock and PERST_N is high. -/
theorem State.linkUp_leaves {s : State} (speed width : Nat) (hpow : s.powered = true) (hlock : s.fld F.CLK_STAT_pcie_lock = 1)
    (hperst : s.io.hf.perst = false) : let u := s.linkUp speed width
      HostOnly s u [] ∧ u.io.hf.cfgReady = true ∧ u.fld F.HIF_STAT_link_up = 1 ∧ u.fld F.HIF_STAT_speed = speed % 8 ∧
        u.fld F.HIF_STAT_width = width % 8 ∧ u.io.hf.perst = false ∧ u.io.hf.wakeN = s.io.hf.wakeN ∧
        u.io.hf.lost = s.io.hf.lost := by
  intro u
  let v := ((s.setFld F.HIF_STAT_link_up 1).setFld F.HIF_STAT_speed speed).setFld F.HIF_STAT_width width
  let w : State := { v with io := { v.io with hf := { s.io.hf with cfgReady := true, l2 := false } } }
  have heq : u = w.drainEvents := by
    refine if_pos ?_
    rw [hpow, hperst, State.flag_eq_true.mpr (hlock.trans_ne (by decide))]
    rfl
  have hv : v.fld F.HIF_STAT_link_up = 1 ∧ v.fld F.HIF_STAT_speed = speed % 8 ∧ v.fld F.HIF_STAT_width = width % 8 := by
    simp (disch := decide) only [v, State.fld_setFld_bits, State.fld_setFld_self, Fld.width]
    exact ⟨rfl, rfl, rfl⟩
  have hhf := w.drainEvents_hf
  have hfld (f : Fld) (hf : postedAt f.off = false) : w.drainEvents.fld f = v.fld f := w.fld_drained hf
  have hhost : HostOnly s v [] := (((HostOnly.refl s []).setFldHif (f := F.HIF_STAT_link_up) (by decide) (by decide) 1).setFldHif
    (f := F.HIF_STAT_speed) (by decide) (by decide) _).setFldHif (f := F.HIF_STAT_width) (by decide) (by decide) _
  obtain ⟨hup, hspeed, hwidth⟩ := hv
  rw [heq]
  exact ⟨(hhost.setHf _).drainEvents, (congrArg Hif.cfgReady hhf :), (hfld _ (by decide)).trans hup,
    (hfld _ (by decide)).trans hspeed, (hfld _ (by decide)).trans hwidth, (congrArg Hif.perst hhf :).trans hperst,
    w.drainEvents_wake.1, (congrArg Hif.lost hhf :)⟩

/-- What a configuration write leaves in the interface's own state. -/
def Hif.configured (hf : Hif) (mem relaxed clr : Bool) : Hif :=
  let hf := { hf with memSpace := mem, relaxed := relaxed }
  if clr then { hf with pme := false, wakeN := false } else hf

/-- The interface takes a configuration write, and the events held go out where they may. -/
def State.configured (s : State) (mem relaxed clr : Bool) : State :=
  State.drainEvents { s with io := { s.io with hf := s.io.hf.configured mem relaxed clr } }

/-- The function takes a power state of R461. -/
def State.powerState (s : State) (d : Nat) : State :=
  if d = 3 then s.enterD3 else if d = 0 then s.setFld F.HIF_STAT_dstate 0 else s

/-- Bus Master Enable is left set or clear. -/
def State.setMaster (s : State) (b : Bool) : State :=
  if b then { s with io := { s.io with hf := { s.io.hf with busMaster := true } } } else s.masterOff

theorem State.configWrite_eq {s : State} (h : s.cfgUp = true) (mem bm relaxed clr : Bool) (d : Nat) :
    s.configWrite mem bm d relaxed clr = ((s.powerState d).setMaster bm).configured mem relaxed clr := by
  unfold State.configWrite
  rw [if_neg (by rw [h]; decide)]
  rfl

/-- A configuration write leaves the registers but for what posting changes, and the state outside the interface. -/
theorem State.configured_leaves (s : State) (mem relaxed clr : Bool) : let u := s.configured mem relaxed clr
    (∀ f : Fld, postedAt f.off = false → u.fld f = s.fld f) ∧ u.pending = s.pending ∧ u.pw = s.pw ∧
      HostOnly s u [] ∧
      u.io.hf.memSpace = mem ∧ u.io.hf.busMaster = s.io.hf.busMaster ∧ u.io.hf.lost = s.io.hf.lost ∧
      (clr = true → u.io.hf.pme = false ∧ u.io.hf.wakeN = false) ∧
      (clr = false → u.io.hf.pme = s.io.hf.pme ∧ u.io.hf.wakeN = s.io.hf.wakeN) := by
  intro u
  let w : State := { s with io := { s.io with hf := s.io.hf.configured mem relaxed clr } }
  obtain ⟨hwake, hpme⟩ := w.drainEvents_wake
  have hhf := w.drainEvents_hf
  refine ⟨fun f hf => w.fld_drained hf, rfl, rfl, ((HostOnly.refl s []).setHf _).drainEvents,
    (congrArg Hif.memSpace hhf :).trans ?_, (congrArg Hif.busMaster hhf :).trans ?_,
    (congrArg Hif.lost hhf :).trans ?_, fun hclr => ⟨hpme.trans ?_, hwake.trans ?_⟩, fun hclr => ⟨hpme.trans ?_, hwake.trans ?_⟩⟩
  all_goals
    dsimp only [w, Hif.configured]
    split
    · simp_all
    · simp_all

/-- Settles O17: PERST_N loses the host and resets its block; the link and configuration space follow. -/
theorem perstAndLink : Obligations.PerstAndLink := by
  intro t speed width s
  refine ⟨fun hpow hperst hlost => ?low, fun hpow hlock => ⟨fun hperst => ?high, fun hperst => ?up⟩,
    fun mem clr relaxed hcfg => ⟨fun hlost => ⟨fun hd => ?d3, fun hbm hring => ?master⟩, ?write⟩⟩
  case low =>
    have hl := State.hostLoss_leaves (s := s.at t) .perst hlost
    have heq := State.perstLow_eq (s := s.at t) hpow hperst
    have hword := Io.perstReset_word ((s.at t).hostLoss .perst).io
    refine ⟨_, run_eq_next heq hl.rest.pending, rfl, rfl, hl.lost, ?_, ?_, hl.rest.mode, hl.rest.claim, ?_⟩
    · refine (congrArg F.HIF_LOSS_cause.of (hword 0x050014)).trans ?_
      rw [if_pos rfl]
      decide
    · exact (congrArg F.HIF_GEN_gen.of (hword 0x050004)).trans hl.gen
    · intro off hlo hhi hgen hloss
      refine (hword off).trans ?_
      rw [if_neg hloss, if_pos (by simp [perstResets, hlo, hhi, hgen])]
  case high =>
    let v : State := { s.at t with io := { s.io with hf := { s.io.hf with perst := false, wakeN := false } } }
    have heq : (s.at t).perstHigh speed width = v.linkUp speed width := if_pos hperst
    obtain ⟨hhost, hready, hup, hspeed, hwidth, hperst', hwake, -⟩ := State.linkUp_leaves (s := v) speed width hpow hlock rfl
    exact ⟨_, run_eq_next (f := fun s => s.perstHigh speed width) heq hhost.pending, hperst', hwake, hready, hup, hspeed,
      hwidth, ((HostOnly.at s t []).setHf _).trans hhost⟩
  case up =>
    obtain ⟨hhost, hready, hup, -, -, -, -, hlost⟩ := State.linkUp_leaves (s := s.at t) speed width hpow hlock hperst
    exact ⟨_, run_eq_next (f := fun s => s.linkUp speed width) rfl hhost.pending, hready, hup, hlost,
      (HostOnly.at s t []).trans hhost⟩
  case d3 =>
    obtain ⟨hg, hst, hp⟩ := State.enterD3_gone (s := s.at t) hlost hd
    let v := ((s.at t).powerState 3).setMaster true
    obtain ⟨hfld, hpend, hpw, -, -, -, hlost', -, -⟩ := v.configured_leaves mem relaxed clr
    obtain ⟨hlost, -, -, -, hmode, -⟩ := hg
    exact ⟨_, run_eq_next (f := fun s => s.configWrite mem true 3 relaxed clr)
      (State.configWrite_eq (s := s.at t) hcfg mem true relaxed clr 3) (hpend.trans hp), hlost'.trans hlost,
      (hfld F.HIF_STAT_dstate (by decide)).trans hst, (congrArg Pw.mode hpw).trans hmode⟩
  case master =>
    let v := (s.at t).setFld F.HIF_STAT_dstate 0
    have hring' : v.io.anyRing = true := by
      have hfld (f : Fld) (hf : 0x050000 < f.off) : v.io.fld f = s.io.fld f := Io.fld_setFld_off _ f _ _ (by simp only [F.HIF_STAT_dstate]; omega)
      rw [← hring, Io.anyRing, Io.anyRing]
      refine congrArg (List.any _) (funext fun n => ?_)
      rw [hfld (F.HIF_SQ_CFG_en n) (by simp only [F.HIF_SQ_CFG_en]; omega), hfld (F.HIF_CQ_CFG_en n) (by simp only [F.HIF_CQ_CFG_en]; omega)]
    obtain ⟨hg, hst, hp⟩ := State.masterOff_gone (s := v) hlost hbm hring'
    obtain ⟨-, hpend, hpw, -, -, hbm', hlost', -, -⟩ := v.masterOff.configured_leaves mem relaxed clr
    obtain ⟨hlost, -, -, -, hmode, -⟩ := hg
    exact ⟨_, run_eq_next (f := fun s => s.configWrite mem false 0 relaxed clr)
      (State.configWrite_eq (s := s.at t) hcfg mem false relaxed clr 0) (hpend.trans hp), hlost'.trans hlost, hbm'.trans hst,
      (congrArg Pw.mode hpw).trans hmode⟩
  case write =>
    let v := ((s.at t).powerState 0).setMaster true
    obtain ⟨hfld, hpend, -, hhost, hmem, hbm, -, hclr, hkeep⟩ := v.configured_leaves mem relaxed clr
    have hv : HostOnly s v [] := ((HostOnly.at s t []).setFldHif (f := F.HIF_STAT_dstate) (by decide) (by decide) 0).setHf _
    exact ⟨_, run_eq_next (f := fun s => s.configWrite mem true 0 relaxed clr)
      (State.configWrite_eq (s := s.at t) hcfg mem true relaxed clr 0) hpend, hmem, hbm,
      (hfld F.HIF_STAT_dstate (by decide)).trans (State.fld_setFld_eq (s.at t) (f := F.HIF_STAT_dstate) (by decide) (by decide)),
      hv.trans hhost, hclr, hkeep⟩

end Sys2Proof.Machine
end

-- ==== Resets and starts (02_modes_power_start) ====
section
/-!
SUPPORT. What a reset of R73 leaves, what a start changes, and the two together.
-/

namespace Sys2Proof.Machine

/-! ### Log entries and events -/

/-- On the way from `a` to `b` only log entries and events were written. -/
structure Notes (a b : State) : Prop where
  parts : { b with io := a.io, nv := a.nv } = a
  nv : { b.nv with log := a.nv.log, logSeq := a.nv.logSeq } = a.nv
  posts : Posts a.io b.io

theorem Notes.refl (s : State) : Notes s s := ⟨rfl, rfl, .refl _⟩

theorem Notes.trans {a b c : State} (h : Notes a b) (h' : Notes b c) : Notes a c := by
  obtain ⟨hp, hn, hio⟩ := h
  obtain ⟨hp', hn', hio'⟩ := h'
  refine ⟨?_, ?_, hio.trans hio'⟩
  · rw [← hp, ← hp']
  · rw [← hn, ← hn']

section
variable {a b : State} (h : Notes a b)
include h

theorem Notes.event (ty : Nat) (x : Bytes) : Notes a (b.event ty x) := h.trans ⟨rfl, rfl, Posts.event _ _ _ ty x⟩

theorem Notes.log (k src d : Nat) : Notes a (b.log k src d) := h.trans ⟨rfl, rfl, .refl _⟩

theorem Notes.faultEv (c r d : Nat) : Notes a (b.faultEv c r d) := (h.log c r d).event _ _

theorem Notes.twinEvent (k : Nat) (old : Role) (c n : Nat) : Notes a (b.twinEvent k old c n) := h.event _ _

theorem Notes.fld {f : Fld} (hf : postedAt f.off = false) : b.fld f = a.fld f := h.posts.fld hf

theorem Notes.word {off : Nat} (hoff : postedAt off = false) : b.word off = a.word off := h.posts.word off hoff

/-- A part of the state that is neither the interface nor the memories. -/
theorem Notes.part {α : Type} (g : State → α) (hg : ∀ (s : State) (io : Io) (nv : Nv), g { s with io := io, nv := nv } = g s) :
    g b = g a := by
  rw [← hg b a.io a.nv, h.parts]

end

theorem Notes.each {α : Type} {f : State → α → State} (hf : ∀ {a b : State} (x : α), Notes a b → Notes a (f b x))
    {a b : State} (h : Notes a b) (l : List α) : Notes a (b.each l f) := by
  induction l generalizing b with
  | nil => exact h
  | cons x l ih => exact ih (hf x h)

theorem RegsOnly.refl (s : State) (l : List Nat) : RegsOnly s s l := ⟨rfl, rfl, fun _ _ => rfl⟩

/-! ### What a reset leaves (R73) -/

/-- The registers that a filter of the kept ones leaves. -/
theorem Tbl.getD_filter (regs : Tbl Word) (q : Nat → Bool) (off : Nat) (d : Word) :
    Tbl.getD (regs.filter fun p => q p.1) off d = if q off then Tbl.getD regs off d else d := by
  rw [Tbl.getD, Tbl.get?_filter regs q]
  cases q off
  · rfl
  · rfl

theorem State.word_hardReset (s : State) (soft : Bool) {off : Nat} (h : off ≠ 0x010000) :
    (s.hardReset soft).word off = if keptReg soft off then s.word off else regReset off :=
  (State.word_setFld_off _ F.PWR_STAT_hib_source _ (Ne.symm h)).trans (Tbl.getD_filter s.io.regs (keptReg soft) off _)

theorem State.word_keepOutside (s : State) (w : Word) {off x : Nat} (h : off ≠ x) : (s.keepOutside off w).word x = s.word x :=
  State.word_setWord_ne s _ h

/-- Before the reset takes hold, the fault window has closed and a claim fault has counted. -/
def State.beforeReset (s : State) (soft : Bool) : State :=
  if soft then s.windowShut else s.windowShut.resetFault

/-- The registers through a reset: the kept ones, their reset values, and what lies outside the device. -/
def State.resetRegs (s : State) (soft : Bool) : State :=
  let b := s.beforeReset soft
  let u := ((b.hardReset soft).keepOutside 0x020000 (b.word 0x020000)).keepOutside 0x010000 (b.word 0x010000)
  if u.ck.refFailed then u.setFld F.CLK_STAT_pcie_lock 0 else u

theorem State.resetDown_eq (s : State) (soft : Bool) :
    s.resetDown soft = { s.resetRegs soft with ml := { (s.resetRegs soft).ml with slotAt := (s.resetRegs soft).now } } := by
  cases soft <;> rfl

theorem State.resetRegs_eq (s : State) (soft : Bool) : ∃ regs, s.resetRegs soft =
    { (s.beforeReset soft).hardReset soft with io := { ((s.beforeReset soft).hardReset soft).io with regs := regs } } := by
  unfold State.resetRegs
  dsimp only
  split
  · exact ⟨_, rfl⟩
  · exact ⟨_, rfl⟩

/-- The parts of the state after a reset, where `b` is the state before it takes hold. -/
theorem State.resetDown_parts (s : State) (soft : Bool) : let u := s.resetDown soft
    let b := s.beforeReset soft
    u.pw = { startAt := b.now, vin := b.pw.vin, faultHeld := b.pw.faultHeld } ∧
    u.ck = { temp := b.ck.temp, refFailed := b.ck.refFailed, forced := b.ck.refFailed } ∧
    u.tw = b.tw.afterReset b.now ∧ u.rt = b.rt ∧ u.pn = b.pn ∧ u.nv = b.nv ∧ u.up = {} ∧ u.free = b.free ∧
    u.io.hf = { perst := b.io.hf.perst } ∧ u.ml.conns = [] ∧ u.ms = {} ∧ u.kv = {} ∧ u.wl = {} ∧ u.pt = {} ∧ u.sr = {} ∧
    u.qm = {} := by
  dsimp only
  rw [State.resetDown_eq]
  obtain ⟨regs, h⟩ := s.resetRegs_eq soft
  rw [h]
  exact ⟨rfl, rfl, rfl, rfl, rfl, rfl, rfl, rfl, rfl, rfl, rfl, rfl, rfl, rfl, rfl, rfl⟩

theorem State.word_resetDown (s : State) (soft : Bool) {off : Nat} (hclk : off ≠ 0x020000) (hpwr : off ≠ 0x010000) :
    (s.resetDown soft).word off = if keptReg soft off then (s.beforeReset soft).word off else regReset off := by
  have hu (b : State) : (((b.hardReset soft).keepOutside 0x020000 (b.word 0x020000)).keepOutside 0x010000
      (b.word 0x010000)).word off = if keptReg soft off then b.word off else regReset off := by
    rw [State.word_keepOutside _ _ (Ne.symm hpwr), State.word_keepOutside _ _ (Ne.symm hclk),
      State.word_hardReset _ _ hpwr]
  rw [State.resetDown_eq]
  show (s.resetRegs soft).word off = _
  unfold State.resetRegs
  dsimp only
  split
  · exact (State.word_setFld_off _ F.CLK_STAT_pcie_lock 0 (Ne.symm hclk)).trans (hu _)
  · exact hu _

/-- With no fault window open, what comes before the reset changes only the record of claim faults. -/
theorem State.beforeReset_closed {s : State} (h : s.fltOpen = false) (soft : Bool) : ∃ tw : Tw,
    s.beforeReset soft = { s with tw := tw } ∧ tw.claimIn = s.tw.claimIn := by
  have hshut : s.windowShut = s := if_pos (by rw [h]; rfl)
  unfold State.beforeReset State.resetFault
  rw [hshut]
  split
  · exact ⟨s.tw, rfl, rfl⟩
  · split
    · exact ⟨s.tw, rfl, rfl⟩
    · split
      · exact ⟨_, rfl, rfl⟩
      · exact ⟨_, rfl, rfl⟩

/-- No ring is enabled or active by its reset value. -/
theorem regReset_rings : ∀ n < 64, (F.HIF_SQ_CFG_en n).of (regReset (F.HIF_SQ_CFG_en n).off) = 0 ∧
    (F.HIF_CQ_CFG_en n).of (regReset (F.HIF_CQ_CFG_en n).off) = 0 ∧
    (F.HIF_SQ_ERR_active n).of (regReset (F.HIF_SQ_ERR_active n).off) = 0 ∧
    (F.HIF_CQ_ERR_active n).of (regReset (F.HIF_CQ_ERR_active n).off) = 0 := by decide

/-- A register outside the backup domain and the records of causes that a reset does not keep. -/
theorem State.word_resetDown_reset (s : State) (soft : Bool) {off : Nat} (h : 0x040000 ≤ off) :
    (s.resetDown soft).word off = regReset off := by
  have hkept : keptReg soft off = false := by
    simp only [keptReg, isRtcOff, Bool.or_eq_false_iff, Bool.and_eq_false_iff, decide_eq_false_iff_not, beq_eq_false_iff_ne]
    omega
  rw [s.word_resetDown soft (by omega) (by omega), hkept]
  rfl

theorem State.resetDown_rings (s : State) (soft : Bool) {n : Nat} (hn : n < 64) : (s.resetDown soft).io.ringsOff n := by
  obtain ⟨hse, hce, hsa, hca⟩ := regReset_rings n hn
  refine ⟨(congrArg _ (s.word_resetDown_reset soft ?_)).trans hse, (congrArg _ (s.word_resetDown_reset soft ?_)).trans hce,
    (congrArg _ (s.word_resetDown_reset soft ?_)).trans hsa, (congrArg _ (s.word_resetDown_reset soft ?_)).trans hca⟩
  all_goals
    simp only [F.HIF_SQ_CFG_en, F.HIF_CQ_CFG_en, F.HIF_SQ_ERR_active, F.HIF_CQ_ERR_active]
    omega

/-- After a reset nothing of the mesh, the vault, Wi-Fi, the tables, the Sorters, the rings and the claim is left. -/
theorem State.resetDown_restarted (s : State) (soft : Bool) : Restarted (s.resetDown soft) := by
  obtain ⟨-, -, htw, -, -, -, hup, -, hhf, hconns, hms, hkv, hwl, hpt, hsr, hqm⟩ := s.resetDown_parts soft
  refine ⟨hconns, hms, hkv, hwl, hpt, hsr, hqm, by rw [hup], by rw [hhf], by rw [hhf], by rw [htw]; rfl, by rw [htw]; rfl,
    fun n hn => ?_⟩
  obtain ⟨-, -, hsq, hcq⟩ := s.resetDown_rings soft hn
  exact ⟨bne_eq_false_iff_eq.mpr hsq, bne_eq_false_iff_eq.mpr hcq⟩

/-! ### Rescue, and the start after a reset (R42, R74, R78, R527, R594) -/

theorem State.pllsLock_leaves (s : State) : RegsOnly s s.pllsLock [0x020000] := by
  have hrefl : RegsOnly s s [0x020000] := RegsOnly.refl s _
  unfold State.pllsLock
  split
  · exact hrefl
  · exact (((((hrefl.setFld (f := F.CLK_STAT_a_lock) (by decide) 1).setFld (f := F.CLK_STAT_b_lock) (by decide) 1).setFld
      (f := F.CLK_STAT_ddr_lock) (by decide) 1).setFld (f := F.CLK_STAT_eth0_lock) (by decide) 1).setFld
      (f := F.CLK_STAT_eth1_lock) (by decide) 1).setFld (f := F.CLK_STAT_twin_lock) (by decide) 1

/-- Where the unit is not serviceable it prefers nothing and has been serviceable since no instant. -/
def State.notServiceable (s : State) : State :=
  { s with tw := { s.tw with servSince := none, preferred := false, revertSlot := none } }

theorem RegsOnly.notServiceable {s u : State} {l : List Nat} (h : RegsOnly s u l) :
    RegsOnly s.notServiceable u.notServiceable l := by
  obtain ⟨hparts, hio, hword⟩ := h
  exact ⟨congrArg State.notServiceable hparts, hio, hword⟩

/-- A unit that is not alive is not serviceable, and its claim is 0. -/
theorem State.servNow_of_dead {s : State} (h : s.aliveNow = false) : s.servNow = false := by simp [State.servNow, h]

theorem State.claimNow_of_dead {s : State} (h : s.aliveNow = false) : s.claimNow = 0 :=
  if_neg (by rw [h]; decide)

theorem State.reclaim_of_dead {s : State} (cause : Nat) (h : s.aliveNow = false) (hclaim : s.tw.claim = 0) :
    s.reclaim cause = s.notServiceable := by
  have halive : s.notServiceable.aliveNow = false := h
  unfold State.reclaim
  simp only [State.servNow_of_dead h, Bool.false_and, Bool.false_eq_true, if_false]
  exact if_pos ((State.claimNow_of_dead halive).trans hclaim.symm)

/-- The loader runs on lane 0 alone. -/
def State.loaderShows (s : State) (cause : Nat) : State :=
  ((((s.setFld F.UPD_STAT_rescue_cause cause).setFld F.TPL_STAT_code 2).setFld F.TPL_STAT_voting 1).setFld
    F.TPL_STAT_pair_mode 0).setFld F.TPL_STAT_retired 0

/-- What runs, loads or is under way is dropped for the ROM loader. -/
def State.toLoader (s : State) : State :=
  { s with
    pw := { s.pw with mode := .rescue, stage := .rom, trans := none, wdog := none }
    up := { s.up with running := none, load := none, job := none } }

theorem State.enterRescue_eq {s : State} (cause : Nat) (hclaim : s.tw.claim = 0) :
    s.enterRescue cause = (s.toLoader.pllsLock.loaderShows cause).notServiceable := by
  obtain ⟨hparts, -, -⟩ := s.toLoader.pllsLock_leaves
  have hpw := congrArg State.pw hparts
  have htw := congrArg State.tw hparts
  have halive : (s.toLoader.pllsLock.loaderShows cause).aliveNow = false := by
    have hmode : (s.toLoader.pllsLock.loaderShows cause).pw.mode = .rescue := (congrArg Pw.mode hpw :)
    simp [State.aliveNow, hmode]
  exact State.reclaim_of_dead 1 halive ((congrArg Tw.claim htw :).trans hclaim)

/-- Rescue is entered: what runs is dropped, and the registers show the loader. -/
theorem State.enterRescue_leaves {s : State} (cause : Nat) (hclaim : s.tw.claim = 0) : let u := s.enterRescue cause
    RegsOnly s.toLoader.notServiceable u [0x020000, 0x040000, 0x080000] ∧ u.fld F.UPD_STAT_rescue_cause = cause % 8 := by
  dsimp only
  rw [State.enterRescue_eq cause hclaim]
  have hlocks : RegsOnly s.toLoader s.toLoader.pllsLock [0x020000, 0x040000, 0x080000] := by
    obtain ⟨hparts, hio, hword⟩ := s.toLoader.pllsLock_leaves
    exact ⟨hparts, hio, fun off hoff => hword off fun h => hoff (by simp_all)⟩
  refine ⟨RegsOnly.notServiceable (((((hlocks.setFld ?_ cause).setFld ?_ 2).setFld ?_ 1).setFld ?_ 0).setFld ?_ 0), ?_⟩
  case refine_6 =>
    show (s.toLoader.pllsLock.loaderShows cause).fld F.UPD_STAT_rescue_cause = cause % 8
    unfold State.loaderShows
    simp (disch := decide) only [State.fld_setFld_off, State.fld_setFld_self]
    rfl
  all_goals decide

/-! ### The start -/

/-- The straps are sampled, the cause is recorded, and the instants start. -/
def State.sampled (s : State) (x : Straps) (cause : Fld) : State :=
  { (s.sampleStraps x).setFld cause 1 with
    pw := { s.pw with faultHeld := [], startAt := s.now } }

/-- A field of `PWR_RESET_CAUSE`. -/
abbrev ResetCause (cause : Fld) : Prop := cause.off = 0x010010 ∧ cause.lo = cause.hi ∧ cause.hi < 32

/-- The faults held are logged, and a strap error is told of, before the start or Rescue. -/
theorem State.startUp_notes (s : State) (x : Straps) (cause : Fld) : ∃ v, Notes (s.sampled x cause) v ∧
    s.startUp x cause = if x.rescue then v.enterRescue 1 else v := by
  let w := (s.sampled x cause).each s.pw.faultHeld fun s f => s.faultEv f.1 f.2 0
  have hw : Notes (s.sampled x cause) w := .each (fun f h => h.faultEv f.1 f.2 0) (.refl _) _
  refine ⟨if w.flag F.TWN_STAT_strap_err then w.twinEvent 7 w.tw.role 0 0 else w, ?_, rfl⟩
  split
  · exact hw.twinEvent _ _ _ _
  · exact hw

/-- The state beside what a start changes, which is taken from `s`. -/
def State.beside (u s : State) : State := { u with io := s.io, nv := s.nv, pw := s.pw, up := s.up, tw := s.tw, now := s.now }

theorem Notes.beside {a b : State} (h : Notes a b) (s : State) : b.beside s = a.beside s := by
  have h' := congrArg (fun z => State.beside z s) h.parts
  exact h'

theorem RegsOnly.beside {a b : State} {l : List Nat} (h : RegsOnly a b l) (s : State) : b.beside s = a.beside s := by
  have h' := congrArg (fun z => State.beside z s) h.1
  exact h'

theorem State.beside_setPw (a s : State) (pw : Pw) : State.beside { a with pw := pw } s = a.beside s := rfl

theorem State.beside_toLoader (a s : State) : a.toLoader.notServiceable.beside s = a.beside s := rfl

theorem State.beside_self (s : State) : s.beside s = s := rfl

theorem State.sampled_hf (s : State) (x : Straps) (cause : Fld) : (s.sampled x cause).io.hf = s.io.hf := rfl

theorem State.sampled_beside (s : State) (x : Straps) {cause : Fld} (hcause : ResetCause cause) :
    (s.sampled x cause).beside s = s := by
  have h : RegsOnly s ((s.sampleStraps x).setFld cause 1) [0x010010, 0x000014, 0x060000] := by
    unfold State.sampleStraps
    refine (((((RegsOnly.refl s _).setFld ?_ _).setFld ?_ _).setFld ?_ _).setFld ?_ _).setFld ?_ _
    case refine_5 => rw [hcause.1]; decide
    all_goals decide
  unfold State.sampled
  rw [State.beside_setPw, h.beside, State.beside_self]

/-- What a start leaves, of a state without a claim. -/
structure StartsFrom (s u : State) (x : Straps) (cause : Fld) : Prop where
  pw : u.pw = if x.rescue then { s.pw with
      faultHeld := [], startAt := s.now, mode := .rescue, stage := .rom, trans := none, wdog := none }
    else { s.pw with faultHeld := [], startAt := s.now }
  up : u.up = if x.rescue then { s.up with running := none, load := none, job := none } else s.up
  tw : u.tw = if x.rescue then { s.tw with servSince := none, preferred := false, revertSlot := none } else s.tw
  parts : u.beside s = s
  nv : { u.nv with log := s.nv.log, logSeq := s.nv.logSeq } = s.nv
  hf : s.io.hf.Like u.io.hf
  rescueCause : x.rescue = true → u.fld F.UPD_STAT_rescue_cause = 1
  causeSet : u.fld cause = 1
  straps : u.fld F.TOP_STRAP_rescue = x.rescue.toNat ∧ u.fld F.TOP_STRAP_twin_pref = x.pref.toNat ∧
    u.fld F.TOP_STRAP_twin_id = x.id.toNat ∧ u.fld F.TWN_STAT_strap_err = (x.pref && x.id).toNat
  word : ∀ off, postedAt off = false → off ∉ [0x010010, 0x000014, 0x060000, 0x020000, 0x040000, 0x080000] →
    u.word off = s.word off
  rings : ∀ n < 64, s.io.ringsOff n → u.io.ringsOff n

/-- What the sampled straps and the recorded cause read, and what they leave. -/
theorem State.sampled_fld (s : State) (x : Straps) {cause : Fld} (hcause : ResetCause cause) : let u := s.sampled x cause
    u.fld cause = 1 ∧ u.fld F.TOP_STRAP_rescue = x.rescue.toNat ∧ u.fld F.TOP_STRAP_twin_pref = x.pref.toNat ∧
      u.fld F.TOP_STRAP_twin_id = x.id.toNat ∧ u.fld F.TWN_STAT_strap_err = (x.pref && x.id).toNat := by
  obtain ⟨hoff, hbit, hhi⟩ := hcause
  have hset (f : Fld) : (s.sampled x cause).fld f = ((s.sampleStraps x).setFld cause 1).fld f := rfl
  have hother (f : Fld) (hf : f.off ≠ 0x010010) : ((s.sampleStraps x).setFld cause 1).fld f = (s.sampleStraps x).fld f :=
    State.fld_setFld_off _ f cause 1 (by rw [hoff]; exact Ne.symm hf)
  refine ⟨(hset cause).trans (State.fld_setFld_eq _ hhi (by simp [Fld.width, hbit])), ?_⟩
  rw [hset, hset, hset, hset, hother _ (by decide), hother _ (by decide), hother _ (by decide), hother _ (by decide)]
  unfold State.sampleStraps
  simp (disch := decide) only [State.fld_setFld_bool, State.fld_setFld_bits, and_self]

theorem State.word_sampled (s : State) (x : Straps) {cause : Fld} (hcause : ResetCause cause) {off : Nat}
    (h : off ∉ [0x010010, 0x000014, 0x060000]) : (s.sampled x cause).word off = s.word off := by
  simp only [List.mem_cons, List.not_mem_nil, or_false, not_or] at h
  obtain ⟨h1, h2, h3⟩ := h
  have hset : (s.sampled x cause).word off = ((s.sampleStraps x).setFld cause 1).word off := rfl
  rw [hset, State.word_setFld_off _ _ _ (by rw [hcause.1]; exact Ne.symm h1)]
  unfold State.sampleStraps
  rw [State.word_setFld_off _ _ _ (Ne.symm h3), State.word_setFld_off _ _ _ (Ne.symm h2),
    State.word_setFld_off _ _ _ (Ne.symm h2), State.word_setFld_off _ _ _ (Ne.symm h2)]

/-- A ring's enable and active bits do not depend on a word below `HIF_SQ_`. -/
theorem Io.ringsOff_of_word {a b : Io} (h : ∀ off, 0x051000 ≤ off → off < 0x052800 → b.word off = a.word off) {n : Nat}
    (hn : n < 64) (hoff : a.ringsOff n) : b.ringsOff n := by
  obtain ⟨hsq, hcq, hsa, hca⟩ := hoff
  refine ⟨(congrArg _ (h _ ?_ ?_)).trans hsq, (congrArg _ (h _ ?_ ?_)).trans hcq, (congrArg _ (h _ ?_ ?_)).trans hsa,
    (congrArg _ (h _ ?_ ?_)).trans hca⟩
  all_goals
    simp only [F.HIF_SQ_CFG_en, F.HIF_CQ_CFG_en, F.HIF_SQ_ERR_active, F.HIF_CQ_ERR_active]
    omega

theorem State.startUp_leaves {s : State} (x : Straps) {cause : Fld} (hcause : ResetCause cause) (hclaim : s.tw.claim = 0) :
    StartsFrom s (s.startUp x cause) x cause := by
  obtain ⟨v, hv, heq⟩ := s.startUp_notes x cause
  obtain ⟨hset, hrescue, hpref, hid, herr⟩ := s.sampled_fld x hcause
  have hrings (n : Nat) (hn : n < 64) (h : s.io.ringsOff n) : v.io.ringsOff n :=
    hv.posts.ringsOff hn (Io.ringsOff_of_word (fun off _ _ => s.word_sampled x hcause (by simp; omega)) hn h)
  have hpost : postedAt cause.off = false := by rw [hcause.1]; decide
  have hpw : v.pw = { s.pw with faultHeld := [], startAt := s.now } := hv.part State.pw fun _ _ _ => rfl
  have hup : v.up = s.up := hv.part State.up fun _ _ _ => rfl
  have htw : v.tw = s.tw := hv.part State.tw fun _ _ _ => rfl
  have hnv : { v.nv with log := s.nv.log, logSeq := s.nv.logSeq } = s.nv := hv.nv
  have hlike : s.io.hf.Like v.io.hf := by
    have h := hv.posts.hf
    rw [State.sampled_hf] at h
    exact h
  have hparts : v.beside s = s := (hv.beside s).trans (s.sampled_beside x hcause)
  have hword (off : Nat) (hoff : postedAt off = false) (hne : off ∉ [0x010010, 0x000014, 0x060000]) :
      v.word off = s.word off := (hv.word hoff).trans (s.word_sampled x hcause hne)
  rw [heq]
  cases hres : x.rescue with
  | false =>
    rw [if_neg (by decide)]
    refine ⟨by rw [hres]; exact hpw, by rw [hres]; exact hup, by rw [hres]; exact htw, hparts, hnv, hlike,
      fun h => absurd (hres.symm.trans h) (by decide), (hv.fld hpost).trans hset, ⟨(hv.fld (by decide)).trans hrescue,
        (hv.fld (by decide)).trans hpref, (hv.fld (by decide)).trans hid, (hv.fld (by decide)).trans herr⟩,
      fun off hoff hne => hword off hoff fun h => hne (by simp_all), hrings⟩
  | true =>
    rw [if_pos rfl]
    obtain ⟨⟨hp, hio, hw⟩, hcode⟩ := State.enterRescue_leaves (s := v) 1 (by rw [htw]; exact hclaim)
    have hw' (off : Nat) (hne : off ∉ [0x020000, 0x040000, 0x080000]) : (v.enterRescue 1).word off = v.word off := hw off hne
    have hf (f : Fld) (hne : f.off ∉ [0x020000, 0x040000, 0x080000]) : (v.enterRescue 1).fld f = v.fld f :=
      congrArg f.of (hw' f.off hne)
    have hp' : (v.enterRescue 1).beside s = v.toLoader.notServiceable.beside s := RegsOnly.beside ⟨hp, hio, hw⟩ s
    have hpw' : (v.enterRescue 1).pw = v.toLoader.pw := (congrArg State.pw hp :)
    have hup' : (v.enterRescue 1).up = v.toLoader.up := (congrArg State.up hp :)
    have htw' : (v.enterRescue 1).tw = v.toLoader.notServiceable.tw := (congrArg State.tw hp :)
    have hnv' : (v.enterRescue 1).nv = v.nv := (congrArg State.nv hp :)
    have hhf' : (v.enterRescue 1).io.hf = v.io.hf := (congrArg Io.hf hio :)
    refine ⟨?_, ?_, ?_, ?_, ?_, ?_, fun _ => hcode, ?_, ?_, ?_, ?_⟩
    · rw [hres, hpw', State.toLoader, hpw]; rfl
    · rw [hres, hup', State.toLoader, hup]; rfl
    · rw [hres, htw', State.notServiceable, State.toLoader, htw]; rfl
    · exact hp'.trans ((State.beside_toLoader v s).trans hparts)
    · rw [hnv']; exact hnv
    · rw [hhf']; exact hlike
    · exact (hf cause (by rw [hcause.1]; decide)).trans ((hv.fld hpost).trans hset)
    · exact ⟨(hf _ (by decide)).trans ((hv.fld (by decide)).trans hrescue),
        (hf _ (by decide)).trans ((hv.fld (by decide)).trans hpref),
        (hf _ (by decide)).trans ((hv.fld (by decide)).trans hid), (hf _ (by decide)).trans ((hv.fld (by decide)).trans herr)⟩
    · intro off hoff hne
      rw [hw' off fun h => hne (by simp_all)]
      exact hword off hoff fun h => hne (by simp_all)
    · exact fun n hn h => Io.ringsOff_of_word (fun off _ _ => hw' off (by simp; omega)) hn (hrings n hn h)

/-- What a start leaves of a restarted state is restarted. -/
theorem StartsFrom.restarted {s u : State} {x : Straps} {cause : Fld} (h : StartsFrom s u x cause) (hs : Restarted s)
    (hrings : ∀ n < 64, s.io.ringsOff n) : Restarted u := by
  obtain ⟨hconns, hms, hkv, hwl, hpt, hsr, hqm, hjob, hdef, hbuf, hclaim, hgate, -⟩ := hs
  have hpart := h.parts
  have hup : u.up.job = s.up.job ∨ u.up.job = none := by
    rw [h.up]
    split
    · exact .inr rfl
    · exact .inl rfl
  have htw : u.tw.claim = s.tw.claim ∧ u.tw.gate = s.tw.gate := by
    rw [h.tw]
    split
    · exact ⟨rfl, rfl⟩
    · exact ⟨rfl, rfl⟩
  refine ⟨(congrArg (fun z => z.ml.conns) hpart).trans hconns, (congrArg State.ms hpart).trans hms,
    (congrArg State.kv hpart).trans hkv, (congrArg State.wl hpart).trans hwl, (congrArg State.pt hpart).trans hpt,
    (congrArg State.sr hpart).trans hsr, (congrArg State.qm hpart).trans hqm, hup.elim (fun e => e.trans hjob) id,
    (congrArg Hif.deferred h.hf).trans hdef, (congrArg Hif.rxBufs h.hf).trans hbuf, htw.1.trans hclaim, htw.2.trans hgate,
    fun n hn => ?_⟩
  obtain ⟨-, -, hsq, hcq⟩ := h.rings n hn (hrings n hn)
  exact ⟨bne_eq_false_iff_eq.mpr hsq, bne_eq_false_iff_eq.mpr hcq⟩

/-- A start after a reset. -/
theorem StartsFrom.started {s u : State} {x : Straps} {cause : Fld} (h : StartsFrom s u x cause) (hs : Restarted s)
    (hrings : ∀ n < 64, s.io.ringsOff n) (hmode : s.pw.mode = .dawn) (hstage : s.pw.stage = .rom) (hhold : s.pw.hold = none) :
    Started u x cause := by
  obtain ⟨hrescue, hpref, hid, herr⟩ := h.straps
  refine ⟨h.restarted hs hrings, ?_, ?_, ?_, h.causeSet, hrescue, hpref, hid, herr⟩
  all_goals
    rw [h.pw]
    cases x.rescue
    · simp only [Bool.false_eq_true, if_false, hmode, hstage, hhold]
    · simp only [if_true, hhold]

/-- A reset that is released at once, for a cause. -/
theorem State.resetDown_startUp (s : State) (soft : Bool) (x : Straps) {cause : Fld} (hcause : ResetCause cause) :
    StartsFrom (s.resetDown soft) ((s.resetDown soft).startUp x cause) x cause ∧
      Started ((s.resetDown soft).startUp x cause) x cause := by
  obtain ⟨hpw, -, htw, -⟩ := s.resetDown_parts soft
  have hfrom := State.startUp_leaves (s := s.resetDown soft) x hcause (by rw [htw]; rfl)
  exact ⟨hfrom, hfrom.started (s.resetDown_restarted soft) (fun n hn => s.resetDown_rings soft hn) (by rw [hpw]) (by rw [hpw])
    (by rw [hpw])⟩

end Sys2Proof.Machine
end

-- ==== The backup domain behind a fault window (20_faults_background) ====
section
/-!
SUPPORT. What a closing fault window releases leaves the real-time clock.
-/

namespace Sys2Proof.Machine

/-! ### The backup domain is out of reach of what a fault window releases (R557) -/

theorem State.each_rt {α : Type} {f : State → α → State} (hf : ∀ s x, (f s x).rt = s.rt) (s : State) (l : List α) :
    (s.each l f).rt = s.rt := by
  induction l generalizing s with
  | nil => rfl
  | cons x l ih => exact (ih (f s x)).trans (hf s x)

section
variable (s : State)

theorem Takes.rt {a b : State} (h : Takes a b) : b.rt = a.rt := (congrArg State.rt h.parts :)

theorem State.toSorter_rt (p : Packet) : (s.toSorter p).rt = s.rt :=
  ((Takes.refl _).updatePool).rt

theorem State.ethAccept_rt (p : Nat) (x : Bytes) (a b : Bool) : (s.ethAccept p x a b).rt = s.rt := by
  unfold State.ethAccept
  extract_lets s1 len bad1 s2 bad2 q vid untagged
  have h2 : s2.rt = s.rt := by
    simp only [s2]
    split
    · rfl
    · split
      · rfl
      · rfl
  split
  · exact h2
  · split
    · exact (State.toSorter_rt _ _).trans h2
    · exact (State.toSorter_rt _ _).trans h2
    · exact h2
    · exact h2

theorem State.giveHead_rt (e c : Nat) : (s.giveHead e c).rt = s.rt := by
  unfold State.giveHead
  split <;> rfl

theorem State.joinRound_rt (e n : Nat) : (s.joinRound e n).rt = s.rt := by
  unfold State.joinRound
  extract_lets q q' s1 r s2
  split
  · rfl
  · split
    · exact State.giveHead_rt _ _ _
    · rfl

theorem State.flushRx_rt (n fuel : Nat) : (s.flushRx n fuel).rt = s.rt := by
  induction fuel generalizing s with
  | zero => rfl
  | succ k ih =>
    unfold State.flushRx
    split
    · rfl
    · split
      · rfl
      · exact (ih _).trans rfl

theorem State.fillRx_rt (r : Nat) (p : Packet) : (s.fillRx r p).rt = s.rt := by
  unfold State.fillRx
  split
  · extract_lets q s1
    split
    · exact State.joinRound_rt _ _ _
    · rfl
  · split
    · rfl
    · exact State.flushRx_rt _ _ _

theorem State.twinValid_rt (m : TMsg) : (s.twinValid m).2.rt = s.rt := by
  unfold State.twinValid
  extract_lets fresh ok
  split <;> rfl

theorem State.twinSend_rt (ty : Nat) (b : Bytes) : (s.twinSend ty b).rt = s.rt := by
  unfold State.twinSend
  split <;> rfl

theorem State.sendLease_rt : s.sendLease.rt = s.rt := by
  unfold State.sendLease
  split
  · exact State.twinSend_rt _ _ _
  · rfl

theorem State.twinFault_rt : s.twinFault.rt = s.rt := by
  unfold State.twinFault
  extract_lets dead was s1
  split <;> rfl

theorem State.onHello_rt (mode : Nat) (absent heard : Bool) : (s.onHello mode absent heard).rt = s.rt := by
  unfold State.onHello
  extract_lets s1
  split
  · exact (State.twinFault_rt _).trans (State.sendLease_rt _)
  · exact State.twinFault_rt _

theorem State.onTime_rt (slot b : Nat) : (s.onTime slot b).rt = s.rt := by
  unfold State.onTime
  split <;> rfl

theorem State.mirror_rt (n : Nat) (c : Ctx) (fail : Bool) : (s.mirror n c fail).rt = s.rt := by
  unfold State.mirror
  split <;> rfl

theorem State.setCtx_rt (n : Nat) (c : Ctx) (fail : Bool) : (s.setCtx n c fail).rt = s.rt := by
  unfold State.setCtx
  extract_lets old pt s1 f ml s2 same
  have h2 : s2.rt = s.rt := by
    simp only [s2]
    split <;> rfl
  split
  · exact h2
  · exact (State.mirror_rt _ _ _ _).trans h2

theorem State.recordCtr_rt (addr epoch ctr : Nat) (fail : Bool) : (s.recordCtr addr epoch ctr fail).rt = s.rt := by
  unfold State.recordCtr
  extract_lets s1
  have h1 : s1.rt = s.rt := by
    simp only [s1]
    split
    · split
      · rfl
      · unfold State.ulWarn
        extract_lets lim before
        split <;> rfl
    · rfl
  split
  · split
    · exact (State.setCtx_rt _ _ _ _).trans h1
    · exact h1
  · split
    · exact h1
    · exact h1
  · exact h1

theorem State.heardCtx_rt (addr : Nat) : (s.heardCtx addr).rt = s.rt := by
  unfold State.heardCtx
  split <;> rfl

theorem State.updConnOf_rt (addr : Nat) (f : Conn → Conn) : (s.updConnOf addr f).rt = s.rt := by
  unfold State.updConnOf
  split <;> rfl

theorem State.shadowRecord_rt (e : ShadowFrame) : (s.shadowRecord e).rt = s.rt :=
  (State.heardCtx_rt _ _).trans ((State.updConnOf_rt _ _ _).trans (State.recordCtr_rt _ _ _ _ _))

theorem State.onSlotRec_rt (slot : Nat) (link inner : List TRec) : (s.onSlotRec slot link inner).rt = s.rt := by
  unfold State.onSlotRec
  split
  · rfl
  · extract_lets s1 listed mine s2 s3
    refine (State.each_rt (fun u r => ?_) _ _).trans (State.each_rt State.shadowRecord_rt _ _)
    split
    · split
      · exact (State.heardCtx_rt _ _).trans (State.recordCtr_rt _ _ _ _ _)
      · rfl
    · rfl

theorem State.onLease_rt (epoch n : Nat) (ok : Bool) : (s.onLease epoch n ok).rt = s.rt := by
  unfold State.onLease
  split
  · rfl
  · split
    · rfl
    · split
      · rfl
      · exact State.twinSend_rt _ _ _

theorem State.onLeaseAck_rt (epoch n : Nat) : (s.onLeaseAck epoch n).rt = s.rt := by
  unfold State.onLeaseAck
  split
  · rfl
  · extract_lets old hi s1
    split <;> rfl

theorem State.twinBody_rt (m : TMsg) (ok : Bool) : (s.twinBody m ok).rt = s.rt := by
  unfold State.twinBody
  split
  · exact s.onHello_rt _ _ _
  · split
    · exact s.onTime_rt _ _
    · rfl
  · split
    · exact s.onSlotRec_rt _ _ _
    · rfl
  · split
    · exact s.onLease_rt _ _ _
    · rfl
  · split
    · exact s.onLeaseAck_rt _ _
    · rfl
  · split <;> rfl
  · split <;> rfl

theorem State.twinAccept_rt (m : TMsg) (ok : Bool) : (s.twinAccept m ok).rt = s.rt := by
  have hvalid := s.twinValid_rt m
  unfold State.twinAccept
  split
  · next h => exact (State.twinBody_rt _ _ _).trans (by rw [h] at hvalid; exact hvalid)
  · next h => rw [h] at hvalid; exact hvalid

theorem State.fltRelease_rt (h : FltHeld) : (s.fltRelease h).rt = s.rt := by
  unfold State.fltRelease
  split
  · exact s.ethAccept_rt _ _ _ _
  · exact s.ethAccept_rt _ _ _ _
  · split
    · split
      · rfl
      · exact s.twinAccept_rt _ _
    · rfl
  · split
    · exact s.toSorter_rt _
    · rfl
  · split
    · exact s.fillRx_rt _ _
    · rfl
  · rfl

/-- The close of a fault window leaves the backup domain. -/
theorem State.windowShut_rt : s.windowShut.rt = s.rt := by
  unfold State.windowShut
  split
  · rfl
  · exact (State.each_rt State.fltRelease_rt _ _).trans rfl

end

end Sys2Proof.Machine
end

-- ==== Supplies (02_modes_power_start) ====
section
/-!
SUPPORT. The entry to Hibernate, the fall and return of VIN, power-on, and the cold restart of the backup domain.
-/

namespace Sys2Proof.Machine

/-- The clock does not count. -/
theorem RegsOnly.setNow {s u : State} {l : List Nat} (h : RegsOnly s u l) (n : Nat) : RegsOnly { s with now := n } u l := by
  obtain ⟨hparts, hio, hword⟩ := h
  have hparts' := congrArg (fun z : State => { z with now := n }) hparts
  exact ⟨hparts', hio, hword⟩

/-- A field of one bit. -/
theorem Fld.of_eq_one {f : Fld} (hf : f.hi = f.lo) {w : Word} (h : w.getLsbD f.lo = true) : f.of w = 1 := by
  have hbit : w.toNat / 2 ^ f.lo % 2 = 1 := by
    rw [BitVec.getLsbD, Nat.testBit_eq_decide_div_mod_eq] at h
    exact of_decide_eq_true h
  have hwidth : f.hi + 1 - f.lo = 1 := by omega
  rw [Fld.of, bitsN, hwidth]
  exact hbit

/-! ### Supplies (R47, R70, R73, R121) -/

theorem State.supplies_leaves (s : State) : RegsOnly s s.supplies [0x010000] ∧
    s.supplies.fld F.PWR_STAT_vin_ok = s.pw.vin.toNat ∧ s.supplies.fld F.PWR_STAT_rails_ok = (s.pw.vin && !s.pn.railBad).toNat ∧
    s.supplies.fld F.PWR_STAT_pwr_good = (s.pw.vin && !s.pn.railBad).toNat ∧
    s.supplies.fld F.PWR_STAT_hib_source = s.fld F.PWR_STAT_hib_source := by
  unfold State.supplies
  refine ⟨(((RegsOnly.refl s _).setFld ?_ _).setFld ?_ _).setFld ?_ _, ?_⟩
  case refine_4 =>
    simp (disch := decide) only [State.fld_setFld_bool, State.fld_setFld_bits, and_self]
  all_goals decide

/-- The backup domain at the entry to Hibernate: its log entry, and the wake sources that are enabled. -/
def State.hibBackup (s : State) (source : Nat) : State :=
  let w := s.windowShut
  let b := w.backupLog source w.pw.mode.code 0
  { b with rt := { b.rt with wakeEn := b.word 0x010008 } }

/-- The registers in Hibernate. -/
def State.hibRegs (s : State) (source : Nat) : State :=
  ((s.hibBackup source).hardReset false).setFld F.PWR_STAT_hib_source source

theorem State.enterHib_io (s : State) (source : Nat) : (s.enterHib source).io = (s.hibRegs source).io := rfl

/-- The registers from `TPL_` on take their reset value. -/
theorem State.word_enterHib (s : State) (source : Nat) {off : Nat} (h : 0x040000 ≤ off) :
    (s.enterHib source).word off = regReset off := by
  have hkept : keptReg false off = false := by
    simp only [keptReg, isRtcOff, Bool.or_eq_false_iff, Bool.and_eq_false_iff, decide_eq_false_iff_not, beq_eq_false_iff_ne]
    omega
  have hword : (s.hibRegs source).word off = regReset off := by
    unfold State.hibRegs
    rw [State.word_setFld_off _ F.PWR_STAT_hib_source _ (Nat.ne_of_lt (show 0x010000 < off by omega)),
      State.word_hardReset _ _ (by omega), hkept]
    rfl
  exact hword

theorem State.enterHib_rings (s : State) (source : Nat) {n : Nat} (hn : n < 64) : (s.enterHib source).io.ringsOff n := by
  obtain ⟨hse, hce, hsa, hca⟩ := regReset_rings n hn
  refine ⟨(congrArg _ (s.word_enterHib source ?_)).trans hse, (congrArg _ (s.word_enterHib source ?_)).trans hce,
    (congrArg _ (s.word_enterHib source ?_)).trans hsa, (congrArg _ (s.word_enterHib source ?_)).trans hca⟩
  all_goals
    simp only [F.HIF_SQ_CFG_en, F.HIF_CQ_CFG_en, F.HIF_SQ_ERR_active, F.HIF_CQ_ERR_active]
    omega

/-- In Hibernate nothing is left of what lives outside the backup domain. -/
theorem State.enterHib_restarted (s : State) (source : Nat) : Restarted (s.enterHib source) := by
  refine ⟨rfl, rfl, rfl, rfl, rfl, rfl, rfl, rfl, rfl, rfl, rfl, rfl, fun n hn => ?_⟩
  obtain ⟨-, -, hsq, hcq⟩ := s.enterHib_rings source hn
  exact ⟨bne_eq_false_iff_eq.mpr hsq, bne_eq_false_iff_eq.mpr hcq⟩

theorem State.enterHib_rt (s : State) (source : Nat) : (s.enterHib source).rt = (s.hibBackup source).rt := rfl

theorem State.enterHib_lease (s : State) (source : Nat) : (s.enterHib source).nv.lease = (s.hibBackup source).nv.lease := rfl

theorem State.enterHib_mode (s : State) (source : Nat) : (s.enterHib source).pw.mode = .hibernate ∧
    (s.enterHib source).pw.stage = .off := ⟨rfl, rfl⟩

theorem State.hibBackup_leaves (s : State) (source : Nat) : (s.hibBackup source).rt.setNext = s.rt.setNext ∧
    (s.hibBackup source).rt.sec = s.rt.sec ∧ (s.hibBackup source).rt.frac = s.rt.frac ∧
    (s.fltOpen = false → (s.hibBackup source).nv.lease = s.nv.lease) := by
  have hrt := s.windowShut_rt
  have hshut (h : s.fltOpen = false) : s.windowShut = s := if_pos (by rw [h]; rfl)
  unfold State.hibBackup State.backupLog
  generalize s.windowShut = w at hrt hshut
  exact ⟨(congrArg Rtc.setNext hrt :), (congrArg Rtc.sec hrt :), (congrArg Rtc.frac hrt :),
    fun h => (congrArg (fun z : State => z.nv.lease) (hshut h) :)⟩

theorem State.enterHib_source (s : State) {source : Nat} (hsource : source < 4) :
    (s.enterHib source).fld F.PWR_STAT_hib_source = source := by
  have hfld : (s.hibRegs source).fld F.PWR_STAT_hib_source = source :=
    State.fld_setFld_eq _ (by decide) hsource
  exact hfld

/-- A register below the rings does not count. -/
theorem Restarted.of_regsOnly {s u : State} {l : List Nat} (h : Restarted s) (hr : RegsOnly s u l)
    (hl : ∀ off ∈ l, off < 0x050000) : Restarted u := by
  obtain ⟨hconns, hms, hkv, hwl, hpt, hsr, hqm, hjob, hdef, hbuf, hclaim, hgate, hrings⟩ := h
  obtain ⟨hparts, hio, hword⟩ := hr
  refine ⟨(congrArg (fun z => z.ml.conns) hparts).trans hconns, (congrArg State.ms hparts).trans hms,
    (congrArg State.kv hparts).trans hkv, (congrArg State.wl hparts).trans hwl, (congrArg State.pt hparts).trans hpt,
    (congrArg State.sr hparts).trans hsr, (congrArg State.qm hparts).trans hqm, (congrArg (fun z => z.up.job) hparts).trans hjob,
    (congrArg (fun z => z.hf.deferred) hio).trans hdef, (congrArg (fun z => z.hf.rxBufs) hio).trans hbuf,
    (congrArg (fun z => z.tw.claim) hparts).trans hclaim, (congrArg (fun z => z.tw.gate) hparts).trans hgate, fun n hn => ?_⟩
  obtain ⟨hsq, hcq⟩ := hrings n hn
  have hfld (f : Fld) (hf : 0x050000 ≤ f.off) : u.fld f = s.fld f :=
    congrArg f.of (hword f.off fun hm => absurd (hl _ hm) (by omega))
  exact ⟨(congrArg (· != 0) (hfld (F.HIF_SQ_ERR_active n) (by simp only [F.HIF_SQ_ERR_active]; omega))).trans hsq,
    (congrArg (· != 0) (hfld (F.HIF_CQ_ERR_active n) (by simp only [F.HIF_CQ_ERR_active]; omega))).trans hcq⟩

/-- What a VIN failure cuts short: a Dusk run, and the writes on their way to the backup domain. -/
theorem State.cut_leaves (s : State) : s.duskCut.rtcCut.rt = { s.rt with wr := [], setNext := none, act := none } ∧
    s.duskCut.rtcCut.nv.lease = s.nv.lease ∧ s.duskCut.rtcCut.fltOpen = s.fltOpen := by
  have hcut : s.duskCut.rt = s.rt ∧ s.duskCut.nv.lease = s.nv.lease ∧ s.duskCut.io = s.io := by
    unfold State.duskCut State.updRun
    split
    · split
      · exact ⟨rfl, rfl, rfl⟩
      · exact ⟨rfl, rfl, rfl⟩
    · exact ⟨rfl, rfl, rfl⟩
  obtain ⟨hrt, hlease, hio⟩ := hcut
  refine ⟨by rw [State.rtcCut, hrt], hlease, ?_⟩
  show State.fltOpen { s.duskCut with io := { s.duskCut.io with heldLo := _ } } = _
  unfold State.fltOpen State.flag
  rw [hio]
  rfl

/-- VIN is gone, and with it the supply of the oscillators. -/
def State.vinGone (s : State) : State :=
  { s with pw := { s.pw with vin := false }, pn := { s.pn with rcDown := false } }

/-- VIN fails outside Hibernate: the device goes there, from whatever it did. -/
theorem State.vinFall_eq {s : State} (hvin : s.pw.vin = true) (hmode : s.pw.mode ≠ .hibernate) :
    s.vinFall = (s.duskCut.rtcCut.enterHib (if s.pw.trans.isSome then 3 else 2)).vinGone.supplies := by
  unfold State.vinFall
  refine (if_neg (by rw [hvin]; decide)).trans ?_
  show State.supplies (State.vinGone (if s.pw.mode = .hibernate then s else _)) = _
  rw [if_neg hmode]

/-! ### A start from a supply that comes back -/

/-- A state that a reset has left, from which the start begins. -/
structure Fresh (s : State) : Prop where
  restarted : Restarted s
  rings : ∀ n < 64, s.io.ringsOff n
  mode : s.pw.mode = .dawn
  stage : s.pw.stage = .rom
  hold : s.pw.hold = none

theorem Fresh.resetDown (s : State) (soft : Bool) : Fresh (s.resetDown soft) := by
  obtain ⟨hpw, -⟩ := s.resetDown_parts soft
  exact ⟨s.resetDown_restarted soft, fun n hn => s.resetDown_rings soft hn, by rw [hpw], by rw [hpw], by rw [hpw]⟩

section
variable {s : State} (h : Fresh s)
include h

theorem Fresh.of_regsOnly {u : State} {l : List Nat} (hr : RegsOnly s u l) (hl : ∀ off ∈ l, off < 0x050000) : Fresh u := by
  have hpw : u.pw = s.pw := (congrArg State.pw hr.1 :)
  refine ⟨h.restarted.of_regsOnly hr hl, fun n hn => Io.ringsOff_of_word (fun off hlo _ => ?_) hn (h.rings n hn), by rw [hpw, h.mode],
    by rw [hpw, h.stage], by rw [hpw, h.hold]⟩
  exact hr.2.2 off fun hm => absurd (hl off hm) (by omega)

theorem Fresh.setWord {off : Nat} (hoff : off < 0x050000) (w : Word) : Fresh (s.setWord off w) :=
  h.of_regsOnly ((RegsOnly.refl s [off]).setWord (by simp) w) (by simpa using hoff)

theorem Fresh.setFld {f : Fld} (hoff : f.off < 0x050000) (v : Nat) : Fresh (s.setFld f v) := h.setWord hoff _

theorem Fresh.supplies : Fresh s.supplies := h.of_regsOnly s.supplies_leaves.1 (by decide)

theorem Fresh.standClear : Fresh s.standClear := ⟨h.restarted, h.rings, h.mode, h.stage, h.hold⟩

theorem Fresh.claim : s.tw.claim = 0 := by
  obtain ⟨-, -, -, -, -, -, -, -, -, -, hclaim, -⟩ := h.restarted
  exact hclaim

/-- The start of a device that is not held in reset. -/
theorem Fresh.startUp (x : Straps) {cause : Fld} (hcause : ResetCause cause) :
    StartsFrom s (s.startUp x cause) x cause ∧ Started (s.startUp x cause) x cause := by
  have hfrom := State.startUp_leaves x hcause h.claim
  exact ⟨hfrom, hfrom.started h.restarted h.rings h.mode h.stage h.hold⟩

end

theorem State.startOrHold_eq {s : State} (x : Straps) (cause : Fld) (hlow : s.pn.resetLow = false) (hrc : s.pn.rcDown = false) :
    s.startOrHold x cause = s.startUp x cause := by
  unfold State.startOrHold
  rw [if_neg (by rw [hlow]; decide), if_neg (by rw [hrc]; decide)]

/-- The parts that a start leaves. -/
theorem StartsFrom.vin {s u : State} {x : Straps} {cause : Fld} (h : StartsFrom s u x cause) : u.pw.vin = s.pw.vin := by
  rw [h.pw]
  split <;> rfl

theorem StartsFrom.stoodDown {s u : State} {x : Straps} {cause : Fld} (h : StartsFrom s u x cause) :
    u.nv.stoodDown = s.nv.stoodDown := (congrArg Nv.stoodDown h.nv :)

theorem StartsFrom.fld {s u : State} {x : Straps} {cause : Fld} (h : StartsFrom s u x cause) {f : Fld}
    (hoff : postedAt f.off = false) (hne : f.off ∉ [0x010010, 0x000014, 0x060000, 0x020000, 0x040000, 0x080000]) :
    u.fld f = s.fld f := congrArg f.of (h.word f.off hoff hne)

/-- The power-on reset, as far as the start. -/
def State.poweredOn (s : State) : State :=
  ((((({ s with rt := { s.rt with cold := false, wakes := [] } }).resetDown false).setWord 0x010010 0#32).setWord 0x01000C
    0#32).setFld F.PWR_STAT_hib_source 0).standClear.supplies

theorem State.powerOn_eq (s : State) (x : Straps) : s.powerOn x = s.poweredOn.startOrHold x F.PWR_RESET_CAUSE_por := rfl

theorem State.poweredOn_leaves {s : State} (hclosed : s.fltOpen = false) : Fresh s.poweredOn ∧
    s.poweredOn.pn = s.pn ∧ s.poweredOn.pw.vin = s.pw.vin ∧ s.poweredOn.nv.stoodDown = false ∧
    s.poweredOn.word 0x01000C = 0#32 := by
  let v : State := { s with rt := { s.rt with cold := false, wakes := [] } }
  obtain ⟨tw, hb, -⟩ := State.beforeReset_closed (s := v) hclosed false
  obtain ⟨hpw, -, -, -, hpn, -⟩ := v.resetDown_parts false
  have hf := Fresh.resetDown v false
  rw [hb] at hpw hpn
  unfold State.poweredOn
  generalize v.resetDown false = d at *
  have hregs := ((((d.setWord 0x010010 0#32).setWord 0x01000C 0#32).setFld F.PWR_STAT_hib_source 0).standClear).supplies_leaves.1
  have hword : ((((d.setWord 0x010010 0#32).setWord 0x01000C 0#32).setFld F.PWR_STAT_hib_source 0).standClear).word 0x01000C =
      0#32 :=
    (State.word_setFld_off _ F.PWR_STAT_hib_source 0 (by decide)).trans (State.word_setWord_self _ _ _)
  exact ⟨(((hf.setWord (by decide) _).setWord (by decide) _).setFld (f := F.PWR_STAT_hib_source) (by decide) 0).standClear.supplies,
    hpn, (congrArg Pw.vin hpw :), rfl, (hregs.2.2 0x01000C (by decide)).trans hword⟩

/-- The wakes seen are recorded in `PWR_WAKE_CAUSE`, and their entries in the backup domain. -/
theorem State.each_backupLog (s : State) (causes : List Nat) (m : Nat) :
    ∃ rt, (s.each causes fun s c => s.backupLog c 0 m) = { s with rt := rt } := by
  induction causes generalizing s with
  | nil => exact ⟨s.rt, rfl⟩
  | cons c causes ih =>
    obtain ⟨rt, h⟩ := ih (s.backupLog c 0 m)
    exact ⟨rt, h⟩

/-- A start from Hibernate begins in a fresh state, with its wake sources recorded. -/
theorem State.startFromHib_leaves {s : State} (hclosed : s.fltOpen = false) (hlow : s.pn.resetLow = false)
    (hrc : s.pn.rcDown = false) (x : Straps) (bits causes : List Nat) : let u := s.startFromHib x bits causes
    Started u x F.PWR_RESET_CAUSE_vin ∧ u.pw.vin = s.pw.vin ∧ u.nv.stoodDown = s.nv.stoodDown ∧
      u.word 0x01000C = BitVec.ofNat 32 (bits.foldl (fun w b => w ||| 2 ^ b) (s.word 0x01000C).toNat) := by
  let w := BitVec.ofNat 32 (bits.foldl (fun (w : Nat) b => w ||| 2 ^ b) (s.word 0x01000C).toNat)
  obtain ⟨rt, hrt⟩ := (s.setWord 0x01000C w).each_backupLog causes (startMode x)
  let v : State := { s.setWord 0x01000C w with rt := { rt with wakes := [] } }
  have hvclosed : v.fltOpen = false := by
    have hfld : (s.setWord 0x01000C w).fld F.FLT_STAT_open = s.fld F.FLT_STAT_open :=
      State.fld_setWord_off s w F.FLT_STAT_open (by decide)
    exact (congrArg (· != 0) hfld).trans hclosed
  obtain ⟨tw, hb, -⟩ := State.beforeReset_closed (s := v) hvclosed false
  obtain ⟨hpw, -, -, -, hpn, hnv, -⟩ := v.resetDown_parts false
  have hf := Fresh.resetDown v false
  have hword := v.word_resetDown false (off := 0x01000C) (by decide) (by decide)
  rw [hb] at hpw hpn hnv hword
  have heq : s.startFromHib x bits causes = (v.resetDown false).supplies.startOrHold x F.PWR_RESET_CAUSE_vin := by
    unfold State.startFromHib
    dsimp only
    rw [hrt]
  have hvw : v.word 0x01000C = w := State.word_setWord_self s 0x01000C w
  generalize v.resetDown false = d at *
  have hsup := d.supplies_leaves.1
  have hpn' : d.supplies.pn = s.pn := hpn
  rw [State.startOrHold_eq x _ (by rw [hpn']; exact hlow) (by rw [hpn']; exact hrc)] at heq
  obtain ⟨hfrom, hst⟩ := hf.supplies.startUp x (cause := F.PWR_RESET_CAUSE_vin) (by decide)
  rw [← heq] at hfrom hst
  refine ⟨hst, hfrom.vin.trans (congrArg Pw.vin hpw :), hfrom.stoodDown.trans (congrArg Nv.stoodDown hnv :),
    (hfrom.word _ (by decide) (by decide)).trans ((hsup.2.2 _ (by decide)).trans (hword.trans ?_))⟩
  exact (if_pos (by decide)).trans hvw

/-- Settles O18: the rails, the fall and the return of VIN, and the cold restart of the backup domain. -/
theorem suppliesComeAndGo : Obligations.SuppliesComeAndGo := by
  intro t x s
  refine ⟨fun r hvin => ?rails, fun hvin hmode => ?fall, fun hvin hflt => ⟨fun hcold hlow => ?por, fun hcold hlow hsrc => ?back,
    fun hcold hwakes hsrc => ?stays⟩, ?brown⟩
  case rails =>
    let v : State := { s.at t with pn := { s.pn with railBad := !r } }
    have heq : (s.at t).rails r = v.supplies := if_neg (by rw [show (s.at t).pw.vin = true from hvin]; decide)
    obtain ⟨hregs, hv, hr, hg, -⟩ := v.supplies_leaves
    have hpn : v.supplies.pn = v.pn := rfl
    refine ⟨_, run_eq_next (f := fun s => s.rails r) heq rfl, rfl, hr.trans ?_, hg.trans ?_, hv.trans ?_, hregs.setNow s.now⟩
    · rw [show v.pw.vin = true from hvin]; cases r <;> rfl
    · rw [show v.pw.vin = true from hvin]; cases r <;> rfl
    · rw [show v.pw.vin = true from hvin]; rfl
  case fall =>
    obtain ⟨hrt, hlease, hopen⟩ := (s.at t).cut_leaves
    have hsrc := (s.at t).duskCut.rtcCut.enterHib_source (source := if s.pw.trans.isSome then 3 else 2) (by split <;> decide)
    have hres := (s.at t).duskCut.rtcCut.enterHib_restarted (if s.pw.trans.isSome then 3 else 2)
    have hrt' := (s.at t).duskCut.rtcCut.enterHib_rt (if s.pw.trans.isSome then 3 else 2)
    have hlease' := (s.at t).duskCut.rtcCut.enterHib_lease (if s.pw.trans.isSome then 3 else 2)
    have hmode' := (s.at t).duskCut.rtcCut.enterHib_mode (if s.pw.trans.isSome then 3 else 2)
    obtain ⟨hset, hsec, hfrac, hkeep⟩ := (s.at t).duskCut.rtcCut.hibBackup_leaves (if s.pw.trans.isSome then 3 else 2)
    have heq := State.vinFall_eq (s := s.at t) hvin hmode
    rw [hrt] at hset hsec hfrac
    rw [← hrt'] at hset hsec hfrac
    rw [← hlease', hlease, hopen] at hkeep
    change (s.at t).vinFall = (State.enterHib _ (if s.pw.trans.isSome then 3 else 2)).vinGone.supplies at heq
    generalize (s.at t).duskCut.rtcCut.enterHib (if s.pw.trans.isSome then 3 else 2) = h at *
    obtain ⟨hregs, hv, hr, hg, hs⟩ := h.vinGone.supplies_leaves
    have hfin : Restarted h.vinGone.supplies := Restarted.of_regsOnly (s := h.vinGone) hres hregs (by decide)
    refine ⟨_, rfl, ?_⟩
    rw [heq]
    exact ⟨hfin, hmode'.1, rfl, hv, hg, hs.trans hsrc, hset, fun hclosed => ⟨hsec, hfrac, hkeep hclosed⟩⟩
  case por =>
    let v : State := { s.at t with pw := { s.pw with vin := true }, pn := { s.pn with railBad := false, rcDown := false } }
    have heq : (s.at t).vinRise x = v.poweredOn.startUp x F.PWR_RESET_CAUSE_por := by
      obtain ⟨-, hpn, -⟩ := State.poweredOn_leaves (s := v) hflt
      have hstart := State.startOrHold_eq (s := v.poweredOn) x F.PWR_RESET_CAUSE_por (by rw [hpn]; exact hlow) (by rw [hpn])
      unfold State.vinRise
      refine (if_neg (by rw [show (s.at t).pw.vin = false from hvin]; decide)).trans ((if_pos hcold).trans ?_)
      rw [← hstart]
      rfl
    obtain ⟨hf, -, hv, hdown, hword⟩ := State.poweredOn_leaves (s := v) hflt
    obtain ⟨hfrom, hst⟩ := hf.startUp x (cause := F.PWR_RESET_CAUSE_por) (by decide)
    rw [← heq] at hfrom hst
    exact ⟨_, rfl, hst, hfrom.vin.trans hv, (hfrom.word _ (by decide) (by decide)).trans hword, hfrom.stoodDown.trans hdown⟩
  case back =>
    let v : State := { s.at t with pw := { s.pw with vin := true }, pn := { s.pn with railBad := false, rcDown := false } }
    have heq : (s.at t).vinRise x = v.startFromHib x ((s.rt.wakes ++ [7]).map wakeBit) (s.rt.wakes ++ [7]) := by
      have hempty : ¬ (s.rt.wakes ++ [7]).isEmpty = true := by simp
      unfold State.vinRise
      refine (if_neg (by rw [show (s.at t).pw.vin = false from hvin]; decide)).trans ((if_neg (by
        rw [show (s.at t).rt.cold = false from hcold]; decide)).trans ?_)
      have hfailed : decide (2 ≤ (s.at t).fld F.PWR_STAT_hib_source) = true := decide_eq_true hsrc
      show (let causes := s.rt.wakes ++ if decide (2 ≤ (s.at t).fld F.PWR_STAT_hib_source) then [7] else []
        if causes.isEmpty then v.supplies else v.startFromHib x (causes.map wakeBit) causes) = _
      rw [hfailed]
      exact if_neg hempty
    obtain ⟨hst, hv, hdown, hword⟩ := State.startFromHib_leaves (s := v) hflt hlow rfl x ((s.rt.wakes ++ [7]).map wakeBit)
      (s.rt.wakes ++ [7])
    rw [← heq] at hst hv hdown hword
    refine ⟨_, rfl, hst, hv, (congrArg F.PWR_WAKE_CAUSE_vin_return.of hword).trans ?_, hdown⟩
    refine Fld.of_eq_one rfl ?_
    rw [List.map_append, List.foldl_append]
    simp [F.PWR_WAKE_CAUSE_vin_return, wakeBit]
  case stays =>
    let v : State := { s.at t with pw := { s.pw with vin := true }, pn := { s.pn with railBad := false, rcDown := false } }
    have heq : (s.at t).vinRise x = v.supplies := by
      unfold State.vinRise
      refine (if_neg (by rw [show (s.at t).pw.vin = false from hvin]; decide)).trans ((if_neg (by
        rw [show (s.at t).rt.cold = false from hcold]; decide)).trans ?_)
      have hfailed : decide (2 ≤ (s.at t).fld F.PWR_STAT_hib_source) = false := decide_eq_false (Nat.not_le.mpr hsrc)
      show (let causes := s.rt.wakes ++ if decide (2 ≤ (s.at t).fld F.PWR_STAT_hib_source) then [7] else []
        if causes.isEmpty then v.supplies else v.startFromHib x (causes.map wakeBit) causes) = _
      rw [hfailed, hwakes]
      rfl
    obtain ⟨hregs, hv, -⟩ := v.supplies_leaves
    exact ⟨_, run_eq_next (f := fun s => s.vinRise x) heq rfl, rfl, hv, hregs.setNow s.now⟩
  case brown =>
    have hword (off : Nat) : (s.at t).brownOut.word off = if !isRtcOff off then s.word off else regReset off :=
      Tbl.getD_filter s.io.regs (fun n => !isRtcOff n) off (regReset off)
    refine ⟨_, run_eq_next (f := State.brownOut) rfl rfl, rfl, rfl, rfl, ?_, rfl, rfl, fun off hoff => ?_⟩
    · refine (congrArg F.RTC_STAT_time_lost.of (hword _)).trans ?_
      rw [if_neg (by decide)]
      decide
    · rw [hword off, hoff]
      rfl

end Sys2Proof.Machine
end

-- ==== RESET_N and the software reset (02_modes_power_start) ====
section
/-!
SUPPORT. What a low of RESET_N, its release, and the keyed write do.
-/

namespace Sys2Proof.Machine

/-! ### RESET_N and the software reset (R73, R78, R593) -/

/-- The parts of the state beside what a start changes. -/
theorem StartsFrom.part {α : Type} {s u : State} {x : Straps} {cause : Fld} (h : StartsFrom s u x cause) (g : State → α)
    (hg : ∀ u : State, g (u.beside s) = g u) : g u = g s := by
  rw [← hg u, h.parts]

/-- A reset by RESET_N, which clears a stand-down and holds the device. -/
def State.pinHeld (s : State) : State := ((s.resetDown false).standClear).supplies.hold .pin

theorem State.resetAssert_eq {s : State} {width : Nat} {acts : Bool} (hlow : 1000 ≤ width ∨ 200 ≤ width ∧ acts = true)
    (hvin : s.pw.vin = true) : s.resetAssert width acts = State.pinHeld { s with pn := { s.pn with resetLow := true } } := by
  unfold State.resetAssert
  have hnot : ¬ (width < 200 ∨ width < 1000 ∧ (!acts) = true) := by
    rcases hlow with h | ⟨h, ha⟩
    · omega
    · rw [ha]; simp; omega
  exact (if_neg hnot).trans (if_neg (by rw [hvin]; decide))

theorem State.pinHeld_leaves (s : State) : Restarted s.pinHeld ∧ s.pinHeld.pw.hold = some .pin ∧
    s.pinHeld.nv.stoodDown = false ∧ (s.fltOpen = false → s.pinHeld.pn = s.pn ∧ s.pinHeld.tw.claimIn = s.tw.claimIn ∧
      s.pinHeld.rt = s.rt) := by
  have hf := (Fresh.resetDown s false).standClear.supplies
  obtain ⟨-, -, htw, hrt, hpn, -⟩ := s.resetDown_parts false
  unfold State.pinHeld
  refine ⟨hf.restarted, rfl, rfl, fun hclosed => ?_⟩
  obtain ⟨tw, hb, hin⟩ := State.beforeReset_closed hclosed false
  rw [hb] at htw hrt hpn
  generalize s.resetDown false = d at *
  exact ⟨hpn, (congrArg Tw.claimIn htw :).trans hin, hrt⟩

/-- Settles O19: a low on RESET_N by its width, its release, and the keyed write. -/
theorem resetsTakeHold : Obligations.ResetsTakeHold := by
  intro t width acts v x s
  refine ⟨fun hshort => ?short, fun hlow hvin => ?assert, fun hhold hrc hclaim => ?release, fun hhold hrc => ?waits,
    fun hbar hkey => ?soft, fun hno => ?noSoft⟩
  case short => exact run_eq_next (f := fun s => s.resetAssert width acts) (if_pos (.inl hshort)) rfl
  case assert =>
    let w : State := { s.at t with pn := { s.pn with resetLow := true } }
    have heq : (s.at t).resetAssert width acts = w.pinHeld := State.resetAssert_eq hlow hvin
    obtain ⟨hres, hhold, hdown, hkeep⟩ := w.pinHeld_leaves
    rw [← heq] at hres hhold hdown hkeep
    refine ⟨_, rfl, hres, hhold, hdown, fun hclosed => ?_⟩
    obtain ⟨hpn, hin, hrt⟩ := hkeep hclosed
    exact ⟨(congrArg Pn.resetLow hpn :), hin, hrt⟩
  case release =>
    let w : State := { s.at t with pn := { s.pn with resetLow := false }, pw := { s.pw with hold := none, stage := .rom } }
    have heq : (s.at t).resetRelease x = w.startUp x F.PWR_RESET_CAUSE_pin :=
      (if_pos (show (s.at t).pw.hold = some .pin from hhold)).trans (State.startOrHold_eq (s := w) x _ rfl hrc)
    have hfrom := State.startUp_leaves (s := w) x (cause := F.PWR_RESET_CAUSE_pin) (by decide) hclaim
    rw [← heq] at hfrom
    obtain ⟨hrescue, -, hid, -⟩ := hfrom.straps
    have hpw := hfrom.pw
    refine ⟨_, rfl, ?_, ?_, hfrom.part (fun z => z.pn.resetLow) fun _ => rfl, ?_, hfrom.causeSet, hrescue, hid,
      fun hx => ⟨hfrom.rescueCause hx, ?_⟩⟩
    · refine (congrArg Pw.hold hpw).trans ?_
      cases x.rescue <;> rfl
    · refine (congrArg Pw.stage hpw).trans ?_
      cases x.rescue <;> rfl
    · refine (congrArg Pw.mode hpw).trans ?_
      cases x.rescue <;> rfl
    · refine (congrArg Up.running hfrom.up).trans ?_
      rw [hx]
      rfl
  case waits =>
    let w : State := { s.at t with pn := { s.pn with resetLow := false }, pw := { s.pw with hold := none, stage := .rom } }
    have heq : (s.at t).resetRelease x = (w.setFld F.PWR_RESET_CAUSE_pin 1).hold .rc :=
      (if_pos (show (s.at t).pw.hold = some .pin from hhold)).trans ((if_neg (show ¬ w.pn.resetLow = true from Bool.false_ne_true)).trans
        (if_pos (show w.pn.rcDown = true from hrc)))
    exact ⟨_, run_eq_next (f := fun s => s.resetRelease x) heq rfl, rfl,
      State.fld_setFld_eq w (f := F.PWR_RESET_CAUSE_pin) (by decide) (by decide)⟩
  case soft =>
    have heq : (s.at t).softReset v x = ((s.at t).resetDown true).startUp x F.PWR_RESET_CAUSE_soft :=
      if_pos (by rw [show (s.at t).barUp = true from hbar, decide_eq_true hkey]; rfl)
    obtain ⟨hfrom, hst⟩ := (s.at t).resetDown_startUp true x (cause := F.PWR_RESET_CAUSE_soft) (by decide)
    obtain ⟨-, -, -, hrt, hpn, -⟩ := (s.at t).resetDown_parts true
    have hword := (s.at t).word_resetDown true (off := 0x00001C) (by decide) (by decide)
    rw [← heq] at hfrom hst
    refine ⟨_, rfl, hst, fun hclosed => ?_⟩
    obtain ⟨tw, hb, -⟩ := State.beforeReset_closed (s := s.at t) hclosed true
    rw [hb] at hrt hpn hword
    exact ⟨(hfrom.word _ (by decide) (by decide)).trans (hword.trans (if_pos (by decide))),
      (hfrom.part State.rt fun _ => rfl).trans hrt, (hfrom.part State.pn fun _ => rfl).trans hpn⟩
  case noSoft =>
    have hnot : ¬ ((s.at t).barUp && decide (bitsN v.toNat 31 16 = 0x5A5A)) = true := by
      rcases hno with h | h
      · rw [show (s.at t).barUp = false from h]; exact Bool.false_ne_true
      · rw [decide_eq_false h, Bool.and_false]; decide
    exact run_eq_next (f := fun s => s.softReset v x) (if_neg hnot) rfl

end Sys2Proof.Machine
end

-- ==== Wake sources (02_modes_power_start, 19_dusk_selftest) ====
section
/-!
SUPPORT. What an enabled wake source does in Doze, in Hibernate and in Dusk.
-/

namespace Sys2Proof.Machine

/-! ### Wake sources (R75, R76, R545, R567) -/

/-- In Doze, with no transition under way or with the return begun, a wake source begins the return. -/
theorem State.dozeWake_woken {s : State} {b : Nat} (hb : b < 32) (hmode : s.pw.mode = .doze) (htrans : s.pw.trans = none) :
    Woken s (s.dozeWake b) b := by
  have heq : s.dozeWake b = { s.setWord 0x01000C (s.word 0x01000C ||| BitVec.ofNat 32 (2 ^ b)) with
      pw := { s.pw with trans := some .fromDoze, woken := true } } :=
    if_pos (by rw [hmode, htrans]; rfl)
  have hregs : RegsOnly s (s.setWord 0x01000C (s.word 0x01000C ||| BitVec.ofNat 32 (2 ^ b))) [0x01000C] :=
    (RegsOnly.refl s _).setWord (by decide) _
  rw [heq]
  refine ⟨rfl, ?_, ?_⟩
  · have hword := State.word_setWord_self s 0x01000C (s.word 0x01000C ||| BitVec.ofNat 32 (2 ^ b))
    refine (congrArg (BitVec.getLsbD · b) hword).trans ?_
    rw [BitVec.getLsbD_or, BitVec.getLsbD_ofNat, Nat.testBit_two_pow_self]
    simp [hb]
  · obtain ⟨hparts, hio, hword⟩ := hregs
    have hparts' := congrArg (fun z : State => { z with pw := { s.pw with trans := some .fromDoze, woken := true } }) hparts
    exact ⟨hparts', hio, hword⟩

/-- The clock does not count. -/
theorem Woken.at {s u : State} {t b : Nat} (h : Woken (s.at t) u b) : Woken s u b := by
  obtain ⟨hpw, hbit, hregs⟩ := h
  exact ⟨hpw, hbit, hregs.setNow s.now⟩

theorem Woken.pending {s u : State} {b : Nat} (h : Woken s u b) : u.pending = s.pending := by
  obtain ⟨-, -, hparts, -⟩ := h
  exact (congrArg State.pending hparts :)

theorem bitN_add_two_pow {e n : Nat} (h : bitN e n = false) : bitN (e + 2 ^ n) n = true := by
  have he : e / 2 ^ n % 2 = 0 := by
    have := Nat.mod_two_eq_zero_or_one (e / 2 ^ n)
    simp [bitN] at h
    omega
  simp only [bitN, beq_iff_eq]
  rw [Nat.add_div_right _ (Nat.two_pow_pos n)]
  omega

/-- A GPIO whose level has come to its wake level ends Doze. -/
theorem State.gpioLevel_eq {s : State} {n : Fin 8} (hon : s.wakeOn (6 + n.val) = true)
    (hout : bitN (s.word 0x480004).toNat n.val = false) (hlow : bitN s.pn.gpioExt n.val = false)
    (hlvl : bitN (s.fld F.GPI_WAKE_LVL_level) n.val = true) :
    s.gpioLevel n true = State.dozeWake { s with pn := { s.pn with gpioExt := s.pn.gpioExt + 2 ^ n.val } } (6 + n.val) := by
  unfold State.gpioLevel
  simp only [hlow, Bool.false_eq_true, if_false, if_true]
  refine if_pos ?_
  rw [List.contains_iff_mem, State.gpioWakes, List.mem_filter]
  refine ⟨List.mem_range.mpr n.isLt, ?_⟩
  show (s.wakeOn (6 + n.val) && !bitN (s.word 0x480004).toNat n.val &&
    (bitN (s.pn.gpioExt + 2 ^ n.val) n.val == bitN (s.fld F.GPI_WAKE_LVL_level) n.val)) = true
  rw [hon, hout, hlvl, bitN_add_two_pow hlow]
  rfl

/-- Settles O20: a wake source in Doze, in Hibernate and in Dusk. -/
theorem wakeSourcesAct : Obligations.WakeSourcesAct := by
  intro t x s
  refine ⟨fun hmode htrans => ⟨fun hon => ?doze, fun p hon => ?eth, fun n hon hout hlow hlvl => ?gpio⟩,
    fun hmode hon => ⟨fun hvin hlow hrc hclosed => ?starts, fun hvin => ?latched⟩, fun hmode hon hrun habort => ?dusk,
    fun hmode => ?none⟩
  case doze =>
    have hw := State.dozeWake_woken (s := s.at t) (b := 1) (by decide) hmode htrans
    have heq : (s.at t).wakeIn x = (s.at t).dozeWake 1 := by
      unfold State.wakeIn
      rw [show (s.at t).pw.mode = .doze from hmode]
      exact if_pos hon
    exact ⟨_, run_eq_next (f := fun s => s.wakeIn x) heq hw.pending, hw.at⟩
  case eth =>
    have hw := State.dozeWake_woken (s := s.at t) (b := 4 + p.val) (by omega) hmode htrans
    exact ⟨_, run_eq_next (f := fun s => s.signalDetect p.val) (if_pos hon) hw.pending, hw.at⟩
  case gpio =>
    let v : State := { s.at t with pn := { s.pn with gpioExt := s.pn.gpioExt + 2 ^ n.val } }
    have hw := State.dozeWake_woken (s := v) (b := 6 + n.val) (by omega) hmode htrans
    have heq : (s.at t).gpioLevel n true = v.dozeWake (6 + n.val) := State.gpioLevel_eq hon hout hlow hlvl
    have hpn : (v.dozeWake (6 + n.val)).pn = v.pn := by
      obtain ⟨-, -, hparts, -⟩ := hw
      exact (congrArg State.pn hparts :)
    refine ⟨_, run_eq_next (f := fun s => s.gpioLevel n true) heq hw.pending, by rw [hpn], ?_⟩
    rw [hpn]
    obtain ⟨hpw, hbit, hregs⟩ := hw
    exact ⟨hpw, hbit, hregs.setNow s.now⟩
  case starts =>
    obtain ⟨hst, -, -, hword⟩ := State.startFromHib_leaves (s := s.at t) hclosed hlow hrc x [1] [4]
    have heq : (s.at t).wakeIn x = (s.at t).startFromHib x [1] [4] := by
      unfold State.wakeIn
      rw [show (s.at t).pw.mode = .hibernate from hmode]
      refine (if_neg ?_).trans (if_pos hvin)
      rw [bitN_eq_getLsbD, show (s.at t).rt.wakeEn.getLsbD 1 = true from hon]
      simpa using hmode
    rw [← heq] at hst hword
    refine ⟨_, rfl, hst, (congrArg F.PWR_WAKE_CAUSE_wake_in.of hword).trans (Fld.of_eq_one rfl ?_)⟩
    simp [F.PWR_WAKE_CAUSE_wake_in]
  case latched =>
    have heq : (s.at t).wakeIn x = { s with now := max s.now t, rt := { s.rt with wakes := s.rt.wakes ++ [4] } } := by
      unfold State.wakeIn
      rw [show (s.at t).pw.mode = .hibernate from hmode]
      refine (if_neg ?_).trans (if_neg ?_)
      · rw [bitN_eq_getLsbD, show (s.at t).rt.wakeEn.getLsbD 1 = true from hon]
        simpa using hmode
      · rw [show (s.at t).pw.vin = false from hvin]
        exact Bool.false_ne_true
    exact ⟨_, run_eq_next (f := fun s => s.wakeIn x) heq rfl, rfl⟩
  case dusk =>
    let v : State := { s.at t with dk := { s.dk with abort := 2, abortAt := max s.now t } }
    have heq : (s.at t).wakeIn x = v.setFld F.DSK_STAT_aborting 1 := by
      unfold State.wakeIn
      rw [show (s.at t).pw.mode = .dusk from hmode]
      refine (if_pos hon).trans (if_pos ⟨hmode, State.flag_eq_true.mpr (hrun.trans_ne (by decide)), ?_⟩)
      rw [show (s.at t).dk.abort = 0 from habort]
      rfl
    exact ⟨_, run_eq_next (f := fun s => s.wakeIn x) heq rfl, rfl,
      State.fld_setFld_eq v (f := F.DSK_STAT_aborting) (by decide) (by decide)⟩
  case none =>
    have heq : (s.at t).wakeIn x = s.at t := by
      unfold State.wakeIn
      rcases hmode with h | h
      · rw [show (s.at t).pw.mode = .full from h]
      · rw [show (s.at t).pw.mode = .dawn from h]
    exact run_eq_next (f := fun s => s.wakeIn x) heq rfl

end Sys2Proof.Machine
end

-- ==== RC oscillators (03_clocks) ====
section
/-!
SUPPORT. What a failed oscillator, the end of the hold and a step of the trim leave.
-/

namespace Sys2Proof.Machine

/-! ### RC oscillators (R80, R81) -/

/-- A field of another register, or of other bits of the same one. -/
theorem State.fld_setFld_ne (s : State) {f g : Fld} (v : Nat) (h : f.hi < 32)
    (d : g.off ≠ f.off ∨ f.hi < g.lo ∨ g.hi < f.lo) : (s.setFld g v).fld f = s.fld f := by
  rcases d with d | d
  · exact s.fld_setFld_off f g v d
  · exact s.fld_setFld_bits f g v h d

theorem State.powered_iff (s : State) : s.powered = true ↔ s.pw.mode ≠ .hibernate ∧ s.pw.vin = true ∧ s.pw.hold = none := by
  simp [State.powered, and_assoc]

theorem State.fld_of_flag_false {s : State} {f : Fld} (h : s.flag f = false) : s.fld f = 0 := bne_eq_false_iff_eq.mp h

/-- A voted clock that stops holds the device as a reset leaves it. -/
theorem State.rcTwo_leaves {s : State} (hmode : s.pw.mode ≠ .hibernate) (hvin : s.pw.vin = true) (hrc : s.pn.rcDown = false) :
    Restarted s.rcTwo ∧ s.rcTwo.pn.rcDown = true ∧ s.rcTwo.pw.hold ≠ none ∧ s.rcTwo.fld F.CLK_STAT_rc_count = 0 := by
  have hf := (Fresh.resetDown s false).setFld (f := F.CLK_STAT_rc_count) (by decide) 0
  have hset := State.fld_setFld_eq (s.resetDown false) (f := F.CLK_STAT_rc_count) (v := 0) (by decide) (by decide)
  unfold State.rcTwo
  rw [if_neg (show ¬ (s.pw.mode = .hibernate ∨ (!s.pw.vin) = true ∨ s.pn.rcDown = true) by simp [hmode, hvin, hrc])]
  generalize (s.resetDown false).setFld F.CLK_STAT_rc_count 0 = d at *
  exact ⟨hf.restarted, rfl, Option.some_ne_none _, hset⟩

/-- The code after a measured error: a step of it is due beyond 0.05 %. -/
theorem State.rcTrim_leaves {s : State} {count : Nat} (hpow : s.powered = true) (hok : s.flag F.CLK_STAT_xtal_ok = true) :
    (s.rcTrim count).fld F.CLK_RC_TRIM_frozen = 0 ∧ RegsOnly s (s.rcTrim count) [0x020020] ∧
      (s.rcTrim count).fld F.CLK_RC_TRIM_code = (if 96048000 < count then s.fld F.CLK_RC_TRIM_code - 1
        else if count < 95952000 then min 255 (s.fld F.CLK_RC_TRIM_code + 1) else s.fld F.CLK_RC_TRIM_code) := by
  have hlt : s.fld F.CLK_RC_TRIM_code < 2 ^ 8 := Fld.of_lt _ _
  have hcode : (if (48000 : Int) < (count : Int) - 96000000 then s.fld F.CLK_RC_TRIM_code - 1
      else if (count : Int) - 96000000 < -48000 then min 255 (s.fld F.CLK_RC_TRIM_code + 1) else s.fld F.CLK_RC_TRIM_code) =
      (if 96048000 < count then s.fld F.CLK_RC_TRIM_code - 1
        else if count < 95952000 then min 255 (s.fld F.CLK_RC_TRIM_code + 1) else s.fld F.CLK_RC_TRIM_code) := by
    split_ifs <;> omega
  unfold State.rcTrim
  simp only [hpow, hok, Bool.not_true, Bool.false_eq_true, if_false, hcode]
  refine ⟨?_, (((RegsOnly.refl s _).setFld (by decide) _).setFld (by decide) _).setFld (by decide) _, ?_⟩
  · rw [State.fld_setFld_ne _ _ (by decide) (by decide), State.fld_setFld_ne _ _ (by decide) (by decide)]
    exact State.fld_setFld_eq _ (by decide) (by decide)
  · refine State.fld_setFld_eq _ (by decide) ?_
    show _ < 256
    split_ifs <;> omega

/-- Settles O24: one failed oscillator and two, the hold's end, and a step of the trim. -/
theorem rcOscillators : Obligations.RcOscillators := by
  intro t count x s
  refine ⟨fun hpow => ?one, fun hmode hvin hrc => ?two, fun hrc hhold hlow hclaim => ?back,
    fun hpow => ⟨fun hok => ?frozen, fun hok => ?trim⟩⟩
  case one =>
    have heq : (s.at t).rcOne = ((s.at t).setFld F.CLK_FAIL_rc_one 1).setFld F.CLK_STAT_rc_count 0 := if_pos hpow
    refine ⟨_, run_eq_next heq rfl, ?_, State.fld_setFld_eq _ (by decide) (by decide),
      ((RegsOnly.at s t _).setFld (by decide) _).setFld (by decide) _⟩
    rw [State.fld_setFld_ne _ _ (by decide) (by decide)]
    exact State.fld_setFld_eq _ (by decide) (by decide)
  case two => exact ⟨_, rfl, State.rcTwo_leaves (s := s.at t) hmode hvin hrc⟩
  case back =>
    let v : State := ({ s.at t with pn := { s.pn with rcDown := false } }.setFld F.CLK_STAT_rc_count
      (State.freeVal { s.at t with pn := { s.pn with rcDown := false } } 1)).useFree
    let w : State := { v with pw := { s.pw with hold := none, stage := .rom } }
    have heq : (s.at t).rcBack x = w.startUp x F.PWR_RESET_CAUSE_tpl :=
      (if_neg (show ¬ (!(s.at t).pn.rcDown) = true by rw [show (s.at t).pn.rcDown = true from hrc]; decide)).trans
        ((if_pos (show v.pw.hold = some .rc from hhold)).trans (State.startOrHold_eq (s := w) x _ hlow rfl))
    have hfrom := State.startUp_leaves (s := w) x (cause := F.PWR_RESET_CAUSE_tpl) (by decide) hclaim
    rw [← heq] at hfrom
    have hpw := hfrom.pw
    refine ⟨_, rfl, hfrom.part (fun z => z.pn.rcDown) fun _ => rfl, ?_, ?_, ?_, hfrom.causeSet, hfrom.part State.free fun _ => rfl⟩
    · refine (congrArg Pw.hold hpw).trans ?_
      cases x.rescue <;> rfl
    · refine (congrArg Pw.stage hpw).trans ?_
      cases x.rescue <;> rfl
    · refine (congrArg Pw.mode hpw).trans ?_
      cases x.rescue <;> rfl
  case frozen =>
    have heq : (s.at t).rcTrim count = (s.at t).setFld F.CLK_RC_TRIM_frozen 1 :=
      (if_neg (by rw [show (s.at t).powered = true from hpow]; decide)).trans
        (if_pos (by rw [show (s.at t).flag F.CLK_STAT_xtal_ok = false from bne_eq_false_iff_eq.mpr hok]; rfl))
    exact ⟨_, run_eq_next (f := fun s => s.rcTrim count) heq rfl, State.fld_setFld_eq _ (by decide) (by decide),
      State.fld_setFld_ne _ _ (by decide) (by decide), (RegsOnly.at s t _).setFld (by decide) _⟩
  case trim =>
    obtain ⟨hfrozen, hregs, hcode⟩ := State.rcTrim_leaves (s := s.at t) (count := count) hpow (bne_iff_ne.mpr hok)
    have hregs' := hregs.setNow s.now
    refine ⟨_, run_eq_next (f := fun s => s.rcTrim count) rfl (congrArg State.pending hregs.1 :), hfrozen, hregs', fun h => ?_,
      fun h => ?_, fun h h' => ?_⟩
    · exact hcode.trans (if_pos h)
    · exact hcode.trans ((if_neg (by omega)).trans (if_pos h))
    · exact hcode.trans ((if_neg (by omega)).trans (if_neg (by omega)))

end Sys2Proof.Machine
end

-- ==== XTAL32 (03_clocks) ====
section
/-!
SUPPORT. What a stop, a restart and a gap leave.
-/

namespace Sys2Proof.Machine

/-! ### XTAL32 (R98, R118) -/

/-- A written offset takes effect at a whole second. -/
def State.offsetTakes (s : State) : State :=
  match s.rt.offsetNext with
  | some o => { s with rt := { s.rt with offset := max (-50400) (min 50400 o), offsetNext := none } }
  | none => s

/-- An hour command changes the offset by `d`, or is ignored where that would leave the range. -/
def State.hourTakes (s : State) (before d : Int) : State :=
  if s.rt.offset + d < -50400 ∨ 50400 < s.rt.offset + d then
    State.setFld { s with rt := { s.rt with act := none } } F.RTC_STAT_cmd_err 1
  else
    State.setFld { s with rt := { s.rt with
      act := none, offset := s.rt.offset + d, dstUntil := if d < 0 then some before else s.rt.dstUntil } }
      F.RTC_LOCAL_OFS_offset (codeN 17 (s.rt.offset + d))

theorem State.wholeSecond_eq (s : State) (before : Int) : s.wholeSecond before = match s.offsetTakes.rt.act with
    | some .addHour => s.offsetTakes.hourTakes before 3600
    | some .subHour => s.offsetTakes.hourTakes before (-3600)
    | _ => s.offsetTakes := rfl

/-- `u` differs from `s` in the clock's state other than the time, and in registers of the `RTC_` block. -/
structure ClockRuns (s u : State) : Prop where
  parts : { u with rt := s.rt, io := s.io } = s
  time : u.rt.sec = s.rt.sec ∧ u.rt.frac = s.rt.frac
  word : ∀ off, off ≠ 0x030000 → off ≠ 0x03000C → u.word off = s.word off

theorem ClockRuns.refl (s : State) : ClockRuns s s := ⟨rfl, ⟨rfl, rfl⟩, fun _ _ _ => rfl⟩

section
variable {s u : State} (h : ClockRuns s u)
include h

theorem ClockRuns.setRt (rt : Rtc) (htime : rt.sec = u.rt.sec ∧ rt.frac = u.rt.frac) : ClockRuns s { u with rt := rt } :=
  ⟨h.parts, ⟨htime.1.trans h.time.1, htime.2.trans h.time.2⟩, h.word⟩

theorem ClockRuns.setFld {f : Fld} (hf : f.off = 0x030000 ∨ f.off = 0x03000C) (v : Nat) : ClockRuns s (u.setFld f v) :=
  ⟨h.parts, h.time, fun off hstat hofs =>
    (State.word_setFld_off u f v (by rcases hf with e | e <;> rw [e] <;> exact Ne.symm ‹_›)).trans (h.word off hstat hofs)⟩

theorem ClockRuns.wholeSecond (before : Int) : ClockRuns s (u.wholeSecond before) := by
  have hofs : ClockRuns s u.offsetTakes := by
    unfold State.offsetTakes
    split
    · exact h.setRt _ ⟨rfl, rfl⟩
    · exact h
  have hour (d : Int) : ClockRuns s (u.offsetTakes.hourTakes before d) := by
    unfold State.hourTakes
    split
    · refine ClockRuns.setFld (f := F.RTC_STAT_cmd_err) ?_ (.inl rfl) _
      exact hofs.setRt _ ⟨rfl, rfl⟩
    · refine ClockRuns.setFld (f := F.RTC_LOCAL_OFS_offset) ?_ (.inr rfl) _
      exact hofs.setRt _ ⟨rfl, rfl⟩
  rw [State.wholeSecond_eq]
  split
  · exact hour 3600
  · exact hour (-3600)
  · exact hofs

theorem ClockRuns.rtc : u.rtc = s.rtc := by
  obtain ⟨hsec, hfrac⟩ := h.time
  simp only [State.rtc, hsec, hfrac]

theorem ClockRuns.repeatEnds : ClockRuns s u.repeatEnds := by
  unfold State.repeatEnds
  split
  · split
    · exact h.setRt _ ⟨rfl, rfl⟩
    · exact h
  · exact h

end

/-- The time goes on: what changes is the clock's state and what a whole second writes. -/
theorem ClockRuns.goesOn (s : State) (new : Int) : ClockRuns (s.setTime new) (s.goesOn new) := by
  unfold State.goesOn
  dsimp only
  split
  · exact (ClockRuns.refl _).setRt _ ⟨rfl, rfl⟩
  · exact ((ClockRuns.refl _).wholeSecond s.calSec).setRt _ ⟨rfl, rfl⟩

/-- Settles O26: the tick's source, its cost, and the gap. -/
theorem xtal32StopsAndRestarts : Obligations.Xtal32StopsAndRestarts := by
  intro t s
  refine ⟨fun hvin hmode hok => ?stop, fun hno => ?restart, fun hhib => ?gap⟩
  case stop =>
    let a : State := ((s.at t).setFld F.CLK_FAIL_xtal_stop 1).setFld F.CLK_STAT_xtal_ok 0
    let v : State := (a.setFld F.CLK_STAT_tick_src 1).setFld F.CLK_RC_TRIM_frozen 1
    have hflag : (s.at t).flag F.CLK_STAT_xtal_ok = true := bne_iff_ne.mpr (hok.trans_ne (by decide))
    have hon : ¬ (!(s.at t).pw.vin || (s.at t).pw.mode == .hibernate || !(s.at t).flag F.CLK_STAT_xtal_ok) = true := by
      rw [hflag, show (s.at t).pw.vin = true from hvin, beq_eq_false_iff_ne.mpr (show (s.at t).pw.mode ≠ .hibernate from hmode)]
      decide
    have heq : (s.at t).xtalStop = (v.goesOn (v.rtc + 8)).repeatEnds := if_neg hon
    have hrun := (ClockRuns.goesOn v (v.rtc + 8)).repeatEnds
    rw [← heq] at hrun
    have hfld (f : Fld) (hstat : f.off ≠ 0x030000) (hofs : f.off ≠ 0x03000C) : (s.at t).xtalStop.fld f = v.fld f :=
      congrArg f.of (hrun.word f.off hstat hofs)
    refine ⟨_, run_eq_next rfl (congrArg State.pending hrun.parts :), ?_, ?_, ?_, ?_, ?_, ?_⟩
    · refine (hfld _ (by decide) (by decide)).trans ?_
      simp (disch := decide) only [v, a, State.fld_setFld_ne, State.fld_setFld_eq]
    · refine (hfld _ (by decide) (by decide)).trans ?_
      simp (disch := decide) only [v, a, State.fld_setFld_ne, State.fld_setFld_eq]
    · refine (hfld _ (by decide) (by decide)).trans ?_
      simp (disch := decide) only [v, a, State.fld_setFld_ne, State.fld_setFld_eq]
    · refine (hfld _ (by decide) (by decide)).trans ?_
      simp (disch := decide) only [v, a, State.fld_setFld_eq]
    · exact hrun.rtc.trans (State.setTime_rtc v (new := v.rtc + 8) (by have := v.rtc_nonneg; omega))
    · exact (congrArg (fun z : State => { z with rt := s.rt, io := s.io, now := s.now }) hrun.parts :)
  case restart =>
    have heq : (s.at t).xtalBack = (((s.at t).setFld F.CLK_STAT_xtal_ok 1).setFld F.CLK_STAT_tick_src 0).setFld
        F.CLK_RC_TRIM_frozen 0 := if_neg (ne_true_of_eq_false (bne_eq_false_iff_eq.mpr hno))
    refine ⟨_, run_eq_next heq rfl, ?_, ?_, State.fld_setFld_eq _ (by decide) (by decide),
      (((RegsOnly.at s t _).setFld (by decide) _).setFld (by decide) _).setFld (by decide) _⟩
    all_goals simp (disch := decide) only [State.fld_setFld_ne, State.fld_setFld_eq]
  case gap =>
    have heq : (s.at t).xtalGap = ((s.at t).setFld F.RTC_STAT_xtal_gap 1).setFld F.RTC_STAT_time_lost 1 := if_pos hhib
    refine ⟨_, run_eq_next heq rfl, ?_, State.fld_setFld_eq _ (by decide) (by decide),
      ((RegsOnly.at s t _).setFld (by decide) _).setFld (by decide) _⟩
    simp (disch := decide) only [State.fld_setFld_ne, State.fld_setFld_eq]

end Sys2Proof.Machine
end

-- ==== The Post-box (05_triplicate) ====
section
/-!
SUPPORT. What an item's CRC holds, what a push appends and what a pop gives.
-/

namespace Sys2Proof.Machine

/-! ### The Post-box (R143 to R146) -/

theorem crc8Bits_lt (k : Nat) {c : Nat} (h : c < 256) : crc8Bits k c < 256 := by
  induction k generalizing c with
  | zero => exact h
  | succ k ih =>
    refine ih ?_
    split
    · exact Nat.xor_lt_two_pow (n := 8) (Nat.mod_lt _ (by decide)) (by decide)
    · omega

theorem crc8_lt (bs : Bytes) {c : Nat} (h : c < 256) : crc8 c bs < 256 := by
  induction bs generalizing c with
  | nil => exact h
  | cons b bs ih => exact ih (crc8Bits_lt 8 (Nat.xor_lt_two_pow (n := 8) h b.isLt))

theorem itemHeader_lt (type len seq lost slot : Nat) : itemHeader type len seq lost slot < 2 ^ 64 := by
  unfold itemHeader
  omega

theorem bitsN_itemHeader (type len seq lost slot : Nat) {c : Nat} (h : c < 256) :
    bitsN (itemHeader type len seq lost slot + c * 2 ^ 32) 39 32 = c := by
  unfold itemHeader bitsN
  omega

/-- An item carries the CRC of its bytes. -/
theorem itemOk_mkItem (type seq lost slot : Nat) (payload : List PWord) : itemOk (mkItem type seq lost slot payload) = true := by
  have hc := crc8_lt (itemBytes (BitVec.ofNat 64 (itemHeader type (payload.length + 1) seq lost slot) :: payload))
    (c := 0) (by decide)
  have hlt : itemHeader type (payload.length + 1) seq lost slot + crc8 0 (itemBytes (BitVec.ofNat 64
      (itemHeader type (payload.length + 1) seq lost slot) :: payload)) * 2 ^ 32 < 2 ^ 64 := by
    generalize crc8 0 _ = c at hc
    unfold itemHeader
    omega
  have hnat := BitVec.toNat_ofNat (w := 64) (x := itemHeader type (payload.length + 1) seq lost slot + crc8 0 (itemBytes
    (BitVec.ofNat 64 (itemHeader type (payload.length + 1) seq lost slot) :: payload)) * 2 ^ 32)
  rw [Nat.mod_eq_of_lt hlt] at hnat
  simp only [itemOk, mkItem, hnat, bitsN_itemHeader _ _ _ _ _ hc, Nat.add_sub_cancel, beq_self_eq_true]

theorem length_mkItem (type seq lost slot : Nat) (payload : List PWord) :
    (mkItem type seq lost slot payload).length = payload.length + 1 := rfl

theorem State.refreshDue_eq {s : State} (hvotes : s.votes = true) (hcode : s.fld F.TPL_STAT_code = 1) :
    s.refreshDue = s.stateRefresh := if_pos (by rw [hvotes, hcode]; rfl)

/-- An item that fits, and one that does not. -/
theorem State.pushItem_fits {s : State} (type : Nat) {payload : List PWord} (h : s.tp.words + payload.length + 1 ≤ 1024) :
    s.pushItem type payload = { s with tp := { s.tp with
      pseq := (s.tp.pseq + 1) % 256, plost := 0, pbox := s.tp.pbox ++ [mkItem type s.tp.pseq s.tp.plost s.ml.slot payload] } } :=
  if_pos h

theorem State.pushItem_lost {s : State} (type : Nat) {payload : List PWord} (h : 1024 < s.tp.words + payload.length + 1) :
    s.pushItem type payload = State.count { s with tp := { s.tp with pseq := (s.tp.pseq + 1) % 256, plost := s.tp.plost + 1 } }
      F.TPL_PBOX_ERR_overflow :=
  if_neg (show ¬ s.tp.words + payload.length + 1 ≤ 1024 by omega)

/-- Settles O29: what a push appends or counts, and what a pop gives. -/
theorem postboxPushAndPop : Obligations.PostboxPushAndPop := by
  intro t s
  refine ⟨fun hvotes hcode => ⟨fun hfits => ?fits, fun hfull => ?lost⟩,
    fun hin upset => ⟨fun hempty => ?empty, fun w v ws rest hbox => ?word, fun w rest hbox => ?last⟩⟩
  case fits =>
    have heq : (s.at t).refreshDue = _ :=
      (State.refreshDue_eq (s := s.at t) hvotes hcode).trans (State.pushItem_fits (s := s.at t) 0x06 (payload := []) hfits)
    exact ⟨_, _, run_eq_next heq rfl, itemOk_mkItem _ _ _ _ _, rfl, rfl, rfl⟩
  case lost =>
    have heq : (s.at t).refreshDue = _ := (State.refreshDue_eq (s := s.at t) hvotes hcode).trans
      (State.pushItem_lost (s := s.at t) 0x06 (payload := []) (Nat.lt_succ_of_le hfull))
    exact ⟨_, run_eq_next heq rfl, rfl, rfl, State.fld_count_self _ _ 1 (by decide)⟩
  all_goals
    have hrun : exec (.pboxPop t upset) s = run t s fun s => if s.inFull then s.popWord upset else s := rfl
    have hpop : (if (s.at t).inFull then (s.at t).popWord upset else s.at t) = (s.at t).popWord upset := if_pos hin
  case empty =>
    have heq : (s.at t).popWord upset = (s.at t).put (.pbox 0#64) := by
      unfold State.popWord
      rw [show (s.at t).tp.pbox = [] from hempty]
    exact ⟨_, run_eq_next (hpop.trans heq) rfl, rfl, rfl⟩
  case word =>
    have heq : (s.at t).popWord upset = State.put { s.at t with tp := { s.tp with
        pbox := (v :: ws) :: rest, read := s.tp.read ++ [w ^^^ upset] } } (.pbox (w ^^^ upset)) := by
      unfold State.popWord
      rw [show (s.at t).tp.pbox = (w :: v :: ws) :: rest from hbox]
      rfl
    exact ⟨_, run_eq_next (hpop.trans heq) rfl, rfl, rfl, rfl, rfl, fun _ _ => rfl⟩
  case last =>
    let p : State := State.put { s.at t with tp := { s.tp with pbox := rest, read := [] } } (.pbox (w ^^^ upset))
    have heq : (s.at t).popWord upset =
        if itemOk (s.tp.read ++ [w ^^^ upset]) then p else p.count F.TPL_PBOX_ERR_crc_drop := by
      unfold State.popWord
      rw [show (s.at t).tp.pbox = [w] :: rest from hbox]
      rfl
    cases hok : itemOk (s.tp.read ++ [w ^^^ upset]) with
    | true => exact ⟨_, run_eq_next (hpop.trans (heq.trans (if_pos hok))) rfl, rfl, rfl, rfl, fun _ _ _ => rfl⟩
    | false =>
      exact ⟨_, run_eq_next (hpop.trans (heq.trans (if_neg (ne_true_of_eq_false hok)))) rfl, rfl, rfl,
        State.fld_count_self p _ 1 (by decide), (SameWords.refl p _).setFld (by decide) _⟩

end Sys2Proof.Machine
end

-- ==== Register pairs (00_scope) ====
section
/-!
SUPPORT. A read that latches the upper half, and a write that takes both halves.
-/

namespace Sys2Proof.Machine

/-! ### Register pairs (R8) -/

/-- A write of a single register in a block that is on. -/
theorem State.wordWrite_single (s : State) {off : Nat} {w : Word} (hon : s.blockOn off = true) (hlo : isPairLo off = false)
    (hhi : (decide (4 ≤ off) && isPairLo (off - 4)) = false) : s.wordWrite off w = s.regWriteAt off w := by
  simp [State.wordWrite, hon, hlo, hhi]

/-- A read of the lower half of a pair, other than of the time. -/
theorem State.loRead_pair {s : State} {off : Nat} (hbar : s.barUp = true) (hon : s.blockOn off = true)
    (hlo : isPairLo off = true) (hoff : off ≠ 0x030004) : s.loRead off = { s with io := { s.io with
      latch := Tbl.put s.io.latch (off + 4) (s.readReg (off + 4)), out := .readData off (s.readReg off) :: s.io.out } } := by
  simp [State.loRead, hbar, hon, hlo, hoff, State.put]

/-- What was latched is what a read of the upper half gives. -/
theorem State.busRead_latched {u : State} {off : Nat} {v : Word} (hon : u.blockOn (off + 4) = true) (hlo : isPairLo off = true)
    (hlatch : Tbl.get? u.io.latch (off + 4) = some v) : u.busRead (off + 4) = v := by
  simp [State.busRead, hon, hlo, hlatch]

/-- The halves of `MSH_DL_WARN`: every bit of the lower one, and eight of the upper one. -/
theorem famOf_dlWarn : (famOf 0x140220).map (fun f => (f.rw, f.rwl, f.rwq, f.w1c)) = some (0xFFFFFFFF, 0, 0, 0) ∧
    (famOf 0x140224).map (fun f => (f.rw, f.rwl, f.rwq, f.w1c)) = some (0xFF, 0, 0, 0) := by decide +kernel

/-- A register whose bits are all read-write or reserved takes a write in those bits. -/
theorem State.plainWrite_rw (s : State) {f : RegFam} {off : Nat} (w : Word) (hrwl : f.rwl = 0) (hrwq : f.rwq = 0) (hw1c : f.w1c = 0) :
    s.plainWrite f off w = s.setWord off ((s.word off &&& ~~~maskW f.rw) ||| (w &&& maskW f.rw)) := by
  have hmask : maskW 0 = 0#32 := rfl
  simp only [State.plainWrite, RegFam.written, RegFam.refused, hrwl, hrwq, hw1c, hmask, ite_self, BitVec.or_zero, BitVec.and_zero,
    BitVec.not_zero, BitVec.and_allOnes, bne_self_eq_false, Bool.and_false, Bool.false_eq_true, if_false]

theorem State.regWriteAt_dlWarn (s : State) (w : Word) :
    s.regWriteAt 0x140220 w = s.setWord 0x140220 w ∧
      s.regWriteAt 0x140224 w = s.setWord 0x140224 ((s.word 0x140224 &&& ~~~0xFF#32) ||| (w &&& 0xFF#32)) := by
  obtain ⟨hlo, hhi⟩ := famOf_dlWarn
  obtain ⟨f, hf, hlo⟩ := Option.map_eq_some_iff.mp hlo
  obtain ⟨g, hg, hhi⟩ := Option.map_eq_some_iff.mp hhi
  simp only [Prod.mk.injEq] at hlo hhi
  obtain ⟨hrw, hrwl, hrwq, hw1c⟩ := hlo
  obtain ⟨hrw', hrwl', hrwq', hw1c'⟩ := hhi
  have hall (c w : Word) : (c &&& ~~~maskW 0xFFFFFFFF) ||| (w &&& maskW 0xFFFFFFFF) = w := by
    rw [show maskW 0xFFFFFFFF = BitVec.allOnes 32 from rfl, BitVec.not_allOnes, BitVec.and_zero, BitVec.zero_or, BitVec.and_allOnes]
  constructor
  · unfold State.regWriteAt
    rw [hf]
    exact (State.plainWrite_rw s w hrwl hrwq hw1c).trans (by rw [hrw, hall])
  · unfold State.regWriteAt
    rw [hg]
    exact (State.plainWrite_rw s w hrwl' hrwq' hw1c').trans (by rw [hrw']; rfl)

/-- Settles O32: the latch of a pair, and a write of both halves together. -/
theorem pairsReadAndWriteWhole : Obligations.PairsReadAndWriteWhole := by
  intro t off w s hbar r
  refine ⟨fun hlo hoff hon => ?read, fun hon => ⟨?held, ?both⟩⟩
  case read =>
    have heq := State.loRead_pair (s := s.at t) hbar hon hlo hoff
    exact ⟨_, run_eq_next (f := fun s => s.loRead off) heq rfl, rfl, fun hup =>
      State.busRead_latched hup hlo (Tbl.get?_put_self _ _ _)⟩
  all_goals have hw : BitVec.ofNat 32 w.toNat = w := by rw [BitVec.ofNat_toNat, BitVec.setWidth_eq]
  case held =>
    refine exec_registerWrite_eq_next ((State.busWrite_word (s.at t) _ _ hbar (by decide)).trans ?_) rfl
    rw [hw]
    simp only [State.wordWrite, show (s.at t).blockOn 0x140220 = true from hon]
    rfl
  case both =>
    let a := Tbl.getD s.io.heldLo 0x140220 (s.word 0x140220)
    have hon' : (s.at t).blockOn 0x140224 = true := hon
    have heq : (s.at t).busWrite 0x140224 4 w.toNat = ((s.at t).setWord 0x140220 a).setWord 0x140224
        ((s.word 0x140224 &&& ~~~0xFF#32) ||| (w &&& 0xFF#32)) := by
      refine (State.busWrite_word (s.at t) _ _ hbar (by decide)).trans ?_
      have hpair : (s.at t).wordWrite 0x140224 w = ((s.at t).regWriteAt 0x140220 a).regWriteAt 0x140224 w := by
        simp only [State.wordWrite, hon']
        rfl
      rw [hw, hpair, ((s.at t).regWriteAt_dlWarn a).1, (State.regWriteAt_dlWarn _ w).2,
        State.word_setWord_ne _ _ (by decide)]
      rfl
    refine ⟨_, exec_registerWrite_eq_next heq rfl, State.word_setWord_self _ _ _, ?_,
      ((RegsOnly.at s t _).setWord (by decide) _).setWord (by decide) _⟩
    rw [State.word_setWord_ne _ _ (by decide)]
    exact State.word_setWord_self _ _ _

end Sys2Proof.Machine
end

-- ==== Command registers (06_radio_s, 11_radios_l_h, 19_dusk_selftest, 21_pins_electrical) ====
section
/-!
SUPPORT. What a write of a calibration, output or abort command does.
-/

namespace Sys2Proof.Machine

/-! ### Command registers (R180, R331, R545, R580) -/

/-- The registers whose write is a command, and the block of each. -/
theorem famOf_commands : ∀ off ∈ [0x100044, 0x180020, 0x1C0020, 0x48000C, 0x480010], off % 4 = 0 ∧
    (famOf off).isSome = true ∧ isPairLo off = false ∧ (decide (4 ≤ off) && isPairLo (off - 4)) = false := by decide +kernel

theorem blockOf_commands : (blockOf 0x100044).map (·.num) = some 12 ∧ (blockOf 0x180020).map (·.num) = some 14 ∧
    (blockOf 0x1C0020).map (·.num) = some 15 ∧ (blockOf 0x48000C).map (·.num) = some 22 ∧
    (blockOf 0x480010).map (·.num) = some 22 := by decide +kernel

/-- A write of a command register reaches the register's own effect. -/
theorem State.busWrite_command {s : State} {off : Nat} (w : Word) (hbar : s.barUp = true) (hon : s.blockOn off = true)
    (hoff : off ∈ [0x100044, 0x180020, 0x1C0020, 0x48000C, 0x480010]) :
    ∃ f, s.busWrite off 4 w.toNat = s.regWrite f off w := by
  obtain ⟨hal, hsome, hlo, hhi⟩ := famOf_commands off hoff
  obtain ⟨f, hf⟩ := Option.isSome_iff_exists.mp hsome
  refine ⟨f, (State.busWrite_word s _ _ hbar hal).trans ?_⟩
  rw [BitVec.ofNat_toNat, BitVec.setWidth_eq, State.wordWrite_single s hon hlo hhi, State.regWriteAt, hf]

theorem State.blockOn_radioS {s : State} (h : s.meshReached = true) : s.blockOn 0x100044 = true := by
  obtain ⟨b, hb, hnum⟩ := Option.map_eq_some_iff.mp blockOf_commands.1
  simp [State.blockOn, hb, hnum, h]

theorem State.blockOn_gpio (s : State) : s.blockOn 0x48000C = true ∧ s.blockOn 0x480010 = true := by
  obtain ⟨-, -, -, hset, hclr⟩ := blockOf_commands
  obtain ⟨b, hb, hnum⟩ := Option.map_eq_some_iff.mp hset
  obtain ⟨c, hc, hnum'⟩ := Option.map_eq_some_iff.mp hclr
  simp [State.blockOn, hb, hnum, hc, hnum']

/-- The calibration command register of Radio L (false) or H. -/
def lhCalOff (h : Bool) : Nat := if h then 0x1C0020 else 0x180020

theorem State.blockOn_lhCal {s : State} {h : Bool} (hon : s.lhPowered h = true) : s.blockOn (lhCalOff h) = true := by
  obtain ⟨-, hl, hh, -⟩ := blockOf_commands
  obtain ⟨b, hb, hnum⟩ := Option.map_eq_some_iff.mp hl
  obtain ⟨c, hc, hnum'⟩ := Option.map_eq_some_iff.mp hh
  cases h <;> simp [State.blockOn, lhCalOff, hb, hnum, hc, hnum', hon]

theorem State.regWrite_srxCal (s : State) (f : RegFam) (w : Word) :
    s.regWrite f 0x100044 w = s.srxCalCmd (bitN w.toNat 0) (bitN w.toNat 1) := rfl

theorem State.regWrite_lhCal (s : State) (f : RegFam) (h : Bool) (w : Word) :
    s.regWrite f (lhCalOff h) w = s.lhCalCmd h w := by cases h <;> rfl

theorem State.regWrite_gpio (s : State) (f : RegFam) (w : Word) :
    s.regWrite f 0x48000C w = s.setWord 0x480008 (s.word 0x480008 ||| w) ∧
      s.regWrite f 0x480010 w = s.setWord 0x480008 (s.word 0x480008 &&& ~~~w) := ⟨rfl, rfl⟩

theorem State.calPend_quick (s : State) : s.calPend false = s.setFld F.SRX_CAL_STAT_pending 1 := by
  simp only [State.calPend, Bool.or_false]

theorem State.calPend_full (s : State) :
    s.calPend true = State.setFld { s with rs := { s.rs with calFull := true } } F.SRX_CAL_STAT_pending 1 := by
  simp only [State.calPend, Bool.or_true]

/-- A write of `SRX_CAL_CMD`. -/
theorem State.busWrite_srxCal {s : State} {w : Word} (hbar : s.barUp = true) (hon : s.meshReached = true) :
    s.busWrite 0x100044 4 w.toNat = s.srxCalCmd (bitN w.toNat 0) (bitN w.toNat 1) := by
  obtain ⟨f, hf⟩ := State.busWrite_command w hbar (State.blockOn_radioS hon) (by decide)
  rw [hf, State.regWrite_srxCal]

/-- A write of a calibration command of L or H, while its radio is powered. -/
theorem State.busWrite_lhCal {s : State} {h : Bool} {w : Word} (hbar : s.barUp = true) (hon : s.lhPowered h = true) :
    s.busWrite (lhCalOff h) 4 w.toNat = s.lhCalCmd h w := by
  obtain ⟨f, hf⟩ := State.busWrite_command w hbar (State.blockOn_lhCal hon) (by cases h <;> decide)
  rw [hf, State.regWrite_lhCal]

/-- A calibration that is asked for while another runs is held. -/
theorem State.calRequest_held {s : State} {h : Bool} {k : Nat} (hin : s.inFull = true) (heff : s.fld (radioEff h) ≠ 0)
    (hstop : (s.radio h).stopped = false) (hcal : s.fld (F.LRX_STAT_cal.on h) ≠ 0) :
    s.calRequest h k = (s.setRadio h { s.radio h with held := max (s.radio h).held k }).setFld
      (F.LRX_CAL_STAT_pending.on h) 1 := by
  simp [State.calRequest, hin, heff, hstop, hcal]

/-- One that is asked for while none runs begins, unless it is a channel calibration beside the mesh's intervals. -/
theorem State.calRequest_begins {s : State} {h : Bool} {k : Nat} (hin : s.inFull = true) (heff : s.fld (radioEff h) ≠ 0)
    (hstop : (s.radio h).stopped = false) (hcal : s.fld (F.LRX_STAT_cal.on h) = 0)
    (hk : k = 2 ∨ h = true ∨ s.fld F.PWR_RADIO_PERS_l_eff ≠ 2) :
    s.calRequest h k = (s.setRadio h { (s.radio h).swStart with calAt := s.now }).setFld (F.LRX_STAT_cal.on h) k := by
  have hnot : ¬ (!h && decide (k = 1) && s.reserves) = true := by
    simp only [State.reserves, hin, Bool.true_and]
    rcases hk with hk | hk | hk
    · simp [hk]
    · simp [hk]
    · simp [hk]
  simp only [State.calRequest, State.calBegin]
  rw [if_neg (by simp [hin, heff, hstop]), if_neg (not_not.mpr hcal)]
  refine if_neg ?_
  simpa using hnot

theorem State.radio_setRadio (s : State) (h : Bool) (r : Radio) :
    (s.setRadio h r).radio h = r ∧ (s.setRadio h r).radio (!h) = s.radio (!h) := by
  cases h <;> exact ⟨rfl, rfl⟩

/-- Only the radios and one register. -/
theorem State.setRadio_setFld_regsOnly (s : State) (t : Nat) (h : Bool) (r : Radio) (f : Fld) (v : Nat) :
    RegsOnly { s with lh := (((s.at t).setRadio h r).setFld f v).lh } (((s.at t).setRadio h r).setFld f v) [f.off] :=
  RegsOnly.setFld ⟨rfl, rfl, fun _ _ => rfl⟩ (by simp) v

theorem Fld.on_width (f : Fld) (h : Bool) : (f.on h).width = f.width ∧ (f.on h).hi = f.hi := by cases h <;> exact ⟨rfl, rfl⟩

/-- The calibration commands of L and H, as writes. -/
theorem exec_calCommand {t k : Nat} {h : Bool} {c : Instr}
    (hc : (c = .lhCalChannel t h ∧ k = 1) ∨ (c = .lhCalFull t h ∧ k = 2)) (s : State) :
    exec c s = run t s fun s => s.busWrite (lhCalOff h) 4 k := by
  rcases hc with ⟨rfl, rfl⟩ | ⟨rfl, rfl⟩ <;> rfl

theorem State.calCommand_eq {t k : Nat} {h : Bool} {c : Instr}
    (hc : (c = .lhCalChannel t h ∧ k = 1) ∨ (c = .lhCalFull t h ∧ k = 2)) {s : State} (hbar : s.barUp = true)
    (hon : s.lhPowered h = true) : s.busWrite (lhCalOff h) 4 k = s.calRequest h k := by
  rcases hc with ⟨-, rfl⟩ | ⟨-, rfl⟩
  · exact (State.busWrite_lhCal (w := 1#32) hbar hon).trans rfl
  · exact (State.busWrite_lhCal (w := 2#32) hbar hon).trans rfl

/-- A radio in service is powered in Full. -/
theorem State.lhPowered_full {s : State} {h : Bool} (hin : s.inFull = true) (heff : s.fld (radioEff h) ≠ 0) :
    s.lhPowered h = true := by
  have hmode : s.pw.mode = .full := by simp_all [State.inFull]
  simp [State.lhPowered, hmode, heff]

/-- Settles O33: the effect of each command register. -/
theorem commandRegistersAct : Obligations.CommandRegistersAct := by
  intro t h w s hbar
  refine ⟨fun hfull => ⟨?quick, ?full⟩, fun hdawn => ⟨?quickHeld, ?fullHeld⟩, fun k c hc hin heff hstop => ⟨fun hcal => ?held,
    fun hcal hk => ?begins⟩, ?set, ?clr, fun hmode hrun habort => ⟨fun hkey hbit => ?abort, fun hkey => ?unkeyed⟩⟩
  case quick =>
    have heq : (s.at t).busWrite 0x100044 4 1 = (s.at t).setFld F.SRX_CAL_STAT_pending 1 :=
      (State.busWrite_srxCal (s := s.at t) (w := 1#32) hbar (by simp [State.meshReached, State.at, hfull])).trans
        ((if_pos (show ((s.at t).pw.mode == .full) = true by simp [State.at, hfull])).trans (s.at t).calPend_quick)
    exact ⟨_, run_eq_next (f := fun s => s.busWrite 0x100044 4 1) heq rfl, State.fld_setFld_eq _ (by decide) (by decide),
      (RegsOnly.at s t _).setFld (by decide) _⟩
  case full =>
    have heq : (s.at t).busWrite 0x100044 4 2 = State.setFld { s.at t with rs := { s.rs with calFull := true } }
        F.SRX_CAL_STAT_pending 1 :=
      (State.busWrite_srxCal (s := s.at t) (w := 2#32) hbar (by simp [State.meshReached, State.at, hfull])).trans
        ((if_pos (show ((s.at t).pw.mode == .full) = true by simp [State.at, hfull])).trans (s.at t).calPend_full)
    exact ⟨_, run_eq_next (f := fun s => s.busWrite 0x100044 4 2) heq rfl, State.fld_setFld_eq _ (by decide) (by decide), rfl,
      RegsOnly.setFld ⟨rfl, rfl, fun _ _ => rfl⟩ (by decide) _⟩
  case quickHeld =>
    exact run_eq_next (f := fun s => s.busWrite 0x100044 4 1)
      ((State.busWrite_srxCal (s := s.at t) (w := 1#32) hbar (by simp [State.meshReached, State.at, hdawn])).trans
        (if_neg (show ¬ ((s.at t).pw.mode == .full) = true by simp [State.at, hdawn]))) rfl
  case fullHeld =>
    exact run_eq_next (f := fun s => s.busWrite 0x100044 4 2)
      ((State.busWrite_srxCal (s := s.at t) (w := 2#32) hbar (by simp [State.meshReached, State.at, hdawn])).trans
        (if_neg (show ¬ ((s.at t).pw.mode == .full) = true by simp [State.at, hdawn]))) rfl
  case held =>
    have heq := (State.calCommand_eq hc (s := s.at t) hbar (State.lhPowered_full hin heff)).trans
      (State.calRequest_held (s := s.at t) (k := k) hin heff hstop hcal)
    obtain ⟨hself, hother⟩ := State.radio_setRadio (s.at t) h { (s.at t).radio h with held := max ((s.at t).radio h).held k }
    exact ⟨_, (exec_calCommand hc s).trans (run_eq_next heq rfl), State.fld_setFld_eq _ (by cases h <;> decide) (by cases h <;> decide),
      hself, hother, State.setRadio_setFld_regsOnly s t h _ _ 1⟩
  case begins =>
    have heq := (State.calCommand_eq hc (s := s.at t) hbar (State.lhPowered_full hin heff)).trans
      (State.calRequest_begins (s := s.at t) (k := k) hin heff hstop hcal hk)
    obtain ⟨hself, hother⟩ := State.radio_setRadio (s.at t) h { ((s.at t).radio h).swStart with calAt := (s.at t).now }
    have hlt : k < 2 ^ (F.LRX_STAT_cal.on h).width := by
      rw [(Fld.on_width _ h).1]
      rcases hc with ⟨-, rfl⟩ | ⟨-, rfl⟩ <;> decide
    exact ⟨_, (exec_calCommand hc s).trans (run_eq_next heq rfl), State.fld_setFld_eq _ (by cases h <;> decide) hlt,
      congrArg Radio.calAt hself, hother, State.setRadio_setFld_regsOnly s t h _ _ k⟩
  case set =>
    obtain ⟨f, hf⟩ := State.busWrite_command (s := s.at t) w hbar (State.blockOn_gpio _).1 (by decide)
    exact ⟨_, run_eq_next (f := fun s => s.busWrite 0x48000C 4 w.toNat) (hf.trans (State.regWrite_gpio _ f w).1) rfl,
      State.word_setWord_self _ _ _, (RegsOnly.at s t _).setWord (by decide) _⟩
  case clr =>
    obtain ⟨f, hf⟩ := State.busWrite_command (s := s.at t) w hbar (State.blockOn_gpio _).2 (by decide)
    exact ⟨_, run_eq_next (f := fun s => s.busWrite 0x480010 4 w.toNat) (hf.trans (State.regWrite_gpio _ f w).2) rfl,
      State.word_setWord_self _ _ _, (RegsOnly.at s t _).setWord (by decide) _⟩
  case abort =>
    have heq : (if (s.at t).barUp && decide (bitsN w.toNat 31 16 = 0x5A5A) && bitN w.toNat 0 then (s.at t).duskService 4 else s.at t) =
        State.setFld { s.at t with dk := { s.dk with abort := 4, abortAt := max s.now t } } F.DSK_STAT_aborting 1 :=
      (if_pos (by rw [show (s.at t).barUp = true from hbar, decide_eq_true hkey, hbit]; rfl)).trans
        (if_pos ⟨hmode, hrun, by rw [show (s.at t).dk.abort = 0 from habort]; rfl⟩)
    exact ⟨_, run_eq_next (f := fun s => if s.barUp && decide (bitsN w.toNat 31 16 = 0x5A5A) && bitN w.toNat 0 then s.duskService 4
      else s) heq rfl, rfl, State.fld_setFld_eq _ (by decide) (by decide), RegsOnly.setFld ⟨rfl, rfl, fun _ _ => rfl⟩ (by decide) _⟩
  case unkeyed =>
    exact run_eq_next (f := fun s => if s.barUp && decide (bitsN w.toNat 31 16 = 0x5A5A) && bitN w.toNat 0 then s.duskService 4
      else s) (if_neg (by rw [decide_eq_false hkey, Bool.and_false, Bool.false_and]; decide)) rfl

end Sys2Proof.Machine
end

-- ==== Receive windows of Radio S (06_radio_s) ====
section
/-!
SUPPORT. What takes effect at a window, what it resets, and what its close hands on.
-/

namespace Sys2Proof.Machine

/-! ### Fields in effect (R11) -/

/-- Every bit of the field takes effect at the boundary of its register. -/
def Fld.latched (f : Fld) : Bool :=
  decide (f.hi < 32) && (famOf f.off).any fun r => (List.range f.width).all fun i => r.rwl.testBit (f.lo + i)

/-- What was written is in effect after the boundary of its register. -/
theorem Io.eFld_latchReg_self (io : Io) {f : Fld} (h : f.latched = true) : (io.latchReg f.off).eFld f = io.fld f := by
  simp only [Fld.latched, Bool.and_eq_true, decide_eq_true_eq, Option.any_eq_true, List.all_eq_true, List.mem_range] at h
  obtain ⟨hhi, r, hfam, hbits⟩ := h
  have hword : (io.latchReg f.off).eWord f.off =
      (io.eWord f.off &&& ~~~BitVec.ofNat 32 r.rwl) ||| (io.word f.off &&& BitVec.ofNat 32 r.rwl) := by
    unfold Io.latchReg
    rw [hfam]
    exact Tbl.getD_putDef_self _ _ _ _
  unfold Io.eFld Io.fld
  rw [hword]
  apply Nat.eq_of_testBit_eq
  intro i
  rw [Fld.of, Fld.of, testBit_bitsN, testBit_bitsN]
  by_cases hi : i < f.hi + 1 - f.lo
  · have hbit := hbits i hi
    have hlt : f.lo + i < 32 := by omega
    simp only [hi, decide_true, Bool.true_and, BitVec.testBit_toNat, BitVec.getLsbD_or, BitVec.getLsbD_and, BitVec.getLsbD_not,
      BitVec.getLsbD_ofNat, hbit, hlt, Bool.and_self, Bool.not_true, Bool.and_false, Bool.false_or, Bool.and_true]
  · simp [hi]

theorem Io.eFld_latchReg_ne (io : Io) {f : Fld} {off : Nat} (h : off ≠ f.off) : (io.latchReg off).eFld f = io.eFld f := by
  unfold Io.latchReg
  split
  · exact congrArg f.of (Tbl.getD_putDef_ne _ _ _ _ h)
  · rfl

theorem Io.fld_latchReg (io : Io) (off : Nat) (f : Fld) : (io.latchReg off).fld f = io.fld f :=
  congrArg f.of (Io.latchReg_word io off f.off)

theorem Io.latchRegs_word (io : Io) (l : List Nat) (off : Nat) : (io.latchRegs l).word off = io.word off := by
  induction l generalizing io with
  | nil => rfl
  | cons o os ih => exact (ih _).trans (Io.latchReg_word io o off)

/-! ### Receive windows (R157, R160, R166, R185, R589) -/

theorem State.windowLatch_lnaMode (s : State) : s.windowLatch.eFld F.SRX_AGC_CFG_lna_mode = s.fld F.SRX_AGC_CFG_lna_mode := by
  have hlatched : F.SRX_AGC_CFG_lna_mode.latched = true := by decide +kernel
  show (((((s.io.latchReg 0x100028).latchReg 0x10002C).latchReg 0x100030).latchReg 0x440100).latchReg 0x440104).eFld _ = _
  rw [Io.eFld_latchReg_ne _ (by decide), Io.eFld_latchReg_ne _ (by decide), Io.eFld_latchReg_ne _ (by decide)]
  exact (Io.eFld_latchReg_self _ hlatched).trans (Io.fld_latchReg _ _ _)

/-- The LNA is bypassed by the fields in effect and the powers at the balls (R160). -/
def State.lnaBypassed (s : State) (p0 p1 : Int) : Bool :=
  let ref (p : Int) : Int := if s.rs.lnaRx then p else p - (s.eFld F.SRX_AGC_CFG_ext_gain_db : Int)
  let th := s8 (s.eFld F.SRX_AGC_CFG_lna_thresh)
  if s.eFld F.SRX_AGC_CFG_lna_mode = 0 then false
  else if s.eFld F.SRX_AGC_CFG_lna_mode = 2 then true else decide (th < ref p0) || decide (th < ref p1)

/-- A window's first part: what it resets. -/
def State.windowBegun (s : State) (rcpt : Bool) : State :=
  let s := { s with rs := { s.rs with window := some rcpt, demods := [] } }
  ((((s.setFld F.SRX_STAT_frozen0 0).setFld F.SRX_STAT_frozen1 0).setFld F.SRX_STAT_step0 0).setFld
      F.SRX_STAT_step1 0).setFld F.SRX_STAT_rx_active 1

/-- The LNA's path is chosen. -/
def State.lnaChosen (s : State) (byp : Bool) : State :=
  let s := { s with rs := { s.rs with lnaRx := byp } }
  s.setFld F.SRX_STAT_lna_byp byp.toNat

/-- COXB_REQ is high over a window that asks for it. -/
def State.windowRequests (s : State) : State :=
  if s.eFlag F.COX_B_CFG_en && s.eFlag F.COX_B_CFG_req_rx && !s.isShadow then
    { s with rs := { s.rs with coxbReq := true, coxbPri := false } }
  else s

theorem State.openWindow_eq {s : State} (rcpt : Bool) (p0 p1 : Int) (hserves : s.sServes = true) (hwin : s.rs.window = none)
    (htx : s.rs.tx = none) (hcal : s.fld F.SRX_STAT_cal = 0) :
    s.openWindow rcpt p0 p1 = ((s.windowLatch.windowBegun rcpt).lnaChosen ((s.windowLatch.windowBegun rcpt).lnaBypassed p0 p1)).windowRequests := by
  unfold State.openWindow
  rw [if_neg (by simp [hserves, hwin, htx, hcal])]
  show State.windowRequests (State.lnaChosen _ _) = _
  rfl

theorem State.fld_setRs (s : State) (r : Rs) (f : Fld) : State.fld { s with rs := r } f = s.fld f := rfl

theorem State.eFld_setRs (s : State) (r : Rs) (f : Fld) : State.eFld { s with rs := r } f = s.eFld f := rfl

theorem State.eFld_setFld (s : State) (g : Fld) (v : Nat) (f : Fld) : (s.setFld g v).eFld f = s.eFld f := rfl

theorem SameWords.setRs {s u : State} {l : List Nat} (h : SameWords s u l) (r : Rs) : SameWords s { u with rs := r } l := h

theorem State.windowBegun_fld (s : State) (rcpt : Bool) : let u := s.windowBegun rcpt
    u.fld F.SRX_STAT_rx_active = 1 ∧ u.fld F.SRX_STAT_frozen0 = 0 ∧ u.fld F.SRX_STAT_frozen1 = 0 ∧ u.fld F.SRX_STAT_step0 = 0 ∧
      u.fld F.SRX_STAT_step1 = 0 := by
  refine ⟨State.fld_setFld_eq _ (by decide) (by decide), ?_, ?_, ?_, ?_⟩
  all_goals simp (disch := decide) only [State.windowBegun, State.fld_setFld_ne, State.fld_setFld_eq]

theorem State.windowBegun_regsOnly (s : State) (rcpt : Bool) :
    RegsOnly { s with rs := { s.rs with window := some rcpt, demods := [] } } (s.windowBegun rcpt) [0x100000] :=
  (((((RegsOnly.refl _ _).setFld (by decide) 0).setFld (by decide) 0).setFld (by decide) 0).setFld (by decide) 0).setFld
    (by decide) 1

theorem State.windowBegun_leaves (s : State) (rcpt : Bool) : let u := s.windowBegun rcpt
    u.rs = { s.rs with window := some rcpt, demods := [] } ∧ { u with io := s.io, rs := s.rs, now := s.now } = s ∧
      (∀ f, u.eFld f = s.eFld f) ∧ SameWords s u [0x100000] := by
  obtain ⟨hparts, hio, hword⟩ := s.windowBegun_regsOnly rcpt
  generalize s.windowBegun rcpt = u at *
  have hback := congrArg (fun z : State => { z with rs := s.rs }) hparts
  have heff : u.io.eff = s.io.eff := (congrArg Io.eff hio :)
  refine ⟨(congrArg State.rs hparts :), hback, fun f => ?_, fun off _ hoff => hword off hoff⟩
  simp only [State.eFld, Io.eFld, Io.eWord, heff]

theorem State.lnaChosen_leaves (s : State) (byp : Bool) : let u := s.lnaChosen byp
    u.rs = { s.rs with lnaRx := byp } ∧ { u with io := s.io, rs := s.rs } = s ∧ (∀ f, u.eFld f = s.eFld f) ∧
      u.fld F.SRX_STAT_lna_byp = byp.toNat ∧ (∀ f : Fld, f.hi < 32 → f.hi < 6 ∨ 6 < f.lo → u.fld f = s.fld f) ∧
      ∀ l, 0x100000 ∈ l → SameWords s u l := by
  refine ⟨rfl, rfl, fun _ => rfl, State.fld_setFld_bool _ (by decide) (by decide), fun f hf hd => ?_,
    fun l hl => ((SameWords.refl s l).setRs _).setFld hl _⟩
  exact (State.fld_setFld_ne _ _ hf (.inr hd)).trans (State.fld_setRs _ _ _)

/-- What a request of the window changes is the request. -/
theorem State.windowRequests_io (s : State) : s.windowRequests.io = s.io ∧
    { s.windowRequests with rs := s.rs } = s ∧ s.windowRequests.rs.window = s.rs.window ∧
    s.windowRequests.rs.demods = s.rs.demods ∧ s.windowRequests.rs.lnaRx = s.rs.lnaRx := by
  unfold State.windowRequests
  split <;> exact ⟨rfl, rfl, rfl, rfl, rfl⟩

theorem State.windowRequests_coxb {s : State} (hen : s.eFlag F.COX_B_CFG_en = true) (hreq : s.eFlag F.COX_B_CFG_req_rx = true)
    (hshadow : s.isShadow = false) : s.windowRequests.rs.coxbReq = true ∧ s.windowRequests.rs.coxbPri = false := by
  rw [State.windowRequests, if_pos (by rw [hen, hreq, hshadow]; rfl)]
  exact ⟨rfl, rfl⟩

theorem State.lnaBypassed_cases (s : State) (p0 p1 : Int) :
    let ref (p : Int) : Int := if s.rs.lnaRx then p else p - (s.eFld F.SRX_AGC_CFG_ext_gain_db : Int)
    let th := s8 (s.eFld F.SRX_AGC_CFG_lna_thresh)
    (s.eFld F.SRX_AGC_CFG_lna_mode = 0 → s.lnaBypassed p0 p1 = false) ∧
    (s.eFld F.SRX_AGC_CFG_lna_mode = 2 → s.lnaBypassed p0 p1 = true) ∧
    (s.eFld F.SRX_AGC_CFG_lna_mode = 1 → (s.lnaBypassed p0 p1 = true ↔ th < ref p0 ∨ th < ref p1)) := by
  refine ⟨fun h => ?_, fun h => ?_, fun h => ?_⟩
  all_goals simp [State.lnaBypassed, h]

/-- What an opened window leaves. -/
theorem State.openWindow_leaves {s : State} (rcpt : Bool) (p0 p1 : Int) (hserves : s.sServes = true) (hwin : s.rs.window = none)
    (htx : s.rs.tx = none) (hcal : s.fld F.SRX_STAT_cal = 0) :
    ∃ v : State, s.openWindow rcpt p0 p1 = v.windowRequests ∧ v.rs.window = some rcpt ∧ v.rs.demods = [] ∧
      v.rs.lnaRx = s.windowLatch.lnaBypassed p0 p1 ∧ (∀ f, v.eFld f = s.windowLatch.eFld f) ∧ v.fld F.SRX_STAT_rx_active = 1 ∧
      v.fld F.SRX_STAT_frozen0 = 0 ∧ v.fld F.SRX_STAT_frozen1 = 0 ∧ v.fld F.SRX_STAT_step0 = 0 ∧ v.fld F.SRX_STAT_step1 = 0 ∧
      v.fld F.SRX_STAT_lna_byp = v.rs.lnaRx.toNat ∧ { v with io := s.io, rs := s.rs, now := s.now } = s ∧ SameWords s v [0x100000] := by
  have heq := State.openWindow_eq rcpt p0 p1 hserves hwin htx hcal
  obtain ⟨hactive, hfr0, hfr1, hst0, hst1⟩ := s.windowLatch.windowBegun_fld rcpt
  obtain ⟨hrs, hparts, heff, hwords⟩ := s.windowLatch.windowBegun_leaves rcpt
  have hbyp : (s.windowLatch.windowBegun rcpt).lnaBypassed p0 p1 = s.windowLatch.lnaBypassed p0 p1 := by
    simp only [State.lnaBypassed, heff, hrs]
  rw [hbyp] at heq
  generalize s.windowLatch.windowBegun rcpt = b at *
  obtain ⟨hrs', hparts', heff', hlna, hfld, hwords'⟩ := b.lnaChosen_leaves (s.windowLatch.lnaBypassed p0 p1)
  generalize b.lnaChosen (s.windowLatch.lnaBypassed p0 p1) = v at *
  have hlatch : SameWords s s.windowLatch [0x100000] := fun off _ _ => Io.latchRegs_word _ _ off
  refine ⟨v, heq, by rw [hrs', hrs], by rw [hrs', hrs], by rw [hrs'], fun f => (heff' f).trans (heff f), ?_, ?_, ?_, ?_, ?_,
    by rw [hlna, hrs'], ?_, fun off hhif hoff => ?_⟩
  · exact (hfld _ (by decide) (by decide)).trans hactive
  · exact (hfld _ (by decide) (by decide)).trans hfr0
  · exact (hfld _ (by decide) (by decide)).trans hfr1
  · exact (hfld _ (by decide) (by decide)).trans hst0
  · exact (hfld _ (by decide) (by decide)).trans hst1
  · have h1 := congrArg (fun z : State => { z with io := s.io, rs := s.rs, now := s.now }) hparts'
    have h2 := congrArg (fun z : State => { z with io := s.io, rs := s.rs, now := s.now }) hparts
    exact h1.trans h2
  · exact (hwords' _ (by simp) off hhif hoff).trans ((hwords off hhif hoff).trans (hlatch off hhif hoff))

/-! ### The close of a window (R166) -/

/-- `u` differs from `s` in the registers, and in Radio S by frames that it handed on. -/
structure HandsOn (s u : State) : Prop where
  parts : { u with io := s.io, rs := s.rs } = s
  rs : { u.rs with rx := s.rs.rx } = s.rs

theorem HandsOn.refl (s : State) : HandsOn s s := ⟨rfl, rfl⟩

theorem HandsOn.truncate {s u : State} (h : HandsOn s u) (p : Nat × DemodState) : HandsOn s (u.truncate p) := by
  obtain ⟨hparts, hrs⟩ := h
  unfold State.truncate
  split
  · exact ⟨hparts, hrs⟩
  · exact ⟨hparts, hrs⟩

theorem HandsOn.each {s u : State} (h : HandsOn s u) (l : List (Nat × DemodState)) : HandsOn s (u.each l State.truncate) := by
  induction l generalizing u with
  | nil => exact h
  | cons p l ih => exact ih (h.truncate p)

theorem State.stopDemods_handsOn (s : State) : ∃ d : State, HandsOn s d ∧ s.stopDemods = { d with rs := { d.rs with demods := [] } } ∧
    (s.rs.demods = [] → d = s) ∧ ∀ p, s.rs.demods = [p] → d = s.truncate p := by
  refine ⟨s.each s.rs.demods State.truncate, (HandsOn.refl s).each _, rfl, fun h => ?_, fun p h => ?_⟩
  · rw [h]; rfl
  · rw [h]; rfl

/-- Radio S after its window: no demodulator runs and nothing is asked of its neighbour. -/
def State.windowless (d : State) : State :=
  { d with rs := { d.rs with window := none, demods := [], coxbReq := false, coxbPri := false } }

/-- The registers that the close writes after the demodulators have stopped, and its grant. -/
theorem State.closeWindow_eq {s d : State} {r : Bool} (hwin : s.rs.window = some r)
    (hstop : s.stopDemods = { d with rs := { d.rs with demods := [] } }) (hpa : d.rs.paEn = false) (htx : d.rs.tx = none) :
    ∃ b : Bool, s.closeWindow = ((d.windowless.setFld F.SRX_STAT_frozen0 0).setFld F.SRX_STAT_frozen1 0).setFld
      F.COX_B_STAT_ext_gnt b.toNat := by
  let v : State := { (d.setFld F.SRX_STAT_frozen0 0).setFld F.SRX_STAT_frozen1 0 with
    rs := { d.rs with window := none, demods := [], coxbReq := false, coxbPri := false } }
  have hclose : s.closeWindow = v.coxbGrant := by
    unfold State.closeWindow
    rw [hwin, hstop]
    refine congrArg State.coxbGrant (if_neg ?_)
    show ¬ (d.rs.paEn || d.rs.tx.any (·.started)) = true
    rw [hpa, htx]
    decide
  exact ⟨_, hclose⟩

/-- What a closed window leaves. -/
theorem State.closeWindow_leaves {s : State} {r : Bool} (hwin : s.rs.window = some r) (hpa : s.rs.paEn = false)
    (htx : s.rs.tx = none) : ∃ d : State, HandsOn s d ∧ (s.rs.demods = [] → d = s) ∧ (∀ p, s.rs.demods = [p] → d = s.truncate p) ∧
      RegsOnly d.windowless s.closeWindow [0x100000, 0x440108] ∧ s.closeWindow.fld F.SRX_STAT_frozen0 = 0 ∧
      s.closeWindow.fld F.SRX_STAT_frozen1 = 0 := by
  obtain ⟨d, hon, hstop, hnone, hone⟩ := s.stopDemods_handsOn
  obtain ⟨b, heq⟩ := State.closeWindow_eq hwin hstop ((congrArg Rs.paEn hon.rs :).trans hpa) ((congrArg Rs.tx hon.rs :).trans htx)
  refine ⟨d, hon, hnone, hone, ?_, ?_, ?_⟩
  all_goals rw [heq]
  · exact (((RegsOnly.refl d.windowless _).setFld (by decide) _).setFld (by decide) _).setFld (by decide) _
  · simp (disch := decide) only [State.fld_setFld_ne, State.fld_setFld_eq]
  · simp (disch := decide) only [State.fld_setFld_ne, State.fld_setFld_eq]

/-- A frame that is cut off is handed on, without a PSDU, and counted. -/
theorem State.truncate_psdu (s : State) (j chain sfdEnd len fcs : Nat) (st cl : Bool) :
    let u := s.truncate (j, .psdu chain sfdEnd len fcs st cl)
    (∃ f, u.rs.rx = s.rs.rx ++ [f] ∧ f.truncated = true ∧ f.psdu = [] ∧ f.demod = j ∧ f.sfdEnd = sfdEnd) ∧
      u.fld F.SRX_RX_ERR_truncated = min (s.fld F.SRX_RX_ERR_truncated + 1) 65535 := by
  refine ⟨⟨_, rfl, rfl, rfl, rfl, rfl⟩, ?_⟩
  have hchain (v : State) : ((v.count F.SRX_RX_FRAMES_frames).count (if chain = 0 then F.SRX_DIV_STAT_chain0 else
      F.SRX_DIV_STAT_chain1)).fld F.SRX_RX_ERR_truncated = v.fld F.SRX_RX_ERR_truncated := by
    rw [State.fld_count_off _ _ _ _ (by split <;> decide), State.fld_count_off _ _ _ _ (by decide)]
  refine (State.fld_count_self _ F.SRX_RX_ERR_truncated 1 (by decide)).trans ?_
  exact congrArg (fun n => min (n + 1) 65535) (hchain _)

/-- Settles O34: what an opened and a closed window leave. -/
theorem receiveWindows : Obligations.ReceiveWindows := by
  intro t rcpt p0 p1 s
  refine ⟨fun hserves hwin htx hcal => ?opens, fun hwin hpa htx => ?closes, fun hwin => ?none⟩
  case opens =>
    obtain ⟨v, heq, hw, hd, hlna, heff, hactive, hfr0, hfr1, hst0, hst1, hbyp, hparts, hwords⟩ :=
      State.openWindow_leaves (s := s.at t) rcpt p0 p1 hserves hwin htx hcal
    obtain ⟨hio, hparts', hw', hd', hlna'⟩ := v.windowRequests_io
    have hmode := (s.at t).windowLatch_lnaMode
    have hcases := (s.at t).windowLatch.lnaBypassed_cases p0 p1
    have hcoxb := State.windowRequests_coxb (s := v)
    rw [← heq] at hio hparts' hw' hd' hlna' hcoxb
    generalize hu : (s.at t).openWindow rcpt p0 p1 = u at *
    have heff' (f : Fld) : u.eFld f = (s.at t).windowLatch.eFld f := (congrArg (·.eFld f) hio : u.eFld f = v.eFld f).trans (heff f)
    have hfld (f : Fld) : u.fld f = v.fld f := congrArg (·.fld f) hio
    have hstate : { u with io := s.io, rs := s.rs, now := s.now } = s := by
      have h1 := congrArg (fun z : State => { z with io := s.io, rs := s.rs, now := s.now }) hparts'
      have h2 := congrArg (fun z : State => { z with now := s.now }) hparts
      exact h1.trans h2
    refine ⟨u, run_eq_next (f := fun s => s.openWindow rcpt p0 p1) hu (congrArg State.pending hstate :), (heff' _).trans hmode,
      hw'.trans hw, hd'.trans hd, (hfld _).trans hactive, (hfld _).trans hfr0, (hfld _).trans hfr1, (hfld _).trans hst0,
      (hfld _).trans hst1, (hfld _).trans (hbyp.trans (by rw [hlna'])), ?_, fun hen hreq hshadow => ?_, hstate, fun off hhif hoff => ?_⟩
    · simp only [heff', hlna', hlna]
      exact hcases
    · have hflag (f : Fld) : v.eFlag f = u.eFlag f := congrArg (fun io : Io => io.eFld f != 0) hio.symm
      have hsh : v.isShadow = s.isShadow := congrArg (fun tw : Tw => tw.role == .shadow) (show v.tw = s.tw from (congrArg State.tw hparts :))
      exact hcoxb ((hflag _).trans hen) ((hflag _).trans hreq) (hsh.trans hshadow)
    · exact (congrArg (·.word off) hio : u.word off = v.word off).trans (hwords off hhif hoff)
  case closes =>
    obtain ⟨d, ⟨hparts, hrs⟩, hnone, hone, ⟨hregs, -, hword⟩, hfr0, hfr1⟩ := State.closeWindow_leaves (s := s.at t) hwin hpa htx
    generalize hu : (s.at t).closeWindow = u at *
    have hstate : { u with io := s.io, rs := s.rs, now := s.now } = s := by
      have h1 := congrArg (fun z : State => { z with io := s.io, rs := s.rs, now := s.now }) hregs
      have h2 := congrArg (fun z : State => { z with now := s.now }) hparts
      exact h1.trans h2
    have hurs : u.rs = d.windowless.rs := (congrArg State.rs hregs :)
    have hcount : u.fld F.SRX_RX_ERR_truncated = d.fld F.SRX_RX_ERR_truncated := congrArg _ (hword _ (by decide))
    refine ⟨u, run_eq_next (f := State.closeWindow) hu (congrArg State.pending hstate :), by rw [hurs]; rfl, by rw [hurs]; rfl, hfr0, hfr1,
      by rw [hurs]; rfl, by rw [hurs]; rfl, fun hd => ?_, fun j chain sfdEnd len fcs st cl hd => ?_, hstate⟩
    · obtain rfl := hnone hd
      exact ⟨by rw [hurs]; rfl, hcount⟩
    · obtain rfl := hone _ hd
      have htrunc := (s.at t).truncate_psdu j chain sfdEnd len fcs st cl
      rw [hurs, hcount]
      exact htrunc
  case none =>
    refine run_eq_next (f := State.closeWindow) ?_ rfl
    unfold State.closeWindow
    rw [show (s.at t).rs.window = none from hwin]
    rfl

end Sys2Proof.Machine
end

-- ==== Demodulators of Radio S (06_radio_s) ====
section
/-!
SUPPORT. A demodulator's steps from a preamble to a PSDU.
-/

namespace Sys2Proof.Machine

/-! ### Demodulators (R155, R157, R161 to R164) -/

/-- Demodulator `j` in state `d`. -/
def State.demod (s : State) (j : Nat) (d : DemodState) : State :=
  { s with rs := { s.rs with demods := Tbl.put s.rs.demods j d } }

/-- Demodulator `j` back to searching. -/
def State.demodGone (s : State) (j : Nat) : State := { s with rs := { s.rs with demods := Tbl.del s.rs.demods j } }

/-- The AGC field that a detection on a chain freezes. -/
def frozenFld (chain : Nat) : Fld := if chain = 0 then F.SRX_STAT_frozen0 else F.SRX_STAT_frozen1

/-- A preamble in an open window, with both chains in use. -/
theorem State.preamble_eq {s : State} {j chain : Nat} (hwin : s.rs.window ≠ none) (hch : s.demodChannel j ≠ none)
    (hprof : s.demodProfile j ≠ none) (hdiv : s.eFld F.SRX_DIV_CFG_div_mode = 0) : s.preamble j chain =
      match Tbl.get? s.rs.demods j with
      | none => (s.demod j (.preamble (decide (chain = 0)) (decide (chain = 1)) s.now)).setFld (frozenFld chain) 1
      | some (.preamble c0 c1 a) =>
        (s.demod j (.preamble (c0 || decide (chain = 0)) (c1 || decide (chain = 1)) a)).setFld (frozenFld chain) 1
      | some _ => s.setFld (frozenFld chain) 1 := by
  unfold State.preamble
  rw [if_neg (by simp [hwin, hch, hprof])]
  dsimp only
  rw [if_neg (by simp [hdiv])]
  rfl

theorem State.demod_setFld (s : State) (j : Nat) (d : DemodState) (f : Fld) (v : Nat) :
    ((s.demod j d).setFld f v).rs = { s.rs with demods := Tbl.put s.rs.demods j d } ∧
      { (s.demod j d).setFld f v with io := s.io, rs := s.rs } = s := ⟨rfl, rfl⟩

theorem State.diversity_eq {s : State} {j : Nat} {c0 c1 : Bool} {a : Nat} (snr0 snr1 : Int)
    (h : Tbl.get? s.rs.demods j = some (.preamble c0 c1 a)) : s.diversity j snr0 snr1 =
      s.demod j (.decided (if c0 && c1 then (if snr0 < snr1 then 1 else 0) else if c0 then 0 else 1) (c0 && c1) a) := by
  unfold State.diversity
  rw [h]
  rfl

theorem State.sfdTimeout_eq {s : State} {j : Nat} (h : (∃ c0 c1 a, Tbl.get? s.rs.demods j = some (.preamble c0 c1 a)) ∨
    ∃ c both a, Tbl.get? s.rs.demods j = some (.decided c both a)) : s.sfdTimeout j = s.demodGone j := by
  unfold State.sfdTimeout
  obtain ⟨_, _, _, h⟩ | ⟨_, _, _, h⟩ := h
  · rw [h]
    rfl
  · rw [h]
    rfl

theorem State.sfdFound_eq {s : State} {j c a : Nat} {both : Bool} (errs : Nat) (phr : Phr)
    (h : Tbl.get? s.rs.demods j = some (.decided c both a)) : s.sfdFound j errs phr =
      if s.eFld F.SRX_SFD_CFG_sfd_err < errs then s
      else if phr.modeSwitch || phr.len = 0 || decide (maxPsdu ((s.demodProfile j).getD 0) < phr.len) then
        (s.demodGone j).count F.SRX_RX_ERR_len_err
      else s.demod j (.psdu c s.now phr.len phr.fcsType.toNat false false) := by
  unfold State.sfdFound
  rw [h]
  rfl

/-- Settles O35: each step of a demodulator, from its state. -/
theorem demodulatorFollowsAFrame : Obligations.DemodulatorFollowsAFrame := by
  intro t j chain snr0 snr1 errs phr s moved gone
  have hzero : decide (chain.val = 0) = decide (chain = 0) := decide_eq_decide.mpr (by omega)
  have hone : decide (chain.val = 1) = decide (chain = 1) := decide_eq_decide.mpr (by omega)
  have hfrozen : frozenFld chain.val = if chain = 0 then F.SRX_STAT_frozen0 else F.SRX_STAT_frozen1 := by
    unfold frozenFld
    congr 1
    exact propext (by omega)
  have timeout (h : (∃ c0 c1 a, Tbl.get? s.rs.demods j = some (.preamble c0 c1 a)) ∨
      ∃ c both a, Tbl.get? s.rs.demods j = some (.decided c both a)) :
      ∃ u, exec (.sfdSearchTimeout t j) s = .next u ∧ gone u ∧ u.io = s.io :=
    ⟨_, run_eq_next (f := fun s => s.sfdTimeout j) (State.sfdTimeout_eq (s := s.at t) h) rfl, ⟨rfl, rfl⟩, rfl⟩
  refine ⟨fun hwin hch hprof hdiv => ⟨fun hget => ?first, fun c0 c1 a hget => ?again⟩,
    fun c0 c1 a hget => ⟨?decided, timeout (.inl ⟨c0, c1, a, hget⟩)⟩,
    fun c both a hget => ⟨fun herrs => ?errors, fun herrs => ⟨fun hbad => ?bad, fun hmode hpos hmax => ?psdu⟩,
      timeout (.inr ⟨c, both, a, hget⟩)⟩⟩
  case first =>
    have heq := State.preamble_eq (s := s.at t) (j := j) (chain := chain) hwin hch hprof hdiv
    rw [show Tbl.get? (s.at t).rs.demods j = none from hget, hzero, hone, hfrozen] at heq
    refine ⟨_, run_eq_next (f := fun s => s.preamble j chain) heq rfl, ⟨rfl, rfl⟩, State.fld_setFld_eq _ ?_ ?_⟩
    · split <;> decide
    · split <;> decide
  case again =>
    have heq := State.preamble_eq (s := s.at t) (j := j) (chain := chain) hwin hch hprof hdiv
    rw [show Tbl.get? (s.at t).rs.demods j = some (.preamble c0 c1 a) from hget] at heq
    dsimp only at heq
    rw [hzero, hone] at heq
    exact ⟨_, run_eq_next (f := fun s => s.preamble j chain) heq rfl, rfl, rfl⟩
  case decided =>
    have heq := State.diversity_eq (s := s.at t) snr0 snr1 hget
    refine ⟨_, run_eq_next (f := fun s => s.diversity j snr0 snr1) heq rfl, rfl, fun h0 h1 => ?_, fun h0 h1 => ?_, fun h0 => ?_⟩
    · subst h0 h1
      exact ⟨rfl, rfl⟩
    · subst h0 h1
      exact ⟨rfl, rfl⟩
    · subst h0
      exact ⟨rfl, rfl⟩
  all_goals have heq := State.sfdFound_eq (s := s.at t) errs phr hget
  case errors => exact run_eq_next (f := fun s => s.sfdFound j errs phr) (heq.trans (if_pos herrs)) rfl
  all_goals rw [if_neg (show ¬ (s.at t).eFld F.SRX_SFD_CFG_sfd_err < errs from Nat.not_lt.mpr herrs)] at heq
  case bad =>
    have hcond : (phr.modeSwitch || phr.len = 0 || decide (maxPsdu (((s.at t).demodProfile j).getD 0) < phr.len)) = true := by
      simp only [Bool.or_eq_true, decide_eq_true_eq, or_assoc]
      exact hbad
    exact ⟨_, run_eq_next (f := fun s => s.sfdFound j errs phr) (heq.trans (if_pos hcond)) rfl, ⟨rfl, rfl⟩,
      State.fld_count_self _ _ 1 (by decide)⟩
  case psdu =>
    have hcond : ¬ (phr.modeSwitch || phr.len = 0 || decide (maxPsdu (((s.at t).demodProfile j).getD 0) < phr.len)) = true := by
      simp only [hmode, Bool.false_or, Bool.or_eq_true, decide_eq_true_eq]
      exact not_or.mpr ⟨by omega, Nat.not_lt.mpr hmax⟩
    exact ⟨_, run_eq_next (f := fun s => s.sfdFound j errs phr) (heq.trans (if_neg hcond)) rfl, rfl, rfl, rfl⟩

end Sys2Proof.Machine
end

-- ==== Clips and deliveries of Radio S (06_radio_s) ====
section
/-!
SUPPORT. What a clip marks and what is handed to Courier S.
-/

namespace Sys2Proof.Machine

/-! ### Clips and deliveries (R158, R159, R165, R228) -/

/-- The AGC field of a step of a chain. -/
def stepFld (chain : Nat) : Fld := if chain = 0 then F.SRX_STAT_step0 else F.SRX_STAT_step1

theorem stepFld_props (c : Nat) : (stepFld c).off = 0x100000 ∧ (stepFld c).hi = (stepFld c).lo ∧ (stepFld c).hi < 32 ∧
    (frozenFld c).hi < (stepFld c).lo ∧ (frozenFld c).off = 0x100000 := by
  unfold stepFld frozenFld
  split <;> decide

/-- A step of a chain's gain: it is recorded and counted, and the demodulators on the chain are told. -/
def State.gainStep (s : State) (chain : Nat) (other : Bool) : State :=
  { (s.setFld (stepFld chain) 1).count F.SRX_AGC_EVT_steps with
    rs := { s.rs with demods := s.rs.demods.map fun p => (p.1, p.2.stepped chain other) } }

theorem State.gainStep_leaves (s : State) (chain : Nat) (other : Bool) : let u := s.gainStep chain other
    u.fld (stepFld chain) = 1 ∧ u.fld (frozenFld chain) = s.fld (frozenFld chain) ∧
      u.fld F.SRX_AGC_EVT_steps = min (s.fld F.SRX_AGC_EVT_steps + 1) 65535 ∧ { u with io := s.io, rs := s.rs } = s ∧
      ∀ k sfd len fcs a cl, (k, .psdu chain sfd len fcs a cl) ∈ s.rs.demods → (k, .psdu chain sfd len fcs true cl) ∈ u.rs.demods := by
  obtain ⟨hoff, hbit, hhi, hlo, hoff'⟩ := stepFld_props chain
  have hfld (f : Fld) : (s.gainStep chain other).fld f = ((s.setFld (stepFld chain) 1).count F.SRX_AGC_EVT_steps).fld f :=
    State.fld_setRs _ _ f
  have hevt : F.SRX_AGC_EVT_steps.off ≠ 0x100000 := by decide
  have hone : 1 < 2 ^ (stepFld chain).width := Nat.one_lt_two_pow (by unfold Fld.width; omega)
  refine ⟨(hfld _).trans ?_, (hfld _).trans ?_, (hfld _).trans ?_, rfl, fun k sfd len fcs a cl hmem => ?_⟩
  · rw [State.fld_count_off _ _ _ _ (by rw [hoff]; exact hevt)]
    exact State.fld_setFld_eq _ hhi hone
  · rw [State.fld_count_off _ _ _ _ (by rw [hoff']; exact hevt)]
    exact State.fld_setFld_ne _ _ (by omega) (.inr (.inl hlo))
  · rw [State.fld_count_self _ _ 1 (by decide), State.fld_setFld_off _ _ _ _ (by rw [hoff]; exact hevt.symm)]
    rfl
  · refine List.mem_map.mpr ⟨_, hmem, ?_⟩
    simp [DemodState.stepped]

/-- The first clip of a frozen chain takes a step, where that is allowed. -/
theorem State.adcClip_steps {s : State} {chain : Nat} (hwin : s.rs.window ≠ none) (hfr : s.flag (frozenFld chain) = true)
    (hen : s.eFlag F.SRX_AGC_CFG_step_en = true) (hst : s.flag (stepFld chain) = false) :
    ∃ other, s.adcClip chain = s.gainStep chain other := by
  refine ⟨s.flag (if chain = 0 then F.SRX_STAT_step1 else F.SRX_STAT_step0), (if_neg ?_).trans (if_pos ?_)⟩
  · show ¬ (s.rs.window.isNone || !s.flag (frozenFld chain)) = true
    simp [hwin, hfr]
  · show (s.eFlag F.SRX_AGC_CFG_step_en && !s.flag (stepFld chain)) = true
    rw [hen, hst]
    rfl

/-- Any other clip of a frozen chain marks its frames in progress. -/
theorem State.adcClip_marks {s : State} {chain : Nat} (hwin : s.rs.window ≠ none) (hfr : s.flag (frozenFld chain) = true)
    (h : s.eFlag F.SRX_AGC_CFG_step_en = false ∨ s.flag (stepFld chain) = true) : ∃ fresh, s.adcClip chain =
      { s.count F.SRX_AGC_EVT_clip_frames fresh with
        rs := { s.rs with demods := s.rs.demods.map fun p => (p.1, p.2.clipped chain) } } := by
  refine ⟨_, (if_neg ?_).trans (if_neg ?_)⟩
  · show ¬ (s.rs.window.isNone || !s.flag (frozenFld chain)) = true
    simp [hwin, hfr]
  · show ¬ (s.eFlag F.SRX_AGC_CFG_step_en && !s.flag (stepFld chain)) = true
    rcases h with h | h <;> simp [h]

/-- Without an open fault window nothing is injected. -/
theorem State.injectMesh_closed {s : State} (h : s.fltOpen = false) (path : Nat) (f : RxFrame) :
    s.injectMesh path f = (some f, s) := by
  simp [State.injectMesh, State.fltTest, h]

/-- A PSDU that ends is handed on with its record. -/
theorem State.deliverFrame_eq {s : State} {j c sfdEnd len fcs : Nat} {step clip : Bool} (psdu : Bytes) (rssi cfo : Int)
    (hget : Tbl.get? s.rs.demods j = some (.psdu c sfdEnd len fcs step clip)) (hclosed : s.fltOpen = false) :
    s.deliverFrame j psdu rssi cfo = (s.demodGone j).toCourier
      { ch := (s.demodChannel j).getD 0, demod := j, chain := c, prof := (s.demodProfile j).getD 0, sfdEnd := sfdEnd
        rssi := rssi, cfo := cfo, step := step, clip := clip, truncated := false, fcs := fcs
        psdu := Bytes.slice psdu 0 len, endAt := s.now } := by
  unfold State.deliverFrame
  rw [hget]
  dsimp only
  rw [State.injectMesh_closed (by exact hclosed)]
  rfl

/-- A frame of Radio L as it is handed on, with its clip and its step. -/
def State.handL (s : State) (x : LRx) (f : RxFrame) : State :=
  { (s.count F.LRX_ERR_clip x.clip.toNat).setFld F.LRX_STAT_step x.step.toNat with rs := { s.rs with rx := s.rs.rx ++ [f] } }

theorem State.fltOpen_count_setFld (s : State) (f g : Fld) (n v : Nat) (hf : f.off ≠ F.FLT_STAT_open.off)
    (hg : g.off ≠ F.FLT_STAT_open.off) : ((s.count f n).setFld g v).fltOpen = s.fltOpen := by
  have h : ((s.count f n).setFld g v).fld F.FLT_STAT_open = s.fld F.FLT_STAT_open := by
    rw [State.fld_setFld_off _ _ _ _ hg, State.fld_count_off _ _ _ _ hf]
  exact congrArg (· != 0) h

theorem SameWords.handL {s u : State} (h : SameWords s u [F.LRX_ERR_clip.off, 0x180000]) (x : LRx) (f : RxFrame) :
    SameWords s (u.handL x f) [F.LRX_ERR_clip.off, 0x180000] :=
  ((h.count (by decide) _).setFld (f := F.LRX_STAT_step) (by decide) _).setRs _

/-- A frame of Radio L within a window is handed on. -/
theorem State.deliverL_eq {s : State} {x : LRx} (psdu : Bytes) (rssi cfo : Int) (hserves : s.lServes x.ch = true)
    (hsfd : s.ml.inWindow x.sfdEnd = true) (hnow : s.ml.inWindow s.now = true) (hclosed : s.fltOpen = false) :
    ∃ f : RxFrame, f.onL = some x.ch.val ∧ f.sfdEnd = x.sfdEnd ∧ f.psdu = Bytes.slice psdu 0 (min 127 psdu.length) ∧
      s.deliverL x psdu rssi cfo = s.handL x f := by
  unfold State.deliverL
  rw [if_pos (by rw [hserves, hsfd, hnow]; rfl)]
  dsimp only
  rw [State.injectMesh_closed ((s.fltOpen_count_setFld _ _ _ _ (by decide) (by decide)).trans hclosed)]
  exact ⟨_, rfl, rfl, rfl, rfl⟩

/-- Settles O36: what a clip marks, and what is handed on. -/
theorem clipsAndDeliveries : Obligations.ClipsAndDeliveries := by
  intro t j chain x psdu rssi cfo s fr st
  have hfr : fr = frozenFld chain.val := by
    unfold frozenFld
    simp only [fr]
    congr 1
    exact propext (by omega)
  have hst : st = stepFld chain.val := by
    unfold stepFld
    simp only [st]
    congr 1
    exact propext (by omega)
  refine ⟨fun hwin hfrozen => ⟨fun hen hno => ?steps, fun hor => ?marks⟩,
    fun c sfdEnd len fcs step clip hget hclosed => ?frame, fun hclosed hserves hsfd hnow => ?onL⟩
  case steps =>
    rw [hfr] at hfrozen ⊢
    rw [hst] at hno ⊢
    obtain ⟨other, heq⟩ := State.adcClip_steps (s := s.at t) hwin hfrozen hen hno
    obtain ⟨hone, hfroz, hcount, hparts, hmem⟩ := (s.at t).gainStep_leaves chain.val other
    rw [← heq] at hone hfroz hcount hparts hmem
    refine ⟨_, run_eq_next (f := fun s => s.adcClip chain) rfl (congrArg State.pending hparts :), hone, hfroz, hcount, hmem, ?_⟩
    exact (congrArg (fun z : State => { z with now := s.now }) hparts :)
  case marks =>
    rw [hfr] at hfrozen
    rw [hst] at hor
    obtain ⟨fresh, heq⟩ := State.adcClip_marks (s := s.at t) hwin hfrozen hor
    refine ⟨_, run_eq_next (f := fun s => s.adcClip chain) heq rfl, fun k sfd len fcs a cl hmem => ?_, rfl⟩
    refine List.mem_map.mpr ⟨_, hmem, ?_⟩
    simp [DemodState.clipped]
  case frame =>
    have heq := State.deliverFrame_eq (s := s.at t) psdu rssi cfo hget hclosed
    refine ⟨_, run_eq_next (f := fun s => s.deliverFrame j psdu rssi cfo) heq rfl, rfl, ?_, rfl⟩
    refine (State.fld_count_off _ _ _ 1 (by split <;> decide)).trans ?_
    exact State.fld_count_self (s.at t) _ 1 (by decide)
  case onL =>
    obtain ⟨f, hon, hend, hpsdu, heq⟩ := State.deliverL_eq (s := s.at t) psdu rssi cfo hserves hsfd hnow hclosed
    exact ⟨_, run_eq_next (f := fun s => s.deliverL x psdu rssi cfo) heq rfl, ⟨f, rfl, hon, hend, hpsdu⟩, rfl,
      SameWords.handL (fun _ _ _ => rfl) x f⟩

end Sys2Proof.Machine
end

-- ==== Calibration and lock of Radio S (06_radio_s) ====
section
/-!
SUPPORT. A calibration from due to done, and the synthesiser's lock.
-/

namespace Sys2Proof.Machine

/-! ### Calibration and lock of Radio S (R176, R179 to R182) -/

theorem codeN_lt (w : Nat) (i : Int) : codeN w i < 2 ^ w := by
  have hpos : (0 : Int) < ((2 ^ w : Nat) : Int) := Int.natCast_pos.mpr (Nat.two_pow_pos w)
  have := Int.emod_lt_of_pos i hpos
  have := Int.emod_nonneg i (ne_of_gt hpos)
  unfold codeN
  omega

theorem State.flag_iff (s : State) (f : Fld) : s.flag f = true ↔ s.fld f ≠ 0 := bne_iff_ne

/-- The registers of a calibration of Radio S. -/
def srxCalRegs : List Nat := [0x100048, 0x100000]

/-- Radio S after a good calibration. -/
def State.calSucceeded (s : State) (full : Bool) (temp : Int) : State :=
  { s with
    nv := if full then { s.nv with calS := some (s.fld F.SRX_SYNTH_CFG_centre_khz, s.fld F.SRX_SYNTH_CFG_grid, temp) } else s.nv
    rs := { s.rs with
      calRetry := false, calAt := s.now, calTemp := temp, ready := some s.now, switching := false
      stopped := s.rs.stopped && !s.rs.switching } }

/-- A good calibration: its registers, and what Radio S holds of it. -/
theorem State.srxCalGood_leaves {s : State} (full : Bool) (temp : Int) (hon : s.rs.switching = false) :
    let u := s.srxCalGood full temp
    u.fld F.SRX_STAT_cal = 0 ∧ u.fld F.SRX_STAT_cal_valid = 1 ∧ u.fld F.SRX_STAT_lock = 1 ∧
      u.fld F.SRX_CAL_STAT_count = min (s.fld F.SRX_CAL_STAT_count + 1) 65535 ∧ u.fld F.SRX_CAL_STAT_last_temp = codeN 8 temp ∧
      u.fld F.SRX_CAL_STAT_last_type = (if full then 2 else 1) ∧ RegsOnly (s.calSucceeded full temp) u srxCalRegs := by
  let a := s.calSucceeded full temp
  let b := ((a.setFld F.SRX_STAT_cal 0).setFld F.SRX_STAT_cal_valid 1).setFld F.SRX_STAT_lock 1
  let v := ((b.count F.SRX_CAL_STAT_count).setFld F.SRX_CAL_STAT_last_temp (codeN 8 temp)).setFld F.SRX_CAL_STAT_last_type
    (if full then 2 else 1)
  have heq : s.srxCalGood full temp = v := if_neg (ne_true_of_eq_false hon)
  have hcount (f : Fld) (hf : f.off ≠ 0x100048) : v.fld f = b.fld f := by
    simp only [v]
    rw [State.fld_setFld_off _ _ _ _ hf.symm, State.fld_setFld_off _ _ _ _ hf.symm, State.fld_count_off _ _ _ _ hf.symm]
  dsimp only
  rw [heq]
  refine ⟨(hcount _ (by decide)).trans ?_, (hcount _ (by decide)).trans ?_, (hcount _ (by decide)).trans ?_, ?_, ?_, ?_, ?_⟩
  · simp (disch := decide) only [b, State.fld_setFld_ne, State.fld_setFld_eq]
  · simp (disch := decide) only [b, State.fld_setFld_ne, State.fld_setFld_eq]
  · simp (disch := decide) only [b, State.fld_setFld_eq]
  · simp (disch := decide) only [v, b, State.fld_setFld_ne, State.fld_count_self]
    rfl
  · simp only [v]
    rw [State.fld_setFld_ne _ _ (by decide) (by decide)]
    exact State.fld_setFld_eq _ (by decide) (codeN_lt 8 temp)
  · exact State.fld_setFld_eq _ (by decide) (by cases full <;> decide)
  · exact (((((RegsOnly.refl a srxCalRegs).setFld (by decide) _).setFld (by decide) _).setFld (by decide) _).count (by decide) _
      |>.setFld (by decide) _).setFld (by decide) _

/-- A first failure: the calibration is due again. -/
theorem State.srxCalBad_leaves {s : State} (full : Bool) (hretry : s.rs.calRetry = false) :
    let u := s.srxCalBad full
    u.fld F.SRX_STAT_cal = 0 ∧ u.fld F.SRX_CAL_STAT_failed = 1 ∧ u.fld F.SRX_CAL_STAT_pending = 1 ∧ u.rs.calRetry = true ∧
      RegsOnly { s with rs := u.rs } u srxCalRegs := by
  let a := (s.setFld F.SRX_STAT_cal 0).setFld F.SRX_CAL_STAT_failed 1
  let ready := if a.flag F.SRX_STAT_lock && a.flag F.SRX_STAT_cal_valid then some a.now else none
  let r : Rs := { s.rs with calRetry := true, ready := ready, calFull := s.rs.calFull || full }
  have heq : s.srxCalBad full = State.setFld { a with rs := r } F.SRX_CAL_STAT_pending 1 := if_neg (ne_true_of_eq_false hretry)
  have hregs : RegsOnly { s with rs := r } { a with rs := r } srxCalRegs :=
    ((RegsOnly.refl { s with rs := r } srxCalRegs).setFld (f := F.SRX_STAT_cal) (by decide) 0).setFld
      (f := F.SRX_CAL_STAT_failed) (by decide) 1
  dsimp only
  rw [heq]
  refine ⟨?_, ?_, State.fld_setFld_eq _ (by decide) (by decide), rfl, hregs.setFld (by decide) 1⟩
  all_goals
    rw [State.fld_setFld_ne _ _ (by decide) (by decide), State.fld_setRs]
    simp (disch := decide) only [a, State.fld_setFld_ne, State.fld_setFld_eq]

/-- A start from a pending calibration. -/
theorem State.srxCalStart_eq {s : State} (hpend : s.fld F.SRX_CAL_STAT_pending = 1) (hcal : s.fld F.SRX_STAT_cal = 0)
    (hserves : s.sServes = true) : s.srxCalStart true =
      (State.setFld { s with rs := { s.rs with calFull := false, ready := none } } F.SRX_CAL_STAT_pending 0).setFld F.SRX_STAT_cal
        (if s.rs.calFull || !s.storedValid then 2 else 1) := by
  have hflag : s.flag F.SRX_CAL_STAT_pending = true := (s.flag_iff _).mpr (by rw [hpend]; decide)
  exact if_neg (by simp [hflag, hcal, hserves])

/-- A temperature change of `temp_delta` makes a quick calibration due. -/
theorem State.srxCalDue_eq {s : State} {temp : Int} (hfull : s.pw.mode = .full) (hon : s.flag F.PWR_RADIO_PERS_s_eff = true)
    (hdelta : max 2 (s.fld F.SRX_CAL_CFG_temp_delta) ≤ (temp - s.rs.calTemp).natAbs) :
    s.srxCalDue temp = State.setFld { s with ck := { s.ck with temp := temp } } F.SRX_CAL_STAT_pending 1 := by
  let a : State := { s with ck := { s.ck with temp := temp } }
  have hby : decide (max 2 (a.fld F.SRX_CAL_CFG_temp_delta) ≤ (temp - a.rs.calTemp).natAbs) = true := decide_eq_true hdelta
  have hmode : (a.pw.mode == .full) = true := beq_iff_eq.mpr hfull
  have heq : s.srxCalDue temp = a.calPend false := by
    refine if_pos ?_
    show (a.flag F.PWR_RADIO_PERS_s_eff && (decide (max 2 (a.fld F.SRX_CAL_CFG_temp_delta) ≤ (temp - a.rs.calTemp).natAbs) &&
      (a.pw.mode == .doze || a.pw.mode == .dawn || a.pw.mode == .full) || _)) = true
    rw [show a.flag F.PWR_RADIO_PERS_s_eff = true from hon, hby, hmode]
    simp
  exact heq.trans a.calPend_quick

/-- Settles O37: a calibration from due to done, and the lock. -/
theorem calibrationAndLockOfS : Obligations.CalibrationAndLockOfS := by
  intro t temp s
  refine ⟨fun hfull hon hdelta => ?due, fun hpend hcal hserves hd => ?start, fun hu => ?noStart, fun hcal hsw => ?good,
    fun hcal hretry => ?bad, fun hon => ⟨?lost, fun hready hlock hcal htx => ?relocked⟩⟩
  case due =>
    exact ⟨_, run_eq_next (f := fun s => s.srxCalDue temp) (State.srxCalDue_eq (s := s.at t) hfull hon hdelta) rfl,
      State.fld_setFld_eq _ (by decide) (by decide), rfl, RegsOnly.setFld ⟨rfl, rfl, fun _ _ => rfl⟩ (by decide) _⟩
  case start =>
    have heq : (s.at t).srxCalStart ((s.at t).ml.isD (s.at t).ml.slot) = _ :=
      (congrArg (s.at t).srxCalStart hd).trans (State.srxCalStart_eq (s := s.at t) hpend hcal hserves)
    refine ⟨_, run_eq_next (f := fun s => s.srxCalStart (s.ml.isD s.ml.slot)) heq rfl, ?_, ?_, rfl,
      RegsOnly.setFld (RegsOnly.setFld ⟨rfl, rfl, fun _ _ => rfl⟩ (by decide) _) (by decide) _⟩
    · refine (State.fld_setFld_eq _ (by decide) ?_).trans rfl
      split <;> decide
    · rw [State.fld_setFld_off _ _ _ _ (by decide)]
      exact State.fld_setFld_eq _ (by decide) (by decide)
  case noStart =>
    have heq : (s.at t).srxCalStart ((s.at t).ml.isD (s.at t).ml.slot) = s.at t := by
      rw [show (s.at t).ml.isD (s.at t).ml.slot = false from hu]
      exact if_pos (by simp)
    exact run_eq_next (f := fun s => s.srxCalStart (s.ml.isD s.ml.slot)) heq rfl
  case good =>
    have heq : (s.at t).srxCalDone true temp = (s.at t).srxCalGood (s.fld F.SRX_STAT_cal == 2) temp :=
      (if_neg hcal).trans (if_pos rfl)
    obtain ⟨h0, hvalid, hlock, hcount, htemp, htype, hregs⟩ :=
      State.srxCalGood_leaves (s := s.at t) (s.fld F.SRX_STAT_cal == 2) temp hsw
    generalize (s.at t).srxCalGood (s.fld F.SRX_STAT_cal == 2) temp = u at *
    obtain ⟨hparts, hio, hword⟩ := hregs
    have hrs : u.rs = { s.rs with calRetry := false, calAt := max s.now t, calTemp := temp, ready := some (max s.now t) } := by
      refine (congrArg State.rs hparts :).trans ?_
      simp [State.calSucceeded, State.at, ← hsw]
    have hnv : u.nv = ((s.at t).calSucceeded (s.fld F.SRX_STAT_cal == 2) temp).nv := (congrArg State.nv hparts :)
    refine ⟨u, run_eq_next (f := fun s => s.srxCalDone true temp) heq (congrArg State.pending hparts :), h0, hvalid, hlock, hcount,
      htemp, htype.trans ?_, hrs, fun h2 => ?_, fun h2 => ?_, ?_, hio, hword⟩
    · simp only [beq_iff_eq]
    · rw [hnv, h2]
      rfl
    · rw [hnv, beq_eq_false_iff_ne.mpr h2]
      rfl
    · exact (congrArg (fun z : State => { z with now := s.now, rs := u.rs, nv := u.nv }) hparts :)
  case bad =>
    have heq : (s.at t).srxCalDone false temp = (s.at t).srxCalBad (s.fld F.SRX_STAT_cal == 2) :=
      (if_neg hcal).trans (if_neg Bool.false_ne_true)
    obtain ⟨h0, hfail, hpend, hre, hregs⟩ := State.srxCalBad_leaves (s := s.at t) (s.fld F.SRX_STAT_cal == 2) hretry
    exact ⟨_, run_eq_next (f := fun s => s.srxCalDone false temp) heq (congrArg State.pending hregs.1 :), h0, hfail, hpend, hre,
      hregs.setNow s.now⟩
  case lost =>
    have heq : (s.at t).synthLost = State.setFld { s.at t with rs := { s.rs with ready := none } } F.SRX_STAT_lock 0 := if_pos hon
    exact ⟨_, run_eq_next heq rfl, State.fld_setFld_eq _ (by decide) (by decide), rfl,
      RegsOnly.setFld ⟨rfl, rfl, fun _ _ => rfl⟩ (by decide) _⟩
  case relocked =>
    let v : State := State.setFld { s.at t with rs := { s.rs with ready := some (max s.now t) } } F.SRX_STAT_lock 1
    have hdecide : v.txDecide = v := by
      unfold State.txDecide
      rw [show v.rs.tx = none from htx]
    have hnolock : (s.at t).flag F.SRX_STAT_lock = false := bne_eq_false_iff_eq.mpr hlock
    have heq : (s.at t).relockDone true = v := by
      refine (if_neg ?_).trans ((if_pos rfl).trans hdecide)
      rw [hnolock, show (s.at t).rs.ready = none from hready, show (s.at t).flag F.PWR_RADIO_PERS_s_eff = true from hon,
        show (s.at t).fld F.SRX_STAT_cal = 0 from hcal]
      decide
    exact ⟨_, run_eq_next (f := fun s => s.relockDone true) heq rfl, State.fld_setFld_eq _ (by decide) (by decide), rfl,
      RegsOnly.setFld ⟨rfl, rfl, fun _ _ => rfl⟩ (by decide) _⟩

end Sys2Proof.Machine
end

-- ==== Unsent receipts (06_radio_s, 07_mesh_link) ====
section
/-!
SUPPORT. Counterexamples to three statements of Radio S's transmissions: a receipt that is not sent.
-/

namespace Sys2Proof.Machine

/-! ### A receipt that is not sent moves its node's connection

The link layer notes that a node found no receipt in its U cell (R219), so a request that ends with a receipt unsent
changes the connection table. -/

/-- A receipt of an ordinary length, to node 5. -/
def lostReceipt : Carrier :=
  { ch := 0, prof := 0, preamble := 32, receipt := true, psdu := List.replicate 12 0, what := .receipt 5 false }

/-- A request for it alone. -/
def receiptJob (eff : Option Nat) (started : Bool) : TxJob :=
  { req := { start := 0, deadline := 0, endLimit := 0, cca := false, burst := false, carriers := [lostReceipt] }
    accepted := 0, eff := eff, started := started }

/-- Node 5's U cell is the slot under way, and a request waits. -/
def receiptWaits (j : TxJob) : State :=
  { State.reset with
    ml := { conns := [(0, { addr := 5, cur := some (0, 0)
                            par := { map := 1, base := 0, inc := 0, interval := 4, latency := 0, timeout := 0, anchor := 0, ctr := 0 } })] }
    rs := { tx := some j } }

/-- Whether node 5 is taken to have found no receipt. -/
def nodeListens (s : State) : Bool := s.ml.conns.any fun p => p.2.pendSent

/-- A step after which node 5 listens leaves the connections changed. -/
theorem nodeListens_ne {o : Host.Outcome State Fault Refusal} {j : TxJob}
    (h : (match o with | .next u => nodeListens u | _ => false) = true) :
    ¬ ∃ u, o = .next u ∧ { u with io := (receiptWaits j).io, rs := (receiptWaits j).rs, qm := (receiptWaits j).qm
                                  now := (receiptWaits j).now } = receiptWaits j := by
  rintro ⟨u, rfl, hs⟩
  have hml : u.ml = (receiptWaits j).ml := (congrArg State.ml hs :)
  have hno : nodeListens u = nodeListens (receiptWaits j) := congrArg (fun m : Ml => m.conns.any fun p => p.2.pendSent) hml
  exact Bool.false_ne_true (hno.symm.trans h)

theorem exec_txDecisionDeadline_receipt : (match exec (.txDecisionDeadline 0) (receiptWaits (receiptJob none false)) with
    | .next u => nodeListens u | _ => false) = true := by decide +kernel

theorem exec_rxToTxTurnaround_receipt : (match exec (.rxToTxTurnaround 0 [] false) (receiptWaits (receiptJob (some 0) false)) with
    | .next u => nodeListens u | _ => false) = true := by decide +kernel

theorem exec_txCut_receipt : (match exec (.txCut 0) (receiptWaits (receiptJob (some 0) true)) with
    | .next u => nodeListens u | _ => false) = true := by decide +kernel

/-- Refutes O38: a request for a receipt that completes LATE changes the connection of the receipt's node. -/
theorem not_transmitRequestsAreDecided : ¬ Obligations.TransmitRequestsAreDecided := by
  intro h
  obtain ⟨u, hu, -, -, -, hs⟩ := ((h 0 (receiptJob none false).req (receiptWaits (receiptJob none false))).2 (receiptJob none false)
    rfl rfl).1 (by decide)
  exact nodeListens_ne exec_txDecisionDeadline_receipt ⟨u, hu, hs⟩

/-- Refutes O39: a receipt that is discarded, as the outputs are withheld, changes the connection of its node. -/
theorem not_turnaroundSendsOrRefuses : ¬ Obligations.TurnaroundSendsOrRefuses := by
  intro h
  obtain ⟨-, hwithheld, -⟩ := h 0 0 (receiptJob (some 0) false) [] false (receiptWaits (receiptJob (some 0) false)) rfl rfl rfl
    (by decide) rfl (by decide)
  obtain ⟨u, hu, -, -, -, hs⟩ := hwithheld rfl
  exact nodeListens_ne exec_rxToTxTurnaround_receipt ⟨u, hu, hs⟩

/-- Refutes O40: a receipt that is cut changes the connection of its node. -/
theorem not_transmissionsEndOrAreCut : ¬ Obligations.TransmissionsEndOrAreCut := by
  intro h
  obtain ⟨-, -, hcut⟩ := h 0 0 (receiptJob (some 0) true) (receiptWaits (receiptJob (some 0) true)) rfl rfl rfl
  obtain ⟨u, hu, -, -, -, hs⟩ := hcut rfl
  exact nodeListens_ne exec_txCut_receipt ⟨u, hu, hs⟩

end Sys2Proof.Machine
end

-- ==== Coexistence (06_radio_s, 11_radios_l_h) ====
section
/-!
SUPPORT. The level of a grant, and what is left of carriers that are not sent.
-/

namespace Sys2Proof.Machine

/-! ### Coexistence requests (R187 to R189, R335 to R337) -/

theorem State.flag_of_fld {s u : State} {f : Fld} (h : u.fld f = s.fld f) : u.flag f = s.flag f := congrArg (· != 0) h

/-- Whether Radio S serves does not depend on the coexistence registers. -/
theorem State.sServes_setFld (s : State) (f : Fld) (v : Nat) (h : 0x440000 ≤ f.off) : (s.setFld f v).sServes = s.sServes := by
  have hflag (g : Fld) (hg : g.off < 0x440000) : (s.setFld f v).flag g = s.flag g :=
    State.flag_of_fld (State.fld_setFld_off _ _ _ _ (by omega))
  simp only [State.sServes, State.pllA, hflag _ (show F.PWR_RADIO_PERS_s_eff.off < 0x440000 by decide),
    hflag _ (show F.CLK_STAT_a_lock.off < 0x440000 by decide), hflag _ (show F.TPL_STAT_dawn_active.off < 0x440000 by decide)]
  rfl

/-- Nor does whether Radio L serves. -/
theorem State.lhServes_setFld (s : State) (f : Fld) (v : Nat) (h : 0x440000 ≤ f.off) :
    (s.setFld f v).lhServes false = s.lhServes false := by
  have hfld (g : Fld) (hg : g.off < 0x440000) : (s.setFld f v).fld g = s.fld g := State.fld_setFld_off _ _ _ _ (by omega)
  simp only [State.lhServes, State.calBusy, hfld (radioEff false) (by decide), hfld (F.LRX_STAT_cal.on false) (by decide)]
  rfl

/-- The level that `COXB_EXT_GNT` takes. -/
def State.coxbLevel (s : State) : Bool :=
  let req := s.flag F.COX_B_STAT_ext_req
  let lead := usNs (clamp 50 1000 (s.eFld F.COX_B_TIME_preempt_lead))
  let busy := match s.rs.tx with
    | some j => j.started || (match j.eff with
        | some e => decide (e ≤ s.now + usNs 96 + lead)
        | none => decide (j.req.start ≤ s.now + usNs 96 + lead))
    | none => s.rs.paEn
  let deny := s.eFlag F.COX_B_CFG_ext_rx_deny && s.rs.window.isSome
  if s.isShadow then false else if !s.eFlag F.COX_B_CFG_ext_en || !s.sServes then req
  else req && (s.flag F.COX_B_STAT_ext_gnt || (!busy && !deny))

theorem State.coxbGrant_level (s : State) : s.coxbGrant = s.setFld F.COX_B_STAT_ext_gnt s.coxbLevel.toNat := rfl

/-- The level that `COXA_EXT_GNT` takes. -/
def State.coxaLevel (s : State) : Bool :=
  if s.isShadow || !s.flag F.COX_A_STAT_ext_req then false
  else if !s.eFlag F.COX_A_CFG_ext_en || !s.lhServes false then true
  else s.flag F.COX_A_STAT_ext_gnt ||
    (s.lh.l.tx.isNone && s.lh.l.queue.all (fun p => !p.granted && !p.resp) && !s.meshSoon)

theorem State.coxaGrant_level (s : State) : s.coxaGrant = s.setFld F.COX_A_STAT_ext_gnt s.coxaLevel.toNat := rfl

/-- A request and the grant that follows it: two fields of one register. -/
theorem State.request_leaves (s : State) (t : Nat) {r g : Fld} {off : Nat} (hr : r.off = off) (hg : g.off = off) (hbit : r.hi = r.lo)
    (hbit' : g.hi = g.lo) (hhi : r.hi < 32) (hhi' : g.hi < 32) (hne : r.hi < g.lo ∨ g.hi < r.lo) (level grant : Bool) :
    let u := ((s.at t).setFld r level.toNat).setFld g grant.toNat
    u.fld r = level.toNat ∧ u.fld g = grant.toNat ∧ RegsOnly s u [off] := by
  refine ⟨?_, State.fld_setFld_bool _ hhi' (by omega), ((RegsOnly.at s t _).setFld (by simp [hr]) _).setFld (by simp [hg]) _⟩
  rw [State.fld_setFld_ne _ _ hhi (.inr hne)]
  exact State.fld_setFld_bool _ hhi (by omega)

/-- The requests of the neighbour of S, and of that of L. -/
theorem State.coxbReq_leaves (s : State) (t : Nat) (level : Bool) : let u := (s.at t).coxbReq level
    u.fld F.COX_B_STAT_ext_req = level.toNat ∧
      u.fld F.COX_B_STAT_ext_gnt = ((s.at t).setFld F.COX_B_STAT_ext_req level.toNat).coxbLevel.toNat ∧ RegsOnly s u [0x440108] := by
  have heq : (s.at t).coxbReq level = _ := State.coxbGrant_level ((s.at t).setFld F.COX_B_STAT_ext_req level.toNat)
  generalize ((s.at t).setFld F.COX_B_STAT_ext_req level.toNat).coxbLevel = grant at *
  dsimp only
  rw [heq]
  exact State.request_leaves s t (r := F.COX_B_STAT_ext_req) (g := F.COX_B_STAT_ext_gnt) (off := 0x440108) rfl rfl rfl rfl (by decide) (by decide) (by decide) level grant

theorem State.coxaReq_leaves (s : State) (t : Nat) (level : Bool) : let u := (s.at t).coxaReq level
    u.fld F.COX_A_STAT_ext_req = level.toNat ∧
      u.fld F.COX_A_STAT_ext_gnt = ((s.at t).setFld F.COX_A_STAT_ext_req level.toNat).coxaLevel.toNat ∧ RegsOnly s u [0x440008] := by
  have heq : (s.at t).coxaReq level = _ := State.coxaGrant_level ((s.at t).setFld F.COX_A_STAT_ext_req level.toNat)
  generalize ((s.at t).setFld F.COX_A_STAT_ext_req level.toNat).coxaLevel = grant at *
  dsimp only
  rw [heq]
  exact State.request_leaves s t (r := F.COX_A_STAT_ext_req) (g := F.COX_A_STAT_ext_gnt) (off := 0x440008) rfl rfl rfl rfl (by decide) (by decide) (by decide) level grant

theorem State.flag_setFld_bool (s : State) {f : Fld} {b : Bool} (h : f.hi < 32) (hlo : f.lo ≤ f.hi) :
    (s.setFld f b.toNat).flag f = b := by
  show ((s.setFld f b.toNat).fld f != 0) = b
  rw [State.fld_setFld_bool s h hlo]
  cases b <;> rfl

/-- Without a request nothing is granted. -/
theorem State.coxbLevel_idle (s : State) : (s.setFld F.COX_B_STAT_ext_req 0).coxbLevel = false := by
  have hreq := s.flag_setFld_bool (f := F.COX_B_STAT_ext_req) (b := false) (by decide) (by decide)
  simp only [State.coxbLevel]
  rw [show (s.setFld F.COX_B_STAT_ext_req 0).flag F.COX_B_STAT_ext_req = false from hreq]
  simp

theorem State.coxaLevel_idle (s : State) : (s.setFld F.COX_A_STAT_ext_req 0).coxaLevel = false := by
  have hreq := s.flag_setFld_bool (f := F.COX_A_STAT_ext_req) (b := false) (by decide) (by decide)
  simp only [State.coxaLevel]
  rw [show (s.setFld F.COX_A_STAT_ext_req 0).flag F.COX_A_STAT_ext_req = false from hreq]
  simp

section
variable {s : State} (hshadow : s.isShadow = false)
include hshadow

/-- A request to S's neighbour that S does not manage is granted. -/
theorem State.coxbLevel_unmanaged (hen : s.eFlag F.COX_B_CFG_ext_en = false) : (s.setFld F.COX_B_STAT_ext_req 1).coxbLevel = true := by
  have hreq := s.flag_setFld_bool (f := F.COX_B_STAT_ext_req) (b := true) (by decide) (by decide)
  simp only [State.coxbLevel]
  rw [show (s.setFld F.COX_B_STAT_ext_req 1).flag F.COX_B_STAT_ext_req = true from hreq,
    show (s.setFld F.COX_B_STAT_ext_req 1).isShadow = false from hshadow,
    show (s.setFld F.COX_B_STAT_ext_req 1).eFlag F.COX_B_CFG_ext_en = false from hen]
  simp

/-- A request that S manages is granted by what S does. -/
theorem State.coxbLevel_managed (hen : s.eFlag F.COX_B_CFG_ext_en = true) (hserves : s.sServes = true) :
    (s.rs.tx = none → s.rs.paEn = false → (s.rs.window = none ∨ s.eFlag F.COX_B_CFG_ext_rx_deny = false) →
      (s.setFld F.COX_B_STAT_ext_req 1).coxbLevel = true) ∧
    (∀ j, s.rs.tx = some j → j.started = true → s.fld F.COX_B_STAT_ext_gnt = 0 →
      (s.setFld F.COX_B_STAT_ext_req 1).coxbLevel = false) := by
  have hreq := s.flag_setFld_bool (f := F.COX_B_STAT_ext_req) (b := true) (by decide) (by decide)
  have hgnt : (s.setFld F.COX_B_STAT_ext_req 1).flag F.COX_B_STAT_ext_gnt = s.flag F.COX_B_STAT_ext_gnt :=
    State.flag_of_fld (State.fld_setFld_ne _ _ (by decide) (by decide))
  have hsv := s.sServes_setFld F.COX_B_STAT_ext_req 1 (by decide)
  simp only [State.coxbLevel]
  rw [show (s.setFld F.COX_B_STAT_ext_req 1).flag F.COX_B_STAT_ext_req = true from hreq, hgnt, hsv, hserves,
    show (s.setFld F.COX_B_STAT_ext_req 1).isShadow = false from hshadow,
    show (s.setFld F.COX_B_STAT_ext_req 1).eFlag F.COX_B_CFG_ext_en = true from hen,
    show (s.setFld F.COX_B_STAT_ext_req 1).rs = s.rs from rfl,
    show (s.setFld F.COX_B_STAT_ext_req 1).eFlag F.COX_B_CFG_ext_rx_deny = s.eFlag F.COX_B_CFG_ext_rx_deny from rfl]
  refine ⟨fun htx hpa hdeny => ?_, fun j htx hst hno => ?_⟩
  · rcases hdeny with h | h <;> simp [htx, hpa, h]
  · have hno' : s.flag F.COX_B_STAT_ext_gnt = false := bne_eq_false_iff_eq.mpr hno
    simp [htx, hst, hno']

theorem State.coxaLevel_unmanaged (hen : s.eFlag F.COX_A_CFG_ext_en = false) : (s.setFld F.COX_A_STAT_ext_req 1).coxaLevel = true := by
  have hreq := s.flag_setFld_bool (f := F.COX_A_STAT_ext_req) (b := true) (by decide) (by decide)
  simp only [State.coxaLevel]
  rw [show (s.setFld F.COX_A_STAT_ext_req 1).flag F.COX_A_STAT_ext_req = true from hreq,
    show (s.setFld F.COX_A_STAT_ext_req 1).isShadow = false from hshadow,
    show (s.setFld F.COX_A_STAT_ext_req 1).eFlag F.COX_A_CFG_ext_en = false from hen]
  simp

theorem State.coxaLevel_managed (hen : s.eFlag F.COX_A_CFG_ext_en = true) (hserves : s.lhServes false = true)
    (hno : s.fld F.COX_A_STAT_ext_gnt = 0) :
    (s.lh.l.tx ≠ none → (s.setFld F.COX_A_STAT_ext_req 1).coxaLevel = false) ∧
    (s.lh.l.tx = none → s.lh.l.queue = [] → s.fld F.PWR_RADIO_PERS_l_eff < 2 →
      (s.setFld F.COX_A_STAT_ext_req 1).coxaLevel = true) := by
  have hreq := s.flag_setFld_bool (f := F.COX_A_STAT_ext_req) (b := true) (by decide) (by decide)
  have hgnt : (s.setFld F.COX_A_STAT_ext_req 1).flag F.COX_A_STAT_ext_gnt = false :=
    bne_eq_false_iff_eq.mpr ((State.fld_setFld_ne _ _ (by decide) (by decide)).trans hno)
  have hsv := s.lhServes_setFld F.COX_A_STAT_ext_req 1 (by decide)
  simp only [State.coxaLevel]
  rw [show (s.setFld F.COX_A_STAT_ext_req 1).flag F.COX_A_STAT_ext_req = true from hreq, hgnt, hsv, hserves,
    show (s.setFld F.COX_A_STAT_ext_req 1).isShadow = false from hshadow,
    show (s.setFld F.COX_A_STAT_ext_req 1).eFlag F.COX_A_CFG_ext_en = true from hen,
    show (s.setFld F.COX_A_STAT_ext_req 1).lh = s.lh from rfl]
  refine ⟨fun htx => ?_, fun htx hq hl => ?_⟩
  · simp [htx]
  · have hsoon : (s.setFld F.COX_A_STAT_ext_req 1).meshSoon = false := by
      have hl' : (s.setFld F.COX_A_STAT_ext_req 1).fld F.PWR_RADIO_PERS_l_eff = s.fld F.PWR_RADIO_PERS_l_eff :=
        State.fld_setFld_off _ _ _ _ (by decide)
      simp only [State.meshSoon, hl', decide_eq_false (Nat.not_le.mpr hl), Bool.false_and]
    simp [htx, hq, hsoon]

end


/-! ### Carriers that are not sent -/

/-- What no round of a loop changes, the loop leaves. -/
theorem State.each_const {α β : Type} (g : State → β) {f : State → α → State} (h : ∀ s a, g (f s a) = g s) (l : List α) (s : State) :
    g (s.each l f) = g s := by
  induction l generalizing s with
  | nil => rfl
  | cons a as ih => exact (ih _).trans (h s a)

/-- What a carrier that is not sent leaves: the radios, and every register but a counter. -/
theorem State.linkUnsent_leaves (s : State) (c : Carrier) : let u := s.linkUnsent c
    u.rs = s.rs ∧ u.lh = s.lh ∧ u.pending = s.pending ∧ u.qm = s.qm ∧ u.io.out = s.io.out ∧
      ∀ off, off ≠ F.MSH_DEFER_CNT_lost.off → u.word off = s.word off := by
  have hno (a : Nat) : let u := s.noReceipt a
      u.rs = s.rs ∧ u.lh = s.lh ∧ u.pending = s.pending ∧ u.qm = s.qm ∧ u.io = s.io := by
    dsimp only
    unfold State.noReceipt
    split
    · split <;> exact ⟨rfl, rfl, rfl, rfl, rfl⟩
    · exact ⟨rfl, rfl, rfl, rfl, rfl⟩
  dsimp only
  unfold State.linkUnsent
  split
  · rename_i a d _
    obtain ⟨hrs, hlh, hp, hqm, hio⟩ := hno a
    have hw (off : Nat) : (s.noReceipt a).word off = s.word off := congrArg (·.word off) hio
    generalize s.noReceipt a = u at *
    dsimp only
    split
    · exact ⟨hrs, hlh, hp, hqm, (congrArg Io.out hio : u.io.out = s.io.out), fun off hoff => (State.word_count_off _ _ 1 (Ne.symm hoff)).trans (hw off)⟩
    · exact ⟨hrs, hlh, hp, hqm, congrArg Io.out hio, fun off _ => hw off⟩
  · exact ⟨rfl, rfl, rfl, rfl, rfl, fun _ _ => rfl⟩

theorem State.unsent_leaves (s : State) (cs : List Carrier) : let u := s.each cs State.linkUnsent
    u.rs = s.rs ∧ u.lh = s.lh ∧ u.pending = s.pending ∧ u.qm = s.qm ∧ u.io.out = s.io.out ∧
      ∀ off, off ≠ F.MSH_DEFER_CNT_lost.off → u.word off = s.word off := by
  refine ⟨State.each_const State.rs (fun s c => ?_) cs s, State.each_const State.lh (fun s c => ?_) cs s,
    State.each_const State.pending (fun s c => ?_) cs s, State.each_const State.qm (fun s c => ?_) cs s,
    State.each_const (fun s => s.io.out) (fun s c => ?_) cs s, fun off hoff => State.each_const (·.word off) (fun s c => ?_) cs s⟩
  all_goals obtain ⟨hrs, hlh, hp, hqm, hout, hw⟩ := s.linkUnsent_leaves c
  · exact hrs
  · exact hlh
  · exact hp
  · exact hqm
  · exact hout
  · exact hw off hoff

/-- Only the buckets change with a refund. -/
theorem State.airRefund_leaves (s : State) (a b : Nat → Nat) : { s.airRefund a b with qm := s.qm } = s := by
  have hset (z : State) (k : Nat) (v : Int) : { z.setAir k v with qm := s.qm } = { z with qm := s.qm } := rfl
  exact State.each_const (fun z : State => { z with qm := s.qm }) (fun z k => hset z k _) (List.range 8) s

/-- A request that completes LATE is gone from Radio S. -/
theorem State.txLate_rs (s : State) (j : TxJob) :
    (s.txLate j).rs = { s.rs with tx := none, outcome := stLATE } ∧ (s.txLate j).pending = s.pending := by
  have hair := s.airRefund_leaves (s.io.charge j.req.carriers) (s.io.charge [])
  unfold State.txLate State.txFinish
  generalize s.airRefund (s.io.charge j.req.carriers) (s.io.charge []) = a at *
  have hrs : a.rs = s.rs := (congrArg State.rs hair :)
  have hp : a.pending = s.pending := (congrArg State.pending hair :)
  dsimp only
  obtain ⟨hurs, -, hup, -⟩ := State.unsent_leaves { a with rs := { a.rs with tx := none, outcome := stLATE } }
    (j.req.carriers.filter fun c => !([] : List Carrier).contains c)
  exact ⟨hurs.trans (by rw [hrs]), hup.trans hp⟩

/-- Mesh carriers that are late leave nothing waiting. -/
theorem State.meshLate_leaves (s : State) : s.meshLate.lh = { s.lh with mesh := none } ∧ s.meshLate.pending = s.pending ∧
    s.meshLate.io.out = s.io.out ∧ ∀ off, off ≠ F.MSH_DEFER_CNT_lost.off → s.meshLate.word off = s.word off := by
  unfold State.meshLate
  split
  next h => exact ⟨by rw [← h], rfl, rfl, fun _ _ => rfl⟩
  next cs h =>
    obtain ⟨-, hlh, hp, -, hout, hw⟩ := State.unsent_leaves { s with lh := { s.lh with mesh := none } } cs
    exact ⟨hlh, hp, hout, hw⟩

theorem State.coxbPreempt_due {s : State} {j : TxJob} {e : Nat} (hshadow : s.isShadow = false) (htx : s.rs.tx = some j)
    (heff : j.eff = some e) (hst : j.started = false) (hgnt : s.flag F.COX_B_STAT_ext_gnt = true)
    (hen : s.eFlag F.COX_B_CFG_ext_en = true)
    (hdue : e ≤ s.now + 96000 + 1000 * clamp 50 1000 (s.eFld F.COX_B_TIME_preempt_lead)) :
    s.coxbPreempt = if s.eFlag F.COX_B_CFG_ext_preempt then
      (s.setFld F.COX_B_STAT_ext_gnt 0).count F.COX_B_STAT_preempt else s.txLate j := by
  unfold State.coxbPreempt
  rw [htx]
  dsimp only
  rw [heff]
  dsimp only
  refine if_neg ?_
  have hlead : ¬ s.now + usNs 96 + usNs (clamp 50 1000 (s.eFld F.COX_B_TIME_preempt_lead)) < e := by
    unfold usNs
    omega
  simp [hst, hgnt, hen, hshadow, hlead]

/-- The configuration of COXA is in effect once its registers are latched. -/
theorem State.coxaRegs_eFlag (s : State) {f : Fld} (hoff : f.off = 0x440000) (hl : f.latched = true) :
    (s.latchRegs coxaRegs).eFlag f = s.flag f := by
  have h : ((s.io.latchReg 0x440000).latchReg 0x440004).eFld f = s.io.fld f := by
    rw [Io.eFld_latchReg_ne _ (by rw [hoff]; decide), ← hoff, Io.eFld_latchReg_self _ hl]
  exact congrArg (· != 0) h

theorem State.latchRegs_fld (s : State) (l : List Nat) (f : Fld) : (s.latchRegs l).fld f = s.fld f :=
  congrArg f.of (Io.latchRegs_word s.io l f.off)

theorem State.lhServes_latchRegs (s : State) (l : List Nat) (h : Bool) : (s.latchRegs l).lhServes h = s.lhServes h := by
  simp only [State.lhServes, State.calBusy, State.latchRegs_fld]
  rfl

theorem State.coxaPreempt_due {s : State} (hshadow : s.isShadow = false) (hserves : s.lhServes false = true)
    (hgnt : s.flag F.COX_A_STAT_ext_gnt = true) (hen : s.flag F.COX_A_CFG_ext_en = true)
    (hsoon : (s.latchRegs coxaRegs).meshSoon = true) :
    s.coxaPreempt = if s.flag F.COX_A_CFG_ext_preempt then
      ((s.latchRegs coxaRegs).setFld F.COX_A_STAT_ext_gnt 0).count F.COX_A_STAT_preempt else (s.latchRegs coxaRegs).meshLate := by
  have hen' := (s.coxaRegs_eFlag (f := F.COX_A_CFG_ext_en) rfl (by decide +kernel)).trans hen
  have hpre := s.coxaRegs_eFlag (f := F.COX_A_CFG_ext_preempt) rfl (by decide +kernel)
  have hgnt' := (State.flag_of_fld (s.latchRegs_fld coxaRegs F.COX_A_STAT_ext_gnt)).trans hgnt
  have hsv := (s.lhServes_latchRegs coxaRegs false).trans hserves
  have hsh : (s.latchRegs coxaRegs).isShadow = false := hshadow
  unfold State.coxaPreempt
  generalize s.latchRegs coxaRegs = v at *
  rw [← hpre]
  exact if_neg (by simp [hen', hgnt', hsv, hsh, hsoon])

/-- A grant that is withdrawn and counted: two fields of one register. -/
theorem State.withdrawn_leaves (s : State) {g c : Fld} (hg' : g.hi < 32) (hc : c.hi < 32)
    (hwidth : c.width = 8) (hne : g.hi < c.lo) : let u := (s.setFld g 0).count c
    u.fld g = 0 ∧ u.fld c = min (s.fld c + 1) 255 := by
  constructor
  · rw [State.count, Io.count]
    exact (State.fld_setFld_ne (s.setFld g 0) _ hg' (.inr (.inl hne))).trans (State.fld_setFld_eq s hg' (Nat.two_pow_pos _))
  · rw [State.fld_count_self _ _ 1 hc, hwidth, State.fld_setFld_ne _ _ hc (.inr (.inr hne))]
    rfl

/-- Settles O41: the grant that follows each request, and what a preemption withdraws. -/
theorem coexistenceGrants : Obligations.CoexistenceGrants := by
  intro t s hshadow r
  refine ⟨?fallB, ?fallA, ?riseB, ?riseA, fun j e htx heff hst hgnt hen hdue => ⟨fun hpre => ?preB, fun hpre => ?lateB⟩,
    fun hserves hgnt hen hsoon => ⟨fun hpre => ?preA, fun hpre => ?lateA⟩⟩
  case fallB =>
    obtain ⟨hreq, hgnt, hregs⟩ := s.coxbReq_leaves t false
    exact ⟨_, run_eq_next (f := fun s => s.coxbReq false) rfl rfl, hreq, hgnt.trans (congrArg Bool.toNat (s.at t).coxbLevel_idle), hregs⟩
  case fallA =>
    obtain ⟨hreq, hgnt, hregs⟩ := s.coxaReq_leaves t false
    exact ⟨_, run_eq_next (f := fun s => s.coxaReq false) rfl rfl, hreq, hgnt.trans (congrArg Bool.toNat (s.at t).coxaLevel_idle), hregs⟩
  case riseB =>
    obtain ⟨hreq, hgnt, hregs⟩ := s.coxbReq_leaves t true
    refine ⟨_, run_eq_next (f := fun s => s.coxbReq true) rfl rfl, hreq, fun hen => ?_, fun hen hsv htx hpa hdeny => ?_,
      fun j hen hsv htx hst hno => ?_, hregs⟩
    · exact hgnt.trans (congrArg Bool.toNat (State.coxbLevel_unmanaged (s := s.at t) hshadow hen))
    · exact hgnt.trans (congrArg Bool.toNat ((State.coxbLevel_managed (s := s.at t) hshadow hen hsv).1 htx hpa hdeny))
    · exact hgnt.trans (congrArg Bool.toNat ((State.coxbLevel_managed (s := s.at t) hshadow hen hsv).2 j htx hst hno))
  case riseA =>
    obtain ⟨hreq, hgnt, hregs⟩ := s.coxaReq_leaves t true
    refine ⟨_, run_eq_next (f := fun s => s.coxaReq true) rfl rfl, hreq, fun hen => ?_, fun hen hsv hno => ⟨fun htx => ?_,
      fun htx hq hl => ?_⟩, hregs⟩
    · exact hgnt.trans (congrArg Bool.toNat (State.coxaLevel_unmanaged (s := s.at t) hshadow hen))
    · exact hgnt.trans (congrArg Bool.toNat ((State.coxaLevel_managed (s := s.at t) hshadow hen hsv hno).1 htx))
    · exact hgnt.trans (congrArg Bool.toNat ((State.coxaLevel_managed (s := s.at t) hshadow hen hsv hno).2 htx hq hl))
  case preB =>
    have heq := (State.coxbPreempt_due (s := s.at t) hshadow htx heff hst hgnt hen hdue).trans (if_pos hpre)
    obtain ⟨h0, hcount⟩ := (s.at t).withdrawn_leaves (g := F.COX_B_STAT_ext_gnt) (c := F.COX_B_STAT_preempt) (by decide) (by decide)
      rfl (by decide)
    exact ⟨_, run_eq_next heq rfl, h0, hcount, ((RegsOnly.at s t _).setFld (by decide) _).count (by decide) 1⟩
  case lateB =>
    have heq := (State.coxbPreempt_due (s := s.at t) hshadow htx heff hst hgnt hen hdue).trans (if_neg (ne_true_of_eq_false hpre))
    obtain ⟨hrs, hp⟩ := (s.at t).txLate_rs j
    exact ⟨_, run_eq_next heq hp, hrs⟩
  case preA =>
    have heq := (State.coxaPreempt_due (s := s.at t) hshadow hserves hgnt hen hsoon).trans (if_pos hpre)
    obtain ⟨h0, hcount⟩ := State.withdrawn_leaves ((s.at t).latchRegs coxaRegs) (g := F.COX_A_STAT_ext_gnt) (c := F.COX_A_STAT_preempt)
      (by decide) (by decide) rfl (by decide)
    have hw : SameWords s ((s.at t).latchRegs coxaRegs) [0x440008] := fun off _ _ => Io.latchRegs_word _ _ off
    refine ⟨_, run_eq_next heq rfl, h0, hcount.trans ?_, (hw.setFld (by decide) _).count (by decide) 1, rfl⟩
    rw [State.latchRegs_fld]
    rfl
  case lateA =>
    have heq := (State.coxaPreempt_due (s := s.at t) hshadow hserves hgnt hen hsoon).trans (if_neg (ne_true_of_eq_false hpre))
    obtain ⟨hlh, hp, -, hw⟩ := ((s.at t).latchRegs coxaRegs).meshLate_leaves
    exact ⟨_, run_eq_next heq hp, hlh,
      congrArg F.COX_A_STAT_ext_gnt.of ((hw _ (by decide)).trans (Io.latchRegs_word _ _ _))⟩

end Sys2Proof.Machine
end

-- ==== Reserved intervals (11_radios_l_h) ====
section
/-!
SUPPORT. A counterexample to the statement of a reserved interval: a receipt that is not sent.
-/

namespace Sys2Proof.Machine

/-! ### A reserved interval without a grant loses its receipts -/

/-- Radio L in Full shares its time with the mesh, COXA is used and its grant honoured, and the receipt of node 5 waits for
the interval. -/
def receiptOnL : State :=
  { receiptWaits (receiptJob none false) with
    io := { regs := [(0x010004, 0x00040000#32), (0x440000, 5#32)] }
    pw := { mode := .full }
    rs := {}
    lh := { mesh := some (0, [lostReceipt]) } }

theorem exec_reservedIntervalStart_receipt : (match exec (.reservedIntervalStart 20850000 false false) receiptOnL with
    | .next u => nodeListens u | _ => false) = true := by decide +kernel

/-- Refutes O42: without COXA_GNT the receipts of the interval are not sent, which changes the connections of their nodes. -/
theorem not_reservedIntervalsBegin : ¬ Obligations.ReservedIntervalsBegin := by
  intro h
  obtain ⟨u, hu, -, -, -, -, hs⟩ := h 20850000 20850000 21550000 false false true receiptOnL rfl (by decide +kernel)
    (by decide +kernel) rfl (by decide +kernel) (by decide +kernel) (by decide +kernel)
  have hstep := exec_reservedIntervalStart_receipt
  rw [hu] at hstep
  have hml : u.ml = receiptOnL.ml := (congrArg State.ml hs :)
  have hno : nodeListens u = nodeListens receiptOnL := congrArg (fun m : Ml => m.conns.any fun p => p.2.pendSent) hml
  exact Bool.false_ne_true (hno.symm.trans hstep)

end Sys2Proof.Machine
end

-- ==== PPDUs of Radios L and H start (11_radios_l_h) ====
section
/-!
SUPPORT. Pins and outputs of a transmission, and what leaves a queue first.
-/

namespace Sys2Proof.Machine

/-! ### PPDUs start (R324, R329, R333, R334, R352) -/

theorem State.latchFld_fld (s : State) (g f : Fld) : (s.latchFld g).fld f = s.fld f := rfl

theorem State.lhServes_latchFld (s : State) (f : Fld) (h : Bool) : (s.latchFld f).lhServes h = s.lhServes h := rfl

/-- The pins of a transmission. -/
theorem State.lhPins_leaves (s : State) (h mesh : Bool) : let u := s.lhPins h mesh
    (u.radio h).tx = (s.radio h).tx ∧ (u.radio h).queue = (s.radio h).queue ∧ (u.radio h).paEn = s.chains h mesh ∧
      u.radio (!h) = s.radio (!h) ∧ u.lh.mesh = s.lh.mesh ∧ u.fld (F.LRX_STAT_tx_active.on h) = 1 ∧ u.io.out = s.io.out ∧
      { u with io := s.io, lh := s.lh } = s := by
  cases h
  · exact ⟨rfl, rfl, rfl, rfl, rfl, State.fld_setFld_eq _ (by decide) (by decide), rfl, rfl⟩
  · exact ⟨rfl, rfl, rfl, rfl, rfl, State.fld_setFld_eq _ (by decide) (by decide), rfl, rfl⟩

/-- Outputs put one by one. -/
theorem State.each_put {α : Type} (g : α → Out) (l : List α) (s : State) : (s.each l fun s a => s.put (g a)) =
    { s with io := { s.io with out := (l.map g).reverse ++ s.io.out } } := by
  induction l generalizing s with
  | nil => rfl
  | cons a as ih =>
    refine (ih _).trans ?_
    simp [State.put]

/-- A PPDU's pins and its output. -/
def State.ppduOnAir (s : State) (h : Bool) (p : Ppdu) : State :=
  ((s.setRadio h { s.radio h with tx := some (.wifi p s.now) }).lhPins h false).put (.wifi h p.kind.name p.users p.bytes)

/-- A PPDU goes on air, and may be counted. -/
theorem State.ppduStart_eq (s : State) (h : Bool) (p : Ppdu) : s.ppduStart h p = s.ppduOnAir h p ∨
    ∃ c : Fld, (c.off = 0x200030 ∨ c.off = 0x200034) ∧ s.ppduStart h p = (s.ppduOnAir h p).count c := by
  unfold State.ppduStart
  split
  · exact .inr ⟨F.WLN_MU_CNT_mu_mimo, .inr rfl, rfl⟩
  · exact .inr ⟨F.WLN_MU_CNT_ofdma, .inr rfl, rfl⟩
  · exact .inr ⟨F.WLN_TRIG_CNT_ul_triggers, .inl rfl, rfl⟩
  · exact .inr ⟨F.WLN_TRIG_CNT_ul_triggers, .inl rfl, rfl⟩
  · exact .inl rfl

theorem State.ppduOnAir_leaves (s : State) (h : Bool) (p : Ppdu) : let u := s.ppduOnAir h p
    (u.radio h).tx = some (.wifi p s.now) ∧ (u.radio h).queue = (s.radio h).queue ∧ (u.radio h).paEn = s.chains h false ∧
      u.radio (!h) = s.radio (!h) ∧ u.fld (F.LRX_STAT_tx_active.on h) = 1 ∧
      u.io.out = .wifi h p.kind.name p.users p.bytes :: s.io.out ∧ { u with io := s.io, lh := s.lh } = s := by
  obtain ⟨htx, hq, hpa, hother, -, hact, hout, hparts⟩ :=
    (s.setRadio h { s.radio h with tx := some (.wifi p s.now) }).lhPins_leaves h false
  obtain ⟨hself, hother'⟩ := s.radio_setRadio h { s.radio h with tx := some (.wifi p s.now) }
  rw [hself] at htx hq
  exact ⟨htx, hq, hpa, hother.trans hother', hact, congrArg (_ :: ·) hout, congrArg (fun z : State => { z with lh := s.lh }) hparts⟩

theorem State.ppduStart_leaves (s : State) (h : Bool) (p : Ppdu) : let u := s.ppduStart h p
    (u.radio h).tx = some (.wifi p s.now) ∧ (u.radio h).queue = (s.radio h).queue ∧ (u.radio h).paEn = s.chains h false ∧
      u.radio (!h) = s.radio (!h) ∧ u.fld (F.LRX_STAT_tx_active.on h) = 1 ∧
      u.io.out = .wifi h p.kind.name p.users p.bytes :: s.io.out ∧ { u with io := s.io, lh := s.lh } = s := by
  obtain ⟨htx, hq, hpa, hother, hact, hout, hparts⟩ := s.ppduOnAir_leaves h p
  have heq := s.ppduStart_eq h p
  generalize s.ppduOnAir h p = b at *
  dsimp only
  obtain heq | ⟨c, hc, heq⟩ := heq
  · rw [heq]
    exact ⟨htx, hq, hpa, hother, hact, hout, hparts⟩
  · rw [heq]
    have hne : c.off ≠ (F.LRX_STAT_tx_active.on h).off := by
      rcases hc with e | e <;> rw [e] <;> cases h <;> decide
    exact ⟨htx, hq, hpa, hother, (State.fld_count_off _ _ _ _ hne).trans hact, hout, hparts⟩


/-- Nothing settles between intervals. -/
theorem State.ivlSettle_idle {s : State} (h : s.lh.ivlEnd = none) : s.ivlSettle = s := by
  unfold State.ivlSettle
  rw [h]

/-- Wi-Fi's field in effect on a radio whose run bit is set. -/
theorem State.wifiOn_latched {s : State} {h : Bool} (hserves : s.lhServes h = true)
    (hrun : s.fld (if h then F.WLN_CTRL_run_h else F.WLN_CTRL_run_l) = 1) (hshare : h = true ∨ s.fld F.PWR_RADIO_PERS_l_eff = 1) :
    (s.latchFld (if h then F.WLN_CTRL_run_h else F.WLN_CTRL_run_l)).wifiOn h = true := by
  have hhi : (if h then F.WLN_CTRL_run_h else F.WLN_CTRL_run_l).hi < 32 := by cases h <;> decide
  have heff : (s.latchFld (if h then F.WLN_CTRL_run_h else F.WLN_CTRL_run_l)).eFld (if h then F.WLN_CTRL_run_h else F.WLN_CTRL_run_l) =
      1 % 2 ^ (if h then F.WLN_CTRL_run_h else F.WLN_CTRL_run_l).width := by
    rw [← hrun]
    exact (congrArg (Fld.of _) (Tbl.getD_putDef_self _ _ _ _)).trans (Fld.of_setBits_self _ _ _ hhi)
  have hflag : (s.latchFld (if h then F.WLN_CTRL_run_h else F.WLN_CTRL_run_l)).eFlag (if h then F.WLN_CTRL_run_h else F.WLN_CTRL_run_l) =
      true := bne_iff_ne.mpr (by show State.eFld _ _ ≠ 0; rw [heff]; cases h <;> decide)
  unfold State.wifiOn
  rw [State.lhServes_latchFld, State.latchFld_fld, hserves, hflag]
  cases h with
  | true => rfl
  | false =>
    obtain hl | hl := hshare
    · cases hl
    · rw [show s.fld (radioEff false) = 1 from hl]
      rfl

/-- Where the mesh does not share the radio and no revert is announced, every exchange fits. -/
theorem State.fits_free {s : State} {h : Bool} (hshare : h = true ∨ s.fld F.PWR_RADIO_PERS_l_eff = 1) (hrev : s.tw.peerRevert = none)
    (dur : Nat) : s.fits h dur = true := by
  have hivl : s.ivlLeft h = none := by
    unfold State.ivlLeft State.reserves
    rcases hshare with rfl | hl
    · rfl
    · simp [hl]
  unfold State.fits State.timeLeft State.revertLeft
  rw [hivl, hrev]
  rfl

theorem State.fits_scheduled {s : State} {h : Bool} (hshare : h = true ∨ s.fld F.PWR_RADIO_PERS_l_eff = 1) (hrev : s.tw.peerRevert = none)
    (dur : Nat) : s.schedLatch.fits h dur = true :=
  State.fits_free (s := s.schedLatch) (hshare.imp id fun hl => (s.latchRegs_fld _ F.PWR_RADIO_PERS_l_eff).trans hl) hrev dur

/-- The queue of a radio. -/
def State.setQueueOf (s : State) (h : Bool) (ps : List Ppdu) : State := s.setRadio h { s.radio h with queue := ps }

/-- A PPDU that has been taken from its queue goes on air, or, without enabled outputs, is cut. -/
def State.ppduLeaves (v : State) (h : Bool) (p : Ppdu) : State :=
  if !v.outEnabled then (v.count (F.LRX_ERR_cut.on h)).ppduBack h p
  else if h then v.ppduStart h p
  else (v.ppduStart h p).coxaPins true (p.vo && (v.ppduStart h p).eFlag F.COX_A_CFG_pri_vo)

/-- A granted PPDU that waits first leaves the queue, on a radio that no mesh shares. -/
theorem State.txStart_granted {s : State} {h gnt : Bool} {dur : Nat} {p : Ppdu} {ps : List Ppdu} (hserves : s.lhServes h = true)
    (htx : (s.radio h).tx = none) (hshadow : s.isShadow = false) (hivl : s.lh.ivlEnd = none) (hturn : s.meshTurn h = false)
    (hq : (s.radio h).queue = p :: ps) (hgranted : p.granted = true)
    (hrun : s.fld (if h then F.WLN_CTRL_run_h else F.WLN_CTRL_run_l) = 1) (hshare : h = true ∨ s.fld F.PWR_RADIO_PERS_l_eff = 1)
    (hrev : s.tw.peerRevert = none) :
    s.txStart h gnt dur = ((s.latchFld (if h then F.WLN_CTRL_run_h else F.WLN_CTRL_run_l)).setQueueOf h ps).ppduLeaves h p := by
  have hsettle : (if h then s else s.ivlSettle) = s := by rw [State.ivlSettle_idle hivl, ite_self]
  have hlatch : s.wlnLatch h = s.latchFld (if h then F.WLN_CTRL_run_h else F.WLN_CTRL_run_l) := if_neg (by rw [htx]; decide)
  have hon := State.wifiOn_latched hserves hrun hshare
  have hq' : ((s.latchFld (if h then F.WLN_CTRL_run_h else F.WLN_CTRL_run_l)).radio h).queue = p :: ps := hq
  have hfits : ((s.latchFld (if h then F.WLN_CTRL_run_h else F.WLN_CTRL_run_l)).schedLatch).fits h p.dur = true :=
    State.fits_scheduled (s := s.latchFld (if h then F.WLN_CTRL_run_h else F.WLN_CTRL_run_l)) hshare hrev p.dur
  unfold State.txStart
  dsimp only
  rw [hsettle, if_neg (by simp [hserves, htx, hshadow]), if_neg (ne_true_of_eq_false hturn), hlatch, hq']
  dsimp only
  generalize s.latchFld (if h then F.WLN_CTRL_run_h else F.WLN_CTRL_run_l) = w at *
  simp only [hgranted, hon, hfits, if_true, Bool.not_true, Bool.false_eq_true, if_false, Bool.and_false, Bool.or_true, Bool.false_and]
  rfl

/-- The pins of COXA are Radio L's alone. -/
theorem State.coxaPins_leaves (s : State) (req pri : Bool) (h : Bool) : let u := s.coxaPins req pri
    u.radio h = s.radio h ∧ u.io = s.io ∧ u.lh.mesh = s.lh.mesh ∧ { u with lh := s.lh } = s := by
  cases h <;> exact ⟨rfl, rfl, rfl, rfl⟩

theorem State.ppduLeaves_onAir {v : State} (h : Bool) (p : Ppdu) (hout : v.outEnabled = true) : let u := v.ppduLeaves h p
    (u.radio h).tx = some (.wifi p v.now) ∧ (u.radio h).queue = (v.radio h).queue ∧ (u.radio h).paEn = v.chains h false ∧
      u.radio (!h) = v.radio (!h) ∧ u.fld (F.LRX_STAT_tx_active.on h) = 1 ∧
      u.io.out = .wifi h p.kind.name p.users p.bytes :: v.io.out ∧ { u with io := v.io, lh := v.lh } = v := by
  have hstart := v.ppduStart_leaves h p
  have heq : v.ppduLeaves h p = if h then v.ppduStart h p
      else (v.ppduStart h p).coxaPins true (p.vo && (v.ppduStart h p).eFlag F.COX_A_CFG_pri_vo) := if_neg (by rw [hout]; decide)
  generalize v.ppduStart h p = b at *
  dsimp only
  rw [heq]
  obtain ⟨htx, hq, hpa, hother, hact, hput, hparts⟩ := hstart
  cases h with
  | true => exact ⟨htx, hq, hpa, hother, hact, hput, hparts⟩
  | false =>
    obtain ⟨hself, hio, -, hpins⟩ := b.coxaPins_leaves true (p.vo && b.eFlag F.COX_A_CFG_pri_vo) false
    obtain ⟨hself', -⟩ := b.coxaPins_leaves true (p.vo && b.eFlag F.COX_A_CFG_pri_vo) true
    simp only [Bool.false_eq_true, if_false]
    generalize b.coxaPins true (p.vo && b.eFlag F.COX_A_CFG_pri_vo) = u at *
    refine ⟨?_, ?_, ?_, ?_, ?_, ?_, ?_⟩
    · rw [hself]; exact htx
    · rw [hself]; exact hq
    · rw [hself]; exact hpa
    · exact hself'.trans hother
    · exact (congrArg (·.fld (F.LRX_STAT_tx_active.on false)) hio).trans hact
    · exact (congrArg Io.out hio).trans hput
    · exact (congrArg (fun z : State => { z with io := v.io, lh := v.lh }) hpins).trans hparts

/-- A PPDU of nobody's that is cut is gone. -/
theorem State.ppduLeaves_cut {v : State} (h : Bool) (p : Ppdu) (hout : v.outEnabled = false) (hkey : p.key = none)
    (hmp : p.mpdus = []) : let u := v.ppduLeaves h p
    (u.radio h).queue = (v.radio h).queue ∧ (u.radio h).tx = (v.radio h).tx ∧
      u.fld (F.LRX_ERR_cut.on h) = min (v.fld (F.LRX_ERR_cut.on h) + 1) (2 ^ F.LRX_ERR_cut.width - 1) ∧ u.io.out = v.io.out ∧
      u.pending = v.pending := by
  have heq : v.ppduLeaves h p = (v.count (F.LRX_ERR_cut.on h)).ppduBack h p := if_pos (by rw [hout]; rfl)
  have hback (a : State) : a.ppduBack h p = a.retryBack [] := by
    unfold State.ppduBack
    rw [hkey, hmp]
    rfl
  dsimp only
  rw [heq, hback]
  have hcount := State.fld_count_self v (F.LRX_ERR_cut.on h) 1 (by cases h <;> decide)
  rw [(Fld.on_width F.LRX_ERR_cut h).1] at hcount
  cases h <;> exact ⟨rfl, rfl, hcount, rfl, rfl⟩

/-! ### The mesh's carriers start (R329) -/

theorem State.txStart_mesh {s : State} {gnt : Bool} {dur : Nat} (hserves : s.lhServes false = true)
    (htx : (s.radio false).tx = none) (hshadow : s.isShadow = false) (hivl : s.lh.ivlEnd = none) (hturn : s.meshTurn false = true) :
    s.txStart false gnt dur = s.meshStart := by
  unfold State.txStart
  dsimp only
  rw [if_neg Bool.false_ne_true, State.ivlSettle_idle hivl, if_neg (by simp [hserves, htx, hshadow]), if_pos hturn]

/-- Radio L with the mesh's carriers on air, before they are put. -/
def State.meshOnAir (s : State) (cs : List Carrier) : State :=
  State.lhPins (State.setRadio (State.latchFld { s with lh := { s.lh with mesh := none } } F.LRX_MESH_CFG_level) false
    { s.lh.l with tx := some (.mesh cs s.now) }) false true

theorem State.meshStart_eq {s : State} {at_ : Nat} {cs : List Carrier} (hmesh : s.lh.mesh = some (at_, cs)) : s.meshStart =
    if s.lh.ivlDenied || decide (at_ + 4000 < s.now) then s.meshLate
    else if !s.outEnabled then
      (State.each { s with lh := { s.lh with mesh := none } } cs State.linkUnsent).count F.LRX_ERR_cut
    else (s.meshOnAir cs).each cs fun s c => s.put (.radioLMesh c.ch at_ c.psdu) := by
  unfold State.meshStart
  rw [hmesh]
  rfl

theorem State.meshOnAir_leaves (s : State) (cs : List Carrier) : let u := s.meshOnAir cs
    u.lh.mesh = none ∧ u.lh.l.tx = some (.mesh cs s.now) ∧ u.lh.l.paEn = 1 ∧ u.fld F.LRX_STAT_tx_active = 1 ∧ u.io.out = s.io.out ∧
      { u with io := s.io, lh := s.lh } = s := by
  obtain ⟨htx, -, hpa, -, hm, hact, hout, hparts⟩ := State.lhPins_leaves (State.setRadio (State.latchFld
    { s with lh := { s.lh with mesh := none } } F.LRX_MESH_CFG_level) false { s.lh.l with tx := some (.mesh cs s.now) }) false true
  exact ⟨hm, htx, hpa, hact, hout, congrArg (fun z : State => { z with io := s.io, lh := s.lh }) hparts⟩

/-- Settles O43: what goes on air first, or is cut; and the mesh's carriers. -/
theorem ppdusStart : Obligations.PpdusStart := by
  intro t dur h gnt s r hserves htx hshadow hivl
  refine ⟨fun p ps hturn hq hgranted hrun hshare hrev => ?wifi, fun at_ cs hh hmesh hat => ?mesh⟩
  case wifi =>
    have heq := State.txStart_granted (s := s.at t) (gnt := gnt) (dur := dur) hserves htx hshadow hivl hturn hq hgranted hrun hshare hrev
    let v := ((s.at t).latchFld (if h then F.WLN_CTRL_run_h else F.WLN_CTRL_run_l)).setQueueOf h ps
    obtain ⟨hself, hother⟩ := State.radio_setRadio ((s.at t).latchFld (if h then F.WLN_CTRL_run_h else F.WLN_CTRL_run_l)) h
      { (s.at t).radio h with queue := ps }
    have hvq : (v.radio h).queue = ps := congrArg Radio.queue hself
    have hvtx : (v.radio h).tx = none := (congrArg Radio.tx hself).trans htx
    refine ⟨fun hout => ?_, fun hout hkey hmp => ?_⟩
    · obtain ⟨hutx, huq, hpa, huo, hact, hput, hparts⟩ := State.ppduLeaves_onAir (v := v) h p hout
      rw [← heq] at hutx huq hpa huo hact hput hparts
      refine ⟨_, run_eq_next (f := fun s => s.txStart h gnt dur) rfl (congrArg State.pending hparts :), huq.trans hvq, hutx, hact, hpa,
        huo.trans hother, hput, ?_⟩
      exact (congrArg (fun z : State => { z with io := s.io, lh := s.lh, now := s.now }) hparts :)
    · obtain ⟨huq, hutx, hcut, hput, hp⟩ := State.ppduLeaves_cut (v := v) h p hout hkey hmp
      rw [← heq] at huq hutx hcut hput hp
      exact ⟨_, run_eq_next (f := fun s => s.txStart h gnt dur) rfl hp, huq.trans hvq, hutx.trans hvtx, hcut, hput⟩
  case mesh =>
    subst hh
    have hturn : (s.at t).meshTurn false = true := by
      unfold State.meshTurn
      rw [show (s.at t).lh.mesh = some (at_, cs) from hmesh]
      exact decide_eq_true hat
    have heq := (State.txStart_mesh (s := s.at t) (gnt := gnt) (dur := dur) hserves htx hshadow hivl hturn).trans
      (State.meshStart_eq (s := s.at t) hmesh)
    refine ⟨fun hden hin hout => ?_, fun hlate => ?_⟩
    · rw [if_neg (by rw [show (s.at t).lh.ivlDenied = false from hden]; simpa [State.at] using hin),
        if_neg (by rw [show (s.at t).outEnabled = true from hout]; decide), State.each_put] at heq
      obtain ⟨hm, hutx, hpa, hact, hput, hparts⟩ := (s.at t).meshOnAir_leaves cs
      generalize (s.at t).meshOnAir cs = u at *
      refine ⟨_, run_eq_next (f := fun s => s.txStart false gnt dur) heq (congrArg State.pending hparts :), hm, hutx, hpa, hact,
        congrArg (_ ++ ·) hput, ?_⟩
      exact (congrArg (fun z : State => { z with now := s.now }) hparts :)
    · rw [if_pos (by simpa [State.at] using hlate)] at heq
      obtain ⟨hlh, hp, hput, -⟩ := (s.at t).meshLate_leaves
      exact ⟨_, run_eq_next (f := fun s => s.txStart false gnt dur) heq hp, hlh, hput⟩

end Sys2Proof.Machine
end

-- ==== PPDUs of Radios L and H end (11_radios_l_h, 12_wifi_access) ====
section
/-!
SUPPORT. What an acknowledgement, its absence and a cut leave.
-/

namespace Sys2Proof.Machine

/-! ### The pool's state and pauses touch no radio -/

theorem State.flowControl_parts (s : State) : { s.flowControl with io := s.io, sr := s.sr } = s := by
  have hpause (z : State) (p u q : Nat) : { z.sendPause p u q with io := s.io, sr := s.sr } = { z with io := s.io, sr := s.sr } := rfl
  have hxoff (z : State) (p u : Nat) (x : Bool) : { z.setXoff p u x with io := s.io, sr := s.sr } = { z with io := s.io, sr := s.sr } := rfl
  have hsend (z : State) (p u : Nat) : { z.sendXoff p u with io := s.io, sr := s.sr } = { z with io := s.io, sr := s.sr } := rfl
  unfold State.flowControl
  split
  · rfl
  · refine State.each_const (fun z : State => { z with io := s.io, sr := s.sr }) (fun z p => ?_) [0, 1] s
    split
    · rfl
    · refine (State.each_const (fun z : State => { z with io := s.io, sr := s.sr }) (fun w u => ?_) _ _).trans rfl
      dsimp only
      split
      · split
        · exact (hxoff _ _ _ _).trans (hpause _ _ _ _)
        · rfl
      · split
        · exact hsend _ _ _
        · rfl

theorem State.updatePool_parts (s : State) : { s.updatePool with io := s.io, sr := s.sr } = s :=
  congrArg (fun z : State => { z with io := s.io, sr := s.sr })
    (State.flowControl_parts (s.setFld F.SRT_STAT_pool_state (s.poolNext (s.fld F.SRT_STAT_pool_state) s.sharedUsed)))

/-- A field outside what the pool and the ports show. -/
theorem State.updatePool_fld (s : State) {f : Fld} (h : discardWord f.off = false) : s.updatePool.fld f = s.fld f :=
  congrArg f.of ((Takes.refl s).updatePool.word _ h)

/-! ### PPDUs end (R325, R345) -/

theorem Tbl.get?_mapVal {α : Type} (g : Nat → α → α) (t : Tbl α) (k : Nat) :
    Tbl.get? (t.map fun c => (c.1, g c.1 c.2)) k = (Tbl.get? t k).map (g k) := by
  induction t with
  | nil => rfl
  | cons x t ih =>
    obtain ⟨n, a⟩ := x
    simp only [List.map_cons, Tbl.get?]
    split
    next h => rw [h]; rfl
    next => exact ih

/-- MPDUs that go back join those that wait at their client. -/
theorem State.get?_retryBack {s : State} {k : Nat} {c : Client} (ms : List Mpdu) (h : Tbl.get? s.wl.clients k = some c) :
    Tbl.get? (s.retryBack ms).wl.clients k = some { c with retry := (ms.filter fun m => m.client == k) ++ c.retry } :=
  (Tbl.get?_mapVal (fun n (c : Client) => { c with retry := (ms.filter fun m => m.client == n) ++ c.retry }) s.wl.clients k).trans
    (congrArg _ h)

/-- What the end of a PPDU of one MPDU leaves of its client. -/
def Client.answered (c : Client) (m : Mpdu) (acked giveUp : Bool) : Client :=
  if acked then { c with unacked := 0, told := false }
  else { c with unacked := c.unacked + 1, retry := if giveUp then c.retry else m :: c.retry }

theorem State.dataEnd_one {s : State} {p : Ppdu} {k : Nat} {c : Client} {m : Mpdu} (acked giveUp : Nat) (hm : p.mpdus = [m])
    (hclient : m.client = k) (husers : p.users = [k]) (hget : Tbl.get? s.wl.clients k = some c) :
    Tbl.get? (s.dataEnd p acked giveUp).wl.clients k = some (c.answered m (bitN acked 0) (bitN giveUp 0)) ∧
      { s.dataEnd p acked giveUp with wl := s.wl } = s := by
  have hback : (List.range p.mpdus.length).filterMap (fun i => if bitN acked i || bitN giveUp i then none else p.mpdus[i]?) =
      if bitN acked 0 || bitN giveUp 0 then [] else [m] := by
    rw [hm]
    show List.filterMap _ [0] = _
    cases h : (bitN acked 0 || bitN giveUp 0) <;>
      simp only [List.filterMap_cons, List.filterMap_nil, h, if_true, Bool.false_eq_true, if_false, List.getElem?_cons_zero]
  have hret := State.get?_retryBack (if bitN acked 0 || bitN giveUp 0 then [] else [m]) hget
  have hmine : (List.range p.mpdus.length).filter (fun i => p.mpdus[i]?.any fun m => m.client == k) = [0] := by
    rw [hm]
    show List.filter _ [0] = _
    simp [hclient]
  have hparts : { s.retryBack (if bitN acked 0 || bitN giveUp 0 then [] else [m]) with wl := s.wl } = s := rfl
  unfold State.dataEnd
  dsimp only
  rw [hback, husers]
  generalize s.retryBack (if bitN acked 0 || bitN giveUp 0 then [] else [m]) = v at *
  simp only [State.each, hret, hmine, List.isEmpty_cons, Bool.false_eq_true, if_false, List.any_cons, List.any_nil, Bool.or_false]
  cases bitN acked 0 with
  | true =>
    refine ⟨(Tbl.get?_put_self _ _ _).trans ?_, hparts⟩
    simp [Client.answered]
  | false =>
    refine ⟨(Tbl.get?_put_self _ _ _).trans ?_, hparts⟩
    cases bitN giveUp 0 <;> simp [Client.answered, hclient]

/-- Pins of a radio at rest. -/
theorem State.lhPinsOff_leaves (s : State) (h : Bool) : let u := s.lhPinsOff h
    (u.radio h).tx = none ∧ (u.radio h).paEn = 0 ∧ (u.radio h).queue = (s.radio h).queue ∧ u.radio (!h) = s.radio (!h) ∧
      u.fld (F.LRX_STAT_tx_active.on h) = 0 ∧ u.wl = s.wl ∧ u.io.out = s.io.out ∧ u.pending = s.pending := by
  have hfld := State.fld_setFld_eq (s.setRadio h { s.radio h with paEn := 0, paMode := 0, trsw := 0, tx := none })
    (f := F.LRX_STAT_tx_active.on h) (v := 0) (by cases h <;> decide) (Nat.two_pow_pos _)
  cases h <;> exact ⟨rfl, rfl, rfl, rfl, hfld, rfl, rfl, rfl⟩

/-- COXA after a transmission: its pins, and the grant of its neighbour. -/
theorem State.coxaOver_leaves (s : State) (h : Bool) : let u := s.coxaOver h
    (∀ g, u.radio g = s.radio g) ∧ u.wl = s.wl ∧ u.io.out = s.io.out ∧ u.pending = s.pending ∧
      ∀ f : Fld, f.off ≠ 0x440008 → u.fld f = s.fld f := by
  have hgrant (v : State) (f : Fld) (hf : f.off ≠ 0x440008) : v.coxaGrant.fld f = v.fld f := State.fld_setFld_off _ _ _ _ hf.symm
  dsimp only
  unfold State.coxaOver
  split
  · exact ⟨fun _ => rfl, rfl, rfl, rfl, fun _ _ => rfl⟩
  · split
    · exact ⟨fun g => rfl, rfl, rfl, rfl, hgrant s⟩
    · obtain ⟨-, hio, -, hparts⟩ := s.coxaPins_leaves false false false
      have hr (g : Bool) := (s.coxaPins_leaves false false g).1
      generalize s.coxaPins false false = v at *
      exact ⟨hr, (congrArg State.wl hparts :), (congrArg Io.out hio :), (congrArg State.pending hparts :),
        fun f hf => (hgrant v f hf).trans (congrArg (·.fld f) hio)⟩

/-- Settles O44: a transmission's end by its acknowledgement, and a cut. -/
theorem ppdusEndOrAreCut : Obligations.PpdusEndOrAreCut := by
  intro t acked giveUp start h reports p s htx
  refine ⟨fun hout hkind k c m hm hclient husers hget => ?ends, fun hout => ?noCut, fun hout hkey hmp => ?cut⟩
  case ends =>
    obtain ⟨hptx, hpa, -, hother, hact, hwl, -, hp⟩ := (s.at t).lhPinsOff_leaves h
    have heq : (s.at t).txEndLh h acked giveUp reports =
        ((((((s.at t).lhPinsOff h).dataEnd p acked giveUp).wlnLatch h).coxaOver h).updatePool) := by
      unfold State.txEndLh
      rw [show ((s.at t).radio h).tx = some (.wifi p start) from htx]
      dsimp only
      rw [if_neg (by rw [show (s.at t).outEnabled = true from hout]; decide), State.ppduEnd, hkind]
    generalize (s.at t).lhPinsOff h = a at *
    obtain ⟨hcl, hparts⟩ := State.dataEnd_one (s := a) acked giveUp hm hclient husers (by rw [hwl]; exact hget)
    have hlh : (a.dataEnd p acked giveUp).lh = a.lh := (congrArg State.lh hparts :)
    have hio : (a.dataEnd p acked giveUp).io = a.io := (congrArg State.io hparts :)
    have hdp : (a.dataEnd p acked giveUp).pending = a.pending := (congrArg State.pending hparts :)
    generalize a.dataEnd p acked giveUp = d at *
    have hlatch : (d.wlnLatch h).lh = d.lh ∧ (d.wlnLatch h).wl = d.wl ∧ (d.wlnLatch h).pending = d.pending ∧
        ∀ f, (d.wlnLatch h).fld f = d.fld f := by
      unfold State.wlnLatch
      split <;> exact ⟨rfl, rfl, rfl, fun _ => rfl⟩
    obtain ⟨hwlh, hwwl, hwp, hwf⟩ := hlatch
    obtain ⟨hor, howl, -, hop, hof⟩ := (d.wlnLatch h).coxaOver_leaves h
    generalize (d.wlnLatch h).coxaOver h = b at *
    have hpool := b.updatePool_parts
    have hpf := b.updatePool_fld (f := F.LRX_STAT_tx_active.on h) (by cases h <;> decide)
    rw [← heq] at hpool hpf
    generalize hu : (s.at t).txEndLh h acked giveUp reports = u at *
    have hradio (g : Bool) : u.radio g = a.radio g := by
      have h1 : u.lh = b.lh := (congrArg State.lh hpool :)
      have h2 : u.radio g = b.radio g := by unfold State.radio; rw [h1]
      have h3 : (d.wlnLatch h).radio g = a.radio g := by unfold State.radio; rw [hwlh, hlh]
      exact h2.trans ((hor g).trans h3)
    have hclients : Tbl.get? u.wl.clients k = some (c.answered m (bitN acked 0) (bitN giveUp 0)) := by
      have h1 : u.wl = b.wl := (congrArg State.wl hpool :)
      rw [h1, howl, hwwl]
      exact hcl
    have hup : u.pending = s.pending :=
      (show u.pending = b.pending from (congrArg State.pending hpool :)).trans (hop.trans (hwp.trans (hdp.trans hp)))
    refine ⟨u, run_eq_next (f := fun s => s.txEndLh h acked giveUp reports) hu hup, ?_, ?_, ?_, fun h1 => ?_, fun h1 h2 => ?_,
      fun h1 h2 => ?_, (hradio _).trans hother⟩
    · rw [hradio]; exact hptx
    · rw [hradio]; exact hpa
    · refine hpf.trans ((hof _ (by cases h <;> decide)).trans ((hwf _).trans ?_))
      exact (congrArg (·.fld (F.LRX_STAT_tx_active.on h)) hio).trans hact
    · rw [hclients, h1]; rfl
    · rw [hclients, h1, h2]; rfl
    · rw [hclients, h1, h2]; rfl
  case noCut =>
    refine run_eq_next (f := fun s => s.txCutLh h) (if_pos ?_) rfl
    rw [show (s.at t).outEnabled = true from hout, Bool.or_true]
  case cut =>
    obtain ⟨hptx, hpa, hq, hother, hact, -, hput, hp⟩ := (s.at t).lhPinsOff_leaves h
    have habort : (s.at t).lhAbort h = ((s.at t).lhPinsOff h).retryBack [] := by
      unfold State.lhAbort
      rw [show ((s.at t).radio h).tx = some (.wifi p start) from htx]
      dsimp only
      rw [State.ppduBack, hkey, hmp]
      rfl
    have heq : (s.at t).txCutLh h = (((s.at t).lhAbort h).count (F.LRX_ERR_cut.on h)).coxaOver h := by
      refine if_neg ?_
      rw [show ((s.at t).radio h).tx = some (.wifi p start) from htx, show (s.at t).outEnabled = false from hout]
      exact Bool.false_ne_true
    rw [habort] at heq
    obtain ⟨hor, -, hoo, hop, hof⟩ := State.coxaOver_leaves ((((s.at t).lhPinsOff h).retryBack []).count (F.LRX_ERR_cut.on h)) h
    rw [← heq] at hor hoo hop hof
    have hcount := State.fld_count_self (((s.at t).lhPinsOff h).retryBack []) (F.LRX_ERR_cut.on h) 1 (by cases h <;> decide)
    rw [(Fld.on_width F.LRX_ERR_cut h).1] at hcount
    have hwas : (((s.at t).lhPinsOff h).retryBack []).fld (F.LRX_ERR_cut.on h) = s.fld (F.LRX_ERR_cut.on h) :=
      State.fld_setFld_off _ _ (F.LRX_STAT_tx_active.on h) _ (by cases h <;> decide)
    rw [hwas] at hcount
    refine ⟨_, run_eq_next (f := fun s => s.txCutLh h) rfl (hop.trans hp), ?_, ?_, ?_, ?_, ?_, hoo.trans hput, (hor _).trans hother⟩
    · rw [hor]; exact hptx
    · rw [hor]; exact hpa
    · rw [hor]; exact hq
    · refine (hof _ (by cases h <;> decide)).trans ((State.fld_count_off _ _ _ _ (by cases h <;> decide)).trans hact)
    · exact (hof _ (by cases h <;> decide)).trans hcount

end Sys2Proof.Machine
end

-- ==== Claims of a unit whose peer is not alive (17_twin) ====
section
/-!
SUPPORT. What driving a new claim changes where the unit is alone.
-/

namespace Sys2Proof.Machine

/-! ### A new claim of a unit that is alone (R489, R495, R509) -/

/-- On the way from `a` to `b` only the claim of a unit whose peer is not alive was driven anew: the gate may have
closed, which takes the radios' pins to safe, and the holdoff been latched. -/
structure Reclaims (a b : State) : Prop where
  parts : { b with io := a.io, tw := a.tw, rs := a.rs, lh := a.lh } = a
  io : { b.io with eff := a.io.eff } = a.io
  tw : { b.tw with
    claim := a.tw.claim, gate := a.tw.gate, changedAt := a.tw.changedAt, preferred := a.tw.preferred
    servSince := a.tw.servSince, window := a.tw.window, revertSlot := a.tw.revertSlot, ownRose := a.tw.ownRose
    standDue := a.tw.standDue } = a.tw
  rs : b.rs = a.rs ∨ b.rs = a.rs.safe
  lh : b.lh = a.lh ∨ b.lh = a.lh.safe
  standDue : a.tw.standDue = true → b.tw.standDue = true
  eff : ∀ off, off ≠ F.TWN_HOLD_holdoff_s.off → b.io.eWord off = a.io.eWord off

theorem Reclaims.refl (s : State) : Reclaims s s := ⟨rfl, rfl, rfl, .inl rfl, .inl rfl, id, fun _ _ => rfl⟩

theorem Reclaims.trans {a b c : State} (h : Reclaims a b) (h' : Reclaims b c) : Reclaims a c := by
  obtain ⟨hp, hio, htw, hrs, hlh, hsd, heff⟩ := h
  obtain ⟨hp', hio', htw', hrs', hlh', hsd', heff'⟩ := h'
  refine ⟨?_, ?_, ?_, ?_, ?_, hsd' ∘ hsd, fun off hoff => (heff' off hoff).trans (heff off hoff)⟩
  · rw [← hp, ← hp']
  · rw [← hio, ← hio']
  · rw [← htw, ← htw']
  · rcases hrs' with e' | e'
    · rw [e']; exact hrs
    · rcases hrs with e | e
      · exact .inr (e'.trans (congrArg Rs.safe e))
      · exact .inr (e'.trans (congrArg Rs.safe e :))
  · rcases hlh' with e' | e'
    · rw [e']; exact hlh
    · rcases hlh with e | e
      · exact .inr (e'.trans (congrArg Lh.safe e))
      · exact .inr (e'.trans (congrArg Lh.safe e :))

section
variable {a b : State} (h : Reclaims a b)
include h

theorem Reclaims.word (off : Nat) : b.word off = a.word off :=
  (congrArg (fun io : Io => io.word off) h.io :)

theorem Reclaims.fld (f : Fld) : b.fld f = a.fld f := congrArg f.of (h.word f.off)

theorem Reclaims.flag (f : Fld) : b.flag f = a.flag f := congrArg (· != 0) (h.fld f)

theorem Reclaims.hf : b.io.hf = a.io.hf := (congrArg Io.hf h.io :)

/-- A part of the state that is none of the interface, the twin, and the radios. -/
theorem Reclaims.part {α : Type} (g : State → α)
    (hg : ∀ (s : State) (io : Io) (tw : Tw) (rs : Rs) (lh : Lh), g { s with io := io, tw := tw, rs := rs, lh := lh } = g s) :
    g b = g a := by
  rw [← hg b a.io a.tw a.rs a.lh, h.parts]

theorem Reclaims.alone (ha : Alone a) : Alone b := by
  obtain ⟨hrole, hpeer⟩ := ha
  exact ⟨(congrArg Tw.role h.tw :).trans hrole, (congrArg (fun x : Tw => bitN x.claimIn 3) h.tw :).trans hpeer⟩

/-- What makes the unit dead still does. -/
theorem Reclaims.dead (hdead : a.aliveNow = false) : b.aliveNow = false := by
  have hpw : b.pw = a.pw := h.part State.pw fun _ _ _ _ _ => rfl
  have htp : b.tp = a.tp := h.part State.tp fun _ _ _ _ _ => rfl
  have hnv : b.nv = a.nv := h.part State.nv fun _ _ _ _ _ => rfl
  unfold State.aliveNow at *
  rw [hpw, htp, hnv]
  have hsd := h.standDue
  cases ha : a.tw.standDue with
  | false =>
    simp only [ha, Bool.not_false, Bool.and_true] at hdead
    cases b.tw.standDue with
    | false => simpa using hdead
    | true => simp
  | true => simp [hsd ha]

end

/-- The closed gate, where the role does not follow. -/
def State.gateShut (s : State) : State :=
  { s with tw := { s.tw with gate := false }, rs := s.rs.safe, lh := s.lh.safe }

theorem State.closeGate_alone {s : State} (h : Alone s) (cause : Nat) : s.closeGate cause = s.gateShut := by
  obtain ⟨hrole, hpeer⟩ := h
  have hsame : s.gateShut.roleOf = s.gateShut.tw.role := (if_pos (by rw [Bool.not_eq_true']; exact hpeer)).trans hrole.symm
  exact if_pos hsame

/-- What `reclaim` records of being serviceable. -/
def State.servNoted (s : State) : State :=
  let serv := s.servNow
  let s := if serv && s.tw.servSince.isNone then s.latchFld F.TWN_HOLD_holdoff_s else s
  let tw : Tw := if serv then { s.tw with servSince := some (s.tw.servSince.getD s.now) }
    else { s.tw with servSince := none, preferred := false, revertSlot := none }
  { s with tw := tw }

/-- The new claim, driven. -/
def State.claimDriven (s : State) : State :=
  { s with tw := { s.tw with claim := s.claimNow, changedAt := s.now, ownRose := decide (s.tw.claim < s.claimNow) } }

theorem State.reclaim_eq (s : State) (cause : Nat) : s.reclaim cause =
    if s.servNoted.claimNow = s.servNoted.tw.claim then s.servNoted
    else if s.servNoted.claimNow ≤ s.servNoted.tw.claimIn then s.servNoted.claimDriven.closeGate cause
    else s.servNoted.claimDriven := rfl

theorem Reclaims.latchFld (s : State) : Reclaims s (s.latchFld F.TWN_HOLD_holdoff_s) := by
  refine ⟨rfl, rfl, rfl, .inl rfl, .inl rfl, id, fun off hoff => ?_⟩
  exact Tbl.getD_putDef_ne _ _ _ _ (Ne.symm hoff)

theorem State.servNoted_leaves (s : State) : Reclaims s s.servNoted := by
  have hset (u : State) (b : Bool) : Reclaims u { u with
      tw := if b then { u.tw with servSince := some (u.tw.servSince.getD u.now) }
        else { u.tw with servSince := none, preferred := false, revertSlot := none } } := by
    cases b
    · exact ⟨rfl, rfl, rfl, .inl rfl, .inl rfl, id, fun _ _ => rfl⟩
    · exact ⟨rfl, rfl, rfl, .inl rfl, .inl rfl, id, fun _ _ => rfl⟩
  unfold State.servNoted
  dsimp only
  split
  · exact (Reclaims.latchFld s).trans (hset _ _)
  · exact hset _ _

theorem State.claimDriven_leaves (s : State) : Reclaims s s.claimDriven :=
  ⟨rfl, rfl, rfl, .inl rfl, .inl rfl, id, fun _ _ => rfl⟩

theorem State.gateShut_leaves (s : State) : Reclaims s s.gateShut :=
  ⟨rfl, rfl, rfl, .inr rfl, .inr rfl, id, fun _ _ => rfl⟩

theorem State.reclaim_leaves {s : State} (h : Alone s) (cause : Nat) : Reclaims s (s.reclaim cause) := by
  have hnoted := s.servNoted_leaves
  have hdriven := hnoted.trans s.servNoted.claimDriven_leaves
  rw [State.reclaim_eq]
  split
  · exact hnoted
  · split
    · rw [State.closeGate_alone (hdriven.alone h)]
      exact hdriven.trans (State.gateShut_leaves _)
    · exact hdriven

theorem State.claimFault_leaves {s : State} (h : Alone s) : Reclaims s s.claimFault := by
  unfold State.claimFault
  split
  · have hstand : Reclaims s { s with tw := { s.tw with standDue := true } } :=
      ⟨rfl, rfl, rfl, .inl rfl, .inl rfl, fun _ => rfl, fun _ _ => rfl⟩
    exact hstand.trans (State.reclaim_leaves (hstand.alone h) 1)
  · exact ⟨rfl, rfl, rfl, .inl rfl, .inl rfl, id, fun _ _ => rfl⟩

theorem State.claimFell_leaves {s : State} (h : Alone s) : Reclaims s s.claimFell := by
  have hclaim := State.reclaim_leaves h 1
  unfold State.claimFell
  dsimp only
  split
  · exact hclaim.trans (State.claimFault_leaves (hclaim.alone h))
  · exact hclaim

/-- The claim of a unit that is not alive falls to 0. -/
theorem State.reclaim_claim_of_dead {s : State} (h : Alone s) (hdead : s.aliveNow = false) (cause : Nat) :
    (s.reclaim cause).tw.claim = 0 := by
  have hnoted := s.servNoted_leaves
  have hnow : s.servNoted.claimNow = 0 := State.claimNow_of_dead (hnoted.dead hdead)
  have hdriven : s.servNoted.claimDriven.tw.claim = 0 := hnow
  rw [State.reclaim_eq]
  split
  next heq => exact heq.symm.trans hnow
  next =>
    split
    · rw [State.closeGate_alone ((hnoted.trans (State.claimDriven_leaves _)).alone h)]
      exact hdriven
    · exact hdriven

theorem State.claimFell_claim_of_dead {s : State} (h : Alone s) (hdead : s.aliveNow = false) : s.claimFell.tw.claim = 0 := by
  have hclaim := State.reclaim_leaves h 1
  have hzero := State.reclaim_claim_of_dead h hdead 1
  unfold State.claimFell
  dsimp only
  split
  · unfold State.claimFault
    split
    · have hstand : Reclaims (s.reclaim 1) { s.reclaim 1 with tw := { (s.reclaim 1).tw with standDue := true } } :=
        ⟨rfl, rfl, rfl, .inl rfl, .inl rfl, fun _ => rfl, fun _ _ => rfl⟩
      exact State.reclaim_claim_of_dead ((hclaim.trans hstand).alone h) ((hclaim.trans hstand).dead hdead) 1
    · exact hzero
  · exact hzero

end Sys2Proof.Machine
end

-- ==== Calibration of Radios L and H (11_radios_l_h) ====
section
/-!
SUPPORT. A calibration that succeeds, is repeated or stops the radio, and a tracking piece.
-/

namespace Sys2Proof.Machine

/-! ### Calibration and tracking of Radios L and H (R330 to R332) -/

/-- The two registers of a radio's calibration. -/
def lhCalRegs (h : Bool) : List Nat := [(F.LRX_STAT_cal.on h).off, (F.LRX_CAL_STAT_count.on h).off]

theorem Fld.on_off (f : Fld) (h : Bool) : (f.on h).off = f.off + (if h then 0x40000 else 0) := by cases h <;> rfl

/-- The registers that a good calibration writes. -/
def State.calNoted (s : State) (h : Bool) (temp : Int) : State :=
  (((s.setFld (F.LRX_STAT_cal_valid.on h) 1).setFld (F.LRX_STAT_lock.on h) 1).count
    (F.LRX_CAL_STAT_count.on h)).setFld (F.LRX_CAL_STAT_last_temp.on h) (codeN 8 temp)

/-- The channel's word is stored after a full calibration. -/
def State.calStored (s : State) (h : Bool) (kind : Nat) : State :=
  if kind = 2 then { s with nv := if h then { s.nv with calH := some (s.word (chanOff h)) }
    else { s.nv with calL := some (s.word (chanOff h)) } } else s

theorem RegsOnly.calNoted {a s : State} {h : Bool} (hs : RegsOnly a s (lhCalRegs h)) (temp : Int) :
    RegsOnly a (s.calNoted h temp) (lhCalRegs h) := by
  refine (((hs.setFld ?_ 1).setFld ?_ 1).count ?_ _).setFld ?_ _
  all_goals cases h <;> decide

theorem State.calNoted_fld (s : State) (h : Bool) (temp : Int) : let u := s.calNoted h temp
    u.fld (F.LRX_STAT_cal.on h) = s.fld (F.LRX_STAT_cal.on h) ∧ u.fld (F.LRX_STAT_cal_valid.on h) = 1 ∧
      u.fld (F.LRX_STAT_lock.on h) = 1 ∧ u.fld (F.LRX_CAL_STAT_count.on h) =
        min (s.fld (F.LRX_CAL_STAT_count.on h) + 1) (2 ^ F.LRX_CAL_STAT_count.width - 1) ∧
      u.fld (F.LRX_CAL_STAT_last_temp.on h) = codeN 8 temp := by
  have hbefore (f : Fld) (hf : f.off ≠ (F.LRX_CAL_STAT_count.on h).off) : (s.calNoted h temp).fld f =
      ((s.setFld (F.LRX_STAT_cal_valid.on h) 1).setFld (F.LRX_STAT_lock.on h) 1).fld f :=
    (State.fld_setFld_off _ _ _ _ (by cases h <;> exact hf.symm)).trans (State.fld_count_off _ _ _ _ hf.symm)
  dsimp only
  refine ⟨(hbefore _ (by cases h <;> decide)).trans ?_, (hbefore _ (by cases h <;> decide)).trans ?_,
    (hbefore _ (by cases h <;> decide)).trans (State.fld_setFld_eq _ (by cases h <;> decide) (by cases h <;> decide)), ?_,
    State.fld_setFld_eq _ (by cases h <;> decide) (by cases h <;> exact codeN_lt 8 temp)⟩
  · rw [State.fld_setFld_ne _ _ (by cases h <;> decide) (by cases h <;> decide),
      State.fld_setFld_ne _ _ (by cases h <;> decide) (by cases h <;> decide)]
  · rw [State.fld_setFld_ne _ _ (by cases h <;> decide) (by cases h <;> decide),
      State.fld_setFld_eq _ (by cases h <;> decide) (by cases h <;> decide)]
  · unfold State.calNoted
    rw [State.fld_setFld_ne _ _ (by cases h <;> decide) (by cases h <;> decide), State.fld_count_self _ _ _ (by cases h <;> decide),
      State.fld_setFld_off _ _ _ _ (by cases h <;> decide), State.fld_setFld_off _ _ _ _ (by cases h <;> decide), (Fld.on_width _ h).1]

/-- The radio after a good calibration that no channel switch waited for. -/
def Radio.calDone (r : Radio) (now : Nat) (temp : Int) : Radio :=
  { r with repeated := false, trackAt := now, trackTemp := temp }

theorem State.calStored_radio (s : State) (h : Bool) (temp : Int) (kind : Nat) :
    ((s.calNoted h temp).calStored h kind).radio h = s.radio h := by
  unfold State.calStored
  split
  · rfl
  · rfl

theorem State.calGood_eq (s : State) (h : Bool) (kind : Nat) (temp : Int) (hsw : (s.radio h).switching = false) :
    s.calGood h kind temp =
      ((s.calNoted h temp).calStored h kind).setRadio h ((s.radio h).calDone s.now temp) := by
  have hradio : ({ s.radio h with
      repeated := false, switching := false, stopped := (s.radio h).stopped && !(s.radio h).switching
      trackAt := s.now, trackTemp := temp } : Radio) = (s.radio h).calDone s.now temp := by
    rw [hsw, Bool.not_false, Bool.and_true]
    unfold Radio.calDone
    rw [← hsw]
  have hnow : ((s.calNoted h temp).calStored h kind).now = s.now := by
    unfold State.calStored
    split
    · rfl
    · rfl
  rw [← hradio, ← hnow, ← s.calStored_radio h temp kind]
  rw [← s.calStored_radio h temp kind] at hsw
  exact if_neg (ne_true_of_eq_false hsw)

/-- What follows a good calibration: the channel switch that waited for it, and a calibration held back. -/
def State.calFollowed (s : State) (h : Bool) : State :=
  let s := match (s.radio h).switch with
    | some (_, _, 0) => (s.setRadio h { s.radio h with switch := none }).finishKey 0x0305 h.toNat stOK
    | _ => s
  let r := s.radio h
  if r.held = 0 then s
  else ((s.setRadio h { r with held := 0 }).setFld (F.LRX_CAL_STAT_pending.on h) 0).calBegin h r.held

theorem State.calFollowed_none {s : State} {h : Bool} (hnone : (s.radio h).switch = none) (hheld : (s.radio h).held = 0) :
    s.calFollowed h = s := by
  unfold State.calFollowed
  rw [hnone]
  exact if_pos hheld

theorem State.calDone_eq {s : State} {h : Bool} (hk : s.fld (F.LRX_STAT_cal.on h) = 1 ∨ s.fld (F.LRX_STAT_cal.on h) = 2)
    (hat : (s.radio h).calAt ≤ s.now) (ok : Bool) (temp : Int) : let b := s.setFld (F.LRX_STAT_cal.on h) 0
    let f := b.setFld (F.LRX_CAL_STAT_failed.on h) 1
    s.calDone h ok temp = if ok then (b.calGood h (s.fld (F.LRX_STAT_cal.on h)) temp).calFollowed h
      else if (s.radio h).repeated then f.lhStops h
      else (f.setRadio h { s.radio h with repeated := true }).calBegin h (s.fld (F.LRX_STAT_cal.on h)) := by
  have hgo : ¬ ((s.fld (F.LRX_STAT_cal.on h) ≠ 1 ∧ s.fld (F.LRX_STAT_cal.on h) ≠ 2) ∨ s.now < (s.radio h).calAt) := by omega
  cases ok <;> exact (if_neg hgo).trans rfl

/-- With nothing held back and no channel switch waiting, a good calibration ends with its record. -/
theorem State.calDone_good {s : State} {h : Bool} {temp : Int}
    (hk : s.fld (F.LRX_STAT_cal.on h) = 1 ∨ s.fld (F.LRX_STAT_cal.on h) = 2) (hat : (s.radio h).calAt ≤ s.now)
    (hsw : (s.radio h).switching = false) (hnone : (s.radio h).switch = none) (hheld : (s.radio h).held = 0) :
    s.calDone h true temp = ((((s.setFld (F.LRX_STAT_cal.on h) 0).calNoted h temp).calStored h
      (s.fld (F.LRX_STAT_cal.on h))).setRadio h ((s.radio h).calDone s.now temp)) := by
  rw [State.calDone_eq hk hat, if_pos rfl, State.calGood_eq _ h _ temp (show ((s.setFld _ 0).radio h).switching = false from hsw)]
  have hr := (State.radio_setRadio (((s.setFld (F.LRX_STAT_cal.on h) 0).calNoted h temp).calStored h (s.fld (F.LRX_STAT_cal.on h))) h
    ((s.radio h).calDone s.now temp)).1
  exact State.calFollowed_none ((congrArg Radio.switch hr).trans hnone) ((congrArg Radio.held hr).trans hheld)

/-- A first failure repeats the calibration. -/
theorem State.calDone_repeats {s : State} {h : Bool} {temp : Int}
    (hk : s.fld (F.LRX_STAT_cal.on h) = 1 ∨ s.fld (F.LRX_STAT_cal.on h) = 2) (hat : (s.radio h).calAt ≤ s.now)
    (hfirst : (s.radio h).repeated = false)
    (hfree : h = true ∨ s.fld (F.LRX_STAT_cal.on h) = 2 ∨ s.fld F.PWR_RADIO_PERS_l_eff ≠ 2) :
    s.calDone h false temp = ((((s.setFld (F.LRX_STAT_cal.on h) 0).setFld (F.LRX_CAL_STAT_failed.on h) 1).setRadio h
      { s.radio h with repeated := true }).setRadio h
        { ({ s.radio h with repeated := true } : Radio).swStart with calAt := s.now }).setFld (F.LRX_STAT_cal.on h)
          (s.fld (F.LRX_STAT_cal.on h)) := by
  rw [State.calDone_eq hk hat, if_neg Bool.false_ne_true, if_neg (ne_true_of_eq_false hfirst)]
  generalize hc : ((s.setFld (F.LRX_STAT_cal.on h) 0).setFld (F.LRX_CAL_STAT_failed.on h) 1).setRadio h
    { s.radio h with repeated := true } = c
  have hr : c.radio h = { s.radio h with repeated := true } := hc ▸ (State.radio_setRadio _ h _).1
  have hnow : c.now = s.now := hc ▸ rfl
  have heff : c.fld F.PWR_RADIO_PERS_l_eff = s.fld F.PWR_RADIO_PERS_l_eff := by
    have h1 : c.word 0x010004 = s.word 0x010004 := by
      rw [← hc]
      show ((s.setFld (F.LRX_STAT_cal.on h) 0).setFld (F.LRX_CAL_STAT_failed.on h) 1).word 0x010004 = _
      rw [State.word_setFld_off _ _ _ (by cases h <;> decide), State.word_setFld_off _ _ _ (by cases h <;> decide)]
    exact congrArg (Fld.of F.PWR_RADIO_PERS_l_eff) h1
  have hbar : ¬ ((!h && decide (s.fld (F.LRX_STAT_cal.on h) = 1) && c.reserves) = true) := by
    unfold State.reserves
    rw [heff]
    rcases hfree with rfl | h2 | h3
    · simp
    · simp [h2]
    · simp [h3]
  rw [← hr, ← hnow]
  exact if_neg hbar

/-- A radio that has stopped, with nothing on air and nothing queued. -/
def Radio.halted (r : Radio) : Radio :=
  { r with queue := r.queue.filter fun p => p.key.isSome, stopped := true, switching := false, held := 0, repeated := false }

/-- The radio's registers where it stops: a fault, and no calibration waits. -/
def State.radioFaulty (s : State) (h : Bool) : State :=
  ((s.setFld (radioEff h) 0).setFld (F.LRX_CAL_STAT_pending.on h) 0).setFld F.TEL_FAULT_radio 1

theorem State.lhStops_idle {s : State} {h : Bool} (htx : (s.radio h).tx = none) (hq : (s.radio h).queue = [])
    (hsw : (s.radio h).switch = none) : s.lhStops h =
      ((((s.setRadio h (s.radio h).halted).radioFaulty h).faultEv 0x3 (if h then 15 else 14) 0).claimFell) := by
  have habort : s.lhAbort h = s := by
    unfold State.lhAbort
    rw [htx]
  unfold State.lhStops State.lhFlush
  rw [habort]
  dsimp only
  rw [hq]
  cases h
  · exact congrArg (fun z : State => (z.faultEv 0x3 14 0).claimFell)
      ((if_neg (by rw [Option.not_isSome_iff_eq_none]; exact hsw)).trans (by rw [Radio.halted, hq]; rfl))
  · exact congrArg (fun z : State => (z.faultEv 0x3 15 0).claimFell)
      ((if_neg (by rw [Option.not_isSome_iff_eq_none]; exact hsw)).trans (by rw [Radio.halted, hq]; rfl))

theorem Lh.safe_stopped (x : Lh) : x.safe.l.stopped = x.l.stopped ∧ x.safe.h.stopped = x.h.stopped := ⟨rfl, rfl⟩

theorem Reclaims.stopped {a b : State} (hab : Reclaims a b) (h : Bool) : (b.radio h).stopped = (a.radio h).stopped := by
  unfold State.radio
  rcases hab.lh with e | e
  · rw [e]
  · rw [e]
    cases h
    · exact a.lh.safe_stopped.1
    · exact a.lh.safe_stopped.2

/-- A radio that stops: its fault stands, and it serves no more. -/
theorem State.lhStops_leaves {s : State} {h : Bool} (htx : (s.radio h).tx = none) (hq : (s.radio h).queue = [])
    (hsw : (s.radio h).switch = none) (halone : Alone s) : let u := s.lhStops h
    (u.radio h).stopped = true ∧ u.fld (radioEff h) = 0 ∧ u.fld F.TEL_FAULT_radio = 1 ∧
      u.fld (F.LRX_STAT_cal.on h) = s.fld (F.LRX_STAT_cal.on h) := by
  dsimp only
  rw [State.lhStops_idle htx hq hsw]
  let b := s.setRadio h (s.radio h).halted
  have hnotes : Notes (b.radioFaulty h) ((b.radioFaulty h).faultEv 0x3 (if h then 15 else 14) 0) := (Notes.refl _).faultEv _ _ _
  generalize (b.radioFaulty h).faultEv 0x3 (if h then 15 else 14) 0 = f at hnotes
  have htw : f.tw = s.tw := hnotes.part State.tw fun _ _ _ => rfl
  have hclaim : Reclaims f f.claimFell := State.claimFell_leaves (by
    unfold Alone State.peerAlive at *
    rw [htw]
    exact halone)
  have hlh : f.lh = b.lh := hnotes.part State.lh fun _ _ _ => rfl
  have hself := (State.radio_setRadio s h (s.radio h).halted).1
  have hfld (g : Fld) (hg : postedAt g.off = false) : f.claimFell.fld g = (b.radioFaulty h).fld g :=
    (hclaim.fld g).trans (hnotes.fld hg)
  refine ⟨(hclaim.stopped h).trans ?_, (hfld _ (by cases h <;> decide)).trans ?_, (hfld _ (by decide)).trans ?_,
    (hfld _ (by cases h <;> decide)).trans ?_⟩
  · unfold State.radio
    rw [hlh]
    exact congrArg Radio.stopped hself
  · unfold State.radioFaulty
    rw [State.fld_setFld_off _ _ _ _ (by cases h <;> decide), State.fld_setFld_off _ _ _ _ (by cases h <;> decide)]
    exact State.fld_setFld_eq _ (by cases h <;> decide) (by cases h <;> decide)
  · exact State.fld_setFld_eq _ (by decide) (by decide)
  · unfold State.radioFaulty
    rw [State.fld_setFld_off _ _ _ _ (by cases h <;> decide), State.fld_setFld_off _ _ _ _ (by cases h <;> decide),
      State.fld_setFld_off _ _ _ _ (by cases h <;> decide)]
    rfl

theorem State.calStored_io (s : State) (h : Bool) (kind : Nat) : (s.calStored h kind).io = s.io := by
  unfold State.calStored
  split
  · rfl
  · rfl

theorem State.calStored_nv (s : State) (h : Bool) (kind : Nat) :
    (kind = 2 → (if h then (s.calStored h kind).nv.calH else (s.calStored h kind).nv.calL) = some (s.word (chanOff h))) ∧
      (kind = 1 → (s.calStored h kind).nv = s.nv) := by
  refine ⟨fun hk => ?_, fun hk => ?_⟩
  · unfold State.calStored
    rw [if_pos hk]
    cases h
    · rfl
    · rfl
  · unfold State.calStored
    rw [if_neg (by omega)]

/-- A good calibration, with what it stores: only the radio, the memory and its two registers. -/
theorem RegsOnly.calStored {a s : State} {h : Bool} {l : List Nat} (hs : RegsOnly a s l) (kind : Nat) (r : Radio) :
    let u := (s.calStored h kind).setRadio h r
    RegsOnly { a with lh := u.lh, nv := u.nv } u l := by
  obtain ⟨hparts, hio, hword⟩ := hs
  dsimp only
  refine ⟨?_, (congrArg (fun io : Io => { io with regs := a.io.regs }) (s.calStored_io h kind) :).trans hio, fun off hoff =>
    (congrArg (fun io : Io => io.word off) (s.calStored_io h kind) :).trans (hword off hoff)⟩
  have hset := (congrArg (fun z : State => { z with
    lh := ((s.calStored h kind).setRadio h r).lh, nv := ((s.calStored h kind).setRadio h r).nv }) hparts :)
  refine Eq.trans ?_ hset
  unfold State.calStored
  split
  · rfl
  · rfl

/-- A tracking cycle's last piece is recorded. -/
theorem State.trackPiece_due {s : State} {h : Bool} {temp : Int} (hserves : s.lhServes h = true) (hgap : s.calGap h = true)
    (hdue : (max 2 (s.fld (F.LRX_CAL_CFG_temp_delta.on h)) : Int) ≤ temp - (s.radio h).trackTemp) :
    s.trackPiece h true temp = ((s.count (F.LRX_CAL_STAT_count.on h)).setFld (F.LRX_CAL_STAT_last_temp.on h)
      (codeN 8 temp)).setRadio h { s.radio h with trackAt := s.now, trackTemp := temp } := by
  have hdelta : ((max 2 (s.fld (F.LRX_CAL_CFG_temp_delta.on h)) : Nat) : Int) ≤ temp - (s.radio h).trackTemp := by
    rw [Nat.cast_max]
    exact hdue
  refine if_neg ?_
  rw [hserves, hgap, decide_eq_true hdelta]
  simp

/-- Settles O45: a calibration that succeeds, one that is repeated, one that stops the radio, and tracking. -/
theorem calibrationOfLAndH : Obligations.CalibrationOfLAndH := by
  intro t h temp s
  refine ⟨fun hk hat => ⟨fun hsw hnone hheld => ?good, fun hfirst hfree => ?again, fun hrep htx hq hsw halone hshut => ?stops⟩,
    fun hserves hgap hdue => ⟨?due, ?piece⟩⟩
  case good =>
    have heq := State.calDone_good (s := s.at t) (temp := temp) hk hat hsw hnone hheld
    obtain ⟨hcal, hvalid, hlock, hcount, htemp⟩ := ((s.at t).setFld (F.LRX_STAT_cal.on h) 0).calNoted_fld h temp
    have hregs : RegsOnly s (((s.at t).setFld (F.LRX_STAT_cal.on h) 0).calNoted h temp) (lhCalRegs h) :=
      ((RegsOnly.at s t _).setFld (by cases h <;> decide) 0).calNoted temp
    have hchan : (((s.at t).setFld (F.LRX_STAT_cal.on h) 0).calNoted h temp).word (chanOff h) = s.word (chanOff h) :=
      hregs.2.2 _ (by cases h <;> decide)
    have hcal0 : ((s.at t).setFld (F.LRX_STAT_cal.on h) 0).fld (F.LRX_STAT_cal.on h) = 0 :=
      State.fld_setFld_eq _ (by cases h <;> decide) (by cases h <;> decide)
    have hcount0 : ((s.at t).setFld (F.LRX_STAT_cal.on h) 0).fld (F.LRX_CAL_STAT_count.on h) = s.fld (F.LRX_CAL_STAT_count.on h) :=
      State.fld_setFld_off _ _ _ _ (by cases h <;> decide)
    have hnv0 : (((s.at t).setFld (F.LRX_STAT_cal.on h) 0).calNoted h temp).nv = s.nv := rfl
    have hpend : ((((s.at t).setFld (F.LRX_STAT_cal.on h) 0).calNoted h temp).calStored h (s.fld (F.LRX_STAT_cal.on h))).pending =
        s.pending := by
      unfold State.calStored
      split
      · rfl
      · rfl
    have hother : ((((s.at t).setFld (F.LRX_STAT_cal.on h) 0).calNoted h temp).calStored h (s.fld (F.LRX_STAT_cal.on h))).radio (!h) =
        s.radio (!h) := by
      unfold State.calStored
      split
      · rfl
      · rfl
    generalize ((s.at t).setFld (F.LRX_STAT_cal.on h) 0).calNoted h temp = n at heq hcal hvalid hlock hcount htemp hregs hchan hnv0 hother hpend
    have hio := n.calStored_io h (s.fld (F.LRX_STAT_cal.on h))
    obtain ⟨hstored, hkept⟩ := n.calStored_nv h (s.fld (F.LRX_STAT_cal.on h))
    have hfld (f : Fld) : ((n.calStored h (s.fld (F.LRX_STAT_cal.on h))).setRadio h (((s.at t).radio h).calDone (s.at t).now temp)).fld f =
        n.fld f := congrArg (fun io : Io => io.fld f) hio
    obtain ⟨hself, hrest⟩ := State.radio_setRadio (n.calStored h (s.fld (F.LRX_STAT_cal.on h))) h
      (((s.at t).radio h).calDone (s.at t).now temp)
    exact ⟨_, run_eq_next (f := fun s => s.calDone h true temp) heq hpend, (hfld _).trans (hcal.trans hcal0), (hfld _).trans hvalid,
      (hfld _).trans hlock, (hfld _).trans (hcount.trans (by rw [hcount0])), (hfld _).trans htemp, hself, hrest.trans hother,
      fun hk2 => (hstored hk2).trans (congrArg some hchan), fun hk1 => (hkept hk1).trans hnv0, hregs.calStored _ _⟩
  case again =>
    have heq := State.calDone_repeats (s := s.at t) (temp := temp) hk hat hfirst hfree
    let f := ((s.at t).setFld (F.LRX_STAT_cal.on h) 0).setFld (F.LRX_CAL_STAT_failed.on h) 1
    let a := f.setRadio h { s.radio h with repeated := true }
    let r : Radio := { ({ s.radio h with repeated := true } : Radio).swStart with calAt := (s.at t).now }
    obtain ⟨hself, hrest⟩ := State.radio_setRadio a h r
    have hregs : RegsOnly { s with lh := (a.setRadio h r).lh } (a.setRadio h r) (lhCalRegs h) := by
      have hf : RegsOnly s f (lhCalRegs h) :=
        ((RegsOnly.at s t _).setFld (by cases h <;> decide) 0).setFld (by cases h <;> decide) 1
      obtain ⟨hparts, hio, hword⟩ := hf
      exact ⟨(congrArg (fun z : State => { z with lh := (a.setRadio h r).lh }) hparts :), hio, hword⟩
    have hkind : s.fld (F.LRX_STAT_cal.on h) < 2 ^ (F.LRX_STAT_cal.on h).width := by
      rw [(Fld.on_width _ h).1]
      exact lt_of_le_of_lt (show _ ≤ 2 by omega) (by decide)
    refine ⟨_, run_eq_next (f := fun s => s.calDone h false temp) heq rfl, State.fld_setFld_eq _ (by cases h <;> decide) hkind,
      ?_, ?_, ?_, hrest.trans (State.radio_setRadio f h _).2, hregs.setFld (by cases h <;> decide) _⟩
    · rw [State.fld_setFld_off _ _ _ _ (by cases h <;> decide)]
      exact (State.fld_setFld_eq _ (by cases h <;> decide) (by cases h <;> decide) : f.fld _ = 1)
    · refine (congrArg Radio.repeated hself).trans ?_
      show Radio.repeated (Radio.swStart _) = true
      unfold Radio.swStart
      split
      · rfl
      · rfl
    · exact congrArg Radio.calAt hself
  case stops =>
    have heq := State.calDone_eq (s := s.at t) hk hat false temp
    dsimp only at heq
    rw [if_neg Bool.false_ne_true, if_pos (show ((s.at t).radio h).repeated = true from hrep)] at heq
    obtain ⟨hstop, heff, hfault, hcal⟩ := State.lhStops_leaves
      (s := ((s.at t).setFld (F.LRX_STAT_cal.on h) 0).setFld (F.LRX_CAL_STAT_failed.on h) 1) htx hq hsw halone
    rw [← heq] at hstop heff hfault hcal
    refine ⟨_, rfl, hstop, heff, hfault, hcal.trans ?_⟩
    rw [State.fld_setFld_off _ _ _ _ (by cases h <;> decide)]
    exact State.fld_setFld_eq _ (by cases h <;> decide) (by cases h <;> decide)
  case due =>
    have heq := State.trackPiece_due (s := s.at t) hserves hgap hdue
    let b := ((s.at t).count (F.LRX_CAL_STAT_count.on h)).setFld (F.LRX_CAL_STAT_last_temp.on h) (codeN 8 temp)
    let r : Radio := { (s.at t).radio h with trackAt := (s.at t).now, trackTemp := temp }
    obtain ⟨hself, hrest⟩ := State.radio_setRadio b h r
    have hb : RegsOnly s b [(F.LRX_CAL_STAT_count.on h).off] :=
      ((RegsOnly.at s t _).count (by cases h <;> decide) 1).setFld (by cases h <;> decide) _
    have htemp : b.fld (F.LRX_CAL_STAT_last_temp.on h) = codeN 8 temp :=
      State.fld_setFld_eq _ (by cases h <;> decide) (by cases h <;> exact codeN_lt 8 temp)
    obtain ⟨hparts, hio, hword⟩ := hb
    have hother : b.radio (!h) = s.radio (!h) := rfl
    have hpend : b.pending = s.pending := rfl
    have hpart : { b.setRadio h r with now := s.now, io := s.io } = { s with lh := (b.setRadio h r).lh } :=
      (congrArg (fun z : State => { z with lh := (b.setRadio h r).lh }) hparts :)
    have hset : (s.at t).trackPiece h true temp = b.setRadio h r := heq
    generalize b = b at hself hrest hother htemp hio hword hpend hpart hset
    exact ⟨_, run_eq_next (f := fun s => s.trackPiece h true temp) hset hpend, hself, hrest.trans hother, htemp, hpart, hio, hword⟩
  case piece =>
    refine run_eq_next (f := fun s => s.trackPiece h false temp) (if_pos ?_) rfl
    simp

end Sys2Proof.Machine
end

-- ==== MODE_REQUEST in Full (02_modes_power_start) ====
section
/-!
SUPPORT. What an accepted request begins, and the rows of R55.
-/

namespace Sys2Proof.Machine

/-! ### MODE_REQUEST in Full (R54, R55) -/

/-- On the way from `s` to `u` a move has begun: besides the power state, the twin's record of the announced absence and
alarm 0 nothing changed, and the answer can still be written. -/
structure Begins (s u : State) (tr : Trans) : Prop where
  host : HostOnly { s with pw := u.pw, tw := u.tw } u [0x030020, 0x030024]
  reaches : Reaches s.io u.io
  deferred : u.io.hf.deferred = s.io.hf.deferred
  pending : u.pending = s.pending
  mode : u.pw.mode = s.pw.mode
  trans : u.pw.trans = some tr

/-- What comes before a move changes only alarm 0, the twin's record, and what is sent. -/
structure Prepares (s u : State) : Prop where
  host : HostOnly { s with tw := u.tw } u [0x030020, 0x030024]
  reaches : Reaches s.io u.io
  deferred : u.io.hf.deferred = s.io.hf.deferred

theorem Prepares.refl (s : State) : Prepares s s := ⟨HostOnly.refl s _, .refl _, rfl⟩

theorem State.armWake_prepares (s : State) (secs : Nat) : Prepares s (s.armWake secs) := by
  unfold State.armWake
  split
  · exact .refl s
  · refine ⟨?_, ?_, rfl⟩
    · exact (((HostOnly.refl s _).setFld (by decide) _).setFld (by decide) _).setFld (by decide) _
    · exact ((Reaches.setWord _ (by decide) _).trans (.setWord _ (by decide) _)).trans (.setWord _ (by decide) _)

theorem State.announceAbsence_parts (s : State) : ∃ (tw : Tw) (more : List Out),
    s.announceAbsence = { s with tw := tw, io := { s.io with out := more ++ s.io.out } } ∧ tw.role = s.tw.role := by
  unfold State.announceAbsence State.helloTx State.twinSend
  dsimp only
  split
  · exact ⟨_, [_], rfl, rfl⟩
  · exact ⟨_, [], rfl, rfl⟩

theorem Prepares.announceAbsence {s u : State} (h : Prepares s u) : Prepares s u.announceAbsence := by
  obtain ⟨⟨hparts, hword⟩, ⟨hhost, hring, ⟨more, hout⟩⟩, hdef⟩ := h
  obtain ⟨tw, new, heq, -⟩ := u.announceAbsence_parts
  rw [heq]
  refine ⟨⟨(congrArg (fun z : State => { z with tw := tw }) hparts :), hword⟩, ⟨hhost, hring, ⟨new ++ more, ?_⟩⟩, hdef⟩
  exact (congrArg (new ++ ·) hout).trans (List.append_assoc _ _ _).symm

/-- What was prepared leaves the power state, and the queue of commands. -/
theorem Prepares.part {s u : State} (h : Prepares s u) : u.pw = s.pw ∧ u.pending = s.pending := by
  obtain ⟨⟨hparts, -⟩, -, -⟩ := h
  exact ⟨(congrArg State.pw hparts :), (congrArg State.pending hparts :)⟩

theorem Prepares.begins {s u : State} (h : Prepares s u) (pw : Pw) {tr : Trans} (hmode : pw.mode = s.pw.mode)
    (htrans : pw.trans = some tr) : Begins s { u with pw := pw } tr := by
  have hpend := h.part.2
  obtain ⟨⟨hparts, hword⟩, hreach, hdef⟩ := h
  exact ⟨⟨(congrArg (fun z : State => { z with pw := pw }) hparts :), hword⟩, hreach, hdef, hpend, hmode, htrans⟩

theorem State.beginMove_hibernate {s : State} (hfull : s.pw.mode = .full) (a b wake : Nat) :
    Begins s (s.beginMove 0 a b wake) .toHibernate := by
  have hprep := (s.armWake_prepares wake).announceAbsence
  have hpw := hprep.part.1
  have hne : ¬ ((s.armWake wake).announceAbsence.pw.mode = .dusk) := by
    rw [hpw, hfull]
    decide
  have heq : s.beginMove 0 a b wake = (s.armWake wake).announceAbsence.moveTo .toHibernate := if_neg hne
  rw [heq]
  exact hprep.begins _ (congrArg Pw.mode hpw :) rfl

/-- A move that changes the power state, the twin's record and what is sent. -/
theorem Begins.of_parts (s : State) {pw : Pw} (tw : Tw) (more : List Out) {tr : Trans} (hmode : pw.mode = s.pw.mode)
    (htrans : pw.trans = some tr) :
    Begins s { s with pw := pw, tw := tw, io := { s.io with out := more ++ s.io.out } } tr :=
  ⟨⟨rfl, fun _ _ _ => rfl⟩, ⟨rfl, fun _ _ => rfl, ⟨more, rfl⟩⟩, rfl, rfl, hmode, htrans⟩

theorem State.beginMove_dusk (s : State) (a b wake : Nat) : Begins s (s.beginMove 4 a b wake) .toDusk := by
  let v : State := { s with pw := { s.pw with duskThenFull := a == 1, duskMemOnly := b == 1 } }
  have heq : s.beginMove 4 a b wake = if v.tw.role == .lead && v.peerServ then
      State.moveTo { v with tw := { v.tw with dusk := true, duskWait := none } } .toDusk
    else v.announceAbsence.moveTo .toDusk := rfl
  rw [heq]
  split
  · exact Begins.of_parts s (pw := { v.pw with trans := some .toDusk }) _ [] rfl rfl
  · obtain ⟨tw, more, hann, -⟩ := v.announceAbsence_parts
    rw [hann]
    exact Begins.of_parts s (pw := { v.pw with trans := some .toDusk }) tw more rfl rfl

theorem State.beginMove_toDoze (s : State) (a b wake : Nat) : Begins s (s.beginMove 1 a b wake) .toDoze :=
  Begins.of_parts s (pw := { s.pw with trans := some .toDoze }) s.tw [] rfl rfl

theorem State.beginMove_toDawn (s : State) (a b wake : Nat) : Begins s (s.beginMove 2 a b wake) .toDawn :=
  Begins.of_parts s (pw := { s.pw with trans := some .toDawn }) s.tw [] rfl rfl

/-- The command's rules, for operands in range. -/
theorem State.modeRequest_ready {s : State} {c : Cmd} (htarget : c.f 0 1 ≤ 4) (hopts : c.f 1 1 ≤ 3)
    (hopt : c.f 1 1 = 0 ∨ c.f 0 1 = 4) (hwake : c.f 4 4 = 0 ∨ c.f 0 1 = 0) (hz : c.zero 2 2 = true) (hz' : c.zero 8 16 = true)
    (hfull : s.pw.mode = .full) :
    s.modeRequest c = if s.moving then Reply.err s stUNSUPPORTED
      else if c.f 0 1 = 3 then Reply.ok s
      else if c.f 0 1 = 1 ∧ s.tw.role ≠ .solo then Reply.err s stUNSUPPORTED
      else if c.f 0 1 = 1 ∧ !s.flag F.PWR_RADIO_PERS_s_eff then Reply.err s stUNSUPPORTED
      else if c.f 0 1 = 4 ∧ !s.io.hf.deferred.isEmpty then Reply.err s stUNSUPPORTED
      else Reply.defer (s.beginMove (c.f 0 1) (c.f 1 1 % 2) (c.f 1 1 / 2) (c.f 4 4)) (c.f 0 1) := by
  have hbad : ¬ (4 < c.f 0 1 ∨ 3 < c.f 1 1 ∨ (c.f 1 1 ≠ 0 ∧ c.f 0 1 ≠ 4) ∨ (c.f 4 4 ≠ 0 ∧ c.f 0 1 ≠ 0) ∨ !c.zero 2 2 ∨ !c.zero 8 16) := by
    rw [hz, hz']
    simp only [Bool.not_true, Bool.false_eq_true, or_false]
    omega
  unfold State.modeRequest
  dsimp only
  rw [if_neg hbad]
  have htgt : s.isTarget (c.f 0 1) = decide (c.f 0 1 = 3) := by
    unfold State.isTarget
    rw [hfull]
    by_cases h3 : c.f 0 1 = 3
    · rw [h3]
      rfl
    · rw [decide_eq_false h3]
      simp only [Mode.code, Bool.and_eq_false_iff, beq_eq_false_iff_ne]
      exact .inl (Ne.symm h3)
  have hlist : s.moveListed (c.f 0 1) = (c.f 0 1 != 3) := by
    unfold State.moveListed
    rw [hfull]
  rw [htgt, hlist]
  by_cases h3 : c.f 0 1 = 3
  · simp only [h3, decide_true, if_true]
  · simp only [h3, decide_false, Bool.false_eq_true, if_false, ne_eq, Bool.not_eq_true', bne_eq_false_iff_eq]

/-- Settles O22: a request in Full by its target. -/
theorem modeRequestInFull : Obligations.ModeRequestInFull := by
  intro t c s hready hfull htarget hopts hopt hwake hz hz'
  have hop : 0x0003 ∈ opcodes := by decide
  have hms : modeStatus s.pw.mode 0x0003 = none := by
    rw [hfull]
    decide
  have hdoze : s.pw.mode = .doze → 0x0003 ∈ opcodesDoze := fun h => by
    rw [hfull] at h
    exact absurd h (by decide)
  have hrules := State.modeRequest_ready (s := s.found t c) htarget hopts hopt hwake hz hz' hfull
  have hmoving : (s.found t c).moving = s.moving := rfl
  have hdefd : (s.found t c).io.hf.deferred = s.io.hf.deferred := rfl
  rw [hmoving, hdefd] at hrules
  have answers (st : Nat) (hst : st ≠ stDEFERRED)
      (hr : (s.found t c).modeRequest c = { status := some st, st := s.found t c }) :
      ∃ u, exec (.modeRequest t c) s = .next u ∧ Answered s u c st ∧ HostOnly s u [] := by
    obtain ⟨u, hrun, hans, hhost, -⟩ := ringCommand_answered (h := fun s => s.modeRequest c)
      (r := { status := some st, st := s.found t c }) hready hop hms hdoze hr rfl (.refl _) hst rfl (.inl rfl)
      (HostOnly.found s t c [])
    exact ⟨u, hrun, hans, hhost⟩
  have begins {v : State} {tr : Trans} (hb : Begins (s.found t c) v tr)
      (hr : (s.found t c).modeRequest c = Reply.defer v (c.f 0 1)) :
      ∃ u, exec (.modeRequest t c) s = .next u ∧ Deferred s u c 0x0003 (c.f 0 1) ∧
        u.pw.mode = .full ∧ u.pw.trans = some tr ∧ u.ml = s.ml ∧ u.nv = s.nv ∧ u.pt = s.pt ∧ u.wl = s.wl := by
    obtain ⟨hhost, hreach, hdef, hpend, hmode, htrans⟩ := hb
    have hfrom : HostOnly { s with pw := v.pw, tw := v.tw } { s.found t c with pw := v.pw, tw := v.tw } [] :=
      ⟨rfl, (HostOnly.found s t c []).2⟩
    obtain ⟨u, hrun, hdfr, ⟨hparts, -⟩, -⟩ := ringCommand_deferred
      (h := fun s => s.modeRequest c) (r := Reply.defer v (c.f 0 1)) hready hop hms hdoze hr rfl hreach hdef hpend rfl rfl
      (hfrom.trans hhost)
    have hpw := (congrArg State.pw hparts :)
    exact ⟨u, hrun, hdfr, (congrArg Pw.mode hpw).trans (hmode.trans hfull), (congrArg Pw.trans hpw).trans htrans,
      (congrArg State.ml hparts :), (congrArg State.nv hparts :), (congrArg State.pt hparts :), (congrArg State.wl hparts :)⟩
  refine ⟨fun hm => ?moving, fun hm => ⟨fun h => ?same, fun h => ?hibernate, fun h hbar => ?barred, fun h hsolo heff => ?doze,
    fun h => ?dawn, fun h hd => ?busy, fun h hd => ?dusk⟩⟩
  case moving => exact answers _ (by decide) (hrules.trans (if_pos hm))
  all_goals rw [if_neg (ne_true_of_eq_false hm)] at hrules
  case same => exact answers _ (by decide) (hrules.trans (if_pos h))
  case hibernate =>
    simp only [h, Nat.reduceEqDiff, false_and, if_false] at hrules
    exact begins (State.beginMove_hibernate (s := s.found t c) hfull _ _ _) (by rw [hrules, h])
  case barred =>
    simp only [h, Nat.reduceEqDiff, true_and, if_false] at hrules
    rcases hbar with hrole | heff
    · exact answers _ (by decide) (hrules.trans (if_pos hrole))
    · have hflag : (s.found t c).flag F.PWR_RADIO_PERS_s_eff = false := State.flag_eq_false.mpr (by
        rw [s.found_fld t c (by simp only [F.PWR_RADIO_PERS_s_eff]; omega)]
        exact heff)
      rw [hflag] at hrules
      exact answers _ (by decide) (hrules.trans (by rw [Bool.not_false, if_pos rfl, ite_self]; rfl))
  case doze =>
    have hflag : (s.found t c).flag F.PWR_RADIO_PERS_s_eff = true := State.flag_eq_true.mpr (by
      rw [s.found_fld t c (by simp only [F.PWR_RADIO_PERS_s_eff]; omega), heff]
      decide)
    simp only [h, Nat.reduceEqDiff, true_and, false_and, if_false, hflag, Bool.not_true, Bool.false_eq_true] at hrules
    exact begins (State.beginMove_toDoze _ _ _ _) ((hrules.trans (if_neg (not_not.mpr hsolo))).trans (by rw [h]))
  case dawn =>
    simp only [h, Nat.reduceEqDiff, false_and, if_false] at hrules
    exact begins (State.beginMove_toDawn _ _ _ _) (by rw [hrules, h])
  case busy =>
    simp only [h, Nat.reduceEqDiff, false_and, true_and, if_false] at hrules
    exact answers _ (by decide) (hrules.trans (if_pos (by simpa using hd)))
  case dusk =>
    simp only [h, Nat.reduceEqDiff, false_and, true_and, if_false, hd, List.isEmpty_nil, Bool.not_true, Bool.false_eq_true] at hrules
    exact begins (State.beginMove_dusk _ _ _ _) (by rw [hrules, h])

end Sys2Proof.Machine
end

-- ==== What is given up when the radios and ports stop (02_modes_power_start) ====
section
/-!
SUPPORT. What stays the same while the radios, the ports and the data plane give up their work.
-/

namespace Sys2Proof.Machine

/-! ### What the radios, the ports and the queues may change when their work is given up

`Calm a b`: the clocks, the voter, the power state, the memories and the words `calmRegs` of their registers are in `b`
as in `a`; the peer's claim, the role and the loss of the host too. -/

/-- `CLK_STAT`, `CLK_FAIL`, `CLK_REF_COUNT`, `TPL_STAT`, `TPL_DISAGREE` and `HIF_GEN`. -/
def calmRegs : List Nat := [0x020000, 0x020004, 0x020024, 0x040000, 0x040004, 0x050004]

/-- The word of a calm register, and whether the host is lost, are the same. -/
structure CalmIo (a b : Io) : Prop where
  word : ∀ off ∈ calmRegs, b.word off = a.word off
  lost : b.hf.lost = a.hf.lost

theorem CalmIo.refl (io : Io) : CalmIo io io := ⟨fun _ _ => rfl, rfl⟩

theorem CalmIo.trans {a b c : Io} (h : CalmIo a b) (h' : CalmIo b c) : CalmIo a c :=
  ⟨fun off hoff => (h'.word off hoff).trans (h.word off hoff), h'.lost.trans h.lost⟩

theorem CalmIo.setWord (io : Io) {off : Nat} (h : off ∉ calmRegs) (w : Word) : CalmIo io (io.setWord off w) :=
  ⟨fun _ hx => Io.word_setWord_ne io w fun e => h (e ▸ hx), rfl⟩

theorem Posts.calm {a b : Io} (h : Posts a b) : CalmIo a b := by
  refine ⟨fun off hoff => h.word off ?_, (congrArg Hif.lost h.hf :)⟩
  revert off
  decide

structure Calm (a b : State) : Prop where
  parts : { b with
    io := a.io, rs := a.rs, ml := a.ml, lh := a.lh, wl := a.wl, pt := a.pt, sr := a.sr, qm := a.qm, tw := a.tw } = a
  io : CalmIo a.io b.io
  role : b.tw.role = a.tw.role
  claimIn : b.tw.claimIn = a.tw.claimIn

theorem Calm.refl (s : State) : Calm s s := ⟨rfl, .refl _, rfl, rfl⟩

theorem Calm.trans {a b c : State} (h : Calm a b) (h' : Calm b c) : Calm a c := by
  obtain ⟨hp, hio, hr, hc⟩ := h
  obtain ⟨hp', hio', hr', hc'⟩ := h'
  refine ⟨?_, hio.trans hio', hr'.trans hr, hc'.trans hc⟩
  rw [← hp, ← hp']

/-- A part of the state that calm keeps. -/
theorem Calm.part {a b : State} (h : Calm a b) {α : Type} (g : State → α)
    (hg : ∀ (s : State) (io : Io) (rs : Rs) (ml : Ml) (lh : Lh) (wl : Wl) (pt : Pt) (sr : Sr) (qm : Qm) (tw : Tw),
      g { s with io := io, rs := rs, ml := ml, lh := lh, wl := wl, pt := pt, sr := sr, qm := qm, tw := tw } = g s) :
    g b = g a := by
  rw [← hg b a.io a.rs a.ml a.lh a.wl a.pt a.sr a.qm a.tw, h.parts]

theorem Calm.fld {a b : State} (h : Calm a b) {f : Fld} (hf : f.off ∈ calmRegs) : b.fld f = a.fld f :=
  congrArg f.of (h.io.word _ hf)

theorem Calm.alone {a b : State} (h : Calm a b) (ha : Alone a) : Alone b := by
  obtain ⟨hrole, hpeer⟩ := ha
  exact ⟨h.role.trans hrole, (congrArg (bitN · 3) h.claimIn :).trans hpeer⟩

section
variable {a b : State} (h : Calm a b)
include h

/-- The parts that calm leaves free. -/
theorem Calm.set (rs : Rs) (ml : Ml) (lh : Lh) (wl : Wl) (pt : Pt) (sr : Sr) (qm : Qm) :
    Calm a { b with rs := rs, ml := ml, lh := lh, wl := wl, pt := pt, sr := sr, qm := qm } :=
  h.trans ⟨rfl, .refl _, rfl, rfl⟩

theorem Calm.setRs (x : Rs) : Calm a { b with rs := x } := h.trans ⟨rfl, .refl _, rfl, rfl⟩

theorem Calm.setLh (x : Lh) : Calm a { b with lh := x } := h.trans ⟨rfl, .refl _, rfl, rfl⟩

theorem Calm.setMl (x : Ml) : Calm a { b with ml := x } := h.trans ⟨rfl, .refl _, rfl, rfl⟩

theorem Calm.setQm (x : Qm) : Calm a { b with qm := x } := h.trans ⟨rfl, .refl _, rfl, rfl⟩

theorem Calm.setSr (x : Sr) : Calm a { b with sr := x } := h.trans ⟨rfl, .refl _, rfl, rfl⟩

theorem Calm.setPt (x : Pt) : Calm a { b with pt := x } := h.trans ⟨rfl, .refl _, rfl, rfl⟩

theorem Calm.setRadio (x : Bool) (r : Radio) : Calm a (b.setRadio x r) := h.setLh _

/-- Only the interface. -/
theorem Calm.io_ {u : State} (hu : { u with io := b.io } = b) (hio : CalmIo b.io u.io) : Calm a u := by
  refine h.trans ⟨?_, hio, (congrArg (fun z : State => z.tw.role) hu :), (congrArg (fun z : State => z.tw.claimIn) hu :)⟩
  have hrs : u.rs = b.rs := (congrArg State.rs hu :)
  have hml : u.ml = b.ml := (congrArg State.ml hu :)
  have hlh : u.lh = b.lh := (congrArg State.lh hu :)
  have hwl : u.wl = b.wl := (congrArg State.wl hu :)
  have hpt : u.pt = b.pt := (congrArg State.pt hu :)
  have hsr : u.sr = b.sr := (congrArg State.sr hu :)
  have hqm : u.qm = b.qm := (congrArg State.qm hu :)
  have htw : u.tw = b.tw := (congrArg State.tw hu :)
  rw [← hrs, ← hml, ← hlh, ← hwl, ← hpt, ← hsr, ← hqm, ← htw]
  exact hu

theorem Calm.setWord {off : Nat} (hoff : off ∉ calmRegs) (w : Word) : Calm a (b.setWord off w) :=
  h.io_ rfl (.setWord _ hoff w)

theorem Calm.setFld {f : Fld} (hoff : f.off ∉ calmRegs) (v : Nat) : Calm a (b.setFld f v) := h.setWord hoff _

theorem Calm.count {f : Fld} (hoff : f.off ∉ calmRegs) (n : Nat) : Calm a (b.count f n) := h.setWord hoff _

theorem Calm.posts {u : State} (hu : { u with io := b.io } = b) (hio : Posts b.io u.io) : Calm a u := h.io_ hu hio.calm

theorem Calm.event (ty : Nat) (x : Bytes) : Calm a (b.event ty x) := h.posts rfl (Posts.event b.io b.now b.evOk ty x)

end

theorem Calm.each {α : Type} {f : State → α → State} {a b : State} (h : Calm a b) (l : List α)
    (hf : ∀ {c : State} (x : α), Calm a c → Calm a (f c x)) : Calm a (b.each l f) := by
  induction l generalizing b with
  | nil => exact h
  | cons x l ih => exact ih (hf x h)

/-! ### Radio S gives up its window and its transmission (R166, R174) -/

section
variable {a b : State} (h : Calm a b)
include h

theorem Calm.coxbGrant : Calm a b.coxbGrant := h.setFld (by decide) _

theorem Calm.rxPins : Calm a b.rxPins :=
  ((((h.setRs _).setFld (by decide) _).setFld (by decide) _).setFld (by decide) _).coxbGrant

theorem Calm.toCourier (f : RxFrame) : Calm a (b.toCourier f) :=
  ((h.setRs _).count (by decide) 1).count (by split <;> decide) 1

theorem Calm.truncate (p : Nat × DemodState) : Calm a (b.truncate p) := by
  unfold State.truncate
  split
  · exact (h.toCourier _).count (by decide) 1
  · exact h

theorem Calm.closeWindow : Calm a b.closeWindow := by
  unfold State.closeWindow
  split
  · exact h
  · have hstop : Calm a b.stopDemods := (h.each _ fun p hc => hc.truncate p).setRs _
    have hfrozen := ((hstop.setRs { b.stopDemods.rs with window := none }).setFld (f := F.SRX_STAT_frozen0) (by decide) 0).setFld
      (f := F.SRX_STAT_frozen1) (by decide) 0
    have hpins (v : State) (hv : Calm a v) : Calm a (if v.rs.paEn || v.rs.tx.any (·.started) then v
        else { v with rs := { v.rs with coxbReq := false, coxbPri := false } }).coxbGrant := by
      split
      · exact hv.coxbGrant
      · exact (hv.setRs _).coxbGrant
    exact hpins _ hfrozen

theorem Calm.noReceipt (addr : Nat) : Calm a (b.noReceipt addr) := by
  unfold State.noReceipt
  split
  · split
    · exact h.setMl _
    · exact h
  · exact h

theorem Calm.linkUnsent (c : Carrier) : Calm a (b.linkUnsent c) := by
  unfold State.linkUnsent
  split
  · rename_i addr defer _
    dsimp only
    split
    · exact (h.noReceipt addr).count (by decide) 1
    · exact h.noReceipt addr
  · exact h

theorem Calm.airRefund (x y : Nat → Nat) : Calm a (b.airRefund x y) := h.each _ fun _ hc => hc.setQm _

theorem Calm.txFinish (cs : List Carrier) (st : Nat) : Calm a (b.txFinish cs [] st) :=
  ((h.airRefund _ _).setRs _).each _ fun c hc => hc.linkUnsent c

theorem Calm.txCut : Calm a b.txCut := by
  unfold State.txCut
  split
  · exact h
  · dsimp only
    split
    · exact h
    · exact ((((h.airRefund _ _).setRs _).each _ fun c hc => hc.linkUnsent c).count (by decide) 1).rxPins

theorem Calm.txWithdraw : Calm a b.txWithdraw := by
  unfold State.txWithdraw
  split
  · split
    · exact h.txCut
    · exact h.txFinish _ _
  · exact h

/-! ### Radios L and H give up what they send (R326, R333) -/

theorem Calm.retryBack (ms : List Mpdu) : Calm a (b.retryBack ms) := h.trans ⟨rfl, .refl _, rfl, rfl⟩

theorem Calm.lhPinsOff (x : Bool) : Calm a (b.lhPinsOff x) :=
  (h.setRadio x _).setFld (by cases x <;> decide) 0

theorem Calm.ppduBack (x : Bool) (p : Ppdu) : Calm a (b.ppduBack x p) := by
  unfold State.ppduBack
  dsimp only
  split
  · exact (h.retryBack _).setRadio _ _
  · exact h.retryBack _

theorem Calm.lhAbort (x : Bool) : Calm a (b.lhAbort x) := by
  unfold State.lhAbort
  split
  · exact h
  · exact (h.lhPinsOff x).ppduBack x _
  · exact (h.lhPinsOff x).each _ fun c hc => hc.linkUnsent c

theorem Calm.lhFlush (x : Bool) : Calm a (b.lhFlush x) := (h.setRadio x _).each _ fun p hc => hc.retryBack p.mpdus

theorem Calm.meshLate : Calm a b.meshLate := by
  unfold State.meshLate
  split
  · exact h
  · exact (h.setLh _).each _ fun c hc => hc.linkUnsent c

theorem Calm.radioStop : Calm a b.radioStop := by
  have hend (v : State) (hv : Calm a v) : Calm a { v with
      rs := { v.rs.safe with ready := none, rx := [] }, lh := { v.lh.safe with coxaReq := false, coxaPri := false } } :=
    hv.trans ⟨rfl, .refl _, rfl, rfl⟩
  exact hend _ ((((h.closeWindow.txWithdraw.lhAbort false).lhAbort true).lhFlush false).lhFlush true).meshLate

end

/-! ### The twin link and the host are lost (R482, R501) -/

section
variable {a b : State} (h : Calm a b)
include h

theorem Calm.twinDown : Calm a b.twinDown := by
  have hdown : Calm a { b with tw := { b.tw with
      link := .down, linkDownAt := b.now, peerSession := none, peerHeard := false } } := h.trans ⟨rfl, .refl _, rfl, rfl⟩
  have hsrc (v : State) (hv : Calm a v) : Calm a (if v.fld F.TWN_STAT_time_src = 1 then v.setFld F.TWN_STAT_time_src 0 else v) := by
    split
    · exact hv.setFld (by decide) 0
    · exact hv
  unfold State.twinDown
  split
  · exact h
  · have hv := hsrc _ hdown
    dsimp only at hv ⊢
    split
    · exact (hv.count (by decide) 1).event _ _
    · exact hv

theorem Calm.twinFault : Calm a b.twinFault := by
  unfold State.twinFault
  extract_lets dead was set
  have hset : Calm a set := (h.setFld (by decide) _).setFld (by decide) _
  split
  · exact hset.event _ _
  · exact hset

theorem Calm.linkGone : Calm a b.linkGone := by
  have hset : Calm a (((b.setFld F.HIF_STAT_link_up 0).setFld F.HIF_STAT_speed 0).setFld F.HIF_STAT_width 0) :=
    ((h.setFld (by decide) 0).setFld (by decide) 0).setFld (by decide) 0
  exact hset.trans ⟨rfl, ⟨fun _ _ => rfl, rfl⟩, rfl, rfl⟩

end

/-! ### The data plane gives up its work (R50, R51) -/

theorem Calm.wifiLost {a b : State} (h : Calm a b) : Calm a b.wifiLost :=
  (h.count (f := F.QMS_DROP_mode_drop) (by decide) _).set _ _ _ _ _ _ _

theorem Calm.lhDown {a b : State} (h : Calm a b) (pause : Bool) : Calm a (b.lhDown pause) := by
  unfold State.lhDown
  extract_lets flushed lost kept off
  have hlost : Calm a lost := ((((h.lhAbort false).lhAbort true).lhFlush false).lhFlush true).meshLate.wifiLost
  clear_value lost
  have hkept : Calm a kept := hlost.setLh _
  clear_value kept
  have hoff : Calm a off := (hkept.setFld (by decide) 0).setFld (by decide) 0
  clear_value off
  split
  · exact hoff
  · refine hoff.each _ fun x hc => ?_
    exact ((hc.setFld (by cases x <;> decide) 0).setFld (by cases x <;> decide) 0).setFld (by cases x <;> decide) 0

/-- On the way from `a` to `b` only the Ethernet ports, the Sorters, the queues and learned addresses changed, with their
registers. -/
structure Ports (a b : State) : Prop where
  parts : { b with io := a.io, pt := a.pt, sr := a.sr, qm := a.qm } = a
  io : CalmIo a.io b.io

theorem Ports.refl (s : State) : Ports s s := ⟨rfl, .refl _⟩

theorem Ports.trans {a b c : State} (h : Ports a b) (h' : Ports b c) : Ports a c := by
  obtain ⟨hp, hio⟩ := h
  obtain ⟨hp', hio'⟩ := h'
  refine ⟨?_, hio.trans hio'⟩
  rw [← hp, ← hp']

section
variable {a b : State} (h : Ports a b)
include h

theorem Ports.setQm (x : Qm) : Ports a { b with qm := x } := h.trans ⟨rfl, .refl _⟩

theorem Ports.setSr (x : Sr) : Ports a { b with sr := x } := h.trans ⟨rfl, .refl _⟩

theorem Ports.setPt (x : Pt) : Ports a { b with pt := x } := h.trans ⟨rfl, .refl _⟩

theorem Ports.setFld {f : Fld} (hoff : f.off ∉ calmRegs) (v : Nat) : Ports a (b.setFld f v) :=
  h.trans ⟨rfl, .setWord _ hoff _⟩

theorem Ports.count {f : Fld} (hoff : f.off ∉ calmRegs) (n : Nat) : Ports a (b.count f n) :=
  h.trans ⟨rfl, .setWord _ hoff _⟩

theorem Ports.event (ty : Nat) (x : Bytes) : Ports a (b.event ty x) :=
  h.trans ⟨rfl, (Posts.event b.io b.now b.evOk ty x).calm⟩

end

theorem Ports.each {α : Type} {f : State → α → State} {a b : State} (h : Ports a b) (l : List α)
    (hf : ∀ {c : State} (x : α), Ports a c → Ports a (f c x)) : Ports a (b.each l f) := by
  induction l generalizing b with
  | nil => exact h
  | cons x l ih => exact ih (hf x h)

section
variable {a b : State} (h : Ports a b)
include h

theorem Ports.updatePool : Ports a b.updatePool := by
  have htakes : Takes b b.updatePool := (Takes.refl b).updatePool
  have hparts := b.updatePool_parts
  refine h.trans ⟨?_, ⟨fun off hoff => htakes.word off ?_, (congrArg Hif.lost htakes.hf :)⟩⟩
  · have hsr := (congrArg (fun z : State => { z with pt := b.pt, qm := b.qm }) hparts :)
    exact hsr
  · revert off
    decide

theorem Ports.leaveRound (n : Nat) : Ports a (b.leaveRound n) := (h.setQm _).setQm _

theorem Ports.dropQueue (n : Nat) : Ports a (b.dropQueue n) := ((h.setQm _).leaveRound n).updatePool

theorem Ports.dropAll (keep : Nat → Bool) : Ports a (b.dropAll keep) := by
  refine h.each _ fun n hc => ?_
  dsimp only
  split
  · exact hc
  · exact (hc.dropQueue n).count (by decide) _

theorem Ports.tableEvent (t st op c d : Nat) (k : Bytes) : Ports a (b.tableEvent t st op c d k) := by
  unfold State.tableEvent
  split
  · exact h
  · exact h.event _ _

theorem Ports.changed (t op : Nat) (c : Option Nat) (d : Nat) (k : Bytes) : Ports a (b.changed t op c d k) := by
  have hseq : Ports a (b.seqNext t) := h.setFld (by simp only [F.PCT_SEQ_seq, calmRegs]; simp; omega) _
  unfold State.changed
  split
  · split
    · exact hseq
    · exact hseq.tableEvent _ _ _ _ _ _
  · exact hseq

theorem Ports.macForget (d : Nat) : Ports a (b.macForget d) := h.each _ fun _ hc => (hc.setPt _).changed _ _ _ _ _

end

/-- A word beyond those of the clocks, the voter and the generation. -/
theorem notCalm {off : Nat} (h : 0x060000 ≤ off) : off ∉ calmRegs := by
  simp only [calmRegs, List.mem_cons, List.not_mem_nil, or_false, not_or]
  omega

theorem Ports.ethDown {a b : State} (h : Ports a b) (p : Nat) : Ports a (b.ethDown p) := by
  unfold State.ethDown
  extract_lets off qs n dropped clear _ _ cleared forgotten
  have hoff : Ports a off := ((h.setFld (notCalm (by simp only [F.ETH_STAT_link]; omega)) 0).setFld
    (notCalm (by simp only [F.ETH_STAT_paused]; omega)) 0).setFld (notCalm (by simp only [F.ETH_STAT_xoff_sent]; omega)) 0
  clear_value off
  have hdropped : Ports a dropped :=
    (hoff.each _ fun n hc => hc.dropQueue n).count (notCalm (by simp only [F.ETH_DROP2_link_down]; omega)) _
  clear_value dropped
  have hcleared : Ports a cleared := hdropped.trans ⟨rfl, .refl _⟩
  clear_value cleared
  have hforgotten : Ports a forgotten := by
    unfold forgotten
    split
    · exact hcleared.macForget p
    · exact hcleared
  split
  · exact h
  · exact hforgotten.updatePool

theorem Ports.packetsLost {a b : State} (h : Ports a b) (pause : Bool) : Ports a (b.packetsLost pause) := by
  unfold State.packetsLost
  extract_lets data counted dropped ports off
  have hdropped : Ports a dropped := (h.count (f := F.QMS_DROP_mode_drop) (by decide) _).dropAll _
  clear_value dropped
  have hports : Ports a ports := by
    unfold ports
    split
    · exact hdropped
    · exact (hdropped.ethDown 0).ethDown 1
  clear_value ports
  have hoff : Ports a off := (hports.setFld (f := F.ETH_STAT_xoff_sent 0) (by decide) 0).setFld
    (f := F.ETH_STAT_xoff_sent 1) (by decide) 0
  clear_value off
  exact (hoff.setSr _).updatePool

theorem Ports.calm {a b : State} (h : Ports a b) : Calm a b := by
  obtain ⟨hparts, hio⟩ := h
  exact ⟨(congrArg (fun z : State => { z with rs := a.rs, ml := a.ml, lh := a.lh, wl := a.wl, tw := a.tw }) hparts :), hio,
    (congrArg (fun z : State => z.tw.role) hparts :), (congrArg (fun z : State => z.tw.claimIn) hparts :)⟩

/-! ### The data plane is lost at a move to Dawn (R50, R51, R361, R379, R422) -/

/-- On the way from `a` to `b` only the operating point changed. -/
structure Points (a b : State) : Prop where
  parts : { b with io := a.io, ck := a.ck } = a
  io : CalmIo a.io b.io
  ck : { b.ck with seqTo := a.ck.seqTo, vcore := a.ck.vcore } = a.ck

theorem Points.refl (s : State) : Points s s := ⟨rfl, .refl _, rfl⟩

theorem Points.trans {a b c : State} (h : Points a b) (h' : Points b c) : Points a c := by
  obtain ⟨hp, hio, hck⟩ := h
  obtain ⟨hp', hio', hck'⟩ := h'
  refine ⟨?_, hio.trans hio', ?_⟩
  · rw [← hp, ← hp']
  · rw [← hck, ← hck']

theorem Points.setFld {a b : State} (h : Points a b) {f : Fld} (hoff : f.off ∉ calmRegs) (v : Nat) : Points a (b.setFld f v) :=
  h.trans ⟨rfl, .setWord _ hoff _, rfl⟩

/-- A part of the state that the operating point is none of. -/
theorem Points.part {a b : State} (h : Points a b) {α : Type} (g : State → α)
    (hg : ∀ (s : State) (io : Io) (ck : Ck), g { s with io := io, ck := ck } = g s) : g b = g a := by
  rw [← hg b a.io a.ck, h.parts]

theorem State.opDone_points (s : State) : Points s s.opDone := by
  unfold State.opDone
  split
  · exact .refl s
  · have hset : Points s { s with ck := { s.ck with seqTo := none, vcore := vcoreOf (by assumption) } } := ⟨rfl, .refl _, rfl⟩
    exact ((hset.setFld (by decide) _).setFld (by decide) _).setFld (by decide) _

theorem State.opToZero_points (s : State) : Points s s.opToZero := by
  unfold State.opToZero
  extract_lets v ck w
  have hdone : Points s v := s.opDone_points
  clear_value v
  have hw : Points s w := hdone.trans ⟨rfl, .refl _, rfl⟩
  split
  · exact hdone
  · exact (hw.setFld (by decide) _).setFld (by decide) _

theorem Points.latchFld {a b : State} (h : Points a b) (f : Fld) : Points a (b.latchFld f) :=
  h.trans ⟨rfl, ⟨fun _ _ => rfl, rfl⟩, rfl⟩

theorem State.opStart_points (s : State) : Points s s.opStart := by
  unfold State.opStart
  extract_lets latched limit p op ck begun busy
  have hlimit : Points s limit := ((Points.refl s).latchFld _).setFld (by decide) _
  clear_value limit
  have hbegun : Points s begun := hlimit.trans ⟨rfl, .refl _, rfl⟩
  clear_value begun
  have hbusy : Points s busy := hbegun.setFld (by decide) _
  split
  · exact (Points.refl s).setFld (by decide) _
  · split
    · exact hlimit
    · split
      · exact hbusy
      · exact hbusy.setFld (by decide) _

theorem Points.alone {a b : State} (h : Points a b) (ha : Alone a) : Alone b := by
  obtain ⟨hrole, hpeer⟩ := ha
  have htw : b.tw = a.tw := h.part State.tw fun _ _ _ => rfl
  exact ⟨(congrArg Tw.role htw :).trans hrole, (congrArg (fun x : Tw => bitN x.claimIn 3) htw :).trans hpeer⟩

/-- What is left once the engines of the data and control planes have lost what they held. -/
structure DataGone (s u : State) (pause : Bool) : Prop where
  parts : { u with
    io := s.io, pw := s.pw, ck := s.ck, tp := s.tp, rs := s.rs, ml := s.ml, mn := s.mn, lh := s.lh, wl := s.wl, pt := s.pt
    sr := s.sr, qm := s.qm, tw := s.tw, up := s.up } = s
  io : CalmIo s.io u.io
  pw : u.pw = { s.pw with held := [], dram := s.pw.dram && pause }
  ck : { u.ck with seqTo := s.ck.seqTo, vcore := s.ck.vcore } = s.ck
  role : u.tw.role = s.tw.role
  claimIn : u.tw.claimIn = s.tw.claimIn
  mac : u.pt.mac = []
  clients : u.wl.clients = []
  up : u.up = if pause then s.up else { s.up with copyA := false, copyB := false }

theorem State.lhDown_clients (s : State) (pause : Bool) : (s.lhDown pause).wl.clients = [] := by
  unfold State.lhDown
  extract_lets flushed lost kept off
  have hlost : lost.wl.clients = [] := rfl
  clear_value lost
  split
  · exact hlost
  · exact hlost

theorem State.dataLost_gone (s : State) (pause graceful : Bool) : DataGone s (s.dataLost pause graceful) pause := by
  unfold State.dataLost
  extract_lets zero still lost pw tw
  have hop : Points s zero := s.opToZero_points
  have hstill : Calm zero still := by
    unfold still
    split
    · exact .refl _
    · exact (Calm.refl _).txWithdraw
  have hports : Ports (still.lhDown pause) lost := (Ports.refl _).packetsLost pause
  have hcl : lost.wl.clients = [] := (congrArg (fun z : State => z.wl.clients) hports.parts :).trans (still.lhDown_clients pause)
  have hlost : Calm zero lost := (hstill.lhDown pause).trans hports.calm
  clear_value lost still zero
  have hpw : lost.pw = s.pw := (hlost.part State.pw fun _ _ _ _ _ _ _ _ _ _ => rfl).trans (hop.part State.pw fun _ _ _ => rfl)
  have hck : lost.ck = zero.ck := hlost.part State.ck fun _ _ _ _ _ _ _ _ _ _ => rfl
  have hup : lost.up = s.up := (hlost.part State.up fun _ _ _ _ _ _ _ _ _ _ => rfl).trans (hop.part State.up fun _ _ _ => rfl)
  have htw : zero.tw = s.tw := hop.part State.tw fun _ _ _ => rfl
  refine ⟨?_, hop.io.trans hlost.io, ?_, ?_, hlost.role.trans (congrArg Tw.role htw), hlost.claimIn.trans (congrArg Tw.claimIn htw),
    rfl, hcl, ?_⟩
  · have h1 := (congrArg (fun z : State => { z with
      io := s.io, pw := s.pw, ck := s.ck, tp := s.tp, rs := s.rs, ml := s.ml, mn := s.mn, lh := s.lh, wl := s.wl, pt := s.pt
      sr := s.sr, qm := s.qm, tw := s.tw, up := s.up }) hlost.parts :)
    have h2 := (congrArg (fun z : State => { z with
      io := s.io, pw := s.pw, ck := s.ck, tp := s.tp, rs := s.rs, ml := s.ml, mn := s.mn, lh := s.lh, wl := s.wl, pt := s.pt
      sr := s.sr, qm := s.qm, tw := s.tw, up := s.up }) hop.parts :)
    exact h1.trans h2
  · show { lost.pw with held := [], dram := lost.pw.dram && pause } = _
    rw [hpw]
  · show { lost.ck with seqTo := s.ck.seqTo, vcore := s.ck.vcore } = s.ck
    rw [hck]
    exact hop.ck
  · show (if pause then lost.up else { lost.up with copyA := false, copyB := false }) = _
    rw [hup]

end Sys2Proof.Machine
end

-- ==== The fall to Dawn (02_modes_power_start) ====
section
/-!
SUPPORT. What the move to Dawn leaves of the registers, the host's work and the tables.
-/

namespace Sys2Proof.Machine

/-! ### The move of the mode (R147) -/

/-- On the way from `s` to `u` the mode became `m`: the log, the Post-box and the event that tell of it, and nothing of
the other parts. -/
structure MovedTo (s u : State) (m : Mode) : Prop where
  parts : { u with io := s.io, pw := s.pw, tp := s.tp, nv := s.nv } = s
  io : CalmIo s.io u.io
  pw : u.pw = { s.pw with
    mode := m, prevMode := s.pw.mode.code, changes := (s.pw.changes + 1) % 256, trans := none, woken := false }
  word : ∀ off, postedAt off = false → off ≠ 0x040028 → u.word off = s.word off

/-- On the way from `a` to `b` only the Post-box, its overflow, and what is posted changed. -/
structure Pushes (a b : State) : Prop where
  parts : { b with io := a.io, tp := a.tp } = a
  io : CalmIo a.io b.io
  word : ∀ off, off ≠ 0x040028 → b.word off = a.word off

theorem Pushes.trans {a b c : State} (h : Pushes a b) (h' : Pushes b c) : Pushes a c := by
  obtain ⟨hp, hio, hw⟩ := h
  obtain ⟨hp', hio', hw'⟩ := h'
  refine ⟨?_, hio.trans hio', fun off hoff => (hw' off hoff).trans (hw off hoff)⟩
  rw [← hp, ← hp']

theorem State.pushItem_pushes (s : State) (type : Nat) (l : List PWord) : Pushes s (s.pushItem type l) := by
  unfold State.pushItem
  extract_lets q tp v it w
  have hv : Pushes s v := ⟨rfl, .refl _, fun _ _ => rfl⟩
  split
  · exact hv.trans ⟨rfl, .refl _, fun _ _ => rfl⟩
  · exact hv.trans ⟨rfl, .setWord _ (by decide) _, fun _ hoff => State.word_setWord_ne _ _ (Ne.symm hoff)⟩

theorem State.flushPbox_pushes (s : State) : { s.flushPbox with io := s.io, tp := s.tp } = s ∧ CalmIo s.io s.flushPbox.io ∧
    ∀ off, off ≠ 0x04002C → s.flushPbox.word off = s.word off :=
  ⟨rfl, .setWord _ (by decide) _, fun _ hoff => State.word_setWord_ne _ _ (Ne.symm hoff)⟩

theorem State.modeIs_moved (s : State) (m : Mode) : MovedTo s (s.modeIs m) m := by
  unfold State.modeIs
  extract_lets old n pw v w
  let logged : State := v.log 0x10 0xFF (old.code + 256 * n)
  have hpush : Pushes logged w.stateRefresh := (logged.pushItem_pushes 0x04 []).trans (w.pushItem_pushes 0x06 [])
  have hpw : logged.pw = v.pw := rfl
  have hlog : { logged with nv := s.nv, pw := s.pw } = s := rfl
  have hio : logged.io = s.io := rfl
  clear_value logged
  generalize w.stateRefresh = x at hpush
  obtain ⟨hparts, hcalm, hword⟩ := hpush
  have hposts : Posts x.io (x.event 0x01 (toLE 1 m.code ++ toLE 1 old.code ++ toLE 1 n)).io := Posts.event _ _ _ _ _
  rw [hio] at hcalm
  refine ⟨?_, hcalm.trans hposts.calm, ?_, fun off hpost hoff => (hposts.word off hpost).trans ((hword off hoff).trans ?_)⟩
  · have h1 := (congrArg (fun z : State => { z with io := s.io, pw := s.pw, tp := s.tp, nv := s.nv }) hparts :)
    have h2 := (congrArg (fun z : State => { z with io := s.io, pw := s.pw, tp := s.tp, nv := s.nv }) hlog :)
    exact h1.trans h2
  · exact (congrArg State.pw hparts :).trans hpw
  · exact congrArg (fun io : Io => io.word off) hio

/-- The move to Dawn. -/
structure InDawn (s u : State) : Prop where
  parts : { u with io := s.io, pw := s.pw, tp := s.tp, nv := s.nv } = s
  io : CalmIo s.io u.io
  pw : u.pw = { s.pw with
    mode := .dawn, prevMode := s.pw.mode.code, changes := (s.pw.changes + 1) % 256, trans := none, woken := false
    stage := .onAir }

theorem State.toDawn_leaves (s : State) : InDawn s s.toDawn := by
  obtain ⟨hflush, hcalm, -⟩ := s.flushPbox_pushes
  unfold State.toDawn
  extract_lets v
  have hv : MovedTo s.flushPbox v .dawn := s.flushPbox.modeIs_moved .dawn
  have hfpw : s.flushPbox.pw = s.pw := rfl
  generalize s.flushPbox = f at *
  clear_value v
  obtain ⟨hparts, hio, hpw, -⟩ := hv
  refine ⟨?_, hcalm.trans hio, ?_⟩
  · have h1 := (congrArg (fun z : State => { z with io := s.io, pw := s.pw, tp := s.tp, nv := s.nv }) hparts :)
    have h2 := (congrArg (fun z : State => { z with io := s.io, pw := s.pw, tp := s.tp, nv := s.nv }) hflush :)
    exact h1.trans h2
  · show { v.pw with stage := .onAir } = _
    rw [hpw, hfpw]

/-! ### A fatal fault in Full (R50) -/

/-- The calm words but `HIF_GEN`. -/
abbrev clockWord (off : Nat) : Prop := off ∈ calmRegs ∧ off ≠ 0x050004

/-- The device has fallen from Full to Dawn, with the host's work discarded under `cause`. -/
structure FellToDawn (s u : State) (cause : Nat) : Prop where
  word : ∀ off, clockWord off → u.word off = s.word off
  cause : u.fld F.HIF_GEN_cause = cause % 16
  gen : u.fld F.HIF_GEN_gen = (s.fld F.HIF_GEN_gen + 1) % 256
  ck : { u.ck with seqTo := s.ck.seqTo, vcore := s.ck.vcore } = s.ck
  mode : u.pw.mode = .dawn
  stage : u.pw.stage = .onAir
  now : u.now = s.now
  alone : Alone s → Alone u
  mac : u.pt.mac = []
  clients : u.wl.clients = []
  copies : u.up.copyA = false ∧ u.up.copyB = false

theorem Discarded.alone {s u : State} {cause : Nat} {keep : Dfr → Bool} (h : Discarded s u cause keep) (ha : Alone s) : Alone u := by
  obtain ⟨hrole, hpeer⟩ := ha
  have htw := h.rest.tw
  exact ⟨(congrArg Tw.role htw :).trans hrole, (congrArg (fun x : Tw => bitN x.claimIn 3) htw :).trans hpeer⟩

theorem State.fallsToDawn (s : State) (cause : Nat) (keep : Dfr → Bool) (graceful : Bool) :
    FellToDawn s ((s.discard cause keep).dataLost false graceful).toDawn cause := by
  have hd := s.discard_leaves cause keep
  generalize s.discard cause keep = d at *
  have hg := d.dataLost_gone false graceful
  generalize d.dataLost false graceful = g at *
  have ht := g.toDawn_leaves
  generalize g.toDawn = u at *
  have hcalm := hg.io.trans ht.io
  have hgtw : u.tw = g.tw := (congrArg State.tw ht.parts :)
  constructor
  case word =>
    intro off hoff
    refine (hcalm.word off hoff.1).trans (hd.word off ?_ hoff.2)
    obtain ⟨h1, -⟩ := hoff
    revert off
    decide
  case cause => exact (congrArg (Fld.of F.HIF_GEN_cause) (hcalm.word 0x050004 (by decide))).trans hd.cause
  case gen => exact (congrArg (Fld.of F.HIF_GEN_gen) (hcalm.word 0x050004 (by decide))).trans hd.gen
  case ck =>
    have h1 : u.ck = g.ck := (congrArg State.ck ht.parts :)
    have h2 : d.ck = s.ck := (congrArg State.ck hd.rest.parts :)
    rw [h1, ← h2]
    exact hg.ck
  case mode => exact congrArg Pw.mode ht.pw
  case stage => exact congrArg Pw.stage ht.pw
  case now =>
    exact ((congrArg State.now ht.parts :).trans (congrArg State.now hg.parts :)).trans (congrArg State.now hd.rest.parts :)
  case alone =>
    intro ha
    obtain ⟨hrole, hpeer⟩ := hd.alone ha
    refine ⟨(congrArg Tw.role hgtw).trans (hg.role.trans hrole), ?_⟩
    unfold State.peerAlive at *
    rw [hgtw, hg.claimIn]
    exact hpeer
  case mac => exact (congrArg (fun z : State => z.pt.mac) ht.parts :).trans hg.mac
  case clients => exact (congrArg (fun z : State => z.wl.clients) ht.parts :).trans hg.clients
  case copies =>
    have hup : u.up = _ := (congrArg State.up ht.parts :).trans hg.up
    rw [hup]
    exact ⟨rfl, rfl⟩

end Sys2Proof.Machine
end

-- ==== PLLs, operating points and gates (03_clocks) ====
section
/-!
SUPPORT. Fatal faults keep what the clocks show; PLL unlock and relock, the operating point, the cap, a gate.
-/

namespace Sys2Proof.Machine

/-! ### Fatal faults keep what the clocks show (R50, R525, R588) -/

theorem State.startLoad_io (s : State) : s.startLoad.io = s.io := rfl

theorem State.holdDawn_calm (s : State) : CalmIo s.io s.holdDawn.io := .setWord _ (by decide) _

/-- A held device or one that loads again, in Dawn. -/
def State.afterFatal (s : State) (again : Bool) : State :=
  if again then s.holdDawn else { s.startLoad with pw := { s.startLoad.pw with retry := true } }

theorem State.afterFatal_leaves (s : State) (again : Bool) : CalmIo s.io (s.afterFatal again).io ∧
    (s.afterFatal again).pw.mode = s.pw.mode ∧ (Alone s → Alone (s.afterFatal again)) := by
  unfold State.afterFatal
  split
  · exact ⟨s.holdDawn_calm, rfl, id⟩
  · exact ⟨.refl _, rfl, id⟩

theorem State.fatalFull_eq (s : State) : s.fatalFull =
    ((((s.discard 0x1 keepNone).dataLost false false).toDawn.afterFatal s.justReturned).opStart).claimFell := by
  unfold State.fatalFull State.afterFatal
  rfl

/-- A fault in Full: the device is in Dawn, its host work discarded with cause 1. -/
theorem State.fatalFull_leaves {s : State} (ha : Alone s) : let u := s.fatalFull
    (∀ off, clockWord off → u.word off = s.word off) ∧ u.pw.mode = .dawn ∧ u.fld F.HIF_GEN_cause = 1 := by
  dsimp only
  rw [State.fatalFull_eq]
  have hfell := s.fallsToDawn 0x1 keepNone false
  generalize ((s.discard 0x1 keepNone).dataLost false false).toDawn = d at *
  obtain ⟨hcalm, hmode, halone⟩ := d.afterFatal_leaves s.justReturned
  generalize d.afterFatal s.justReturned = f at *
  have hop := f.opStart_points
  generalize f.opStart = o at *
  have hcl := State.claimFell_leaves (hop.alone (halone (hfell.alone ha)))
  have hpw : o.claimFell.pw = f.pw := (hcl.part State.pw fun _ _ _ _ _ => rfl).trans (hop.part State.pw fun _ _ _ => rfl)
  have hword (off : Nat) (hoff : off ∈ calmRegs) : o.claimFell.word off = d.word off :=
    (hcl.word off).trans ((hop.io.word off hoff).trans (hcalm.word off hoff))
  refine ⟨fun off hoff => (hword off hoff.1).trans (hfell.word off hoff), ?_, ?_⟩
  · rw [hpw, hmode, hfell.mode]
  · exact (congrArg F.HIF_GEN_cause.of (hword 0x050004 (by decide))).trans hfell.cause

/-- A waiting command that completes posts, and its ring may settle. -/
theorem Io.settle_calm (io : Io) (n : Nat) : CalmIo io (io.settle n) := by
  unfold Io.settle
  split
  · refine .setWord _ ?_ _
    simp only [F.HIF_SQ_ERR_active, calmRegs, List.mem_cons, List.not_mem_nil, or_false, not_or]
    omega
  · exact .refl io

theorem State.finish_calm (s : State) (d : Dfr) (st r : Nat) : CalmIo s.io (s.finish d st r).io := by
  unfold State.finish
  extract_lets old hf io v w
  have hv : CalmIo s.io v.io := ⟨fun _ _ => rfl, rfl⟩
  have hw : CalmIo v.io w.io := (Posts.complete v.io v.now _).calm
  clear_value w
  exact (hv.trans hw).trans (w.io.settle_calm d.sq)

theorem State.finish_parts (s : State) (d : Dfr) (st r : Nat) : { s.finish d st r with io := s.io } = s := rfl

theorem State.finishOp_calm (s : State) (op st r : Nat) : CalmIo s.io (s.finishOp op st r).io := by
  unfold State.finishOp
  split
  · exact s.finish_calm _ st r
  · exact .refl _

theorem State.updDir_io (s : State) (f : Dir → Dir) : (s.updDir f).io = s.io := by
  unfold State.updDir
  split
  · rfl
  · rfl

theorem State.rescueJobFails_calm (s : State) : CalmIo s.io s.rescueJobFails.io := by
  have hfail (b : Bool) (op : Nat) :
      CalmIo s.io ((({ s with up := { s.up with job := none } }).markEmpty b).finishOp op stHW_FAULT).io := by
    have hio : (State.markEmpty { s with up := { s.up with job := none } } b).io = s.io := State.updDir_io _ _
    have h := State.finishOp_calm (State.markEmpty { s with up := { s.up with job := none } } b) op stHW_FAULT 0
    rw [hio] at h
    exact h
  unfold State.rescueJobFails
  dsimp only
  split
  · exact hfail _ _
  · exact hfail _ _
  · exact .refl _

theorem State.activationFails_calm (s : State) (st : Nat) : CalmIo s.io (s.activationFails st).io := by
  unfold State.activationFails
  split
  · exact .refl _
  · extract_lets d counted
    have hd : d.io = s.io := s.updDir_io _
    clear_value d
    rw [← hd]
    exact .setWord d.io (off := F.UPD_CNT_fallbacks.off) (by decide) _
  · exact .refl _

theorem State.fatalLoad_word (s : State) {off : Nat} (hoff : clockWord off) : s.fatalLoad.word off = s.word off := by
  have hd := s.discard_leaves 0x1 keepNone
  have hword : (s.discard 0x1 keepNone).word off = s.word off := hd.word off (by
    obtain ⟨h, -⟩ := hoff
    revert off
    decide) hoff.2
  unfold State.fatalLoad
  dsimp only
  split
  · exact ((State.holdDawn_calm _).word off hoff.1).trans hword
  · exact hword

/-- A fatal fault keeps what the clocks show. -/
theorem State.fatal_leaves {s : State} (ha : Alone s) (source detail : Nat) : let u := s.fatal source detail
    (∀ off, clockWord off → u.word off = s.word off) ∧
      (s.pw.mode = .full → u.pw.mode = .dawn ∧ u.fld F.HIF_GEN_cause = 1) := by
  have hposts : CalmIo s.io (s.faultEv 0x4 source detail).io := (s.faultEv_posts 0x4 source detail).calm
  have hpw : (s.faultEv 0x4 source detail).pw = s.pw := rfl
  have htw : (s.faultEv 0x4 source detail).tw = s.tw := rfl
  unfold State.fatal
  extract_lets f u
  change CalmIo s.io f.io at hposts
  change f.pw = s.pw at hpw
  change f.tw = s.tw at htw
  clear_value f
  unfold u
  have hfa : Alone f := by
    unfold Alone State.peerAlive at *
    rw [htw]
    exact ha
  obtain ⟨hfull, hdawn, hcause⟩ := State.fatalFull_leaves hfa
  have hword {u : State} (hu : ∀ off, clockWord off → u.word off = f.word off) (off : Nat) (hoff : clockWord off) :
      u.word off = s.word off := (hu off hoff).trans (hposts.word off hoff.1)
  have hother {u : State} (hu : ∀ off, clockWord off → u.word off = f.word off) (hmode : f.pw.mode ≠ .full) :
      (∀ off, clockWord off → u.word off = s.word off) ∧ (s.pw.mode = .full → u.pw.mode = .dawn ∧ u.fld F.HIF_GEN_cause = 1) :=
    ⟨hword hu, fun h => absurd (hpw ▸ h) hmode⟩
  split
  next hm => exact ⟨hword hfull, fun _ => ⟨hdawn, hcause⟩⟩
  next hm => exact ⟨hword hfull, fun _ => ⟨hdawn, hcause⟩⟩
  next hm =>
    have hne : f.pw.mode ≠ .full := by simp [hm]
    split
    · exact hother (fun off hoff => (f.activationFails_calm _).word off hoff.1) hne
    · split
      · exact hother (fun off hoff => f.fatalLoad_word hoff) hne
      · exact hother (fun _ _ => rfl) hne
  next hm => exact hother (fun off hoff => f.rescueJobFails_calm.word off hoff.1) (by simp [hm])
  next h1 _ _ _ => exact hother (fun _ _ => rfl) h1

/-! ### PLL unlock (R99) -/

theorem pllLock_clock (p : Nat) : (pllLock p).off = 0x020000 := by
  unfold pllLock
  split <;> rfl

theorem pllLock_width (p : Nat) : (pllLock p).hi < 32 ∧ (pllLock p).width = 1 := by
  unfold pllLock
  split <;> decide

/-- A PLL shows no lock, and its unlock is latched. -/
def State.unlocked (s : State) (p : Nat) : State :=
  (s.setFld F.CLK_FAIL_pll_unlock (s.fld F.CLK_FAIL_pll_unlock ||| 2 ^ p)).setFld (pllLock p) 0

theorem State.unlocked_fld (s : State) {p : Nat} (hp : p < 7) : (s.unlocked p).fld (pllLock p) = 0 ∧
    bitN ((s.unlocked p).fld F.CLK_FAIL_pll_unlock) p = true := by
  obtain ⟨hhi, hwidth⟩ := pllLock_width p
  refine ⟨State.fld_setFld_eq _ hhi (Nat.two_pow_pos _), ?_⟩
  have hfld : (s.unlocked p).fld F.CLK_FAIL_pll_unlock = (s.fld F.CLK_FAIL_pll_unlock ||| 2 ^ p) % 2 ^ F.CLK_FAIL_pll_unlock.width :=
    (State.fld_setFld_off _ _ _ _ (by rw [pllLock_clock]; decide)).trans (State.fld_setFld_self _ _ _ (by decide))
  rw [hfld]
  have hw : p < F.CLK_FAIL_pll_unlock.width := hp
  have hbit : ((s.fld F.CLK_FAIL_pll_unlock ||| 2 ^ p) % 2 ^ F.CLK_FAIL_pll_unlock.width).testBit p = true := by
    rw [Nat.testBit_mod_two_pow, Nat.testBit_or, Nat.testBit_two_pow_self]
    simp [hw]
  rw [Nat.testBit_eq_decide_div_mod_eq] at hbit
  exact beq_iff_eq.mpr (of_decide_eq_true hbit)

/-- What follows an unlock, by PLL. -/
def State.unlockFollows (s : State) (p : Nat) : State :=
  match p with
  | 0 => (s.radioStop.fatal 3).setFld F.TPL_STAT_dawn_active 0
  | 1 => s.fatal 4
  | 2 => s.fatal 5
  | 3 => s.pcieUnlock
  | 4 => (s.ethDown 0).faultEv 0x2 7 0
  | 5 => (s.ethDown 1).faultEv 0x2 8 0
  | _ => (s.twinDown.faultEv 0x2 9 0).twinFault

theorem State.pllUnlock_eq {s : State} {p : Nat} (hpow : s.powered = true) (hlock : s.fld (pllLock p) = 1) :
    s.pllUnlock p = (s.unlocked p).unlockFollows p := by
  have hflag : s.flag (pllLock p) = true := State.flag_eq_true.mpr (by rw [hlock]; decide)
  refine (if_neg (by rw [hpow, hflag]; decide)).trans ?_
  match p with
  | 0 | 1 | 2 | 3 | 4 | 5 | _ + 6 => rfl

/-- The clocks' words through a loss of the host, whether or not it was lost before. -/
theorem State.hostLoss_word (s : State) (c : LossCause) {off : Nat} (h : clockWord off) : (s.hostLoss c).word off = s.word off := by
  obtain ⟨hcalm, hgen⟩ := h
  have hne : off ≠ 0x050014 ∧ discardWord off = false ∧ ¬ isRing off := by
    revert off
    decide
  cases hlost : s.io.hf.lost with
  | none => exact (State.hostLoss_leaves c hlost).word off hne.2.1 hne.2.2 hgen hne.1
  | some x =>
    have heq : s.hostLoss c = s.setWord 0x050014 (s.word 0x050014 ||| BitVec.ofNat 32 (2 ^ c.bit)) :=
      if_pos (by
        show s.io.hf.lost.isSome = true
        rw [hlost]
        rfl)
    rw [heq]
    exact State.word_setWord_ne _ _ hne.1.symm

theorem State.pcieUnlock_word (s : State) {off : Nat} (h : clockWord off) :
    s.pcieUnlock.word off = (s.setFld F.CLK_STAT_pcie_lock 0).word off := by
  unfold State.pcieUnlock
  extract_lets v
  have hv : v.word off = (s.setFld F.CLK_STAT_pcie_lock 0).word off :=
    (State.hostLoss_word _ _ h).trans ((State.faultEv_posts _ 0x2 6 0).calm.word off h.1)
  clear_value v
  exact ((Calm.refl v).linkGone.io.word off h.1).trans hv

theorem State.pcieUnlock_fld (s : State) : s.pcieUnlock.fld F.CLK_STAT_pcie_lock = 0 ∧
    s.pcieUnlock.fld F.CLK_FAIL_pll_unlock = s.fld F.CLK_FAIL_pll_unlock := by
  have hstat := congrArg F.CLK_STAT_pcie_lock.of (s.pcieUnlock_word (off := 0x020000) (by decide))
  have hfail := congrArg F.CLK_FAIL_pll_unlock.of (s.pcieUnlock_word (off := 0x020004) (by decide))
  have hoff : (s.setFld F.CLK_STAT_pcie_lock 0).fld F.CLK_STAT_pcie_lock = 0 := State.fld_setFld_eq _ (by decide) (by decide)
  have hkeep : (s.setFld F.CLK_STAT_pcie_lock 0).fld F.CLK_FAIL_pll_unlock = s.fld F.CLK_FAIL_pll_unlock :=
    State.fld_setFld_off _ _ _ _ (by decide)
  exact ⟨hstat.trans hoff, hfail.trans hkeep⟩

/-- What follows an unlock keeps the words of the clocks; PLL_A, PLL_B and PLL_DDR lead to Dawn. -/
theorem State.unlockFollows_leaves {s : State} (ha : Alone s) (p : Nat) (hp : p ≠ 3) : let u := s.unlockFollows p
    (∀ off, clockWord off → off ≠ 0x040000 → u.word off = s.word off) ∧
      (p ≤ 2 → s.pw.mode = .full → u.pw.mode = .dawn ∧ u.fld F.HIF_GEN_cause = 1) := by
  have hcalm {u : State} (hu : CalmIo s.io u.io) (c r d : Nat) (off : Nat) (hoff : clockWord off) :
      (u.faultEv c r d).word off = s.word off :=
    ((u.faultEv_posts c r d).calm.word off hoff.1).trans (hu.word off hoff.1)
  dsimp only
  match p, hp with
  | 0, _ =>
    have hstop : Calm s s.radioStop := (Calm.refl s).radioStop
    have hpw : s.radioStop.pw = s.pw := hstop.part State.pw fun _ _ _ _ _ _ _ _ _ _ => rfl
    obtain ⟨hword, hfull⟩ := State.fatal_leaves (hstop.alone ha) 3 0
    refine ⟨fun off hoff hne => ?_, fun _ hm => ?_⟩
    · exact (State.word_setFld_off _ F.TPL_STAT_dawn_active 0 (Ne.symm hne)).trans
        ((hword off hoff).trans (hstop.io.word off hoff.1))
    · obtain ⟨hdawn, hcause⟩ := hfull (by rw [hpw, hm])
      exact ⟨hdawn, (State.fld_setFld_off _ _ _ _ (by decide)).trans hcause⟩
  | 1, _ => exact ⟨fun off hoff _ => (State.fatal_leaves ha 4 0).1 off hoff, fun _ hm => (State.fatal_leaves ha 4 0).2 hm⟩
  | 2, _ => exact ⟨fun off hoff _ => (State.fatal_leaves ha 5 0).1 off hoff, fun _ hm => (State.fatal_leaves ha 5 0).2 hm⟩
  | 4, _ => exact ⟨fun off hoff _ => hcalm ((Ports.refl s).ethDown 0).io 0x2 7 0 off hoff, fun h => absurd h (by decide)⟩
  | 5, _ => exact ⟨fun off hoff _ => hcalm ((Ports.refl s).ethDown 1).io 0x2 8 0 off hoff, fun h => absurd h (by decide)⟩
  | n + 6, _ =>
    refine ⟨fun off hoff _ => ?_, fun h => absurd h (by omega)⟩
    exact ((Calm.refl _).twinFault.io.word off hoff.1).trans (hcalm (Calm.refl s).twinDown.io 0x2 9 0 off hoff)

/-! ### The operating point, the thermal cap and the gates (R85 to R88, R90, R91) -/

theorem State.eFld_latchFld (s : State) {f : Fld} (h : f.hi < 32) : (s.latchFld f).eFld f = s.fld f := by
  have hword : (s.io.latchFld f).eWord f.off = setBits (s.io.eWord f.off) f.hi f.lo (s.io.fld f) := Tbl.getD_putDef_self _ _ _ _
  have hself : (s.latchFld f).eFld f = s.io.fld f % 2 ^ f.width :=
    (congrArg f.of hword).trans (Fld.of_setBits_self f _ _ h)
  exact hself.trans (Nat.mod_eq_of_lt (Fld.of_lt f _))

/-- A sequence starts towards `p`. -/
def State.seqStart (s : State) (p : Nat) : State :=
  let s : State := { s with ck := { s.ck with seqTo := some p } }
  let up := s.fld F.CLK_OP_STAT_op < p
  let s := s.setFld F.CLK_OP_STAT_busy 1
  if up then s else s.setFld F.CLK_OP_STAT_op p

/-- The target written, in effect, and what limits the point. -/
def State.pointLimits (s : State) : State :=
  (s.latchFld F.CLK_OP_CFG_target).setFld F.CLK_OP_STAT_limit_src (s.latchFld F.CLK_OP_CFG_target).limitSrc

theorem State.opStart_free {s : State} (h : s.ck.seqTo = none) : s.opStart =
    if s.pointLimits.effPoint = s.pointLimits.fld F.CLK_OP_STAT_op then s.pointLimits
    else s.pointLimits.seqStart s.pointLimits.effPoint := by
  unfold State.opStart
  rw [if_neg (by rw [h]; decide)]
  rfl

theorem State.effPoint_lt (s : State) : s.effPoint < 2 ^ F.CLK_OP_CFG_target.width :=
  lt_of_le_of_lt (Nat.min_le_left _ _) (Fld.of_lt F.CLK_OP_CFG_target _)

theorem State.pointLimits_effPoint (s : State) : s.pointLimits.effPoint =
    min (s.fld F.CLK_OP_CFG_target) (min s.modeLimit (s.fld F.CLK_OP_STAT_cap)) := by
  have htarget : s.pointLimits.eFld F.CLK_OP_CFG_target = s.fld F.CLK_OP_CFG_target := s.eFld_latchFld (by decide)
  have hcap : s.pointLimits.fld F.CLK_OP_STAT_cap = s.fld F.CLK_OP_STAT_cap :=
    State.fld_setFld_ne _ _ (by decide) (by decide)
  unfold State.effPoint
  rw [htarget, hcap]
  rfl

theorem State.opStart_keeps (s : State) : s.opStart.fld F.CLK_OP_STAT_cap = s.fld F.CLK_OP_STAT_cap ∧
    s.opStart.ck.temp = s.ck.temp := by
  have hop := s.opStart_points
  refine ⟨?_, (congrArg Ck.temp hop.ck :)⟩
  cases h : s.ck.seqTo with
  | some p =>
    have heq : s.opStart = s.setFld F.CLK_OP_STAT_limit_src s.limitSrc := if_pos (by rw [h]; rfl)
    rw [heq]
    exact State.fld_setFld_ne _ _ (by decide) (by decide)
  | none =>
    have hlimits : s.pointLimits.fld F.CLK_OP_STAT_cap = s.fld F.CLK_OP_STAT_cap :=
      State.fld_setFld_ne _ _ (by decide) (by decide)
    rw [State.opStart_free h]
    generalize s.pointLimits = l at *
    split
    · exact hlimits
    · unfold State.seqStart
      dsimp only
      split
      · exact (State.fld_setFld_ne _ _ (by decide) (by decide)).trans hlimits
      · exact ((State.fld_setFld_ne _ _ (by decide) (by decide)).trans
          (State.fld_setFld_ne _ _ (by decide) (by decide))).trans hlimits

/-- The sequence that ran has ended at `p`. -/
def State.seqEnded (s : State) (p : Nat) : State :=
  let s : State := { s with ck := { s.ck with seqTo := none, vcore := vcoreOf p } }
  ((s.setFld F.CLK_OP_STAT_op p).setFld F.CLK_OP_STAT_busy 0).countMod F.CLK_OP_STAT_changes

theorem State.seqEnded_fld (s : State) {p : Nat} (hp : p < 4) : (s.seqEnded p).fld F.CLK_OP_STAT_op = p ∧
    (s.seqEnded p).fld F.CLK_OP_STAT_busy = 0 ∧
    (s.seqEnded p).fld F.CLK_OP_STAT_changes = (s.fld F.CLK_OP_STAT_changes + 1) % 65536 ∧
    (s.seqEnded p).fld F.CLK_OP_STAT_cap = s.fld F.CLK_OP_STAT_cap ∧
    (s.seqEnded p).fld F.CLK_OP_CFG_target = s.fld F.CLK_OP_CFG_target := by
  unfold State.seqEnded
  extract_lets ck v
  have hv (f : Fld) : v.fld f = s.fld f := rfl
  clear_value v
  have hold : ((v.setFld F.CLK_OP_STAT_op p).setFld F.CLK_OP_STAT_busy 0).fld F.CLK_OP_STAT_changes = s.fld F.CLK_OP_STAT_changes := by
    simp (disch := decide) only [State.fld_setFld_ne, hv]
  refine ⟨?_, ?_, ?_, ?_, ?_⟩
  · refine (State.fld_setFld_ne _ _ (by decide) (by decide)).trans ?_
    exact (State.fld_setFld_ne _ _ (by decide) (by decide)).trans (State.fld_setFld_eq _ (by decide) hp)
  · exact (State.fld_setFld_ne _ _ (by decide) (by decide)).trans (State.fld_setFld_eq _ (by decide) (by decide))
  · rw [State.countMod, hold]
    exact State.fld_setFld_self _ _ _ (by decide)
  · exact (State.fld_setFld_ne _ _ (by decide) (by decide)).trans (by simp (disch := decide) only [State.fld_setFld_ne, hv])
  · exact (State.fld_setFld_off _ _ _ _ (by decide)).trans (by simp (disch := decide) only [State.fld_setFld_off, hv])

/-- A sequence that ends where the point is to be. -/
theorem State.opStepDone_leaves {s : State} {p : Nat} (hp : p < 4) (hseq : s.ck.seqTo = some p)
    (hpoint : min (s.fld F.CLK_OP_CFG_target) (min s.modeLimit (s.fld F.CLK_OP_STAT_cap)) = p) : let u := s.opStepDone
    u.fld F.CLK_OP_STAT_op = p ∧ u.fld F.CLK_OP_STAT_busy = 0 ∧ u.ck = { s.ck with seqTo := none, vcore := vcoreOf p } ∧
      u.fld F.CLK_OP_STAT_changes = (s.fld F.CLK_OP_STAT_changes + 1) % 65536 := by
  have hdone : s.opDone = s.seqEnded p := by
    unfold State.opDone
    rw [hseq]
    rfl
  have hstep : s.opStepDone = (s.seqEnded p).opStart := by
    unfold State.opStepDone
    rw [if_pos (by rw [hseq]; rfl), hdone]
  obtain ⟨hop, hbusy, hchanges, hcap, htarget⟩ := s.seqEnded_fld hp
  have hck : (s.seqEnded p).ck = { s.ck with seqTo := none, vcore := vcoreOf p } := rfl
  have hlimit : (s.seqEnded p).modeLimit = s.modeLimit := rfl
  rw [hstep]
  generalize s.seqEnded p = e at *
  have heff : e.pointLimits.effPoint = p := by rw [State.pointLimits_effPoint, htarget, hlimit, hcap, hpoint]
  have hkeep {f : Fld} (hf : f.hi < 32) (h : f.off ≠ 0x02000C ∨ 7 < f.lo ∨ f.hi < 6) : e.pointLimits.fld f = e.fld f :=
    State.fld_setFld_ne _ _ hf (by
      rcases h with h | h | h
      · exact .inl h.symm
      · exact .inr (.inr h)
      · exact .inr (.inl h))
  have hop' : e.pointLimits.fld F.CLK_OP_STAT_op = p := (hkeep (by decide) (by decide)).trans hop
  rw [State.opStart_free (by rw [hck]), if_pos (by rw [heff, hop'])]
  exact ⟨hop', (hkeep (by decide) (by decide)).trans hbusy, hck, (hkeep (by decide) (by decide)).trans hchanges⟩

theorem capNext_lt {cap : Nat} (h : cap < 4) (temp : Int) : capNext cap temp < 4 := by
  unfold capNext
  dsimp only
  split_ifs <;> omega

theorem State.derate_of_notDusk {s : State} (h : s.pw.mode ≠ .dusk) : s.derate = s := if_neg fun hd => h hd.1

/-- The temperature is read: the cap follows. -/
theorem State.thermal_leaves {s : State} (temp : Int) (hpow : s.powered = true) (hmode : s.pw.mode ≠ .dusk) :
    (s.thermal temp).ck.temp = temp ∧
      (s.thermal temp).fld F.CLK_OP_STAT_cap = capNext (s.fld F.CLK_OP_STAT_cap) temp := by
  unfold State.thermal
  extract_lets ck v c c'
  have hcap : v.fld F.CLK_OP_STAT_cap = s.fld F.CLK_OP_STAT_cap := rfl
  have hpow' : v.powered = true := hpow
  have hmode' : v.pw.mode ≠ .dusk := hmode
  have htemp : v.ck.temp = temp := rfl
  have hlt : c' < 2 ^ F.CLK_OP_STAT_cap.width := capNext_lt (Fld.of_lt F.CLK_OP_STAT_cap _) temp
  have hc' : c' = capNext (s.fld F.CLK_OP_STAT_cap) temp := rfl
  clear_value c' v
  rw [if_neg (by rw [hpow']; decide)]
  split
  next heq => exact ⟨htemp, hcap.symm.symm.trans ((show s.fld F.CLK_OP_STAT_cap = c' from hcap ▸ heq).trans hc')⟩
  next =>
    have hset : (v.setFld F.CLK_OP_STAT_cap c').fld F.CLK_OP_STAT_cap = c' := State.fld_setFld_eq _ (by decide) hlt
    have hpw : (v.setFld F.CLK_OP_STAT_cap c').opStart.pw = v.pw := (State.opStart_points _).part State.pw fun _ _ _ => rfl
    obtain ⟨hkeep, hktemp⟩ := (v.setFld F.CLK_OP_STAT_cap c').opStart_keeps
    rw [State.derate_of_notDusk (by rw [hpw]; exact hmode')]
    exact ⟨hktemp.trans htemp, hkeep.trans (hset.trans hc')⟩

/-- A gate that is forced to close is recorded. -/
def State.gateForced (s : State) (block : Nat) : State :=
  ((s.setFld F.CLK_FAIL_gate_timeout 1).count F.CLK_GATE_ERR_count).setFld F.CLK_GATE_ERR_block block

theorem State.gateForced_fld (s : State) {block : Nat} (h : block < 23) : (s.gateForced block).fld F.CLK_FAIL_gate_timeout = 1 ∧
    (s.gateForced block).fld F.CLK_GATE_ERR_count = min (s.fld F.CLK_GATE_ERR_count + 1) 65535 ∧
    (s.gateForced block).fld F.CLK_GATE_ERR_block = block := by
  refine ⟨?_, ?_, State.fld_setFld_eq _ (by decide) (lt_trans h (by decide))⟩
  · refine (State.fld_setFld_off _ _ _ _ (by decide)).trans ?_
    exact (State.fld_count_off _ _ _ _ (by decide)).trans (State.fld_setFld_eq _ (by decide) (by decide))
  · refine (State.fld_setFld_ne _ _ (by decide) (by decide)).trans ?_
    rw [State.fld_count_self _ _ _ (by decide), State.fld_setFld_off _ _ _ _ (by decide)]
    rfl

/-- A lock of a PLL that was gone. -/
theorem State.pllRelock_leaves {s : State} {p : Nat} (hpow : s.powered = true) (href : s.ck.refFailed = false)
    (hlock : s.fld (pllLock p) = 0) : let u := s.pllRelock p true
    u.fld (pllLock p) = 1 ∧ RegsOnly { s with rs := u.rs, pw := u.pw } u [0x020000] ∧ u.pw.mode = s.pw.mode ∧
      u.pending = s.pending := by
  obtain ⟨hhi, hwidth⟩ := pllLock_width p
  have hbar : ¬ ((!s.powered || s.ck.refFailed || s.flag (pllLock p) || !true) = true) := by
    rw [hpow, href, State.flag_eq_false.mpr hlock]
    decide
  dsimp only
  unfold State.pllRelock
  rw [if_neg hbar]
  extract_lets l rs r pw
  have hl : RegsOnly s l [0x020000] := (RegsOnly.refl s _).setFld (by rw [pllLock_clock]; decide) 1
  have hfld : l.fld (pllLock p) = 1 := State.fld_setFld_eq _ hhi (by rw [hwidth]; decide)
  clear_value l
  have hr : ∃ rs, r = { l with rs := rs } := by
    unfold r
    split
    · exact ⟨_, rfl⟩
    · exact ⟨_, rfl⟩
  clear_value r
  obtain ⟨rs, rfl⟩ := hr
  obtain ⟨hparts, hio, hword⟩ := hl
  have hmode : l.pw.mode = s.pw.mode := (congrArg (fun z : State => z.pw.mode) hparts :)
  have hpend : l.pending = s.pending := (congrArg State.pending hparts :)
  have hset (pw : Pw) : RegsOnly { s with rs := rs, pw := pw } { l with rs := rs, pw := pw } [0x020000] :=
    ⟨(congrArg (fun z : State => { z with rs := rs, pw := pw }) hparts :), hio, hword⟩
  split
  · exact ⟨hfld, hset _, hmode, hpend⟩
  · exact ⟨hfld, hset _, hmode, hpend⟩

/-- Settles O27: the PLLs, the operating point, the thermal cap and a gate that is forced to close. -/
theorem pllsPointsAndGates : Obligations.PllsPointsAndGates := by
  intro t pll s
  refine ⟨fun hpow hlock ha => ?unlock, fun hpow href hlock => ?relock, ?missed, fun p hp hseq hpoint => ?step,
    fun temp hpow hmode => ?thermal, fun block hpow => ?gate⟩
  case unlock =>
    have heq : (s.at t).pllUnlock pll = ((s.at t).unlocked pll).unlockFollows pll := State.pllUnlock_eq hpow hlock
    obtain ⟨hfld, hfail⟩ := (s.at t).unlocked_fld pll.isLt
    by_cases h3 : pll.val = 3
    · obtain ⟨hoff, hbit⟩ := ((s.at t).unlocked pll).pcieUnlock_fld
      have hpcie : pllLock pll = F.CLK_STAT_pcie_lock := by rw [h3]; rfl
      have hfollows : ((s.at t).unlocked pll).unlockFollows pll = ((s.at t).unlocked pll).pcieUnlock := by
        generalize (s.at t).unlocked pll = v
        rw [h3]
        rfl
      have hgone (hlost : s.io.hf.lost = none) : HostGone (s.at t) ((s.at t).pllUnlock 3) .pllPcie :=
        (State.pllUnlock_pcie (s := s.at t) hpow hlost (hpcie ▸ hlock)).1
      rw [← h3, heq] at hgone
      rw [hpcie] at hfld ⊢
      rw [hfollows] at heq hgone
      generalize (s.at t).unlocked pll = v at *
      rw [← heq] at hoff hbit hgone
      refine ⟨_, rfl, hoff, (congrArg (bitN · pll) hbit).trans hfail, fun _ hlost => ?_, fun h => absurd h (by omega)⟩
      obtain ⟨hlost', -, -, -, hmode, -⟩ := hgone hlost
      exact ⟨hlost', hmode⟩
    · have hmode : ((s.at t).unlocked pll).pw.mode = s.pw.mode := rfl
      have ha' : Alone ((s.at t).unlocked pll) := ha
      generalize (s.at t).unlocked pll = v at *
      obtain ⟨hword, hdawn⟩ := State.unlockFollows_leaves ha' pll h3
      rw [← heq] at hword hdawn
      refine ⟨_, rfl, ?_, ?_, fun h => absurd h h3, fun h2 hfull => hdawn h2 (hmode.trans hfull)⟩
      · exact (congrArg (pllLock pll).of (hword _ (by rw [pllLock_clock]; decide) (by rw [pllLock_clock]; decide))).trans hfld
      · have hf := congrArg F.CLK_FAIL_pll_unlock.of (hword 0x020004 (by decide) (by decide))
        exact (congrArg (bitN · pll) hf).trans hfail
  case relock =>
    obtain ⟨hfld, hregs, hmode, hpend⟩ := State.pllRelock_leaves (s := s.at t) hpow href hlock
    exact ⟨_, run_eq_next (f := fun s => s.pllRelock pll.val true) rfl hpend, hfld, hregs.setNow s.now, hmode⟩
  case missed =>
    exact run_eq_next (f := fun s => s.pllRelock pll.val false) (if_pos (by simp)) rfl
  case step =>
    obtain ⟨hop, hbusy, hck, hchanges⟩ := State.opStepDone_leaves (s := s.at t) hp hseq hpoint
    exact ⟨_, rfl, hop, hbusy, hck, hchanges⟩
  case thermal =>
    obtain ⟨htemp, hcap⟩ := State.thermal_leaves (s := s.at t) temp hpow hmode
    have hlt : s.fld F.CLK_OP_STAT_cap < 4 := Fld.of_lt F.CLK_OP_STAT_cap _
    have hcap' : ((s.at t).thermal temp).fld F.CLK_OP_STAT_cap = capNext (s.fld F.CLK_OP_STAT_cap) temp := hcap
    refine ⟨_, rfl, htemp, fun h => hcap'.trans ?_, fun h h' => hcap'.trans ?_, fun h => hcap'.trans ?_, fun h h' => hcap'.trans ?_,
      fun h => hcap'.trans ?_⟩
    all_goals
      unfold capNext
      dsimp only
      split_ifs <;> omega
  case gate =>
    have heq : (s.at t).gateTimeout block none [] = ((s.at t).gateForced block).faultEv 0x2 block 0 := if_neg (by
      rw [show (s.at t).powered = true from hpow]
      decide)
    obtain ⟨htime, hcount, hblock⟩ := (s.at t).gateForced_fld block.isLt
    have hwords : SameWords s ((s.at t).gateForced block) [0x020004, 0x02001C] :=
      (((SameWords.refl s _).setFld (f := F.CLK_FAIL_gate_timeout) (by decide) 1).count (f := F.CLK_GATE_ERR_count) (by decide)
        1).setFld (f := F.CLK_GATE_ERR_block) (by decide) block
    have hfld (f : Fld) (hf : f.off < 0x050000) : ((s.at t).gateTimeout block none []).fld f = ((s.at t).gateForced block).fld f := by
      rw [heq]
      exact State.fld_faultEv _ _ _ _ f (.inl hf)
    refine ⟨_, run_eq_next (f := fun s => s.gateTimeout block none []) heq rfl, ?_⟩
    rw [← heq]
    refine ⟨(hfld _ (by decide)).trans htime, (hfld _ (by decide)).trans hcount, (hfld _ (by decide)).trans hblock, ?_, ?_⟩
    · rw [heq]
      exact ⟨_, _, rfl, rfl, rfl⟩
    · rw [heq]
      exact ⟨rfl, hwords.faultEv 0x2 block 0⟩

end Sys2Proof.Machine
end

-- ==== REFCLK fails and returns (03_clocks) ====
section
/-!
SUPPORT. What a failure of REFCLK leaves, and its return in Full.
-/

namespace Sys2Proof.Machine

/-! ### REFCLK fails (R92 to R94) -/

/-- The locks of the PLLs are gone. -/
def State.locksGone (s : State) : State := s.each (List.range 7) fun s p => s.setFld (pllLock p) 0

theorem State.locksGone_fld (s : State) {p : Nat} (hp : p < 7) : s.locksGone.fld (pllLock p) = 0 := by
  unfold State.locksGone
  rw [show List.range 7 = [0, 1, 2, 3, 4, 5, 6] from rfl]
  simp only [State.each]
  match p with
  | 0 | 1 | 2 | 3 | 4 | 5 | 6 =>
    simp (disch := decide) only [pllLock, State.fld_setFld_ne, State.fld_setFld_eq]

theorem State.locksGone_ref (s : State) : s.locksGone.fld F.CLK_STAT_ref_ok = s.fld F.CLK_STAT_ref_ok ∧
    ∀ off, off ≠ 0x020000 → s.locksGone.word off = s.word off := by
  constructor
  · unfold State.locksGone
    rw [show List.range 7 = [0, 1, 2, 3, 4, 5, 6] from rfl]
    simp (disch := decide) only [State.each, pllLock, State.fld_setFld_ne]
  · intro off hoff
    exact State.each_const (·.word off) (fun z q => State.word_setFld_off z _ 0 (by rw [pllLock_clock]; exact hoff.symm)) _ s

/-- What the registers show once REFCLK has failed. -/
def State.refGone (s : State) : State :=
  ((((s.locksGone.setFld F.SRX_STAT_lock 0).setFld (F.LRX_STAT_lock.on false) 0).setFld (F.LRX_STAT_lock.on true) 0).setFld
    F.CLK_STAT_timebase_src 1).setFld F.TPL_STAT_dawn_active 0

/-- The clocks' registers after a failure of REFCLK. -/
structure RefGone (s u : State) : Prop where
  refOk : u.fld F.CLK_STAT_ref_ok = s.fld F.CLK_STAT_ref_ok
  timebase : u.fld F.CLK_STAT_timebase_src = 1
  dawn : u.fld F.TPL_STAT_dawn_active = 0
  locks : ∀ p < 7, u.fld (pllLock p) = 0
  fail : u.word 0x020004 = s.word 0x020004
  count : u.word 0x020024 = s.word 0x020024

theorem RefGone.of_word {s u v : State} (h : RefGone s u) (hv : ∀ off, clockWord off → v.word off = u.word off) : RefGone s v := by
  obtain ⟨href, htime, hdawn, hlocks, hfail, hcount⟩ := h
  have hclk := hv 0x020000 (by decide)
  refine ⟨(congrArg F.CLK_STAT_ref_ok.of hclk).trans href, (congrArg F.CLK_STAT_timebase_src.of hclk).trans htime,
    (congrArg F.TPL_STAT_dawn_active.of (hv 0x040000 (by decide))).trans hdawn, fun p hp => ?_,
    (hv _ (by decide)).trans hfail, (hv _ (by decide)).trans hcount⟩
  exact (congrArg (pllLock p).of (hv _ (by rw [pllLock_clock]; decide))).trans (hlocks p hp)

theorem State.refGone_leaves (s : State) : RefGone s s.refGone := by
  obtain ⟨href, hword⟩ := s.locksGone_ref
  have hlocks (p : Nat) (hp : p < 7) := s.locksGone_fld hp
  unfold State.refGone
  generalize s.locksGone = l at *
  have hkeep (f : Fld) (hoff : f.off = 0x020000) (hf : f.hi < 32) (hne : F.CLK_STAT_timebase_src.hi < f.lo ∨ f.hi < F.CLK_STAT_timebase_src.lo) :
      (((((l.setFld F.SRX_STAT_lock 0).setFld (F.LRX_STAT_lock.on false) 0).setFld (F.LRX_STAT_lock.on true) 0).setFld
        F.CLK_STAT_timebase_src 1).setFld F.TPL_STAT_dawn_active 0).fld f = l.fld f := by
    rw [State.fld_setFld_off _ _ _ _ (by rw [hoff]; decide), State.fld_setFld_ne _ _ hf (.inr hne.symm),
      State.fld_setFld_off _ _ _ _ (by rw [hoff]; decide), State.fld_setFld_off _ _ _ _ (by rw [hoff]; decide),
      State.fld_setFld_off _ _ _ _ (by rw [hoff]; decide)]
  have hother (off : Nat) (h : off = 0x020004 ∨ off = 0x020024) :
      (((((l.setFld F.SRX_STAT_lock 0).setFld (F.LRX_STAT_lock.on false) 0).setFld (F.LRX_STAT_lock.on true) 0).setFld
        F.CLK_STAT_timebase_src 1).setFld F.TPL_STAT_dawn_active 0).word off = s.word off := by
    rcases h with rfl | rfl
    all_goals
      rw [State.word_setFld_off _ _ _ (by decide), State.word_setFld_off _ _ _ (by decide), State.word_setFld_off _ _ _ (by decide),
        State.word_setFld_off _ _ _ (by decide), State.word_setFld_off _ _ _ (by decide)]
      exact hword _ (by decide)
  refine ⟨(hkeep _ rfl (by decide) (by decide)).trans href, ?_, State.fld_setFld_eq _ (by decide) (by decide), fun p hp => ?_,
    hother _ (.inl rfl), hother _ (.inr rfl)⟩
  · rw [State.fld_setFld_off _ _ _ _ (by decide)]
    exact State.fld_setFld_eq _ (by decide) (by decide)
  · have hsep : F.CLK_STAT_timebase_src.hi < (pllLock p).lo ∨ (pllLock p).hi < F.CLK_STAT_timebase_src.lo := by
      unfold pllLock
      split <;> decide
    exact (hkeep _ (pllLock_clock p) (pllLock_width p).1 hsep).trans (hlocks p hp)

theorem State.refGone_parts (s : State) : { s.refGone with io := s.io } = s := by
  have hset (z : State) (f : Fld) (v : Nat) : { z.setFld f v with io := s.io } = { z with io := s.io } := rfl
  have hlocks : { s.locksGone with io := s.io } = { s with io := s.io } :=
    State.each_const (fun z : State => { z with io := s.io }) (fun z p => hset z (pllLock p) 0) (List.range 7) s
  unfold State.refGone
  rw [hset, hset, hset, hset, hset]
  exact hlocks

/-- The failure is latched, and the outputs are forced. -/
def State.refLatched (s : State) (bit : Fld) : State :=
  let s := (s.setFld bit 1).setFld F.CLK_STAT_ref_ok 0
  { s with ck := { s.ck with refFailed := true, forced := true } }

/-- The host, the ports and the twin link are gone with the clock, and no watchdog runs. -/
def State.worldGone (s : State) : State :=
  let s := ((((s.ethDown 0).ethDown 1).twinDown).hostLoss .pllPcie).linkGone
  { s with pw := { s.pw with wdog := none } }

theorem State.refFail_eq {s : State} (bit : Fld) (hpow : s.powered = true) (href : s.ck.refFailed = false) :
    s.refFail bit = (s.refLatched bit).radioStop.refGone.worldGone.claimFell.twinFault := by
  unfold State.refFail
  extract_lets v ck w
  have hv : v.ck.refFailed = false := href
  have hw : w.powered = true := hpow
  have hlatch : s.refLatched bit = w := rfl
  rw [if_neg (by rw [hv]; decide), if_neg (by rw [hw]; decide), hlatch]
  rfl

/-- A host that has been lost, by now or before. -/
theorem State.hostLoss_lost (s : State) (c : LossCause) : (s.hostLoss c).io.hf.lost ≠ none ∧ (s.hostLoss c).pw.mode = s.pw.mode ∧
    (s.hostLoss c).ck = s.ck ∧ (Alone s → Alone (s.hostLoss c)) := by
  cases hlost : s.io.hf.lost with
  | none =>
    have hl := State.hostLoss_leaves c hlost
    refine ⟨by rw [hl.lost]; exact Option.some_ne_none c, hl.rest.mode, (congrArg State.ck hl.rest.parts :), fun ha => ?_⟩
    obtain ⟨hrole, hpeer⟩ := ha
    have htw := hl.rest.tw
    exact ⟨(congrArg Tw.role htw :).trans hrole, (congrArg (fun x : Tw => bitN x.claimIn 3) htw :).trans hpeer⟩
  | some x =>
    have heq : s.hostLoss c = s.setWord 0x050014 (s.word 0x050014 ||| BitVec.ofNat 32 (2 ^ c.bit)) :=
      if_pos (by
        show s.io.hf.lost.isSome = true
        rw [hlost]
        rfl)
    rw [heq]
    exact ⟨by
      show s.io.hf.lost ≠ none
      rw [hlost]
      exact Option.some_ne_none x, rfl, rfl, id⟩

/-- What the loss of the host, the ports and the link leaves. -/
structure WorldGone (s u : State) : Prop where
  word : ∀ off, clockWord off → u.word off = s.word off
  lost : u.io.hf.lost ≠ none
  mode : u.pw.mode = s.pw.mode
  wdog : u.pw.wdog = none
  ck : u.ck = s.ck
  alone : Alone s → Alone u

theorem State.worldGone_leaves (s : State) : WorldGone s s.worldGone := by
  have hcalm : Calm s ((s.ethDown 0).ethDown 1).twinDown := (((Ports.refl s).ethDown 0).ethDown 1).calm.twinDown
  unfold State.worldGone
  generalize ((s.ethDown 0).ethDown 1).twinDown = c at *
  obtain ⟨hlost, hmode, hck, halone⟩ := c.hostLoss_lost .pllPcie
  have hword (off : Nat) (h : clockWord off) := c.hostLoss_word .pllPcie h
  generalize c.hostLoss .pllPcie = l at *
  have hgone : Calm l l.linkGone := (Calm.refl l).linkGone
  have hpw : l.linkGone.pw = l.pw := rfl
  have hlck : l.linkGone.ck = l.ck := rfl
  generalize l.linkGone = g at *
  have hcpw : c.pw = s.pw := hcalm.part State.pw fun _ _ _ _ _ _ _ _ _ _ => rfl
  have hcck : c.ck = s.ck := hcalm.part State.ck fun _ _ _ _ _ _ _ _ _ _ => rfl
  refine ⟨fun off h => (hgone.io.word off h.1).trans ((hword off h).trans (hcalm.io.word off h.1)), ?_, ?_, rfl,
    hlck.trans (hck.trans hcck), fun ha => hgone.alone (halone (hcalm.alone ha))⟩
  · show g.io.hf.lost ≠ none
    rw [hgone.io.lost]
    exact hlost
  · show g.pw.mode = _
    rw [hpw, hmode, hcpw]

/-- A failure of REFCLK, from its latch on. -/
structure RefFails (s u : State) : Prop where
  regs : RefGone s u
  ck : u.ck = s.ck
  lost : u.io.hf.lost ≠ none
  mode : u.pw.mode = s.pw.mode
  wdog : u.pw.wdog = none

theorem State.refFails_leaves {s : State} (ha : Alone s) : RefFails s s.radioStop.refGone.worldGone.claimFell.twinFault := by
  have hstop : Calm s s.radioStop := (Calm.refl s).radioStop
  generalize s.radioStop = r at *
  have hregs := r.refGone_leaves
  have hgparts := r.refGone_parts
  generalize r.refGone = g at *
  have hgtw : g.tw = r.tw := (congrArg State.tw hgparts :)
  have hgpw : g.pw = r.pw := (congrArg State.pw hgparts :)
  have hgck : g.ck = r.ck := (congrArg State.ck hgparts :)
  have hga : Alone g := by
    have := hstop.alone ha
    unfold Alone State.peerAlive at *
    rw [hgtw]
    exact this
  have hworld := g.worldGone_leaves
  generalize g.worldGone = w at *
  have hcl := State.claimFell_leaves (hworld.alone hga)
  generalize w.claimFell = c at *
  have htf : Calm c c.twinFault := (Calm.refl c).twinFault
  have htpw : c.twinFault.pw = c.pw := htf.part State.pw fun _ _ _ _ _ _ _ _ _ _ => rfl
  have htck : c.twinFault.ck = c.ck := htf.part State.ck fun _ _ _ _ _ _ _ _ _ _ => rfl
  generalize c.twinFault = u at *
  have hcpw : c.pw = w.pw := hcl.part State.pw fun _ _ _ _ _ => rfl
  have hcck : c.ck = w.ck := hcl.part State.ck fun _ _ _ _ _ => rfl
  have hrpw : r.pw = s.pw := hstop.part State.pw fun _ _ _ _ _ _ _ _ _ _ => rfl
  have hrck : r.ck = s.ck := hstop.part State.ck fun _ _ _ _ _ _ _ _ _ _ => rfl
  have hword (off : Nat) (h : clockWord off) : u.word off = g.word off :=
    (htf.io.word off h.1).trans ((hcl.word off).trans (hworld.word off h))
  obtain ⟨href, htime, hdawn, hlocks, hfail, hcount⟩ := hregs.of_word hword
  refine ⟨⟨href.trans (hstop.fld (by decide)), htime, hdawn, hlocks, hfail.trans (hstop.io.word _ (by decide)),
    hcount.trans (hstop.io.word _ (by decide))⟩, ?_, ?_, ?_, ?_⟩
  · rw [htck, hcck, hworld.ck, hgck, hrck]
  · rw [htf.io.lost, hcl.hf]
    exact hworld.lost
  · rw [htpw, hcpw, hworld.mode, hgpw, hrpw]
  · rw [htpw, hcpw, hworld.wdog]

/-- The latch in `CLK_FAIL`. -/
def isFailBit (bit : Fld) : Prop := bit.off = 0x020004 ∧ bit.hi < 32 ∧ 1 < 2 ^ bit.width

theorem State.refLatched_leaves (s : State) {bit : Fld} (hbit : isFailBit bit) : let l := s.refLatched bit
    l.fld bit = 1 ∧ l.fld F.CLK_STAT_ref_ok = 0 ∧ l.word 0x020024 = s.word 0x020024 ∧ l.ck.refFailed = true ∧
      l.ck.forced = true ∧ l.pw = s.pw ∧ l.tw = s.tw := by
  obtain ⟨hoff, hhi, hone⟩ := hbit
  let v := (s.setFld bit 1).setFld F.CLK_STAT_ref_ok 0
  have hbit : v.fld bit = 1 :=
    (State.fld_setFld_off _ bit F.CLK_STAT_ref_ok 0 (by rw [hoff]; decide)).trans (State.fld_setFld_eq _ hhi hone)
  have hok : v.fld F.CLK_STAT_ref_ok = 0 := State.fld_setFld_eq _ (by decide) (by decide)
  have hcount : v.word 0x020024 = s.word 0x020024 :=
    (State.word_setFld_off _ F.CLK_STAT_ref_ok 0 (by decide)).trans (State.word_setFld_off _ bit 1 (by rw [hoff]; decide))
  have hpw : v.pw = s.pw := rfl
  have htw : v.tw = s.tw := rfl
  have heq : s.refLatched bit = { v with ck := { v.ck with refFailed := true, forced := true } } := rfl
  dsimp only
  rw [heq]
  clear_value v
  exact ⟨hbit, hok, hcount, rfl, rfl, hpw, htw⟩

/-- REFCLK has failed, and everything that ran on it. -/
structure RefFailed (s u : State) (bit : Fld) : Prop where
  latched : u.fld bit = 1
  count : u.word 0x020024 = s.word 0x020024
  ck : u.ck.refFailed = true ∧ u.ck.forced = true
  refOk : u.fld F.CLK_STAT_ref_ok = 0
  regs : u.fld F.CLK_STAT_timebase_src = 1 ∧ u.fld F.TPL_STAT_dawn_active = 0
  wdog : u.pw.wdog = none
  locks : ∀ p < 7, u.fld (pllLock p) = 0
  lost : u.io.hf.lost ≠ none
  mode : u.pw.mode = s.pw.mode

theorem State.refFail_leaves {s : State} {bit : Fld} (hbit : isFailBit bit) (hpow : s.powered = true)
    (href : s.ck.refFailed = false) (ha : Alone s) : RefFailed s (s.refFail bit) bit := by
  rw [State.refFail_eq bit hpow href]
  obtain ⟨hlatched, hrefok, hcount, hfail, hforced, hpw, htw⟩ := s.refLatched_leaves hbit
  generalize s.refLatched bit = l at *
  have hla : Alone l := by
    unfold Alone State.peerAlive at *
    rw [htw]
    exact ha
  obtain ⟨⟨hr, htime, hdawn, hlocks, hfw, hc⟩, huck, hlost, hm, hw⟩ := State.refFails_leaves hla
  generalize l.radioStop.refGone.worldGone.claimFell.twinFault = u at *
  have hword : u.word bit.off = l.word bit.off := by rw [hbit.1, hfw]
  exact ⟨(congrArg bit.of hword).trans hlatched, hc.trans hcount, ⟨by rw [huck, hfail], by rw [huck, hforced]⟩, hr.trans hrefok,
    ⟨htime, hdawn⟩, hw, hlocks, hlost, by rw [hm, hpw]⟩

/-! ### REFCLK stays away, and returns (R94, R95) -/

theorem State.supply_rises {s : State} (h : s.fl.live % 2 = 0) : s.supply 0 true =
    (({ s with fl := { s.fl with live := s.fl.live + 1 } }).setFld F.TEL_FAULT_clock_supply 1).faultEv 0x7 2 0 := by
  have hwas : bitN s.fl.live 0 = false := by
    unfold bitN
    rw [Nat.pow_zero, Nat.div_one, h]
    rfl
  have hlive : (if true = bitN s.fl.live 0 then s.fl.live else if true then s.fl.live + 2 ^ 0 else s.fl.live - 2 ^ 0) = s.fl.live + 1 := by
    rw [hwas]
    rfl
  have hne : (s.fl.live + 1 != 0).toNat = 1 := by simp
  unfold State.supply
  dsimp only
  rw [hlive, hne, hwas]
  rfl

/-- The condition has ended: only its record and its bit. -/
theorem State.supply_off (s : State) (bit : Nat) : ∃ live v,
    s.supply bit false = ({ s with fl := { s.fl with live := live } }).setFld F.TEL_FAULT_clock_supply v :=
  ⟨_, _, rfl⟩

/-- The registers and the power state once the clock is back, in Full. -/
def State.refShown (s : State) : State :=
  let s : State := { s with ck := { s.ck with refFailed := false, forced := false } }
  (s.setFld F.CLK_STAT_ref_ok 1).setFld F.CLK_STAT_pcie_lock 1

theorem State.refShown_leaves (s : State) : s.refShown.fld F.CLK_STAT_ref_ok = 1 ∧
    RegsOnly { s with ck := s.refShown.ck } s.refShown [0x020000] := by
  refine ⟨?_, ?_⟩
  · refine (State.fld_setFld_ne _ _ (by decide) (by decide)).trans (State.fld_setFld_eq _ (by decide) (by decide))
  · exact ((RegsOnly.refl { s with ck := s.refShown.ck } _).setFld (by decide) 1).setFld (by decide) 1

/-- The set is loaded again. -/
def State.loadsBack (s : State) : State :=
  { s.startLoad with pw := { s.startLoad.pw with refBack := true, retry := false, loadFault := false } }

theorem State.refReturn_full {s : State} (href : s.ck.refFailed = true) (hpow : s.powered = true) (hmode : s.pw.mode = .full)
    (hback : s.justReturned = false) : s.refReturn =
      ((((((s.refShown.setFld F.CLK_STAT_timebase_src 0).supply 0 false).faultEv 0x4 2 0).discard 0x1 keepNone).dataLost false
        false).toDawn.pllsLock.loadsBack.opStart).reclaim := by
  unfold State.refReturn
  rw [if_neg (by rw [href]; decide)]
  extract_lets ck v w x y back d _ l again m n z
  have hw : w.powered = true := hpow
  have hx : x.pw.mode = .full := hmode
  have hy : y.pw.mode = .full := hmode
  have hagain : again = false := hback
  have hn : n = m.loadsBack := if_neg (by rw [hagain]; decide)
  have hm : m = (((((s.refShown.setFld F.CLK_STAT_timebase_src 0).supply 0 false).faultEv 0x4 2 0).discard 0x1 keepNone).dataLost
      false false).toDawn.pllsLock := rfl
  have hz : z = m.loadsBack.opStart := by
    unfold z
    rw [hy, hn]
  rw [if_neg (by rw [hw]; decide), hx, hz, hm]

theorem State.pllsLock_kept (s : State) : s.pllsLock.fld F.CLK_STAT_ref_ok = s.fld F.CLK_STAT_ref_ok ∧
    s.pllsLock.fld F.CLK_STAT_timebase_src = s.fld F.CLK_STAT_timebase_src := by
  unfold State.pllsLock
  split
  · exact ⟨rfl, rfl⟩
  · constructor
    all_goals simp (disch := decide) only [State.each, State.fld_setFld_ne]

/-- The return of REFCLK in Full: the device leaves for Dawn, and loads again. -/
theorem State.refReturn_leaves {s : State} (href : s.ck.refFailed = true) (hpow : s.powered = true) (hmode : s.pw.mode = .full)
    (hback : s.justReturned = false) (ha : Alone s) : let u := s.refReturn
    u.ck.refFailed = false ∧ u.fld F.CLK_STAT_ref_ok = 1 ∧ u.fld F.CLK_STAT_timebase_src = 0 ∧ u.pw.mode = .dawn ∧
      u.pw.trans = some .toFull ∧ u.pw.stage = .training ∧ u.pw.refBack = true := by
  obtain ⟨hshown, hregs⟩ := s.refShown_leaves
  have hck : s.refShown.ck.refFailed = false := rfl
  have htw : s.refShown.tw = s.tw := rfl
  dsimp only
  rw [State.refReturn_full href hpow hmode hback]
  generalize s.refShown = v at *
  have hok : (v.setFld F.CLK_STAT_timebase_src 0).fld F.CLK_STAT_ref_ok = 1 :=
    (State.fld_setFld_ne _ _ (by decide) (by decide)).trans hshown
  have htime : (v.setFld F.CLK_STAT_timebase_src 0).fld F.CLK_STAT_timebase_src = 0 := State.fld_setFld_eq _ (by decide) (by decide)
  have hck' : (v.setFld F.CLK_STAT_timebase_src 0).ck = v.ck := rfl
  have htw' : (v.setFld F.CLK_STAT_timebase_src 0).tw = v.tw := rfl
  generalize v.setFld F.CLK_STAT_timebase_src 0 = w at *
  obtain ⟨live, b, hsup⟩ := w.supply_off 0
  have hx : CalmIo w.io ((w.supply 0 false).faultEv 0x4 2 0).io := by
    have hset : CalmIo w.io (w.supply 0 false).io := by
      rw [hsup]
      exact .setWord w.io (off := F.TEL_FAULT_clock_supply.off) (by decide) _
    exact hset.trans (State.faultEv_posts _ 0x4 2 0).calm
  have hxck : ((w.supply 0 false).faultEv 0x4 2 0).ck = w.ck := by rw [hsup]; rfl
  have hxtw : ((w.supply 0 false).faultEv 0x4 2 0).tw = w.tw := by rw [hsup]; rfl
  generalize (w.supply 0 false).faultEv 0x4 2 0 = x at *
  have hfell := x.fallsToDawn 0x1 keepNone false
  generalize ((x.discard 0x1 keepNone).dataLost false false).toDawn = d at *
  obtain ⟨hdok, hdtime⟩ := d.pllsLock_kept
  have hlparts := d.pllsLock_leaves.1
  generalize d.pllsLock = l at *
  have hlck : l.ck = d.ck := (congrArg State.ck hlparts :)
  have hlpw : l.pw = d.pw := (congrArg State.pw hlparts :)
  have hltw : l.tw = d.tw := (congrArg State.tw hlparts :)
  have hbpw : l.loadsBack.pw.mode = l.pw.mode ∧ l.loadsBack.pw.trans = some .toFull ∧ l.loadsBack.pw.stage = .training ∧
      l.loadsBack.pw.refBack = true := ⟨rfl, rfl, rfl, rfl⟩
  have hbio : l.loadsBack.io = l.io := rfl
  have hbck : l.loadsBack.ck = l.ck := rfl
  have hbtw : l.loadsBack.tw = l.tw := rfl
  generalize l.loadsBack = m at *
  have hop := m.opStart_points
  generalize m.opStart = o at *
  have hda : Alone d := hfell.alone (by
    unfold Alone State.peerAlive at *
    rw [hxtw, htw', htw]
    exact ha)
  have hma : Alone m := by
    unfold Alone State.peerAlive at *
    rw [hbtw, hltw]
    exact hda
  have hcl := State.reclaim_leaves (hop.alone hma) 1
  have hrpw : o.reclaim.pw = m.pw := (hcl.part State.pw fun _ _ _ _ _ => rfl).trans (hop.part State.pw fun _ _ _ => rfl)
  have hrck : o.reclaim.ck = o.ck := hcl.part State.ck fun _ _ _ _ _ => rfl
  have hword : o.reclaim.word 0x020000 = l.word 0x020000 :=
    (hcl.word _).trans ((hop.io.word _ (by decide)).trans (congrArg (fun io : Io => io.word 0x020000) hbio))
  have hdword : d.word 0x020000 = w.word 0x020000 := (hfell.word _ (by decide)).trans (hx.word _ (by decide))
  refine ⟨?_, ?_, ?_, ?_, ?_, ?_, ?_⟩
  · have h1 : o.ck.refFailed = m.ck.refFailed := (congrArg Ck.refFailed hop.ck :)
    have h2 : d.ck.refFailed = x.ck.refFailed := (congrArg Ck.refFailed hfell.ck :)
    rw [hrck, h1, hbck, hlck, h2, hxck, hck', hck]
  · exact (congrArg F.CLK_STAT_ref_ok.of hword).trans (hdok.trans ((congrArg F.CLK_STAT_ref_ok.of hdword).trans hok))
  · exact (congrArg F.CLK_STAT_timebase_src.of hword).trans (hdtime.trans ((congrArg F.CLK_STAT_timebase_src.of hdword).trans htime))
  · rw [hrpw, hbpw.1, hlpw, hfell.mode]
  · rw [hrpw, hbpw.2.1]
  · rw [hrpw, hbpw.2.2.1]
  · rw [hrpw, hbpw.2.2.2]

/-- The return of REFCLK without power: only its registers. -/
theorem State.refReturn_unpowered {s : State} (href : s.ck.refFailed = true) (hpow : s.powered = false) : s.refReturn = s.refShown := by
  unfold State.refReturn
  rw [if_neg (by rw [href]; decide)]
  extract_lets ck v w
  have hw : w.powered = false := hpow
  have hshown : w = s.refShown := rfl
  rw [if_pos (by rw [hw]; rfl), hshown]

/-- The monitor's count, where the clock is in its range. -/
theorem State.refFreq_in {s : State} {c1 c2 : Nat} (hpow : s.powered = true) (hxtal : s.fld F.CLK_STAT_xtal_ok = 1) :
    s.refFreq c1 c2 = if refOut c1 && refOut c2 then (s.setFld F.CLK_REF_COUNT_count c2).refFail F.CLK_FAIL_ref_freq
      else s.setFld F.CLK_REF_COUNT_count c2 := by
  have hflag : s.flag F.CLK_STAT_xtal_ok = true := State.flag_eq_true.mpr (hxtal.trans_ne (by decide))
  exact if_neg (by rw [hpow, hflag]; decide)

/-- Settles O25: REFCLK fails, stays away and returns. -/
theorem refclkFailsAndReturns : Obligations.RefclkFailsAndReturns := by
  intro t c1 c2 s failed
  have hcount (v : State) (hw : v.word 0x020024 = ((s.at t).setFld F.CLK_REF_COUNT_count c2).word 0x020024) :
      v.fld F.CLK_REF_COUNT_count = c2 % 65536 :=
    (congrArg F.CLK_REF_COUNT_count.of hw).trans (State.fld_setFld_self (s.at t) F.CLK_REF_COUNT_count c2 (by decide))
  have hfailed {v u : State} {bit : Fld} (h : RefFailed v u bit) (hmode : v.pw.mode = s.pw.mode) : failed u := by
    obtain ⟨-, -, ⟨href, hforced⟩, hok, ⟨htime, hdawn⟩, hwdog, hlocks, hlost, hm⟩ := h
    exact ⟨href, hforced, hok, htime, hdawn, hwdog, hlocks, hlost, hm.trans hmode⟩
  refine ⟨fun hpow href ha => ⟨?stop, fun hxtal ho1 ho2 => ?freq⟩, fun hpow hxtal hin => ?inRange, fun c => ?range,
    fun hpow href hlive => ?absent, fun href => ⟨fun hpow => ?dark, fun hpow hmode hback ha => ?back⟩⟩
  case stop =>
    have hnot : (s.at t).pw.mode ≠ .hibernate := by
      intro h
      have := (s.at t).powered_iff.mp hpow
      exact this.1 h
    have heq : (s.at t).refStop = (s.at t).refFail F.CLK_FAIL_ref_stop := if_neg hnot
    have h := State.refFail_leaves (s := s.at t) (bit := F.CLK_FAIL_ref_stop) ⟨rfl, by decide, by decide⟩ hpow href ha
    rw [← heq] at h
    have hf := hfailed h rfl
    exact ⟨_, rfl, h.latched, hf⟩
  case freq =>
    have heq := State.refFreq_in (s := s.at t) (c1 := c1) (c2 := c2) hpow hxtal
    rw [if_pos (by rw [ho1, ho2]; rfl)] at heq
    have h := State.refFail_leaves (s := (s.at t).setFld F.CLK_REF_COUNT_count c2) (bit := F.CLK_FAIL_ref_freq)
      ⟨rfl, by decide, by decide⟩ hpow href ha
    rw [← heq] at h
    have hf := hfailed h rfl
    exact ⟨_, rfl, h.latched, hcount _ h.count, hf⟩
  case inRange =>
    have heq := State.refFreq_in (s := s.at t) (c1 := c1) (c2 := c2) hpow hxtal
    rw [if_neg (by rcases hin with h | h <;> simp [h])] at heq
    exact ⟨_, run_eq_next (f := fun s => s.refFreq c1 c2) heq rfl, hcount _ rfl, (RegsOnly.at s t _).setFld (by decide) _⟩
  case range =>
    simp only [refOut, Bool.or_eq_false_iff, decide_eq_false_iff_not]
    omega
  case absent =>
    have habsent : (s.at t).refAbsent = (s.at t).supply 0 true := if_pos (by
      rw [show (s.at t).powered = true from hpow, show (s.at t).ck.refFailed = true from href]
      rfl)
    have heq := habsent.trans (State.supply_rises (s := s.at t) hlive)
    let v : State := { s.at t with fl := { s.fl with live := s.fl.live + 1 } }
    have hfld : (v.setFld F.TEL_FAULT_clock_supply 1).fld F.TEL_FAULT_clock_supply = 1 :=
      State.fld_setFld_eq _ (by decide) (by decide)
    have hwords : SameWords s (v.setFld F.TEL_FAULT_clock_supply 1) [0x0B0004] :=
      SameWords.setFld (fun _ _ _ => rfl) (f := F.TEL_FAULT_clock_supply) (by decide) 1
    exact ⟨_, run_eq_next (f := State.refAbsent) heq rfl, rfl, (State.fld_faultEv _ _ _ _ _ (by decide)).trans hfld,
      ⟨_, _, rfl, rfl, rfl⟩, rfl, hwords.faultEv 0x7 2 0⟩
  case dark =>
    have heq := State.refReturn_unpowered (s := s.at t) href hpow
    obtain ⟨hok, hregs⟩ := (s.at t).refShown_leaves
    exact ⟨_, run_eq_next (f := State.refReturn) heq rfl, rfl, rfl, hok, hregs.setNow s.now⟩
  case back =>
    have h := State.refReturn_leaves (s := s.at t) href hpow hmode hback ha
    obtain ⟨hck, hok, htime, hm, htr, hst, hrb⟩ := h
    exact ⟨_, rfl, hck, hok, htime, hm, htr, hst, hrb⟩

end Sys2Proof.Machine
end

-- ==== The voter and its lanes (R128 to R135) ====
section
/-!
SUPPORT. A lane leaves the voting set and joins again, or is retired; a pair that differs; O28.
-/

namespace Sys2Proof.Machine

/-- A field of a word that stays. -/
theorem State.fld_of_word {a b : State} {f : Fld} (h : b.word f.off = a.word f.off) : b.fld f = a.fld f :=
  congrArg f.of h

/-! ### The voter's registers (R128 to R135) -/

/-- Only the records of a disagreement. -/
theorem State.noteLane_leaves (s : State) {lane : Nat} (h : lane < 3) (w : LaneWhat) : let u := s.noteLane lane w
    RegsOnly s u [0x040004] ∧ u.fld F.TPL_DISAGREE_lane = lane ∧
      u.fld F.TPL_DISAGREE_count = min (s.fld F.TPL_DISAGREE_count + 1) 65535 := by
  refine ⟨?_, State.fld_setFld_eq _ (by decide) (lt_of_lt_of_le h (by decide)), ?_⟩
  · exact ((((RegsOnly.refl s _).count (by decide) 1).setFld (by decide) 1).setFld (by decide) _).setFld (by decide) _
  · refine (State.fld_setFld_ne _ _ (by decide) (by decide)).trans ?_
    rw [State.fld_setFld_ne _ _ (by decide) (by decide), State.fld_setFld_ne _ _ (by decide) (by decide),
      State.fld_count_self _ _ _ (by decide)]
    rfl

theorem bitN_sub_two_pow {v n : Nat} (h : bitN v n = true) : bitN (v - 2 ^ n) n = false := by
  unfold bitN at *
  rw [beq_iff_eq] at h
  rw [beq_eq_false_iff_ne]
  have hpos := Nat.two_pow_pos n
  have hle : 2 ^ n ≤ v := by
    by_contra hlt
    rw [Nat.div_eq_of_lt (by omega)] at h
    omega
  have hsub : (v - 2 ^ n) / 2 ^ n = v / 2 ^ n - 1 := by
    have := Nat.sub_mul_div v (2 ^ n) 1
    rwa [Nat.mul_one] at this
  have hone : 1 ≤ v / 2 ^ n := (Nat.one_le_div_iff hpos).mpr hle
  omega

theorem bitN_or_two_pow (v n : Nat) : bitN (v ||| 2 ^ n) n = true := by
  have h : (v ||| 2 ^ n).testBit n = true := by
    rw [Nat.testBit_or, Nat.testBit_two_pow_self, Bool.or_true]
  rw [Nat.testBit_eq_decide_div_mod_eq] at h
  exact beq_iff_eq.mpr (of_decide_eq_true h)

theorem or_two_pow_lt {v n w : Nat} (h : v < 2 ^ w) (hn : n < w) : v ||| 2 ^ n < 2 ^ w :=
  Nat.or_lt_two_pow h (Nat.pow_lt_pow_right (by decide) hn)

/-- A lane leaves the voting set. -/
theorem State.isolate_leaves (s : State) {lane : Nat} (h : bitN (s.fld F.TPL_STAT_voting) lane = true) : let u := s.isolate lane
    RegsOnly s u [0x040000] ∧ bitN (u.fld F.TPL_STAT_voting) lane = false ∧ u.fld F.TPL_STAT_pair_mode = 1 ∧
      u.fld F.TPL_STAT_retired = s.fld F.TPL_STAT_retired := by
  have hlt : s.fld F.TPL_STAT_voting - 2 ^ lane < 2 ^ F.TPL_STAT_voting.width :=
    lt_of_le_of_lt (Nat.sub_le _ _) (Fld.of_lt F.TPL_STAT_voting _)
  have heq : s.isolate lane = (s.setFld F.TPL_STAT_voting (s.fld F.TPL_STAT_voting - 2 ^ lane)).setFld F.TPL_STAT_pair_mode 1 := by
    unfold State.isolate
    dsimp only
    rw [if_pos h]
  dsimp only
  rw [heq]
  refine ⟨((RegsOnly.refl s _).setFld (by decide) _).setFld (by decide) _, ?_, State.fld_setFld_eq _ (by decide) (by decide), ?_⟩
  · have hfld := (State.fld_setFld_ne (s.setFld F.TPL_STAT_voting (s.fld F.TPL_STAT_voting - 2 ^ lane)) (f := F.TPL_STAT_voting)
      (g := F.TPL_STAT_pair_mode) 1 (by decide) (by decide)).trans (State.fld_setFld_eq _ (by decide) hlt)
    exact (congrArg (bitN · lane) hfld).trans (bitN_sub_two_pow h)
  · simp (disch := decide) only [State.fld_setFld_ne]

/-- A resynchronisation starts. -/
theorem State.resyncStart_leaves (s : State) {lane : Nat} (h : lane < 3) : let u := s.resyncStart lane
    RegsOnly { s with tp := u.tp } u [0x040000] ∧ u.fld F.TPL_STAT_resync_busy = 1 ∧ u.fld F.TPL_STAT_resync_lane = lane ∧
      u.fld F.TPL_STAT_voting = s.fld F.TPL_STAT_voting ∧ u.fld F.TPL_STAT_pair_mode = s.fld F.TPL_STAT_pair_mode ∧
      u.fld F.TPL_STAT_retired = s.fld F.TPL_STAT_retired := by
  unfold State.resyncStart
  extract_lets v tp
  have hv : RegsOnly s v [0x040000] := ((RegsOnly.refl s _).setFld (by decide) 1).setFld (by decide) lane
  have hbusy : v.fld F.TPL_STAT_resync_busy = 1 :=
    (State.fld_setFld_ne _ _ (by decide) (by decide)).trans (State.fld_setFld_eq _ (by decide) (by decide))
  have hlane : v.fld F.TPL_STAT_resync_lane = lane := State.fld_setFld_eq _ (by decide) (lt_of_lt_of_le h (by decide))
  have hkeep (f : Fld) (hf : f.off = 0x040000) (hhi : f.hi < 32) (hne : 6 < f.lo ∨ f.hi < 4) : v.fld f = s.fld f := by
    have h1 : F.TPL_STAT_resync_lane.off ≠ f.off ∨ f.hi < F.TPL_STAT_resync_lane.lo ∨ F.TPL_STAT_resync_lane.hi < f.lo := by
      right
      show f.hi < 5 ∨ 6 < f.lo
      omega
    have h2 : F.TPL_STAT_resync_busy.off ≠ f.off ∨ f.hi < F.TPL_STAT_resync_busy.lo ∨ F.TPL_STAT_resync_busy.hi < f.lo := by
      right
      show f.hi < 4 ∨ 4 < f.lo
      omega
    exact (State.fld_setFld_ne _ _ hhi h1).trans (State.fld_setFld_ne _ _ hhi h2)
  have hvoting := hkeep F.TPL_STAT_voting rfl (by decide) (by decide)
  have hpair := hkeep F.TPL_STAT_pair_mode rfl (by decide) (by decide)
  have hret := hkeep F.TPL_STAT_retired rfl (by decide) (by decide)
  clear_value v
  obtain ⟨hparts, hio, hword⟩ := hv
  have hset (x : Tp) : RegsOnly { s with tp := x } { v with tp := x } [0x040000] :=
    ⟨(congrArg (fun z : State => { z with tp := x }) hparts :), hio, hword⟩
  exact ⟨hset _, hbusy, hlane, hvoting, hpair, hret⟩

/-- What a retirement leaves (R134). -/
structure Retired (s u : State) (lane : Nat) : Prop where
  retired : bitN (u.fld F.TPL_STAT_retired) lane = true
  busy : u.fld F.TPL_STAT_resync_busy = 0
  voted : u.fld F.TEL_FAULT_voted = 1
  voting : u.fld F.TPL_STAT_voting = s.fld F.TPL_STAT_voting
  pair : u.fld F.TPL_STAT_pair_mode = s.fld F.TPL_STAT_pair_mode
  disagree : u.word 0x040004 = s.word 0x040004

theorem State.retire_leaves {s : State} (ha : Alone s) {lane : Nat} (h : lane < 3) : Retired s (s.retire lane) lane := by
  unfold State.retire
  extract_lets v w
  have hlt : s.fld F.TPL_STAT_retired ||| 2 ^ lane < 2 ^ F.TPL_STAT_retired.width :=
    or_two_pow_lt (Fld.of_lt F.TPL_STAT_retired _) h
  have hret : bitN (v.fld F.TPL_STAT_retired) lane = true := by
    have hfld : v.fld F.TPL_STAT_retired = s.fld F.TPL_STAT_retired ||| 2 ^ lane :=
      (State.fld_setFld_ne _ _ (by decide) (by decide)).trans (State.fld_setFld_eq _ (by decide) hlt)
    rw [hfld]
    exact bitN_or_two_pow _ _
  have hbusy : v.fld F.TPL_STAT_resync_busy = 0 := State.fld_setFld_eq _ (by decide) (by decide)
  have hvoting : v.fld F.TPL_STAT_voting = s.fld F.TPL_STAT_voting :=
    (State.fld_setFld_ne _ _ (by decide) (by decide)).trans (State.fld_setFld_ne _ _ (by decide) (by decide))
  have hpair : v.fld F.TPL_STAT_pair_mode = s.fld F.TPL_STAT_pair_mode :=
    (State.fld_setFld_ne _ _ (by decide) (by decide)).trans (State.fld_setFld_ne _ _ (by decide) (by decide))
  have hdis : v.word 0x040004 = s.word 0x040004 :=
    (State.word_setFld_off _ _ _ (by decide)).trans (State.word_setFld_off _ _ _ (by decide))
  have hva : Alone v := ha
  clear_value v
  let p := (v.pushItem 0x03).stateRefresh
  have hp : Pushes v p := (v.pushItem_pushes 0x03 []).trans ((v.pushItem 0x03).pushItem_pushes 0x06 [])
  have hw : w = p.setFld F.TEL_FAULT_voted 1 := rfl
  clear_value w p
  subst hw
  have hpa : Alone p := by
    have htw : p.tw = v.tw := (congrArg State.tw hp.parts :)
    unfold Alone State.peerAlive at *
    rw [htw]
    exact hva
  have hnotes : Notes (p.setFld F.TEL_FAULT_voted 1) ((p.setFld F.TEL_FAULT_voted 1).faultEv 0x5 lane 0) := (Notes.refl _).faultEv _ _ _
  have hvoted : (p.setFld F.TEL_FAULT_voted 1).fld F.TEL_FAULT_voted = 1 := State.fld_setFld_eq _ (by decide) (by decide)
  have hstay (off : Nat) (hoff : off = 0x040000 ∨ off = 0x040004) : (p.setFld F.TEL_FAULT_voted 1).word off = v.word off := by
    have h1 : (p.setFld F.TEL_FAULT_voted 1).word off = p.word off := State.word_setFld_off _ _ _ (by rcases hoff with rfl | rfl <;> decide)
    exact h1.trans (hp.word off (by rcases hoff with rfl | rfl <;> decide))
  have hqa : Alone (p.setFld F.TEL_FAULT_voted 1) := hpa
  generalize p.setFld F.TEL_FAULT_voted 1 = q at *
  generalize q.faultEv 0x5 lane 0 = f at *
  have hfa : Alone f := by
    have htw : f.tw = q.tw := hnotes.part State.tw fun _ _ _ => rfl
    unfold Alone State.peerAlive at *
    rw [htw]
    exact hqa
  have hcl := State.claimFell_leaves hfa
  have hword (off : Nat) (hoff : off = 0x040000 ∨ off = 0x040004) : f.claimFell.word off = v.word off :=
    (hcl.word off).trans ((hnotes.word (by rcases hoff with rfl | rfl <;> decide)).trans (hstay off hoff))
  have hstat := hword 0x040000 (.inl rfl)
  refine ⟨?_, (congrArg F.TPL_STAT_resync_busy.of hstat).trans hbusy, ?_, (congrArg F.TPL_STAT_voting.of hstat).trans hvoting,
    (State.fld_of_word (f := F.TPL_STAT_pair_mode) hstat).trans hpair, (hword _ (.inr rfl)).trans hdis⟩
  · exact (congrArg (bitN · lane) (congrArg F.TPL_STAT_retired.of hstat)).trans hret
  · exact (hcl.fld _).trans ((hnotes.fld (by decide)).trans hvoted)

/-- A pair has disagreed (R133). -/
structure PairFailed (s u : State) : Prop where
  pairFail : u.tp.pairFail = some s.now
  claim : u.tw.claim = 0
  forced : u.ck.forced = true
  voted : u.fld F.TEL_FAULT_voted = 1
  held : u.pw.faultHeld = s.pw.faultHeld ++ [(0x5, 0xFF)]

theorem State.pairFails_leaves {s : State} (ha : Alone s) : PairFailed s s.pairFails := by
  unfold State.pairFails
  extract_lets ck pw tp v
  have hva : Alone v := ha
  have htp : v.tp.pairFail = some s.now := rfl
  have hck : v.ck.forced = true := rfl
  have hpw : v.pw.faultHeld = s.pw.faultHeld ++ [(0x5, 0xFF)] := rfl
  clear_value v
  have hstop : Calm v v.radioStop := (Calm.refl v).radioStop
  have hrtp : v.radioStop.tp = v.tp := hstop.part State.tp fun _ _ _ _ _ _ _ _ _ _ => rfl
  have hrck : v.radioStop.ck = v.ck := hstop.part State.ck fun _ _ _ _ _ _ _ _ _ _ => rfl
  have hrpw : v.radioStop.pw = v.pw := hstop.part State.pw fun _ _ _ _ _ _ _ _ _ _ => rfl
  have hra : Alone v.radioStop := hstop.alone hva
  generalize v.radioStop = r at *
  have hvoted : (r.setFld F.TEL_FAULT_voted 1).fld F.TEL_FAULT_voted = 1 := State.fld_setFld_eq _ (by decide) (by decide)
  have hqa : Alone (r.setFld F.TEL_FAULT_voted 1) := hra
  have hqtp : (r.setFld F.TEL_FAULT_voted 1).tp = r.tp := rfl
  have hqck : (r.setFld F.TEL_FAULT_voted 1).ck = r.ck := rfl
  have hqpw : (r.setFld F.TEL_FAULT_voted 1).pw = r.pw := rfl
  generalize r.setFld F.TEL_FAULT_voted 1 = q at *
  have hcl := State.claimFell_leaves hqa
  have hdead : q.aliveNow = false := by
    unfold State.aliveNow
    rw [hqtp, hrtp, htp]
    simp
  refine ⟨?_, State.claimFell_claim_of_dead hqa hdead, ?_, (hcl.fld _).trans hvoted, ?_⟩
  · rw [hcl.part State.tp fun _ _ _ _ _ => rfl, hqtp, hrtp, htp]
  · rw [hcl.part State.ck fun _ _ _ _ _ => rfl, hqck, hrck, hck]
  · rw [hcl.part State.pw fun _ _ _ _ _ => rfl, hqpw, hrpw, hpw]

/-! ### A lane that differs, and one that rejoins -/

/-- The lane is marked, isolated and told of. -/
def State.laneOut (s : State) (lane : Nat) : State :=
  let s : State := { s with tp := { s.tp with marks := (lane, s.now) :: s.tp.marks } }
  ((s.isolate lane).pushItem 0x01).stateRefresh

theorem State.laneDiffers_votes {s : State} {lane : Nat} {w : LaneWhat} (hvotes : s.votes = true) (hw : w ≠ .readBack)
    (hin : bitN (s.fld F.TPL_STAT_voting) lane = true) : s.laneDiffers lane w =
      if (s.noteLane lane w).flag F.TPL_STAT_pair_mode then (s.noteLane lane w).pairFails
      else if 3 ≤ ((s.noteLane lane w).laneOut lane).laneMarks lane then ((s.noteLane lane w).laneOut lane).retire lane
      else ((s.noteLane lane w).laneOut lane).resyncStart lane := by
  unfold State.laneDiffers
  rw [if_neg (by rw [hvotes]; decide)]
  match w with
  | .readBack => exact absurd rfl hw
  | .compare => exact if_neg (by rw [hin]; decide)
  | .memory => exact if_neg (by rw [hin]; decide)

/-- The lane's registers once it is out. -/
structure LaneOut (s u : State) (lane : Nat) : Prop where
  parts : { u with io := s.io, tp := s.tp, now := s.now } = s
  now : u.now = s.now
  word : ∀ off, off ≠ 0x040000 → off ≠ 0x040028 → u.word off = s.word off
  voting : bitN (u.fld F.TPL_STAT_voting) lane = false
  pair : u.fld F.TPL_STAT_pair_mode = 1
  retired : u.fld F.TPL_STAT_retired = s.fld F.TPL_STAT_retired
  marks : u.tp.marks = (lane, s.now) :: s.tp.marks

theorem State.pushItem_marks (s : State) (ty : Nat) (l : List PWord) : (s.pushItem ty l).tp.marks = s.tp.marks := by
  unfold State.pushItem
  dsimp only
  split
  · rfl
  · rfl

theorem State.laneOut_leaves (s : State) {lane : Nat} (h : bitN (s.fld F.TPL_STAT_voting) lane = true) :
    LaneOut s (s.laneOut lane) lane := by
  unfold State.laneOut
  extract_lets tp v
  have hvparts : { v with tp := s.tp } = s := rfl
  have hvnow : v.now = s.now := rfl
  have hvfld (off : Nat) : v.word off = s.word off := rfl
  have hvmarks : v.tp.marks = (lane, s.now) :: s.tp.marks := rfl
  have hvin : bitN (v.fld F.TPL_STAT_voting) lane = true := h
  clear_value v
  obtain ⟨⟨hparts, hio, hword⟩, hvoting, hpair, hret⟩ := v.isolate_leaves hvin
  have hitp : (v.isolate lane).tp = v.tp := (congrArg State.tp hparts :)
  have hinow : (v.isolate lane).now = v.now := rfl
  generalize v.isolate lane = i at *
  have hp : Pushes i (i.pushItem 0x01).stateRefresh := (i.pushItem_pushes 0x01 []).trans ((i.pushItem 0x01).pushItem_pushes 0x06 [])
  have hmarks : (i.pushItem 0x01).stateRefresh.tp.marks = i.tp.marks :=
    ((i.pushItem 0x01).pushItem_marks 0x06 []).trans (i.pushItem_marks 0x01 [])
  generalize (i.pushItem 0x01).stateRefresh = u at *
  have hstat : u.word 0x040000 = i.word 0x040000 := hp.word _ (by decide)
  refine ⟨?_, ((congrArg State.now hp.parts :).trans hinow).trans hvnow, fun off h1 h2 =>
    (hp.word off h2).trans ((hword off (by simpa using h1)).trans (hvfld off)),
    (congrArg (bitN · lane) (congrArg F.TPL_STAT_voting.of hstat)).trans hvoting,
    (State.fld_of_word (f := F.TPL_STAT_pair_mode) hstat).trans hpair, (congrArg F.TPL_STAT_retired.of hstat).trans
      (hret.trans (congrArg F.TPL_STAT_retired.of (hvfld 0x040000))), by rw [hmarks, hitp, hvmarks]⟩
  have h1 := (congrArg (fun z : State => { z with io := s.io, tp := s.tp, now := s.now }) hp.parts :)
  have h2 := (congrArg (fun z : State => { z with io := s.io, tp := s.tp, now := s.now }) hparts :)
  have h3 := (congrArg (fun z : State => { z with io := s.io, tp := s.tp, now := s.now }) hvparts :)
  exact h1.trans (h2.trans h3)

theorem State.laneDiffers_readBack {s : State} {lane : Nat} (hvotes : s.votes = true) (hbusy : s.fld F.TPL_STAT_resync_busy = 1)
    (hlane : s.fld F.TPL_STAT_resync_lane = lane) : s.laneDiffers lane .readBack =
      if s.tp.copyRestarted then (s.noteLane lane .readBack).retire lane
      else { s.noteLane lane .readBack with tp := { s.tp with copyRestarted := true } } := by
  have hres : s.resyncing = true := State.flag_eq_true.mpr (hbusy.trans_ne (by decide))
  unfold State.laneDiffers
  rw [if_neg (by rw [hvotes]; decide)]
  exact if_neg (by rw [hres, hlane]; simp)

/-- A lane joins again, and the time that it took is recorded. -/
def State.rejoined (s : State) (lane : Nat) : State :=
  let s := (s.setFld F.TPL_STAT_resync_busy 0).setFld F.TPL_STAT_pair_mode 0
  let s := s.setFld F.TPL_STAT_voting (s.fld F.TPL_STAT_voting ||| 2 ^ lane)
  (s.count F.TPL_RESYNC_count).setFld F.TPL_RESYNC_last_us (min ((s.now - s.tp.resyncAt + 999) / 1000) 2047)

theorem State.rejoin_eq {s : State} {lane : Nat} (hvotes : s.votes = true) (hbusy : s.fld F.TPL_STAT_resync_busy = 1)
    (hlane : s.fld F.TPL_STAT_resync_lane = lane) : s.rejoin = ((s.rejoined lane).pushItem 0x02).stateRefresh := by
  have hres : s.resyncing = true := State.flag_eq_true.mpr (hbusy.trans_ne (by decide))
  subst hlane
  exact if_neg (by rw [hvotes, hres]; decide)

/-- The registers of a lane that has joined again. -/
structure Rejoined (s u : State) (lane : Nat) : Prop where
  regs : RegsOnly s u [0x040000, 0x040008]
  voting : bitN (u.fld F.TPL_STAT_voting) lane = true
  pair : u.fld F.TPL_STAT_pair_mode = 0
  busy : u.fld F.TPL_STAT_resync_busy = 0
  count : u.fld F.TPL_RESYNC_count = min (s.fld F.TPL_RESYNC_count + 1) 65535
  last : u.fld F.TPL_RESYNC_last_us = min ((s.now - s.tp.resyncAt + 999) / 1000) 2047

theorem State.rejoined_leaves (s : State) {lane : Nat} (h : lane < 3) : Rejoined s (s.rejoined lane) lane := by
  unfold State.rejoined
  extract_lets v w
  have hv : RegsOnly s v [0x040000, 0x040008] := ((RegsOnly.refl s _).setFld (by decide) 0).setFld (by decide) 0
  have hvpair : v.fld F.TPL_STAT_pair_mode = 0 := State.fld_setFld_eq _ (by decide) (by decide)
  have hvbusy : v.fld F.TPL_STAT_resync_busy = 0 :=
    (State.fld_setFld_ne _ _ (by decide) (by decide)).trans (State.fld_setFld_eq _ (by decide) (by decide))
  have hvcount : v.fld F.TPL_RESYNC_count = s.fld F.TPL_RESYNC_count :=
    (State.fld_setFld_off _ _ _ _ (by decide)).trans (State.fld_setFld_off _ _ _ _ (by decide))
  have hvnow : v.now = s.now ∧ v.tp = s.tp := ⟨rfl, rfl⟩
  clear_value v
  have hw : RegsOnly s w [0x040000, 0x040008] := hv.setFld (by decide) _
  have hlt : v.fld F.TPL_STAT_voting ||| 2 ^ lane < 2 ^ F.TPL_STAT_voting.width := or_two_pow_lt (Fld.of_lt F.TPL_STAT_voting _) h
  have hwvote : bitN (w.fld F.TPL_STAT_voting) lane = true := by
    have hfld : w.fld F.TPL_STAT_voting = v.fld F.TPL_STAT_voting ||| 2 ^ lane := State.fld_setFld_eq _ (by decide) hlt
    rw [hfld]
    exact bitN_or_two_pow _ _
  have hwpair : w.fld F.TPL_STAT_pair_mode = 0 := (State.fld_setFld_ne _ _ (by decide) (by decide)).trans hvpair
  have hwbusy : w.fld F.TPL_STAT_resync_busy = 0 := (State.fld_setFld_ne _ _ (by decide) (by decide)).trans hvbusy
  have hwcount : w.fld F.TPL_RESYNC_count = s.fld F.TPL_RESYNC_count := (State.fld_setFld_off _ _ _ _ (by decide)).trans hvcount
  have hwnow : w.now = s.now ∧ w.tp = s.tp := hvnow
  clear_value w
  obtain ⟨hnow, htp⟩ := hwnow
  rw [hnow, htp]
  have hlast : min ((s.now - s.tp.resyncAt + 999) / 1000) 2047 < 2 ^ F.TPL_RESYNC_last_us.width :=
    lt_of_le_of_lt (Nat.min_le_right _ _) (by decide)
  have hstat (f : Fld) (hf : f.off = 0x040000) : ((w.count F.TPL_RESYNC_count).setFld F.TPL_RESYNC_last_us
      (min ((s.now - s.tp.resyncAt + 999) / 1000) 2047)).fld f = w.fld f :=
    (State.fld_setFld_off _ _ _ _ (by rw [hf]; decide)).trans (State.fld_count_off _ _ _ _ (by rw [hf]; decide))
  refine ⟨(hw.count (by decide) 1).setFld (by decide) _, (congrArg (bitN · lane) (hstat _ rfl)).trans hwvote,
    (hstat _ rfl).trans hwpair, (hstat _ rfl).trans hwbusy, ?_, State.fld_setFld_eq _ (by decide) hlast⟩
  rw [State.fld_setFld_ne _ _ (by decide) (by decide), State.fld_count_self _ _ _ (by decide), hwcount]
  rfl

/-- `b` differs from `a` in the voter and in the registers at the offsets `l`. -/
def VoterOnly (a b : State) (l : List Nat) : Prop := RegsOnly { a with tp := b.tp } b l

theorem VoterOnly.trans {a b c : State} {l : List Nat} (h : VoterOnly a b l) (h' : VoterOnly b c l) : VoterOnly a c l := by
  obtain ⟨hp, hio, hw⟩ := h
  obtain ⟨hp', hio', hw'⟩ := h'
  refine ⟨?_, hio'' hio hio', fun off hoff => (hw' off hoff).trans (hw off hoff)⟩
  exact (congrArg (fun z : State => { z with io := a.io, now := a.now }) hp' :).trans
    (congrArg (fun z : State => { z with tp := c.tp }) hp :)
where
  hio'' (h : { b.io with regs := a.io.regs } = a.io) (h' : { c.io with regs := b.io.regs } = b.io) :
      { c.io with regs := a.io.regs } = a.io :=
    (congrArg (fun z : Io => { z with regs := a.io.regs }) h' :).trans h

theorem VoterOnly.mono {a b : State} {l l' : List Nat} (h : VoterOnly a b l) (hl : l ⊆ l') : VoterOnly a b l' := by
  obtain ⟨hparts, hio, hword⟩ := h
  exact ⟨hparts, hio, fun off hoff => hword off fun hin => hoff (hl hin)⟩

/-- The whole step differs in the same way. -/
theorem VoterOnly.step {s u : State} {t : Nat} {l : List Nat} (h : VoterOnly (s.at t) u l) :
    VoterOnly s { u with pending := s.pending } l := by
  obtain ⟨hparts, hio, hword⟩ := h
  exact ⟨(congrArg (fun z : State => { z with now := s.now, pending := s.pending }) hparts :), hio, hword⟩

theorem State.pushItem_only (s : State) (ty : Nat) (l : List PWord) : VoterOnly s (s.pushItem ty l) [0x040028] := by
  unfold State.pushItem
  extract_lets q tp v it w
  split
  · exact ⟨rfl, rfl, fun _ _ => rfl⟩
  · exact ⟨rfl, rfl, fun off hoff => State.word_setWord_ne _ _ fun h => hoff (List.mem_singleton.mpr h.symm)⟩

/-- A lane leaves the voting set, and is resynchronised or retired. -/
structure LaneOutcome (s u : State) (lane : Nat) (n : Nat) : Prop where
  voting : bitN (u.fld F.TPL_STAT_voting) lane = false
  pair : u.fld F.TPL_STAT_pair_mode = 1
  told : u.fld F.TPL_DISAGREE_lane = lane
  count : u.fld F.TPL_DISAGREE_count = min (s.fld F.TPL_DISAGREE_count + 1) 65535
  resync : n < 3 → u.fld F.TPL_STAT_resync_busy = 1 ∧ u.fld F.TPL_STAT_resync_lane = lane ∧
    u.fld F.TPL_STAT_retired = s.fld F.TPL_STAT_retired ∧ SameWords s u [0x040000, 0x040004, 0x040028]
  retire : 3 ≤ n → bitN (u.fld F.TPL_STAT_retired) lane = true ∧ u.fld F.TPL_STAT_resync_busy = 0 ∧ u.fld F.TEL_FAULT_voted = 1

theorem State.laneOutcome {s : State} {lane : Nat} {w : LaneWhat} (hl : lane < 3) (hvotes : s.votes = true) (hw : w ≠ .readBack)
    (hin : bitN (s.fld F.TPL_STAT_voting) lane = true) (hpair : s.fld F.TPL_STAT_pair_mode = 0) (ha : Alone s) :
    LaneOutcome s (s.laneDiffers lane w) lane (((lane, s.now) :: s.tp.marks).filter
      fun m => m.1 == lane && decide (s.now ≤ m.2 + 60000000000)).length := by
  have heq := State.laneDiffers_votes hvotes hw hin
  obtain ⟨⟨hnparts, -, hnword⟩, hnlane, hncount⟩ := s.noteLane_leaves hl w
  have hnstat : (s.noteLane lane w).word 0x040000 = s.word 0x040000 := hnword _ (by decide)
  have hntp : (s.noteLane lane w).tp = s.tp := (congrArg State.tp hnparts :)
  have hnnow : (s.noteLane lane w).now = s.now := rfl
  have hntw : (s.noteLane lane w).tw = s.tw := (congrArg State.tw hnparts :)
  rw [if_neg (Bool.eq_false_iff.mp (State.flag_eq_false.mpr ((State.fld_of_word (f := F.TPL_STAT_pair_mode) hnstat).trans hpair)))] at heq
  generalize s.noteLane lane w = n at *
  have ho := n.laneOut_leaves (lane := lane) ((congrArg (fun v => bitN (F.TPL_STAT_voting.of v) lane) hnstat).trans hin)
  have hodis : (n.laneOut lane).word 0x040004 = n.word 0x040004 := ho.word _ (by decide) (by decide)
  have hotw : (n.laneOut lane).tw = s.tw := (congrArg State.tw ho.parts :).trans hntw
  have hoa : Alone (n.laneOut lane) := by
    unfold Alone State.peerAlive at *
    rw [hotw]
    exact ha
  have hmarks : (n.laneOut lane).laneMarks lane = (((lane, s.now) :: s.tp.marks).filter
      fun m => m.1 == lane && decide (s.now ≤ m.2 + 60000000000)).length := by
    unfold State.laneMarks
    rw [ho.marks, ho.now, hnnow, hntp]
    rfl
  rw [hmarks] at heq
  generalize (((lane, s.now) :: s.tp.marks).filter fun m => m.1 == lane && decide (s.now ≤ m.2 + 60000000000)).length = k at *
  generalize n.laneOut lane = o at *
  by_cases hk : 3 ≤ k
  · rw [if_pos hk] at heq
    have hr := State.retire_leaves hoa hl
    rw [← heq] at hr
    generalize s.laneDiffers lane w = u at *
    have hdis := hr.disagree.trans hodis
    exact ⟨(congrArg (bitN · lane) hr.voting).trans ho.voting, hr.pair.trans ho.pair,
      (congrArg F.TPL_DISAGREE_lane.of hdis).trans hnlane, (congrArg F.TPL_DISAGREE_count.of hdis).trans hncount,
      fun h => absurd h (by omega), fun _ => ⟨hr.retired, hr.busy, hr.voted⟩⟩
  · rw [if_neg hk] at heq
    obtain ⟨⟨-, -, hrword⟩, hbusy, hlane, hvoting, hrpair, hret⟩ := o.resyncStart_leaves hl
    rw [← heq] at hrword hbusy hlane hvoting hrpair hret
    generalize s.laneDiffers lane w = u at *
    have hdis : u.word 0x040004 = n.word 0x040004 := (hrword _ (by decide)).trans hodis
    refine ⟨(congrArg (bitN · lane) hvoting).trans ho.voting, hrpair.trans ho.pair,
      (congrArg F.TPL_DISAGREE_lane.of hdis).trans hnlane, (congrArg F.TPL_DISAGREE_count.of hdis).trans hncount,
      fun _ => ⟨hbusy, hlane, hret.trans (ho.retired.trans (congrArg F.TPL_STAT_retired.of hnstat)), fun off _ hoff => ?_⟩,
      fun h => absurd h hk⟩
    simp only [List.mem_cons, List.not_mem_nil, or_false, not_or] at hoff
    obtain ⟨h0, h4, h28⟩ := hoff
    exact (hrword off (by simpa using h0)).trans ((ho.word off h0 h28).trans (hnword off (by simpa using h4)))

/-- Settles O28: a lane that differs, a pair that does, and a lane that joins again. -/
theorem voterAndLanes : Obligations.VoterAndLanes := by
  intro t lane w x s marks
  have hl := lane.isLt
  obtain ⟨hnregs, -⟩ := (s.at t).noteLane_leaves hl w
  refine ⟨fun hvotes hw hin => ⟨fun hpair ha => ?out, fun hpair ha => ?fatal⟩, fun hvotes hbusy hlane =>
    ⟨fun hfirst => ?again, fun hsecond ha => ?retired, ?rejoin⟩, fun hvotes hpair ha => ?pair, fun a hfail =>
    ⟨fun hearly => ?wait, fun hdue hshut hlow hrc => ?reset⟩⟩
  case out =>
    have h := State.laneOutcome (s := s.at t) hl hvotes hw hin hpair ha
    exact ⟨_, rfl, h.voting, h.pair, h.told, h.count, h.resync, h.retire⟩
  case fatal =>
    have heq := State.laneDiffers_votes (s := s.at t) hvotes hw hin
    have hstat := hnregs.2.2 0x040000 (by decide)
    rw [if_pos (State.flag_eq_true.mpr (((State.fld_of_word (f := F.TPL_STAT_pair_mode) hstat).trans hpair).trans_ne (by decide)))] at heq
    have hna : Alone ((s.at t).noteLane lane w) := ha
    have h := State.pairFails_leaves hna
    rw [← heq] at h
    exact ⟨_, rfl, h.pairFail, h.claim, h.forced, h.voted⟩
  case again =>
    have heq := (State.laneDiffers_readBack (s := s.at t) hvotes hbusy hlane).trans (if_neg (by
      rw [show (s.at t).tp.copyRestarted = false from hfirst]; decide))
    obtain ⟨hregs, -⟩ := (s.at t).noteLane_leaves hl .readBack
    obtain ⟨hparts, hio, hword⟩ := hregs
    have htp : ((s.at t).laneDiffers lane .readBack).tp = { s.tp with copyRestarted := true } := by rw [heq]; rfl
    have hv : VoterOnly (s.at t) ((s.at t).laneDiffers lane .readBack) [0x040004] := by
      rw [heq]
      exact ⟨(congrArg (fun z : State => { z with tp := { s.tp with copyRestarted := true } }) hparts :), hio, hword⟩
    exact ⟨_, rfl, htp, hv.step⟩
  case retired => 
    have heq := (State.laneDiffers_readBack (s := s.at t) hvotes hbusy hlane).trans (if_pos hsecond)
    have hna : Alone ((s.at t).noteLane lane .readBack) := ha
    have h := State.retire_leaves hna hl
    rw [← heq] at h
    exact ⟨_, rfl, h.retired, h.busy⟩
  case rejoin =>
    have heq := State.rejoin_eq (s := s.at t) hvotes hbusy hlane
    have hr := (s.at t).rejoined_leaves hl
    generalize (s.at t).rejoined lane = r at *
    have hp : Pushes r (r.pushItem 0x02).stateRefresh := (r.pushItem_pushes 0x02 []).trans ((r.pushItem 0x02).pushItem_pushes 0x06 [])
    rw [← heq] at hp
    have hfld (f : Fld) (hf : f.off ≠ 0x040028) : (s.at t).rejoin.fld f = r.fld f := congrArg f.of (hp.word _ hf)
    refine ⟨_, rfl, (congrArg (bitN · lane) (hfld _ (by decide))).trans hr.voting, (hfld _ (by decide)).trans hr.pair,
      (hfld _ (by decide)).trans hr.busy, (hfld _ (by decide)).trans hr.count, (hfld _ (by decide)).trans hr.last, ?_⟩
    have hroff : VoterOnly (s.at t) r [0x040000, 0x040008, 0x040028] := by
      obtain ⟨hparts, hio, hword⟩ := hr.regs
      have htp : r.tp = s.tp := (congrArg State.tp hparts :)
      refine ⟨(congrArg (fun z : State => { z with tp := r.tp }) hparts :), hio, fun off hoff => hword off fun h => hoff ?_⟩
      simp only [List.mem_cons] at h ⊢
      tauto
    have hpo : VoterOnly r (s.at t).rejoin [0x040028] := by
      rw [heq]
      exact (r.pushItem_only 0x02 []).trans ((r.pushItem 0x02).pushItem_only 0x06 [])
    exact (hroff.trans (hpo.mono (by decide))).step
  case pair =>
    have heq : (s.at t).pairDiffers = (s.at t).pairFails := if_pos (Bool.and_eq_true_iff.mpr ⟨hvotes,
      State.flag_eq_true.mpr (hpair.trans_ne (by decide))⟩)
    have h := State.pairFails_leaves (s := s.at t) ha
    rw [← heq] at h
    exact ⟨_, rfl, h.pairFail, h.claim, h.forced, h.voted, h.held⟩
  case wait =>
    have heq : (s.at t).tplReset x = s.at t := by
      unfold State.tplReset
      rw [show (s.at t).tp.pairFail = some a from hfail]
      exact if_pos hearly
    exact run_eq_next (f := fun s => s.tplReset x) heq rfl
  case reset =>
    have heq : (s.at t).tplReset x = ((s.at t).resetDown false).startUp x F.PWR_RESET_CAUSE_tpl := by
      obtain ⟨-, -, -, -, hpn, -⟩ := (s.at t).resetDown_parts false
      obtain ⟨tw, hb, -⟩ := State.beforeReset_closed (s := s.at t) hshut false
      rw [hb] at hpn
      unfold State.tplReset
      rw [show (s.at t).tp.pairFail = some a from hfail]
      refine (if_neg (Nat.not_lt.mpr hdue)).trans (State.startOrHold_eq x _ ?_ ?_)
      · rw [hpn]; exact hlow
      · rw [hpn]; exact hrc
    obtain ⟨-, hst⟩ := (s.at t).resetDown_startUp false x (cause := F.PWR_RESET_CAUSE_tpl) (by decide)
    rw [← heq] at hst
    exact ⟨_, rfl, hst⟩

end Sys2Proof.Machine
end

-- ==== Mesh link commands (R230 to R234) ====
section
/-!
SUPPORT. A command over one block, a connection that is created or freed, and the pattern announced; O46.
-/

namespace Sys2Proof.Machine

/-! ### Byte fields (R467) -/

theorem leNat_lt (bs : Bytes) : leNat bs < 256 ^ bs.length := by
  induction bs with
  | nil => decide
  | cons b bs ih =>
    have hb : b.toNat < 256 := b.isLt
    rw [leNat, List.length_cons, Nat.pow_succ]
    omega

theorem Bytes.le_lt (b : Bytes) (off n : Nat) : Bytes.le b off n < 256 ^ n := by
  have h := leNat_lt (Bytes.slice b off n)
  rwa [Bytes.length_slice] at h

theorem leNat_append (a b : Bytes) : leNat (a ++ b) = leNat a + 256 ^ a.length * leNat b := by
  induction a with
  | nil => simp [leNat]
  | cons x a ih =>
    rw [List.cons_append, leNat, leNat, ih, List.length_cons, Nat.pow_succ]
    ring

theorem Bytes.slice_eq_map (b : Bytes) (off n : Nat) : Bytes.slice b off n = (List.range n).map fun i => b.getD (off + i) 0#8 := by
  refine List.ext_getElem (by simp [Bytes.slice]) fun i h1 h2 => ?_
  have hi : i < n := by simpa using h2
  by_cases hlt : off + i < b.length
  · simp [Bytes.slice, hi, hlt, show i < b.length - off by omega]
  · simp [Bytes.slice, List.getElem_append, hlt, show ¬ i < b.length - off by omega]

theorem Bytes.slice_add (b : Bytes) (off n m : Nat) :
    Bytes.slice b off (n + m) = Bytes.slice b off n ++ Bytes.slice b (off + n) m := by
  simp [Bytes.slice_eq_map, List.range_add, Nat.add_assoc, Function.comp_def]

theorem Bytes.le_add (b : Bytes) (off n m : Nat) :
    Bytes.le b off (n + m) = Bytes.le b off n + 256 ^ n * Bytes.le b (off + n) m := by
  unfold Bytes.le
  rw [Bytes.slice_add, leNat_append, Bytes.length_slice]

/-- The low bytes of a field. -/
theorem Bytes.le_mod (b : Bytes) (off n m : Nat) : Bytes.le b off (n + m) % 256 ^ n = Bytes.le b off n := by
  rw [Bytes.le_add, Nat.add_mul_mod_self_left, Nat.mod_eq_of_lt (Bytes.le_lt b off n)]

/-! ### A command over one block (R230 to R232) -/

/-- A run over one block. -/
theorem OneBlock.run {c : Cmd} {size rsv : Nat} {b : Bytes} (h : OneBlock c size rsv b) (statusAt : Nat) (s : State)
    (f : State → Bytes → BlockReply) {most : Nat} (hmost : 1 ≤ most) (all : Bool) :
    blockRun c size statusAt rsv s f most all =
      { status := some (if all then stOK else (f s b).status), st := (f s b).st
        writes := ((f s b).writes.map fun w => (c.f 0 8 + w.1, w.2)) ++ [(c.f 0 8 + statusAt, toLE 1 (f s b).status)] } := by
  obtain ⟨halign, hone, hzero, herr, rfl⟩ := h
  have hread : c.readFails (1 * size) = none := by unfold Cmd.readFails; rw [herr]
  unfold blockRun
  dsimp only
  rw [hone, if_neg (by rw [halign, hzero]; simp; omega), hread]
  dsimp only [cutBlocks, runBlocks]
  by_cases hall : all = true
  · subst hall
    simp [Reply.ok]
  · obtain rfl : all = false := by simpa using hall
    by_cases hok : (f s (Bytes.slice c.rd 0 size)).status = stOK
    · simp [hok, Reply.ok]
    · simp [hok]

/-- A command over one block is answered with the block's status, written into it. -/
theorem blockCommand_answered {s v w : State} {t op size statusAt rsv most st : Nat} {all : Bool} {c : Cmd} {b : Bytes}
    {f : State → Bytes → BlockReply} {ws : List (Nat × Bytes)} {l : List Nat} (hready : Ready s c .command)
    (hfull : s.pw.mode = .full) (hop : op ∈ opcodes) (hb : OneBlock c size rsv b) (hmost : 1 ≤ most)
    (hf : f (s.found t c) b = { status := st, st := v, writes := ws })
    (hdef : (if all then stOK else st) ≠ stDEFERRED) (hreach : Reaches (s.found t c).io v.io)
    (hout : v.io.out = s.io.out) (hq : v.pending = s.pending) (hhost : HostOnly w v l) :
    ∃ u, run t s (ringRun op .command c fun s => blockRun c size statusAt rsv s f most all) = .next u ∧
      Answered s u c (if all then stOK else st)
        ((ws.map fun w => (c.f 0 8 + w.1, w.2)) ++ [(c.f 0 8 + statusAt, toLE 1 st)]) ∧ HostOnly w u l ∧
      ∃ io, u = { v with io := io } ∧ Posts v.io io := by
  have hrun := hb.run statusAt (s.found t c) f hmost all
  rw [hf] at hrun
  obtain ⟨u, hu, hans, hho, heq⟩ := ringCommand_answered
    (h := fun s => blockRun c size statusAt rsv s f most all) hready hop (by rw [hfull]; rfl)
    (fun hdoze => absurd (hfull.symm.trans hdoze) (by decide)) hrun rfl hreach hdef hq (.inr hout) hhost
  exact ⟨u, hu, hans, hho, by rw [heq]; exact Reply.posted_eq _ c _⟩

/-- A block that leaves the state: the host interface alone is changed. -/
theorem blockCommand_reads {s : State} {t op size statusAt rsv most st : Nat} {all : Bool} {c : Cmd} {b : Bytes}
    {f : State → Bytes → BlockReply} {ws : List (Nat × Bytes)} (hready : Ready s c .command) (hfull : s.pw.mode = .full)
    (hop : op ∈ opcodes) (hb : OneBlock c size rsv b) (hmost : 1 ≤ most)
    (hf : f (s.found t c) b = { status := st, st := s.found t c, writes := ws })
    (hdef : (if all then stOK else st) ≠ stDEFERRED) :
    ∃ u, run t s (ringRun op .command c fun s => blockRun c size statusAt rsv s f most all) = .next u ∧ HostOnly s u [] ∧
      Answered s u c (if all then stOK else st)
        ((ws.map fun w => (c.f 0 8 + w.1, w.2)) ++ [(c.f 0 8 + statusAt, toLE 1 st)]) := by
  obtain ⟨u, hu, hans, hho, -⟩ := blockCommand_answered hready hfull hop hb hmost hf hdef (.refl _) rfl rfl
    (HostOnly.found s t c [])
  exact ⟨u, hu, hho, hans⟩

/-- A command refused with a status: the host interface alone is changed. -/
theorem ringCommand_refused {s : State} {t op st : Nat} {c : Cmd} {h : State → Reply} (hready : Ready s c .command)
    (hfull : s.pw.mode = .full) (hop : op ∈ opcodes) (hr : h (s.found t c) = Reply.err (s.found t c) st)
    (hdef : st ≠ stDEFERRED) :
    ∃ u, run t s (ringRun op .command c h) = .next u ∧ Answered s u c st ∧ HostOnly s u [] := by
  obtain ⟨u, hu, hans, hhost, -⟩ := ringCommand_answered hready hop (by rw [hfull]; rfl)
    (fun hdoze => absurd (hfull.symm.trans hdoze) (by decide)) hr rfl (.refl _) hdef rfl (.inr rfl) (HostOnly.found s t c [])
  exact ⟨u, hu, hans, hhost⟩

/-! ### Records of the connection table -/

/-- The connections once the context `c` is recorded: the one that it names takes its counter record. -/
def Ctx.onConns (c : Ctx) (t : Tbl Conn) : Tbl Conn :=
  match c.conn with
  | some k => Tbl.upd t k fun x => { x with eui := c.eui, b11 := c.b11, ep := c.ep, fc := c.ctr }
  | none => t

/-- What a context's record leaves: the context table, its mirror and the connection that it names. -/
theorem State.setCtx_leaves (s : State) (n : Nat) (c : Ctx) : ∃ nv : Nv, s.setCtx n c =
    { s with pt := { s.pt with ctx := Tbl.put s.pt.ctx n c }, ml := { s.ml with conns := c.onConns s.ml.conns }, nv := nv } := by
  unfold State.setCtx
  extract_lets old pt v f ml w same
  have hw : w = { v with ml := { s.ml with conns := c.onConns s.ml.conns } } := by
    unfold w ml f Ctx.onConns
    cases c.conn with
    | none => rfl
    | some k => rfl
  clear_value same w
  subst hw
  cases same with
  | true => exact ⟨s.nv, rfl⟩
  | false => exact ⟨_, rfl⟩

theorem State.connCnt_leaves (s : State) : RegsOnly s s.connCnt [F.MSH_CONN_CNT_active.off] :=
  ((RegsOnly.refl s _).setFld (by decide) _).setFld (by decide) _

theorem Ctx.onConns_ne (c : Ctx) (t : Tbl Conn) {j : Nat} (h : c.conn ≠ some j) : Tbl.get? (c.onConns t) j = Tbl.get? t j := by
  unfold Ctx.onConns
  cases hc : c.conn with
  | none => rfl
  | some k =>
    have hne : k ≠ j := fun e => h (by rw [hc, e])
    dsimp only
    unfold Tbl.upd
    split
    · exact Tbl.get?_put_ne _ _ hne
    · rfl

/-- A connection but for its counter record is kept when a context is recorded. -/
theorem Ctx.onConns_get (c : Ctx) {t : Tbl Conn} {k : Nat} {x : Conn} (h : Tbl.get? t k = some x) :
    ∃ y, Tbl.get? (c.onConns t) k = some y ∧ { y with eui := x.eui, b11 := x.b11, ep := x.ep, fc := x.fc } = x := by
  by_cases hc : c.conn = some k
  · unfold Ctx.onConns Tbl.upd
    rw [hc]
    dsimp only
    rw [h]
    exact ⟨_, Tbl.get?_put_self _ _ _, rfl⟩
  · exact ⟨x, (c.onConns_ne t hc).trans h, rfl⟩

/-- A connection is bound to its context. -/
theorem State.bindConn_leaves (s : State) (k addr : Nat) : ∃ (conns : Tbl Conn) (pt : Pt) (nv : Nv),
    s.bindConn k addr = { s with ml := { s.ml with conns := conns }, pt := pt, nv := nv } ∧
      (∀ j, j ≠ k → Tbl.get? conns j = Tbl.get? s.ml.conns j) ∧
      ∀ x, Tbl.get? s.ml.conns k = some x →
        ∃ y, Tbl.get? conns k = some y ∧ { y with eui := x.eui, b11 := x.b11, ep := x.ep, fc := x.fc } = x := by
  unfold State.bindConn
  split
  case h_1 n c _ =>
    obtain ⟨nv, heq⟩ := s.setCtx_leaves n { c with conn := some k }
    exact ⟨_, _, nv, heq, fun j hj => Ctx.onConns_ne _ _ fun h => hj (Option.some.inj h).symm, fun x hx => Ctx.onConns_get _ hx⟩
  case h_2 => exact ⟨_, _, _, rfl, fun _ _ => rfl, fun x hx => ⟨x, hx, rfl⟩⟩

/-- A connection that is created. -/
structure NewConn (s u : State) (addr k : Nat) (p : ConnPar) : Prop where
  parts : { u with io := s.io, ml := s.ml, pt := s.pt, nv := s.nv, now := s.now } = s
  io : { u.io with regs := s.io.regs } = s.io
  word : ∀ off, off ≠ 0x140044 → u.word off = s.word off
  conn : ∃ x, Tbl.get? u.ml.conns k = some x ∧ x.addr = addr ∧ x.state = 1 ∧ x.heard = s.now ∧ x.par = p.project s.ml.slot
  other : ∀ j, j ≠ k → Tbl.get? u.ml.conns j = Tbl.get? s.ml.conns j

theorem State.newConn_leaves {s : State} {addr k : Nat} (l : Bool) (p : ConnPar) (hfree : s.ml.connAny addr = none)
    (hk : Tbl.firstFree s.ml.conns 0 16384 = some k) : ∃ u, s.newConn addr l p = some u ∧ NewConn s u addr k p := by
  have hclose : s.closeAddr addr = s := by unfold State.closeAddr; rw [hfree]
  unfold State.newConn
  rw [hclose]
  dsimp only
  rw [hk]
  refine ⟨_, rfl, ?_⟩
  let x : Conn :=
    { addr := addr, radioL := l, par := p.project s.ml.slot, heard := s.now, anchorRtc := s.rtcBefore (p.project s.ml.slot) }
  obtain ⟨conns, pt, nv, heq, hother, hself⟩ := (s.setConn k x).bindConn_leaves k addr
  rw [heq]
  obtain ⟨y, hy, heqy⟩ := hself _ (Tbl.get?_put_self _ _ _)
  let v : State := { s with ml := { s.ml with conns := conns }, pt := pt, nv := nv }
  obtain ⟨hparts, hio, hword⟩ := v.connCnt_leaves
  have hml : v.connCnt.ml.conns = conns := congrArg (fun z : State => z.ml.conns) hparts
  refine ⟨(congrArg (fun z : State => { z with io := s.io, now := s.now, ml := s.ml, pt := s.pt, nv := s.nv }) hparts :), hio,
    fun off hoff => hword off (by rwa [List.mem_singleton]), ⟨y, (congrArg (Tbl.get? · k) hml).trans hy, (congrArg Conn.addr heqy :),
    (congrArg Conn.state heqy :), (congrArg Conn.heard heqy :), (congrArg Conn.par heqy :)⟩, fun j hj =>
    (congrArg (Tbl.get? · j) hml).trans ((hother j hj).trans (Tbl.get?_put_ne _ _ hj.symm))⟩

theorem State.finish_reaches (s : State) (d : Dfr) (st r : Nat) : Reaches s.io (s.finish d st r).io := by
  unfold State.finish
  extract_lets hf hf' io v w
  have hv : Reaches s.io v.io := ⟨rfl, fun _ _ => rfl, [], rfl⟩
  have hw : Reaches v.io w.io := (Posts.complete _ _ _).reaches
  refine (hv.trans hw).trans ?_
  unfold Io.settle
  split
  · refine ⟨?_, fun n hn => Io.word_setWord_ne _ _ (by simp only [F.HIF_SQ_ERR_active]; omega), [], rfl⟩
    have hlink : (w.io.setFld (F.HIF_SQ_ERR_active d.sq) 0).fld F.HIF_STAT_link_up = w.io.fld F.HIF_STAT_link_up :=
      congrArg F.HIF_STAT_link_up.of (Io.word_setWord_ne w.io _ (by simp only [F.HIF_SQ_ERR_active, F.HIF_STAT_link_up]; omega))
    show (w.io.setFld (F.HIF_SQ_ERR_active d.sq) 0).hostOk = w.io.hostOk
    unfold Io.hostOk
    rw [hlink]
    rfl
  · exact .refl _

/-- What a connection that is freed leaves. -/
structure Freed (s u : State) (k : Nat) : Prop where
  parts : { u with io := s.io, ml := s.ml, pt := s.pt, nv := s.nv, now := s.now } = s
  io : Reaches s.io u.io
  conn : Tbl.get? u.ml.conns k = none

theorem State.finishKey_leaves (s : State) (op key st r : Nat) :
    { s.finishKey op key st r with io := s.io } = s ∧ Reaches s.io (s.finishKey op key st r).io := by
  unfold State.finishKey
  split
  · exact ⟨s.finish_parts _ st r, s.finish_reaches _ st r⟩
  · exact ⟨rfl, .refl _⟩

theorem RegsOnly.reaches {a b : State} {l : List Nat} (h : RegsOnly a b l) (hl : ∀ off ∈ l, off ≠ 0x050000 ∧ (off < 0x051008 ∨ 0x052000 ≤ off)) :
    Reaches a.io b.io := by
  obtain ⟨-, hio, hword⟩ := h
  have hout : b.io.out = a.io.out := (congrArg Io.out hio :)
  have hlost : b.io.hf = a.io.hf := (congrArg Io.hf hio :)
  refine ⟨?_, fun n hn => hword _ fun hin => ?_, [], hout⟩
  · have hlink : b.io.fld F.HIF_STAT_link_up = a.io.fld F.HIF_STAT_link_up :=
      congrArg F.HIF_STAT_link_up.of (hword 0x050000 fun hin => (hl _ hin).1 rfl)
    unfold Io.hostOk
    rw [hlink, hlost]
  · have := (hl _ hin).2
    omega

theorem State.freeConn_leaves (s : State) (k : Nat) : Freed s (s.freeConn k) k := by
  unfold State.freeConn
  split
  case h_1 hnone => exact ⟨rfl, .refl _, hnone⟩
  case h_2 c hsome =>
    extract_lets own ml v w
    have hv : { v with ml := s.ml } = s ∧ Tbl.get? v.ml.conns k = none := ⟨rfl, Tbl.get?_del_self _ _⟩
    have hw : { w with ml := s.ml, pt := s.pt, nv := s.nv } = s ∧ Tbl.get? w.ml.conns k = none := by
      unfold w
      split
      case h_1 n x _ =>
        obtain ⟨nv, heq⟩ := v.setCtx_leaves n { x with conn := none }
        rw [heq]
        exact ⟨rfl, hv.2⟩
      case h_2 => exact ⟨rfl, hv.2⟩
    clear_value w
    obtain ⟨hwparts, hwconn⟩ := hw
    obtain ⟨hfparts, hfio⟩ := w.finishKey_leaves 0x0104 c.addr stOK 0
    have hc := (w.finishKey 0x0104 c.addr stOK).connCnt_leaves
    have hwio : w.io = s.io := (congrArg State.io hwparts :)
    have hcio := hc.reaches (by decide)
    obtain ⟨hcparts, -⟩ := hc
    generalize w.finishKey 0x0104 c.addr stOK = f at *
    generalize f.connCnt = u at *
    refine ⟨?_, hwio ▸ hfio.trans hcio, ?_⟩
    · exact ((congrArg (fun z : State => { z with io := s.io, now := s.now, ml := s.ml, pt := s.pt, nv := s.nv }) hcparts :).trans
        (congrArg (fun z : State => { z with io := s.io, now := s.now, ml := s.ml, pt := s.pt, nv := s.nv }) hfparts :)).trans
        (congrArg (fun z : State => { z with io := s.io, now := s.now, ml := s.ml, pt := s.pt, nv := s.nv }) hwparts :)
    · have h1 : u.ml = f.ml := (congrArg State.ml hcparts :)
      have h2 : f.ml = w.ml := (congrArg State.ml hfparts :)
      rw [h1, h2]
      exact hwconn

/-! ### The pattern (R198, R230) -/

theorem State.showNext_leaves (s : State) {len map at_ : Nat} (h : s.ml.next = some (len, map, at_)) (hlen : len < 256) :
    RegsOnly s s.showNext [0x140004, 0x140018, 0x14001C, 0x140020] ∧ s.showNext.fld F.MSH_STAT_sf_pending = 1 ∧
      s.showNext.fld F.MSH_SF_NEXT_length = len ∧ s.showNext.fld F.MSH_SF_NEXT_MAP_map_lo = map % 2 ^ 32 := by
  unfold State.showNext
  rw [h]
  dsimp only [Option.getD_some]
  refine ⟨((((((RegsOnly.refl s _).setFld (by decide) _).setFld (by decide) _).setFld (by decide) _).setFld (by decide) _).setFld
    (by decide) _).setFld (by decide) _, ?_, ?_, ?_⟩
  · exact State.fld_setFld_eq _ (by decide) (show 1 < 2 by decide)
  · simp (disch := decide) only [State.fld_setFld_ne]
    exact State.fld_setFld_eq _ (by decide) hlen
  · simp (disch := decide) only [State.fld_setFld_ne]
    exact State.fld_setFld_self _ _ _ (by decide)

theorem connOf_of_connAny {m : Ml} {addr : Nat} (h : m.connAny addr = none) : m.connOf addr = none := by
  unfold Ml.connAny Ml.connOf at *
  rw [List.find?_eq_none] at *
  intro p hp hc
  exact h p hp (Bool.and_eq_true_iff.mp hc).1

theorem State.found_contMask (s : State) (t : Nat) (c : Cmd) (l : Bool) : (s.found t c).io.contMask l = s.io.contMask l := by
  have hsq := c.sq.isLt
  have hfld (f : Fld) (hf : f.off < 0x051000 ∨ 0x140000 ≤ f.off) : (s.found t c).io.fld f = s.io.fld f :=
    s.found_fld t c (by omega)
  unfold Io.contMask
  rw [hfld F.MSH_CONT_BE_cont_l (by decide), hfld F.MSH_CONT_HI_cont (by decide), hfld F.MSH_CONT_LO_cont (by decide)]

theorem NewConn.reaches {s u : State} {addr k : Nat} {p : ConnPar} (h : NewConn s u addr k p) : Reaches s.io u.io :=
  RegsOnly.reaches (a := { u with io := s.io }) (l := [0x140044]) ⟨rfl, h.io, fun off hoff => h.word off (by simpa using hoff)⟩
    (by decide)

/-- Settles O46: the pattern, a connection's creation, its record and its close. -/
theorem meshLinkCommands : Obligations.MeshLinkCommands := by
  intro t c b s hready hfull hlead
  have hslots : (s.found t c).ml.slot + (s.found t c).announceSlots = s.ml.slot + s.announceSlots := by
    unfold State.announceSlots
    rw [s.found_fld t c (f := F.MSH_CONT_BE_announce_s) (by simp only [F.MSH_CONT_BE_announce_s]; omega)]
    rfl
  have hcont : (s.found t c).io.contMask (b.le 4 1 % 2 == 1) = s.io.contMask (b.le 4 1 % 2 == 1) := s.found_contMask t c _
  have hgood : b.le 3 1 = 0 ∧ b.le 28 3 = 0 ∧ b.le 0 3 ≠ 0 ∧ b.le 0 3 ≠ 0xFFFFFF ∧
      (connParOf b).valid (b.le 4 1 % 2 == 1) (s.io.contMask (b.le 4 1 % 2 == 1)) = true →
      ¬ (2 ≤ b.le 3 1 ∨ b.le 0 3 = 0 ∨ b.le 0 3 = 0xFFFFFF ∨ b.le 28 3 ≠ 0 ∨
        (!(connParOf b).valid (b.le 4 1 % 2 == 1) ((s.found t c).io.contMask (b.le 4 1 % 2 == 1))) = true) := by
    rintro ⟨hop, hrsv, h0, h1, hvalid⟩
    rw [hcont, hvalid]
    simp
    omega
  refine ⟨fun hok hzero hnone => ⟨fun hfar => ?announced, fun hnear => ?late⟩, fun hb hop hrsv h0 h1 hvalid =>
    ⟨fun k hfree hk => ?created, fun hthere => ?there⟩, fun hb => ⟨fun k x hx => ?read, fun hx => ?noRead⟩, fun hx => ?noClose,
    fun k x hx hreason hzero => ⟨fun hnow => ?freed, fun hnotice hdl hroom => ?queued⟩⟩
  case announced =>
    have hlen : c.f 5 1 < 256 := Bytes.le_lt _ _ _
    obtain ⟨v, hv⟩ : ∃ v : State, v = { s.found t c with ml := { s.ml with next := some (c.f 5 1, c.f 0 5, c.f 6 5) } } := ⟨_, rfl⟩
    have hvml : v.ml = { s.ml with next := some (c.f 5 1, c.f 0 5, c.f 6 5) } := by rw [hv]
    have hvparts : { v with io := s.io, ml := s.ml, now := s.now } = s := by rw [hv]; rfl
    have hvio : v.io = (s.found t c).io := by rw [hv]
    have hr : (s.found t c).sfSet c = Reply.defer v.showNext := by
      rw [hv]
      exact (if_neg (by rw [hok, hzero]; decide)).trans ((if_neg (Nat.not_lt.mpr (hslots ▸ hfar))).trans
        ((if_neg (Bool.eq_false_iff.mp hlead)).trans (if_neg (by rw [show (s.found t c).ml.next = none from hnone]; decide))))
    have hshow := v.showNext_leaves (congrArg Ml.next hvml) hlen
    have hpending : v.showNext.pending = s.pending := by rw [hv]; rfl
    generalize v.showNext = w at *
    obtain ⟨hregs, hpend, hlength, hmap⟩ := hshow
    have hreach : Reaches (s.found t c).io w.io := hvio ▸ hregs.reaches (by decide)
    obtain ⟨hparts, hio, hword⟩ := hregs
    have hhf : w.io.hf.deferred = s.io.hf.deferred := (congrArg (fun z : Io => z.hf.deferred) hio :).trans (by rw [hvio]; rfl)
    obtain ⟨u, hu, hdef, ⟨hhparts, hhword⟩, -⟩ := ringCommand_deferred (h := fun s => s.sfSet c) (r := Reply.defer w) (v := w)
      (l := []) hready (by decide : 0x0101 ∈ opcodes) (by rw [hfull]; rfl)
      (fun hdoze => absurd (hfull.symm.trans hdoze) (by decide)) hr rfl hreach hhf hpending rfl rfl (.refl _ _)
    have hfld (f : Fld) (hf : 0x140000 ≤ f.off) : u.fld f = w.fld f :=
      congrArg f.of (hhword f.off (by unfold offHif; omega) (by simp))
    refine ⟨u, hu, hdef, ?_, (hfld _ (by decide)).trans hpend, (hfld _ (by decide)).trans hlength, ?_, ?_⟩
    · exact ((congrArg State.ml hhparts :).trans (congrArg State.ml hparts :)).trans hvml
    · exact ((hfld _ (by decide)).trans hmap).trans (Bytes.le_mod c.body 0 4 1)
    · exact ((congrArg (fun z : State => { z with io := s.io, ml := s.ml, now := s.now }) hhparts :).trans
        (congrArg (fun z : State => { z with io := s.io, ml := s.ml, now := s.now }) hparts :)).trans hvparts
  case late =>
    exact ringCommand_refused (h := fun s => s.sfSet c) hready hfull (by decide)
      ((if_neg (by rw [hok, hzero]; decide)).trans (if_pos (hslots ▸ hnear))) (by decide)
  case created =>
    have hconn : (s.found t c).ml.connAny (b.le 0 3) = none := hfree
    have hactive : (s.found t c).ml.connOf (b.le 0 3) = none := connOf_of_connAny hconn
    obtain ⟨v, hv, hnew⟩ := State.newConn_leaves (s := s.found t c) (b.le 4 1 % 2 == 1) (connParOf b) hconn hk
    have hf : (s.found t c).connSet b = { status := stOK, st := v } := by
      unfold State.connSet
      dsimp only
      rw [if_neg (hgood ⟨hop, hrsv, h0, h1, hvalid⟩), if_pos hop, hactive]
      dsimp only
      rw [hv]
    obtain ⟨u, hu, hans, ⟨hhparts, hhword⟩, -⟩ := blockCommand_answered (f := State.connSet) (statusAt := 31) (most := 4096)
      (all := false) (ws := []) (t := t) (op := 0x0102) (w := v) (l := []) hready hfull (by decide) hb (by decide) hf (by decide)
      hnew.reaches (congrArg Io.out hnew.io :) (congrArg State.pending hnew.parts :) (.refl _ _)
    obtain ⟨x, hx, haddr, hstate, hheard, hpar⟩ := hnew.conn
    have hml : u.ml = v.ml := (congrArg State.ml hhparts :)
    rw [← hml] at hx
    refine ⟨u, x, hu, hans, hx, haddr, hstate, hheard, hpar, fun j hj => ?_, ?_, fun off hoff hne => ?_⟩
    · rw [hml]
      exact hnew.other j hj
    · exact (congrArg (fun z : State => { z with io := s.io, ml := s.ml, pt := s.pt, nv := s.nv, now := s.now }) hhparts :).trans
        (congrArg (fun z : State => { z with io := s.io, now := s.now }) hnew.parts :)
    · exact (hhword off hoff (by simp)).trans ((hnew.word off (by rwa [List.mem_singleton] at hne)).trans
        (s.found_word t c (by unfold offHif at hoff; have := c.sq.isLt; omega)))
  case there =>
    obtain ⟨y, hy⟩ := Option.ne_none_iff_exists'.mp hthere
    obtain ⟨u, hu, hho, hans⟩ := blockCommand_reads (f := State.connSet) (all := false) (statusAt := 31) (most := 4096) (st := stBAD_ARG)
      (ws := []) (t := t) (op := 0x0102) hready hfull (by decide) hb (by decide) (by
        unfold State.connSet
        dsimp only
        rw [if_neg (hgood ⟨hop, hrsv, h0, h1, hvalid⟩), if_pos hop, show (s.found t c).ml.connOf (b.le 0 3) = _ from hy]) (by decide)
    exact ⟨u, hu, hans, hho⟩
  case read =>
    obtain ⟨u, hu, hho, hans⟩ := blockCommand_reads (f := State.connGet) (all := true) (statusAt := 31) (most := 4096) (st := stOK)
      (ws := [(4, (x.par.project s.ml.slot).record (x.radioL.toNat + 2 * x.state))]) (t := t) (op := 0x0103)
      hready hfull (by decide) hb (by decide) (by unfold State.connGet; rw [show (s.found t c).ml.connAny (b.le 0 3) = _ from hx]; rfl)
      (by decide)
    exact ⟨u, hu, hho, hans⟩
  case noRead =>
    obtain ⟨u, hu, hho, hans⟩ := blockCommand_reads (f := State.connGet) (all := true) (statusAt := 31) (most := 4096) (st := stBAD_ARG)
      (ws := []) (t := t) (op := 0x0103)
      hready hfull (by decide) hb (by decide) (by unfold State.connGet; rw [show (s.found t c).ml.connAny (b.le 0 3) = _ from hx])
      (by decide)
    exact ⟨u, hu, hho, hans⟩
  case noClose =>
    refine ringCommand_refused (h := fun s => s.connClose c) hready hfull (by decide) ?_ (by decide)
    unfold State.connClose
    dsimp only
    rw [show (s.found t c).ml.connAny (c.f 0 3) = _ from hx]
  case freed =>
    have hfree := (s.found t c).freeConn_leaves k
    have hr : (s.found t c).connClose c = Reply.ok ((s.found t c).freeConn k) := by
      unfold State.connClose
      dsimp only
      rw [show (s.found t c).ml.connAny (c.f 0 3) = _ from hx]
      dsimp only
      rw [if_neg (by rw [hzero]; simp; omega), if_pos hnow]
    obtain ⟨u, hu, hans, ⟨hhparts, -⟩, -⟩ := ringCommand_answered (h := fun s => s.connClose c)
      (r := Reply.ok ((s.found t c).freeConn k)) (v := (s.found t c).freeConn k) (l := []) hready (by decide : 0x0104 ∈ opcodes) (by rw [hfull]; rfl)
      (fun hdoze => absurd (hfull.symm.trans hdoze) (by decide)) hr rfl hfree.io (by decide)
      (congrArg State.pending hfree.parts :) (.inl rfl) (.refl _ _)
    have hml : u.ml = _ := (congrArg State.ml hhparts :)
    refine ⟨u, hu, hans, ?_, ?_⟩
    · rw [hml]
      exact hfree.conn
    · exact (congrArg (fun z : State => { z with io := s.io, ml := s.ml, pt := s.pt, nv := s.nv, now := s.now }) hhparts :).trans
        (congrArg (fun z : State => { z with io := s.io, now := s.now }) hfree.parts :)
  case queued =>
    let d : DlFrame := { id := s.ml.dlId, kind := .close (c.f 3 1), dst := c.f 0 3, l := x.radioL, payload := toLE 1 2 ++ toLE 1 (c.f 3 1) }
    have hroom' : (s.found t c).ctrlCells < (s.found t c).ctrlReserve := by
      have h : (s.found t c).ctrlReserve = s.ctrlReserve := s.found_fld t c (by simp only [F.SRT_ADM_CFG_ctrl_reserve]; omega)
      rw [h]
      exact hroom
    have hr : (s.found t c).connClose c = Reply.defer ((s.found t c).queueDl (.close (c.f 3 1)) (c.f 0 3) x.radioL
        (toLE 1 2 ++ toLE 1 (c.f 3 1))) (c.f 0 3) := by
      unfold State.connClose
      dsimp only
      rw [show (s.found t c).ml.connAny (c.f 0 3) = _ from hx]
      dsimp only
      rw [if_neg (by rw [hzero]; simp; omega), if_neg (by omega), if_neg (Bool.eq_false_iff.mp (show (s.found t c).isShadow = false from hlead)), if_neg ?_]
      rw [show (s.found t c).ml.dl = [] from hdl, decide_eq_true hroom']
      simp
    obtain ⟨u, hu, hdef, hho, -⟩ := ringCommand_deferred (h := fun s => s.connClose c) (r := Reply.defer
      ((s.found t c).queueDl (.close (c.f 3 1)) (c.f 0 3) x.radioL (toLE 1 2 ++ toLE 1 (c.f 3 1))) (c.f 0 3))
      (v := { s with ml := { s.ml with dl := s.ml.dl ++ [d], dlId := s.ml.dlId + 1 } }) (l := []) hready (by decide : 0x0104 ∈ opcodes)
      (by rw [hfull]; rfl) (fun hdoze => absurd (hfull.symm.trans hdoze) (by decide)) hr rfl (.refl _) rfl rfl rfl rfl
      ⟨rfl, (HostOnly.found s t c []).2⟩
    have hml : u.ml = { s.ml with dl := s.ml.dl ++ [d], dlId := s.ml.dlId + 1 } := (congrArg State.ml hho.1 :)
    refine ⟨u, d, hu, hdef, ?_, rfl, rfl, rfl, ?_, ?_⟩
    · rw [hml, hdl]
      rfl
    · rw [hml]
    · rw [hml]
      exact hho

end Sys2Proof.Machine
end

-- ==== Mesh network commands (R264 to R266, R292) ====
section
/-!
SUPPORT. Admissions, routes, joins, circulars and epochs as their commands leave them; O47.
-/

namespace Sys2Proof.Machine

/-! ### Admissions and routes (R264) -/

theorem State.seqNext_leaves (s : State) (k : Nat) : RegsOnly s (s.seqNext k) [(F.PCT_SEQ_seq k).off] :=
  (RegsOnly.refl s _).setFld (List.mem_singleton_self _) _

/-- What an admission of a known node leaves. -/
theorem State.admitBlock_known {s : State} {b : Bytes} {n : Nat} {x : Ctx} (hx : s.ctxOfEui (b.le 0 8) = some (n, x))
    (hop : b.le 11 1 ≤ 1) (haddr : b.le 8 3 = 0) (hrsv : b.le 12 3 = 0) :
    s.admitBlock b = { status := stOK, st := (s.setCtx n { x with deny := b.le 11 1 == 1, hit := true }).seqNext 0 } := by
  have hnone : s.ctxOfAddr 0 = none := rfl
  unfold State.admitBlock
  dsimp only
  rw [hx, haddr, hnone]
  dsimp only
  rw [if_neg (by simp; omega), if_neg (by omega), if_pos rfl]

theorem State.delRoute_leaves (s : State) (addr : Nat) : Tbl.get? (s.delRoute addr none).pt.route addr = none ∧
    RegsOnly { s with pt := (s.delRoute addr none).pt } (s.delRoute addr none) [(F.PCT_SEQ_seq 1).off] := by
  unfold State.delRoute
  split
  case h_1 r hr =>
    extract_lets pt pt'
    have hroute : pt'.route = Tbl.del pt.route addr := rfl
    clear_value pt'
    have hseq := State.seqNext_leaves { s with pt := pt' } 1
    have hpt : (State.seqNext { s with pt := pt' } 1).pt = pt' := rfl
    exact ⟨(congrArg (Tbl.get? · addr) hroute).trans (Tbl.get?_del_self _ _), hseq⟩
  case h_2 h => exact ⟨h, rfl, rfl, fun _ _ => rfl⟩

/-! ### Circulars (R266) -/

theorem State.takeCircId_leaves (s : State) : ∃ u, s.takeCircId = (s.fld F.MSH_CIRC_ID_next_id, u) ∧
    u.fld F.MSH_CIRC_ID_next_id = (s.fld F.MSH_CIRC_ID_next_id + 1) % 65536 ∧
      RegsOnly { s with nv := u.nv } u [F.MSH_CIRC_ID_next_id.off] := by
  unfold State.takeCircId
  extract_lets id next v
  have hfld : v.fld F.MSH_CIRC_ID_next_id = next := State.fld_setFld_eq _ (by decide) (Nat.mod_lt _ (by decide))
  split
  · exact ⟨_, rfl, hfld, (RegsOnly.refl { s with nv := _ } _).setFld (by decide) _⟩
  · exact ⟨_, rfl, hfld, (RegsOnly.refl s _).setFld (by decide) _⟩

/-- The state with the mark of a circular before the others. -/
theorem State.mark_leaves (s : State) (origin id : Nat) : ∃ l, ∃ u : State, s.mark origin id = u ∧
    u.mn = { s.mn with marks := (origin, id, s.now) :: l } ∧ u.now = s.now ∧
      RegsOnly { s with mn := u.mn } u [F.MSH_CIRC_CNT_evict_early.off] := by
  unfold State.mark
  extract_lets live full mn v
  split
  · exact ⟨_, _, rfl, rfl, rfl, (RegsOnly.refl _ _).count (by decide) 1⟩
  · exact ⟨_, _, rfl, rfl, rfl, RegsOnly.refl _ _⟩

theorem State.marked_of_cons {s : State} {origin id : Nat} {l : List (Nat × Nat × Nat)} (h : s.mn.marks = (origin, id, s.now) :: l) :
    s.marked origin id = true := by
  have hlive : s.now < s.now + secNs 120 := Nat.lt_add_of_pos_right (by decide)
  unfold State.marked
  rw [h]
  simp [hlive]

/-- A circular that the host originates. -/
structure Originated (s u : State) (key : Nat) (payload : Bytes) : Prop where
  circs : ∃ x, u.mn.circs = [x] ∧ x.payload = payload
  next : u.fld F.MSH_CIRC_ID_next_id = (s.fld F.MSH_CIRC_ID_next_id + 1) % 65536
  marked : u.marked 0 (s.fld F.MSH_CIRC_ID_next_id) = true
  regs : RegsOnly { s with nv := u.nv, mn := u.mn } u [F.MSH_CIRC_ID_next_id.off, F.MSH_CIRC_CNT_evict_early.off]

theorem State.originate_leaves {s : State} (key ttl target : Nat) (content : Bytes) (h : s.mn.circs = []) :
    Originated s (s.originate key ttl 1 target content) key
      (toLE 3 0 ++ toLE 2 (s.fld F.MSH_CIRC_ID_next_id) ++ toLE 1 (ttl + 16 * 1) ++ toLE 3 0 ++ content) := by
  obtain ⟨v, hv, hnext, hvparts, hvio, hvword⟩ := s.takeCircId_leaves
  unfold State.originate
  rw [hv]
  dsimp only
  rw [if_neg (by decide)]
  obtain ⟨l, w, hw, hmn, hnow, hwparts, hwio, hwword⟩ := v.mark_leaves 0 (s.fld F.MSH_CIRC_ID_next_id)
  have hvmn : v.mn = s.mn := (congrArg State.mn hvparts :)
  have hcircs : w.mn.circs = [] := by rw [hmn, hvmn]; exact h
  have hadd (pl : Bytes) : w.addCirc key pl = { w with mn := { w.mn with circs := w.mn.circs ++
      [{ key := key, payload := pl, left := max 1 (w.eFld F.MSH_CIRC_CFG_repeat) }] } } :=
    if_neg (by rw [hcircs]; decide)
  rw [hw, hadd, hcircs]
  have hword (off : Nat) (hoff : off ≠ F.MSH_CIRC_CNT_evict_early.off) : w.word off = v.word off :=
    hwword off (by rwa [List.mem_singleton])
  have hkept (mn : Mn) : { w with io := s.io, now := s.now, mn := mn } = { s with nv := w.nv, mn := mn } :=
    (congrArg (fun z : State => { z with io := s.io, now := s.now, nv := w.nv, mn := mn }) hwparts :).trans
      (congrArg (fun z : State => { z with io := s.io, now := s.now, nv := w.nv, mn := mn }) hvparts :)
  refine ⟨⟨_, rfl, rfl⟩, (State.fld_of_word (hword _ (by decide))).trans hnext, ?_, ?_, ?_, ?_⟩
  · exact State.marked_of_cons (l := l) ((congrArg Mn.marks hmn).trans (by rw [← hnow]))
  · exact hkept _
  · exact (congrArg (fun z : Io => { z with regs := s.io.regs }) hwio :).trans hvio
  · intro off hoff
    rw [List.mem_cons, List.mem_singleton, not_or] at hoff
    exact (hword off hoff.2).trans (hvword off (by rw [List.mem_singleton]; exact hoff.1))

/-! ### Epochs (R292) -/

/-- An epoch rotation with good arguments. -/
theorem State.epochSet_named {s : State} {c : Cmd} {l : LeaseRec} (hl : s.ms.rec_ = some l) (hop : c.f 0 1 = 0)
    (he : c.f 1 1 = (l.epoch + 1) % 256) (hg1 : 1 ≤ c.f 4 2) (hg2 : c.f 4 2 ≤ 8760) (hnode : c.f 2 1 < 64) (hnet : c.f 3 1 < 64)
    (hrn : s.rootSlot (c.f 2 1) = true) (hrt : s.rootSlot (c.f 3 1) = true) (hzero : c.zero 11 13 = true) :
    s.epochSet c = if c.f 6 5 < s.ml.slot + 400 then Reply.err s stLATE
      else if l.pending.isSome ∨ l.prev.isSome then Reply.err s stNO_ROOM
      else Reply.defer (s.setPending (some ⟨c.f 1 1, ⟨c.f 2 1, c.f 3 1⟩, c.f 4 2, c.f 6 5⟩)) := by
  unfold State.epochSet State.pendingRot
  dsimp only
  rw [if_neg (by omega), hl]
  dsimp only [Option.bind_some]
  rw [if_neg (by rw [hrn, hrt, hzero, hop, ← he]; simp; omega)]

/-- Settles O47: admissions, routes, joins, circulars and epochs. -/
theorem meshNetworkCommands : Obligations.MeshNetworkCommands := by
  intro t c b s hready hfull hlead r
  have hlead' : (s.found t c).isShadow = false := hlead
  have hdoze (op : Nat) : s.pw.mode = .doze → op ∈ opcodesDoze := fun hdoze => absurd (hfull.symm.trans hdoze) (by decide)
  have hmode (op : Nat) : modeStatus s.pw.mode op = none := by rw [hfull]; rfl
  refine ⟨fun hb n x hx hop haddr hrsv => ?known, fun hb hx hop hall haddr hrsv => ?absent, fun hb hrsv q hq =>
    ⟨fun hop => ?routeDel, fun hop hctx hpar => ?routeGet⟩, fun hb hq hop => ?noRoute, fun p hp htok hlate href hfix hzero hroom => ?join,
    fun hp hpast => ?noJoin, fun halign herr hlen hmc hscope hzero hmax hnone => ?circ, fun l hl hop he hg1 hg2 hnode hnet hrn hrt hzero =>
    ⟨fun hfar hpend hprev => ?epoch, fun hnear => ?late⟩⟩
  case known =>
    have hf := State.admitBlock_known (s := s.found t c) hx hop haddr hrsv
    obtain ⟨nv, hset⟩ := (s.found t c).setCtx_leaves n { x with deny := b.le 11 1 == 1, hit := true }
    obtain ⟨v, hv⟩ : ∃ v, v = ((s.found t c).setCtx n { x with deny := b.le 11 1 == 1, hit := true }).seqNext 0 := ⟨_, rfl⟩
    have hregs := State.seqNext_leaves ((s.found t c).setCtx n { x with deny := b.le 11 1 == 1, hit := true }) 0
    have hpt : v.pt.ctx = Tbl.put s.pt.ctx n { x with deny := b.le 11 1 == 1, hit := true } := by rw [hv, hset]; rfl
    have hpend : v.pending = s.pending := by rw [hv, hset]; rfl
    rw [← hv] at hf hregs
    have hio : (s.found t c).io = ((s.found t c).setCtx n { x with deny := b.le 11 1 == 1, hit := true }).io := by rw [hset]
    have hreach : Reaches (s.found t c).io v.io := hio ▸ hregs.reaches (by decide)
    have hout : v.io.out = s.io.out := (congrArg Io.out hregs.2.1 :).trans (congrArg Io.out hio).symm
    obtain ⟨u, hu, hans, ⟨hparts, -⟩, -⟩ := blockCommand_answered (f := State.admitBlock) (statusAt := 15) (most := 4096) (all := false)
      (ws := []) (t := t) (w := v) (l := []) hready hfull (by decide : 0x0110 ∈ opcodes) hb (by decide) hf (by decide) hreach hout hpend
      (.refl _ _)
    have hupt : u.pt.ctx = _ := (congrArg (fun z : State => z.pt.ctx) hparts :).trans hpt
    refine ⟨u, _, hu, hans, ?_, rfl, fun j hj => ?_⟩
    · rw [hupt]
      exact Tbl.get?_put_self _ _ _
    · rw [hupt]
      exact Tbl.get?_put_ne _ _ hj.symm
  case absent =>
    have hf : (s.found t c).admitBlock b = { status := stOK, st := s.found t c } := by
      unfold State.admitBlock
      dsimp only
      rw [show (s.found t c).ctxOfEui (b.le 0 8) = none from hx, show (s.found t c).ctxOfAddr (b.le 8 3) = none from haddr]
      dsimp only
      rw [if_neg (by simp; omega), if_pos hop]
    obtain ⟨u, hu, hho, hans⟩ := blockCommand_reads (f := State.admitBlock) (all := false) (statusAt := 15) (most := 4096) (st := stOK)
      (ws := []) (t := t) hready hfull (by decide : 0x0110 ∈ opcodes) hb (by decide) hf (by decide)
    exact ⟨u, hu, hans, hho⟩
  case routeDel =>
    have hf : (s.found t c).routeCmd b = { status := stOK, st := (s.found t c).delRoute (b.le 0 3) none } := by
      unfold State.routeCmd
      dsimp only
      rw [if_neg (by omega), if_neg (by omega), show Tbl.get? (s.found t c).pt.route (b.le 0 3) = some q from hq]
      exact if_pos hop
    obtain ⟨hroute, hregs⟩ := (s.found t c).delRoute_leaves (b.le 0 3)
    have hreach : Reaches (s.found t c).io ((s.found t c).delRoute (b.le 0 3) none).io := hregs.reaches (by decide)
    obtain ⟨hparts, hio, -⟩ := hregs
    generalize (s.found t c).delRoute (b.le 0 3) none = v at *
    obtain ⟨u, hu, hans, ⟨huparts, -⟩, -⟩ := blockCommand_answered (f := State.routeCmd) (statusAt := 15) (most := 4096) (all := false)
      (ws := []) (t := t) (w := v) (l := []) hready hfull (by decide : 0x0111 ∈ opcodes) hb (by decide) hf (by decide) hreach
      (congrArg Io.out hio :) (congrArg State.pending hparts :) (.refl _ _)
    have hupt : u.pt = v.pt := (congrArg State.pt huparts :)
    exact ⟨u, hu, hans, by rw [hupt]; exact hroute⟩
  case routeGet =>
    have hpath : (s.found t c).path 6 (b.le 0 3) = some [b.le 0 3] := by
      unfold State.path
      rw [show Tbl.get? (s.found t c).pt.route (b.le 0 3) = some q from hq]
      exact if_pos hpar
    have hf : (s.found t c).routeCmd b = { status := stOK, st := s.found t c
                                           writes := [(4, toLE 3 0 ++ toLE 1 q.depth ++ toLE 3 (b.le 0 3))] } := by
      unfold State.routeCmd
      dsimp only
      rw [if_neg (by omega), if_neg (by omega), show Tbl.get? (s.found t c).pt.route (b.le 0 3) = some q from hq]
      dsimp only
      rw [if_neg (by omega), hpath, show (s.found t c).ctxOfAddr (b.le 0 3) = none from hctx, hpar]
      rfl
    exact blockCommand_reads (f := State.routeCmd) (all := false) (statusAt := 15) (most := 4096) (st := stOK)
      (t := t) hready hfull (by decide : 0x0111 ∈ opcodes) hb (by decide) hf (by decide)
  case noRoute =>
    have hf : (s.found t c).routeCmd b = { status := stBAD_ARG, st := s.found t c } := by
      unfold State.routeCmd
      dsimp only
      split
      · rfl
      · rw [if_neg (by omega), show Tbl.get? (s.found t c).pt.route (b.le 0 3) = none from hq]
    obtain ⟨u, hu, hho, hans⟩ := blockCommand_reads (f := State.routeCmd) (all := false) (statusAt := 15) (most := 4096) (st := stBAD_ARG)
      (ws := []) (t := t) hready hfull (by decide : 0x0111 ∈ opcodes) hb (by decide) hf (by decide)
    exact ⟨u, hu, hans, hho⟩
  case join =>
    have hr : (s.found t c).joinDecide c = Reply.ok { s.found t c with
        mn := { s.mn with pend := [], joins := s.mn.joins ++ [{ p.req with approved := some 0 }] } } := by
      have hfind : (s.found t c).mn.pend.find? (fun q => q.token == c.f 0 2) = some p := by
        rw [show (s.found t c).mn.pend = [p] from hp]
        simp [htok]
      have hfilter : (s.found t c).mn.pend.filter (fun q => q.token != c.f 0 2) = [] := by
        rw [show (s.found t c).mn.pend = [p] from hp]
        simp [htok]
      have hroom' : ({ s.found t c with mn := { s.mn with pend := [] } } : State).admitRoom p.req 0 = none := hroom
      unfold State.joinDecide
      dsimp only
      rw [hfind, hfix, show (s.found t c).ctxOfAddr 0 = none from rfl]
      dsimp only
      rw [if_neg (Bool.eq_false_iff.mp (show (s.found t c).joinLate p = false from hlate)), if_neg (by rw [hzero]; simp; omega),
        if_neg (Bool.eq_false_iff.mp hlead'), hfilter, if_neg (by omega), show (s.found t c).mn = s.mn from rfl, hroom']
      rfl
    obtain ⟨u, hu, hans, hho, -⟩ := ringCommand_answered (h := fun s => s.joinDecide c) (l := [])
      (v := { s with mn := { s.mn with pend := [], joins := s.mn.joins ++ [{ p.req with approved := some 0 }] } })
      hready (by decide : 0x0112 ∈ opcodes) (hmode _) (hdoze _) hr rfl (.refl _) (by decide) rfl (.inl rfl)
      ⟨rfl, (HostOnly.found s t c []).2⟩
    have hmn : u.mn = { s.mn with pend := [], joins := s.mn.joins ++ [{ p.req with approved := some 0 }] } := (congrArg State.mn hho.1 :)
    refine ⟨u, hu, hans, hmn, ?_⟩
    rw [hmn]
    exact hho
  case noJoin =>
    refine ringCommand_refused (h := fun s => s.joinDecide c) hready hfull (by decide) ?_ (by decide)
    unfold State.joinDecide
    dsimp only
    rw [show (s.found t c).mn.pend = [] from hp, show (s.found t c).mn.past = [] from hpast]
    rfl
  case circ =>
    obtain ⟨v, hv⟩ : ∃ v : State, v = { s.found t c with mn := { s.mn with circKey := s.mn.circKey + 1 } } := ⟨_, rfl⟩
    have hvcircs : v.mn.circs = [] := by rw [hv]; exact hnone
    have hscope' : c.f 10 1 % 16 + 16 * 1 = c.f 10 1 := by omega
    have ho := State.originate_leaves (s.mn.circKey + 1) (c.f 10 1 % 16) (c.f 11 3)
      ((lowpanCompress (s.found t c).ctxLatch.io 0 0xFFFFFF 0 2047 (c.rd.take (c.f 8 2))).headD []) hvcircs
    have hr : (s.found t c).circSend c = Reply.defer (v.originate (s.mn.circKey + 1) (c.f 10 1 % 16) 1 (c.f 11 3)
        ((lowpanCompress (s.found t c).ctxLatch.io 0 0xFFFFFF 0 2047 (c.rd.take (c.f 8 2))).headD [])) (s.mn.circKey + 1) := by
      have hread : c.readFails (c.f 8 2) = none := by unfold Cmd.readFails; rw [herr]
      unfold State.circSend
      dsimp only
      rw [hread]
      dsimp only
      rw [if_neg ?_, if_neg (Bool.eq_false_iff.mp hlead'), if_neg (by rw [show (s.found t c).mn.circs = [] from hnone]; decide), hv, hscope]
      · rfl
      · rintro (h | h | h | h | h | h)
        · exact h halign
        · omega
        · exact h hmc
        · exact h.1 hscope
        · rw [hzero] at h
          exact Bool.noConfusion h
        · exact absurd hmax (Nat.not_le.mpr h)
    have hid : v.fld F.MSH_CIRC_ID_next_id = s.fld F.MSH_CIRC_ID_next_id := by
      rw [hv]
      exact s.found_fld t c (by simp only [F.MSH_CIRC_ID_next_id]; omega)
    have hvio : v.io = (s.found t c).io := by rw [hv]
    have hvpend : v.pending = s.pending := by rw [hv]; rfl
    rw [hid, hscope'] at ho
    generalize v.originate (s.mn.circKey + 1) (c.f 10 1 % 16) 1 (c.f 11 3)
      ((lowpanCompress (s.found t c).ctxLatch.io 0 0xFFFFFF 0 2047 (c.rd.take (c.f 8 2))).headD []) = w at *
    obtain ⟨⟨x, hx, hpay⟩, hnext, hmarked, hregs⟩ := ho
    rw [hid] at hnext hmarked
    have hreach : Reaches (s.found t c).io w.io := hvio ▸ hregs.reaches (by decide)
    obtain ⟨hparts, hio, -⟩ := hregs
    obtain ⟨u, hu, hdef, ⟨huparts, huword⟩, hequ⟩ := ringCommand_deferred (h := fun s => s.circSend c)
      (r := Reply.defer w (s.mn.circKey + 1)) (v := w) (l := []) hready (by decide : 0x0113 ∈ opcodes) (hmode _) (hdoze _) hr rfl hreach
      ((congrArg (fun z : Io => z.hf.deferred) hio :).trans (by rw [hvio]; rfl)) ((congrArg State.pending hparts :).trans hvpend) rfl rfl
      (.refl _ _)
    have humn : u.mn = w.mn := (congrArg State.mn huparts :)
    have humark : u.marked 0 (s.fld F.MSH_CIRC_ID_next_id) = w.marked 0 (s.fld F.MSH_CIRC_ID_next_id) := by
      have hunow : u.now = w.now := (congrArg State.now hequ).trans rfl
      unfold State.marked
      rw [humn, hunow]
    refine ⟨u, x, hu, hdef, by rw [humn, hx], hpay, ?_, humark.trans hmarked⟩
    exact (State.fld_of_word (huword _ (by unfold offHif; decide) (by simp))).trans hnext
  case epoch =>
    obtain ⟨l', hl'⟩ : ∃ x, x = { l with pending := some ⟨c.f 1 1, ⟨c.f 2 1, c.f 3 1⟩, c.f 4 2, c.f 6 5⟩ } := ⟨_, rfl⟩
    have hr : (s.found t c).epochSet c =
        Reply.defer { s.found t c with ms := { s.ms with rec_ := some l' }, nv := { s.nv with lease := some l' } } := by
      have hrec : (s.found t c).ms.rec_ = some l := hl
      refine (State.epochSet_named hrec hop he hg1 hg2 hnode hnet hrn hrt hzero).trans
        ((if_neg (Nat.not_lt.mpr hfar)).trans ((if_neg (by rw [hpend, hprev]; decide)).trans ?_))
      unfold State.setPending
      rw [hrec, hl']
      rfl
    obtain ⟨u, hu, hdef, hho, -⟩ := ringCommand_deferred (h := fun s => s.epochSet c) (l := [])
      (v := { s with ms := { s.ms with rec_ := some l' }, nv := { s.nv with lease := some l' } })
      hready (by decide : 0x0120 ∈ opcodes) (hmode _) (hdoze _) hr rfl (.refl _) rfl rfl rfl rfl
      ⟨rfl, (HostOnly.found s t c []).2⟩
    have hms : u.ms = { s.ms with rec_ := some l' } := (congrArg State.ms hho.1 :)
    have hnv : u.nv = { s.nv with lease := some l' } := (congrArg State.nv hho.1 :)
    refine ⟨u, hu, hdef, by rw [hms, hl'], by rw [hms, hnv], ?_⟩
    rw [hms, hnv]
    exact hho
  case late =>
    refine ringCommand_refused (h := fun s => s.epochSet c) hready hfull (by decide) ?_ (by decide)
    exact (State.epochSet_named (s := s.found t c) hl hop he hg1 hg2 hnode hnet hrn hrt hzero).trans (if_pos hnear)

end Sys2Proof.Machine
end

-- ==== Slots and connections (R190 to R193, R217 to R222) ====
section
/-!
SUPPORT. A slot's boundary, a connection's event, its update, its lapse and its hold; O48.
-/

namespace Sys2Proof.Machine

/-! ### Connections (R217 to R222) -/

theorem Conn.atInstant_of_none {c : Conn} (h : c.upd = none) : c.atInstant = c := by
  unfold Conn.atInstant
  rw [h]

theorem State.connEvent_early {s : State} {k : Nat} {c : Conn} (hc : Tbl.get? s.ml.conns k = some c) (hupd : c.upd = none)
    (h : s.ml.slot < c.par.anchor) : s.connEvent k = s := by
  unfold State.connEvent
  rw [hc]
  dsimp only
  rw [Conn.atInstant_of_none hupd]
  exact if_pos (.inr h)

/-- A connection whose event begins. -/
def Conn.attended (c : Conn) (rtc : Int) : Conn :=
  let m := match c.cur with
    | none => 0
    | some _ => if c.heardIn || c.due then 0 else c.missed + 1
  { c with
    cur := some (c.par.anchor, c.par.ctr), heardIn := false, pendSent := false, missed := m
    due := decide (c.par.latency ≤ m), anchorRtc := rtc
    par := { c.par with anchor := c.par.anchor + c.par.period, ctr := (c.par.ctr + 1) % 65536 } }

theorem State.connEvent_due {s : State} {k : Nat} {c : Conn} (hc : Tbl.get? s.ml.conns k = some c) (hupd : c.upd = none)
    (hstate : c.state ≠ 3) (h : c.par.anchor ≤ s.ml.slot) : s.connEvent k =
      if (c.attended (s.rtcOfSlot c.par.anchor)).timedOut s.now && s.pw.mode != .dawn then
        (s.lapseConn k (c.attended (s.rtcOfSlot c.par.anchor))).count F.MSH_SUPV_CNT_lapses
      else s.setConn k (c.attended (s.rtcOfSlot c.par.anchor)) := by
  unfold State.connEvent
  rw [hc]
  dsimp only
  rw [Conn.atInstant_of_none hupd]
  exact if_neg (by omega)

/-- A connection that lapses. -/
structure Lapsed (s u : State) (k : Nat) (c : Conn) : Prop where
  conn : Tbl.get? u.ml.conns k = some { c with state := 3, lapsedAt := s.now, cur := none, upd := none, follow := none }
  parts : { u with io := s.io, ml := s.ml, now := s.now } = s
  word : ∀ off, off ≠ F.MSH_CONN_CNT_active.off → u.word off = s.word off

theorem State.lapseConn_leaves (s : State) (k : Nat) (c : Conn) : Lapsed s (s.lapseConn k c) k c := by
  unfold State.lapseConn
  extract_lets v own
  have hconn : Tbl.get? v.ml.conns k = some { c with state := 3, lapsedAt := s.now, cur := none, upd := none, follow := none } :=
    Tbl.get?_put_self _ _ _
  have hparts : { v with io := s.io, ml := s.ml, now := s.now } = s := rfl
  have hio : v.io = s.io := rfl
  clear_value v
  have h := State.connCnt_leaves { v with ml := { v.ml with dl := v.ml.dl.filter fun d => !own d } }
  refine ⟨hconn, hparts, fun off hoff => ?_⟩
  exact (h.2.2 off (by rwa [List.mem_singleton])).trans (congrArg (·.word off) hio)

/-! ### The slot boundary (R190, R191) -/

/-- The fields of the mesh link that a slot keeps, with the registers that say whether the mesh runs. -/
structure SameMesh (a b : State) : Prop where
  ml : { b.ml with conns := a.ml.conns, dl := a.ml.dl, reserved := a.ml.reserved } = a.ml
  rs : b.rs = a.rs
  now : b.now = a.now
  tw : b.tw = a.tw
  run : b.word 0x140000 = a.word 0x140000
  stat : b.word 0x140004 = a.word 0x140004

theorem SameMesh.refl (s : State) : SameMesh s s := ⟨rfl, rfl, rfl, rfl, rfl, rfl⟩

theorem SameMesh.trans {a b c : State} (h : SameMesh a b) (h' : SameMesh b c) : SameMesh a c := by
  obtain ⟨hml, hrs, hnow, htw, hrun, hstat⟩ := h
  obtain ⟨hml', hrs', hnow', htw', hrun', hstat'⟩ := h'
  exact ⟨(congrArg (fun z : Ml => { z with conns := a.ml.conns, dl := a.ml.dl, reserved := a.ml.reserved }) hml' :).trans hml,
    hrs'.trans hrs, hnow'.trans hnow, htw'.trans htw, hrun'.trans hrun, hstat'.trans hstat⟩

theorem SameMesh.ite {a b : State} {p : Prop} [Decidable p] (h : SameMesh a b) : SameMesh a (if p then b else a) := by
  split
  · exact h
  · exact .refl a

theorem SameMesh.ite₂ {a b c : State} {p : Prop} [Decidable p] (h : SameMesh a b) (h' : SameMesh a c) :
    SameMesh a (if p then b else c) := by
  split
  · exact h
  · exact h'

theorem SameMesh.each {α : Type} {a b : State} {l : List α} {f : State → α → State} (h : SameMesh a b)
    (hf : ∀ u x, SameMesh u (f u x)) : SameMesh a (b.each l f) := by
  induction l generalizing b with
  | nil => exact h
  | cons x xs ih => exact ih (h.trans (hf b x))

theorem SameMesh.setFld {a b : State} (h : SameMesh a b) {f : Fld} (hf : f.off ≠ 0x140000 ∧ f.off ≠ 0x140004) (v : Nat) :
    SameMesh a (b.setFld f v) :=
  h.trans ⟨rfl, rfl, rfl, rfl, State.word_setFld_off _ _ _ hf.1, State.word_setFld_off _ _ _ hf.2⟩

theorem SameMesh.ofIo {a : State} {io : Io} (hrun : io.word 0x140000 = a.word 0x140000) (hstat : io.word 0x140004 = a.word 0x140004) :
    SameMesh a { a with io := io } := ⟨rfl, rfl, rfl, rfl, hrun, hstat⟩

theorem State.finish_meshWord (s : State) (d : Dfr) (st r : Nat) {off : Nat} (h : off = 0x140000 ∨ off = 0x140004) :
    (s.finish d st r).word off = s.word off := by
  unfold State.finish
  extract_lets hf hf' io v w
  have hw : w.word off = v.word off :=
    (Posts.complete _ _ _).word off (by rw [postedAt_eq_false]; rcases h with rfl | rfl <;> decide)
  refine Eq.trans ?_ hw
  unfold Io.settle
  split
  · exact Io.word_setWord_ne _ _ (by simp only [F.HIF_SQ_ERR_active]; omega)
  · rfl

theorem State.finishKey_sameMesh (s : State) (op key st r : Nat) : SameMesh s (s.finishKey op key st r) := by
  unfold State.finishKey
  split
  · exact .ofIo (s.finish_meshWord _ st r (.inl rfl)) (s.finish_meshWord _ st r (.inr rfl))
  · exact .refl _

theorem State.finishOp_sameMesh (s : State) (op st r : Nat) : SameMesh s (s.finishOp op st r) := by
  unfold State.finishOp
  split
  · exact .ofIo (s.finish_meshWord _ st r (.inl rfl)) (s.finish_meshWord _ st r (.inr rfl))
  · exact .refl _

theorem State.finishOp_ml (s : State) (op st r : Nat) : (s.finishOp op st r).ml = s.ml := by
  unfold State.finishOp
  split
  · rfl
  · rfl

theorem State.freeConn_sameMesh (s : State) (k : Nat) : SameMesh s (s.freeConn k) := by
  unfold State.freeConn
  split
  case h_1 => exact .refl _
  case h_2 c _ =>
    extract_lets own ml v w
    have hv : SameMesh s v := ⟨rfl, rfl, rfl, rfl, rfl, rfl⟩
    have hw : SameMesh v w := by
      unfold w
      split
      case h_1 n x _ =>
        obtain ⟨nv, heq⟩ := v.setCtx_leaves n { x with conn := none }
        rw [heq]
        exact ⟨rfl, rfl, rfl, rfl, rfl, rfl⟩
      case h_2 => exact .refl _
    clear_value v w
    have hf := w.finishKey_sameMesh 0x0104 c.addr stOK 0
    exact (((hv.trans hw).trans hf).setFld (by decide) _).setFld (by decide) _

/-- A register below those of the Sorters and the ports. -/
theorem State.flowControl_word (s : State) {off : Nat} (h : off < 0x340000) : s.flowControl.word off = s.word off := by
  have hset (z : State) (f : Fld) (hf : 0x340000 ≤ f.off) (v : Nat) : (z.setFld f v).word off = z.word off :=
    State.word_setFld_off _ _ _ (by omega)
  have hpause (z : State) (p u q : Nat) : (z.sendPause p u q).word off = z.word off :=
    hset _ (F.ETH_PAUSE_CNT_tx p) (by simp only [F.ETH_PAUSE_CNT_tx]; omega) _
  have hxoff (z : State) (p u : Nat) (x : Bool) : (z.setXoff p u x).word off = z.word off :=
    hset _ (F.ETH_STAT_xoff_sent p) (by simp only [F.ETH_STAT_xoff_sent]; omega) _
  have hsend (z : State) (p u : Nat) : (z.sendXoff p u).word off = z.word off :=
    (hxoff _ p u true).trans (hpause z p u 0xFFFF)
  unfold State.flowControl
  split
  · rfl
  · refine State.each_const (·.word off) (fun z p => ?_) [0, 1] s
    split
    · rfl
    · refine (State.each_const (·.word off) (fun w u => ?_) _ _).trans (Io.latchRegs_word z.io _ off)
      dsimp only
      split
      · split
        · exact (hxoff _ _ _ _).trans (hpause _ _ _ _)
        · rfl
      · split
        · exact hsend _ _ _
        · rfl

theorem State.updatePool_word (s : State) {off : Nat} (h : off < 0x340000) : s.updatePool.word off = s.word off :=
  (State.flowControl_word _ h).trans (State.word_setFld_off _ _ _ (Nat.ne_of_gt (lt_of_lt_of_le h (by decide))))

theorem State.updatePool_sameMesh (s : State) : SameMesh s s.updatePool := by
  have hparts := s.updatePool_parts
  refine ⟨?_, (congrArg State.rs hparts :), (congrArg State.now hparts :), (congrArg State.tw hparts :),
    s.updatePool_word (by decide), s.updatePool_word (by decide)⟩
  rw [show s.updatePool.ml = s.ml from (congrArg State.ml hparts :)]

theorem State.dropSpent_sameMesh (s : State) : SameMesh s s.dropSpent := by
  unfold State.dropSpent
  extract_lets limit spent gone ml v w
  have hv : SameMesh s v := ⟨rfl, rfl, rfl, rfl, rfl, rfl⟩
  clear_value v
  have hw : SameMesh v w := by
    refine (SameMesh.refl v).each fun u d => ?_
    split
    · exact u.freeConn_sameMesh _
    · exact .refl _
  exact ((hv.trans hw).setFld (by decide) _).trans (State.updatePool_sameMesh _)

/-! ### A pattern that takes effect (R198) -/

/-- The boundary's pattern: announced ones whose slot has come take effect. -/
structure Activated (s u : State) : Prop where
  ml : { u.ml with sfLen := s.ml.sfLen, sfMap := s.ml.sfMap, next := s.ml.next } = s.ml
  rs : u.rs = s.rs
  tw : u.tw = s.tw
  run : u.word 0x140000 = s.word 0x140000
  running : u.fld F.MSH_STAT_running = s.fld F.MSH_STAT_running
  none : s.ml.next = none → u.ml = s.ml
  due : ∀ len map at_, s.ml.next = some (len, map, at_) → at_ ≤ s.ml.slot → u.ml.sfLen = len ∧ u.ml.sfMap = map ∧ u.ml.next = .none
  early : ∀ len map at_, s.ml.next = some (len, map, at_) → s.ml.slot < at_ → u.ml = s.ml

theorem State.setPattern_regs (s : State) (len map : Nat) :
    RegsOnly { s with ml := { s.ml with sfLen := len, sfMap := map } } (s.setPattern len map)
      [F.MSH_SF_CFG_len.off, F.MSH_SF_PATTERN_map_lo.off] :=
  (((RegsOnly.refl { s with ml := { s.ml with sfLen := len, sfMap := map } } _).setFld (by decide) _).setFld (by decide) _).setFld
    (by decide) _

theorem State.showNext_regs (s : State) : RegsOnly s s.showNext [0x140004, 0x140018, 0x14001C, 0x140020] ∧
    s.showNext.fld F.MSH_STAT_running = s.fld F.MSH_STAT_running := by
  unfold State.showNext
  generalize s.ml.next.getD (0, 0, 0) = x
  obtain ⟨len, map, at_⟩ := x
  refine ⟨((((((RegsOnly.refl s _).setFld (by decide) _).setFld (by decide) _).setFld (by decide) _).setFld (by decide) _).setFld
    (by decide) _).setFld (by decide) _, ?_⟩
  simp (disch := decide) only [State.fld_setFld_ne]

theorem State.sfActivate_leaves (s : State) : Activated s s.sfActivate := by
  unfold State.sfActivate
  split
  case h_1 len map at_ hnext =>
    split
    case isTrue hdue =>
      have hp := s.setPattern_regs len map
      extract_lets v ml
      obtain ⟨hsregs, hsrun⟩ := State.showNext_regs { v with ml := { v.ml with next := none } }
      have hml : (State.showNext { v with ml := { v.ml with next := none } }).ml = { s.ml with sfLen := len, sfMap := map, next := none } :=
        (congrArg State.ml hsregs.1 :)
      have hrs : (State.showNext { v with ml := { v.ml with next := none } }).rs = s.rs := (congrArg State.rs hsregs.1 :)
      have htw : (State.showNext { v with ml := { v.ml with next := none } }).tw = s.tw := (congrArg State.tw hsregs.1 :)
      have hrun : (State.showNext { v with ml := { v.ml with next := none } }).word 0x140000 = s.word 0x140000 :=
        (hsregs.2.2 _ (by decide)).trans (hp.2.2 _ (by decide))
      have hstat : (State.showNext { v with ml := { v.ml with next := none } }).fld F.MSH_STAT_running = s.fld F.MSH_STAT_running :=
        hsrun.trans (State.fld_of_word (hp.2.2 _ (by decide)))
      generalize State.showNext { v with ml := { v.ml with next := none } } = w at *
      have hf := w.finishOp_sameMesh 0x0101 stOK 0
      have hfml : (w.finishOp 0x0101 stOK).ml = w.ml := w.finishOp_ml 0x0101 stOK 0
      refine ⟨?_, hf.rs.trans hrs, hf.tw.trans htw, hf.run.trans hrun, (State.fld_of_word hf.stat).trans hstat, fun h => ?_,
        fun l m a h _ => ?_, fun l m a h hlt => ?_⟩
      · rw [hfml, hml]
      · rw [hnext] at h
        cases h
      · rw [hnext] at h
        obtain ⟨rfl, rfl, rfl⟩ := h
        rw [hfml, hml]
        exact ⟨rfl, rfl, rfl⟩
      · rw [hnext] at h
        obtain ⟨rfl, rfl, rfl⟩ := h
        omega
    case isFalse hearly =>
      refine ⟨rfl, rfl, rfl, rfl, rfl, fun _ => rfl, fun l m a h hle => ?_, fun _ _ _ _ _ => rfl⟩
      rw [hnext] at h
      obtain ⟨rfl, rfl, rfl⟩ := h
      exact absurd hle hearly
  case h_2 hnext =>
    refine ⟨rfl, rfl, rfl, rfl, rfl, fun _ => rfl, fun l m a h _ => ?_, fun _ _ _ _ _ => rfl⟩
    rw [hnext] at h
    cases h

/-! ### The mesh's slot -/

theorem State.meshService_running {s : State} (hrun : s.flag F.MSH_CTRL_run = true) (hon : s.flag F.MSH_STAT_running = true) :
    s.meshService = s := by
  unfold State.meshService
  rw [if_neg (by rw [hrun]; decide), if_pos hon]

theorem State.latchRegs_sameMesh (s : State) (l : List Nat) : SameMesh s (s.latchRegs l) :=
  .ofIo (Io.latchRegs_word s.io l _) (Io.latchRegs_word s.io l _)

theorem State.airRefill_sameMesh (s : State) : SameMesh s s.airRefill := by
  refine (SameMesh.refl s).each fun u b => ?_
  dsimp only
  split
  · exact u.latchRegs_sameMesh _
  · exact (u.latchRegs_sameMesh _).trans ⟨rfl, rfl, rfl, rfl, rfl, rfl⟩

/-- What the mesh's new slot leaves. -/
structure NewSlot (s u : State) : Prop where
  slot : u.ml.slot = (s.ml.slot + 1) % 2 ^ 40
  at_ : u.ml.slotAt = s.now
  type : u.fld F.MSH_STAT_slot_type = (u.ml.isD u.ml.slot).toNat
  places : u.ml.places = []
  decided : u.ml.decided = []
  planned : u.ml.planned = false
  rx : u.rs.rx = []
  none : s.ml.next = none → u.ml.sfLen = s.ml.sfLen ∧ u.ml.sfMap = s.ml.sfMap
  some : ∀ len map at_, s.ml.next = some (len, map, at_) →
    (at_ ≤ u.ml.slot → u.ml.sfLen = len ∧ u.ml.sfMap = map ∧ u.ml.next = .none) ∧
    (u.ml.slot < at_ → u.ml.sfLen = s.ml.sfLen ∧ u.ml.sfMap = s.ml.sfMap ∧ u.ml.next = s.ml.next)

theorem NewSlot.same {s u w : State} (h : NewSlot s u) (hw : SameMesh u w) : NewSlot s w := by
  have hml := hw.ml
  have hsf : w.ml.slot = u.ml.slot ∧ w.ml.sfLen = u.ml.sfLen ∧ w.ml.sfMap = u.ml.sfMap ∧ w.ml.next = u.ml.next :=
    ⟨(congrArg Ml.slot hml :), (congrArg Ml.sfLen hml :), (congrArg Ml.sfMap hml :), (congrArg Ml.next hml :)⟩
  obtain ⟨hslot, hlen, hmap, hnext⟩ := hsf
  refine ⟨hslot.trans h.slot, (congrArg Ml.slotAt hml :).trans h.at_, ?_, (congrArg Ml.places hml :).trans h.places,
    (congrArg Ml.decided hml :).trans h.decided, (congrArg Ml.planned hml :).trans h.planned, (congrArg Rs.rx hw.rs).trans h.rx,
    fun hn => ?_, fun len map at_ hn => ?_⟩
  · unfold Ml.isD
    rw [hslot, hlen, hmap]
    exact (State.fld_of_word hw.stat).trans h.type
  · rw [hlen, hmap]
    exact h.none hn
  · rw [hslot, hlen, hmap, hnext]
    exact h.some len map at_ hn

theorem NewSlot.from {s r u : State} (h : NewSlot r u) (hr : SameMesh s r) : NewSlot s u := by
  have hml := hr.ml
  have hslot : r.ml.slot = s.ml.slot := (congrArg Ml.slot hml :)
  have hlen : r.ml.sfLen = s.ml.sfLen := (congrArg Ml.sfLen hml :)
  have hmap : r.ml.sfMap = s.ml.sfMap := (congrArg Ml.sfMap hml :)
  have hnext : r.ml.next = s.ml.next := (congrArg Ml.next hml :)
  refine ⟨hslot ▸ h.slot, hr.now ▸ h.at_, h.type, h.places, h.decided, h.planned, h.rx, fun hn => ?_, fun len map at_ hn => ?_⟩
  · rw [← hlen, ← hmap]
    exact h.none (hnext.trans hn)
  · rw [← hlen, ← hmap, ← hnext]
    exact h.some len map at_ (hnext.trans hn)

theorem State.meshSlot_leaves {s : State} (hadopt : s.tw.adopt = none) (hrun : s.flag F.MSH_CTRL_run = true)
    (hon : s.flag F.MSH_STAT_running = true) : NewSlot s s.meshSlot ∧ s.meshSlot.tw = s.tw := by
  unfold State.meshSlot
  extract_lets d rs v w ml tw x y z lat q
  have hv : v.ml = s.ml.leaveSlot ∧ v.rs.rx = [] ∧ v.tw = s.tw ∧ v.now = s.now ∧ v.word 0x140000 = s.word 0x140000 ∧
    v.word 0x140004 = s.word 0x140004 := ⟨rfl, rfl, rfl, rfl, rfl, rfl⟩
  obtain ⟨hvml, hvrx, hvtw, hvnow, hvrun, hvstat⟩ := hv
  have hw : SameMesh v w := .ite v.dropSpent_sameMesh
  have hx : x = { w with ml := { w.ml with slot := (w.ml.slot + 1) % 2 ^ 40, slotAt := w.now } } := by
    unfold x
    rw [show w.tw.adopt = none by rw [hw.tw, hvtw, hadopt]]
  clear_value v w x
  have hxtw : x.tw = s.tw := by rw [hx]; exact hw.tw.trans hvtw
  have hact := x.sfActivate_leaves
  have hxword : x.word 0x140000 = s.word 0x140000 ∧ x.word 0x140004 = s.word 0x140004 := by
    rw [hx]
    exact ⟨hw.run.trans hvrun, hw.stat.trans hvstat⟩
  have hy : y = x.sfActivate := State.meshService_running
    ((congrArg (fun v => F.MSH_CTRL_run.of v != 0) (hact.run.trans hxword.1)).trans hrun)
    ((congrArg (· != 0) (hact.running.trans (State.fld_of_word hxword.2))).trans hon)
  have htype : z.fld F.MSH_STAT_slot_type = (z.ml.isD z.ml.slot).toNat :=
    State.fld_setFld_eq _ (by decide) (Bool.toNat_lt _)
  have hz : z.ml = y.ml ∧ z.rs = y.rs ∧ z.tw = y.tw := ⟨rfl, rfl, rfl⟩
  have hlat : SameMesh z lat := .ite₂ (z.latchRegs_sameMesh _) (z.latchRegs_sameMesh _)
  have hq : SameMesh lat q :=
    (((lat.latchRegs_sameMesh _).trans (State.latchRegs_sameMesh _ _)).setFld (by decide) _).trans (State.airRefill_sameMesh _)
  have hu : SameMesh q (if q.ml.isD q.ml.slot = true then q else q.reservePlaces) := .ite₂ (.refl q) ⟨rfl, rfl, rfl, rfl, rfl, rfl⟩
  generalize (if q.ml.isD q.ml.slot = true then q else q.reservePlaces) = u at *
  clear_value y z lat q
  subst hy
  obtain ⟨hzml, hzrs, hztw⟩ := hz
  have hmlx : x.ml = { w.ml with slot := (w.ml.slot + 1) % 2 ^ 40, slotAt := w.now } := by rw [hx]
  have hkept : { w.ml with conns := v.ml.conns, dl := v.ml.dl, reserved := v.ml.reserved } = v.ml := hw.ml
  have hslot : w.ml.slot = s.ml.slot := (congrArg Ml.slot hkept :).trans (by rw [hvml]; rfl)
  have hnext : w.ml.next = s.ml.next := (congrArg Ml.next hkept :).trans (by rw [hvml]; rfl)
  have hpat : w.ml.sfLen = s.ml.sfLen ∧ w.ml.sfMap = s.ml.sfMap :=
    ⟨(congrArg Ml.sfLen hkept :).trans (by rw [hvml]; rfl), (congrArg Ml.sfMap hkept :).trans (by rw [hvml]; rfl)⟩
  have hempty : w.ml.places = [] ∧ w.ml.decided = [] ∧ w.ml.planned = false :=
    ⟨(congrArg Ml.places hkept :).trans (by rw [hvml]; rfl), (congrArg Ml.decided hkept :).trans (by rw [hvml]; rfl),
      (congrArg Ml.planned hkept :).trans (by rw [hvml]; rfl)⟩
  have haml := hact.ml
  have hyslot : x.sfActivate.ml.slot = (s.ml.slot + 1) % 2 ^ 40 := (congrArg Ml.slot haml :).trans (by rw [hmlx, hslot])
  have hnew : NewSlot s z := by
    refine ⟨by rw [hzml, hyslot], ?_, htype, ?_, ?_, ?_, ?_, fun hn => ?_, fun len map at_ hn => ⟨fun hle => ?_, fun hlt => ?_⟩⟩
    · rw [hzml, show x.sfActivate.ml.slotAt = x.ml.slotAt from (congrArg Ml.slotAt haml :), hmlx, ← hvnow]
      exact hw.now
    · rw [hzml, show x.sfActivate.ml.places = x.ml.places from (congrArg Ml.places haml :), hmlx]
      exact hempty.1
    · rw [hzml, show x.sfActivate.ml.decided = x.ml.decided from (congrArg Ml.decided haml :), hmlx]
      exact hempty.2.1
    · rw [hzml, show x.sfActivate.ml.planned = x.ml.planned from (congrArg Ml.planned haml :), hmlx]
      exact hempty.2.2
    · rw [hzrs, hact.rs, hx]
      exact (congrArg Rs.rx hw.rs).trans hvrx
    · rw [hzml, hact.none (by rw [hmlx]; exact hnext.trans hn), hmlx]
      exact hpat
    · rw [hzml]
      exact hact.due len map at_ (by rw [hmlx]; exact hnext.trans hn) (by rw [hmlx, hslot, ← hyslot, ← hzml]; exact hle)
    · rw [hzml, hact.early len map at_ (by rw [hmlx]; exact hnext.trans hn) (by rw [hmlx, hslot, ← hyslot, ← hzml]; exact hlt), hmlx]
      exact ⟨hpat.1, hpat.2, hnext⟩
  exact ⟨((hnew.same hlat).same hq).same hu, ((hu.tw.trans hq.tw).trans hlat.tw).trans (hztw.trans (hact.tw.trans hxtw))⟩

/-! ### What stands before and behind the mesh's slot -/

theorem State.lhSlot_sameMesh (s : State) : SameMesh s s.lhSlot := by
  unfold State.lhSlot
  extract_lets v
  have hv : SameMesh s v := ⟨rfl, rfl, rfl, rfl, rfl, rfl⟩
  clear_value v
  have hivl (x : State) : SameMesh x x.ivlSettle := by
    unfold State.ivlSettle
    split
    · exact .refl _
    · split
      · exact .refl _
      · extract_lets lh y
        have hy : SameMesh x y := ⟨rfl, rfl, rfl, rfl, rfl, rfl⟩
        have hpins (z : State) : SameMesh z (z.coxaPins false false) := ⟨rfl, rfl, rfl, rfl, rfl, rfl⟩
        exact ((hy.setFld (by decide) 0).trans (hpins _)).setFld (f := F.COX_A_STAT_ext_gnt) (by decide) _
  have hcal (x : State) : SameMesh x x.calSlot := by
    have hset (r : Radio) : SameMesh x (x.setRadio false r) := ⟨rfl, rfl, rfl, rfl, rfl, rfl⟩
    exact .ite (((hset _).setFld (by decide) _).setFld (by decide) _)
  have hant (x : State) : SameMesh x x.antSlot := by
    unfold State.antSlot
    split
    · exact .refl _
    · have hl : SameMesh x (x.latchFld F.LRX_ANT_CFG_antsel) := ⟨rfl, rfl, rfl, rfl, rfl, rfl⟩
      dsimp only
      split
      · exact hl.setFld (by decide) _
      · exact (hl.setFld (by decide) _).trans ⟨rfl, rfl, rfl, rfl, rfl, rfl⟩
      · exact hl.setFld (by decide) _
  exact ((hv.trans (hivl v)).trans (hcal _)).trans (hant _)

theorem State.dozeSlot_sameMesh (s : State) : SameMesh s s.dozeSlot := by
  have hset (pw : Pw) : SameMesh s { s with pw := pw } := ⟨rfl, rfl, rfl, rfl, rfl, rfl⟩
  exact .ite ((hset _).setFld (by decide) _)

theorem State.dawnSlot_sameMesh (s : State) : SameMesh s s.dawnSlot :=
  .ite₂ (.refl s) (((SameMesh.refl s).setFld (by decide) _).setFld (by decide) _)

/-- The personality in effect is that of the register: nothing is switched. -/
theorem State.persSlot_settled {s : State} (hs : s.eFld F.PWR_RADIO_PERS_s_en = s.fld F.PWR_RADIO_PERS_s_en)
    (hl : s.eFld F.PWR_RADIO_PERS_l_mode = s.fld F.PWR_RADIO_PERS_l_mode)
    (hh : s.eFld F.PWR_RADIO_PERS_h_en = s.fld F.PWR_RADIO_PERS_h_en) : s.persSlot = s.latchRegs [0x010004] := by
  have hlatch (f : Fld) (hf : f.off = 0x010004) (hlat : f.latched = true) : (s.latchRegs [0x010004]).eFld f = s.fld f := by
    rw [← hf]
    exact Io.eFld_latchReg_self s.io hlat
  unfold State.persSlot
  dsimp only
  rw [hlatch _ rfl (by decide), hs, if_pos rfl, hl, hh, hlatch F.PWR_RADIO_PERS_l_mode rfl (by decide)]
  unfold State.persLh
  rw [if_pos rfl, hlatch F.PWR_RADIO_PERS_h_en rfl (by decide), if_pos rfl]

/-- A lone unit sends nothing to its twin at a slot's end. -/
theorem State.twinSlotEnd_alone {s : State} (hrole : s.tw.role = .solo) (hshadow : s.tw.shadow = []) :
    ∃ tw : Tw, s.twinSlotEnd = { s with tw := tw } ∧ tw.role = .solo ∧ tw.adopt = s.tw.adopt := by
  have hsend : s.sendSlotRec = s := if_pos (by rw [hrole]; rfl)
  have hlone : s.isShadow = false := by unfold State.isShadow; rw [hrole]; decide
  unfold State.twinSlotEnd
  rw [hsend]
  dsimp only
  rw [if_neg (by rw [hlone]; simp), hshadow]
  exact ⟨_, rfl, hrole, rfl⟩

theorem State.pushItem_keeps (s : State) (ty : Nat) (l : List PWord) : (s.pushItem ty l).pending = s.pending ∧ (s.pushItem ty l).now = s.now := by
  unfold State.pushItem
  dsimp only
  split
  · exact ⟨rfl, rfl⟩
  · exact ⟨rfl, rfl⟩

/-- Settles O48: a slot's boundary, and what becomes of a connection. -/
theorem slotsAndConnections : Obligations.SlotsAndConnections := by
  intro t k s
  refine ⟨fun hstop => ?stopped, fun hruns ha hshadow hadopt hrun hon hpers => ?boundary, fun c hc => ⟨fun hearly hupd => ?before,
    fun hupd hstate hdue => ⟨fun hheard => ?attended, fun hlost hmode => ?lapsed⟩, fun p hupd hctr => ?instant, fun hstate hover => ?freed,
    fun hheld => ?held⟩⟩
  case stopped => exact run_eq_next (f := State.slotBoundary) (if_pos (by rw [show (s.at t).slotsRun = false from hstop]; rfl)) rfl
  case boundary =>
    obtain ⟨p, hp⟩ : ∃ p, p = if (s.at t).flag F.TPL_STAT_dawn_active then (s.at t).pushItem 0x05 else s.at t := ⟨_, rfl⟩
    have hpush : VoterOnly (s.at t) p [0x040028] := by
      rw [hp]
      split
      · exact State.pushItem_only _ _ _
      · exact ⟨rfl, rfl, fun _ _ => rfl⟩
    have hpnow : p.now = (s.at t).now := by
      rw [hp]
      split
      · exact ((s.at t).pushItem_keeps 0x05 []).2
      · rfl
    obtain ⟨hpparts, hpio, hpword⟩ := hpush
    have hptw : p.tw = s.tw := (congrArg State.tw hpparts :)
    obtain ⟨tw, htw, hrole, htwadopt⟩ := State.twinSlotEnd_alone (s := p) (by rw [hptw]; exact ha.1) (by rw [hptw]; exact hshadow)
    have heff : p.io.eff = s.io.eff := (congrArg Io.eff hpio :)
    have hpml : p.ml = s.ml := (congrArg State.ml hpparts :)
    have hprs : p.rs = s.rs := (congrArg State.rs hpparts :)
    have hpers' (f : Fld) (hf : f.off = 0x010004) (h : s.eFld f = s.fld f) : p.twinSlotEnd.eFld f = p.twinSlotEnd.fld f := by
      rw [htw]
      refine Eq.trans ?_ (h.trans (State.fld_of_word (hpword _ (by rw [hf]; decide))).symm)
      exact congrArg f.of (congrArg (fun e => Tbl.getD e f.off (regReset f.off)) heff)
    have hset := State.persSlot_settled (hpers' F.PWR_RADIO_PERS_s_en rfl (hpers _ (by simp)))
      (hpers' F.PWR_RADIO_PERS_l_mode rfl (hpers _ (by simp))) (hpers' F.PWR_RADIO_PERS_h_en rfl (hpers _ (by simp)))
    let x : State := (p.twinSlotEnd.persSlot.latchRegs [F.TPL_DAWN_CFG_retry_hint.off]).dawnSlot
    have hx : SameMesh p.twinSlotEnd x := by
      unfold x
      rw [hset]
      exact ((State.latchRegs_sameMesh _ _).trans (State.latchRegs_sameMesh _ _)).trans (State.dawnSlot_sameMesh _)
    have heq : (s.at t).slotBoundary =
        (State.meshSlot { x with tp := { x.tp with reload := false } }).lhSlot.twinSlotStart.dozeSlot := by
      unfold x
      rw [hp]
      exact if_neg (by rw [show (s.at t).slotsRun = true from hruns]; decide)
    clear_value x
    obtain ⟨y, hy⟩ : ∃ y : State, y = { x with tp := { x.tp with reload := false } } := ⟨_, rfl⟩
    rw [← hy] at heq
    have hsy : SameMesh { s.at t with tw := tw } y := by
      have h1 : SameMesh { s.at t with tw := tw } p.twinSlotEnd := by
        rw [htw]
        exact ⟨congrArg (fun z : Ml => { z with conns := s.ml.conns, dl := s.ml.dl, reserved := s.ml.reserved }) hpml, hprs, hpnow, rfl,
          hpword _ (by decide), hpword _ (by decide)⟩
      exact (h1.trans hx).trans (by rw [hy]; exact ⟨rfl, rfl, rfl, rfl, rfl, rfl⟩)
    obtain ⟨hnew, hnewtw⟩ := State.meshSlot_leaves (s := y) (by rw [hsy.tw]; exact htwadopt.trans (by rw [hptw]; exact hadopt))
      ((congrArg (fun v => F.MSH_CTRL_run.of v != 0) hsy.run).trans hrun)
      ((congrArg (fun v => F.MSH_STAT_running.of v != 0) hsy.stat).trans hon)
    have hlh := y.meshSlot.lhSlot_sameMesh
    have htwin : y.meshSlot.lhSlot.twinSlotStart = y.meshSlot.lhSlot := by
      refine if_neg ?_
      rw [hlh.tw, hnewtw, hsy.tw]
      show ¬ tw.role = .lead
      rw [hrole]
      decide
    have hu : NewSlot { s.at t with tw := tw } (s.at t).slotBoundary := by
      rw [heq, htwin]
      exact ((hnew.same hlh).same (State.dozeSlot_sameMesh _)).from hsy
    exact ⟨_, rfl, hu.slot, hu.at_, hu.type, hu.places, hu.decided, hu.planned, hu.rx, hu.none, hu.some⟩
  case before => exact run_eq_next (f := fun s => s.connEvent k) (State.connEvent_early (s := s.at t) hc hupd hearly) rfl
  case attended =>
    refine run_eq_next (f := fun s => s.connEvent k) ((State.connEvent_due (s := s.at t) hc hupd hstate hdue).trans (if_neg ?_)) rfl
    rw [show (c.attended ((s.at t).rtcOfSlot c.par.anchor)).timedOut (s.at t).now = false from decide_eq_false (Nat.not_lt.mpr hheard)]
    exact Bool.false_ne_true
  case lapsed =>
    have heq := (State.connEvent_due (s := s.at t) hc hupd hstate hdue).trans (if_pos (by
      rw [show (c.attended ((s.at t).rtcOfSlot c.par.anchor)).timedOut (s.at t).now = true from decide_eq_true hlost]
      simpa using hmode))
    obtain ⟨hconn, hparts, hword⟩ := (s.at t).lapseConn_leaves k (c.attended ((s.at t).rtcOfSlot c.par.anchor))
    have hu : { ((s.at t).lapseConn k (c.attended ((s.at t).rtcOfSlot c.par.anchor))).count F.MSH_SUPV_CNT_lapses with
        io := s.io, ml := s.ml, now := s.now } = { s.at t with now := s.now } := (congrArg (fun z : State => { z with now := s.now }) hparts :)
    have hcnt : (((s.at t).lapseConn k (c.attended ((s.at t).rtcOfSlot c.par.anchor))).count F.MSH_SUPV_CNT_lapses).fld
        F.MSH_SUPV_CNT_lapses = min (s.fld F.MSH_SUPV_CNT_lapses + 1) (2 ^ F.MSH_SUPV_CNT_lapses.width - 1) := by
      rw [State.fld_count_self _ _ _ (by decide), State.fld_of_word (hword F.MSH_SUPV_CNT_lapses.off (by decide))]
      rfl
    have hget : Tbl.get? (((s.at t).lapseConn k (c.attended ((s.at t).rtcOfSlot c.par.anchor))).count F.MSH_SUPV_CNT_lapses).ml.conns k =
        some _ := hconn
    rw [← heq] at hu hcnt hget
    exact ⟨_, _, rfl, hget, rfl, rfl, rfl, hcnt, (congrArg (fun z : State => { z with pending := s.pending }) hu :)⟩
  case instant =>
    have hx : c.atInstant = { c with par := p, upd := none, state := 1 } := by
      unfold Conn.atInstant
      rw [hupd]
      exact if_pos hctr
    obtain ⟨v, hv⟩ : ∃ v, v = (s.at t).setConn k { c with par := p, upd := none, state := 1, anchorRtc := (s.at t).rtcBefore p } := ⟨_, rfl⟩
    have heq : (s.at t).connInstant k = v.connCnt := by
      unfold State.connInstant
      rw [show Tbl.get? (s.at t).ml.conns k = some c from hc]
      dsimp only
      rw [if_pos (by rw [hupd]; simpa using hctr.symm), hx, hv]
    obtain ⟨hparts, hio, hword⟩ := v.connCnt_leaves
    rw [← heq] at hparts hio hword
    have hml : ((s.at t).connInstant k).ml = v.ml := (congrArg State.ml hparts :)
    refine ⟨_, rfl, ?_, ?_, ?_, ?_⟩
    · rw [hml, hv]
      rfl
    · have h := (congrArg (fun z : State => { z with io := s.io, now := s.now, pending := s.pending }) hparts :)
      rw [hv] at h
      refine h.trans ?_
      rw [show ({ (s.at t).connInstant k with pending := s.pending } : State).ml = v.ml from hml, hv]
      rfl
    · rw [hv] at hio
      exact hio
    · rw [hv] at hword
      exact hword
  case freed =>
    have hfree := (s.at t).freeConn_leaves k
    have heq : (s.at t).lapseHold k = (s.at t).freeConn k := by
      unfold State.lapseHold
      rw [show Tbl.get? (s.at t).ml.conns k = some c from hc]
      exact if_pos ⟨hstate, hover⟩
    rw [← heq] at hfree
    exact ⟨_, rfl, hfree.conn, (congrArg (fun z : State => { z with pending := s.pending, now := s.now }) hfree.parts :)⟩
  case held =>
    refine run_eq_next (f := fun s => s.lapseHold k) ?_ rfl
    unfold State.lapseHold
    rw [show Tbl.get? (s.at t).ml.conns k = some c from hc]
    exact if_neg fun h => Nat.not_le.mpr hheld h.2

end Sys2Proof.Machine
end

-- ==== Frames and receipts (R204 to R212, R247, R278, R280) ====
section
/-!
SUPPORT. A frame that is decided, a receipt burst, a D slot's receipt and a node's; O49.
-/

namespace Sys2Proof.Machine

/-! ### Contexts found by their address -/

theorem Tbl.find?_put {α : Type} {q : α → Bool} {t : Tbl α} {k : Nat} {c v : α} (h : t.find? (fun p => q p.2) = some (k, c))
    (hv : q v = true) : (Tbl.put t k v).find? (fun p => q p.2) = some (k, v) := by
  induction t with
  | nil => cases h
  | cons p t ih =>
    obtain ⟨j, w⟩ := p
    unfold Tbl.put
    split
    · exact List.find?_cons_of_pos hv
    · split
      · exact List.find?_cons_of_pos hv
      · case isFalse hle hne =>
        by_cases hw : q w = true
        · have hcons : List.find? (fun p => q p.2) ((j, w) :: t) = some (j, w) := List.find?_cons_of_pos hw
          rw [hcons] at h
          obtain ⟨rfl, rfl⟩ := Prod.mk.inj (Option.some.inj h)
          exact absurd rfl hne
        · have hcons : List.find? (fun p => q p.2) ((j, w) :: t) = t.find? (fun p => q p.2) := List.find?_cons_of_neg hw
          rw [hcons] at h
          have hput : List.find? (fun p => q p.2) ((j, w) :: Tbl.put t k v) = (Tbl.put t k v).find? (fun p => q p.2) :=
            List.find?_cons_of_neg hw
          exact hput.trans (ih h)

theorem State.ctxOfAddr_ne_zero {s : State} {addr : Nat} {r : Nat × Ctx} (h : s.ctxOfAddr addr = some r) : addr ≠ 0 := by
  rintro rfl
  cases h

theorem State.ctxOfAddr_eq {s : State} {addr : Nat} (h : addr ≠ 0) : s.ctxOfAddr addr = s.pt.ctx.find? fun p => p.2.addr == addr :=
  if_neg h

theorem State.ctxOfAddr_addr {s : State} {addr k : Nat} {c : Ctx} (h : s.ctxOfAddr addr = some (k, c)) : c.addr = addr := by
  rw [State.ctxOfAddr_eq (State.ctxOfAddr_ne_zero h)] at h
  simpa using List.find?_some h

/-- A context that is recorded again under its address is the one found by it. -/
theorem State.ctxOfAddr_put {s u : State} {addr k : Nat} {c v : Ctx} (h : s.ctxOfAddr addr = some (k, c)) (hv : v.addr = addr)
    (hu : u.pt.ctx = Tbl.put s.pt.ctx k v) : u.ctxOfAddr addr = some (k, v) := by
  have hne := State.ctxOfAddr_ne_zero h
  rw [State.ctxOfAddr_eq hne] at *
  rw [hu]
  exact Tbl.find?_put (q := fun c : Ctx => c.addr == addr) h (by simpa using hv)

/-! ### A node is heard (R220) -/

/-- The connections once the node at an address is heard. -/
theorem State.updConnOf_leaves (s : State) (addr : Nat) (f : Conn → Conn) :
    ∃ conns : Tbl Conn, s.updConnOf addr f = { s with ml := { s.ml with conns := conns } } := by
  unfold State.updConnOf
  split
  · exact ⟨_, rfl⟩
  · exact ⟨s.ml.conns, rfl⟩

theorem State.heardCtx_leaves (s : State) (addr : Nat) : ∃ pt : Pt, s.heardCtx addr = { s with pt := pt } ∧
    ∀ k v, s.ctxOfAddr addr = some (k, v) → ∃ y, Tbl.get? pt.ctx k = some y ∧ y.rec_ = v.rec_ ∧ y.ep = v.ep ∧ y.ctr = v.ctr := by
  unfold State.heardCtx
  split
  case h_1 n c hc =>
    refine ⟨_, rfl, fun k v hv => ?_⟩
    rw [hv] at hc
    obtain ⟨rfl, rfl⟩ := Prod.mk.inj (Option.some.inj hc)
    exact ⟨_, Tbl.get?_put_self _ _ _, rfl, rfl, rfl⟩
  case h_2 hc =>
    refine ⟨s.pt, rfl, fun k v hv => ?_⟩
    rw [hv] at hc
    cases hc

theorem State.heardU_leaves (s : State) (addr : Nat) (l : Bool) (ch : Nat) (deferred : Bool) :
    (∃ (conns : Tbl Conn) (pt : Pt), s.heardU addr l ch true deferred = { s with ml := { s.ml with conns := conns }, pt := pt } ∧
      ∀ k v, s.ctxOfAddr addr = some (k, v) → ∃ y, Tbl.get? pt.ctx k = some y ∧ y.rec_ = v.rec_ ∧ y.ep = v.ep ∧ y.ctr = v.ctr) ∧
    ∃ conns : Tbl Conn, s.heardU addr l ch false deferred = { s with ml := { s.ml with conns := conns } } := by
  unfold State.heardU
  dsimp only
  constructor
  · obtain ⟨conns, hconns⟩ := s.updConnOf_leaves addr fun c =>
      { c with
        heard := if true = true then s.now else c.heard, deferred := deferred, heardIn := c.heardIn || s.ownCell c l ch
        pendSent := c.pendSent || deferred && s.ownCell c l ch }
    rw [hconns, if_pos rfl]
    obtain ⟨pt, hpt, hctx⟩ := State.heardCtx_leaves { s with ml := { s.ml with conns := conns } } addr
    exact ⟨conns, pt, hpt, hctx⟩
  · exact s.updConnOf_leaves addr _

/-! ### Frames that a check refuses (R204, R278) -/

/-- No frame waits any more. -/
def State.rxTaken (s : State) : State := { s with rs := { s.rs with rx := [] } }

theorem State.takeFrame_one (s : State) {f : RxFrame} (h : s.rs.rx = [f]) : s.takeFrame f = s.rxTaken := by
  unfold State.takeFrame State.rxTaken
  rw [h, List.erase_cons_head]

theorem State.firstFrame_one {s : State} {f : RxFrame} (h : s.rs.rx = [f]) : s.firstFrame = some f := by
  unfold State.firstFrame
  rw [h]
  rfl

/-- What a replayed frame leaves: its count and its reason. -/
theorem State.replay_leaves (s : State) (addr : Nat) : let u := s.secFail .replay addr
    { u with io := s.io } = s ∧ u.fld F.MSH_SEC_LAST_reason = 4 ∧
      u.fld F.MSH_SEC_ERR_replay = min (s.fld F.MSH_SEC_ERR_replay + 1) (2 ^ F.MSH_SEC_ERR_replay.width - 1) := by
  refine ⟨rfl, ?_, ?_⟩
  · exact (State.fld_setFld_ne _ _ (by decide) (by decide)).trans (State.fld_setFld_eq _ (by decide) (by decide))
  · refine (State.fld_setFld_off _ _ _ _ (by decide)).trans ((State.fld_setFld_off _ _ _ _ (by decide)).trans ?_)
    exact State.fld_count_self _ _ _ (by decide)

/-- `b` is `a` with other words at the offsets `l`. -/
def WordsAt (a b : State) (l : List Nat) : Prop :=
  ∃ io : Io, b = { a with io := io } ∧ { io with regs := a.io.regs } = a.io ∧ ∀ off, off ∉ l → io.word off = a.io.word off

theorem WordsAt.refl (s : State) (l : List Nat) : WordsAt s s l := ⟨s.io, rfl, rfl, fun _ _ => rfl⟩

theorem WordsAt.setFld {a b : State} {l : List Nat} (h : WordsAt a b l) {f : Fld} (hf : f.off ∈ l) (v : Nat) :
    WordsAt a (b.setFld f v) l := by
  obtain ⟨io, rfl, hio, hword⟩ := h
  exact ⟨io.setFld f v, rfl, hio, fun off hoff => (Io.word_setWord_ne io _ fun (e : f.off = off) => hoff (e ▸ hf)).trans (hword off hoff)⟩

theorem WordsAt.count {a b : State} {l : List Nat} (h : WordsAt a b l) {f : Fld} (hf : f.off ∈ l) (n : Nat) :
    WordsAt a (b.count f n) l := h.setFld hf _

/-- What a frame outside its cell leaves. -/
theorem State.offCell_words (s : State) (addr : Nat) (l : Bool) (ch : Nat) :
    WordsAt s (s.offCell addr l ch) [F.MSH_OFFCELL_contention.off] := by
  unfold State.offCell
  extract_lets v
  have hv : WordsAt s v [F.MSH_OFFCELL_contention.off] := by
    unfold v
    split
    · exact (WordsAt.refl s _).count (by decide) 1
    · exact .refl s _
  clear_value v
  split
  · split
    · exact hv
    · exact hv.count (by decide) 1
  · exact hv

theorem State.placeOpen_words {a b : State} {n : List Nat} (h : WordsAt a b n) (l : Bool) (ch who : Nat) :
    b.placeOpen l ch who = a.placeOpen l ch who := by
  obtain ⟨io, rfl, hio, -⟩ := h
  have hw : ({ a with io := io } : State).burstWidth l = a.burstWidth l := by
    have heff : io.eff = a.io.eff := (congrArg Io.eff hio :)
    unfold State.burstWidth State.eFld Io.eFld Io.eWord
    rw [show ({ a with io := io } : State).io.eff = a.io.eff from heff]
  unfold State.placeOpen
  rw [hw]
  rfl

/-! ### A frame that is accepted (R204, R280) -/

/-- The counter record of a node in Full, and the warning of its last counters. -/
theorem State.recordCtr_full {s : State} (hfull : s.pw.mode = .full) (addr epoch ctr : Nat) : ∃ v : State,
    s.recordCtr addr epoch ctr false = (match v.ctxOfAddr addr with
      | some (k, c) => v.setCtx k { c with rec_ := true, ep := epoch, ctr := ctr }
      | none => v) ∧ { v with io := s.io } = s ∧
      ∀ off, offHif off → off ≠ F.MSH_SEC_STAT_ul_warn.off → v.word off = s.word off := by
  unfold State.recordCtr
  extract_lets v
  have hv : { v with io := s.io } = s ∧ ∀ off, offHif off → off ≠ F.MSH_SEC_STAT_ul_warn.off → v.word off = s.word off := by
    unfold v
    split
    case h_1 n _ =>
      rw [if_neg (by rw [hfull]; decide)]
      unfold State.ulWarn
      extract_lets lim before
      split
      · refine ⟨rfl, fun off hoff hne => ?_⟩
        exact (event_word _ _ _ _ hoff).trans (State.word_setFld_off _ _ _ (Ne.symm hne))
      · exact ⟨rfl, fun _ _ _ => rfl⟩
    case h_2 => exact ⟨rfl, fun _ _ _ => rfl⟩
  have hmode : v.pw.mode = .full := (congrArg (fun z : State => z.pw.mode) hv.1 :).trans hfull
  clear_value v
  rw [hmode]
  exact ⟨v, rfl, hv⟩

/-- What a keep-alive that takes a place leaves. -/
structure Accepted (s u : State) (f : RxFrame) (h : Hdr) : Prop where
  places : ∃ r, u.ml.places = s.ml.places ++ [r] ∧ r.addr = h.src ∧ r.status = 0 ∧ r.ctrEcho = h.ctr % 65536 ∧ r.ch = s.cellIndex f
  decided : u.ml.decided = s.ml.decided
  rs : u.rs = s.rs
  count : u.fld F.MSH_RX_CNT_accepted = min (s.fld F.MSH_RX_CNT_accepted + 1) (2 ^ F.MSH_RX_CNT_accepted.width - 1)
  ctx : ∀ k x, s.ctxOfAddr h.src = some (k, x) →
    ∃ y, Tbl.get? u.pt.ctx k = some y ∧ y.rec_ = true ∧ y.ep = h.epoch ∧ y.ctr = h.ctr

theorem State.noteRec_leaves (s : State) (inner : Bool) (addr ctr epoch : Nat) (dup : Bool) :
    ∃ recs, s.noteRec inner addr ctr epoch dup = { s with ml := { s.ml with recs := recs } } := by
  unfold State.noteRec
  split
  · exact ⟨s.ml.recs, rfl⟩
  · exact ⟨_, rfl⟩

theorem State.newFrame_accepted {s : State} (hfull : s.pw.mode = .full) (f : RxFrame) {h : Hdr} (htype : h.type = 4) (payload : Bytes)
    (hopen : s.placeOpen f.onL.isSome (s.cellIndex f) h.src = true) : Accepted s (s.newFrame f h payload false) f h := by
  have hcell := s.offCell_words h.src f.onL.isSome (s.cellIndex f)
  have hplace := State.placeOpen_words hcell f.onL.isSome (s.cellIndex f) h.src
  unfold State.newFrame
  extract_lets l ch r v w y
  have hr : r.addr = h.src ∧ r.status = 0 ∧ r.ctrEcho = h.ctr % 65536 ∧ r.ch = s.cellIndex f := ⟨rfl, rfl, rfl, rfl⟩
  have hadmit : v.admitFrame h payload.length = true := if_neg (by omega)
  have hv : v.placeOpen l ch h.src = true := hplace.trans hopen
  have hvw : WordsAt s v [F.MSH_OFFCELL_contention.off] := hcell
  obtain ⟨recs, hrecs⟩ := (v.takePlace r).noteRec_leaves false h.src h.ctr h.epoch false
  have hw : w = State.count { v.takePlace r with ml := { (v.takePlace r).ml with recs := recs } } F.MSH_RX_CNT_accepted := by
    unfold w
    rw [hrecs]
  rw [hadmit, hv, Bool.and_self, if_pos rfl]
  have hy : y.payloadIn h payload ch l f.rssi = y ∨ y.pw.mode ≠ .full := by
    by_cases hm : y.pw.mode = .full
    · left
      unfold State.payloadIn
      rw [if_neg (by rw [hm]; decide), if_neg (by omega), if_neg (by omega), if_neg (by omega)]
    · exact .inr hm
  have hydef : y = (w.recordCtr h.src h.epoch h.ctr false).heardU h.src l ch true false := rfl
  clear_value l ch r v w y
  obtain ⟨io, rfl, hio, hword⟩ := hvw
  have hwparts : { w with io := s.io, ml := s.ml } = s := by rw [hw]; rfl
  have hwml : w.ml = { s.ml with places := s.ml.places ++ [r], recs := recs } := by rw [hw]; rfl
  have hwcnt : w.fld F.MSH_RX_CNT_accepted = min (s.fld F.MSH_RX_CNT_accepted + 1) (2 ^ F.MSH_RX_CNT_accepted.width - 1) := by
    rw [hw]
    refine (State.fld_count_self _ _ _ (by decide)).trans ?_
    rw [show State.fld _ F.MSH_RX_CNT_accepted = s.fld F.MSH_RX_CNT_accepted from congrArg F.MSH_RX_CNT_accepted.of (hword _ (by decide))]
  have hwfull : w.pw.mode = .full := (congrArg (fun z : State => z.pw.mode) hwparts :).trans hfull
  clear hw
  obtain ⟨x, hx, hxparts, hxword⟩ := State.recordCtr_full hwfull h.src h.epoch h.ctr
  have hxml : x.ml = w.ml := (congrArg State.ml hxparts :)
  have hxpt : x.pt = s.pt := (congrArg State.pt hxparts :).trans (congrArg State.pt hwparts :)
  have hxrs : x.rs = s.rs := (congrArg State.rs hxparts :).trans (congrArg State.rs hwparts :)
  have hxcnt : x.fld F.MSH_RX_CNT_accepted = w.fld F.MSH_RX_CNT_accepted :=
    State.fld_of_word (hxword _ (by unfold offHif; decide) (by decide))
  have hxctx : x.ctxOfAddr h.src = s.ctxOfAddr h.src := by
    unfold State.ctxOfAddr
    rw [hxpt]
  generalize w.recordCtr h.src h.epoch h.ctr false = z at *
  have hz : { z with ml := x.ml, pt := x.pt, nv := x.nv } = x ∧ z.ml.places = x.ml.places ∧ z.ml.decided = x.ml.decided ∧
      ∀ k c, s.ctxOfAddr h.src = some (k, c) → ∃ v, z.ctxOfAddr h.src = some (k, v) ∧ v.rec_ = true ∧ v.ep = h.epoch ∧ v.ctr = h.ctr := by
    rw [hxctx] at hx
    cases hc : s.ctxOfAddr h.src with
    | none =>
      rw [hc] at hx
      rw [hx]
      exact ⟨rfl, rfl, rfl, fun k c hkc => nomatch hkc⟩
    | some kc =>
      obtain ⟨k, c⟩ := kc
      rw [hc] at hx
      obtain ⟨nv, hset⟩ := x.setCtx_leaves k { c with rec_ := true, ep := h.epoch, ctr := h.ctr }
      rw [hx]
      dsimp only
      rw [hset]
      refine ⟨rfl, rfl, rfl, fun k' c' hkc => ?_⟩
      obtain ⟨rfl, rfl⟩ := Prod.mk.inj (Option.some.inj hkc)
      refine ⟨_, State.ctxOfAddr_put (s := x) (hxctx.trans hc) (v := { c with rec_ := true, ep := h.epoch, ctr := h.ctr }) ?_ rfl, rfl, rfl, rfl⟩
      exact (State.ctxOfAddr_addr hc : c.addr = h.src)
  obtain ⟨hzparts, hzplaces, hzdecided, hzctx⟩ := hz
  obtain ⟨⟨conns, pt, heard, hctx⟩, -⟩ := z.heardU_leaves h.src l ch false
  rw [heard] at hydef
  have hyfull : y.pw.mode = .full := by
    rw [hydef]
    exact (congrArg (fun z : State => z.pw.mode) hzparts :).trans ((congrArg (fun z : State => z.pw.mode) hxparts :).trans hwfull)
  rw [hy.resolve_right fun hne => hne hyfull, hydef]
  have hzio : z.io = x.io := (congrArg State.io hzparts :)
  refine ⟨⟨r, ?_, hr⟩, ?_, ?_, ?_, fun k c hkc => ?_⟩
  · exact hzplaces.trans (by rw [hxml, hwml])
  · exact hzdecided.trans (by rw [hxml, hwml])
  · exact (congrArg State.rs hzparts :).trans hxrs
  · exact (congrArg (fun i : Io => i.fld F.MSH_RX_CNT_accepted) hzio).trans (hxcnt.trans hwcnt)
  · obtain ⟨v, hv, hrec, hep, hctr⟩ := hzctx k c hkc
    obtain ⟨y, hget, h1, h2, h3⟩ := hctx k v hv
    exact ⟨y, hget, h1.trans hrec, h2.trans hep, h3.trans hctr⟩

/-- What a frame without a place leaves: its DEFER receipt is owed. -/
structure Owed (s u : State) (h : Hdr) : Prop where
  places : u.ml.places = s.ml.places
  owed : ∃ r, u.ml.owed = s.ml.owed ++ [r] ∧ r.addr = h.src ∧ r.status = 2
  pt : u.pt = s.pt
  count : u.fld F.MSH_RX_CNT_accepted = s.fld F.MSH_RX_CNT_accepted

theorem State.newFrame_owed {s : State} (f : RxFrame) (h : Hdr) (payload : Bytes)
    (hopen : s.placeOpen f.onL.isSome (s.cellIndex f) h.src = false) : Owed s (s.newFrame f h payload false) h := by
  have hcell := s.offCell_words h.src f.onL.isSome (s.cellIndex f)
  have hplace := State.placeOpen_words hcell f.onL.isSome (s.cellIndex f) h.src
  unfold State.newFrame
  extract_lets l ch r v w y
  have hr : r.addr = h.src := rfl
  have hv : v.placeOpen l ch h.src = false := hplace.trans hopen
  have hvw : WordsAt s v [F.MSH_OFFCELL_contention.off] := hcell
  rw [hv, Bool.false_and, if_neg Bool.false_ne_true]
  clear_value l ch r v
  obtain ⟨io, rfl, hio, hword⟩ := hvw
  obtain ⟨-, conns, heard⟩ := (({ s with io := io } : State).oweDefer { r with aux := 0 }).heardU_leaves h.src l ch true
  rw [heard]
  refine ⟨rfl, ⟨_, rfl, hr, rfl⟩, rfl, ?_⟩
  exact (State.fld_count_off { s with io := io, ml := _ } F.MSH_RX_CNT_accepted F.MSH_DEFER_CNT_deferred 1 (by decide)).trans
    (congrArg F.MSH_RX_CNT_accepted.of (hword _ (by decide)))

/-! ### The decision (R204, R205) -/

theorem headerGood_type {p : Bytes} (h : headerGood p = true) : ((hdrOf p).type == 5) = false := by
  unfold headerGood at h
  simp only [Bool.and_eq_true, bne_iff_ne] at h
  obtain ⟨⟨⟨-, h5⟩, -⟩, -⟩ := h
  simpa using h5

/-- What stands before the decision of a frame in a U slot. -/
structure Deciding (s : State) (f : RxFrame) : Prop where
  rx : s.rs.rx = [f]
  alone : s.listens = false
  uSlot : s.ml.isD s.ml.slot = false
  running : s.flag F.MSH_STAT_running = true
  pll : s.pllA = true

theorem Deciding.decides {s : State} {f : RxFrame} (h : Deciding s f) : s.decides = true := by
  unfold State.decides
  rw [h.running, h.pll, h.uSlot]
  simp

theorem Deciding.full {s : State} {f : RxFrame} (h : Deciding s f) (hfull : s.pw.mode = .full) :
    s.frameDecision false = s.rxTaken.frameIn f false := by
  unfold State.frameDecision
  rw [State.firstFrame_one h.rx]
  dsimp only
  rw [if_pos (by rw [h.decides, hfull]; rfl), s.takeFrame_one h.rx]

theorem Deciding.dawn {s : State} {f : RxFrame} (h : Deciding s f) (hdawn : s.pw.mode = .dawn)
    (hact : s.flag F.TPL_STAT_dawn_active = true) (hload : s.tp.reload = false) :
    s.dawnFrame = s.rxTaken.dawnIn f := by
  unfold State.dawnFrame
  rw [State.firstFrame_one h.rx]
  dsimp only
  rw [if_pos (by rw [h.decides, hdawn, hact, hload]; rfl), s.takeFrame_one h.rx]

/-- A good secured frame to this unit is checked. -/
theorem State.frameIn_secured {s : State} {f : RxFrame} (halone : s.listens = false) (htr : f.truncated = false) (hfcs : f.fcsGood = true)
    (hgood : headerGood f.psdu = true) (hdst : (hdrOf f.psdu).dst = 0) (hsec : (hdrOf f.psdu).sec = true) :
    s.frameIn f false = s.securedFrame f (hdrOf f.psdu) false := by
  unfold State.frameIn
  rw [if_neg (by rw [htr]; decide), if_neg (by rw [hfcs]; decide), if_neg (by rw [headerGood_type hgood]; decide),
    if_neg (by rw [hgood]; decide)]
  dsimp only
  rw [if_neg (by rw [halone]; exact Bool.false_ne_true), if_neg (by rw [hdst]; decide), if_neg (by rw [halone]; decide), if_pos hsec]

theorem State.dawnHeard_leaves (s : State) (addr ctr : Nat) (l : Bool) (ch : Nat) (defer : Bool) :
    ∃ (conns : Tbl Conn) (pt : Pt) (tp : Tp), s.dawnHeard addr ctr l ch defer = { s with ml := { s.ml with conns := conns }, pt := pt, tp := tp } := by
  unfold State.dawnHeard
  split
  case h_1 => exact ⟨s.ml.conns, s.pt, s.tp, rfl⟩
  case h_2 k x _ =>
    dsimp only
    split
    · obtain ⟨-, conns, heq⟩ := s.heardU_leaves addr l ch defer
      exact ⟨conns, s.pt, s.tp, heq⟩
    · obtain ⟨⟨conns, pt, heq, -⟩, -⟩ := State.heardU_leaves { s with tp := { s.tp with dawn := Tbl.put s.tp.dawn k { ctr := ctr } } }
        addr l ch defer
      exact ⟨conns, pt, _, heq⟩

/-- A new keep-alive in Dawn that takes a place. -/
structure DawnDeferred (s u : State) (f : RxFrame) : Prop where
  places : ∃ r, u.ml.places = s.ml.places ++ [r] ∧ r.addr = (hdrOf f.psdu).src ∧ r.status = 2 ∧ r.aux = signedN 8 s.dawnHint
  rs : u.rs = s.rs
  io : u.io = s.io

theorem State.dawnIn_new {s : State} {f : RxFrame} {p : Bytes} (halone : s.listens = false) (htr : f.truncated = false)
    (hfcs : f.fcsGood = true) (hgood : headerGood f.psdu = true) (hdst : (hdrOf f.psdu).dst = 0) (htype : (hdrOf f.psdu).type ≠ 3)
    (hnew : s.frameCheck (hdrOf f.psdu) f.psdu = .new p) (hfirst : s.ml.decided.contains (hdrOf f.psdu).src = false)
    (hopen : s.placeOpen false (s.cellIndex f) (hdrOf f.psdu).src = true) : DawnDeferred s (s.dawnIn f) f := by
  unfold State.dawnIn
  rw [if_neg (by rw [htr]; decide), if_neg (by rw [hfcs]; decide), if_neg (by rw [headerGood_type hgood]; decide),
    if_neg (by rw [hgood]; decide)]
  dsimp only
  rw [if_neg (by rw [halone]; exact Bool.false_ne_true), if_neg (by rw [hdst]; decide), if_neg htype, hnew]
  dsimp only
  rw [if_neg (by rw [hfirst]; decide), if_neg (by rw [show (s.decide1 (hdrOf f.psdu).src).listens = false from halone]; decide)]
  have hrcpt : (s.decide1 (hdrOf f.psdu).src).dawnReceipt f (hdrOf f.psdu) = (s.decide1 (hdrOf f.psdu).src).takePlace
      (s.receiptFor f (hdrOf f.psdu).src true (hdrOf f.psdu).ctr 2 (signedN 8 s.dawnHint)) := if_pos hopen
  rw [hrcpt]
  obtain ⟨conns, pt, tp, heq⟩ := State.dawnHeard_leaves ((s.decide1 (hdrOf f.psdu).src).takePlace
    (s.receiptFor f (hdrOf f.psdu).src true (hdrOf f.psdu).ctr 2 (signedN 8 s.dawnHint))) (hdrOf f.psdu).src (hdrOf f.psdu).ctr false
    (s.cellIndex f) (!(s.decide1 (hdrOf f.psdu).src).placeOpen false (s.cellIndex f) (hdrOf f.psdu).src)
  rw [heq]
  exact ⟨⟨_, rfl, rfl, rfl, rfl⟩, rfl, rfl⟩

/-! ### The receipt burst and the D slot's receipts (R207 to R210) -/

theorem State.airCharge_leaves (s : State) (cs : List Carrier) : { s.airCharge cs with io := s.io, qm := s.qm } = s ∧
    ∀ f : Fld, f.off < 0x380000 → (s.airCharge cs).fld f = s.fld f := by
  refine ⟨State.each_const (fun z : State => { z with io := s.io, qm := s.qm }) (fun z b => ?_) (List.range 8) s,
    fun f hf => State.each_const (fun z : State => z.fld f) (fun z b => ?_) (List.range 8) s⟩
  · dsimp only
    split
    · rfl
    · split
      · rfl
      · rfl
  · dsimp only
    split
    · rfl
    · split
      · exact State.fld_count_off _ _ _ _ (by simp only [F.QMS_AIR_CNT_overdrawn]; omega)
      · rfl

/-- A valid transmission while Radio S's lock is not known waits for it (R175). -/
theorem State.txRequest_waits {s : State} {q : TxReq} (hserves : s.sServes = true) (hfree : s.rs.tx = none) (hready : s.rs.ready = none)
    (hvalid : TxReq.valid q s.grid100 = true) : ∃ j, (s.txRequest q).rs.tx = some j ∧ j.req = q ∧ j.started = false ∧
      (s.txRequest q).ml = s.ml := by
  obtain ⟨hparts, -⟩ := s.airCharge_leaves q.carriers
  have hrs : (s.airCharge q.carriers).rs = s.rs := (congrArg State.rs hparts :)
  have hml : (s.airCharge q.carriers).ml = s.ml := (congrArg State.ml hparts :)
  unfold State.txRequest
  rw [if_neg (by rw [hserves, hfree]; decide), if_neg (by rw [hvalid]; decide)]
  generalize s.airCharge q.carriers = v at *
  have hwait (j : TxJob) : ({ v with rs := { v.rs with tx := some j } } : State).txDecide = { v with rs := { v.rs with tx := some j } } := by
    unfold State.txDecide
    rw [show ({ v with rs := { v.rs with tx := some j } } : State).rs.ready = none from (congrArg Rs.ready hrs).trans hready]
  dsimp only
  rw [hwait]
  exact ⟨_, rfl, rfl, rfl, hml⟩

theorem State.pendMarks_leaves (s : State) : ∃ conns : Tbl Conn, s.pendMarks = { s with ml := { s.ml with conns := conns } } := by
  have h : { s.pendMarks with ml := { s.pendMarks.ml with conns := s.ml.conns } } = s := by
    refine State.each_const (fun z : State => { z with ml := { z.ml with conns := s.ml.conns } }) (fun z r => ?_) s.ml.places s
    split
    · obtain ⟨conns, heq⟩ := z.updConnOf_leaves r.addr fun c => { c with pendSent := true }
      rw [heq]
    · rfl
  refine ⟨s.pendMarks.ml.conns, ?_⟩
  generalize s.pendMarks = v at *
  rw [← h]

theorem State.burstOpen {s : State} (hsends : s.meshSends = true) (huslot : s.ml.isD s.ml.slot = false) (hplan : s.ml.planned = false)
    (hload : s.tp.reload = false) : ¬ (!s.meshSends || s.ml.isD s.ml.slot || s.ml.planned || s.tp.reload) = true := by
  rw [hsends, huslot, hplan, hload]
  decide

/-- The transmission that the receipts of Radio S make up. -/
def State.burstReq (s : State) : TxReq :=
  ⟨s.ml.slotAt + 20900000, s.ml.slotAt + 20900000, s.ml.slotAt + 24952000, false, true, (s.burstCarriers.filter fun c => !c.1).map (·.2)⟩

theorem State.receiptBurst_sends {s : State}
    (hopen : ¬ (!s.meshSends || s.ml.isD s.ml.slot || s.ml.planned || s.tp.reload) = true)
    (hsome : (s.burstCarriers.filter fun c => !c.1).map (·.2) ≠ []) : ∃ v : State, s.receiptBurst = v.txRequest s.burstReq ∧
      v.sServes = s.sServes ∧ v.rs = s.rs ∧ v.ml.planned = true ∧ v.grid100 = s.grid100 := by
  obtain ⟨conns, hmarks⟩ := s.pendMarks_leaves
  unfold State.receiptBurst State.burstReq
  rw [if_neg hopen, hmarks]
  extract_lets cs start ml y ml' v lh w
  have hw : w.sServes = s.sServes ∧ w.rs = s.rs ∧ w.ml.planned = true ∧ w.grid100 = s.grid100 := by
    unfold w
    split
    · exact ⟨rfl, rfl, rfl, rfl⟩
    · exact ⟨rfl, rfl, rfl, rfl⟩
  have hat : w.ml.slotAt = s.ml.slotAt := by
    unfold w
    split
    · rfl
    · rfl
  clear_value w
  refine ⟨w, ?_, hw⟩
  split
  case h_1 h => exact absurd h hsome
  case h_2 =>
    rw [hat]

/-- The plan of a D slot of Doze in which one DEFER receipt of Radio S is owed (R208, R210). -/
theorem State.planD_owed {s : State} {x : Rcpt} (hdoze : s.pw.mode = .doze) (hload : s.tp.reload = false) (hnobcn : s.beaconChannels = [])
    (howed : s.ml.owed = [x]) (hl : x.l = false) (hcan : s.canSend false x.ch = true) :
    s.planD = { st := { s with ml := { s.ml with owed := [] } }, cs := [(false, x.ch, s.rcptCarrier x false)] } := by
  have hcal : s.sCalSlot = false := by
    have h : s.fld F.SRX_STAT_cal = 0 := by
      simp only [State.canSend, Bool.and_eq_true, if_neg Bool.false_ne_true, beq_iff_eq] at hcan
      exact hcan.1.1.2
    unfold State.sCalSlot
    rw [h]
    simp
  have hbcn : Plan.beacons { st := s } = { st := s } := by
    unfold Plan.beacons
    rw [show (Plan.mk s []).st.beaconChannels = [] from hnobcn]
    rfl
  unfold State.planD
  rw [hbcn]
  dsimp only
  rw [if_neg (by rw [hload]; decide), hdoze]
  dsimp only
  unfold Plan.defers
  dsimp only
  rw [howed]
  dsimp only [List.foldl]
  unfold Plan.deferOne
  dsimp only
  rw [hl, if_neg (by rw [show ({ s with ml := { s.ml with owed := [] } } : State).sCalSlot = s.sCalSlot from rfl, hcal]; decide),
    if_pos ?_]
  · rfl
  · unfold Plan.room
    rw [show (Plan.mk ({ s with ml := { s.ml with owed := [] } } : State) []).st.canSend false x.ch = true from hcan]
    simp [Plan.of]

/-- A plan of one carrier of Radio S is requested of it. -/
theorem Plan.issue_one (s : State) (ch : Nat) (c : Carrier) : ∃ v : State,
    Plan.issue { st := s, cs := [(false, ch, c)] } = v.txRequest ⟨s.ml.slotAt + 2000000, s.ml.slotAt + 2000000, s.ml.slotAt + 20500000,
      s.eFlag F.MSH_DL_CFG_dl_cca, false, [c]⟩ ∧ v.sServes = s.sServes ∧ v.rs = s.rs ∧ v.grid100 = s.grid100 ∧ v.ml.planned = true ∧
      v.ml.owed = s.ml.owed :=
  ⟨{ s with ml := { s.ml with planned := true, bcnMoved := s.sCalSlot && (s.beaconDue || s.ml.bcnMoved) } }, rfl, rfl, rfl, rfl, rfl, rfl⟩

theorem State.dSlotTx_doze {s : State} (hsends : s.meshSends = true) (hdslot : s.ml.isD s.ml.slot = true) (hplan : s.ml.planned = false)
    (hdoze : s.pw.mode = .doze) : s.dSlotTx = (s.latchRegs dRegs).planD.issue := by
  unfold State.dSlotTx
  rw [if_neg (by rw [hsends, hdslot, hplan]; decide)]
  dsimp only
  rw [if_neg (by rw [show (s.latchRegs dRegs).pw.mode = .doze from hdoze]; decide)]

/-! ### Node receipts (R211, R212) -/

/-- A receipt of a node that awaits one frame. -/
theorem State.nodeReceipts_one {s : State} {f : RxFrame} {d : DlFrame} (hrx : s.rs.rx = [f]) (hlead : s.isShadow = false)
    (hdslot : s.ml.isD s.ml.slot = true) (htr : f.truncated = false) (hfcs : f.fcsGood = true) (hlen : f.psdu.length = 12)
    (hrcpt : Bytes.le f.psdu 0 1 % 16 = 5) (hfrom : s.ml.slotAt + 20700000 ≤ f.sfdEnd) (hto : f.sfdEnd ≤ s.ml.slotAt + 24950000)
    (hdl : s.ml.dl = [d]) (hmatch : rcptMatches f.psdu d = true) : s.nodeReceipts =
      if Bytes.le f.psdu 7 1 % 4 = 0 ∨ Bytes.le f.psdu 7 1 % 4 = 1 then s.rxTaken.confirmed d
      else if Bytes.le f.psdu 7 1 % 4 = 2 then
        State.rcptHeard { s.rxTaken with ml := { s.ml with
          dl := [{ d with waiting := false, sent := d.sent - 1, notBefore := s.now + secNs (Bytes.le f.psdu 9 1) }] } } d.dst
      else s.rxTaken := by
  have hfind : s.ml.dl.find? (rcptMatches f.psdu) = some d := by
    rw [hdl]
    exact List.find?_cons_of_pos hmatch
  have hupd (g : DlFrame → DlFrame) : s.ml.updDl d.id g = { s.ml with dl := [g d] } := by
    unfold Ml.updDl
    rw [hdl]
    simp
  unfold State.nodeReceipts
  rw [hrx]
  dsimp only
  rw [if_neg (by rw [hlead, hdslot]; decide)]
  unfold State.nodeReceipt
  dsimp only
  rw [if_neg (by rw [htr]; decide), if_neg (by rw [hfcs]; decide), if_neg (by simp [hlen, hrcpt, hfrom, hto]), hfind]
  dsimp only
  rw [hupd]
  rfl

theorem State.updConnOf_found {s : State} {addr k : Nat} {x : Conn} (hconn : s.ml.connAny addr = some (k, x))
    (hget : Tbl.get? s.ml.conns k = some x) (f : Conn → Conn) :
    s.updConnOf addr f = { s with ml := { s.ml with conns := Tbl.put s.ml.conns k (f x) } } := by
  unfold State.updConnOf
  rw [hconn]
  dsimp only
  unfold Tbl.upd
  rw [hget]

theorem State.rcptHeard_none {s : State} {addr : Nat} (hconn : s.ml.connAny addr = none) (hctx : s.ctxOfAddr addr = none) :
    s.rcptHeard addr = s := by
  unfold State.rcptHeard State.updConnOf
  rw [hconn]
  unfold State.heardCtx
  rw [hctx]

theorem State.latchRegs_sServes (s : State) (l : List Nat) : (s.latchRegs l).sServes = s.sServes ∧ (s.latchRegs l).grid100 = s.grid100 := by
  have hflag (f : Fld) : (s.latchRegs l).flag f = s.flag f := congrArg (· != 0) (s.latchRegs_fld l f)
  unfold State.sServes State.pllA State.grid100
  rw [hflag, hflag, hflag, hflag]
  exact ⟨rfl, rfl⟩

/-- Settles O49: what becomes of a frame, and the receipts that answer it. -/
theorem framesAndReceipts : Obligations.FramesAndReceipts := by
  intro t s halone hrun hpll
  refine ⟨fun f hrx huslot hfull => ⟨fun htr hfcs => ?bad, fun htr hfcs hgood hdst hsec hfirst =>
      ⟨fun p hnew htype => ⟨fun hopen => ?accepted, fun hshut => ?owed⟩, fun hreplay => ?replay⟩⟩,
    fun f p hrx huslot hdawn hact hload htr hfcs hgood hdst htype hnew hfirst hopen => ?dawn, fun i rest hinner hbad => ?malformed,
    fun i rest q hinner hok hjoin hori => ?dup, fun hsends hplan hload hserves htx hready => ⟨fun huslot => ⟨fun hnone => ?noBurst,
      fun hsome hvalid => ?burst⟩, fun hdslot hdoze x hnobcn howed hl hcan => ?dslot⟩,
    fun f d hrx hlead hdslot htr hfcs hlen hrcpt hfrom hto hdl hmatch hkind => ⟨fun hack => ?confirmed, fun hdef => ⟨fun hnc hnx => ?deferred,
      fun k x hconn hget => ?heard⟩⟩⟩
  case bad =>
    have heq := (Deciding.full (s := s.at t) ⟨hrx, halone, huslot, hrun, hpll⟩ hfull).trans ((if_neg (by rw [htr]; decide)).trans
      (if_pos (by rw [hfcs]; decide)))
    exact ⟨_, run_eq_next (f := fun s => s.frameDecision false) heq rfl, rfl, State.fld_count_self _ _ _ (by decide), rfl, rfl,
      fun off hoff => State.word_setWord_ne _ _ fun e => hoff (List.mem_singleton.mpr e.symm)⟩
  case accepted =>
    have heq := (Deciding.full (s := s.at t) ⟨hrx, halone, huslot, hrun, hpll⟩ hfull).trans
      (State.frameIn_secured halone htr hfcs hgood hdst hsec)
    have hsecured : (s.at t).rxTaken.securedFrame f (hdrOf f.psdu) false = ((s.at t).rxTaken.decide1 (hdrOf f.psdu).src).newFrame f (hdrOf f.psdu) p false := by
      unfold State.securedFrame
      rw [show (s.at t).rxTaken.frameCheck (hdrOf f.psdu) f.psdu = .new p from hnew]
      dsimp only
      rw [if_neg (by rw [show (s.at t).rxTaken.ml = s.ml from rfl, hfirst]; decide), if_neg (by rw [htype]; omega)]
    have hacc := State.newFrame_accepted (s := (s.at t).rxTaken.decide1 (hdrOf f.psdu).src) hfull f htype p hopen
    rw [← hsecured, ← heq] at hacc
    obtain ⟨⟨r, hplaces, haddr, hstatus, hctr, hch⟩, hdec, hrs, hcnt, hctx⟩ := hacc
    exact ⟨_, r, rfl, hplaces, haddr, hstatus, hctr, hch, congrArg Rs.rx hrs, hdec, hcnt, hctx⟩
  case owed =>
    have heq := (Deciding.full (s := s.at t) ⟨hrx, halone, huslot, hrun, hpll⟩ hfull).trans
      (State.frameIn_secured halone htr hfcs hgood hdst hsec)
    have hsecured : (s.at t).rxTaken.securedFrame f (hdrOf f.psdu) false = ((s.at t).rxTaken.decide1 (hdrOf f.psdu).src).newFrame f (hdrOf f.psdu) p false := by
      unfold State.securedFrame
      rw [show (s.at t).rxTaken.frameCheck (hdrOf f.psdu) f.psdu = .new p from hnew]
      dsimp only
      rw [if_neg (by rw [show (s.at t).rxTaken.ml = s.ml from rfl, hfirst]; decide), if_neg (by rw [htype]; omega)]
    have how := State.newFrame_owed (s := (s.at t).rxTaken.decide1 (hdrOf f.psdu).src) f (hdrOf f.psdu) p hshut
    rw [← hsecured, ← heq] at how
    obtain ⟨hplaces, ⟨r, howed, haddr, hstatus⟩, hpt, hcnt⟩ := how
    exact ⟨_, r, rfl, hplaces, howed, haddr, hstatus, hpt, hcnt⟩
  case replay =>
    have heq := (Deciding.full (s := s.at t) ⟨hrx, halone, huslot, hrun, hpll⟩ hfull).trans
      (State.frameIn_secured halone htr hfcs hgood hdst hsec)
    have hsecured : (s.at t).rxTaken.securedFrame f (hdrOf f.psdu) false = (s.at t).rxTaken.secFail .replay (hdrOf f.psdu).src := by
      unfold State.securedFrame
      rw [show (s.at t).rxTaken.frameCheck (hdrOf f.psdu) f.psdu = .replay from hreplay]
    obtain ⟨hparts, hreason, hcnt⟩ := (s.at t).rxTaken.replay_leaves (hdrOf f.psdu).src
    rw [← hsecured, ← heq] at hparts hreason hcnt
    exact ⟨_, rfl, (congrArg State.ml hparts :), (congrArg State.pt hparts :), hcnt, hreason⟩
  case dawn =>
    have heq := Deciding.dawn (s := s.at t) ⟨hrx, halone, huslot, hrun, hpll⟩ hdawn hact hload
    have h := State.dawnIn_new (s := (s.at t).rxTaken) halone htr hfcs hgood hdst htype hnew hfirst hopen
    rw [← heq] at h
    obtain ⟨⟨r, hplaces, haddr, hstatus, haux⟩, hrs, hio⟩ := h
    exact ⟨_, r, rfl, hplaces, haddr, hstatus, haux, congrArg Rs.rx hrs, congrArg (fun io : Io => io.fld F.TPL_DAWN_DEFER_defers) hio⟩
  case malformed =>
    have heq : (s.at t).innerCheck false = State.count { s.at t with mn := { s.mn with inner := rest } } F.MSH_LOWPAN_ERR_lowpan_err := by
      unfold State.innerCheck
      rw [show (s.at t).mn.inner = i :: rest from hinner]
      exact if_pos (by rw [hbad]; rfl)
    exact ⟨_, run_eq_next (f := fun s => s.innerCheck false) heq rfl, rfl, State.fld_count_self _ _ _ (by decide), rfl, rfl,
      fun off hoff => State.word_setWord_ne _ _ fun e => hoff (List.mem_singleton.mpr e.symm)⟩
  case dup =>
    intro block hdup
    have heq : (s.at t).innerCheck false = State.count { s.at t with mn := { s.mn with inner := rest } } F.MSH_LOWPAN_ERR_inner_dup := by
      unfold State.innerCheck
      rw [show (s.at t).mn.inner = i :: rest from hinner]
      dsimp only
      rw [if_neg (by rw [hok]; decide), if_neg (by rw [hjoin]; simp), if_neg hori]
      generalize hc : State.secCheck _ _ _ _ _ _ _ = x
      obtain rfl : x = .dup q := hc.symm.trans hdup
      rfl
    exact ⟨_, run_eq_next (f := fun s => s.innerCheck false) heq rfl, rfl, State.fld_count_self _ _ _ (by decide), rfl, rfl,
      fun off hoff => State.word_setWord_ne _ _ fun e => hoff (List.mem_singleton.mpr e.symm)⟩
  case noBurst =>
    refine run_eq_next (f := State.receiptBurst) ?_ rfl
    have hplaces : (s.at t).ml.places = [] := hnone
    have hcs : (s.at t).burstCarriers = [] := by unfold State.burstCarriers; rw [hplaces]; rfl
    have hmarks : (s.at t).pendMarks = s.at t := by unfold State.pendMarks; rw [hplaces]; rfl
    unfold State.receiptBurst
    rw [if_neg (State.burstOpen (s := s.at t) hsends huslot hplan hload), hcs, hmarks]
    rfl
  case burst =>
    obtain ⟨v, hv, hvserves, hvrs, hvplan, hgrid⟩ := State.receiptBurst_sends (s := s.at t) (State.burstOpen hsends huslot hplan hload) hsome
    obtain ⟨j, htxj, hreq, hstart, hml⟩ := State.txRequest_waits (s := v) (hvserves.trans hserves) (by rw [hvrs]; exact htx)
      (by rw [hvrs]; exact hready) (q := (s.at t).burstReq) (by rw [hgrid]; exact hvalid)
    rw [← hv] at htxj hml
    exact ⟨_, j, rfl, htxj, hreq, hstart, (congrArg Ml.planned hml).trans hvplan⟩
  case dslot =>
    intro q hvalid
    have heq := (State.dSlotTx_doze (s := s.at t) hsends hdslot hplan hdoze).trans (congrArg Plan.issue
      (State.planD_owed (s := (s.at t).latchRegs dRegs) hdoze hload hnobcn howed hl hcan))
    obtain ⟨v, hv, hvserves, hvrs, hgrid, hvplan, hvowed⟩ := Plan.issue_one
      { (s.at t).latchRegs dRegs with ml := { ((s.at t).latchRegs dRegs).ml with owed := [] } } x.ch (((s.at t).latchRegs dRegs).rcptCarrier x false)
    have heq' : (s.at t).dSlotTx = v.txRequest q := heq.trans hv
    have hlat := (s.at t).latchRegs_sServes dRegs
    obtain ⟨j, htxj, hreq, hstart, hml⟩ := State.txRequest_waits (s := v) (hvserves.trans (hlat.1.trans hserves)) (by rw [hvrs]; exact htx)
      (by rw [hvrs]; exact hready) (q := q) (by rw [hgrid]; exact (congrArg (TxReq.valid q) hlat.2).trans hvalid)
    rw [← heq'] at htxj hml
    exact ⟨_, j, rfl, htxj, hreq, (congrArg Ml.owed hml).trans hvowed, (congrArg Ml.planned hml).trans hvplan⟩
  case confirmed =>
    have heq := (State.nodeReceipts_one (s := s.at t) hrx hlead hdslot htr hfcs hlen hrcpt hfrom hto hdl hmatch).trans
      (if_pos (by omega))
    obtain ⟨v, hv⟩ : ∃ v : State, v = State.count
      { (s.at t).rxTaken with ml := { s.ml with dl := s.ml.dl.filter fun x => x.id != d.id } } F.MSH_DL_SENT_sent := ⟨_, rfl⟩
    have hconf : (s.at t).rxTaken.confirmed d = (v.rcptHeard d.dst).updatePool := by
      unfold State.confirmed
      rw [hkind, hv]
      rfl
    obtain ⟨conns, hconns⟩ := v.updConnOf_leaves d.dst fun c => { c with heard := v.now }
    obtain ⟨pt, hpt, -⟩ := State.heardCtx_leaves { v with ml := { v.ml with conns := conns } } d.dst
    have hheard : v.rcptHeard d.dst = { v with ml := { v.ml with conns := conns }, pt := pt } := by
      unfold State.rcptHeard
      rw [hconns, hpt]
    have hparts := (v.rcptHeard d.dst).updatePool_parts
    have hword := (v.rcptHeard d.dst).updatePool_word (off := F.MSH_DL_SENT_sent.off) (by decide)
    rw [← hconf, ← heq] at hparts hword
    rw [hheard] at hparts hword
    have hcnt : v.fld F.MSH_DL_SENT_sent = min (s.fld F.MSH_DL_SENT_sent + 1) (2 ^ F.MSH_DL_SENT_sent.width - 1) := by
      rw [hv]
      exact State.fld_count_self _ _ _ (by decide)
    have hvdl : v.ml.dl = [] := by
      rw [hv]
      show s.ml.dl.filter (fun x => x.id != d.id) = []
      rw [hdl]
      simp
    have hvrs : v.rs.rx = [] := by rw [hv]; rfl
    exact ⟨_, rfl, (congrArg (fun z : State => z.ml.dl) hparts :).trans hvdl, (congrArg (fun z : State => z.rs.rx) hparts :).trans hvrs,
      (State.fld_of_word hword).trans hcnt⟩
  case deferred =>
    have heq := (State.nodeReceipts_one (s := s.at t) hrx hlead hdslot htr hfcs hlen hrcpt hfrom hto hdl hmatch).trans
      ((if_neg (by omega)).trans (if_pos hdef))
    exact run_eq_next (f := State.nodeReceipts) (heq.trans (State.rcptHeard_none hnc hnx)) rfl
  case heard =>
    have heq := (State.nodeReceipts_one (s := s.at t) hrx hlead hdslot htr hfcs hlen hrcpt hfrom hto hdl hmatch).trans
      ((if_neg (by omega)).trans (if_pos hdef))
    obtain ⟨v, hv⟩ : ∃ v : State, v = { (s.at t).rxTaken with ml := { s.ml with dl := [{ d with
      waiting := false, sent := d.sent - 1, notBefore := (s.at t).now + secNs (Bytes.le f.psdu 9 1) }] } } := ⟨_, rfl⟩
    have hfound := State.updConnOf_found (s := v) (addr := d.dst) (by rw [hv]; exact hconn) (by rw [hv]; exact hget)
      fun c => { c with heard := v.now }
    obtain ⟨pt, hpt, -⟩ := State.heardCtx_leaves { v with ml := { v.ml with conns := Tbl.put v.ml.conns k { x with heard := v.now } } } d.dst
    have hheard : v.rcptHeard d.dst = { v with ml := { v.ml with conns := Tbl.put v.ml.conns k { x with heard := v.now } }, pt := pt } := by
      unfold State.rcptHeard
      rw [hfound, hpt]
    rw [hv] at hheard
    refine ⟨_, run_eq_next (f := State.nodeReceipts) (heq.trans hheard) rfl, rfl, rfl, Tbl.get?_put_self _ _ _, rfl⟩

end Sys2Proof.Machine
end

-- ==== Admissions and the timers of the mesh ====
section
/-!
SUPPORT. An answer to a joiner is one queued frame; a known node is granted its own address.
-/

namespace Sys2Proof.Machine

open Instr

/-! ### An answer to a joiner is queued (R241, R242) -/

/-- The counter that an answer to a joiner advances. -/
def JoinReq.counted (r : JoinReq) (result : Nat) : Fld :=
  if r.reattach then if result = 0 then F.MSH_REATT_CNT_reattached else F.MSH_REATT_CNT_refused
  else if result = 0 then F.MSH_JOIN_CNT_admitted else F.MSH_JOIN_CNT_refused

theorem respPayload_result (reattach : Bool) (result addr hint eui : Nat) (rec_ : Bytes) :
    Bytes.le (respPayload reattach result addr hint eui rec_) 1 1 = result % 256 := by
  simp [Bytes.le, Bytes.slice, respPayload, toLE, leNat]

/-- Where no frame is queued, an answer is the one frame, and its counter advances. -/
theorem State.respond_leaves {s : State} (r : JoinReq) (result addr hint : Nat) (par : Option ConnPar) (hlead : s.isShadow = false)
    (hdl : s.ml.dl = []) :
    ∃ d : DlFrame, s.respond r result addr hint par =
        { s with io := s.io.count (r.counted result) 1, ml := { s.ml with dl := [d], dlId := s.ml.dlId + 1 } } ∧
      d.kind = .joinResp r.eui ∧ Bytes.le d.payload 1 1 = result % 256 ∧
      ∀ p, r.route = [] → par = some p → d.dst = addr ∧ d.par = some p ∧
        d.payload = respPayload r.reattach result addr hint r.eui (p.record r.l.toNat) := by
  unfold State.respond
  extract_lets v id ml w x rec_ d
  have hv : v = s := by
    unfold v State.dropUnsent
    rw [hdl]
    show ({ s with ml := { s.ml with dl := [] } } : State) = s
    rw [← hdl]
  have hd : d.kind = .joinResp r.eui ∧ Bytes.le d.payload 1 1 = result % 256 ∧
      ∀ p, r.route = [] → par = some p → d.dst = addr ∧ d.par = some p ∧
        d.payload = respPayload r.reattach result addr hint r.eui (p.record r.l.toNat) := by
    unfold d
    unfold rec_
    cases hroute : r.route with
    | nil => exact ⟨rfl, respPayload_result .., fun p _ hp => ⟨rfl, hp, by rw [hp]; rfl⟩⟩
    | cons a l => exact ⟨rfl, respPayload_result .., fun _ h => nomatch h⟩
  clear_value d v
  subst hv
  refine ⟨d, ?_, hd⟩
  have hx : x = { v with io := v.io.count (r.counted result) 1, ml := { v.ml with dlId := v.ml.dlId + 1 } } := by
    unfold x w ml id JoinReq.counted
    cases r.reattach
    · rfl
    · rfl
  clear_value x
  subst hx
  have hlead' : ({ v with io := v.io.count (r.counted result) 1, ml := { v.ml with dlId := v.ml.dlId + 1 } } : State).isShadow = false :=
    hlead
  rw [if_neg (by rw [hlead']; exact Bool.false_ne_true)]
  show ({ v with io := v.io.count (r.counted result) 1, ml := { v.ml with dlId := v.ml.dlId + 1, dl := v.ml.dl ++ [d] } } : State) = _
  rw [hdl]
  rfl

/-- A refusal is an answer with its result. -/
theorem State.refuseJoin_leaves {s : State} (r : JoinReq) (result : Nat) (hlead : s.isShadow = false) (hdl : s.ml.dl = []) :
    ∃ (d : DlFrame) (io : Io), s.refuseJoin r result =
        { s with io := io, ml := { s.ml with dl := [d], dlId := s.ml.dlId + 1 } } ∧
      d.kind = .joinResp r.eui ∧ Bytes.le d.payload 1 1 = result % 256 := by
  obtain ⟨d, hd, hkind, hres, -⟩ := (s.latchRegs [F.MSH_JOIN_CFG_retry_hint.off]).respond_leaves r result 0
    ((s.latchRegs [F.MSH_JOIN_CFG_retry_hint.off]).eFld F.MSH_JOIN_CFG_retry_hint) none hlead hdl
  exact ⟨d, _, hd, hkind, hres⟩

/-! ### A known node is admitted (R241) -/

theorem State.changed_leaves (s : State) (table op c dest : Nat) (key : Bytes) :
    HostOnly s (s.changed table op (some c) dest key) [(F.PCT_SEQ_seq table).off] ∧
      (s.changed table op (some c) dest key).now = s.now := by
  have hseq := (s.seqNext_leaves table).hostOnly
  unfold State.changed
  dsimp only
  split
  · exact ⟨hseq, rfl⟩
  · unfold State.tableEvent
    split
    · exact ⟨hseq, rfl⟩
    · exact ⟨hseq.event _ _, rfl⟩

/-- The context of a known node that joins with a request. -/
def Ctx.joined (c : Ctx) (r : JoinReq) : Ctx := { c.caps r.caps with rec_ := true, ep := r.epoch, ctr := r.fc, hit := true }

/-- The grant of a node that has its context and its address. -/
theorem State.grant_known {s : State} {r : JoinReq} {n : Nat} {c : Ctx} (par : Option ConnPar) (hknown : s.ctxOfEui r.eui = some (n, c))
    (haddr : c.addr ≠ 0) (hjoin : r.reattach = false) (hroute : r.route = []) :
    s.grant r par = ((s.setCtx n (c.joined r)).changed 0 1 (some 2) 0 (toLE 8 r.eui)).respond r 0 c.addr 0 par := by
  have hget : Tbl.get? s.pt.ctx n = some c := by
    unfold State.ctxOfEui at hknown
    obtain ⟨m, -, hm⟩ := Option.bind_eq_some_iff.1 hknown
    obtain ⟨x, hx, heq⟩ := Option.map_eq_some_iff.1 hm
    cases heq
    exact hx
  have hgetD (d : Ctx) : Tbl.getD s.pt.ctx n d = c := by
    unfold Tbl.getD
    rw [hget]
    rfl
  unfold State.grant
  rw [hknown]
  dsimp only
  rw [hgetD, if_pos haddr, if_pos rfl, hgetD, hjoin, hroute]
  rfl

/-- What the admission of a known node leaves. -/
structure Admitted (s u : State) (r : JoinReq) (n : Nat) (c : Ctx) (d : DlFrame) : Prop where
  mn : u.mn = s.mn
  dl : u.ml.dl = [d]
  ctx : u.pt.ctx = Tbl.put s.pt.ctx n (c.joined r)
  cnt : u.fld F.MSH_JOIN_CNT_admitted = min (s.fld F.MSH_JOIN_CNT_admitted + 1) (2 ^ F.MSH_JOIN_CNT_admitted.width - 1)
  now : u.now = s.now
  pending : u.pending = s.pending

theorem State.grant_leaves {s : State} {r : JoinReq} {n : Nat} {c : Ctx} {p : ConnPar} (hknown : s.ctxOfEui r.eui = some (n, c))
    (haddr : c.addr ≠ 0) (hjoin : r.reattach = false) (hroute : r.route = []) (hlead : s.isShadow = false) (hdl : s.ml.dl = []) :
    ∃ d : DlFrame, Admitted s (s.grant r (some p)) r n c d ∧ d.kind = .joinResp r.eui ∧ d.dst = c.addr ∧ d.par = some p ∧
      d.payload = respPayload false 0 c.addr 0 r.eui (p.record r.l.toNat) := by
  rw [State.grant_known (some p) hknown haddr hjoin hroute]
  obtain ⟨nv, hset⟩ := s.setCtx_leaves n (c.joined r)
  obtain ⟨⟨hparts, hwords⟩, hnow⟩ := (s.setCtx n (c.joined r)).changed_leaves 0 1 2 0 (toLE 8 r.eui)
  generalize (s.setCtx n (c.joined r)).changed 0 1 (some 2) 0 (toLE 8 r.eui) = v at *
  generalize s.setCtx n (c.joined r) = w at *
  subst hset
  have hcnt : v.fld F.MSH_JOIN_CNT_admitted = s.fld F.MSH_JOIN_CNT_admitted :=
    State.fld_of_word (a := s) (hwords _ (by unfold offHif; decide) (by decide))
  have htw := congrArg State.tw hparts
  have hml := congrArg State.ml hparts
  have hpt := congrArg State.pt hparts
  have hmn := congrArg State.mn hparts
  have hpend := congrArg State.pending hparts
  dsimp only at htw hml hpt hmn hpend hnow
  have hlead' : v.isShadow = false := by
    unfold State.isShadow at hlead ⊢
    rwa [htw]
  obtain ⟨d, hd, hkind, -, hpar⟩ := v.respond_leaves r 0 c.addr 0 (some p) hlead' (by rw [hml]; exact hdl)
  obtain ⟨hdst, hp, hpay⟩ := hpar p hroute rfl
  rw [hd]
  have hcounted : r.counted 0 = F.MSH_JOIN_CNT_admitted := by
    unfold JoinReq.counted
    rw [hjoin]
    rfl
  refine ⟨d, ⟨hmn, rfl, by rw [hpt], ?_, hnow, hpend⟩, hkind, hdst, hp, by rw [hpay, hjoin]⟩
  rw [hcounted, ← hcnt]
  exact v.fld_count_self F.MSH_JOIN_CNT_admitted 1 (by decide)

/-- The admission of a known node that the coordinator hears itself. -/
theorem State.admission_direct {s v w : State} {o : ConnOp} {r : JoinReq} {n : Nat} {c : Ctx} {p : ConnPar} (hjoins : s.mn.joins = [r])
    (hlead : s.isShadow = false) (hfull : s.pw.mode = .full) (hroute : r.route = []) (hknown : s.ctxOfEui r.eui = some (n, c))
    (hv : v = s.latchRegs [F.MSH_JOIN_CFG_policy.off]) (hw : w = { v with mn := { s.mn with joins := [] } })
    (hoff : v.offered r o = some p) :
    s.admission o =
      if c.deny = true then w.refuseJoin r 2
      else if r.reattach = true then
        if (Tbl.firstFree w.ml.conns 0 16384).isNone ∧ c.conn.isNone then w.refuseJoin r 1
        else w.grant r (some p)
      else if r.approved.isNone ∧ w.eFld F.MSH_JOIN_CFG_policy = 2 then w.askHost r
      else match w.admitRoom r (r.approved.getD 0) with
        | some res => w.refuseJoin r res
        | none => w.grant r (some p) := by
  subst hv
  unfold State.admission
  rw [hjoins]
  dsimp -zeta only
  rw [if_neg (by rw [hlead, hfull]; simp)]
  extract_lets v' par mn w' known pol
  have hpar : par = some p := by
    unfold par
    rw [hroute]
    exact hoff
  clear_value par
  subst hpar
  rw [if_neg (by simp)]
  have hk : known = some (n, c) := hknown
  obtain rfl : w = w' := hw
  clear_value known w'
  subst hk
  rw [hroute]
  simp only [Option.any_some, List.isEmpty_nil, true_and, Option.bind_some, Option.isNone_some, Bool.false_eq_true, and_false, if_false]
  rfl

/-! ### The mesh's timers (R243, R254, R262, R281) -/

theorem State.joinDeadline_late {s : State} {p : PendJoin} {tok : Nat} (hp : s.mn.pend = [p]) (htok : p.token = tok)
    (hlate : s.joinLate p = true) :
    s.joinDeadline tok = State.refuseJoin { s with mn := { s.mn with pend := [], past := (tok, p.issued) :: s.mn.past } } p.req 3 := by
  unfold State.joinDeadline
  rw [hp]
  simp [htok, hlate]

theorem State.joinDeadline_early {s : State} {p : PendJoin} {tok : Nat} (hp : s.mn.pend = [p]) (hlate : s.joinLate p = false) :
    s.joinDeadline tok = s := by
  unfold State.joinDeadline
  rw [hp]
  by_cases h : p.token = tok
  · simp [h, hlate]
  · simp [h]

/-- The length of a list is that of what a bound keeps and of what it drops. -/
theorem length_filter_lt_le {α : Type} (f : α → Nat) (n : Nat) (l : List α) :
    (l.filter fun r => decide (f r ≤ n)).length = l.length - (l.filter fun r => decide (n < f r)).length := by
  have h := List.length_eq_length_filter_add (l := l) fun r => decide (n < f r)
  have hnot : (l.filter fun r => !decide (n < f r)) = l.filter fun r => decide (f r ≤ n) := by
    refine List.filter_congr fun r _ => ?_
    rw [← decide_not]
    exact decide_eq_decide.2 (not_lt (a := n))
  rw [hnot] at h
  omega

/-- What the end of a window of MIC failures leaves. -/
structure MicCounted (s u : State) : Prop where
  ms : u.ms = { s.ms with micCount := 0, micAddr := 0, micEnd := (s.rt.sec / 60 + 1) * 60 }
  told : s.fld F.MSH_SEC_CFG_mic_evt ≠ 0 → s.fld F.MSH_SEC_CFG_mic_evt ≤ s.ms.micCount → u.fld F.MSH_SEC_STAT_mic_evt = 1
  quiet : s.fld F.MSH_SEC_CFG_mic_evt = 0 ∨ s.ms.micCount < s.fld F.MSH_SEC_CFG_mic_evt → u.io = s.io
  frame : HostOnly { s with ms := u.ms } u [F.MSH_SEC_STAT_mic_evt.off]
  now : u.now = s.now
  pending : u.pending = s.pending

theorem State.micWindowEnd_leaves (s : State) : MicCounted s s.micWindowEnd := by
  unfold State.micWindowEnd
  extract_lets n lim v ms
  have hv : v = if lim ≠ 0 ∧ lim ≤ n then (s.secEvent 1 s.ms.micAddr n).setFld F.MSH_SEC_STAT_mic_evt 1 else s := by
    unfold v
    simp
  clear_value v
  by_cases hevt : lim ≠ 0 ∧ lim ≤ n
  · rw [if_pos hevt] at hv
    have hms : ms = s.ms := by
      unfold ms
      rw [hv]
      rfl
    have hrt : v.rt = s.rt := by rw [hv]; rfl
    clear_value ms
    subst hms
    have hone : v.fld F.MSH_SEC_STAT_mic_evt = 1 := by
      rw [hv, State.fld_setFld_self _ _ _ (by decide)]
      rfl
    have hframe : HostOnly s v [F.MSH_SEC_STAT_mic_evt.off] := by
      rw [hv]
      exact ((HostOnly.refl s _).event _ _).setFld (List.mem_singleton_self _) _
    refine ⟨by rw [hrt], fun _ _ => hone, fun h => absurd hevt (by unfold lim n; omega), ?_, by rw [hv]; rfl, by rw [hv]; rfl⟩
    obtain ⟨hparts, hwords⟩ := hframe
    refine ⟨?_, hwords⟩
    show ({ v with io := s.io, now := s.now, ms := _ } : State) = _
    rw [hv]
    rfl
  · rw [if_neg hevt] at hv
    subst hv
    exact ⟨rfl, fun h1 h2 => absurd ⟨h1, h2⟩ hevt, fun _ => rfl, ⟨rfl, fun _ _ _ => rfl⟩, rfl, rfl⟩

/-- Settles O50: admissions and the timers of the mesh. -/
theorem joinsAndMeshTimers : Obligations.JoinsAndMeshTimers := by
  intro t o s
  refine ⟨fun r n c hjoins hlead hfull hroute hknown hdl => ?admission, fun p tok hp htok hlead hdl => ⟨fun hlate => ?late, fun hlate => ?early⟩,
    rfl, ?frag, fun hend => ?mic⟩
  case admission =>
    intro v p hoff
    obtain ⟨w, hw⟩ : ∃ w : State, w = { v with mn := { s.mn with joins := [] } } := ⟨_, rfl⟩
    have hadm := State.admission_direct (s := s.at t) hjoins hlead hfull hroute hknown rfl hw hoff
    refine ⟨fun hdeny => ?_, fun hdeny hjoin happ hpol haddr hroom => ?_⟩
    · rw [if_pos hdeny, hw] at hadm
      obtain ⟨d, io, hd, hkind, hres⟩ := State.refuseJoin_leaves (s := { v with mn := { s.mn with joins := [] } }) r 2 hlead hdl
      exact ⟨_, d, run_eq_next (f := fun s => s.admission o) (hadm.trans hd) rfl, rfl, rfl, hkind, hres, rfl⟩
    · have hpol' : w.eFld F.MSH_JOIN_CFG_policy = 0 := by
        rw [← hpol, hw]
        exact (Io.eFld_latchReg_self s.io (by decide)).trans (s.latchRegs_fld [F.MSH_JOIN_CFG_policy.off] F.MSH_JOIN_CFG_policy).symm
      have hroom' : w.admitRoom r (r.approved.getD 0) = none := by rw [happ, hw]; exact hroom
      have hgrant : (s.at t).admission o = w.grant r (some p) := by
        rw [hadm, if_neg (by rw [hdeny]; decide), if_neg (by rw [hjoin]; decide), if_neg (by rw [hpol']; simp), hw]
        rw [hw] at hroom'
        generalize hg : State.admitRoom _ r (r.approved.getD 0) = x
        obtain rfl : x = none := hg.symm.trans hroom'
        rfl
      obtain ⟨d, h, hkind, hdst, hpar, hpay⟩ := State.grant_leaves (s := w) (r := r) (n := n) (c := c) (p := p) (hw ▸ hknown) haddr hjoin
        hroute (hw ▸ hlead) (hw ▸ hdl)
      refine ⟨w.grant r (some p), d, c.joined r, run_eq_next (f := fun s => s.admission o) hgrant (h.pending.trans (by rw [hw]; rfl)), ?_,
        h.dl, hkind, hdst, hpar, hpay, ?_, rfl, rfl, rfl, rfl, ?_⟩
      · rw [h.mn, hw]
      · rw [h.ctx]
        exact Tbl.get?_put_self _ _ _
      · rw [h.cnt, hw]
        exact congrArg (fun x => min (x + 1) _) (s.latchRegs_fld [F.MSH_JOIN_CFG_policy.off] F.MSH_JOIN_CNT_admitted)
  case late =>
    obtain ⟨d, io, hd, hkind, hres⟩ := State.refuseJoin_leaves
      (s := { s.at t with mn := { s.mn with pend := [], past := (tok.toNat, p.issued) :: s.mn.past } }) p.req 3 hlead hdl
    exact ⟨_, d, run_eq_next (f := fun s => s.joinDeadline tok.toNat) ((State.joinDeadline_late (s := s.at t) hp htok hlate).trans hd) rfl, rfl, rfl, hres⟩
  case early =>
    exact run_eq_next (f := fun s => s.joinDeadline tok.toNat) (State.joinDeadline_early (s := s.at t) hp hlate) rfl
  case frag =>
    intro lim
    have hlim : secNs (max 1 ((s.at t).fld F.MSH_FRAG_CFG_timeout_s)) = lim := Nat.mul_comm _ _
    have hlen := length_filter_lt_le (fun r : Reasm => r.started + lim) (max s.now t) s.mn.frags
    obtain ⟨u, hu⟩ : ∃ u : State, u = (s.at t).fragTimeout := ⟨_, rfl⟩
    have hrun := hu
    unfold State.fragTimeout at hu
    dsimp only at hu
    rw [hlim] at hu
    refine ⟨u, run_eq_next (f := State.fragTimeout) hrun.symm (by rw [hu]; rfl), by rw [hu]; rfl, ?_, ?_⟩
    · rw [hu]
      refine (State.fld_count_self _ F.MSH_FRAG_CNT_timed_out _ (by decide)).trans ?_
      exact congrArg (fun n => min (s.fld F.MSH_FRAG_CNT_timed_out + n) _) hlen
    · rw [hu]
      exact (RegsOnly.at _ t _).count (List.mem_singleton_self _) _
  case mic =>
    obtain ⟨u, hu⟩ : ∃ u : State, u = (s.at t).micWindowEnd := ⟨_, rfl⟩
    have h := hu ▸ (s.at t).micWindowEnd_leaves
    refine ⟨u, ?_, h.ms, h.told, h.quiet, ⟨?_, h.frame.2⟩⟩
    · refine run_eq_next (f := fun s : State => if s.ms.micEnd ≤ s.rt.sec then s.micWindowEnd else s) ?_ h.pending
      rw [hu]
      exact if_pos hend
    · exact (congrArg (fun z : State => { z with now := s.now }) h.frame.1 :)

end Sys2Proof.Machine
end

-- ==== The ring of a deferred letter (10_key_vault) ====
section
/-!
SUPPORT. A counterexample: the final completion of a letter whose ring number is above 63.
-/

namespace Sys2Proof.Machine

/-! ### The final completion of a letter settles the ring that it names

`Io.settle` clears the active bit of the ring of a deferred command at the offset that its number gives, and a state may
hold a deferred command of a ring number above 63, whose offset lies in the registers of another block. -/

/-- A letter deferred by the ring number whose status word would be the word 0x070010 of the vault. -/
def farLetter : Dfr := { sq := 3968, idx := 0, gen := 0, tag := 0, opcode := 0x0201, key := 1 }

/-- A decommissioned unit with one letter, which step 1 refuses (R310), and that word not 0. -/
def letterOfFarRing : State :=
  let s := (State.reset.setFld F.CLK_STAT_a_lock 1).setWord 0x070010 1
  { s with
    kv := { s.kv with ready := true, letters := [{ key := 1, opcode := 0x0201, len := 0, data := [] }] }
    nv := { s.nv with lifecycle := 2 }
    io := { s.io with hf := { s.io.hf with deferred := [farLetter] } } }

theorem exec_letterProcess_farRing : (match exec (.letterProcess 0 true true) letterOfFarRing with
    | .next u => u.word 0x070010 == 0 | _ => false) = true := by decide +kernel

theorem letterOfFarRing_refused : letterOfFarRing.letterCheck { key := 1, opcode := 0x0201, len := 0, data := [] } =
    some (1, stUNSUPPORTED) := rfl

/-- Refutes O52: the completion of a refused letter whose ring number is above 63 clears a bit of a word outside the host
interface. -/
theorem not_vaultCommandsAndLetters : ¬ Obligations.VaultCommandsAndLetters := by
  intro h
  obtain ⟨-, hprocess⟩ := h 0 nopOfRxPost letterOfFarRing
  obtain ⟨-, hrefused, -⟩ := hprocess _ [] rfl rfl (by decide +kernel)
  obtain ⟨u, hu, -, -, -, -, -, -, hwords⟩ := hrefused 1 stUNSUPPORTED letterOfFarRing_refused true true
  have hkept : u.word 0x070010 = 1 := hwords 0x070010 (by unfold offHif; decide) (by decide)
  have hzero := exec_letterProcess_farRing
  rw [hu] at hzero
  dsimp only at hzero
  rw [hkept] at hzero
  exact absurd hzero (by decide)

end Sys2Proof.Machine
end

-- ==== Wi-Fi commands (12_wifi_access) ====
section
/-!
SUPPORT. What the Wi-Fi commands of one record, a management frame and a channel switch answer and leave.
-/

namespace Sys2Proof.Machine

open Instr

/-! ### Wi-Fi commands on one record (R363 to R368) -/

theorem Bool.toNat_beq_one (h : Bool) : (h.toNat == 1) = h := by
  cases h
  · rfl
  · rfl

theorem length_toLE (n v : Nat) : (toLE n v).length = n := by
  induction n generalizing v with
  | zero => rfl
  | succ n ih => exact congrArg (· + 1) (ih (v / 256))

/-- The record of a BSS that WLN_BSS_SET gives. -/
def bssOf (b : Bytes) (now : Nat) : Bss :=
  { mld := b.le 3 1, bssid := b.le 4 6, ssid := Bytes.slice b 18 (b.le 10 1), flags := b.le 11 1, bcnInt := b.le 12 2, dtim := b.le 14 1,
    cipher := b.le 15 1, maxClients := b.le 16 2, tbtt := nextTbtt now (b.le 12 2) }

theorem State.bssSet_first {s : State} {b : Bytes} {h : Bool} (hh : b.le 0 1 = h.toNat) (hzero : Bytes.zero (Bytes.slice b 50 13) = true)
    (hop : b.le 2 1 = 0) (hn : b.le 1 1 = 0) (hmld : b.le 3 1 = 0xFF) (hssid : b.le 10 1 ≤ 32) (hflags : b.le 11 1 ≤ 7)
    (hint : 15 ≤ b.le 12 2) (hint' : b.le 12 2 ≤ 1000) (hdtim : b.le 14 1 ≠ 0) (hc : 1 ≤ b.le 15 1) (hc' : b.le 15 1 ≤ 4)
    (hm : 1 ≤ b.le 16 2) (hm' : b.le 16 2 ≤ 512) :
    s.bssSet b = { status := stOK, st := { s with wl := { s.wl with bss := Tbl.put s.wl.bss (bssKey h 0) (bssOf b s.now) } } } := by
  have hlt := h.toNat_lt
  unfold State.bssSet
  dsimp only
  rw [if_neg (by rw [hzero]; simp; omega), if_neg (by omega), if_neg (by rw [hmld]; simp; omega), hh, hn, Bool.toNat_beq_one]
  rfl

theorem State.bssSet_delete {s : State} {b : Bytes} {h : Bool} (hh : b.le 0 1 = h.toNat) (hzero : Bytes.zero (Bytes.slice b 50 13) = true)
    (hop : b.le 2 1 = 1) (hn : 1 ≤ b.le 1 1) (hn' : b.le 1 1 ≤ 15) :
    s.bssSet b = { status := stOK, st := { s with wl := { s.wl with bss := Tbl.del s.wl.bss (bssKey h (b.le 1 1)) } } } := by
  have hlt := h.toNat_lt
  unfold State.bssSet
  dsimp only
  rw [if_neg (by rw [hzero]; simp; omega), if_pos hop, if_neg (by omega), hh, Bool.toNat_beq_one]

theorem State.clientSet_unknown {s : State} {b : Bytes} (hzero : Bytes.zero (Bytes.slice b 24 7) = true)
    (hnone : s.clientMld (b.le 0 6) = none) (hop : b.le 6 1 = 2) : s.clientSet b = { status := stBAD_ARG, st := s } := by
  unfold State.clientSet
  dsimp only
  rw [if_neg (by rw [hzero]; simp; omega), if_pos hop, hnone]

/-- The client of Radio L alone that a record creates. -/
def newClientOf (b : Bytes) : Client :=
  { mld := b.le 0 6, links := 1, caps := 0, flags := b.le 23 1, l := some { addr := b.le 8 6, bss := b.le 20 1 } }

theorem State.clientSet_create {s : State} {b : Bytes} {x : Bss} {k : Nat} (hzero : Bytes.zero (Bytes.slice b 24 7) = true)
    (hnone : s.clientMld (b.le 0 6) = none) (hop : b.le 6 1 = 0) (hlinks : b.le 7 1 = 1) (hcaps : b.le 22 1 = 0) (hflags : b.le 23 1 ≤ 3)
    (hbl : b.le 20 1 ≤ 15) (hx : s.bss false (b.le 20 1) = some x) (hcnt : s.bssCnt false (b.le 20 1) < x.maxClients)
    (haddr : s.clientAt false (b.le 8 6) = none) (hcap : s.linkCnt < 1024) (hlen : s.wl.clients.length < 512)
    (hk : Tbl.firstFree s.wl.clients 0 512 = some k) :
    s.clientSet b = { status := stOK, st := s.setClient k (newClientOf b) } := by
  unfold State.clientSet
  extract_lets mld op links bl bh caps flags bad old l h k0 taken c0 wl others full
  have hl : l = true := congrArg (bitN · 0) hlinks
  have hh : h = false := congrArg (bitN · 1) hlinks
  have hlinksOf : clientLinks links caps = (true, false) := by
    unfold links caps
    rw [hlinks, hcaps]
    rfl
  have hold : old = none := hnone
  have hk0 : k0 = none := congrArg (Option.map (·.1)) hnone
  have htaken : taken false (b.le 8 6) = false := by
    unfold taken
    rw [haddr]
  have hothers : s = others := by
    unfold others wl
    rw [hk0]
  have hc0 : c0 = { mld := mld, links := 0, caps := 0, flags := 0 } := by
    unfold c0
    rw [hold]
  have hfull : full false true bl = false ∧ full true false bh = false := by
    unfold full
    rw [← hothers, show s.bss false bl = some x from hx]
    exact ⟨decide_eq_false (by unfold bl; omega), rfl⟩
  have hrsv : bitsN links 6 2 = 0 := congrArg (bitsN · 6 2) hlinks
  clear_value l h k0 others c0 old
  subst hl hh hk0 hothers hc0 hold
  rw [if_neg (by rw [hzero]; simp; omega), if_neg (by omega), if_neg (by rw [hrsv]; simp; omega),
    if_neg (by rw [show s.bss false bl = some x from hx]; simp), if_neg (by rw [htaken]; simp; omega), hlinksOf]
  dsimp only
  rw [if_neg (by rw [hfull.1, hfull.2]; simp; omega)]
  simp only [Option.orElse_none, hk]
  unfold newClientOf links caps
  rw [hlinks, hcaps]
  rfl

/-- The key that WLN_KEY_SET installs where no earlier record counts and the key is not for sending yet. -/
def installedKey (b : Bytes) : WKey :=
  { target := b.le 0 6, kind := b.le 7 1, id := b.le 8 1, cipher := b.le 9 1, txUse := false, key := Bytes.slice b 32 32, pn := b.le 12 6,
    lease := b.le 12 6 + 65536, start := b.le 12 6 }

/-- A key takes the place of the one of its target, kind and number, and its lease is recorded. -/
def State.withKey (s : State) (k : WKey) : State := { s with
  wl := { s.wl with keys := (s.wl.keys.filter fun x => !x.same k.target k.kind k.id) ++ [k] }
  nv := { s.nv with pnRecs := (s.nv.pnRecs.filter fun x => !x.same k.target k.kind k.id) ++ [⟨k.target, k.kind, k.id, k.lease⟩] } }

theorem WKey.same_self (k : WKey) : k.same k.target k.kind k.id = true := by simp [WKey.same]

theorem State.wkey_withKey (s : State) (k : WKey) : (s.withKey k).wkey k.target k.kind k.id = some k := by
  have hnone : (s.wl.keys.filter fun x => !x.same k.target k.kind k.id).find? (fun x => x.same k.target k.kind k.id) = none := by
    rw [List.find?_eq_none]
    intro x hx
    simpa using (List.mem_filter.1 hx).2
  show List.find? _ (_ ++ [k]) = some k
  rw [List.find?_append, hnone]
  simp [WKey.same_self]

theorem State.keySet_install {s : State} {b : Bytes} (hlead : s.isShadow = false) (hzero : Bytes.zero (Bytes.slice b 18 14) = true)
    (hrsv : b.le 11 1 = 0) (hflags : b.le 10 1 = 0) (hid : keyIdOk (b.le 7 1) (b.le 8 1) = true) (hop : b.le 6 1 = 0)
    (hc : keyCipherOk (b.le 7 1) (b.le 9 1) (Bytes.slice b 32 32) = true) (hfits : s.keyFits (b.le 0 6) (b.le 7 1) (b.le 9 1) = true) :
    s.keySet b = { status := stOK, st := s.withKey (installedKey b) } := by
  unfold State.keySet
  dsimp only
  rw [if_neg (by rw [hid, hzero]; simp; omega), if_pos hop, if_neg (by rw [hc, hfits]; simp)]
  unfold State.keyInstall
  rw [hflags]
  dsimp only
  rw [show bitN 0 0 = false from rfl, show bitN 0 1 = false from rfl, hlead]
  rfl

theorem State.keySet_unknown {s : State} {b : Bytes} (hzero : Bytes.zero (Bytes.slice b 18 14) = true) (hrsv : b.le 11 1 = 0)
    (hflags : b.le 10 1 = 0) (hid : keyIdOk (b.le 7 1) (b.le 8 1) = true) (hop : b.le 6 1 = 1)
    (hnone : s.wkey (b.le 0 6) (b.le 7 1) (b.le 8 1) = none) : s.keySet b = { status := stBAD_ARG, st := s } := by
  unfold State.keySet
  dsimp only
  rw [if_neg (by rw [hid, hzero]; simp; omega), if_neg (by omega), if_pos (by rw [hnone]; rfl)]

theorem State.clientGet_known {s : State} {b : Bytes} {k : Nat} {x : Client} (hx : s.clientMld (b.le 0 6) = some (k, x)) :
    ∃ out : Bytes, s.clientGet b = { status := stOK, st := s, writes := [(6, out)] } ∧ out.length = 25 ∧
      out.take 3 = toLE 1 x.links ++ toLE 1 x.caps ++ toLE 1 x.flags := by
  unfold State.clientGet
  rw [hx]
  refine ⟨_, rfl, ?_, rfl⟩
  simp only [List.length_append, length_toLE]

/-! ### WLN_MGMT_TX and WLN_CHAN_SWITCH (R367) -/

/-- The state behind a management frame that is accepted: it is the last of its radio's queue, and its command waits. -/
def State.mgmtQueued (s : State) (c : Cmd) (h : Bool) : State :=
  let d : Dfr :=
    { sq := c.sq.val, idx := s.io.hf.serial - 1, gen := c.gen.toNat, tag := c.tag.toNat, opcode := 0x0304, key := s.wl.mgmtKey + 1 }
  ({ s with
    wl := { s.wl with mgmtKey := s.wl.mgmtKey + 1 }
    io := { s.io with hf := { s.io.hf with deferred := s.io.hf.deferred ++ [d] } } }).addPpdu h
    { kind := .mgmt, data := c.rd.take (c.f 8 2), dur := 0, key := some (s.wl.mgmtKey + 1), wait := c.f 12 1 == 1 }

theorem State.deferredKey_append {s : State} {l : List Dfr} (d : Dfr) (h : s.io.hf.deferred = l ++ [d]) :
    s.deferredKey d.opcode d.key ≠ none := by
  unfold State.deferredKey
  rw [h]
  simp

theorem State.mgmtQueued_queue (s : State) (c : Cmd) (h : Bool) :
    ∃ p : Ppdu, p.kind = .mgmt ∧ p.data = c.rd.take (c.f 8 2) ∧ p.key = some (s.wl.mgmtKey + 1) ∧
      ((s.mgmtQueued c h).radio h).queue = (s.radio h).queue ++ [p] := by
  unfold State.mgmtQueued State.addPpdu
  rw [(State.radio_setRadio _ h _).1]
  exact ⟨_, rfl, rfl, rfl, rfl⟩

theorem State.mgmtQueued_waits (s : State) (c : Cmd) (h : Bool) : (s.mgmtQueued c h).io.out = s.io.out ∧
    (s.mgmtQueued c h).deferredKey 0x0304 (s.wl.mgmtKey + 1) ≠ none ∧ (s.mgmtQueued c h).pending = s.pending := by
  refine ⟨rfl, State.deferredKey_append (l := s.io.hf.deferred) { sq := _, idx := _, gen := _, tag := _, opcode := 0x0304, key := _ } rfl, rfl⟩

theorem State.mgmtTx_accepted {s : State} {c : Cmd} {h : Bool} (halign : c.f 0 8 % 32 = 0) (hmin : 24 ≤ c.f 8 2) (hmax : c.f 8 2 ≤ 2304)
    (hh : c.f 10 1 = h.toNat) (hn : c.f 11 1 ≤ 15) (hwait : c.f 12 1 ≤ 1) (hzero : c.zero 13 11 = true) (hbss : s.bss h (c.f 11 1) ≠ none)
    (herr : c.rdErr = none) (hlead : s.isShadow = false) : s.mgmtTx c = { status := none, st := s.mgmtQueued c h } := by
  have hlt := h.toNat_lt
  have hread : c.readFails (c.f 8 2) = none := by unfold Cmd.readFails; rw [herr]
  unfold State.mgmtTx
  dsimp only
  rw [hh, Bool.toNat_beq_one, if_neg (by rw [hzero]; simp [Option.isNone_iff_eq_none, hbss]; omega), hread]
  dsimp only
  rw [hlead]
  rfl

theorem State.found_wifiOn (s : State) (t : Nat) (c : Cmd) (h : Bool) : (s.found t c).wifiOn h = (s.at t).wifiOn h := by
  have hfld (f : Fld) (hf : f.off < 0x050000 ∨ 0x060000 ≤ f.off) : (s.found t c).fld f = (s.at t).fld f := s.found_fld t c (by have := c.sq.isLt; omega)
  have heff : (s.found t c).fld (radioEff h) = (s.at t).fld (radioEff h) := hfld _ (by cases h <;> decide)
  have hcal : (s.found t c).fld (F.LRX_STAT_cal.on h) = (s.at t).fld (F.LRX_STAT_cal.on h) := hfld _ (by cases h <;> decide)
  unfold State.wifiOn State.lhServes State.calBusy
  rw [heff, hcal]
  rfl

theorem State.chanSwitch_announced {s : State} {c : Cmd} {h : Bool} (hh : c.f 0 1 = h.toNat) (hz : c.zero 2 2 = true)
    (hz' : c.zero 10 14 = true) (hp : c.f 8 2 = 0) (hchan : chanOk h (BitVec.ofNat 32 (c.f 4 4)) = true) (hlead : s.isShadow = false)
    (hnone : (s.radio h).switch = none) (hon : s.wifiOn h = true) (hbss : s.bss h 0 ≠ none) (hcnt : 1 ≤ c.f 1 1) :
    s.chanSwitch c = Reply.defer (s.setRadio h { s.radio h with switch := some (BitVec.ofNat 32 (c.f 4 4), 0, c.f 1 1 + 1) }) h.toNat := by
  have hlt := h.toNat_lt
  have hsome : (s.bss h 0).isSome = true := Option.isSome_iff_ne_none.2 hbss
  have hpunct (w : Word) : punctOk w 0 = true := rfl
  unfold State.chanSwitch
  dsimp only
  rw [hp, hh, Bool.toNat_beq_one, if_neg (by rw [hz, hz', hchan, hpunct]; simp; omega),
    if_neg (by rw [hlead]; exact Bool.false_ne_true), hnone, if_neg (by simp), hon, hsome]
  simp only [Bool.and_self, if_true]
  rw [if_neg (by omega)]

/-- A command on one record that leaves the Wi-Fi tables and the stored records. -/
theorem wifiCommand_answered {s : State} {t op size statusAt most : Nat} {c : Cmd} {b : Bytes} {f : State → Bytes → BlockReply}
    {wl : Wl} {nv : Nv} (hready : Ready s c .command) (hfull : s.pw.mode = .full) (hop : op ∈ opcodes) (hb : OneBlock c size 10 b)
    (hmost : 1 ≤ most) (hf : f (s.found t c) b = { status := stOK, st := { s.found t c with wl := wl, nv := nv } }) :
    ∃ u, run t s (ringRun op .command c fun s => blockRun c size statusAt 10 s f most) = .next u ∧
      Answered s u c stOK [(c.f 0 8 + statusAt, toLE 1 stOK)] ∧ u.wl = wl ∧ u.nv = nv ∧ HostOnly { s with wl := u.wl, nv := u.nv } u [] := by
  obtain ⟨u, hu, hans, hho, io, heq, -⟩ := blockCommand_answered (w := { s with wl := wl, nv := nv }) (l := []) (all := false) hready hfull hop hb hmost
    hf (by decide) (.refl _) rfl rfl ⟨rfl, (HostOnly.found s t c []).2⟩
  have hwl : u.wl = wl := congrArg State.wl heq
  have hnv : u.nv = nv := congrArg State.nv heq
  exact ⟨u, hu, hans, hwl, hnv, by rw [hwl, hnv]; exact hho⟩

/-- A command that keeps its own completion: its rules' state, with nothing put out. -/
theorem ringCommand_silent {s v : State} {t op : Nat} {c : Cmd} {h : State → Reply} (hready : Ready s c .command)
    (hfull : s.pw.mode = .full) (hop : op ∈ opcodes) (hr : h (s.found t c) = { status := none, st := v }) (hq : v.pending = s.pending) :
    run t s (ringRun op .command c h) = .next v := by
  have hsq := c.sq.isLt
  obtain ⟨hfetch, -, hgen, hflags, hkind, hfail⟩ := hready
  refine run_eq_next ?_ hq
  have hgen' := hgen.trans (s.found_fld t c (f := F.HIF_GEN_gen) (by simp only [F.HIF_GEN_gen]; omega)).symm
  have hkind' := (s.found_fld t c (f := F.HIF_SQ_CFG_kind c.sq.val) (by simp only [F.HIF_SQ_CFG_kind]; omega)).trans hkind
  rw [ringRun_fetched hfetch fun hdoze => absurd (hfull.symm.trans hdoze) (by decide),
    checked_passes (kind := .command) hgen' hflags hop hkind' (by rw [show (s.found t c).pw.mode = .full from hfull]; rfl), hr]
  unfold deliver
  rw [hfail]
  rfl

/-- Settles O53: the Wi-Fi commands on one record. -/
theorem wifiCommands : Obligations.WifiCommands := by
  intro t c h b s hready hfull hlead
  refine ⟨fun hb hh hzero => ⟨fun hop hn hmld hssid hflags hint hint' hdtim hc hc' hm hm' => ?bss, fun hop hn hn' => ?noBss⟩,
    fun hb hzero hnone => ⟨fun hop => ?noClient, fun x k hop hlinks hcaps hflags hbl hx hcnt haddr hcap hlen hk => ?client⟩,
    fun hb hzero hrsv hflags hid => ⟨fun hop hc hfits => ?key, fun hop hnone => ?noKey⟩,
    fun halign hmin hmax hh hn hwait hzero hbss herr => ?mgmt, fun hh hz hz' hp hchan hnone hon hbss hcnt => ?switch,
    fun hb => ⟨fun hnone => ?unknown, fun k x hx => ?get⟩⟩
  case bss =>
    have hf := State.bssSet_first (s := s.found t c) hh hzero hop hn hmld hssid hflags hint hint' hdtim hc hc' hm hm'
    obtain ⟨u, hu, hans, hwl, hnv, hho⟩ := wifiCommand_answered (t := t) (statusAt := 63) (most := 64) (nv := s.nv) hready hfull
      (by decide : 0x0301 ∈ opcodes) hb (by decide) hf
    refine ⟨u, bssOf b (max s.now t), hu, hans, ?_, rfl, rfl, rfl, rfl, by rwa [hnv] at hho⟩
    unfold State.bss
    rw [hwl]
    exact Tbl.get?_put_self _ _ _
  case noBss =>
    have hf := State.bssSet_delete (s := s.found t c) hh hzero hop hn hn'
    obtain ⟨u, hu, hans, hwl, hnv, hho⟩ := wifiCommand_answered (t := t) (statusAt := 63) (most := 64) (nv := s.nv) hready hfull
      (by decide : 0x0301 ∈ opcodes) hb (by decide) hf
    refine ⟨u, hu, hans, ?_, by rwa [hnv] at hho⟩
    unfold State.bss
    rw [hwl]
    exact Tbl.get?_del_self _ _
  case noClient =>
    have hf := State.clientSet_unknown (s := s.found t c) hzero hnone hop
    obtain ⟨u, hu, hho, hans⟩ := blockCommand_reads (t := t) (statusAt := 31) (most := 64) (all := false) hready hfull
      (by decide : 0x0302 ∈ opcodes) hb (by decide) hf (by decide)
    exact ⟨u, hu, hans, hho⟩
  case client =>
    have hf := State.clientSet_create (s := s.found t c) hzero hnone hop hlinks hcaps hflags hbl hx hcnt haddr hcap hlen hk
    obtain ⟨u, hu, hans, hwl, hnv, hho⟩ := wifiCommand_answered (t := t) (statusAt := 31) (most := 64) (nv := s.nv) hready hfull
      (by decide : 0x0302 ∈ opcodes) hb (by decide) hf
    refine ⟨u, newClientOf b, hu, hans, ?_, rfl, rfl, rfl, rfl, by rwa [hnv] at hho⟩
    rw [hwl]
    exact Tbl.get?_put_self _ _ _
  case key =>
    have hf := State.keySet_install (s := s.found t c) hlead hzero hrsv hflags hid hop hc hfits
    obtain ⟨u, hu, hans, hwl, hnv, hho⟩ := wifiCommand_answered (t := t) (statusAt := 63) (most := 64) hready hfull
      (by decide : 0x0303 ∈ opcodes) hb (by decide) hf
    refine ⟨u, installedKey b, hu, hans, ?_, rfl, rfl, rfl, ?_, hho⟩
    · refine Eq.trans ?_ ((s.found t c).wkey_withKey (installedKey b))
      unfold State.wkey
      rw [hwl]
      rfl
    · rw [hnv]
      exact List.mem_append_right _ (List.mem_singleton_self _)
  case noKey =>
    have hf := State.keySet_unknown (s := s.found t c) hzero hrsv hflags hid hop hnone
    obtain ⟨u, hu, hho, hans⟩ := blockCommand_reads (t := t) (statusAt := 63) (most := 64) (all := false) hready hfull
      (by decide : 0x0303 ∈ opcodes) hb (by decide) hf (by decide)
    exact ⟨u, hu, hans, hho⟩
  case mgmt =>
    have hr := State.mgmtTx_accepted (s := s.found t c) halign hmin hmax hh hn hwait hzero hbss herr hlead
    obtain ⟨p, hkind, hdata, hkey, hqueue⟩ := (s.found t c).mgmtQueued_queue c h
    obtain ⟨hio, hwait, hpend⟩ := (s.found t c).mgmtQueued_waits c h
    exact ⟨_, p, ringCommand_silent (t := t) (h := fun s => s.mgmtTx c) hready hfull (by decide : 0x0304 ∈ opcodes) hr hpend, hqueue,
      hkind, hdata, hkey, hio, hwait⟩
  case switch =>
    obtain ⟨r, hradio⟩ : ∃ r, r = { s.radio h with switch := some (BitVec.ofNat 32 (c.f 4 4), 0, c.f 1 1 + 1) } := ⟨_, rfl⟩
    have hr : State.chanSwitch (s.found t c) c = Reply.defer ((s.found t c).setRadio h r) h.toNat := by
      rw [hradio]
      exact State.chanSwitch_announced (s := s.found t c) hh hz hz' hp hchan hlead hnone ((s.found_wifiOn t c h).trans hon) hbss hcnt
    obtain ⟨u, hu, hdef, hho, heq⟩ := ringCommand_deferred (t := t) (h := fun s => s.chanSwitch c) (v := s.setRadio h r) (l := [])
      hready (by decide : 0x0305 ∈ opcodes) (by rw [hfull]; rfl) (fun hdoze => absurd (hfull.symm.trans hdoze) (by decide)) hr rfl
      (.refl _) rfl rfl rfl rfl ⟨rfl, (HostOnly.found s t c []).2⟩
    have hlh : u.lh = (s.setRadio h r).lh := (congrArg State.lh hho.1 :)
    refine ⟨u, hu, hdef, ?_, ?_⟩
    · rw [← hradio, ← (s.radio_setRadio h r).1]
      unfold State.radio
      rw [hlh]
    · rw [hlh]
      exact hho
  case unknown =>
    have hf : State.clientGet (s.found t c) b = { status := stBAD_ARG, st := s.found t c } := by
      unfold State.clientGet
      rw [show (s.found t c).clientMld _ = none from hnone]
    obtain ⟨u, hu, hho, hans⟩ := blockCommand_reads (t := t) (statusAt := 31) (most := 64) (all := true) hready hfull
      (by decide : 0x0306 ∈ opcodes) hb (by decide) hf (by decide)
    exact ⟨u, hu, hho, hans⟩
  case get =>
    obtain ⟨out, hf, hlen, htake⟩ := State.clientGet_known (s := s.found t c) hx
    obtain ⟨u, hu, hho, hans⟩ := blockCommand_reads (t := t) (statusAt := 31) (most := 64) (all := true) hready hfull
      (by decide : 0x0306 ∈ opcodes) hb (by decide) hf (by decide)
    exact ⟨u, out, hu, hho, hlen, htake, hans⟩

end Sys2Proof.Machine
end

-- ==== A client table out of order (12_wifi_access) ====
section
/-!
SUPPORT. A counterexample: what a received frame tells of its client may add a record of it.
-/

namespace Sys2Proof.Machine

/-! ### What a received frame tells of its client, in a table that is not in order

The buffer counts the MPDUs that wait in retry (R416, R417).  `Tbl.put` leaves one record of a client only where the table
is in order: behind a larger number it adds a second one, and the retry of the client then counts twice. -/

/-- An authorised client of Radio L, with 30,000 cells in retry. -/
def fullClient : Client :=
  { mld := 9, links := 1, caps := 0, flags := 1, l := some { addr := 7, bss := 0 }
    retry := [{ client := 0, tid := 0, keyId := none, pn := 0, pkt := { src := .wifi 0 false, data := [], cells := 30000, charge := .shared } }] }

/-- Its pairwise key. -/
def fullClientKey : WKey := { target := 9, kind := 0, id := 0, cipher := 1, txUse := true, key := [], pn := 0, lease := 65536, start := 0 }

/-- Radio L serves Wi-Fi in Full, and the record of client 0 stands behind that of client 1. -/
def unorderedClients : State :=
  { State.reset with
    io := { State.reset.io with regs := [(0x010004, 0x00020000#32), (0x200004, 1#32)] }
    pw := { State.reset.pw with mode := .full }
    wl := { clients := [(1, { mld := 8, links := 0, caps := 0, flags := 0 }), (0, fullClient)], keys := [fullClientKey] } }

/-- A protected frame of client 0 with PN 1. -/
def clientFrame : WRx :=
  { h := false, src := 7, dst := 0, tid := 0, keyId := some 0, pn := 1, micOk := true, pm := false, frame := [], rssi := 0, buf := none
    clip := false, step := false }

/-- Whether a PN has been received under the key. -/
def pnHeard (u : State) : Bool := ((u.wkey 9 0 0).bind fun k => Tbl.get? k.rx 0).isSome

theorem exec_wifiDataRx_unordered : (match exec (.wifiDataRx 0 clientFrame 0) unorderedClients with
    | .next u => pnHeard u | _ => true) = false := by decide +kernel

theorem unorderedClients_serves : (unorderedClients.at 0).wlnLatch false |>.wifiOn false := by decide +kernel

theorem unorderedClients_admits : (unorderedClients.latchRegs admRegs).admitWifi 0 (cellsOf 0) = true := by decide +kernel

/-- Refutes O55: a frame that there is room for is refused, as what it tells of its client doubles the client's record. -/
theorem not_wifiReceptionAndLeases : ¬ Obligations.WifiReceptionAndLeases := by
  intro h
  obtain ⟨hdata, -⟩ := h 0 unorderedClients (by decide)
  obtain ⟨-, hknown⟩ := hdata clientFrame unorderedClients_serves
  obtain ⟨-, hkey⟩ := hknown 0 fullClient rfl
  obtain ⟨-, -, hadmit⟩ := hkey 0 rfl rfl
  obtain ⟨u, k, hu, hk, hpn, -⟩ := hadmit fullClientKey rfl rfl rfl unorderedClients_admits
  have hno := exec_wifiDataRx_unordered
  rw [hu] at hno
  have hyes : pnHeard u = true := by
    unfold pnHeard
    rw [show u.wkey 9 0 0 = some k from hk]
    exact Option.isSome_iff_exists.2 ⟨_, hpn⟩
  exact absurd (hyes.symm.trans hno) (by decide)

end Sys2Proof.Machine
end

-- ==== The ring of a deferred activation (18_update_rescue) ====
section
/-!
SUPPORT. A counterexample: the completion of an activation whose ring number is above 63.
-/

namespace Sys2Proof.Machine

/-! ### The final completion of UPD_ACTIVATE names its ring by a word of the ring's registers

The completion ring of a submission ring is read at the offset that the ring's number gives, and a state may hold a
deferred command of a ring number above 63, whose offset lies in the registers of another block. -/

/-- An activation deferred by the ring number whose configuration word would be `PCT_SEQ_2`. -/
def farActivate : Dfr := { sq := 87937, idx := 0, gen := 0, tag := 0, opcode := 0x0803 }

/-- The pause of that activation, while the host is reachable. -/
def farPause : State :=
  { State.reset with
    io := { State.reset.io with
      regs := [(0x050000, 1#32), (0x300028, 0x00040000#32)]
      hf := { State.reset.io.hf with busMaster := true, deferred := [farActivate] } }
    pw := { State.reset.pw with trans := some .pause }
    up := { State.reset.up with job := some (.activate false .pause) } }

/-- The completions that are held name another completion ring, and nothing has been written to the host. -/
def toldElsewhere (u : State) : Bool :=
  (u.io.hf.cqHeld.all fun p => p.1 != 1) && u.io.out.all fun o => match o with
    | .dma _ _ => false
    | _ => true

theorem exec_activationLoadDone_farPause : (match exec (.activationLoadDone 0 true [] ⟨false, false, false⟩) farPause with
    | .next u => toldElsewhere u | _ => false) = true := by decide +kernel

theorem toldElsewhere_not {u : State} {cpl : Cpl} (h : toldElsewhere u = true) :
    ¬ ((1, cpl) ∈ u.io.hf.cqHeld ∨ ∃ a head phase, Out.dma a (cpl.bytes head ++ [phase]) ∈ u.io.out) := by
  obtain ⟨hheld, hout⟩ := Bool.and_eq_true_iff.1 h
  rintro (hmem | ⟨a, head, phase, hmem⟩)
  · exact absurd (List.all_eq_true.1 hheld _ hmem) (by simp)
  · exact absurd (List.all_eq_true.1 hout _ hmem) Bool.false_ne_true

/-- Refutes O59: the rebuild of the tables clears the word that the ring of the deferred UPD_ACTIVATE is taken to name its
completion ring in, so the completion goes to another one. -/
theorem not_updatesAndRescue : ¬ Obligations.UpdatesAndRescue := by
  intro h
  obtain ⟨-, -, -, -, -, -, -, hpause, -, -⟩ := h 0 nopOfRxPost ⟨false, false, false⟩ farPause
  obtain ⟨hload, -⟩ := hpause rfl false []
  obtain ⟨⟨u, hu, -, -, -, -, -, -, htold⟩, -⟩ := hload rfl
  have hno := exec_activationLoadDone_farPause
  rw [hu] at hno
  exact toldElsewhere_not hno (htold farActivate ⟨rfl, rfl⟩ (by decide +kernel) rfl)

end Sys2Proof.Machine
end

-- ==== Wi-Fi exchanges begin (12_wifi_access) ====
section
/-!
SUPPORT. What each exchange puts in the queue of its radio.
-/

namespace Sys2Proof.Machine

open Instr

/-! ### The latches of Wi-Fi, and the queue of a radio -/

/-- The enables of Wi-Fi that take effect between transmissions change no word. -/
theorem State.wlnLatch_leaves (s : State) (h : Bool) :
    ∃ io : Io, s.wlnLatch h = { s with io := io } ∧ ∀ off, io.word off = s.io.word off := by
  unfold State.wlnLatch
  split
  · exact ⟨s.io, rfl, fun _ => rfl⟩
  · exact ⟨_, rfl, fun _ => rfl⟩

/-- A PPDU joins the queue of one radio, and the other radio keeps its own. -/
theorem State.addPpdu_joins {s u : State} (h : Bool) (p : Ppdu) (hq : (u.radio h).queue = (s.radio h).queue)
    (hother : u.radio (!h) = s.radio (!h)) :
    ((u.addPpdu h p).radio h).queue = (s.radio h).queue ++ [p] ∧ (u.addPpdu h p).radio (!h) = s.radio (!h) := by
  obtain ⟨hself, hrest⟩ := u.radio_setRadio h { u.radio h with queue := (u.radio h).queue ++ [p] }
  exact ⟨(congrArg Radio.queue hself).trans (congrArg (· ++ [p]) hq), hrest.trans hother⟩

/-! ### Probe requests and beacons (R341) -/

theorem State.probe_answered {s : State} {h : Bool} {src : Nat} {b : Bss} (hon : (s.wlnLatch h).wifiOn h = true)
    (hlead : s.isShadow = false) (hb : s.bss h 0 = some b) (hid : bitN b.flags 0 = false) :
    s.probe h src [] = (s.wlnLatch h).addPpdu h { kind := .answer, data := toBE 6 src, dur := 0 } := by
  obtain ⟨io, hr, -⟩ := s.wlnLatch_leaves h
  unfold State.probe
  extract_lets r hit
  have hlead' : r.isShadow = false := (congrArg State.isShadow hr).trans hlead
  have hb' : r.bss h 0 = some b := (congrArg (State.bss · h 0) hr).trans hb
  have hhit : hit = true := List.any_eq_true.mpr ⟨0, by decide, by rw [hb']; simp [hid]⟩
  exact if_neg (by rw [hhit, hlead', show r.wifiOn h = true from hon]; decide)

/-- The next TBTT of BSS 0. -/
def State.nextBeacon (s : State) (h : Bool) (b : Bss) : State :=
  { s with wl := { s.wl with bss := Tbl.put s.wl.bss (bssKey h 0) { b with tbtt := nextTbtt s.now b.bcnInt } } }

/-- What a radio sends at a TBTT. -/
def Radio.beacon (r : Radio) : Ppdu :=
  { kind := if (match r.switch with | some (_, _, _ + 2) => true | _ => false) then .csa else .beacon, dur := 0 }

theorem State.tbtt_beacon {s : State} {h : Bool} {b : Bss} (hon : (s.wlnLatch h).wifiOn h = true)
    (hlead : s.isShadow = false) (hb : s.bss h 0 = some b) (hdue : b.tbtt ≤ s.now) (hq : (s.radio h).queue = [])
    (hsw : (s.radio h).switch = none) :
    s.tbtt h = ((s.wlnLatch h).nextBeacon h b).addPpdu h { kind := .beacon, dur := 0 } := by
  obtain ⟨io, hr, -⟩ := s.wlnLatch_leaves h
  obtain ⟨r, hdef⟩ : ∃ r, r = s.wlnLatch h := ⟨_, rfl⟩
  have hb' : r.bss h 0 = some b := by rw [hdef, hr]; exact hb
  have hdue' : ¬ r.now < b.tbtt := by rw [hdef, hr]; exact Nat.not_lt.mpr hdue
  have hq' : (r.radio h).queue = [] := by rw [hdef, hr]; exact hq
  have hsw' : (r.radio h).switch = none := by rw [hdef, hr]; exact hsw
  have hlead' : r.isShadow = false := by rw [hdef, hr]; exact hlead
  have hradio : (r.nextBeacon h b).radio h = r.radio h := rfl
  have hgo : ¬ (!r.wifiOn h || r.isShadow || (r.radio h).queue.any fun p => p.kind == .beacon || p.kind == .csa) = true := by
    rw [hdef, hon, ← hdef, hlead', hq']; decide
  unfold State.tbtt State.addPpdu
  rw [← hdef, hradio]
  simp only [hb']
  rw [if_neg hdue']
  refine (if_neg hgo).trans ?_
  show (r.nextBeacon h b).setRadio h { r.radio h with queue := (r.radio h).beacon :: (r.radio h).queue } = _
  rw [hq', show (r.radio h).beacon = { kind := .beacon, dur := 0 } by unfold Radio.beacon; rw [hsw']; rfl]
  rfl

/-! ### Target wake time (R354) -/

theorem State.twtSetup_accepted {s : State} {q : TwtReq} {k : Nat} {c : Client} {x : Twt}
    (hon : (s.wlnLatch q.h).wifiOn q.h = true) (hlead : s.isShadow = false) (hat : s.clientAt q.h q.src = some (k, c))
    (hc : Tbl.get? s.wl.clients k = some c) (hans : (s.wlnLatch q.h).twtAnswer q c = (0, some x)) :
    s.twtSetup q = ((s.wlnLatch q.h).setClient k { c with twts := c.twts ++ [x] }).addPpdu q.h
      { kind := .answer, users := [k], data := toLE 1 0 ++ (toLE 4 x.interval ++ toLE 4 x.dur ++ toLE 8 x.start), dur := 0 } := by
  obtain ⟨io, hr, -⟩ := s.wlnLatch_leaves q.h
  obtain ⟨r, hdef⟩ : ∃ r, r = s.wlnLatch q.h := ⟨_, rfl⟩
  have hat' : r.clientAt q.h q.src = some (k, c) := by rw [hdef, hr]; exact hat
  have hc' : Tbl.get? r.wl.clients k = some c := by rw [hdef, hr]; exact hc
  have hlead' : r.isShadow = false := by rw [hdef, hr]; exact hlead
  unfold State.twtSetup
  rw [← hdef] at hon hans ⊢
  dsimp only
  rw [if_neg (by rw [hon, hlead']; decide), hat']
  dsimp only
  rw [hc']
  dsimp only
  rw [hans]
  rfl

theorem State.onLink_known {s : State} {h : Bool} {k : Nat} {c : Client} (f : WLink → WLink)
    (hc : Tbl.get? s.wl.clients k = some c) : s.onLink h k f = s.setClient k (c.setLink h ((c.link h).map f)) := by
  unfold State.onLink
  rw [hc]

theorem Client.link_setLink (c : Client) (h : Bool) (x : Option WLink) : (c.setLink h x).link h = x := by cases h <;> rfl

theorem State.get?_setClient (s : State) (k : Nat) (c : Client) : Tbl.get? (s.setClient k c).wl.clients k = some c :=
  Tbl.get?_put_self _ _ _

theorem State.twtStart_untriggered {s : State} {k i : Nat} {c : Client} {a : Twt} {l : WLink}
    (hc : Tbl.get? s.wl.clients k = some c) (ha : c.twts[i]? = some a) (hl : c.link a.h = some l) (hdue : a.start ≤ s.now)
    (htrig : a.trigger = false) {p : Nat} (hp : p = max 1 (usNs a.interval)) : ∃ y : Client,
      Tbl.get? (s.twtStart k i).wl.clients k = some y ∧
      y.link a.h = some { l with sp := some (a.start + (s.now - a.start) / p * p + usNs a.dur) } ∧
      { s.twtStart k i with wl := s.wl } = s := by
  unfold State.twtStart
  rw [hc]
  dsimp only
  rw [ha]
  dsimp only
  rw [if_neg (Nat.not_lt.mpr hdue), htrig, ← hp, State.onLink_known _ (State.get?_setClient s k _)]
  refine ⟨_, State.get?_setClient _ _ _, (Client.link_setLink _ _ _).trans ?_, rfl⟩
  exact congrArg (Option.map fun l : WLink =>
    { l with sp := some (a.start + (s.now - a.start) / p * p + usNs a.dur) }) hl

/-! ### Triggers and sounding (R349, R350) -/

theorem State.schedLatch_leaves (s : State) :
    ∃ io : Io, s.schedLatch = { s with io := io } ∧ ∀ f, io.fld f = s.io.fld f :=
  ⟨_, rfl, fun f => s.latchRegs_fld _ f⟩

/-- Whether an exchange fits does not turn on when the next trigger is due. -/
theorem State.fits_setRadio (s : State) (h : Bool) (r : Radio) (dur : Nat) : (s.setRadio h r).fits h dur = s.fits h dur := by
  cases h <;> rfl

theorem State.bsrpTrigger_sent {s : State} {h : Bool} {dur : Nat} (hon : (s.wlnLatch h).wifiOn h = true)
    (hlead : s.isShadow = false) (hdue : (s.radio h).bsrpAt ≤ s.now)
    (hfits : (s.wlnLatch h).schedLatch.fits h dur = true) :
    ∃ (p : Ppdu) (at_ : Nat), s.now + 1000000 ≤ at_ ∧ p.kind = .bsrp ∧ p.users = [] ∧ p.dur = dur ∧
      s.bsrpTrigger h dur [] =
        ((s.wlnLatch h).schedLatch.setRadio h { s.radio h with bsrpAt := at_ }).addPpdu h p := by
  obtain ⟨io, hr, -⟩ := s.wlnLatch_leaves h
  obtain ⟨r, hdef⟩ : ∃ r, r = s.wlnLatch h := ⟨_, rfl⟩
  have hnow : r.now = s.now := by rw [hdef, hr]
  have hradio : r.radio h = s.radio h := by rw [hdef, hr]; rfl
  have hlead' : r.isShadow = false := by rw [hdef, hr]; exact hlead
  unfold State.bsrpTrigger
  rw [← hdef] at hon hfits ⊢
  dsimp only
  rw [if_neg (by rw [hon, hlead', hnow, hradio]; simpa using hdue), State.fits_setRadio, if_neg (by rw [hfits]; decide), hradio]
  exact ⟨_, _, Nat.add_le_add (Nat.le_of_eq hnow.symm) (Nat.mul_le_mul (Nat.le_max_left 1 _) (Nat.le_refl 1000000)),
    rfl, by simp, rfl, rfl⟩

theorem State.sounding_sent {s : State} {dur k : Nat} {c : Client} (hon : (s.wlnLatch true).wifiOn true = true)
    (hlead : s.isShadow = false) (hdue : (s.radio true).soundAt ≤ s.now) (hone : s.wl.clients = [(k, c)])
    (hcap : bitN c.caps 4 = true) (hlink : c.h ≠ none) :
    ∃ at_ : Nat, s.now + 5000000 ≤ at_ ∧ s.sounding dur =
      ((s.wlnLatch true).schedLatch.setRadio true { s.radio true with soundAt := at_ }).addPpdu true
        { kind := .sounding, users := [k], dur := dur } := by
  obtain ⟨io, hr, -⟩ := s.wlnLatch_leaves true
  obtain ⟨r, hdef⟩ : ∃ r, r = s.wlnLatch true := ⟨_, rfl⟩
  have hnow : r.now = s.now := by rw [hdef, hr]
  have hradio : r.radio true = s.radio true := by rw [hdef, hr]; rfl
  have hlead' : r.isShadow = false := by rw [hdef, hr]; exact hlead
  have hone' : r.wl.clients = [(k, c)] := by rw [hdef, hr]; exact hone
  unfold State.sounding
  rw [← hdef] at hon ⊢
  dsimp only
  rw [if_neg (by rw [hon, hlead', hnow, hradio]; simpa using hdue), hradio]
  obtain ⟨at_, hat⟩ : ∃ n, n = r.schedLatch.now + msNs (max 5 (r.schedLatch.eFld F.WLN_SCHED_TIME_sound_ms)) := ⟨_, rfl⟩
  have husers : ((r.schedLatch.setRadio true { s.radio true with soundAt := at_ }).wl.clients.filter
      fun p : Nat × Client => bitN p.2.caps 4 && p.2.h.isSome).map (·.1) = [k] := by
    show (r.wl.clients.filter _).map _ = _
    rw [hone', List.filter_cons_of_pos (by rw [hcap, Option.isSome_iff_ne_none.mpr hlink]; rfl)]
    rfl
  rw [← hat, husers]
  refine ⟨at_, ?_, rfl⟩
  rw [hat]
  exact Nat.add_le_add (Nat.le_of_eq hnow.symm) (Nat.mul_le_mul (Nat.le_max_left 5 _) (Nat.le_refl 1000000))

/-! ### A TXOP of one client (R348) -/

theorem State.pnStall_unkeyed {s : State} {c : Client} (h : s.txKey c.mld = none) : s.pnStall c = s := by
  unfold State.pnStall
  rw [h]

theorem State.dlUsers_single {s : State} {x : Txop} {k : Nat} {c : Client} (hc : Tbl.get? s.wl.clients k = some c)
    (hhe : c.he = false) : s.dlUsers x [k] = (.su, [k]) := by
  unfold State.dlUsers
  simp [hc, hhe]

theorem State.takeMpdu_retry {s : State} {h : Bool} {k : Nat} {c : Client} {m : Mpdu} {tids : List Nat}
    (hc : Tbl.get? s.wl.clients k = some c) (hretry : c.retry = [m]) (htid : m.tid ∈ tids) :
    s.takeMpdu h k tids = some (m, s.setClient k { c with retry := [] }) := by
  unfold State.takeMpdu
  rw [hc]
  simp [hretry, htid]

theorem State.takeMpdus_retry {s : State} {x : Bool} {k : Nat} {c : Client} {m : Mpdu} {tids : List Nat}
    (hc : Tbl.get? s.wl.clients k = some c) (hretry : c.retry = [m]) (htid : m.tid ∈ tids) :
    s.takeMpdus x k tids 1 = ([m], s.setClient k { c with retry := [] }) := by
  unfold State.takeMpdus
  rw [State.takeMpdu_retry hc hretry htid]
  rfl

theorem baWindow_basic {c : Client} (h : Bool) (hhe : c.he = false) : baWindow h c.caps = 64 :=
  if_pos (by simpa [Client.he] using hhe)

/-- The client a TXOP of one MPDU leaves: its retry is taken, its deficit charged. -/
theorem State.txopDown_single {s : State} {x : Txop} {k : Nat} {c : Client} {m : Mpdu} (hh : x.h = true)
    (hmpdus : x.mpdus = 1) (hone : s.wl.clients = [(k, c)]) (hl : c.l = none) (hlink : c.h ≠ none) (hhe : c.he = false)
    (htwts : c.twts = []) (hawake : c.asleep = false) (hretry : c.retry = [m]) (htid : m.tid ∈ acTids x.ac)
    (hmk : m.client = k) (hkey : s.txKey c.mld = none) :
    ∃ (wl : Wl) (y : Client), Tbl.get? wl.clients k = some y ∧ y.retry = [] ∧ s.txopDown x none =
      ({ s with wl := wl }).addPpdu true { kind := .su, users := [k], mpdus := [m], dur := x.mpduNs + x.ackNs, granted := true
                                           vo := x.ac == 3 } := by
  have hlinked : (c.link true).isSome = true := Option.isSome_iff_ne_none.mpr hlink
  have hstalled : (s.each s.wl.clients fun s (c : Nat × Client) =>
      if (c.2.link x.h).isSome && (acTids x.ac).any fun t => !(s.queue (wifiQ c.1 t)).pkts.isEmpty then s.pnStall c.2
      else s) = s := by
    rw [hone]
    exact (ite_congr rfl (fun _ => State.pnStall_unkeyed hkey) fun _ => rfl).trans (ite_self s)
  have hlisted : (s.wl.clients.filter fun (c : Nat × Client) =>
      (c.2.link x.h).isSome && s.awake x.h c.2 && s.linkHere x.h c.2 && s.hasFrame x.h x.ac c.1 c.2 &&
        (s.leaseOk c.2 || c.2.retry.any fun m => (acTids x.ac).contains m.tid)) = [(k, c)] := by
    have hframe : (c.retry.any fun m => (acTids x.ac).contains m.tid) = true := by rw [hretry]; simpa using htid
    have hawake' : s.awake true c = true := by unfold State.awake; rw [htwts]; simpa using hawake
    have hhere : s.linkHere true c = true := by unfold State.linkHere; rw [hl]; rfl
    rw [hone, hh, List.filter_cons_of_pos]
    · rfl
    · dsimp only
      rw [hlinked, hawake', hhere, hframe, State.hasFrame, hframe]
      simp
  obtain ⟨g, hgrown⟩ : ∃ g : WLink → WLink, s.grow x.h false [k] = s.setClient k (c.setLink true ((c.link true).map g)) :=
    ⟨_, by rw [hh]; exact State.onLink_known _ (by rw [hone]; exact if_pos rfl)⟩
  obtain ⟨c1, hc1⟩ : ∃ c1, c1 = c.setLink true ((c.link true).map g) := ⟨_, rfl⟩
  have hget := State.get?_setClient s k c1
  have hhe' : c1.he = false := by rw [hc1]; exact hhe
  have hretry' : c1.retry = [m] := by rw [hc1]; exact hretry
  unfold State.txopDown
  extract_lets tids s1 listed s2 order want fit
  have hs1 : s1 = s := hstalled
  clear_value s1
  subst hs1
  have hl1 : listed = [(k, c)] := hlisted
  clear_value listed
  subst hl1
  have hs2 : s2 = s1.setClient k c1 := by rw [hc1]; exact hgrown
  have horder : order = [k] := rfl
  clear_value s2 order
  subst hs2 horder
  rw [State.dlUsers_single hget hhe']
  dsimp -zeta only
  have hwant : want k = 1 := by
    have hq : 1 ≤ (s1.setClient k c1).backlog k c1 tids := by
      unfold State.backlog
      rw [hretry', List.filter_cons_of_pos (by simpa using htid)]
      exact Nat.le_add_right 1 _
    have hdef : want k = min (min x.mpdus (baWindow x.h c1.caps)) ((s1.setClient k c1).backlog k c1 tids) := by
      unfold want
      rw [hget]
    rw [hdef, hmpdus, baWindow_basic x.h hhe']
    omega
  have hfit : fit = 1 := hmpdus
  clear_value want fit
  rw [if_neg (show ¬ [k].isEmpty = true from Bool.false_ne_true)]
  extract_lets s3 longest
  have hs3 : s3 = s1.setClient k c1 := if_neg (by rw [List.any_cons, hwant, hfit]; exact Bool.false_ne_true)
  clear_value s3
  subst hs3
  have htaken := State.takeMpdus_retry (x := x.h) (tids := tids) hget hretry' htid
  obtain ⟨t, ht⟩ : ∃ t, t = (s1.setClient k c1).setClient k { c1 with retry := [] } := ⟨_, rfl⟩
  have hkt : Tbl.get? t.wl.clients k = some { c1 with retry := [] } := by rw [ht]; exact State.get?_setClient _ _ _
  rw [← ht] at htaken
  simp only [List.foldl_cons, List.foldl_nil, List.map_cons, List.map_nil, List.nil_append, hwant, hfit, Nat.min_self, htaken,
    State.onLink_known _ hkt, longest]
  have hcount : (List.filter (fun y : Mpdu => y.client == k) [m]).length = 1 := by
    simp [hmk]
  rw [if_neg (show ¬ [m].isEmpty = true from Bool.false_ne_true), hcount, hh]
  generalize hc2 : Client.setLink _ true _ = c2
  refine ⟨_, c2, State.get?_setClient t k c2, by rw [← hc2]; rfl, ?_⟩
  rw [Nat.max_eq_right (Nat.zero_le 1), Nat.one_mul, ht]
  rfl

theorem State.txopWon_single {s : State} {x : Txop} {k : Nat} {c : Client} {m : Mpdu} (hh : x.h = true)
    (hon : (s.wlnLatch true).wifiOn true = true) (hlead : s.isShadow = false) (hul : x.ul = false)
    (hfree : (s.radio true).tx = none) (hpeer : s.tw.peerRevert = none) (hmpdus : x.mpdus = 1)
    (hone : s.wl.clients = [(k, c)]) (hl : c.l = none) (hlink : c.h ≠ none) (hhe : c.he = false)
    (htwts : c.twts = []) (hawake : c.asleep = false) (hretry : c.retry = [m]) (htid : m.tid ∈ acTids x.ac)
    (hmk : m.client = k) (hkey : s.txKey c.mld = none) :
    ∃ (io : Io) (wl : Wl) (y : Client), Tbl.get? wl.clients k = some y ∧ y.retry = [] ∧ s.txopWon x =
      ({ s with io := io, wl := wl }).addPpdu true
        { kind := .su, users := [k], mpdus := [m], dur := x.mpduNs + x.ackNs, granted := true, vo := x.ac == 3 } := by
  obtain ⟨io, hr, -⟩ := s.wlnLatch_leaves true
  obtain ⟨io', hv, -⟩ := ({ s with io := io }).schedLatch_leaves
  have hleft : ({ s with io := io' } : State).timeLeft true = none := by
    unfold State.timeLeft State.ivlLeft State.revertLeft
    rw [if_pos (by rfl), hpeer]
    exact if_neg (by simp)
  obtain ⟨wl, y, hy, hyr, hdown⟩ := State.txopDown_single (s := { s with io := io' }) (x := x) hh hmpdus hone hl hlink hhe
    htwts hawake hretry htid hmk hkey
  refine ⟨io', wl, y, hy, hyr, ?_⟩
  rw [hr] at hon
  unfold State.txopWon
  rw [hh, hr]
  dsimp only
  rw [if_neg (by
    rw [hon, show State.isShadow { s with io := io } = false from hlead,
      show (State.radio { s with io := io } true).tx = none from hfree]
    decide), hv, hleft]
  simp only [Bool.not_true, Bool.false_and, Bool.false_eq_true, if_false, if_true, hul]
  exact hdown

/-- Settles O54: what starts an exchange on L or H puts its PPDUs in the queue of its radio. -/
theorem wifiExchangesBegin : Obligations.WifiExchangesBegin := by
  intro t h s hlead r hon joins
  obtain ⟨io, hr, hword⟩ := (s.at t).wlnLatch_leaves h
  have hr' : r = { s.at t with io := io } := hr
  have hradio (g : Bool) : r.radio g = s.radio g := by rw [hr']; rfl
  refine ⟨fun src b hb hid => ?probe, fun b hb hdue hq hsw => ?tbtt, fun q k c x hqh hat hc hans => ?twt,
    fun k i c a l hc ha hl hdue htrig => ?service, fun dur hdue hfits => ?bsrp,
    fun dur k c hh hdue hone hcap hlink => ?sounding,
    fun x k c m hx hh hul hfree hpeer hmpdus hone hl hlink hhe htwts hawake hretry htid hmk hkey => ?txop⟩
  case probe =>
    have heq := State.probe_answered (s := s.at t) (src := src) hon hlead hb hid
    refine ⟨_, run_eq_next (f := fun s => s.probe h src []) heq ?_, State.addPpdu_joins h _ ?_ ?_, fun off _ _ => ?_⟩
    all_goals rw [hr]
    · rfl
    · rfl
    · rfl
    · exact hword off
  case tbtt =>
    have heq := State.tbtt_beacon (s := s.at t) hon hlead hb hdue hq hsw
    refine ⟨_, run_eq_next (f := fun s => s.tbtt h) heq ?_, State.addPpdu_joins h _ ?_ ?_, ?_, fun off _ _ => ?_⟩
    all_goals rw [hr]
    · rfl
    · rfl
    · rfl
    · exact Tbl.get?_put_self _ _ _
    · exact hword off
  case twt =>
    subst hqh
    have heq := State.twtSetup_accepted (s := s.at t) hon hlead hat hc hans
    refine ⟨_, run_eq_next (f := fun s => s.twtSetup q) heq ?_, ?_, State.addPpdu_joins q.h _ ?_ ?_⟩
    all_goals rw [hr]
    · rfl
    · exact State.get?_setClient _ k _
    · rfl
    · rfl
  case service =>
    intro p
    obtain ⟨y, hy, hlink, hparts⟩ := State.twtStart_untriggered (s := s.at t) hc ha hl hdue htrig (p := p) rfl
    exact ⟨_, y, rfl, hy, hlink, (congrArg State.io hparts :), (congrArg State.lh hparts :)⟩
  case bsrp =>
    obtain ⟨p, at_, hlater, hkind, husers, hdur, heq⟩ := State.bsrpTrigger_sent (s := s.at t) hon hlead hdue hfits
    obtain ⟨io', hv, -⟩ := ((s.at t).wlnLatch h).schedLatch_leaves
    obtain ⟨hself, hother⟩ := ((s.at t).wlnLatch h).schedLatch.radio_setRadio h
      { (s.at t).radio h with bsrpAt := at_ }
    refine ⟨_, p, run_eq_next (f := fun s => s.bsrpTrigger h dur []) heq ?_, State.addPpdu_joins h _ ((congrArg Radio.queue hself).trans rfl)
      (hother.trans ?_), hkind, husers, hdur, ?_⟩
    · rw [hr]; rfl
    · exact hradio _
    · have hat := congrArg Radio.bsrpAt hself
      cases h
      · exact hlater
      · exact hlater
  case sounding =>
    subst hh
    obtain ⟨at_, hlater, heq⟩ := State.sounding_sent (s := s.at t) (dur := dur) hon hlead hdue hone hcap hlink
    refine ⟨_, run_eq_next (f := fun s => s.sounding dur) heq ?_, State.addPpdu_joins true _ ?_ ?_, hlater⟩
    all_goals rw [hr]
    · rfl
    · rfl
    · rfl
  case txop =>
    subst hh
    obtain ⟨io', wl, y, hy, hyr, heq⟩ := State.txopWon_single (s := s.at t) (x := x) hx hon hlead hul hfree hpeer hmpdus hone hl
      hlink hhe htwts hawake hretry htid hmk hkey
    exact ⟨_, run_eq_next (f := fun s => s.txopWon x) heq rfl, State.addPpdu_joins true _ rfl rfl, y, hy, hyr⟩

end Sys2Proof.Machine
end

-- ==== The Ethernet MAC table (13_postcode_tables) ====
section
/-!
SUPPORT. What a change keeps of the other entries, and PCT_WRITE and PCT_READ on one record.
-/

namespace Sys2Proof.Machine

open Instr

/-! ### The Ethernet MAC table (R384 to R386, R403) -/

/-- An entry after a change elsewhere in its table: a relocated one has `hit` 1 and `strike` 0. -/
def MacEnt.fresh (e : MacEnt) (moved : Bool) : MacEnt := if moved then { e with hit := true, strike := false } else e

theorem MacEnt.fresh_dest (e : MacEnt) (moved : Bool) : (e.fresh moved).dest = e.dest := by cases moved <;> rfl

theorem MacEnt.fresh_static (e : MacEnt) (moved : Bool) : (e.fresh moved).static_ = e.static_ := by cases moved <;> rfl

/-- Every entry stays, but for what a relocation refreshes. -/
def MacKept (p q : Tbl MacEnt) : Prop := ∀ k, ∃ moved, Tbl.get? q k = (Tbl.get? p k).map (·.fresh moved)

theorem MacKept.refl (p : Tbl MacEnt) : MacKept p p := fun k => ⟨false, by cases Tbl.get? p k <;> rfl⟩

theorem Pt.setPlace_mac (p : Pt) (q : Place) (moved : List Nat) : MacKept p.mac (p.setPlace 3 q moved).mac := fun k => by
  refine ⟨moved.contains k, ?_⟩
  have hmap : (p.setPlace 3 q moved).mac = p.mac.map fun e => (e.1, e.2.fresh (moved.contains e.1)) :=
    List.map_congr_left fun e _ => by
      dsimp only [MacEnt.fresh]
      split <;> rfl
  rw [hmap]
  exact Tbl.get?_mapVal (fun n e => e.fresh (moved.contains n)) p.mac k

/-- What a change of the MAC table keeps of the tables. -/
structure MacMoved (p q : Pt) : Prop where
  mac : MacKept p.mac q.mac
  rest : { q with pMac := p.pMac, mac := p.mac } = p

theorem Pt.room_mac {p q : Pt} {key : Nat} (h : p.room 3 key = some q) : MacMoved p q := by
  unfold Pt.room at h
  split at h
  · exact absurd h (by simp)
  · obtain ⟨r, -, rfl⟩ := Option.map_eq_some_iff.mp h
    exact ⟨p.setPlace_mac _ _, rfl⟩

theorem Pt.place?_mac {p q : Pt} {key : Nat} (h : p.place? 3 key = some q) : MacMoved p q := by
  unfold Pt.place? at h
  split at h
  · obtain rfl := Option.some.inj h
    exact ⟨.refl _, rfl⟩
  · rw [if_neg (by decide)] at h
    exact Pt.room_mac h

/-- A deleted key is gone, and every other entry stays. -/
theorem Pt.delRec_mac (p : Pt) (key : Nat) : Tbl.get? (p.delRec 3 key).mac key = none ∧
    (∀ k, k ≠ key → ∃ moved, Tbl.get? (p.delRec 3 key).mac k = (Tbl.get? p.mac k).map (·.fresh moved)) ∧
    { p.delRec 3 key with pMac := p.pMac, mac := p.mac, macGrace := p.macGrace } = p := by
  have hkept : MacKept (Tbl.del p.mac key) (p.delRec 3 key).mac :=
    Pt.setPlace_mac { p with mac := Tbl.del p.mac key, macGrace := p.macGrace.filter (· != key) } _ _
  refine ⟨?_, fun k hk => ?_, rfl⟩
  · obtain ⟨m, hm⟩ := hkept key
    rw [hm, Tbl.get?_del_self]
    rfl
  · obtain ⟨m, hm⟩ := hkept k
    exact ⟨m, by rw [hm, Tbl.get?_del_ne _ (Ne.symm hk)]⟩

theorem State.seqNext_seq (s : State) : (s.seqNext 3).fld (F.PCT_SEQ_seq 3) = (s.fld (F.PCT_SEQ_seq 3) + 1) % 2 ^ 32 :=
  State.fld_setFld_self s _ _ (by decide)

/-! ### PCT_WRITE and PCT_READ on an Ethernet MAC record -/

/-- The key of an Ethernet MAC record. -/
def macKey (b : Bytes) : Nat := b.le 6 2 % 4096 * 2 ^ 48 + b.be 0 6

/-- The entry that an Ethernet MAC record writes. -/
def macOf (b : Bytes) : MacEnt := ⟨b.le 8 2, bitN (b.le 10 1) 0, bitN (b.le 10 1) 1, bitN (b.le 10 1) 2, true, false⟩

/-- The record's fields are in range. -/
structure MacRecOk (b : Bytes) : Prop where
  key : b.le 6 2 < 4096
  flags : b.le 10 1 / 8 % 8 = 0
  zero : Bytes.zero (Bytes.slice b 11 35) = true

section
variable {s : State} {b : Bytes} (hok : MacRecOk b)
include hok

theorem State.pctWrite_op (hop : b.le 46 1 ≤ 1) : s.pctWrite 3 b =
    if b.le 46 1 = 1 then
      if s.pt.has 3 (macKey b) then { status := stOK, st := ({ s with pt := s.pt.delRec 3 (macKey b) }).seqNext 3 }
      else { status := stBAD_ARG, st := s }
    else if !destOk (b.le 8 2) then { status := stBAD_ARG, st := s }
    else match s.pt.place? 3 (macKey b) with
      | none => { status := stNO_ROOM, st := s }
      | some pt => { status := stOK, st := ({ s with pt := pt.setRec 3 (macKey b) b }).seqNext 3 } := by
  obtain ⟨hkey, hflags, hzero⟩ := hok
  have hk : recKeyOk 3 b = true := by simpa [recKeyOk] using hkey
  have hr : recRsvOk 3 b = true := by simp [recRsvOk, hflags, hzero]
  unfold State.pctWrite
  extract_lets bad op key
  rw [if_neg (by rw [hk, hr]; simp [op]; omega)]
  rfl

theorem State.pctWrite_placed {pt : Pt} (hop : b.le 46 1 = 0) (hdest : destOk (b.le 8 2) = true)
    (hplace : s.pt.place? 3 (macKey b) = some pt) :
    s.pctWrite 3 b = { status := stOK, st := ({ s with pt := { pt with mac := Tbl.put pt.mac (macKey b) (macOf b) } }).seqNext 3 } := by
  rw [State.pctWrite_op hok (by omega), if_neg (by omega), hdest, if_neg (by decide), hplace]
  rfl

theorem State.pctWrite_noRoom (hop : b.le 46 1 = 0) (hdest : destOk (b.le 8 2) = true)
    (hplace : s.pt.place? 3 (macKey b) = none) : s.pctWrite 3 b = { status := stNO_ROOM, st := s } := by
  rw [State.pctWrite_op hok (by omega), if_neg (by omega), hdest, if_neg (by decide), hplace]

theorem State.pctWrite_deleted (hop : b.le 46 1 = 1) (hhas : s.pt.has 3 (macKey b) = true) :
    s.pctWrite 3 b = { status := stOK, st := ({ s with pt := s.pt.delRec 3 (macKey b) }).seqNext 3 } := by
  rw [State.pctWrite_op hok (by omega), if_pos hop, if_pos hhas]

theorem State.pctWrite_absent (hop : b.le 46 1 = 1) (hhas : s.pt.has 3 (macKey b) = false) :
    s.pctWrite 3 b = { status := stBAD_ARG, st := s } := by
  rw [State.pctWrite_op hok (by omega), if_pos hop, hhas, if_neg Bool.false_ne_true]

end

theorem State.pctRead_known {s : State} {b : Bytes} {e : MacEnt} (hkey : b.le 6 2 < 4096)
    (he : Tbl.get? s.pt.mac (macKey b) = some e) :
    s.pctRead 3 b = { status := stOK, st := s, writes := [(0, e.record (macKey b))] } := by
  unfold State.pctRead
  extract_lets clean
  have hrec : (if clean = true then s.recordOf 3 (recKey 3 b) else none) = some (e.record (macKey b)) :=
    (if_pos (decide_eq_true hkey)).trans (congrArg (Option.map _) he)
  rw [hrec]

theorem State.pctRead_unknown {s : State} {b : Bytes} (hnone : Tbl.get? s.pt.mac (macKey b) = none) :
    s.pctRead 3 b = { status := stBAD_ARG, st := s } := by
  unfold State.pctRead
  extract_lets clean
  have hrec : (if clean = true then s.recordOf 3 (recKey 3 b) else none) = none :=
    (ite_congr rfl (fun _ => congrArg (Option.map fun e : MacEnt => e.record (macKey b)) hnone) fun _ => rfl).trans
      (ite_self none)
  rw [hrec]

/-- A command on one record that changes the tables, with the next sequence number of the MAC table. -/
theorem macCommand_answered {s : State} {t : Nat} {c : Cmd} {b : Bytes} {pt : Pt} (hready : Ready s c .command)
    (hfull : s.pw.mode = .full) (hb : OneBlock c 48 11 b) (htable : c.f 10 1 = 3)
    (hf : (s.found t c).pctWrite 3 b = { status := stOK, st := ({ s.found t c with pt := pt }).seqNext 3 }) :
    ∃ u, exec (.pctWrite t c) s = .next u ∧ Answered s u c stOK [(c.f 0 8 + 47, toLE 1 stOK)] ∧ u.pt = pt ∧
      u.fld (F.PCT_SEQ_seq 3) = (s.fld (F.PCT_SEQ_seq 3) + 1) % 2 ^ 32 ∧
      HostOnly { s with pt := u.pt } u [(F.PCT_SEQ_seq 3).off] := by
  have hfound : HostOnly { s with pt := pt } ({ s.found t c with pt := pt } : State) [] := ⟨rfl, (HostOnly.found s t c []).2⟩
  have hregs := State.seqNext_leaves { s.found t c with pt := pt } 3
  obtain ⟨u, hu, hans, hho, io, heq, hposts⟩ := blockCommand_answered (t := t) (statusAt := 47) (most := 4096) (all := false)
    (f := fun s b => s.pctWrite (c.f 10 1) b) (w := { s with pt := pt }) (l := [(F.PCT_SEQ_seq 3).off])
    hready hfull (by decide : 0x0401 ∈ opcodes) hb (by decide)
    (by rw [htable]; exact hf) (by decide) (hregs.reaches (by decide)) rfl rfl (hfound.trans hregs.hostOnly)
  have hpt : u.pt = pt := by rw [heq]; rfl
  refine ⟨u, hu, hans, hpt, ?_, by rw [hpt]; exact hho⟩
  have hseq := State.seqNext_seq { s.found t c with pt := pt }
  have hword : u.fld (F.PCT_SEQ_seq 3) = (State.seqNext { s.found t c with pt := pt } 3).fld (F.PCT_SEQ_seq 3) := by
    rw [heq]
    exact State.fld_of_word (hposts.word _ (by decide))
  rw [hword, hseq]
  exact congrArg (fun n => (n + 1) % 2 ^ 32) (s.found_fld t c (f := F.PCT_SEQ_seq 3) (by simp only [F.PCT_SEQ_seq]; omega))

end Sys2Proof.Machine
end

-- ==== Table, queue and shaper records (13_postcode_tables to 15_shaping) ====
section
/-!
SUPPORT. What one record of each command brings.
-/

namespace Sys2Proof.Machine

open Instr

/-! ### PCT_DUMP, PCT_AUDIT and PCT_FLUSH are accepted (R404 to R406) -/

/-- A job of the tables is deferred under a fresh key. -/
theorem pctJob_deferred {s : State} {t op : Nat} {c : Cmd} {h : State → Reply} {operands : List Nat}
    (hready : Ready s c .command) (hfull : s.pw.mode = .full) (hop : op ∈ opcodes)
    (hr : h (s.found t c) = (s.found t c).pctJob operands) :
    ∃ u, run t s (ringRun op .command c h) = .next u ∧ Deferred s u c op (s.pt.jobKey + 1) ∧
      Tbl.get? u.pt.jobs (s.pt.jobKey + 1) = some operands ∧ HostOnly { s with pt := u.pt } u [] := by
  obtain ⟨pt, hpt⟩ : ∃ pt, pt = { s.pt with
    jobs := Tbl.put s.pt.jobs (s.pt.jobKey + 1) operands, jobKey := s.pt.jobKey + 1 } := ⟨_, rfl⟩
  have hr' : h (s.found t c) = Reply.defer { s.found t c with pt := pt } (s.pt.jobKey + 1) := by rw [hr, hpt]; rfl
  obtain ⟨u, hu, hdef, hho, heq⟩ := ringCommand_deferred (v := { s with pt := pt }) (l := [])
    hready hop (by rw [hfull]; rfl) (fun hdoze => absurd (hfull.symm.trans hdoze) (by decide)) hr' rfl
    (.refl _) rfl rfl rfl rfl ⟨rfl, (HostOnly.found s t c []).2⟩
  have hu' : u.pt = pt := (congrArg State.pt hho.1 :)
  refine ⟨u, hu, hdef, ?_, by rw [hu']; exact hho⟩
  rw [hu', hpt]
  exact Tbl.get?_put_self _ _ _

theorem State.pctDump_accepted {s : State} {c : Cmd} (halign : c.f 0 8 % 32 = 0) (hmin : 1 ≤ c.f 8 2) (hmax : c.f 8 2 ≤ 4096)
    (htable : c.f 10 1 ≤ 5) (hall : c.f 11 1 ≤ 1) (hseg : c.f 12 2 ≤ 0xFFF) (hzero : c.zero 14 10 = true)
    (hwr : c.wrFail = false) : s.pctDump c = s.pctJob [c.f 0 8, c.f 8 2, c.f 10 1, c.f 11 1, c.f 12 2, 0] := by
  unfold State.pctDump
  rw [if_neg (by rw [hzero]; simp; omega), hwr]
  rfl

theorem State.pctFlush_accepted {s : State} {c : Cmd} (hflags : c.f 0 1 ≤ 7) (htable : c.f 10 1 = 3) (h1 : c.zero 1 1 = true)
    (h6 : c.zero 6 4 = true) (h11 : c.zero 11 13 = true) : s.pctFlush c = s.pctJob [c.f 0 1, c.f 2 2, c.f 4 2] :=
  if_neg (by rw [h1, h6, h11]; simp; omega)

theorem State.pctAudit_answered {s : State} {t : Nat} {c : Cmd} (halign : c.f 0 8 % 32 = 0) (htable : c.f 10 1 ≤ 5)
    (h8 : c.zero 8 2 = true) (h11 : c.zero 11 13 = true) :
    (s.found t c).pctAudit c = Reply.ok (s.found t c) [(c.f 0 8, s.auditBytes (c.f 10 1))] := by
  have hbytes : (s.found t c).auditBytes (c.f 10 1) = s.auditBytes (c.f 10 1) := by
    unfold State.auditBytes
    rw [s.found_fld t c (f := F.PCT_SEQ_seq (c.f 10 1)) (by simp only [F.PCT_SEQ_seq]; omega)]
    rfl
  unfold State.pctAudit
  rw [if_neg (by rw [h8, h11]; simp; omega), hbytes]

/-! ### SRT_VLAN_SET (R438) -/

/-- The VLAN that a record sets. -/
def vlanOf (b : Bytes) : Vlan :=
  { fid := b.le 2 2, eth0 := bitN (b.le 4 1) 0, eth1 := bitN (b.le 4 1) 1, host := bitN (b.le 4 1) 2
    routeEn := bitN (b.le 4 1) 3, untag0 := bitN (b.le 4 1) 4, untag1 := bitN (b.le 4 1) 5, ring := b.le 5 1
    bssL := b.le 6 2, bssH := b.le 8 2 }

/-- The record's fields are in range. -/
structure VlanRecOk (b : Bytes) : Prop where
  lo : 1 ≤ b.le 0 2
  hi : b.le 0 2 ≤ 4094
  fid : b.le 2 2 ≤ 4095
  flags : b.le 4 1 ≤ 63
  ring : b.le 5 1 ≤ 63
  zero : b.le 10 4 = 0

theorem State.vlanSet_set {s : State} {b : Bytes} (hok : VlanRecOk b) (hop : b.le 14 1 = 0)
    (hfree : ∀ w ∈ s.sr.vlans, w.1 ≠ b.le 0 2 → w.2.bssL &&& b.le 6 2 = 0 ∧ w.2.bssH &&& b.le 8 2 = 0) :
    s.vlanSet b = { status := stOK, st := { s with sr := { s.sr with vlans := Tbl.put s.sr.vlans (b.le 0 2) (vlanOf b) } } } := by
  obtain ⟨hlo, hhi, hfid, hflags, hring, hzero⟩ := hok
  have hclash : (s.sr.vlans.any fun w => w.1 != b.le 0 2 && (w.2.bssL &&& b.le 6 2 != 0 || w.2.bssH &&& b.le 8 2 != 0)) = false := by
    refine List.any_eq_false.mpr fun w hw => ?_
    by_cases hne : w.1 = b.le 0 2
    · simp [hne]
    · obtain ⟨hl, hh⟩ := hfree w hw hne
      simp [hl, hh]
  unfold State.vlanSet
  extract_lets vid f op bl bh clash v tbl
  have hc : clash = false := by
    unfold clash
    rw [hclash, Bool.and_false]
  rw [if_neg (by rw [hc]; simp [vid, f, op]; omega)]
  have ht : tbl = Tbl.put s.sr.vlans (b.le 0 2) (vlanOf b) := if_neg (by omega)
  rw [ht]

theorem State.vlanSet_delete {s : State} {b : Bytes} (hok : VlanRecOk b) (hop : b.le 14 1 = 1) :
    s.vlanSet b = { status := stOK, st := { s with sr := { s.sr with vlans := Tbl.del s.sr.vlans (b.le 0 2) } } } := by
  obtain ⟨hlo, hhi, hfid, hflags, hring, hzero⟩ := hok
  unfold State.vlanSet
  extract_lets vid f op bl bh clash v tbl
  have hc : clash = false := by
    unfold clash op
    rw [hop]
    rfl
  rw [if_neg (by rw [hc]; simp [vid, f, op]; omega)]
  have ht : tbl = Tbl.del s.sr.vlans (b.le 0 2) := if_pos hop
  rw [ht]

/-! ### Queues and shapers (R458 to R460) -/

/-- The record of a queue is in range. -/
structure QueueRecOk (b : Bytes) : Prop where
  queue : b.le 0 3 < 0x21050
  zero3 : b.le 3 1 = 0
  zero4 : b.le 4 1 / 8 % 2 = 0
  weight : b.le 4 1 / 16 ≠ 0
  zero6 : b.le 5 2 / 8192 % 4 = 0
  zero7 : b.le 7 1 = 0

/-- A queue as a record sets it: class and weight at once while it is empty, else when it next joins a round. -/
def Queue.setBy (q : Queue) (b : Bytes) : Queue :=
  let c := if classSettable (b.le 0 3) then b.le 4 1 % 8 else q.cls
  let shp := if 32768 ≤ b.le 5 2 then some (b.le 5 2 % 8192) else none
  if q.pkts.isEmpty then { q with cls := c, weight := b.le 4 1 / 16, shaper := shp, next := none }
  else { q with next := some (c, b.le 4 1 / 16), shaper := shp }

theorem State.queueSet_eq {s : State} {b : Bytes} (hok : QueueRecOk b) :
    s.queueSet b = { status := stOK, st := s.setQueue (b.le 0 3) ((s.queue (b.le 0 3)).setBy b) } := by
  obtain ⟨hq, h3, h4, hw, h6, h7⟩ := hok
  have hv : validQ (b.le 0 3) = true := decide_eq_true hq
  unfold State.queueSet
  extract_lets n b4 sh q c shp q'
  rw [if_neg (by rw [show validQ n = true from hv]; simp [b4, sh]; omega)]
  rfl

theorem State.queue_setQueue (s : State) (n : Nat) (q : Queue) : (s.setQueue n q).queue n = q := Tbl.getD_putDef_self _ _ _ _

theorem Queue.setBy_shaper (q : Queue) (b : Bytes) : (q.setBy b).pkts = q.pkts ∧
    (q.setBy b).shaper = if 32768 ≤ b.le 5 2 then some (b.le 5 2 % 8192) else none := by
  unfold Queue.setBy
  dsimp only
  split <;> exact ⟨rfl, rfl⟩

theorem Queue.setBy_empty {q : Queue} (b : Bytes) (h : q.pkts = []) : (q.setBy b).weight = b.le 4 1 / 16 ∧
    (q.setBy b).cls = if classSettable (b.le 0 3) then b.le 4 1 % 8 else q.cls := by
  unfold Queue.setBy
  rw [h]
  exact ⟨rfl, rfl⟩

theorem Queue.setBy_waiting {q : Queue} (b : Bytes) (h : q.pkts ≠ []) : (q.setBy b).weight = q.weight ∧ (q.setBy b).cls = q.cls := by
  unfold Queue.setBy
  dsimp only
  rw [if_neg (by simpa using h)]
  exact ⟨rfl, rfl⟩

theorem State.queueGet_known {s : State} {b : Bytes} (hq : b.le 0 3 < 0x21050) : ∃ out : Bytes,
    s.queueGet b = { status := stOK, st := s, writes := [(4, out)] } ∧ out.length = 11 ∧
      out.drop 4 = toLE 4 (s.queue (b.le 0 3)).pkts.length ++ toLE 3 (s.queue (b.le 0 3)).cells ∧
      ((s.queue (b.le 0 3)).next = none →
        out.take 1 = toLE 1 ((s.queue (b.le 0 3)).cls + 16 * (s.queue (b.le 0 3)).weight)) := by
  unfold State.queueGet
  extract_lets n q sh c out
  rw [if_neg (by rw [show validQ n = true from decide_eq_true hq]; decide)]
  have hfour : (toLE 1 c ++ toLE 2 sh ++ toLE 1 0).length = 4 := by simp [length_toLE]
  refine ⟨out, rfl, by simp [out, length_toLE], ?_, fun hnext => ?_⟩
  · unfold out
    rw [List.append_assoc, List.drop_left' hfour]
  · have hc : c = q.cls + 16 * q.weight := by
      unfold c
      rw [show q.next = none from hnext]
    unfold out
    rw [hc]
    simp only [List.append_assoc]
    exact List.take_left' (length_toLE 1 _)

/-- What a shaper's record sets. -/
def shpParOf (b : Bytes) : ShpPar :=
  { en := b.le 2 1 % 2 = 1, period := b.le 2 1 / 8 % 4, overhead := signedN 8 (b.le 3 1), inc := b.le 4 3, burst := b.le 8 3
    idleCap := min (b.le 12 3) (b.le 8 3) }

theorem State.shaperSet_ok {s : State} {b : Bytes} (h : shaperRecOk b = true) : s.shaperSet b =
    { status := stOK
      st := s.setShaper (b.le 0 2) { s.shaper (b.le 0 2) with pend := some (shpParOf b, b.le 2 1 / 2 % 4) } } := by
  unfold State.shaperSet
  rw [h]
  rfl

theorem State.shaperSet_bad {s : State} {b : Bytes} (h : shaperRecOk b = false) :
    s.shaperSet b = { status := stBAD_ARG, st := s } := by
  unfold State.shaperSet
  rw [h]
  rfl

/-- The bytes of a shaper. -/
structure ShaperBytes (x : Shaper) (out : Bytes) : Prop where
  length : out.length = 29
  par : out.take 5 = toLE 1 (x.par.en.toNat + 8 * x.par.period) ++ toLE 1 (codeN 8 x.par.overhead) ++ toLE 3 x.par.inc
  counts : (out.drop 14).take 14 = toLE 4 (codeN 32 (x.tokens / 256)) ++ toLE 4 x.pkts ++ toLE 6 x.bytes

theorem State.shaperGet_known {s : State} {b : Bytes} (hn : b.le 0 2 < 8192) : ∃ out : Bytes,
    s.shaperGet b = { status := stOK, st := s, writes := [(2, out)] } ∧ ShaperBytes (s.shaper (b.le 0 2)) out := by
  unfold State.shaperGet
  extract_lets x p out
  rw [if_neg (by omega)]
  obtain ⟨head, hhead⟩ : ∃ l : Bytes, l = toLE 1 (p.en.toNat + 8 * p.period) ++ toLE 1 (codeN 8 p.overhead) ++ toLE 3 p.inc :=
    ⟨_, rfl⟩
  obtain ⟨mid, hmid⟩ : ∃ l : Bytes, l = toLE 1 0 ++ toLE 3 p.burst ++ toLE 1 0 ++ toLE 3 p.idleCap ++ toLE 1 0 := ⟨_, rfl⟩
  obtain ⟨counts, hcounts⟩ : ∃ l : Bytes, l = toLE 4 (codeN 32 (x.tokens / 256)) ++ toLE 4 x.pkts ++ toLE 6 x.bytes := ⟨_, rfl⟩
  have hout : out = head ++ mid ++ (counts ++ toLE 1 0) := by simp [out, hhead, hmid, hcounts, List.append_assoc]
  have hlen : head.length = 5 := by simp [hhead, length_toLE]
  have hlen' : (head ++ mid).length = 14 := by simp [hhead, hmid, length_toLE]
  refine ⟨out, rfl, by simp [out, length_toLE], ?_, ?_⟩
  · rw [hout, List.append_assoc, List.take_left' hlen, hhead]
  · rw [hout, List.drop_left' hlen', List.take_left' (by simp [hcounts, length_toLE]), hcounts]

end Sys2Proof.Machine
end

-- ==== Jobs of the tables end (13_postcode_tables) ====
section
/-!
SUPPORT. PCT_DUMP_DONE and PCT_FLUSH_DONE.
-/

namespace Sys2Proof.Machine

open Instr

/-! ### Jobs of the tables end (R404, R406) -/

/-- A DEFERRED command ends: it waits no more, and its completion goes out or is held. -/
theorem State.finish_finished {s a : State} {d : Dfr} (st : Nat) (hdef : a.io.hf.deferred = s.io.hf.deferred)
    (hout : ∃ more, a.io.out = more ++ s.io.out) (hok : s.io.hostOk = true → a.io.hostOk = true)
    (hcq : a.fld (F.HIF_SQ_CFG_cq d.sq) = s.fld (F.HIF_SQ_CFG_cq d.sq)) : Finished s (a.finish d st) d st := by
  obtain ⟨cpl, hcpl⟩ : ∃ cpl : Cpl, cpl = { sq := d.sq, tag := d.tag, status := st, result := 0, gen := d.gen, final := true } :=
    ⟨_, rfl⟩
  obtain ⟨io, hio⟩ : ∃ io : Io, io = { a.io with hf := { a.io.hf with deferred := a.io.hf.deferred.erase d } } := ⟨_, rfl⟩
  have hu : (a.finish d st).io = (io.complete a.now cpl).settle d.sq := by rw [hio, hcpl]; rfl
  have hdefer : (io.complete a.now cpl).hf.deferred = s.io.hf.deferred.erase d := by
    rw [show (io.complete a.now cpl).hf.deferred = io.hf.deferred from
      (congrArg Hif.deferred (Posts.complete io a.now cpl).hf :), hio, hdef]
  refine ⟨by rw [hu, Io.settle_hf, hdefer], fun hhost => ?_⟩
  have hok' : io.hostOk = true := by rw [hio]; exact hok hhost
  have hcq' : io.fld (F.HIF_SQ_CFG_cq cpl.sq) = s.fld (F.HIF_SQ_CFG_cq d.sq) := by rw [hio, hcpl]; exact hcq
  have hout' : io.out = a.io.out := by rw [hio]
  obtain ⟨after, hafter, hmem⟩ := io.complete_answers a.now cpl hok'
  obtain ⟨more, hmore⟩ := hout
  rw [hcq', hcpl] at hmem
  rw [hcpl] at hafter
  rw [hu, Io.settle_out, Io.settle_hf, hcpl, hafter, hout', hmore]
  refine ⟨after ++ more, (List.append_assoc _ _ _).symm, hmem.imp id ?_⟩
  rintro ⟨p, head, phase, h⟩
  exact ⟨p, head, phase, List.mem_append_left _ h⟩

/-- A dump of one segment: its records, if they fit. -/
theorem Pt.dumpFrom_one {p : Pt} {table max seg : Nat} (h : (p.segment table seg).length ≤ max) :
    (p.dumpFrom table max 1 seg []).1 = p.segment table seg := by
  unfold Pt.dumpFrom
  dsimp only
  rw [if_neg (by simpa using h)]
  rfl

/-- The bytes of a dump of one segment. -/
def State.dumpBytes (s : State) (table seg : Nat) : Bytes :=
  let l := s.pt.segment table seg
  toLE 4 l.length ++ toLE 2 (seg + 1) ++ toLE 4 (s.fld (F.PCT_SEQ_seq table)) ++ toLE 4 (s.fld (F.PCT_SEQ_seq table)) ++ toLE 2 0 ++
    (l.map fun r => r ++ toLE 2 0).flatten

section
variable {s : State} {d : Dfr} {addr max table seg : Nat} (hd : s.deferredOp 0x0403 = some d)
  (hjob : Tbl.get? s.pt.jobs d.key = some [addr, max, table, 0, seg, 0])
include hd hjob

theorem State.pctDumpDone_short (hl : max < (s.pt.segment table seg).length) :
    s.pctDumpDone = State.finish { s with pt := { s.pt with jobs := Tbl.del s.pt.jobs d.key } } d stNO_ROOM := by
  unfold State.pctDumpDone
  rw [hd]
  dsimp only
  rw [Tbl.getD, hjob]
  exact if_pos hl

theorem State.pctDumpDone_fits (hl : (s.pt.segment table seg).length ≤ max) :
    s.pctDumpDone = State.finish { s with
      pt := { s.pt with jobs := Tbl.del s.pt.jobs d.key }, io := s.io.put (.dma addr (s.dumpBytes table seg)) } d stOK := by
  have hone := Pt.dumpFrom_one (p := { s.pt with jobs := Tbl.del s.pt.jobs d.key }) hl
  have hnext : (if seg + 1 = 4096 then 0x1000 else seg + 1) = seg + 1 := by split <;> omega
  unfold State.pctDumpDone
  rw [hd]
  dsimp only
  rw [Tbl.getD, hjob]
  dsimp only [Option.getD_some]
  refine (if_neg (Nat.not_lt.mpr hl)).trans ((if_neg (by decide)).trans ?_)
  rw [if_neg (by decide : ¬ 0 = 1), if_neg (by decide : ¬ 0 = 1), hone, hnext]
  rfl

end

/-! ### Entries removed (R406) -/

theorem MacEnt.fresh_fresh (e : MacEnt) (a b : Bool) : (e.fresh a).fresh b = e.fresh (a || b) := by cases a <;> cases b <;> rfl

/-- Keys removed without change records: every other entry stays. -/
structure MacGone (s u : State) (keys : List Nat) : Prop where
  parts : { u with io := s.io, pt := s.pt } = s
  io : { u.io with regs := s.io.regs } = s.io
  word : ∀ off, off ≠ (F.PCT_SEQ_seq 3).off → u.word off = s.word off
  gone : ∀ k ∈ keys, Tbl.get? u.pt.mac k = none
  kept : ∀ k, k ∉ keys → ∃ moved, Tbl.get? u.pt.mac k = (Tbl.get? s.pt.mac k).map (·.fresh moved)

theorem State.macRemove_leaves (keys : List Nat) : ∀ s : State, MacGone s (s.macRemove keys none) keys := by
  induction keys with
  | nil => exact fun s => ⟨rfl, rfl, fun _ _ => rfl, fun _ h => absurd h (by simp), fun k _ => MacKept.refl _ k⟩
  | cons key keys ih =>
    intro s
    obtain ⟨hgone, hkept, -⟩ := s.pt.delRec_mac key
    obtain ⟨v, hv⟩ : ∃ v, v = State.seqNext { s with pt := s.pt.delRec 3 key } 3 := ⟨_, rfl⟩
    obtain ⟨hparts, hio, hword⟩ := State.seqNext_leaves { s with pt := s.pt.delRec 3 key } 3
    rw [← hv] at hparts hio hword
    have hu : s.macRemove (key :: keys) none = v.macRemove keys none := by rw [hv]; rfl
    have hpt : v.pt = s.pt.delRec 3 key := by rw [hv]; rfl
    obtain ⟨iparts, iio, iword, igone, ikept⟩ := ih v
    rw [← hu] at iparts iio iword igone ikept
    refine ⟨?_, ?_, fun off hoff => (iword off hoff).trans (hword off (by simpa using hoff)), fun k hk => ?_, fun k hk => ?_⟩
    · have h1 := congrArg (fun z : State => { z with io := s.io, pt := s.pt }) iparts
      rw [hv] at h1
      exact h1
    · have h1 := congrArg (fun z : Io => { z with regs := s.io.regs }) iio
      exact h1.trans hio
    · by_cases hin : k ∈ keys
      · exact igone k hin
      · obtain ⟨m, hm⟩ := ikept k hin
        rw [hm, hpt, (List.mem_cons.mp hk).resolve_right hin, hgone]
        rfl
    · obtain ⟨hne, hnot⟩ := not_or.mp (fun h => hk (List.mem_cons.mpr h))
      obtain ⟨m, hm⟩ := ikept k hnot
      obtain ⟨m', hm'⟩ := hkept k hne
      refine ⟨m' || m, ?_⟩
      rw [hm, hpt, hm', Option.map_map]
      exact congrArg (Option.map · _) (funext fun e => e.fresh_fresh m' m)

theorem Tbl.get?_of_mem {α : Type} {t : Tbl α} {k : Nat} {v : α} (hs : Tbl.sorted t = true) (h : (k, v) ∈ t) : Tbl.get? t k = some v := by
  induction t with
  | nil => exact absurd h (by simp)
  | cons p t ih =>
    obtain ⟨hlt, hst⟩ := Bool.and_eq_true_iff.mp hs
    rcases List.mem_cons.mp h with rfl | hmem
    · exact if_pos rfl
    · have hk : p.1 < k := of_decide_eq_true (List.all_eq_true.mp hlt _ hmem)
      exact (if_neg (Nat.ne_of_lt hk)).trans (ih hst hmem)

theorem Tbl.mem_of_get? {α : Type} {t : Tbl α} {k : Nat} {v : α} (h : Tbl.get? t k = some v) : (k, v) ∈ t := by
  induction t with
  | nil => exact absurd h (by simp)
  | cons p t ih =>
    unfold Tbl.get? at h
    split at h
    next hk => exact List.mem_cons.mpr (.inl (Prod.ext hk.symm (Option.some.inj h).symm))
    next => exact List.mem_cons_of_mem _ (ih h)

/-- The keys that PCT_FLUSH takes: those of the entries that its operands name. -/
theorem Pt.mem_flushKeys {p : Pt} {flags fid dest k : Nat} {e : MacEnt} (hs : Tbl.sorted p.mac = true)
    (he : Tbl.get? p.mac k = some e) : k ∈ p.flushKeys flags fid dest ↔
      (bitN flags 0 = true → k / 2 ^ 48 = fid) ∧ (bitN flags 1 = true → e.dest = dest) ∧
        (bitN flags 2 = true ∨ e.static_ = false) := by
  have hbool (a : Bool) (q : Prop) [Decidable q] : (!a || decide q) = true ↔ (a = true → q) := by cases a <;> simp
  have hmem : k ∈ p.flushKeys flags fid dest ↔ ((!bitN flags 0 || k / 2 ^ 48 == fid) && (!bitN flags 1 || e.dest == dest) &&
      (bitN flags 2 || !e.static_)) = true := by
    unfold Pt.flushKeys Tbl.keys
    rw [List.mem_map]
    refine ⟨fun ⟨⟨k', e'⟩, hin, hk⟩ => ?_, fun h => ⟨(k, e), List.mem_filter.mpr ⟨Tbl.mem_of_get? he, h⟩, rfl⟩⟩
    obtain ⟨hin, hq⟩ := List.mem_filter.mp hin
    obtain rfl : k' = k := hk
    obtain rfl : e = e' := Option.some.inj (he.symm.trans (Tbl.get?_of_mem hs hin))
    exact hq
  rw [hmem, Bool.and_eq_true_iff, Bool.and_eq_true_iff, and_assoc]
  refine and_congr (hbool _ _) (and_congr (hbool _ _) ?_)
  cases bitN flags 2 <;> simp

theorem State.pctFlushDone_eq {s : State} {d : Dfr} {flags fid dest : Nat} (hd : s.deferredOp 0x0405 = some d)
    (hjob : Tbl.get? s.pt.jobs d.key = some [flags, fid, dest]) : s.pctFlushDone =
      (State.macRemove { s with pt := { s.pt with jobs := Tbl.del s.pt.jobs d.key } } (s.pt.flushKeys flags fid dest) none).finish d stOK := by
  unfold State.pctFlushDone
  rw [hd]
  dsimp only
  rw [Tbl.getD, hjob]
  rfl

end Sys2Proof.Machine
end

-- ==== Learning, the Round and table errors (13_postcode_tables) ====
section
/-!
SUPPORT. What one request, one visit and one error bring.
-/

namespace Sys2Proof.Machine

open Instr

/-! ### Learning (R388, R389) -/

theorem State.tableEvent_leaves (s : State) (table subtype op cause dest : Nat) (key : Bytes) :
    HostOnly s (s.tableEvent table subtype op cause dest key) [] ∧ (s.tableEvent table subtype op cause dest key).now = s.now := by
  unfold State.tableEvent
  split
  · exact ⟨.refl s [], rfl⟩
  · exact ⟨(HostOnly.refl s []).event _ _, rfl⟩

/-- A field outside the host interface's block that an update keeps. -/
theorem HostOnly.fld {s u : State} {l : List Nat} (h : HostOnly s u l) {f : Fld} (hhif : offHif f.off) (hf : f.off ∉ l) :
    u.fld f = s.fld f := State.fld_of_word (h.2 _ hhif hf)

/-- A change of the MAC table. -/
theorem State.changed_mac (s : State) (op c dest : Nat) (key : Bytes) {u : State} (hu : u = s.changed 3 op (some c) dest key) :
    u.pt = s.pt ∧ u.fld (F.PCT_SEQ_seq 3) = (s.fld (F.PCT_SEQ_seq 3) + 1) % 2 ^ 32 ∧ u.now = s.now ∧ u.pending = s.pending ∧
      SameWords s u [(F.PCT_SEQ_seq 3).off] := by
  obtain ⟨⟨hparts, hwords⟩, hnow⟩ := s.changed_leaves 3 op c dest key
  rw [← hu] at hparts hwords hnow
  refine ⟨(congrArg State.pt hparts :), ?_, hnow, (congrArg State.pending hparts :), hwords⟩
  have hev := (s.seqNext 3).tableEvent_leaves 3 1 op c dest key
  rw [hu, show s.changed 3 op (some c) dest key = (s.seqNext 3).tableEvent 3 1 op c dest key from rfl,
    hev.1.fld (by unfold offHif; decide) (by simp), State.seqNext_seq]

/-- A change of the MAC table, counted. -/
theorem State.changed_counted {s : State} {op c dest : Nat} {key : Bytes} {f : Fld} (hhif : offHif f.off) (hf : f.hi < 32)
    (hne : f.off ≠ (F.PCT_SEQ_seq 3).off) {u : State} (hu : u = (s.changed 3 op (some c) dest key).count f) :
    u.pt = s.pt ∧ u.fld f = min (s.fld f + 1) (2 ^ f.width - 1) ∧
      u.fld (F.PCT_SEQ_seq 3) = (s.fld (F.PCT_SEQ_seq 3) + 1) % 2 ^ 32 ∧ u.pending = s.pending := by
  obtain ⟨hpt, hseq, -, hpend, hwords⟩ := s.changed_mac op c dest key rfl
  rw [hu]
  refine ⟨hpt, ?_, (State.fld_count_off _ _ _ _ hne).trans hseq, hpend⟩
  rw [State.fld_count_self _ f 1 hf, State.fld_of_word (hwords f.off hhif (by simpa using hne))]

/-- Room for a key does not turn on the requests that wait. -/
theorem Pt.room_learn (p : Pt) (l : List Learn) (key : Nat) :
    (Pt.room { p with learn := l } 3 key).isSome = (p.room 3 key).isSome := by
  unfold Pt.room
  rw [show Pt.count { p with learn := l } 3 = p.count 3 from rfl]
  split
  · rfl
  · rw [Option.isSome_map, Option.isSome_map]
    rfl

section
variable {s : State} {q : Learn} (hunicast : bitN (q.key % 2 ^ 48 / 2 ^ 40) 0 = false)
include hunicast

/-- The key bytes of a learning request's change record. -/
def Learn.bytes (q : Learn) : Bytes := toBE 6 (q.key % 2 ^ 48) ++ toLE 2 (q.key / 2 ^ 48)

theorem State.learn1_known {e : MacEnt} (he : Tbl.get? s.pt.mac q.key = some e) : s.learn1 q =
    if e.discardSrc then s
    else if e.dest = q.dest then { s with pt := { s.pt with mac := Tbl.put s.pt.mac q.key { e with hit := true } } }
    else if e.static_ || e.sticky then s.count F.PCT_LEARN_ERR_static_conflict
    else (State.changed { s with pt := { s.pt with
        mac := Tbl.put s.pt.mac q.key { e with dest := q.dest, hit := true, strike := false } } } 3 1 (some 0) q.dest q.bytes).count
      F.PCT_LEARN_CNT_moves := by
  unfold State.learn1
  rw [hunicast, if_neg Bool.false_ne_true, he]
  rfl

theorem State.learn1_new (hnone : Tbl.get? s.pt.mac q.key = none) : s.learn1 q =
    if min 65536 (s.eFld F.PCT_LEARN_CFG_learn_max) ≤ (s.pt.mac.filter fun e => !e.2.static_).length then
      s.count F.PCT_LEARN_ERR2_capped
    else match s.pt.room 3 q.key with
      | some pt => (State.changed { s with pt := { pt with mac := Tbl.put pt.mac q.key { dest := q.dest } } } 3 0 (some 0) q.dest
          q.bytes).count F.PCT_LEARN_CNT_learned
      | none => State.count { s with pt := { s.pt with learnFail := s.pt.learnFail + 1 } } F.PCT_LEARN_ERR_fail := by
  unfold State.learn1
  rw [hunicast, if_neg Bool.false_ne_true, hnone]
  rfl

end

/-- The oldest request reaches the table, under the limit last written. -/
theorem State.learnUpdate_on {s : State} {q : Learn} {qs : List Learn} (hl : s.pt.learn = q :: qs) (hon : s.learnOn = true) :
    s.learnUpdate = (({ s with pt := { s.pt with learn := qs } } : State).latchRegs [0x300004]).learn1 q := by
  unfold State.learnUpdate
  rw [hl]
  exact if_pos hon

theorem State.learnUpdate_off {s : State} {q : Learn} {qs : List Learn} (hl : s.pt.learn = q :: qs) (hon : s.learnOn = false) :
    s.learnUpdate = { s with pt := { s.pt with learn := qs } } := by
  unfold State.learnUpdate
  rw [hl]
  exact if_neg (by rw [show State.learnOn { s with pt := { s.pt with learn := qs } } = s.learnOn from rfl, hon]; decide)

theorem State.learnFailRecord_due {s : State} (hn : s.pt.learnFail ≠ 0)
    (hdue : ∀ a, s.pt.failAt = some a → a + 1000000000 ≤ s.now) : ∃ v : State, HostOnly s v [] ∧ v.now = s.now ∧
      s.learnFailRecord = { v with pt := { v.pt with learnFail := 0, failAt := some v.now } } := by
  obtain ⟨hho, hnow⟩ := s.tableEvent_leaves 3 3 0 0 0 (toLE 4 s.pt.learnFail ++ toLE 4 0)
  refine ⟨_, hho, hnow, ?_⟩
  unfold State.learnFailRecord
  extract_lets due v
  have hd : due = true := by
    unfold due
    split
    next a ha => exact decide_eq_true (hdue a ha)
    next => rfl
  rw [hd, if_neg (by simpa using hn)]

theorem State.learnFailRecord_early {s : State} {a : Nat} (ha : s.pt.failAt = some a) (hearly : s.now < a + 1000000000) :
    s.learnFailRecord = s := by
  unfold State.learnFailRecord
  rw [ha]
  exact if_pos (Bool.or_eq_true_iff.mpr (.inr (congrArg not
    (show decide (a + secNs 1 ≤ s.now) = false from decide_eq_false (Nat.not_le.mpr hearly)))))

/-! ### The Round (R392, R395) -/

/-- The visit to what is in a slot. -/
def State.visitSlot (s : State) (hitNow : Bool) : Option Nat → State
  | some k => s.visitMac k hitNow
  | none => s

/-- A sweep that may be late: one bit of `PCT_STAT`. -/
theorem State.ifLate_leaves (s : State) (late : Prop) [Decidable late] :
    ∃ io : Io, (if late then s.setFld F.PCT_STAT_round_late 1 else s) = { s with io := io } ∧
      ∀ off, off ≠ F.PCT_STAT_round_late.off → io.word off = s.word off := by
  split
  · exact ⟨_, rfl, fun off hoff => State.word_setFld_off s F.PCT_STAT_round_late 1 hoff.symm⟩
  · exact ⟨s.io, rfl, fun _ _ => rfl⟩

section
variable {s : State} (hruns : s.roundRuns = true)
include hruns

theorem State.roundVisit_early {hitNow : Bool} (hearly : s.now < s.pt.macAt + (s.latchRegs [0x300008]).macPeriod / 73792) :
    s.roundVisit false hitNow = s.latchRegs [0x300008] := by
  unfold State.roundVisit
  rw [hruns, if_neg (by decide)]
  exact if_pos hearly

/-- A visit that is due: what the entry in the slot of the sweep becomes, and the next slot. -/
theorem State.roundVisit_due {hitNow : Bool} {key : Nat} (hdue : s.pt.macAt + (s.latchRegs [0x300008]).macPeriod / 73792 ≤ s.now)
    (hkey : s.pt.pMac.keyAt 73728 s.pt.macPtr = some key) :
    ∃ (v : State) (sweep : Nat), { v with io := s.io } = s ∧ (∀ off, off ≠ F.PCT_STAT_round_late.off → v.word off = s.word off) ∧
      s.roundVisit false hitNow = { v.visitMac key hitNow with
        pt := { (v.visitMac key hitNow).pt with
          macPtr := (s.pt.macPtr + 1) % 73792, macAt := (v.visitMac key hitNow).now, macSweep := sweep } } := by
  obtain ⟨r, hr⟩ : ∃ r, r = s.latchRegs [0x300008] := ⟨_, rfl⟩
  have hparts : { r with io := s.io } = s := by rw [hr]; rfl
  have hword (off : Nat) : r.word off = s.word off := by rw [hr]; exact Io.latchRegs_word _ _ off
  have hpt : r.pt = s.pt := (congrArg State.pt hparts :)
  have hnow : r.now = s.now := (congrArg State.now hparts :)
  have hslots : macSlots = 73792 := rfl
  have hslot : ¬ r.now < r.pt.macAt + r.macPeriod / macSlots := by rw [hnow, hpt, hr, hslots]; exact Nat.not_lt.mpr hdue
  have hkey' : r.pt.pMac.keyAt 73728 r.pt.macPtr = some key := by rw [hpt]; exact hkey
  obtain ⟨io, hv, hvw⟩ := r.ifLate_leaves (r.pt.macSweep + r.macPeriod * 11 / 10 < r.now)
  unfold State.roundVisit
  rw [hruns, ← hr, ← hslots, ← hpt]
  simp only [Bool.not_true, Bool.false_eq_true, if_false, if_neg hslot]
  rw [hv]
  dsimp only
  rw [hkey']
  exact ⟨{ r with io := io }, _, hparts, fun off hoff => (hvw off hoff).trans (hword off), rfl⟩

end

section
variable {s : State} {key : Nat} {e : MacEnt} (he : Tbl.get? s.pt.mac key = some e) (hstatic : e.static_ = false)
  (hgrace : key ∉ s.pt.macGrace)
include he hstatic hgrace

theorem State.visitMac_eq (hitNow : Bool) : s.visitMac key hitNow =
    let set (e : MacEnt) : State := { s with pt := { s.pt with mac := Tbl.put s.pt.mac key e, macGrace := s.pt.macGrace.erase key } }
    if e.hit then set { e with hit := false, strike := false }
    else if !e.strike then set { e with strike := true }
    else if s.isShadow then s
    else if hitNow then (set { e with hit := true }).count F.PCT_ROUND_SAVED_saved
    else (s.macRemove [key] (some 1)).count F.PCT_ROUND_CNT_mac_aged := by
  unfold State.visitMac
  rw [he]
  dsimp only
  rw [hstatic, if_neg Bool.false_ne_true, show s.pt.macGrace.contains key = false by simpa using hgrace, Bool.or_false]

end

/-- One entry removed with its change record. -/
theorem State.macRemove_aged (s : State) (key cause : Nat) {u : State} (hu : u = s.macRemove [key] (some cause)) :
    Tbl.get? u.pt.mac key = none ∧ u.fld (F.PCT_SEQ_seq 3) = (s.fld (F.PCT_SEQ_seq 3) + 1) % 2 ^ 32 ∧ u.now = s.now ∧
      SameWords s u [(F.PCT_SEQ_seq 3).off] ∧ { u.pt with pMac := s.pt.pMac, mac := s.pt.mac, macGrace := s.pt.macGrace } = s.pt := by
  obtain ⟨hgone, -, hrest⟩ := s.pt.delRec_mac key
  obtain ⟨hpt, hseq, hnow, -, hwords⟩ := State.changed_mac { s with pt := s.pt.delRec 3 key } 2 cause 0
    (toBE 6 (key % 2 ^ 48) ++ toLE 2 (key / 2 ^ 48)) (u := u) hu
  exact ⟨by rw [hpt]; exact hgone, hseq, hnow, hwords, by rw [hpt]; exact hrest⟩

/-! ### Table errors (R400) -/

theorem State.tableEcc_lost {s : State} {key : Nat} {e : MacEnt} (hfull : s.inFull = true)
    (he : Tbl.get? s.pt.mac key = some e) {u : State} (hu : u = s.tableEcc 3 key false) :
    Tbl.get? u.pt.mac key = none ∧ u.fld F.PCT_ECC_lost = min (s.fld F.PCT_ECC_lost + 1) (2 ^ F.PCT_ECC_lost.width - 1) ∧
      u.fld (F.PCT_SEQ_seq 3) = (s.fld (F.PCT_SEQ_seq 3) + 1) % 2 ^ 32 ∧ 3 * 4096 + segOf 3 (e.record key) ∈ u.pt.dirty ∧
      u.pending = s.pending := by
  obtain ⟨hgone, -, hrest⟩ := s.pt.delRec_mac key
  obtain ⟨hrp, -, hrw⟩ := State.seqNext_leaves { s with pt := s.pt.delRec 3 key } 3
  have hrec : s.entryRecord 3 key = some (e.record key) := congrArg (Option.map _) he
  unfold State.tableEcc at hu
  rw [hfull, if_neg (by decide), if_neg Bool.false_ne_true, hrec] at hu
  dsimp only at hu
  obtain ⟨v, hv⟩ : ∃ v, v = (s.eccRemove 3 key).count F.PCT_ECC_lost := ⟨_, rfl⟩
  obtain ⟨w, hw⟩ : ∃ w, w = v.tableEvent 3 2 2 5 0 (toLE 2 (segOf 3 (e.record key)) ++ toLE 6 0) := ⟨_, rfl⟩
  obtain ⟨d, hd⟩ : ∃ d, d = 3 * 4096 + segOf 3 (e.record key) := ⟨_, rfl⟩
  obtain ⟨x, hx⟩ : ∃ x : State, x = if w.pt.dirty.contains d then w else { w with pt := { w.pt with dirty := w.pt.dirty ++ [d] } } :=
    ⟨_, rfl⟩
  rw [← hv, ← hw, ← hd, ← hx] at hu
  obtain ⟨hho, -⟩ := v.tableEvent_leaves 3 2 2 5 0 (toLE 2 (segOf 3 (e.record key)) ++ toLE 6 0)
  rw [← hw] at hho
  have hwpt : w.pt = s.pt.delRec 3 key := by rw [show w.pt = v.pt from (congrArg State.pt hho.1 :), hv]; rfl
  have hxw : x.io = w.io ∧ x.pt.mac = w.pt.mac ∧ d ∈ x.pt.dirty ∧ x.pending = w.pending := by
    rw [hx]
    split
    next hin => exact ⟨rfl, rfl, by simpa using hin, rfl⟩
    next => exact ⟨rfl, rfl, by simp, rfl⟩
  obtain ⟨hxio, hxmac, hxdirty, hxpend⟩ := hxw
  have hfld (f : Fld) (hf : offHif f.off) : u.fld f = v.fld f := by
    rw [hu, State.fld_faultEv _ _ _ _ _ hf, ← hho.fld hf (by simp)]
    exact congrArg (Io.fld · f) hxio
  refine ⟨?_, ?_, ?_, by rw [← hd, hu]; exact hxdirty, ?_⟩
  · rw [hu]
    exact (congrArg (Tbl.get? · key) (hxmac.trans (congrArg Pt.mac hwpt))).trans hgone
  · rw [hfld _ (by unfold offHif; decide), hv, State.fld_count_self _ _ _ (by decide)]
    exact congrArg (fun n => min (n + 1) _) (State.fld_of_word (hrw _ (by decide)))
  · rw [hfld _ (by unfold offHif; decide), hv, State.fld_count_off _ _ _ _ (by decide)]
    exact State.seqNext_seq { s with pt := s.pt.delRec 3 key }
  · rw [hu]
    exact hxpend.trans ((congrArg State.pending hho.1 :).trans (by rw [hv]; rfl))

end Sys2Proof.Machine
end

-- ==== Tables and queues (13_postcode_tables to 15_shaping) ====
section
/-!
SUPPORT. The commands and steps on one record each.
-/

namespace Sys2Proof.Machine

open Instr

/-- A record command of the tables that changes nothing. -/
theorem macCommand_reads {s : State} {t op st : Nat} {c : Cmd} {b : Bytes} {f : State → Nat → Bytes → BlockReply} {ws : List (Nat × Bytes)}
    (hready : Ready s c .command) (hfull : s.pw.mode = .full) (hop : op ∈ opcodes) (hb : OneBlock c 48 11 b) (htable : c.f 10 1 = 3)
    (hf : f (s.found t c) 3 b = { status := st, st := s.found t c, writes := ws }) (hst : st ≠ stDEFERRED) :
    ∃ u, run t s (ringRun op .command c fun s => blockRun c 48 47 11 s fun s b => f s (c.f 10 1) b) = .next u ∧ HostOnly s u [] ∧
      Answered s u c st ((ws.map fun w => (c.f 0 8 + w.1, w.2)) ++ [(c.f 0 8 + 47, toLE 1 st)]) :=
  blockCommand_reads (t := t) (f := fun s b => f s (c.f 10 1) b) (statusAt := 47) (most := 4096) (all := false) hready hfull hop hb
    (by decide) (by rw [htable]; exact hf) hst

/-- A command on one record that changes one part of the state, beside the host interface. -/
theorem partCommand_answered {s v : State} {t op size statusAt : Nat} {c : Cmd} {b : Bytes} {f : State → Bytes → BlockReply}
    (hready : Ready s c .command) (hfull : s.pw.mode = .full) (hop : op ∈ opcodes) (hb : OneBlock c size 10 b)
    (hf : f (s.found t c) b = { status := stOK, st := { v with now := (s.found t c).now, io := (s.found t c).io } })
    (hio : v.io = s.io) (hq : v.pending = s.pending) :
    ∃ u, run t s (ringRun op .command c fun s => blockRun c size statusAt 10 s f) = .next u ∧
      Answered s u c stOK [(c.f 0 8 + statusAt, toLE 1 stOK)] ∧ HostOnly v u [] := by
  have hho : HostOnly v ({ v with now := (s.found t c).now, io := (s.found t c).io } : State) [] := by
    refine ⟨rfl, fun off hoff hmem => ?_⟩
    exact ((HostOnly.found s t c []).2 off hoff hmem).trans (congrArg (Io.word · off) hio.symm)
  obtain ⟨u, hu, hans, hho, -⟩ := blockCommand_answered (w := v) (l := []) (statusAt := statusAt) (most := 4096) (all := false)
    hready hfull hop hb (by decide) hf (by decide) (.refl _) rfl hq hho
  exact ⟨u, hu, hans, hho⟩

/-- What a learning request finds: the tables less that request, under the limit last written. -/
theorem State.learning {s : State} (t : Nat) {q : Learn} {qs : List Learn} (hl : s.pt.learn = q :: qs) (hon : s.learnOn = true) :
    ∃ r : State, (s.at t).learnUpdate = r.learn1 q ∧ r.pt = { s.pt with learn := qs } ∧ (∀ off, r.word off = s.word off) ∧
      r.pending = s.pending ∧ r.eFld F.PCT_LEARN_CFG_learn_max = (s.latchRegs [0x300004]).eFld F.PCT_LEARN_CFG_learn_max :=
  ⟨_, State.learnUpdate_on (s := s.at t) hl hon, rfl, fun off => Io.latchRegs_word _ _ off, rfl, rfl⟩

/-- One visit of the Round that is due, as it stands after the sweep has been marked. -/
theorem State.visiting {s : State} {t key : Nat} {hitNow : Bool} (hruns : s.roundRuns = true)
    (hdue : s.pt.macAt + (s.latchRegs [0x300008]).macPeriod / 73792 ≤ max s.now t)
    (hslot : s.pt.pMac.keyAt 73728 s.pt.macPtr = some key) :
    ∃ (v u : State), exec (.roundVisit t false hitNow) s = .next u ∧ u.pt.macPtr = (s.pt.macPtr + 1) % 73792 ∧
      u.pt.macAt = (v.visitMac key hitNow).now ∧ u.pt.mac = (v.visitMac key hitNow).pt.mac ∧ u.io = (v.visitMac key hitNow).io ∧
      v.pt = s.pt ∧ v.now = max s.now t ∧ v.tw = s.tw ∧ ∀ off, off ≠ F.PCT_STAT_round_late.off → v.word off = s.word off := by
  obtain ⟨v, sweep, hparts, hword, heq⟩ := State.roundVisit_due (s := s.at t) (hitNow := hitNow) hruns hdue hslot
  obtain ⟨u, hu⟩ : ∃ u : State, u = { (s.at t).roundVisit false hitNow with pending := s.pending } := ⟨_, rfl⟩
  refine ⟨v, u, by rw [hu]; rfl, ?_, ?_, ?_, ?_, (congrArg State.pt hparts :), (congrArg State.now hparts :),
    (congrArg State.tw hparts :), hword⟩
  all_goals rw [hu, heq]
  rfl

/-- Settles O56: the table and queue commands, learning, the Round, flushes and table errors. -/
theorem tablesAndQueues : Obligations.TablesAndQueues := by
  intro t c s base inc seq
  refine ⟨fun hready hfull => ⟨fun b hb htable => ?mac, fun halign => ⟨fun h1 h2 h3 h4 h5 h6 => ?dump, fun h1 h2 h3 => ?audit⟩,
      fun h1 h2 h3 h4 h5 => ?flush, fun b hb => ⟨fun h1 h2 h3 h4 h5 h6 => ⟨fun hop hfree => ?vlan, fun hop => ?noVlan⟩,
        fun q hq hn => ⟨fun h1 h2 h3 h4 h5 => ?queueSet, ?queueGet⟩⟩,
      fun b hb => ⟨fun hok => ?shaperSet, fun hbad => ?shaperBad, fun hn => ?shaperGet⟩⟩,
    fun d addr max table seg hd hok hjob => ?dumps, fun d flags fid dest hd hs hjob => ?flushes,
    fun q qs hl => ?learn, fun hzero => ?noFail, fun hsome => ⟨fun a ha hearly => ?failEarly, fun hdue => ?failDue⟩,
    fun hitNow hruns => ?round, fun hfull => ⟨fun table key => ?corrected, fun key e he => ?lost⟩, ?rescan⟩
  case mac =>
    intro key
    refine ⟨fun hkey hflags hzero => ⟨fun hop hdest => ⟨fun hplace => ?placed, fun hplace => ?noRoom⟩,
      fun hop => ⟨fun hhas => ?deleted, fun hhas => ?absent⟩⟩, fun e hkey he => ?read, fun hnone => ?unread⟩
    case placed =>
      obtain ⟨pt, hpt⟩ := Option.isSome_iff_exists.mp hplace
      have hf := State.pctWrite_placed (s := s.found t c) ⟨hkey, hflags, hzero⟩ hop hdest hpt
      obtain ⟨u, hu, hans, hupt, hseq, hho⟩ := macCommand_answered hready hfull hb htable hf
      refine ⟨u, hu, hans, ?_, hseq, hho, fun k hk => ?_⟩
      · rw [hupt]
        exact Tbl.get?_put_self _ _ _
      · obtain ⟨m, hm⟩ := (Pt.place?_mac hpt).mac k
        rw [hupt]
        refine (congrArg _ (Tbl.get?_put_ne pt.mac _ (Ne.symm hk))).trans ?_
        rw [hm, Option.map_map]
        exact congrArg (Option.map · _) (funext fun e => e.fresh_dest m)
    case noRoom =>
      have hf := State.pctWrite_noRoom (s := s.found t c) ⟨hkey, hflags, hzero⟩ hop hdest hplace
      obtain ⟨u, hu, hho, hans⟩ := macCommand_reads (t := t) (f := State.pctWrite) hready hfull (by decide : 0x0401 ∈ opcodes) hb
        htable hf (by decide)
      exact ⟨u, hu, hans, hho⟩
    case deleted =>
      have hf := State.pctWrite_deleted (s := s.found t c) ⟨hkey, hflags, hzero⟩ hop hhas
      obtain ⟨u, hu, hans, hupt, hseq, hho⟩ := macCommand_answered hready hfull hb htable hf
      refine ⟨u, hu, hans, ?_, hseq, hho⟩
      rw [hupt]
      exact (s.pt.delRec_mac (macKey b)).1
    case absent =>
      have hf := State.pctWrite_absent (s := s.found t c) ⟨hkey, hflags, hzero⟩ hop hhas
      obtain ⟨u, hu, hho, hans⟩ := macCommand_reads (t := t) (f := State.pctWrite) hready hfull (by decide : 0x0401 ∈ opcodes) hb
        htable hf (by decide)
      exact ⟨u, hu, hans, hho⟩
    case read =>
      exact macCommand_reads (t := t) (f := State.pctRead) hready hfull (by decide : 0x0402 ∈ opcodes) hb htable
        (State.pctRead_known (s := s.found t c) hkey he) (by decide)
    case unread =>
      exact macCommand_reads (t := t) (f := State.pctRead) hready hfull (by decide : 0x0402 ∈ opcodes) hb htable
        (State.pctRead_unknown (s := s.found t c) hnone) (by decide)
  case dump =>
    have hwr : c.wrFail = false := hready.2.2.2.2.2
    exact pctJob_deferred hready hfull (by decide : 0x0403 ∈ opcodes) (State.pctDump_accepted halign h1 h2 h3 h4 h5 h6 hwr)
  case audit =>
    exact readCommand_answered (t := t) (h := fun s => s.pctAudit c) hready hfull (by decide : 0x0404 ∈ opcodes)
      (State.pctAudit_answered halign h1 h2 h3)
  case flush =>
    exact pctJob_deferred hready hfull (by decide : 0x0405 ∈ opcodes) (State.pctFlush_accepted h1 h2 h3 h4 h5)
  case vlan =>
    have hf := State.vlanSet_set (s := s.found t c) ⟨h1, h2, h3, h4, h5, h6⟩ hop hfree
    obtain ⟨u, hu, hans, hho⟩ := partCommand_answered (t := t) (statusAt := 15)
      (v := { s with sr := { s.sr with vlans := Tbl.put s.sr.vlans (b.le 0 2) (vlanOf b) } })
      hready hfull (by decide : 0x0501 ∈ opcodes) hb hf rfl rfl
    have hsr : u.sr = { s.sr with vlans := Tbl.put s.sr.vlans (b.le 0 2) (vlanOf b) } := (congrArg State.sr hho.1 :)
    refine ⟨u, vlanOf b, hu, hans, ?_, rfl, rfl, rfl, rfl, rfl, rfl, rfl, rfl, by rw [hsr]; exact hho⟩
    rw [hsr]
    exact Tbl.get?_put_self _ _ _
  case noVlan =>
    have hf := State.vlanSet_delete (s := s.found t c) ⟨h1, h2, h3, h4, h5, h6⟩ hop
    obtain ⟨u, hu, hans, hho⟩ := partCommand_answered (t := t) (statusAt := 15)
      (v := { s with sr := { s.sr with vlans := Tbl.del s.sr.vlans (b.le 0 2) } })
      hready hfull (by decide : 0x0501 ∈ opcodes) hb hf rfl rfl
    have hsr : u.sr = { s.sr with vlans := Tbl.del s.sr.vlans (b.le 0 2) } := (congrArg State.sr hho.1 :)
    refine ⟨u, hu, hans, ?_, by rw [hsr]; exact hho⟩
    rw [hsr]
    exact Tbl.get?_del_self _ _
  case queueSet =>
    subst hq
    have hf := State.queueSet_eq (s := s.found t c) ⟨hn, h1, h2, h3, h4, h5⟩
    obtain ⟨u, hu, hans, hho⟩ := partCommand_answered (t := t) (statusAt := 15)
      (v := s.setQueue (b.le 0 3) ((s.queue (b.le 0 3)).setBy b)) hready hfull (by decide : 0x0603 ∈ opcodes) hb hf rfl rfl
    have hqm : u.qm = (s.setQueue (b.le 0 3) ((s.queue (b.le 0 3)).setBy b)).qm := (congrArg State.qm hho.1 :)
    have hqueue : u.queue (b.le 0 3) = (s.queue (b.le 0 3)).setBy b := by
      rw [← s.queue_setQueue (b.le 0 3) ((s.queue (b.le 0 3)).setBy b)]
      unfold State.queue
      rw [hqm]
      rfl
    obtain ⟨hpkts, hshp⟩ := (s.queue (b.le 0 3)).setBy_shaper b
    refine ⟨u, hu, hans, by rw [hqm]; exact hho, ?_⟩
    rw [hqueue]
    exact ⟨hshp, hpkts, Queue.setBy_empty b, Queue.setBy_waiting b⟩
  case queueGet =>
    subst hq
    obtain ⟨out, hf, hlen, hdrop, htake⟩ := State.queueGet_known (s := s.found t c) hn
    obtain ⟨u, hu, hho, hans⟩ := blockCommand_reads (t := t) (statusAt := 15) (most := 4096) (all := false) hready hfull
      (by decide : 0x0604 ∈ opcodes) hb (by decide) hf (by decide)
    exact ⟨u, out, hu, hho, hlen, hans, hdrop, htake⟩
  case shaperSet =>
    have hf := State.shaperSet_ok (s := s.found t c) hok
    obtain ⟨x, hx⟩ : ∃ x, x = { s.shaper (b.le 0 2) with pend := some (shpParOf b, b.le 2 1 / 2 % 4) } := ⟨_, rfl⟩
    rw [show (s.found t c).shaper (b.le 0 2) = s.shaper (b.le 0 2) from rfl, ← hx] at hf
    obtain ⟨u, hu, hans, hho⟩ := partCommand_answered (t := t) (statusAt := 31) (v := s.setShaper (b.le 0 2) x)
      hready hfull (by decide : 0x0601 ∈ opcodes) hb hf rfl rfl
    have hqm : u.qm = (s.setShaper (b.le 0 2) x).qm := (congrArg State.qm hho.1 :)
    refine ⟨u, shpParOf b, hu, hans, by rw [hqm]; exact hho, ?_, ?_, rfl, rfl, rfl, rfl, rfl⟩
    · rw [← hx]
      unfold State.shaper
      rw [hqm]
      exact Tbl.getD_put_self _ _ _ _
    · unfold bitN
      rw [Nat.pow_zero, Nat.div_one]
      rfl
  case shaperBad =>
    have hf := State.shaperSet_bad (s := s.found t c) hbad
    obtain ⟨u, hu, hho, hans⟩ := blockCommand_reads (t := t) (statusAt := 31) (most := 4096) (all := false) hready hfull
      (by decide : 0x0601 ∈ opcodes) hb (by decide) hf (by decide)
    exact ⟨u, hu, hans, hho⟩
  case shaperGet =>
    obtain ⟨out, hf, hlen, hpar, hcounts⟩ := State.shaperGet_known (s := s.found t c) hn
    obtain ⟨u, hu, hho, hans⟩ := blockCommand_reads (t := t) (statusAt := 31) (most := 4096) (all := false) hready hfull
      (by decide : 0x0602 ∈ opcodes) hb (by decide) hf (by decide)
    exact ⟨u, out, hu, hho, hlen, hans, hpar, hcounts⟩
  case dumps =>
    intro l
    refine ⟨fun hl => ?short, fun hl => ?dumped⟩
    case short =>
      exact ⟨_, run_eq_next (f := State.pctDumpDone) (State.pctDumpDone_short (s := s.at t) hd hjob hl) rfl,
        State.finish_finished _ rfl ⟨[], rfl⟩ id rfl⟩
    case dumped =>
      have heq := State.pctDumpDone_fits (s := s.at t) hd hjob hl
      refine ⟨_, run_eq_next (f := State.pctDumpDone) heq rfl, State.finish_finished _ rfl ⟨[_], rfl⟩ id rfl, rfl, ?_⟩
      obtain ⟨more, hmore⟩ := (State.finish_reaches { s.at t with
        pt := { s.pt with jobs := Tbl.del s.pt.jobs d.key }, io := s.io.put (.dma addr ((s.at t).dumpBytes table seg)) } d stOK 0).out
      exact (congrArg (Out.dma addr ((s.at t).dumpBytes table seg) ∈ ·) hmore).mpr
        (List.mem_append_right _ (List.mem_cons_self ..))
  case flushes =>
    have heq := State.pctFlushDone_eq (s := s.at t) hd hjob
    obtain ⟨v, hv⟩ : ∃ v : State, v = { s.at t with pt := { s.pt with jobs := Tbl.del s.pt.jobs d.key } } := ⟨_, rfl⟩
    obtain ⟨w, hw⟩ : ∃ w, w = v.macRemove (s.pt.flushKeys flags fid dest) none := ⟨_, rfl⟩
    obtain ⟨hparts, hio, hword, hgone, hkept⟩ := v.macRemove_leaves (s.pt.flushKeys flags fid dest)
    rw [← hw] at hparts hio hword hgone hkept
    have heq' : (s.at t).pctFlushDone = w.finish d stOK := by rw [heq, hw, hv]; rfl
    refine ⟨_, run_eq_next (f := State.pctFlushDone) heq' ?_, State.finish_finished _ ?_ ⟨[], ?_⟩ ?_ ?_, fun k e he => ?_⟩
    · exact (congrArg State.pending hparts :).trans (by rw [hv]; rfl)
    · exact (congrArg (fun io : Io => io.hf.deferred) hio :).trans (by rw [hv]; rfl)
    · exact (congrArg Io.out hio :).trans (by rw [hv]; rfl)
    · intro hok
      have hlink : w.fld F.HIF_STAT_link_up = s.fld F.HIF_STAT_link_up :=
        (State.fld_of_word (hword _ (by decide))).trans (by rw [hv]; rfl)
      have hhf : w.io.hf = s.io.hf := (congrArg Io.hf hio :).trans (by rw [hv]; rfl)
      unfold Io.hostOk at hok ⊢
      rw [hhf, show w.io.fld F.HIF_STAT_link_up = s.io.fld F.HIF_STAT_link_up from hlink]
      exact hok
    · exact (State.fld_of_word (hword _ (by simp only [F.HIF_SQ_CFG_cq, F.PCT_SEQ_seq]; omega))).trans (by rw [hv]; rfl)
    · have hmem := Pt.mem_flushKeys (flags := flags) (fid := fid) (dest := dest) hs he
      intro hit
      refine ⟨fun hhit => hgone k (hmem.mpr hhit), fun hmiss => ?_⟩
      obtain ⟨m, hm⟩ := hkept k fun hin => hmiss (hmem.mp hin)
      refine ⟨e.fresh m, hm.trans ?_, e.fresh_dest m, e.fresh_static m⟩
      rw [hv]
      exact congrArg (Option.map _) he
  case learn =>
    intro popped
    refine ⟨fun hoff => ?off, fun hon huni => ?on⟩
    case off =>
      exact ⟨_, run_eq_next (f := State.learnUpdate) (State.learnUpdate_off (s := s.at t) hl hoff) rfl, rfl, rfl⟩
    case on =>
      obtain ⟨r, heq, hpt, hword, hpend, hmax⟩ := State.learning t hl hon
      have hmac : r.pt.mac = s.pt.mac := by rw [hpt]
      have hfld (f : Fld) : r.fld f = s.fld f := State.fld_of_word (hword _)
      have hrun {u : State} (h : r.learn1 q = u) (hq : u.pending = s.pending) : exec (.learnUpdate t) s = .next u :=
        run_eq_next (f := State.learnUpdate) (heq.trans h) hq
      have hinc (u : State) (f : Fld) (h : u.fld f = min (r.fld f + 1) (2 ^ f.width - 1)) : inc u f := by rw [hfld] at h; exact h
      have hnext (u : State) (h : u.fld (F.PCT_SEQ_seq 3) = (r.fld (F.PCT_SEQ_seq 3) + 1) % 2 ^ 32) : seq u := by
        rw [hfld] at h; exact h
      refine ⟨fun e he => ?known, fun hnone => ?fresh⟩
      case known =>
        have hlearn := State.learn1_known huni (hmac ▸ he)
        refine ⟨fun hdis => ?discards, fun hdis hsame => ?hit, fun hdis hne hkept => ?conflict, fun hdis hne hst hsticky => ?moved⟩
        case discards =>
          rw [if_pos hdis] at hlearn
          exact ⟨r, hrun hlearn hpend, hpt, fun off _ _ => hword off⟩
        case hit =>
          rw [if_neg (by rw [hdis]; decide), if_pos hsame] at hlearn
          refine ⟨_, hrun hlearn hpend, fun off _ _ => hword off, ?_⟩
          rw [hpt]
        case conflict =>
          rw [if_neg (by rw [hdis]; decide), if_neg hne, if_pos (Bool.or_eq_true_iff.mpr hkept)] at hlearn
          exact ⟨_, hrun hlearn hpend, hpt, hinc _ _ (State.fld_count_self _ _ _ (by decide))⟩
        case moved =>
          rw [if_neg (by rw [hdis]; decide), if_neg hne, if_neg (by rw [hst, hsticky]; decide)] at hlearn
          obtain ⟨v, hv⟩ : ∃ v : State, v = { r with pt := { r.pt with
            mac := Tbl.put r.pt.mac q.key { e with dest := q.dest, hit := true, strike := false } } } := ⟨_, rfl⟩
          rw [← hv] at hlearn
          obtain ⟨hupt, hcount, hseq, hq⟩ := State.changed_counted (s := v) (f := F.PCT_LEARN_CNT_moves) (by unfold offHif; decide)
            (by decide) (by decide) rfl
          refine ⟨_, hrun hlearn (hq.trans (by rw [hv]; exact hpend)), hinc _ _ (hcount.trans (by rw [hv]; rfl)),
            hnext _ (hseq.trans (by rw [hv]; rfl)), hupt.trans ?_⟩
          rw [hv, hpt]
      case fresh =>
        intro most n
        have hlearn := State.learn1_new huni (hmac ▸ hnone)
        have hcap' : min 65536 (r.eFld F.PCT_LEARN_CFG_learn_max) ≤ (r.pt.mac.filter fun e => !e.2.static_).length ↔ most ≤ n := by
          rw [hmax, hmac]
        refine ⟨fun hcap => ?capped, fun hcap hroom => ?learned, fun hcap hroom => ?noPlace⟩
        case capped =>
          rw [if_pos (hcap'.mpr hcap)] at hlearn
          exact ⟨_, hrun hlearn hpend, hpt, hinc _ _ (State.fld_count_self _ _ _ (by decide))⟩
        case learned =>
          have hsome : (r.pt.room 3 q.key).isSome = true := by rw [hpt, Pt.room_learn]; exact hroom
          obtain ⟨pt, hplace⟩ := Option.isSome_iff_exists.mp hsome
          rw [if_neg (fun h => absurd (hcap'.mp h) (Nat.not_le.mpr hcap)), hplace] at hlearn
          dsimp only at hlearn
          obtain ⟨v, hv⟩ : ∃ v : State, v = { r with pt := { pt with mac := Tbl.put pt.mac q.key { dest := q.dest } } } := ⟨_, rfl⟩
          rw [← hv] at hlearn
          obtain ⟨hupt, hcount, hseq, hq⟩ := State.changed_counted (s := v) (f := F.PCT_LEARN_CNT_learned) (by unfold offHif; decide)
            (by decide) (by decide) rfl
          have hqs : pt.learn = qs := (congrArg Pt.learn (Pt.room_mac hplace).rest :).trans (by rw [hpt])
          refine ⟨_, hrun hlearn (hq.trans (by rw [hv]; exact hpend)), hinc _ _ (hcount.trans (by rw [hv]; rfl)),
            hnext _ (hseq.trans (by rw [hv]; rfl)), ?_, ?_⟩
          · rw [hupt, hv]
            exact hqs
          · rw [hupt, hv]
            exact Tbl.get?_put_self _ _ _
        case noPlace =>
          have hnoRoom : r.pt.room 3 q.key = none := by
            rw [← Option.not_isSome_iff_eq_none, hpt, Pt.room_learn, hroom]
            exact Bool.false_ne_true
          rw [if_neg (fun h => absurd (hcap'.mp h) (Nat.not_le.mpr hcap)), hnoRoom] at hlearn
          dsimp only at hlearn
          refine ⟨_, hrun hlearn hpend, hinc _ _ (State.fld_count_self _ _ _ (by decide)), ?_⟩
          show { r.pt with learnFail := r.pt.learnFail + 1 } = _
          rw [hpt]
  case noFail =>
    have hnone : (s.at t).learnFailRecord = s.at t := if_pos (by rw [show (s.at t).pt.learnFail = 0 from hzero]; rfl)
    exact run_eq_next (f := State.learnFailRecord) hnone rfl
  case failEarly =>
    exact run_eq_next (f := State.learnFailRecord) (State.learnFailRecord_early (s := s.at t) ha hearly) rfl
  case failDue =>
    obtain ⟨v, hho, hnow, heq⟩ := State.learnFailRecord_due (s := s.at t) hsome hdue
    have hpt : v.pt = s.pt := (congrArg State.pt hho.1 :)
    refine ⟨_, run_eq_next (f := State.learnFailRecord) heq (congrArg State.pending hho.1 :), ?_, ?_⟩
    · rw [← hpt, show max s.now t = v.now from hnow.symm]
    · exact ⟨(congrArg (fun z : State => { z with now := s.now, pt := { v.pt with learnFail := 0, failAt := some v.now } }) hho.1 :), hho.2⟩
  case round =>
    intro period
    refine ⟨fun hearly => ?early, fun key e hdue hslot he hstatic hgrace => ?visit⟩
    case early =>
      exact ⟨_, run_eq_next (f := fun s => s.roundVisit false hitNow) (State.roundVisit_early (s := s.at t) hruns hearly) rfl, rfl,
        fun off _ _ => Io.latchRegs_word _ _ off⟩
    case visit =>
      intro visit
      obtain ⟨v, u, hu, hptr, hat, hmac, hio, hvpt, hvnow, hvtw, hword⟩ := State.visiting (t := t) (hitNow := hitNow) hruns hdue hslot
      have hvisit := State.visitMac_eq (s := v) (by rw [hvpt]; exact he) hstatic (by rw [hvpt]; exact hgrace) hitNow
      refine ⟨fun hhit => ?visitHit, fun hhit hstrike => ?visitStrike, fun hhit hstrike hlead => ⟨fun hnow => ?saved, fun hnow => ?aged⟩⟩
      case visitHit =>
        rw [if_pos hhit] at hvisit
        rw [hvisit] at hat hmac
        exact ⟨u, ⟨hu, hptr, hat.trans hvnow⟩, by rw [hmac]; exact Tbl.get?_put_self _ _ _⟩
      case visitStrike =>
        rw [if_neg (by rw [hhit]; decide), if_pos (by rw [hstrike]; rfl)] at hvisit
        rw [hvisit] at hat hmac
        exact ⟨u, ⟨hu, hptr, hat.trans hvnow⟩, by rw [hmac]; exact Tbl.get?_put_self _ _ _⟩
      all_goals
        have hlead' : v.isShadow = false := by
          unfold State.isShadow
          rw [hvtw]
          exact hlead
        have hcount (f : Fld) (hf : f.off ≠ F.PCT_STAT_round_late.off) : v.fld f = s.fld f := State.fld_of_word (hword _ hf)
        rw [if_neg (by rw [hhit]; decide), if_neg (by rw [hstrike]; decide), hlead', if_neg Bool.false_ne_true] at hvisit
      case saved =>
        rw [if_pos hnow] at hvisit
        rw [hvisit] at hat hmac hio
        refine ⟨u, ⟨hu, hptr, hat.trans hvnow⟩, by rw [hmac]; exact Tbl.get?_put_self _ _ _, ?_⟩
        refine (congrArg (Io.fld · F.PCT_ROUND_SAVED_saved) hio).trans ((State.fld_count_self _ _ _ (by decide)).trans ?_)
        exact congrArg (fun n => min (n + 1) _) (hcount F.PCT_ROUND_SAVED_saved (by decide))
      case aged =>
        rw [if_neg (by rw [hnow]; decide)] at hvisit
        obtain ⟨hgone, hseq, hnow', hwords, -⟩ := v.macRemove_aged key 1 rfl
        rw [hvisit] at hat hmac hio
        refine ⟨u, ⟨hu, hptr, hat.trans (hnow'.trans hvnow)⟩, by rw [hmac]; exact hgone, ?_, ?_⟩
        · refine (congrArg (Io.fld · F.PCT_ROUND_CNT_mac_aged) hio).trans ((State.fld_count_self _ _ _ (by decide)).trans ?_)
          exact congrArg (fun n => min (n + 1) _) ((State.fld_of_word (hwords _ (by unfold offHif; decide) (by decide))).trans
            (hcount F.PCT_ROUND_CNT_mac_aged (by decide)))
        · refine (congrArg (Io.fld · (F.PCT_SEQ_seq 3)) hio).trans ((State.fld_count_off _ _ _ _ (by decide)).trans (hseq.trans ?_))
          exact congrArg (fun n => (n + 1) % _) (hcount (F.PCT_SEQ_seq 3) (by decide))
  case corrected =>
    have heq : (s.at t).tableEcc table key true = (s.at t).count F.PCT_ECC_corrected := by
      unfold State.tableEcc
      rw [show (s.at t).inFull = true from hfull]
      rfl
    exact ⟨_, run_eq_next (f := fun s => s.tableEcc table key true) heq rfl, State.fld_count_self _ _ _ (by decide),
      rfl, rfl, fun off hoff => State.word_setFld_off (s.at t) _ _ fun h => hoff (by rw [← h]; simp)⟩
  case lost =>
    obtain ⟨hgone, hlost, hseq, hdirty, hpend⟩ := State.tableEcc_lost (s := s.at t) hfull he rfl
    exact ⟨_, run_eq_next (f := fun s => s.tableEcc 3 key false) rfl hpend, hgone, hlost, hseq, hdirty⟩
  case rescan => rfl

end Sys2Proof.Machine
end

-- ==== What a stage of the start leaves alone (02_modes_power_start) ====
section
/-!
SUPPORT. The parts that stay while the vault, the lease, the connections and the tables come back.
-/

namespace Sys2Proof.Machine

/-! ### What stays while a stage of the start does the rest of its work (R60)

`Stays a b`: the power state, the set that runs, the role and the peer's claim are in `b` as in `a`, and the words
`startRegs` of the registers too. -/

/-- `TPL_STAT` and `PWR_START_TIME`. -/
def startRegs : List Nat := [0x040000, 0x010024]

structure Stays (a b : State) : Prop where
  pw : b.pw = a.pw
  running : b.up.running = a.up.running
  role : b.tw.role = a.tw.role
  claimIn : b.tw.claimIn = a.tw.claimIn
  word : ∀ off ∈ startRegs, b.word off = a.word off

theorem Stays.refl (s : State) : Stays s s := ⟨rfl, rfl, rfl, rfl, fun _ _ => rfl⟩

theorem Stays.trans {a b c : State} (h : Stays a b) (h' : Stays b c) : Stays a c :=
  ⟨h'.pw.trans h.pw, h'.running.trans h.running, h'.role.trans h.role, h'.claimIn.trans h.claimIn,
    fun off hoff => (h'.word off hoff).trans (h.word off hoff)⟩

theorem Stays.alone {a b : State} (h : Stays a b) (ha : Alone a) : Alone b := by
  obtain ⟨hrole, hpeer⟩ := ha
  exact ⟨h.role.trans hrole, (congrArg (bitN · 3) h.claimIn :).trans hpeer⟩

theorem Stays.fld {a b : State} (h : Stays a b) {f : Fld} (hf : f.off ∈ startRegs) : b.fld f = a.fld f :=
  congrArg f.of (h.word _ hf)

/-- Only the interface changed, and none of its words `startRegs`. -/
theorem Stays.ofIo {a b : State} (hparts : { b with io := a.io } = a) (hword : ∀ off ∈ startRegs, b.word off = a.word off) :
    Stays a b :=
  ⟨(congrArg State.pw hparts :), (congrArg (fun z : State => z.up.running) hparts :),
    (congrArg (fun z : State => z.tw.role) hparts :), (congrArg (fun z : State => z.tw.claimIn) hparts :), hword⟩

theorem Posts.startWord {a b : Io} (h : Posts a b) : ∀ off ∈ startRegs, b.word off = a.word off := by
  refine fun off hoff => h.word off ?_
  revert off
  decide

/-- A register below those of the host interface, when a waiting command completes. -/
theorem State.finish_low (s : State) (d : Dfr) (st r : Nat) {off : Nat} (h : off < 0x050000) :
    (s.finish d st r).word off = s.word off := by
  unfold State.finish
  extract_lets hf hf' io v w
  have hw : w.word off = v.word off := (Posts.complete _ _ _).word off (by rw [postedAt_eq_false]; omega)
  have hv : v.word off = s.word off := rfl
  refine Eq.trans ?_ (hw.trans hv)
  unfold Io.settle
  split
  · exact Io.word_setWord_ne _ _ (by simp only [F.HIF_SQ_ERR_active]; omega)
  · rfl

section
variable {a b : State} (h : Stays a b)
include h

theorem Stays.setFld {f : Fld} (hoff : f.off ∉ startRegs) (v : Nat) : Stays a (b.setFld f v) :=
  h.trans (.ofIo rfl fun _ hx => State.word_setFld_off b f v fun e => hoff (e ▸ hx))

theorem Stays.count {f : Fld} (hoff : f.off ∉ startRegs) (n : Nat) : Stays a (b.count f n) := h.setFld hoff _

theorem Stays.event (ty : Nat) (x : Bytes) : Stays a (b.event ty x) :=
  h.trans (.ofIo rfl (Posts.event b.io b.now b.evOk ty x).startWord)

theorem Stays.faultEv (c r d : Nat) : Stays a (b.faultEv c r d) :=
  (h.trans (c := b.log c r d) ⟨rfl, rfl, rfl, rfl, fun _ _ => rfl⟩).event _ _

theorem Stays.drainEvents : Stays a b.drainEvents :=
  h.trans (.ofIo rfl (Posts.drain b.io b.now b.evOk b.io.hf.evHeld).startWord)

theorem Stays.finish (d : Dfr) (st r : Nat) : Stays a (b.finish d st r) :=
  h.trans (.ofIo (b.finish_parts d st r) fun off hoff => b.finish_low d st r (by
    revert off
    decide))

theorem Stays.finishKey (op key st r : Nat) : Stays a (b.finishKey op key st r) := by
  unfold State.finishKey
  split
  · exact h.finish _ st r
  · exact h

theorem Stays.finishOp (op st r : Nat) : Stays a (b.finishOp op st r) := by
  unfold State.finishOp
  split
  · exact h.finish _ st r
  · exact h

theorem Stays.reclaim (ha : Alone a) (cause : Nat) : Stays a (b.reclaim cause) := by
  have hc := State.reclaim_leaves (h.alone ha) cause
  exact h.trans ⟨hc.part State.pw fun _ _ _ _ _ => rfl, congrArg Up.running (hc.part State.up fun _ _ _ _ _ => rfl),
    (congrArg Tw.role hc.tw :), (congrArg Tw.claimIn hc.tw :), fun off _ => hc.word off⟩

end

theorem Stays.each {α : Type} {f : State → α → State} {a b : State} (h : Stays a b) (l : List α)
    (hf : ∀ {c : State} (x : α), Stays a c → Stays a (f c x)) : Stays a (b.each l f) := by
  induction l generalizing b with
  | nil => exact h
  | cons x l ih => exact ih (hf x h)

/-- Parts of the state that stages leave free. -/
theorem Stays.free {s u : State} (hpw : u.pw = s.pw) (hup : u.up = s.up) (htw : u.tw = s.tw) (hio : u.io.regs = s.io.regs) :
    Stays s u :=
  ⟨hpw, congrArg Up.running hup, congrArg Tw.role htw, congrArg Tw.claimIn htw,
    fun off _ => congrArg (fun l => Tbl.getD l off (regReset off)) hio⟩

section
variable {a b : State} (h : Stays a b)
include h

theorem Stays.set {u : State} (hpw : u.pw = b.pw) (hup : u.up = b.up) (htw : u.tw = b.tw) (hio : u.io.regs = b.io.regs) :
    Stays a u := h.trans (.free hpw hup htw hio)

theorem Stays.opStart : Stays a b.opStart := by
  unfold State.opStart
  extract_lets latched limit p op ck begun busy
  have hlatched : Stays a latched := h.set rfl rfl rfl rfl
  have hlimit : Stays a limit := hlatched.setFld (by decide) _
  clear_value limit
  have hbegun : Stays a begun := hlimit.set rfl rfl rfl rfl
  clear_value begun
  have hbusy : Stays a busy := hbegun.setFld (by decide) _
  split
  · exact h.setFld (by decide) _
  · split
    · exact hlimit
    · split
      · exact hbusy
      · exact hbusy.setFld (by decide) _

/-! ### The vault is loaded, the lease resumed and the connections restored (R66, R142, R257) -/

theorem Stays.loadSlot (k : Nat) : Stays a (b.loadSlot k) := by
  unfold State.loadSlot
  extract_lets pr kv lost
  split
  · split
    · exact h.set rfl rfl rfl rfl
    · exact h
  · split
    · exact h
    · have hlost : Stays a lost := h.set rfl rfl rfl rfl
      clear_value lost
      have hdrawn : Stays a (State.draw (lost.setFld F.KV_STAT_store_err 1) 23).2 :=
        (hlost.setFld (by decide) 1).set rfl rfl rfl rfl
      generalize State.draw (lost.setFld F.KV_STAT_store_err 1) 23 = drawn at *
      obtain ⟨body, v⟩ := drawn
      dsimp only at *
      have hev := hdrawn.event 0x0D body
      unfold State.when
      split
      · exact hev.faultEv _ _ _
      · exact hev

theorem Stays.rewrap (k : Nat) : Stays a (b.rewrap k) := by
  unfold State.rewrap
  split
  · exact h.set rfl rfl rfl rfl
  · exact h

theorem Stays.vaultLoad : Stays a b.vaultLoad := by
  unfold State.vaultLoad
  extract_lets kv v w x
  have hv : Stays a v := h.set rfl rfl rfl rfl
  clear_value v
  have hw : Stays a w := (hv.each _ fun k hc => hc.loadSlot k).setFld (by decide) _
  clear_value w
  have hx : Stays a x := hw.each _ fun k hc => hc.rewrap k
  exact hx.set rfl rfl rfl rfl

theorem Stays.restoreLease : Stays a b.restoreLease := by
  unfold State.restoreLease
  split
  · exact h
  · exact h.set rfl rfl rfl rfl

theorem Stays.resumeCirc : Stays a b.resumeCirc := by
  unfold State.resumeCirc
  split
  · exact h.setFld (by decide) _
  · exact h

theorem Stays.connCnt : Stays a b.connCnt := (h.setFld (by decide) _).setFld (by decide) _

theorem Stays.setPattern (len map : Nat) : Stays a (b.setPattern len map) :=
  (((h.set (u := { b with ml := { b.ml with sfLen := len, sfMap := map } }) rfl rfl rfl rfl).setFld (by decide) _).setFld
    (by decide) _).setFld (by decide) _

theorem Stays.restoreSnap : Stays a b.restoreSnap := by
  unfold State.restoreSnap
  split
  · exact (h.set (u := { b with ml := { b.ml with slot := 0, slotAt := b.now, conns := [] } }) rfl rfl rfl rfl).connCnt.setFld
      (by decide) _
  · extract_lets skip slot pattern conns
    have hslot : Stays a slot := h.set rfl rfl rfl rfl
    clear_value slot
    have hpattern : Stays a pattern := by
      unfold pattern
      split
      · exact hslot
      · exact hslot.setPattern _ _
    clear_value pattern
    exact (hpattern.set (u := { pattern with ml := { pattern.ml with conns := conns } }) rfl rfl rfl rfl).connCnt.setFld
      (by decide) _

theorem Stays.srxCalGood (ha : Alone a) (full : Bool) (temp : Int) : Stays a (b.srxCalGood full temp) := by
  unfold State.srxCalGood
  extract_lets stored on nv rs v w x
  have hv : Stays a v := h.set rfl rfl rfl rfl
  clear_value v
  have hw : Stays a w := ((hv.setFld (by decide) _).setFld (by decide) _).setFld (by decide) _
  clear_value w
  have hx : Stays a x := ((hw.count (by decide) _).setFld (by decide) _).setFld (by decide) _
  clear_value x
  split
  · exact ((hx.setFld (f := F.PWR_RADIO_PERS_s_eff) (by decide) _).setFld (f := F.TEL_FAULT_radio) (by decide) _).reclaim ha 1
  · exact hx

theorem Stays.updDir (f : Dir → Dir) : Stays a (b.updDir f) := by
  unfold State.updDir
  split
  · exact h.set rfl rfl rfl rfl
  · exact h

theorem Stays.setFails (x : Bool) : Stays a (b.setFails x) := by
  unfold State.setFails
  split
  · exact h
  · exact ((h.updDir _).count (by decide) 1).event _ _

theorem Stays.bootFrom (x : Bool) : Stays a (b.bootFrom x) := by
  unfold State.bootFrom
  split
  · exact h
  · exact h.updDir _

end

theorem Stays.chooseSet {a b : State} (h : Stays a b) (l : List Bool) : Stays a (b.chooseSet l).2 := by
  induction l generalizing b with
  | nil => exact h
  | cons x l ih =>
    unfold State.chooseSet
    split
    · exact ih h
    · split
      · exact h.bootFrom x
      · exact ih (h.setFails x)

end Sys2Proof.Machine
end

-- ==== The staged start, stage by stage (02_modes_power_start) ====
section
/-!
SUPPORT. Each stage of the start takes it one stage on, or gives it up.
-/

namespace Sys2Proof.Machine

/-! ### The Dawn image (R60, R142) -/

/-- Rescue is entered by a unit that is alone, whatever its claim. -/
theorem State.enterRescue_alone {s : State} (ha : Alone s) (cause : Nat) : let u := s.enterRescue cause
    u.pw.mode = .rescue ∧ u.up.running = none ∧ u.fld F.UPD_STAT_rescue_cause = cause % 8 := by
  have hlocks := s.toLoader.pllsLock_leaves
  obtain ⟨hparts, -, -⟩ := hlocks
  have hpw : s.toLoader.pllsLock.pw = s.toLoader.pw := (congrArg State.pw hparts :)
  have hup : s.toLoader.pllsLock.up = s.toLoader.up := (congrArg State.up hparts :)
  have htw : s.toLoader.pllsLock.tw = s.tw := (congrArg State.tw hparts :)
  have heq : s.enterRescue cause = (s.toLoader.pllsLock.loaderShows cause).reclaim := rfl
  rw [heq]
  generalize s.toLoader.pllsLock = v at *
  have hva : Alone (v.loaderShows cause) := by
    unfold Alone State.peerAlive at *
    rw [show (v.loaderShows cause).tw = v.tw from rfl, htw]
    exact ha
  have hcode : (v.loaderShows cause).fld F.UPD_STAT_rescue_cause = cause % 8 := by
    unfold State.loaderShows
    simp (disch := decide) only [State.fld_setFld_off, State.fld_setFld_self]
    rfl
  have hlpw : (v.loaderShows cause).pw = v.pw := rfl
  have hlup : (v.loaderShows cause).up = v.up := rfl
  generalize v.loaderShows cause = w at *
  have hc := State.reclaim_leaves hva 1
  refine ⟨?_, ?_, (hc.fld _).trans hcode⟩
  · rw [hc.part State.pw fun _ _ _ _ _ => rfl, hlpw, hpw]
    rfl
  · rw [hc.part State.up fun _ _ _ _ _ => rfl, hlup, hup]
    rfl

/-- The Dawn image of a set runs. -/
def State.runsImage (s : State) (b : Bool) : State :=
  let s : State := { s with pw := { s.pw with stage := .verified }, up := { s.up with running := some b, load := none } }
  (s.setFld F.TPL_STAT_code 1).setFld F.TPL_STAT_image_set b.toNat

theorem Stays.pllsLock {a b : State} (h : Stays a b) : Stays a b.pllsLock := by
  unfold State.pllsLock
  split
  · exact h
  next hok =>
    clear hok
    have hl : ∀ f ∈ [F.CLK_STAT_a_lock, F.CLK_STAT_b_lock, F.CLK_STAT_ddr_lock, F.CLK_STAT_eth0_lock, F.CLK_STAT_eth1_lock,
        F.CLK_STAT_twin_lock], f.off ∉ startRegs := by decide
    generalize [F.CLK_STAT_a_lock, F.CLK_STAT_b_lock, F.CLK_STAT_ddr_lock, F.CLK_STAT_eth0_lock, F.CLK_STAT_eth1_lock,
      F.CLK_STAT_twin_lock] = l at *
    induction l generalizing b with
    | nil => exact h
    | cons f l ih => exact ih (h.setFld (hl f List.mem_cons_self) 1) fun g hg => hl g (List.mem_cons_of_mem f hg)

theorem State.runsImage_leaves (s : State) (b : Bool) : let u := s.runsImage b
    u.pw = { s.pw with stage := .verified } ∧ u.up.running = some b ∧ u.tw = s.tw ∧
      u.fld F.TPL_STAT_image_set = b.toNat ∧ u.fld F.TPL_STAT_code = 1 := by
  refine ⟨rfl, rfl, rfl, State.fld_setFld_eq _ (by decide) (by cases b <;> decide), ?_⟩
  exact (State.fld_setFld_ne _ _ (by decide) (by decide)).trans (State.fld_setFld_eq _ (by decide) (by decide))

/-- What the start does after the image runs. -/
def State.afterImage (s : State) : State :=
  (s.pllsLock.srxCalGood (!s.storedValid) s.ck.temp).vaultLoad.restoreLease.resumeCirc.restoreSnap.reclaim

theorem State.afterImage_stays {s : State} (ha : Alone s) : Stays s s.afterImage :=
  (((Stays.refl s).pllsLock.srxCalGood ha _ _).vaultLoad.restoreLease.resumeCirc.restoreSnap).reclaim ha 1

section
variable {s : State} (hmode : s.pw.mode = .dawn) (hstage : s.pw.stage = .rom) (hhold : s.pw.hold = none)
  (href : s.ck.refFailed = false) (ha : Alone s)
include hmode hstage hhold href

theorem State.dawnImage_noFlash_eq : s.dawnImage false = s.enterRescue 3 := by
  unfold State.dawnImage
  rw [if_neg (by simp [hmode, hstage, hhold, href])]
  exact if_pos rfl

theorem State.dawnImage_eq : s.dawnImage true =
    match (s.chooseSet [s.bootSet, !s.bootSet]).1 with
    | none => (s.chooseSet [s.bootSet, !s.bootSet]).2.enterRescue 2
    | some b => ((s.chooseSet [s.bootSet, !s.bootSet]).2.runsImage b).afterImage := by
  unfold State.dawnImage
  rw [if_neg (by simp [hmode, hstage, hhold, href]), if_neg (by simp)]
  generalize s.chooseSet [s.bootSet, !s.bootSet] = x
  obtain ⟨o, v⟩ := x
  cases o with
  | none => rfl
  | some b => rfl

include ha

theorem State.dawnImage_noFlash : let u := s.dawnImage false
    u.pw.mode = .rescue ∧ u.fld F.UPD_STAT_rescue_cause = 3 := by
  rw [State.dawnImage_noFlash_eq hmode hstage hhold href]
  obtain ⟨hm, -, hcause⟩ := State.enterRescue_alone ha 3
  exact ⟨hm, hcause⟩

theorem State.dawnImage_none (h : (s.chooseSet [s.bootSet, !s.bootSet]).1 = none) : let u := s.dawnImage true
    u.pw.mode = .rescue ∧ u.fld F.UPD_STAT_rescue_cause = 2 ∧ u.up.running = none := by
  have hv : Stays s (s.chooseSet [s.bootSet, !s.bootSet]).2 := (Stays.refl s).chooseSet _
  rw [State.dawnImage_eq hmode hstage hhold href, h]
  obtain ⟨hrescue, hrun, hcause⟩ := State.enterRescue_alone (hv.alone ha) 2
  exact ⟨hrescue, hcause, hrun⟩

theorem State.dawnImage_some {b : Bool} (h : (s.chooseSet [s.bootSet, !s.bootSet]).1 = some b) : let u := s.dawnImage true
    u.pw = { s.pw with stage := .verified } ∧ u.up.running = some b ∧ u.fld F.TPL_STAT_image_set = b.toNat ∧
      u.fld F.TPL_STAT_code = 1 := by
  have hv : Stays s (s.chooseSet [s.bootSet, !s.bootSet]).2 := (Stays.refl s).chooseSet _
  rw [State.dawnImage_eq hmode hstage hhold href, h]
  generalize (s.chooseSet [s.bootSet, !s.bootSet]).2 = v at *
  dsimp only
  obtain ⟨hpw, hrun, htw, himage, hcode⟩ := v.runsImage_leaves b
  generalize v.runsImage b = w at *
  have hwa : Alone w := by
    have hva := hv.alone ha
    unfold Alone State.peerAlive at *
    rw [htw]
    exact hva
  have hafter := State.afterImage_stays hwa
  exact ⟨by rw [hafter.pw, hpw, hv.pw], hafter.running.trans hrun, (hafter.fld (by decide)).trans himage,
    (hafter.fld (by decide)).trans hcode⟩

end

/-! ### A set's entry of the directory (R517, R521) -/

/-- The copy written last is the newest. -/
theorem State.dir_putDir (s : State) (d : Dir) : (s.putDir d).dir =
    some { d with seq := (s.dir.map (·.seq)).getD 0 + 1 } := by
  cases h0 : s.nv.dir0 with
  | none =>
    cases h1 : s.nv.dir1 with
    | none => simp [State.putDir, State.dir, h0, h1]
    | some y => simp [State.putDir, State.dir, h0, h1]
  | some x =>
    cases h1 : s.nv.dir1 with
    | none => simp [State.putDir, State.dir, h0, h1]
    | some y =>
      by_cases hxy : x.seq < y.seq
      · simp [State.putDir, State.dir, h0, h1, hxy]
      · simp [State.putDir, State.dir, h0, h1, hxy]

theorem Dir.ent_setEnt_self (d : Dir) (b : Bool) (e : SetEnt) : (d.setEnt b e).ent b = e := by
  cases b
  · rfl
  · rfl

theorem Dir.ent_setEnt_other (d : Dir) (b : Bool) (e : SetEnt) : (d.setEnt b e).ent (!b) = d.ent (!b) := by
  cases b
  · rfl
  · rfl

theorem State.updDir_nv (s : State) (f : Dir → Dir) : { s.updDir f with nv := s.nv } = s := by
  unfold State.updDir
  split
  · rfl
  · rfl

theorem State.ent_updDir (s : State) (f : Dir → Dir) (b : Bool) :
    (s.updDir f).ent b = (s.dir.map fun d => (f d).ent b).getD {} := by
  unfold State.updDir
  split
  next d hd =>
    unfold State.ent
    rw [State.dir_putDir, hd]
    rfl
  next hd =>
    unfold State.ent
    rw [hd]
    rfl

/-- An attempt of a set is used. -/
theorem State.useTry_tries (s : State) (b : Bool) : ((s.useTry b).ent b).tries = (s.ent b).tries - 1 := by
  have h := s.ent_updDir (fun d => d.setEnt b { d.ent b with tries := (d.ent b).tries - 1 }) b
  refine (congrArg SetEnt.tries h).trans ?_
  unfold State.ent
  cases s.dir with
  | none => rfl
  | some d =>
    show ((d.setEnt b { d.ent b with tries := (d.ent b).tries - 1 }).ent b).tries = (d.ent b).tries - 1
    rw [Dir.ent_setEnt_self]

/-! ### Dawn goes on air (R60, R521) -/

/-- The radio serves, the Dawn image shows itself, the time is stamped and an attempt used. -/
def State.airShown (s : State) : State :=
  let s := s.latchRegs [0x010004]
  let s := s.setFld F.PWR_RADIO_PERS_s_eff (if s.rs.stopped then 0 else s.eFld F.PWR_RADIO_PERS_s_en)
  (s.setFld F.TPL_STAT_dawn_active 1).stamp F.PWR_START_TIME_dawn_ms

/-- One attempt of the running set is used. -/
def State.tryUsed (s : State) : State :=
  match s.up.running with
  | some b => s.useTry b
  | none => s

theorem State.tryUsed_nv (s : State) : { s.tryUsed with nv := s.nv } = s := by
  unfold State.tryUsed
  split
  · exact s.updDir_nv _
  · rfl

theorem State.stamp_leaves (s : State) (f : Fld) : ∃ n v, s.stamp f = { s.setFld f v with free := n } := by
  unfold State.stamp
  dsimp only
  split
  · exact ⟨s.free, _, rfl⟩
  · exact ⟨_, _, rfl⟩

theorem State.stamp_fld {s : State} {f : Fld} (hhi : f.hi < 32) (hw : f.width = 16)
    (hms : (s.now - s.pw.startAt) / 1000000 < 65536) : (s.stamp f).fld f = (s.now - s.pw.startAt) / 1000000 := by
  unfold State.stamp
  dsimp only
  rw [if_pos hms]
  exact State.fld_setFld_eq _ hhi (by rw [hw]; exact hms)

theorem State.airShown_leaves (s : State) : let u := s.airShown
    u.pw = s.pw ∧ u.up = s.up ∧ u.tw = s.tw ∧ u.nv = s.nv ∧ u.now = s.now ∧
      u.fld F.UPD_CFG_wdog_ms = s.fld F.UPD_CFG_wdog_ms ∧ u.fld F.TPL_STAT_dawn_active = 1 ∧
      ((s.now - s.pw.startAt) / 1000000 < 65536 → u.fld F.PWR_START_TIME_dawn_ms = (s.now - s.pw.startAt) / 1000000) := by
  unfold State.airShown
  extract_lets v w u
  have hw : w.fld F.UPD_CFG_wdog_ms = s.fld F.UPD_CFG_wdog_ms := State.fld_setFld_off _ _ _ _ (by decide)
  have hpw : w.pw = s.pw := rfl
  have hup : w.up = s.up := rfl
  have htw : w.tw = s.tw := rfl
  have hnv : w.nv = s.nv := rfl
  have hnow : w.now = s.now := rfl
  clear_value w
  obtain ⟨n, x, hstamp⟩ := (w.setFld F.TPL_STAT_dawn_active 1).stamp_leaves F.PWR_START_TIME_dawn_ms
  have hu : u = { ((w.setFld F.TPL_STAT_dawn_active 1).setFld F.PWR_START_TIME_dawn_ms x) with free := n } := hstamp
  refine ⟨?_, ?_, ?_, ?_, ?_, ?_, ?_, fun hms => ?_⟩
  · rw [hu]; exact hpw
  · rw [hu]; exact hup
  · rw [hu]; exact htw
  · rw [hu]; exact hnv
  · rw [hu]; exact hnow
  · rw [hu]
    refine ((State.fld_setFld_off (w.setFld F.TPL_STAT_dawn_active 1) _ _ _ (by decide)).trans ?_).trans hw
    exact State.fld_setFld_off _ _ _ _ (by decide)
  · rw [hu]
    refine (State.fld_setFld_off (w.setFld F.TPL_STAT_dawn_active 1) _ _ _ (by decide)).trans ?_
    exact State.fld_setFld_eq _ (by decide) (by decide)
  · have h := State.stamp_fld (s := w.setFld F.TPL_STAT_dawn_active 1) (f := F.PWR_START_TIME_dawn_ms) (by decide) (by decide)
      (by show (w.now - w.pw.startAt) / 1000000 < 65536; rw [hnow, hpw]; exact hms)
    refine h.trans ?_
    show (w.now - w.pw.startAt) / 1000000 = _
    rw [hnow, hpw]

theorem State.dawnOnAir_eq {s : State} (hmode : s.pw.mode = .dawn) (hstage : s.pw.stage = .verified) (htr : s.pw.trans = none)
    (href : s.ck.refFailed = false) (hlock : s.fld F.CLK_STAT_a_lock = 1) :
    s.dawnOnAir = (s.airShown.tryUsed.startLoad.reclaim.opStart).drainEvents := by
  have hflag : s.flag F.CLK_STAT_a_lock = true := State.flag_eq_true.mpr (by rw [hlock]; decide)
  unfold State.dawnOnAir
  rw [if_neg (by simp [hstage, htr, href, hflag])]
  extract_lets start v w x y z
  have hstart : start = true := by
    unfold start
    rw [hmode]
    rfl
  have hy : y = s.airShown := if_pos hstart
  have hz : z = s.airShown.tryUsed := by
    unfold z
    rw [hy]
    rfl
  rw [hz]

theorem Stays.nv_dir {s u : State} (h : u.nv = s.nv) (b : Bool) : u.ent b = s.ent b := by
  unfold State.ent State.dir
  rw [h]

/-- Dawn goes on air: the load begins, with the watchdog armed. -/
theorem State.dawnOnAir_leaves {s : State} (hmode : s.pw.mode = .dawn) (hstage : s.pw.stage = .verified) (htr : s.pw.trans = none)
    (href : s.ck.refFailed = false) (hlock : s.fld F.CLK_STAT_a_lock = 1) (ha : Alone s) : let u := s.dawnOnAir
    u.pw.stage = .training ∧ u.pw.trans = some .toFull ∧
      u.pw.wdog = some (s.now + 1000000 * max 2000 (s.fld F.UPD_CFG_wdog_ms)) ∧ u.fld F.TPL_STAT_dawn_active = 1 ∧
      ((s.now - s.pw.startAt) / 1000000 < 65536 → u.fld F.PWR_START_TIME_dawn_ms = (s.now - s.pw.startAt) / 1000000) ∧
      ∀ b, s.up.running = some b → (u.ent b).tries = (s.ent b).tries - 1 := by
  obtain ⟨hpw, hup, htw, hnv, hnow, hwdog, hactive, hms⟩ := s.airShown_leaves
  rw [State.dawnOnAir_eq hmode hstage htr href hlock]
  generalize s.airShown = v at *
  have htries (b : Bool) (hb : s.up.running = some b) : (v.tryUsed.ent b).tries = (s.ent b).tries - 1 := by
    have heq : v.tryUsed = v.useTry b := by
      unfold State.tryUsed
      rw [hup, hb]
    rw [heq, State.useTry_tries, Stays.nv_dir hnv]
  have hparts := v.tryUsed_nv
  generalize v.tryUsed = w at *
  have hwio : w.io = v.io := (congrArg State.io hparts :)
  have hwnow : w.now = v.now := (congrArg State.now hparts :)
  have hwtw : w.tw = v.tw := (congrArg State.tw hparts :)
  have hfld (f : Fld) : w.fld f = v.fld f := congrArg (fun io : Io => io.fld f) hwio
  have hla : Alone w.startLoad := by
    have htw' : w.startLoad.tw = s.tw := (hwtw.trans htw :)
    unfold Alone State.peerAlive at *
    rw [htw']
    exact ha
  have hc := State.reclaim_leaves hla 1
  have hop := State.opStart_points w.startLoad.reclaim
  have hst : Stays w.startLoad (w.startLoad.reclaim.opStart).drainEvents := ((Stays.refl _).reclaim hla 1).opStart.drainEvents
  have hnv' : (w.startLoad.reclaim.opStart).drainEvents.nv = w.nv :=
    (hop.part State.nv fun _ _ _ => rfl).trans (hc.part State.nv fun _ _ _ _ _ => rfl)
  have hpw' := hst.pw
  refine ⟨by rw [hpw']; rfl, by rw [hpw']; rfl, ?_, ?_, fun h => ?_, fun b hb => ?_⟩
  · rw [hpw']
    show some (w.now + msNs (max 2000 (w.fld F.UPD_CFG_wdog_ms))) = _
    rw [hwnow, hnow, hfld, hwdog, msNs, Nat.mul_comm]
  · exact (hst.fld (by decide)).trans ((hfld _).trans hactive)
  · exact (hst.fld (by decide)).trans ((hfld _).trans (hms h))
  · rw [Stays.nv_dir hnv']
    exact htries b hb

/-! ### DRAM training (R62, R578) -/

theorem State.supply_leaves (s : State) (bit : Nat) (on : Bool) : (s.supply bit on).pw = s.pw ∧
    (s.supply bit on).fld F.PWR_STAT_vddq_missing = s.fld F.PWR_STAT_vddq_missing := by
  unfold State.supply
  extract_lets was live fl v
  have hv : v.fld F.PWR_STAT_vddq_missing = s.fld F.PWR_STAT_vddq_missing := State.fld_setFld_off _ _ _ _ (by decide)
  have hpw : v.pw = s.pw := rfl
  split
  · exact ⟨hpw, (State.fld_faultEv _ _ _ _ _ (by decide)).trans hv⟩
  · exact ⟨hpw, hv⟩

/-- What VDDQ_DDR shows, with the fault that follows. -/
def State.vddqShown (s : State) (vddq : Bool) : State :=
  (s.setFld F.PWR_STAT_vddq_missing (!vddq).toNat).supply 1 (!vddq)

theorem State.vddqShown_leaves (s : State) (vddq : Bool) : (s.vddqShown vddq).pw = s.pw ∧
    (s.vddqShown vddq).fld F.PWR_STAT_vddq_missing = (!vddq).toNat := by
  obtain ⟨hpw, hfld⟩ := (s.setFld F.PWR_STAT_vddq_missing (!vddq).toNat).supply_leaves 1 (!vddq)
  exact ⟨hpw, hfld.trans (State.fld_setFld_eq s (by decide) (by cases vddq <;> decide))⟩

theorem State.trained_leaves {s : State} (hstage : s.pw.stage = .training) (htr : s.pw.trans = some .toFull)
    (href : s.ck.refFailed = false) (hA : s.fld F.CLK_STAT_a_lock = 1) (hB : s.fld F.CLK_STAT_b_lock = 1)
    (hD : s.fld F.CLK_STAT_ddr_lock = 1) (vddq ok : Bool) : let u := s.trained vddq ok
    u.fld F.PWR_STAT_vddq_missing = (!vddq).toNat ∧
      u.pw = (if vddq && ok then { s.pw with dram := true, stage := .loading } else { s.pw with trans := none }) := by
  have hlock {f : Fld} (h : s.fld f = 1) : s.flag f = true := State.flag_eq_true.mpr (by rw [h]; decide)
  obtain ⟨hpw, hmissing⟩ := s.vddqShown_leaves vddq
  unfold State.trained
  rw [hlock hA, hlock hB, hlock hD]
  extract_lets locks v fails fl w pw u
  have hu : u = if vddq && ok then { w with pw := { w.pw with dram := true, stage := .loading } }
      else { w with pw := { w.pw with trans := none } } := if_neg (by simp [hstage, htr, href, locks])
  change v.pw = s.pw at hpw
  change v.fld F.PWR_STAT_vddq_missing = _ at hmissing
  obtain ⟨hwpw, hwfld⟩ := State.supply_leaves { v with fl := { v.fl with trainFails := fails } } 2 (decide (10 ≤ fails))
  change w.pw = v.pw at hwpw
  change w.fld F.PWR_STAT_vddq_missing = v.fld F.PWR_STAT_vddq_missing at hwfld
  rw [hu]
  clear hu u pw
  clear_value w v
  split
  · exact ⟨hwfld.trans hmissing, by rw [hwpw, hpw]⟩
  · exact ⟨hwfld.trans hmissing, by rw [hwpw, hpw]⟩

theorem State.trainAgain_leaves {s : State} (hmode : s.pw.mode = .dawn) (hstage : s.pw.stage = .training)
    (htr : s.pw.trans = none) (vddq : Bool) : let u := s.trainAgain vddq
    u.fld F.PWR_STAT_vddq_missing = (!vddq).toNat ∧ u.pw = (if vddq then { s.pw with trans := some .toFull } else s.pw) := by
  obtain ⟨hpw, hmissing⟩ := s.vddqShown_leaves vddq
  dsimp only
  have heq : s.trainAgain vddq = if vddq then { s.vddqShown vddq with pw := { (s.vddqShown vddq).pw with trans := some .toFull } }
      else s.vddqShown vddq := if_neg (by simp [hmode, hstage, htr])
  rw [heq]
  split
  · exact ⟨hmissing, by rw [hpw]⟩
  · exact ⟨hmissing, hpw⟩

/-! ### The full set is loaded, and the engines (R379, R521, R522) -/

theorem State.calBegin_leaves (s : State) (h : Bool) (kind : Nat) : (s.calBegin h kind).pw = s.pw ∧
    (s.calBegin h kind).up = s.up := by
  unfold State.calBegin
  dsimp only
  split
  · exact ⟨rfl, rfl⟩
  · exact ⟨rfl, rfl⟩

/-- The set that is loaded lies in DRAM. -/
def State.inDram (s : State) : State :=
  { s with
    pw := { s.pw with stage := .engines }
    up := if s.loadSet then { s.up with copyB := true } else { s.up with copyA := true } }

/-- The calibrations of L and H begin. -/
def State.calibrates (s : State) : State :=
  let s := if s.eFld F.PWR_RADIO_PERS_l_mode = 0 ∨ s.lh.l.stopped then s else s.calBegin false 2
  if s.eFld F.PWR_RADIO_PERS_h_en = 0 ∨ s.lh.h.stopped then s else s.calBegin true 2

theorem State.setInDram_leaves {s : State} (x : Straps) (hmode : s.pw.mode = .dawn) (hstage : s.pw.stage = .loading)
    (hset : s.setCheck s.loadSet allComps = none) : let u := s.setInDram x
    u.pw = { s.pw with stage := .engines } ∧ u.hasCopy s.loadSet = true := by
  have hcal {v : State} (h : v.pw = { s.pw with stage := .engines } ∧ v.hasCopy s.loadSet = true) (p : Prop) [Decidable p]
      (side : Bool) : let w := if p then v else v.calBegin side 2
      w.pw = { s.pw with stage := .engines } ∧ w.hasCopy s.loadSet = true := by
    obtain ⟨hpw, hup⟩ := v.calBegin_leaves side 2
    dsimp only
    split
    · exact h
    · refine ⟨hpw.trans h.1, ?_⟩
      unfold State.hasCopy at *
      rw [hup]
      exact h.2
  have heq : s.setInDram x = s.inDram.calibrates := by
    unfold State.setInDram
    rw [if_neg (by simp [hmode, hstage])]
    dsimp only
    rw [hset]
    rfl
  rw [heq]
  have hv : s.inDram.pw = { s.pw with stage := .engines } ∧ s.inDram.hasCopy s.loadSet = true := by
    refine ⟨rfl, ?_⟩
    unfold State.hasCopy State.inDram
    cases s.loadSet
    · rfl
    · rfl
  exact hcal (hcal hv _ false) _ true

section
variable {a b : State} (h : Stays a b)
include h

theorem Stays.tableEvent (t st op c d : Nat) (k : Bytes) : Stays a (b.tableEvent t st op c d k) := by
  unfold State.tableEvent
  split
  · exact h
  · exact h.event _ _

theorem Stays.changed (t op : Nat) (c : Option Nat) (d : Nat) (k : Bytes) : Stays a (b.changed t op c d k) := by
  have hseq : Stays a (b.seqNext t) := h.setFld (by simp only [F.PCT_SEQ_seq, startRegs]; simp; omega) _
  unfold State.changed
  split
  · split
    · exact hseq
    · exact hseq.tableEvent _ _ _ _ _ _
  · exact hseq

theorem Stays.setPt (x : Pt) : Stays a { b with pt := x } := h.set rfl rfl rfl rfl

theorem Stays.setRoute (addr parent depth ctx : Nat) (cause : Option Nat) : Stays a (b.setRoute addr parent depth ctx cause) := by
  unfold State.setRoute
  split
  · exact (h.setPt _).changed _ _ _ _ _
  · split
    · exact (h.setPt _).changed _ _ _ _ _
    · exact h

theorem Stays.rebuildCtx (n : Nat) (m : Mirror) : Stays a (b.rebuildCtx n m) := by
  unfold State.rebuildCtx
  split
  · exact h.count (by decide) 1
  · extract_lets c v
    have hv : Stays a v := h.setPt _
    split
    · exact hv.setRoute _ _ _ _ _
    · exact hv

end

/-- The tables as they are rebuilt, before their sequence numbers start again. -/
def State.rebuilt (s : State) (lost : List Nat) : State :=
  let (b, s) := s.draw 8
  let s : State := { s with pt := { seed := b.le 0 8, freed := s.pt.freed, freedCtx := s.pt.freedCtx } }
  s.each s.nv.mirror fun s p =>
    if lost.contains p.1 then s.count F.PCT_MIRROR_ctx_lost else s.rebuildCtx p.1 p.2

theorem State.rebuild_eq (s : State) (lost : List Nat) : s.rebuild lost =
    (((s.rebuilt lost).each (List.range 6) fun s t => s.setFld (F.PCT_SEQ_seq t) 0).nodeCnt).each (List.range 6)
      fun s t => s.tableEvent t 4 0 0 0 [] := rfl

theorem Stays.rebuilt {a b : State} (h : Stays a b) (lost : List Nat) : Stays a (b.rebuilt lost) := by
  have hdrawn : Stays a (b.draw 8).2 := h.set rfl rfl rfl rfl
  unfold State.rebuilt
  generalize b.draw 8 = x at *
  obtain ⟨y, v⟩ := x
  dsimp only at *
  refine Stays.each (hdrawn.setPt _) _ fun p hc => ?_
  split
  · exact hc.count (by decide) 1
  · exact hc.rebuildCtx p.1 p.2

theorem Stays.rebuild {a b : State} (h : Stays a b) (lost : List Nat) : Stays a (b.rebuild lost) := by
  rw [State.rebuild_eq]
  have hseq : Stays a ((b.rebuilt lost).each (List.range 6) fun s t => s.setFld (F.PCT_SEQ_seq t) 0) :=
    (h.rebuilt lost).each _ fun t hc => hc.setFld (by simp only [F.PCT_SEQ_seq, startRegs]; simp; omega) 0
  have hcnt : Stays a (((b.rebuilt lost).each (List.range 6) fun s t => s.setFld (F.PCT_SEQ_seq t) 0).nodeCnt) :=
    hseq.setFld (by decide) _
  exact hcnt.each _ fun t hc => hc.tableEvent _ _ _ _ _ _

/-- The sequence numbers below `n` are cleared. -/
theorem State.seqsZero_fld (s : State) (k n : Nat) (hk : k < n) :
    (s.each (List.range n) fun s t => s.setFld (F.PCT_SEQ_seq t) 0).fld (F.PCT_SEQ_seq k) = 0 := by
  have happ (v : State) (l : List Nat) (t : Nat) : v.each (l ++ [t]) (fun s t => s.setFld (F.PCT_SEQ_seq t) 0) =
      (v.each l fun s t => s.setFld (F.PCT_SEQ_seq t) 0).setFld (F.PCT_SEQ_seq t) 0 := by
    induction l generalizing v with
    | nil => rfl
    | cons x l ih => exact ih _
  induction n with
  | zero => exact absurd hk (Nat.not_lt_zero k)
  | succ n ih =>
    rw [List.range_succ, happ]
    by_cases hkn : k = n
    · subst hkn
      exact State.fld_setFld_eq _ (by simp only [F.PCT_SEQ_seq]; decide) (by simp only [F.PCT_SEQ_seq, Fld.width]; decide)
    · refine (State.fld_setFld_off _ _ _ _ (by simp only [F.PCT_SEQ_seq]; omega)).trans (ih (by omega))

/-- Every table's sequence number starts again. -/
theorem State.rebuild_seq (s : State) (lost : List Nat) : ∀ k < 6, (s.rebuild lost).fld (F.PCT_SEQ_seq k) = 0 := by
  intro k hk
  rw [State.rebuild_eq]
  have hcount (v : State) (l : List Nat) (hv : v.fld (F.PCT_SEQ_seq k) = 0) :
      (v.each l fun s t => s.tableEvent t 4 0 0 0 []).fld (F.PCT_SEQ_seq k) = 0 := by
    induction l generalizing v with
    | nil => exact hv
    | cons t l ih =>
      refine ih _ ?_
      obtain ⟨hev, -⟩ := v.tableEvent_leaves t 4 0 0 0 []
      exact (hev.fld (by unfold offHif; simp only [F.PCT_SEQ_seq]; omega) List.not_mem_nil).trans hv
  refine hcount _ _ ((State.fld_setFld_off _ _ _ _ (by simp only [F.PCT_SEQ_seq, F.MSH_NODE_CNT_contexts]; omega)).trans ?_)
  exact State.seqsZero_fld _ k 6 hk

/-- A stage of the start is reached. -/
def State.atStage (s : State) (x : Stage) : State := { s with pw := { s.pw with stage := x } }

theorem State.atStage_leaves (s : State) (x : Stage) : (s.atStage x).pw = { s.pw with stage := x } ∧
    ∀ f : Fld, (s.atStage x).fld f = s.fld f := ⟨rfl, fun _ => rfl⟩

theorem State.enginesIn_leaves {s : State} (lost : List Nat) (x : Straps) (hmode : s.pw.mode = .dawn)
    (hstage : s.pw.stage = .engines) (htr : s.pw.trans = some .toFull) : let u := s.enginesIn true lost x
    u.pw = { s.pw with stage := .done } ∧ ∀ k < 6, u.fld (F.PCT_SEQ_seq k) = 0 := by
  have heq : s.enginesIn true lost x = (s.rebuild lost).atStage .done := by
    unfold State.enginesIn
    rw [if_neg (by simp [hmode, hstage, htr]), if_neg (by decide)]
    rfl
  obtain ⟨hpw, hfld⟩ := (s.rebuild lost).atStage_leaves .done
  have hstays := ((Stays.refl s).rebuild lost).pw
  rw [heq]
  dsimp only
  refine ⟨?_, fun k hk => (hfld _).trans (s.rebuild_seq lost k hk)⟩
  rw [hpw, hstays]

/-! ### A load fails (R49, R522) -/

theorem State.ent_setFails (s : State) (b : Bool) : (s.setFails b).ent (!b) = s.ent (!b) := by
  unfold State.setFails
  split
  · rfl
  · extract_lets v
    have hv : v.ent (!b) = s.ent (!b) := by
      unfold v
      rw [State.ent_updDir]
      unfold State.ent
      cases s.dir with
      | none => rfl
      | some d =>
        dsimp only [Option.map_some, Option.getD_some]
        split
        · exact Dir.ent_setEnt_other d b _
        · exact Dir.ent_setEnt_other d b _
    have hnv : ((v.count F.UPD_CNT_fallbacks).updEvent 5 b).nv = v.nv := rfl
    rw [Stays.nv_dir hnv, hv]

/-- With no other set to load, the device is reset and starts. -/
theorem State.loadFails_started {s : State} (status : Nat) (x : Straps) (h : (s.ent (!s.loadSet)).usable = false) :
    Started (s.loadFails status x) x F.PWR_RESET_CAUSE_wdog := by
  unfold State.loadFails
  extract_lets b v up w
  have hv : v.ent (!b) = s.ent (!b) := by
    unfold v
    split
    · exact s.ent_setFails b
    · rfl
  have hw : w.ent (!b) = v.ent (!b) := by
    unfold w
    split
    · refine Stays.nv_dir ?_ _
      unfold State.finishOp
      split
      · rfl
      · rfl
    · rfl
  rw [if_neg (by rw [hw, hv, h]; exact Bool.false_ne_true)]
  exact (State.resetDown_startUp w false x (cause := F.PWR_RESET_CAUSE_wdog) ⟨rfl, rfl, by decide⟩).2

theorem State.enginesIn_fails {s : State} (lost : List Nat) (x : Straps) (hmode : s.pw.mode = .dawn)
    (hstage : s.pw.stage = .engines) (htr : s.pw.trans = some .toFull) (h : (s.ent (!s.loadSet)).usable = false) :
    Started (s.enginesIn false lost x) x F.PWR_RESET_CAUSE_wdog := by
  unfold State.enginesIn
  rw [if_neg (by simp [hmode, hstage, htr]), if_pos (by decide)]
  exact State.loadFails_started _ x h

/-- BOOT_WATCHDOG_EXPIRY. -/
def State.wdogFires (s : State) (x : Straps) : State :=
  match s.pw.wdog with
  | some d =>
    if s.now < d then s
    else if s.pw.trans = some .pause then s.restart x F.PWR_RESET_CAUSE_wdog
    else s.loadFails stTIMEOUT x
  | none => s

theorem State.wdogFires_early {s : State} (x : Straps) {d : Nat} (hd : s.pw.wdog = some d) (h : s.now < d) :
    s.wdogFires x = s := by
  unfold State.wdogFires
  rw [hd]
  exact if_pos h

theorem State.wdogFires_late {s : State} (x : Straps) {d : Nat} (hd : s.pw.wdog = some d) (h : d ≤ s.now)
    (hor : s.pw.trans = some .pause ∨ (s.ent (!s.loadSet)).usable = false) :
    Started (s.wdogFires x) x F.PWR_RESET_CAUSE_wdog := by
  unfold State.wdogFires
  rw [hd]
  dsimp only
  rw [if_neg (by omega)]
  split
  · exact (State.resetDown_startUp s false x (cause := F.PWR_RESET_CAUSE_wdog) ⟨rfl, rfl, by decide⟩).2
  next htr => exact State.loadFails_started _ x (hor.resolve_left htr)

/-! ### Full is reached from Dawn (R47, R63) -/

section
variable {a b : State} (h : Stays a b)
include h

theorem Stays.lhServe : Stays a b.lhServe := by
  refine h.each _ fun x hc => ?_
  extract_lets m
  split
  · exact hc
  · exact hc.setFld (f := radioEff x) (by cases x <;> decide) _

theorem Stays.lapseConn (k : Nat) (c : Conn) : Stays a (b.lapseConn k c) := by
  unfold State.lapseConn
  extract_lets v own
  have hv : Stays a v := h.set rfl rfl rfl rfl
  clear_value v
  exact (hv.set (u := { v with ml := { v.ml with dl := v.ml.dl.filter fun d => !own d } }) rfl rfl rfl rfl).connCnt

theorem Stays.lapseTimedOut : Stays a b.lapseTimedOut := by
  refine h.each _ fun p hc => ?_
  split
  · exact (hc.lapseConn p.1 p.2).count (by decide) 1
  · exact hc

end

/-- The snapshot's period starts. -/
def State.snapStarts (s : State) : State := { s with pw := { s.pw with snapAt := s.now } }

theorem State.fullStarts_stays (s : State) : Stays s.snapStarts s.fullStarts := by
  unfold State.fullStarts
  extract_lets shapers qm pt pw v rs w
  have hv : Stays s.snapStarts v := .free rfl rfl rfl rfl
  clear_value v
  have hw : Stays s.snapStarts w := by
    unfold w
    split
    · exact hv
    · exact (hv.set (u := { v with rs := { v.rs with calHeld := 0, calFull := v.rs.calFull || v.rs.calHeld == 2 } }) rfl rfl rfl
        rfl).setFld (by decide) 1
  exact hw.opStart

/-- The set that runs from now on. -/
theorem State.setRuns_leaves (s : State) (b : Bool) : let u := s.setRuns b
    u.pw = s.pw ∧ u.up.running = some b ∧ u.tw = s.tw ∧ u.io = s.io ∧ u.now = s.now := by
  unfold State.setRuns
  extract_lets up v upv u
  have hv : v.pw = s.pw ∧ v.up.running = some b ∧ v.tw = s.tw ∧ v.io = s.io ∧ v.now = s.now := ⟨rfl, rfl, rfl, rfl, rfl⟩
  unfold u upv
  clear u upv
  clear_value v
  split
  · have hnv := v.updDir_nv fun d => d.setEnt b { d.ent b with tries := 3 }
    obtain ⟨hpw, hrun, htw, hio, hnow⟩ := hv
    exact ⟨(congrArg State.pw hnv :).trans hpw, (congrArg (fun z : State => z.up.running) hnv :).trans hrun,
      (congrArg State.tw hnv :).trans htw, (congrArg State.io hnv :).trans hio, (congrArg State.now hnv :).trans hnow⟩
  · split
    · exact hv
    · exact hv

/-- The mode is Full, and the set that was loaded runs. -/
def State.fullShown (s : State) : State :=
  let after := s.pw.retry || s.pw.loadFault || s.pw.refBack
  let s := s.modeIs .full
  let s : State := { s with pw := { s.pw with
    stage := .done, wdog := none, requestedDawn := false, retry := false, loadFault := false, refBack := false
    returnedAt := if after then some s.now else s.pw.returnedAt } }
  let s := (s.setRuns s.loadSet).setFld F.TPL_STAT_dawn_active 0
  if s.fld F.PWR_START_TIME_full_ms = 0 then s.stamp F.PWR_START_TIME_full_ms else s

theorem State.fullShown_leaves (s : State) : let u := s.fullShown
    u.pw.mode = .full ∧ u.pw.trans = none ∧ u.pw.wdog = none ∧ u.pw.prevMode = s.pw.mode.code ∧
      u.up.running = some s.loadSet ∧ u.fld F.TPL_STAT_dawn_active = 0 ∧ (Alone s → Alone u) := by
  have hm := s.modeIs_moved .full
  unfold State.fullShown
  extract_lets after m pw v w u
  change MovedTo s m .full at hm
  have hmup : m.up = s.up := (congrArg State.up hm.parts :)
  have hmtw : m.tw = s.tw := (congrArg State.tw hm.parts :)
  have hmpw := hm.pw
  clear_value m
  have hv : v.pw.mode = .full ∧ v.pw.trans = none ∧ v.pw.wdog = none ∧ v.pw.prevMode = s.pw.mode.code ∧ v.loadSet = s.loadSet ∧
      v.tw = s.tw := by
    have hload : v.loadSet = s.loadSet := by
      unfold State.loadSet
      rw [show v.up = s.up from hmup]
    refine ⟨?_, ?_, rfl, ?_, hload, hmtw⟩
    · show m.pw.mode = .full
      rw [hmpw]
    · show m.pw.trans = none
      rw [hmpw]
    · show m.pw.prevMode = _
      rw [hmpw]
  clear_value v
  obtain ⟨hmode, htr, hwd, hprev, hload, htw⟩ := hv
  obtain ⟨hrpw, hrun, hrtw, -, -⟩ := v.setRuns_leaves v.loadSet
  have hw : w.pw = v.pw ∧ w.up.running = some v.loadSet ∧ w.tw = v.tw ∧ w.fld F.TPL_STAT_dawn_active = 0 :=
    ⟨hrpw, hrun, hrtw, State.fld_setFld_eq _ (by decide) (by decide)⟩
  clear_value w
  have hu : u.pw = v.pw ∧ u.up.running = some v.loadSet ∧ u.tw = v.tw ∧ u.fld F.TPL_STAT_dawn_active = 0 := by
    unfold u
    split
    · obtain ⟨n, x, heq⟩ := w.stamp_leaves F.PWR_START_TIME_full_ms
      obtain ⟨h1, h2, h3, h4⟩ := hw
      rw [heq]
      exact ⟨h1, h2, h3, (State.fld_setFld_off w _ _ _ (by decide)).trans h4⟩
    · exact hw
  clear_value u
  obtain ⟨h1, h2, h3, h4⟩ := hu
  refine ⟨by rw [h1, hmode], by rw [h1, htr], by rw [h1, hwd], by rw [h1, hprev], by rw [h2, hload], h4, fun ha => ?_⟩
  unfold Alone State.peerAlive at *
  rw [h3, htw]
  exact ha

/-- What is left to do in Full. -/
def State.fullWorks (s : State) : State :=
  let s := ((s.lhServe.lapseTimedOut.fullStarts.reclaim).finishMode 3 stOK).finishMode 4 stOK
  match s.up.job with
  | some (.activate _ _) => ({ s with up := { s.up with job := none } }).finishOp 0x0803 stOK
  | _ => s

theorem State.fullFromDawn_eq (s : State) : s.fullFromDawn = s.fullShown.fullWorks := by
  unfold State.fullFromDawn
  extract_lets after m pw v w x y
  have hx : x = s.fullShown := by
    unfold State.fullShown
    with_reducible rfl
  rw [← hx]
  clear_value x
  rfl

theorem State.fullWorks_stays {s : State} (ha : Alone s) : ∃ v, Stays s v ∧ Stays v.snapStarts s.fullWorks := by
  have hv : Stays s s.lhServe.lapseTimedOut := (Stays.refl s).lhServe.lapseTimedOut
  refine ⟨s.lhServe.lapseTimedOut, hv, ?_⟩
  unfold State.fullWorks
  generalize s.lhServe.lapseTimedOut = v at *
  have hva : Alone v.snapStarts := hv.alone ha
  extract_lets w up
  have hw : Stays v.snapStarts w := ((v.fullStarts_stays.reclaim hva 1).finishKey _ _ _ _).finishKey _ _ _ _
  clear_value w
  split
  · exact (hw.trans (c := { w with up := { w.up with job := none } }) ⟨rfl, rfl, rfl, rfl, fun _ _ => rfl⟩).finishOp _ _ _
  · exact hw

/-- Full is reached from Dawn. -/
theorem State.fullReached_leaves {s : State} (lost : List Nat) (ok : Bool) (hmode : s.pw.mode = .dawn) (hstage : s.pw.stage = .done)
    (htr : s.pw.trans = some .toFull) (href : s.ck.refFailed = false) (hl : s.lhReady false = true) (hh : s.lhReady true = true)
    (ha : Alone s) : let u := s.fullReached ok lost
    u.pw.mode = .full ∧ u.pw.trans = none ∧ u.pw.wdog = none ∧ u.up.running = some s.loadSet ∧
      u.fld F.TPL_STAT_dawn_active = 0 ∧ u.pw.prevMode = 2 := by
  have heq : s.fullReached ok lost = s.fullShown.fullWorks.drainEvents := by
    unfold State.fullReached
    rw [if_neg (by rw [href]; decide), if_pos ⟨hmode, hstage, htr⟩, hl, hh, Bool.and_true, if_pos rfl,
      State.fullFromDawn_eq]
  obtain ⟨hfull, hnone, hwd, hprev, hrun, hactive, halone⟩ := s.fullShown_leaves
  rw [heq]
  generalize s.fullShown = v at *
  obtain ⟨w, hw, hu⟩ := State.fullWorks_stays (halone ha)
  have hd := hu.drainEvents
  generalize v.fullWorks.drainEvents = u at *
  have hfield {α : Type} (g : Pw → α) (hg : g w.snapStarts.pw = g w.pw) : g u.pw = g v.pw :=
    ((congrArg g hd.pw).trans hg).trans (congrArg g hw.pw)
  refine ⟨(hfield Pw.mode rfl).trans hfull, (hfield Pw.trans rfl).trans hnone, (hfield Pw.wdog rfl).trans hwd, ?_, ?_, ?_⟩
  · exact (hd.running.trans hw.running).trans hrun
  · exact (hd.fld (by decide)).trans ((hw.fld (by decide)).trans hactive)
  · exact (hfield Pw.prevMode rfl).trans (hprev.trans (by rw [hmode]; rfl))

/-- Settles O21: each stage of the start takes it one stage on, or gives it up. -/
theorem stagedStart : Obligations.StagedStart := by
  intro t x lost s href hmode ha
  have hat : (s.at t).ck.refFailed = false := href
  refine ⟨fun hstage hhold => ⟨?noFlash, fun h => ?none, fun b h => ?some⟩, fun hstage htr hlock => ?onAir,
    fun hstage => ⟨fun htr hA hB hD vddq ok => ?trained, fun htr vddq => ?again⟩, fun hstage hset => ?loaded,
    fun hstage htr => ⟨?engines, fun h => ?fails⟩, fun hstage htr hl hh ok => ?full, fun d hd => ⟨fun h => ?early, fun h hor => ?late⟩⟩
  case noFlash =>
    exact ⟨_, rfl, State.dawnImage_noFlash (s := s.at t) hmode hstage hhold href ha⟩
  case none => exact ⟨_, rfl, State.dawnImage_none (s := s.at t) hmode hstage hhold href ha h⟩
  case some =>
    obtain ⟨hpw, hrun, himage, hcode⟩ := State.dawnImage_some (s := s.at t) hmode hstage hhold href ha h
    exact ⟨_, rfl, (congrArg Pw.mode hpw).trans hmode, congrArg Pw.stage hpw, hrun, himage, hcode⟩
  case onAir =>
    obtain ⟨hst, htf, hwd, hactive, hms, htries⟩ := State.dawnOnAir_leaves (s := s.at t) hmode hstage htr href hlock ha
    exact ⟨_, rfl, hst, htf, hwd, hactive, hms, htries⟩
  case trained => exact ⟨_, rfl, State.trained_leaves (s := s.at t) hstage htr href hA hB hD vddq ok⟩
  case again => exact ⟨_, rfl, State.trainAgain_leaves (s := s.at t) hmode hstage htr vddq⟩
  case loaded => exact ⟨_, rfl, State.setInDram_leaves (s := s.at t) x hmode hstage hset⟩
  case engines => exact ⟨_, rfl, State.enginesIn_leaves (s := s.at t) lost x hmode hstage htr⟩
  case fails =>
    exact ⟨_, rfl, State.enginesIn_fails (s := s.at t) lost x hmode hstage htr h⟩
  case full => exact ⟨_, rfl, State.fullReached_leaves (s := s.at t) lost ok hmode hstage htr href hl hh ha⟩
  case early =>
    exact run_eq_next (f := fun s => s.wdogFires x) (State.wdogFires_early (s := s.at t) x hd h) rfl
  case late => exact ⟨_, rfl, State.wdogFires_late (s := s.at t) x hd h hor⟩

end Sys2Proof.Machine
end

-- ==== What held frames and repairs leave alone (02_modes_power_start, 20_faults_background) ====
section
/-!
SUPPORT. The close of a fault window, and what else keeps the power state and the claims' inputs.
-/

namespace Sys2Proof.Machine

/-! ### What held frames, repairs and the radios leave alone while a move is completed

`Steady a b`: the power state, the role, the peer's claim and `CLK_STAT` are in `b` as in `a`. -/

structure Steady (a b : State) : Prop where
  pw : b.pw = a.pw
  role : b.tw.role = a.tw.role
  claimIn : b.tw.claimIn = a.tw.claimIn
  clk : b.word 0x020000 = a.word 0x020000

theorem Steady.refl (s : State) : Steady s s := ⟨rfl, rfl, rfl, rfl⟩

theorem Steady.trans {a b c : State} (h : Steady a b) (h' : Steady b c) : Steady a c :=
  ⟨h'.pw.trans h.pw, h'.role.trans h.role, h'.claimIn.trans h.claimIn, h'.clk.trans h.clk⟩

theorem Steady.alone {a b : State} (h : Steady a b) (ha : Alone a) : Alone b := by
  obtain ⟨hrole, hpeer⟩ := ha
  exact ⟨h.role.trans hrole, (congrArg (bitN · 3) h.claimIn :).trans hpeer⟩

theorem Steady.fld {a b : State} (h : Steady a b) {f : Fld} (hf : f.off = 0x020000) : b.fld f = a.fld f :=
  State.fld_of_word (by rw [hf]; exact h.clk)

/-- Only the interface changed, and not `CLK_STAT`. -/
theorem Steady.ofIo {a b : State} (hparts : { b with io := a.io } = a) (hclk : b.word 0x020000 = a.word 0x020000) : Steady a b :=
  ⟨(congrArg State.pw hparts :), (congrArg (fun z : State => z.tw.role) hparts :),
    (congrArg (fun z : State => z.tw.claimIn) hparts :), hclk⟩

theorem Calm.steady {a b : State} (h : Calm a b) : Steady a b :=
  ⟨h.part State.pw fun _ _ _ _ _ _ _ _ _ _ => rfl, h.role, h.claimIn, h.io.word _ (by decide)⟩

theorem Points.steady {a b : State} (h : Points a b) : Steady a b := by
  have htw : b.tw = a.tw := h.part State.tw fun _ _ _ => rfl
  exact ⟨h.part State.pw fun _ _ _ => rfl, congrArg Tw.role htw, congrArg Tw.claimIn htw, h.io.word _ (by decide)⟩

section
variable {a b : State} (h : Steady a b)
include h

/-- Parts of the state that count for nothing here. -/
theorem Steady.set {u : State} (hpw : u.pw = b.pw) (hrole : u.tw.role = b.tw.role) (hin : u.tw.claimIn = b.tw.claimIn)
    (hio : u.io.regs = b.io.regs) : Steady a u :=
  h.trans ⟨hpw, hrole, hin, congrArg (fun l => Tbl.getD l 0x020000 (regReset 0x020000)) hio⟩

theorem Steady.setFld {f : Fld} (hoff : f.off ≠ 0x020000) (v : Nat) : Steady a (b.setFld f v) :=
  h.trans (.ofIo rfl (State.word_setFld_off b f v hoff))

theorem Steady.count {f : Fld} (hoff : f.off ≠ 0x020000) (n : Nat) : Steady a (b.count f n) := h.setFld hoff _

theorem Steady.latchRegs (l : List Nat) : Steady a (b.latchRegs l) := h.trans (.ofIo rfl (Io.latchRegs_word b.io l 0x020000))

theorem Steady.posts {u : State} (hu : { u with io := b.io } = b) (hio : Posts b.io u.io) : Steady a u :=
  h.trans (.ofIo hu (hio.word _ (by decide)))

theorem Steady.event (ty : Nat) (x : Bytes) : Steady a (b.event ty x) := h.posts rfl (Posts.event b.io b.now b.evOk ty x)

theorem Steady.log (k src d : Nat) : Steady a (b.log k src d) := h.set rfl rfl rfl rfl

theorem Steady.faultEv (c r d : Nat) : Steady a (b.faultEv c r d) := (h.log c r d).event _ _

theorem Steady.complete (c : Cpl) : Steady a (b.complete c) := h.posts rfl (Posts.complete b.io b.now c)

theorem Steady.reclaim (ha : Alone a) (cause : Nat) : Steady a (b.reclaim cause) := by
  have hc := State.reclaim_leaves (h.alone ha) cause
  exact h.trans ⟨hc.part State.pw fun _ _ _ _ _ => rfl, (congrArg Tw.role hc.tw :), (congrArg Tw.claimIn hc.tw :), hc.word _⟩

theorem Steady.drainEvents : Steady a b.drainEvents := h.posts rfl (Posts.drain b.io b.now b.evOk b.io.hf.evHeld)

theorem Steady.finishKey (op key st r : Nat) : Steady a (b.finishKey op key st r) := by
  unfold State.finishKey
  split
  · exact h.trans (.ofIo (b.finish_parts _ st r) (b.finish_low _ st r (by decide)))
  · exact h

theorem Steady.updatePool : Steady a b.updatePool := h.trans (Ports.refl b).updatePool.calm.steady

end

theorem Steady.each {α : Type} {f : State → α → State} {a b : State} (h : Steady a b) (l : List α)
    (hf : ∀ {c : State} (x : α), Steady a c → Steady a (f c x)) : Steady a (b.each l f) := by
  induction l generalizing b with
  | nil => exact h
  | cons x l ih => exact ih (hf x h)

/-! ### A frame that injection held goes on (R557, R559) -/

section
variable {a b : State} (h : Steady a b)
include h

theorem Steady.toSorter (p : Packet) : Steady a (b.toSorter p) :=
  (h.set (u := { b with sr := { b.sr with input := b.sr.input ++ [(b.sorterOf p, p)] } }) rfl rfl rfl rfl).updatePool

theorem Steady.ethAccept {p : Nat} (hp : p < 2) (x : Bytes) (ok noCt : Bool) : Steady a (b.ethAccept p x ok noCt) := by
  have hoff : (F.ETH_RX_ERR_len_err p).off ≠ 0x020000 ∧ (F.ETH_RX_ERR_fcs_err p).off ≠ 0x020000 ∧
      (F.ETH_RX_FRAMES_frames p).off ≠ 0x020000 ∧ (F.ETH_DROP_headroom_drop p).off ≠ 0x020000 ∧
      (F.ETH_DROP_adm_drop p).off ≠ 0x020000 := by
    match p, hp with
    | 0, _ => decide
    | 1, _ => decide
  obtain ⟨hlen, hfcs, hframes, hroom, hadm⟩ := hoff
  unfold State.ethAccept
  extract_lets latched len badLen counted bad q vid untagged
  have hlatched : Steady a latched := h.latchRegs _
  clear_value latched
  have hcounted : Steady a counted := by
    unfold counted
    split
    · exact hlatched.count hlen 1
    · split
      · exact hlatched.count hfcs 1
      · exact hlatched.setFld hframes _
  clear_value counted
  split
  · exact hcounted
  · split
    · exact hcounted.toSorter _
    · exact hcounted.toSorter _
    · exact hcounted.count hroom 1
    · exact hcounted.count hadm 1

theorem Steady.setQueue (n : Nat) (q : Queue) : Steady a (b.setQueue n q) := h.set rfl rfl rfl rfl

theorem Steady.joinRound (e n : Nat) : Steady a (b.joinRound e n) := by
  unfold State.joinRound
  extract_lets q q' v r w
  have hv : Steady a v := h.setQueue _ _
  clear_value v
  split
  · exact hv
  · have hw : Steady a w := hv.set rfl rfl rfl rfl
    clear_value w
    split
    · unfold State.giveHead
      split
      · exact hw.setQueue _ _
      · exact hw
    · exact hw

end

theorem Steady.flushRx {a b : State} (h : Steady a b) (n fuel : Nat) : Steady a (b.flushRx n fuel) := by
  induction fuel generalizing b with
  | zero => exact h
  | succ k ih =>
    unfold State.flushRx
    split
    · exact h
    next x _ =>
      split
      · exact h
      · exact ih ((h.set (u := { b with io := { b.io with hf := { b.io.hf with rxBufs := b.io.hf.rxBufs.erase x } } }) rfl rfl rfl
          rfl).complete _)

section
variable {a b : State} (h : Steady a b)
include h

theorem Steady.fillRx (r : Nat) (p : Packet) : Steady a (b.fillRx r p) := by
  unfold State.fillRx
  split
  · extract_lets q v
    have hv : Steady a v := h.setQueue _ _
    split
    · exact hv.joinRound _ _
    · exact hv
  · split
    · exact h.count (by decide) 1
    · extract_lets old hf io v w
      have hv : Steady a v := h.set rfl rfl rfl rfl
      exact (hv.complete _).flushRx _ _

theorem Steady.twinSend (ty : Nat) (x : Bytes) : Steady a (b.twinSend ty x) := by
  unfold State.twinSend
  split
  · exact h.set rfl rfl rfl rfl
  · exact h

theorem Steady.sendLease : Steady a b.sendLease := by
  unfold State.sendLease
  split
  · exact (h.set (u := { b with tw := { b.tw with leaseAt := b.now } }) rfl rfl rfl rfl).twinSend _ _
  · exact h

theorem Steady.twinFault : Steady a b.twinFault := h.trans (Calm.refl b).twinFault.steady

theorem Steady.onHello (mode : Nat) (absent heard : Bool) : Steady a (b.onHello mode absent heard) := by
  unfold State.onHello
  extract_lets tw v
  have hv : Steady a v := h.set rfl rfl rfl rfl
  clear_value v
  split
  · exact ((hv.set (u := { v with tw := { v.tw with link := .up } }) rfl rfl rfl rfl).event _ _).sendLease.twinFault
  · exact hv.twinFault

theorem Steady.onTime (slot at_ : Nat) : Steady a (b.onTime slot at_) := by
  unfold State.onTime
  split
  · exact h
  · extract_lets d k off here ml tw v
    have hv : Steady a v := h.set rfl rfl rfl rfl
    exact (hv.setFld (by decide) 1).setFld (by decide) _

theorem Steady.mirror (n : Nat) (c : Ctx) (fail : Bool) : Steady a (b.mirror n c fail) := by
  unfold State.mirror
  split
  · exact ((h.count (by decide) 1).setFld (by decide) 1).faultEv _ _ _
  · exact h.set rfl rfl rfl rfl

theorem Steady.setCtx (n : Nat) (c : Ctx) (fail : Bool) : Steady a (b.setCtx n c fail) := by
  unfold State.setCtx
  extract_lets old pt v f ml w same
  have hw : Steady a w := by
    unfold w
    split
    · exact h.set rfl rfl rfl rfl
    · exact h.set rfl rfl rfl rfl
  clear_value w
  split
  · exact hw
  · exact hw.mirror _ _ _

theorem Steady.recordCtr (addr epoch ctr : Nat) (fail : Bool) : Steady a (b.recordCtr addr epoch ctr fail) := by
  unfold State.recordCtr
  extract_lets v
  have hv : Steady a v := by
    unfold v
    split
    · split
      · exact h
      · unfold State.ulWarn
        extract_lets lim before
        split
        · exact (h.setFld (by decide) 1).event _ _
        · exact h
    · exact h
  clear_value v
  split
  · split
    · exact hv.setCtx _ _ _
    · exact hv
  · split
    · exact hv.set rfl rfl rfl rfl
    · exact hv
  · exact hv

theorem Steady.heardCtx (addr : Nat) : Steady a (b.heardCtx addr) := by
  unfold State.heardCtx
  split
  · exact h.set rfl rfl rfl rfl
  · exact h

theorem Steady.updConnOf (addr : Nat) (f : Conn → Conn) : Steady a (b.updConnOf addr f) := by
  unfold State.updConnOf
  split
  · exact h.set rfl rfl rfl rfl
  · exact h

theorem Steady.shadowRecord (e : ShadowFrame) : Steady a (b.shadowRecord e) :=
  ((h.recordCtr _ _ _ _).updConnOf _ _).heardCtx _

theorem Steady.onSlotRec (slot : Nat) (link inner : List TRec) : Steady a (b.onSlotRec slot link inner) := by
  unfold State.onSlotRec
  split
  · exact h
  · extract_lets v listed mine tw w x
    have hv : Steady a v := h.count (by decide) 1
    clear_value v
    have hw : Steady a w := hv.set rfl rfl rfl rfl
    clear_value w
    have hx : Steady a x := hw.each _ fun e hc => hc.shadowRecord e
    clear_value x
    refine hx.each _ fun r hc => ?_
    split
    · split
      · exact (hc.recordCtr _ _ _ _).heardCtx _
      · exact hc
    · exact hc

theorem Steady.onLease (epoch n : Nat) (ok : Bool) : Steady a (b.onLease epoch n ok) := by
  unfold State.onLease
  split
  · exact h
  · split
    · exact h
    · split
      · exact (h.setFld (by decide) 1).faultEv _ _ _
      · extract_lets r' ms nv tw v
        have hv : Steady a v := h.set rfl rfl rfl rfl
        exact hv.twinSend _ _

theorem Steady.onLeaseAck (epoch n : Nat) : Steady a (b.onLeaseAck epoch n) := by
  unfold State.onLeaseAck
  split
  · exact h
  · extract_lets old hi v
    have hv : Steady a v := (h.setFld (by decide) _).setFld (by decide) _
    clear_value v
    split
    · exact hv.set rfl rfl rfl rfl
    · exact hv

theorem Steady.twinBody (m : TMsg) (ok : Bool) : Steady a (b.twinBody m ok) := by
  unfold State.twinBody
  split
  · exact h.onHello _ _ _
  · split
    · exact h.onTime _ _
    · exact h
  · split
    · exact h.onSlotRec _ _ _
    · exact h
  · split
    · exact h.onLease _ _ _
    · exact h
  · split
    · exact h.onLeaseAck _ _
    · exact h
  · split
    · exact h.set rfl rfl rfl rfl
    · exact h
  · split
    · exact h.set rfl rfl rfl rfl
    · exact h

theorem Steady.twinValid (m : TMsg) : Steady a (b.twinValid m).2 := by
  unfold State.twinValid
  extract_lets fresh ok
  split
  · exact h.set rfl rfl rfl rfl
  · exact h.count (by decide) 1

theorem Steady.twinAccept (m : TMsg) (ok : Bool) : Steady a (b.twinAccept m ok) := by
  have hvalid := h.twinValid m
  unfold State.twinAccept
  split
  next s hs =>
    rw [hs] at hvalid
    exact hvalid.twinBody m ok
  next s hs =>
    rw [hs] at hvalid
    exact hvalid

theorem Steady.fltRelease (x : FltHeld) : Steady a (b.fltRelease x) := by
  unfold State.fltRelease
  split
  · exact h.ethAccept (by decide) _ _ _
  · exact h.ethAccept (by decide) _ _ _
  · split
    · split
      · exact h
      · exact h.twinAccept _ _
    · exact h
  · split
    · exact h.toSorter _
    · exact h
  · split
    · exact h.fillRx _ _
    · exact h
  · exact h

/-- The close of a fault window. -/
theorem Steady.windowShut : Steady a b.windowShut := by
  unfold State.windowShut
  split
  · exact h
  · extract_lets held v fl w
    have hv : Steady a v := (h.setFld (by decide) 0).setFld (by decide) 0
    clear_value v
    have hw : Steady a w := hv.set rfl rfl rfl rfl
    exact (hw.log _ _ _).each _ fun x hc => hc.fltRelease x

end

end Sys2Proof.Machine
end

-- ==== Moves between modes (02_modes_power_start) ====
section
/-!
SUPPORT. Doze, the return from it, Hibernate, a requested Dawn and the periodic snapshot.
-/

namespace Sys2Proof.Machine

/-! ### What waits in the Sorters while queues and ports are emptied -/

theorem State.flowControl_input (s : State) : s.flowControl.sr.input = s.sr.input := by
  unfold State.flowControl
  split
  · rfl
  · refine State.each_const (fun z : State => z.sr.input) (fun z p => ?_) [0, 1] s
    split
    · rfl
    · extract_lets v
      refine State.each_const (fun z : State => z.sr.input) (fun z u => ?_) _ v
      extract_lets use xoff xon pool
      split
      · split
        · rfl
        · rfl
      · split
        · rfl
        · rfl

theorem State.updatePool_input (s : State) : s.updatePool.sr.input = s.sr.input := State.flowControl_input _

theorem State.dropQueue_input (s : State) (n : Nat) : (s.dropQueue n).sr.input = s.sr.input := State.updatePool_input _

theorem State.changed_sr (s : State) (t op : Nat) (c : Option Nat) (d : Nat) (k : Bytes) : (s.changed t op c d k).sr = s.sr := by
  have hseq : (s.seqNext t).sr = s.sr := rfl
  unfold State.changed
  generalize s.seqNext t = v at *
  dsimp only
  split
  · split
    · exact hseq
    · exact (congrArg State.sr (v.tableEvent_leaves _ _ _ _ _ _).1.1 :).trans hseq
  · exact hseq

theorem State.macForget_sr (s : State) (d : Nat) : (s.macForget d).sr = s.sr :=
  State.each_const (fun z : State => z.sr) (fun z k => State.changed_sr { z with pt := z.pt.delRec 3 k } _ _ _ _ _) _ s

/-- A packet that came from neither Ethernet nor Wi-Fi. -/
def Packet.stays (p : Packet) : Prop := match p.src with
  | .eth _ => False
  | .wifi _ _ => False
  | _ => True

/-- No packet from Ethernet or Wi-Fi waits in the Sorters. -/
def State.noneBridged (s : State) : Prop := ∀ f ∈ s.sr.input, f.2.stays

theorem State.ethDown_noneBridged {s : State} (h : s.noneBridged) (p : Nat) : (s.ethDown p).noneBridged := by
  unfold State.ethDown
  extract_lets off qs n dropped clear sr qm cleared forgotten
  have hdropped : dropped.noneBridged := by
    have hcount (v : State) (f : Fld) (k : Nat) : (v.count f k).sr.input = v.sr.input := rfl
    have hoff : off.sr.input = s.sr.input := rfl
    have hqs : (off.each qs State.dropQueue).sr.input = off.sr.input :=
      State.each_const (fun z : State => z.sr.input) (fun z q => z.dropQueue_input q) qs off
    have hin : dropped.sr.input = s.sr.input := (hcount _ _ _).trans (hqs.trans hoff)
    intro f hf
    exact h f (hin ▸ hf)
  clear_value dropped
  have hcleared : cleared.noneBridged := by
    intro f hf
    obtain ⟨x, hx, rfl⟩ := List.mem_map.mp hf
    have hsrc : (clear x.2).src = x.2.src := by
      unfold clear
      split
      · split
        · rfl
        · rfl
      · rfl
    have hstays := hdropped x hx
    unfold Packet.stays at *
    rw [hsrc]
    exact hstays
  clear_value cleared
  have hforgotten : forgotten.noneBridged := by
    unfold forgotten
    split
    · intro f hf
      exact hcleared f (by rw [← cleared.macForget_sr p]; exact hf)
    · exact hcleared
  clear_value forgotten
  split
  · exact h
  · intro f hf
    exact hforgotten f (forgotten.updatePool_input ▸ hf)

/-- What waits for the mesh or the host is all that is left (R52). -/
theorem State.dozeDrops_noneBridged (s : State) : s.dozeDrops.noneBridged := by
  unfold State.dozeDrops
  extract_lets bridged gone counted dropped sr kept
  have hkept : kept.noneBridged := by
    intro f hf
    obtain ⟨-, hb⟩ := List.mem_filter.mp hf
    unfold Packet.stays
    unfold bridged at hb
    revert hb
    cases f.2.src <;> simp
  clear_value kept
  have hdown := State.ethDown_noneBridged (State.ethDown_noneBridged hkept 0) 1
  intro f hf
  exact hdown f (State.updatePool_input _ ▸ hf)

theorem Calm.dozeDrops {a b : State} (h : Calm a b) : Calm a b.dozeDrops := by
  unfold State.dozeDrops
  extract_lets bridged gone counted dropped sr kept
  have hdropped : Ports counted dropped := (Ports.refl _).dropAll _
  have hcounted : Calm a counted := h.count (by decide) _
  clear_value counted
  have hkept : Calm a kept := (hcounted.trans hdropped.calm).setSr _
  clear_value kept
  exact hkept.trans ((((Ports.refl kept).ethDown 0).ethDown 1).updatePool).calm

theorem Calm.dropRetries {a b : State} (h : Calm a b) : Calm a b.dropRetries :=
  (h.count (f := F.QMS_DROP_mode_drop) (by decide) _).set _ _ _ _ _ _ _

theorem Calm.deauthAll {a b : State} (h : Calm a b) (x : Bool) : Calm a (b.deauthAll x) := by
  unfold State.deauthAll
  split
  · exact h
  · refine h.each _ fun c hc => ?_
    split
    · exact hc.io_ rfl ⟨fun _ _ => rfl, rfl⟩
    · exact hc

/-- Radios L and H are off. -/
theorem State.radiosOff_leaves (s : State) : Calm s s.radiosOff ∧ s.radiosOff.sr = s.sr ∧
    s.radiosOff.fld F.PWR_RADIO_PERS_l_eff = 0 ∧ s.radiosOff.fld F.PWR_RADIO_PERS_h_eff = 0 := by
  unfold State.radiosOff
  extract_lets kept off
  have hoff : Calm s off ∧ off.sr = s.sr ∧ off.fld F.PWR_RADIO_PERS_l_eff = 0 ∧ off.fld F.PWR_RADIO_PERS_h_eff = 0 := by
    have hkept : Calm s kept := (Calm.refl s).setLh _
    have hsr : kept.sr = s.sr := rfl
    clear_value kept
    refine ⟨(hkept.setFld (by decide) 0).setFld (by decide) 0, hsr, ?_, State.fld_setFld_eq _ (by decide) (by decide)⟩
    exact (State.fld_setFld_ne _ _ (by decide) (by decide)).trans (State.fld_setFld_eq _ (by decide) (by decide))
  clear_value off
  obtain ⟨hcalm, hsr, hl, hh⟩ := hoff
  have hstep (v : State) (x : Bool) {f : Fld} (hf : f.off = 0x010004) :
      (((v.setFld (F.LRX_STAT_cal.on x) 0).setFld (F.LRX_STAT_cal_valid.on x) 0).setFld (F.LRX_STAT_lock.on x) 0).fld f =
        v.fld f := by
    refine (State.fld_setFld_off _ _ _ _ ?_).trans ((State.fld_setFld_off _ _ _ _ ?_).trans (State.fld_setFld_off _ _ _ _ ?_))
    all_goals
      rw [hf]
      cases x <;> decide
  refine ⟨hcalm.each _ fun x hc => ?_, hsr, ?_, ?_⟩
  · exact ((hc.setFld (by cases x <;> decide) 0).setFld (by cases x <;> decide) 0).setFld (by cases x <;> decide) 0
  · exact ((hstep _ true rfl).trans (hstep _ false rfl)).trans hl
  · exact ((hstep _ true rfl).trans (hstep _ false rfl)).trans hh

/-! ### Doze is entered (R52, R72) -/

/-- The radios and ports are off, and what they held is given up. -/
def State.dozeOff (s : State) : State :=
  let s := s.windowShut
  let s := (((s.lhAbort false).lhAbort true).lhFlush false).lhFlush true
  let s := (s.deauthAll false).deauthAll true
  s.meshLate.dropRetries.dozeDrops.radiosOff

theorem State.dozeOff_leaves (s : State) : let u := s.dozeOff
    Steady s u ∧ u.noneBridged ∧ u.fld F.PWR_RADIO_PERS_l_eff = 0 ∧ u.fld F.PWR_RADIO_PERS_h_eff = 0 := by
  unfold State.dozeOff
  extract_lets w flushed told u
  unfold u
  clear u
  have hshut : Steady s w := (Steady.refl s).windowShut
  clear_value w
  have hflushed : Calm w flushed := (((((Calm.refl w).lhAbort false).lhAbort true).lhFlush false).lhFlush true)
  clear_value flushed
  have htold : Calm w told := (hflushed.deauthAll false).deauthAll true
  clear_value told
  have hdrops : Calm w told.meshLate.dropRetries.dozeDrops := htold.meshLate.dropRetries.dozeDrops
  have hnone := told.meshLate.dropRetries.dozeDrops_noneBridged
  generalize told.meshLate.dropRetries.dozeDrops = d at *
  obtain ⟨hcalm, hsr, hl, hh⟩ := d.radiosOff_leaves
  refine ⟨hshut.trans (hdrops.trans hcalm).steady, ?_, hl, hh⟩
  intro f hf
  exact hnone f (hsr ▸ hf)

theorem State.opStart_word (s : State) {off : Nat} (h : off ≠ 0x02000C) : s.opStart.word off = s.word off := by
  have hset (v : State) (f : Fld) (n : Nat) (hf : f.off = 0x02000C) : (v.setFld f n).word off = v.word off :=
    State.word_setFld_off v f n (by rw [hf]; exact h.symm)
  unfold State.opStart
  extract_lets latched limit p op ck begun busy
  have hlimit : limit.word off = s.word off := hset _ _ _ rfl
  clear_value limit
  have hbegun : begun.word off = s.word off := hlimit
  clear_value begun
  have hbusy : busy.word off = s.word off := (hset _ _ _ rfl).trans hbegun
  clear_value busy
  split
  · exact hset _ _ _ rfl
  · split
    · exact hlimit
    · split
      · exact hbusy
      · exact (hset _ _ _ rfl).trans hbusy

/-- On the way from `a` to `b` the mode, what waits in the Sorters and the words that show Doze stayed. -/
structure StillDozes (a b : State) : Prop where
  mode : b.pw.mode = a.pw.mode
  prev : b.pw.prevMode = a.pw.prevMode
  sr : b.sr = a.sr
  pers : b.word 0x010004 = a.word 0x010004
  clk : b.word 0x020000 = a.word 0x020000

theorem StillDozes.refl (s : State) : StillDozes s s := ⟨rfl, rfl, rfl, rfl, rfl⟩

theorem StillDozes.trans {a b c : State} (h : StillDozes a b) (h' : StillDozes b c) : StillDozes a c :=
  ⟨h'.mode.trans h.mode, h'.prev.trans h.prev, h'.sr.trans h.sr, h'.pers.trans h.pers, h'.clk.trans h.clk⟩

theorem State.opStart_dozes (s : State) : StillDozes s s.opStart := by
  have hop := s.opStart_points
  have hpw : s.opStart.pw = s.pw := hop.part State.pw fun _ _ _ => rfl
  exact ⟨congrArg Pw.mode hpw, congrArg Pw.prevMode hpw, hop.part State.sr fun _ _ _ => rfl, s.opStart_word (by decide),
    s.opStart_word (by decide)⟩

theorem State.reclaim_dozes {s : State} (ha : Alone s) (cause : Nat) : StillDozes s (s.reclaim cause) := by
  have hc := State.reclaim_leaves ha cause
  have hpw : (s.reclaim cause).pw = s.pw := hc.part State.pw fun _ _ _ _ _ => rfl
  exact ⟨congrArg Pw.mode hpw, congrArg Pw.prevMode hpw, hc.part State.sr fun _ _ _ _ _ => rfl, hc.word _, hc.word _⟩

theorem State.finishKey_dozes (s : State) (op key st r : Nat) : StillDozes s (s.finishKey op key st r) := by
  unfold State.finishKey
  split
  next d _ =>
    have hparts := s.finish_parts d st r
    exact ⟨(congrArg (fun z : State => z.pw.mode) hparts :), (congrArg (fun z : State => z.pw.prevMode) hparts :),
      (congrArg State.sr hparts :), s.finish_low d st r (by decide), s.finish_low d st r (by decide)⟩
  next => exact .refl s

theorem State.dozeWake_dozes (s : State) (b : Nat) : StillDozes s (s.dozeWake b) := by
  unfold State.dozeWake
  split
  · have hword (off : Nat) (hoff : off ≠ 0x01000C) (w : Word) : (s.setWord 0x01000C w).word off = s.word off :=
      State.word_setWord_ne s w hoff.symm
    exact ⟨rfl, rfl, rfl, hword _ (by decide) _, hword _ (by decide) _⟩
  · exact .refl s

/-- The device is in Doze: the Round stands, and the timebase counts XTAL32. -/
def State.dozeShown (s : State) : State :=
  let s := s.modeIs .doze
  let s : State := { s with
    pt := { s.pt with stopAt := some s.now }
    pw := { s.pw with slotPowered := false }
    up := { s.up with trialAt := none } }
  s.setFld F.CLK_STAT_timebase_src 1

theorem State.dozeShown_leaves (s : State) : let u := s.dozeShown
    u.pw.mode = .doze ∧ u.pw.prevMode = s.pw.mode.code ∧ u.sr = s.sr ∧ u.word 0x010004 = s.word 0x010004 ∧
      u.fld F.CLK_STAT_timebase_src = 1 ∧ u.tw = s.tw := by
  have hm := s.modeIs_moved .doze
  unfold State.dozeShown
  extract_lets m pt pw up v u
  change MovedTo s m .doze at hm
  obtain ⟨hparts, -, hpw, hword⟩ := hm
  have hsr : m.sr = s.sr := (congrArg State.sr hparts :)
  have htw : m.tw = s.tw := (congrArg State.tw hparts :)
  have hpers : m.word 0x010004 = s.word 0x010004 := hword _ (by decide) (by decide)
  clear_value m
  have hmode : v.pw.mode = .doze := by
    show m.pw.mode = .doze
    rw [hpw]
  have hprev : v.pw.prevMode = s.pw.mode.code := by
    show m.pw.prevMode = _
    rw [hpw]
  have hv : v.sr = s.sr ∧ v.tw = s.tw ∧ v.word 0x010004 = s.word 0x010004 := ⟨hsr, htw, hpers⟩
  clear_value v
  obtain ⟨h1, h2, h3⟩ := hv
  exact ⟨hmode, hprev, h1, (State.word_setFld_off v _ _ (by decide)).trans h3, State.fld_setFld_eq _ (by decide) (by decide), h2⟩

/-- Doze is entered. -/
theorem State.dozeEntry_leaves {s : State} (htr : s.pw.trans = some .toDoze) (hwork : s.startedWork = false)
    (hmode : s.pw.mode = .full) (ha : Alone s) : let u := s.dozeEntry
    u.pw.mode = .doze ∧ u.pw.prevMode = 3 ∧ u.fld F.PWR_RADIO_PERS_l_eff = 0 ∧ u.fld F.PWR_RADIO_PERS_h_eff = 0 ∧
      u.fld F.CLK_STAT_timebase_src = 1 ∧ u.noneBridged := by
  have heq : s.dozeEntry = ((s.dozeOff.dozeShown.opStart.reclaim).finishMode 1 stOK).each
      (s.dozeOff.dozeShown.opStart.reclaim).gpioWakes fun s n => s.dozeWake (6 + n) := by
    unfold State.dozeEntry
    rw [if_neg (by simp [htr, hwork])]
    unfold State.dozeOff State.dozeShown
    with_reducible rfl
  obtain ⟨hsteady, hnone, hl, hh⟩ := s.dozeOff_leaves
  rw [heq]
  generalize s.dozeOff = d at *
  obtain ⟨hdoze, hprev, hsr, hpers, htime, htw⟩ := d.dozeShown_leaves
  generalize d.dozeShown = v at *
  have hva : Alone v := by
    have hda := hsteady.alone ha
    unfold Alone State.peerAlive at *
    rw [htw]
    exact hda
  have hop := v.opStart_dozes
  have hopa : Alone v.opStart := v.opStart_points.alone hva
  have hrest : StillDozes v ((v.opStart.reclaim).finishMode 1 stOK) :=
    (hop.trans (State.reclaim_dozes hopa 1)).trans (State.finishKey_dozes _ _ _ _ _)
  generalize (v.opStart.reclaim).gpioWakes = l
  generalize (v.opStart.reclaim).finishMode 1 stOK = w at *
  have hall : StillDozes v (w.each l fun s n => s.dozeWake (6 + n)) := by
    clear heq
    induction l generalizing w with
    | nil => exact hrest
    | cons n l ih => exact ih (w.dozeWake (6 + n)) (hrest.trans (w.dozeWake_dozes _))
  generalize w.each l (fun s n => s.dozeWake (6 + n)) = u at *
  refine ⟨hall.mode.trans hdoze, ?_, ?_, ?_, ?_, ?_⟩
  · rw [hall.prev, hprev, hsteady.pw, hmode]
    rfl
  · exact (State.fld_of_word (hall.pers.trans hpers)).trans hl
  · exact (State.fld_of_word (hall.pers.trans hpers)).trans hh
  · exact (State.fld_of_word hall.clk).trans htime
  · intro f hf
    exact hnone f (by rw [← hsr, ← hall.sr]; exact hf)

/-! ### In Doze (R53, R183, R299) -/

theorem State.dozeHold_woken {s : State} (hmode : s.pw.mode = .doze) (htr : s.pw.trans = none)
    (hfull : max 1 (s.fld F.PWR_DOZE_CFG_hold_cells) ≤ s.heldCells) : Woken s s.dozeHold 14 := by
  have heq : s.dozeHold = s.dozeWake 14 := if_pos ⟨hmode, by
    unfold State.holdFull
    rw [decide_eq_true hfull]
    rfl⟩
  rw [heq]
  exact State.dozeWake_woken (by decide) hmode htr

theorem State.remaskSlots_leaves (s : State) (l : List Nat) : ∃ n kv, s.remaskSlots l = { s with free := n, kv := kv } := by
  induction l generalizing s with
  | nil => exact ⟨s.free, s.kv, rfl⟩
  | cons k l ih =>
    obtain ⟨n, kv, h⟩ := ih { (s.draw 32).2 with kv := { s.kv with
      work := Tbl.upd s.kv.work k fun w => w.remask (Bytes.slice (s.draw 32).1 0 w.size) } }
    exact ⟨n, kv, h⟩

theorem State.remask_leaves (s : State) : s.remask.pw = s.pw ∧ s.remask.ml = s.ml ∧ s.remask.word 0x020000 = s.word 0x020000 := by
  obtain ⟨n, kv, h⟩ := s.remaskSlots_leaves (Tbl.keys s.kv.work)
  unfold State.remask
  rw [h]
  exact ⟨rfl, rfl, State.word_setFld_off _ F.KV_REMASK_passes _ (by decide)⟩

/-- The mesh domain and the fast clocks are on for the slot. -/
def State.slotShown (s : State) : State :=
  let s : State := { s with pw := { s.pw with slotPowered := true }, rs := { s.rs with ready := none } }
  (s.setFld F.CLK_STAT_timebase_src 0).setFld F.SRX_STAT_lock 0

theorem State.slotWake_leaves {s : State} (hmode : s.pw.mode = .doze) (hoff : s.pw.slotPowered = false)
    (href : s.ck.refFailed = false) : let u := s.slotWake
    u.pw = { s.pw with slotPowered := true } ∧ u.fld F.CLK_STAT_timebase_src = 0 ∧ u.ml = s.ml := by
  have heq : s.slotWake = if s.slotShown.kv.remaskAt + msNs 50 ≤ s.slotShown.now then s.slotShown.remask else s.slotShown :=
    if_neg (by simp [hmode, hoff, href])
  have hw : s.slotShown.pw = { s.pw with slotPowered := true } ∧ s.slotShown.fld F.CLK_STAT_timebase_src = 0 ∧
      s.slotShown.ml = s.ml := by
    refine ⟨rfl, ?_, rfl⟩
    exact (State.fld_setFld_off _ _ _ _ (by decide)).trans (State.fld_setFld_eq _ (by decide) (by decide))
  rw [heq]
  generalize s.slotShown = w at *
  obtain ⟨h1, h2, h3⟩ := hw
  obtain ⟨hpw, hml, hclk⟩ := w.remask_leaves
  split
  · exact ⟨hpw.trans h1, (State.fld_of_word hclk).trans h2, hml.trans h3⟩
  · exact ⟨h1, h2, h3⟩

/-! ### The return from Doze (R72) -/

/-- Full again: the clocks of the Round resume, nothing is held, and the timebase counts REFCLK. -/
def State.fullAgain (s : State) : State :=
  let pt := s.pt.resume s.now
  let s := (s.modeIs .full).fullStarts
  let s : State := { s with
    pt := { s.pt with
      macAt := pt.macAt, nodeAt := pt.nodeAt, macSweep := pt.macSweep, nodeSweep := pt.nodeSweep, stopAt := none }
    pw := { s.pw with held := [], slotPowered := false }
    up := if (s.up.running.any fun b => (s.ent b).state == 3) then { s.up with trialAt := some s.now } else s.up }
  s.setFld F.CLK_STAT_timebase_src 0

theorem State.fullAgain_leaves (s : State) : let u := s.fullAgain
    u.pw.mode = .full ∧ u.pw.prevMode = s.pw.mode.code ∧ u.pw.held = [] ∧ u.fld F.CLK_STAT_timebase_src = 0 ∧
      (Alone s → Alone u) := by
  have hm := s.modeIs_moved .full
  have hst := (s.modeIs .full).fullStarts_stays
  have hsnap (z : State) : z.snapStarts.pw.mode = z.pw.mode ∧ z.snapStarts.pw.prevMode = z.pw.prevMode ∧
      z.snapStarts.tw = z.tw := ⟨rfl, rfl, rfl⟩
  unfold State.fullAgain
  generalize s.modeIs .full = m at *
  extract_lets pt v ptv pw up w u
  change Stays m.snapStarts v at hst
  have hpw : v.pw.mode = .full ∧ v.pw.prevMode = s.pw.mode.code := by
    obtain ⟨hmode, hprev, -⟩ := hsnap m
    rw [hst.pw, hmode, hprev, hm.pw]
    exact ⟨rfl, rfl⟩
  have halone : Alone s → Alone v := fun ha => by
    have htw : m.tw = s.tw := (congrArg State.tw hm.parts :)
    refine hst.alone ?_
    unfold Alone State.peerAlive at *
    rw [(hsnap m).2.2, htw]
    exact ha
  clear_value v
  exact ⟨hpw.1, hpw.2, rfl, State.fld_setFld_eq _ (by decide) (by decide), halone⟩

theorem Steady.copiesBack {a b : State} (h : Steady a b) : Steady a b.copiesBack := by
  refine h.each _ fun p hc => ?_
  split
  · exact hc
  · split
    · exact hc.setCtx _ _ _
    · exact hc

theorem Steady.calBegin {a b : State} (h : Steady a b) (x : Bool) (kind : Nat) : Steady a (b.calBegin x kind) := by
  unfold State.calBegin
  extract_lets r
  split
  · exact (h.set (u := b.setRadio x { r with held := max r.held kind }) rfl rfl rfl rfl).setFld (by cases x <;> decide) 1
  · exact (h.set (u := b.setRadio x { r.swStart with calAt := b.now }) rfl rfl rfl rfl).setFld (by cases x <;> decide) kind

theorem Steady.setRadio {a b : State} (h : Steady a b) (x : Bool) (r : Radio) : Steady a (b.setRadio x r) := h.set rfl rfl rfl rfl

theorem Steady.radiosOn {a b : State} (h : Steady a b) : Steady a b.radiosOn := by
  refine h.each _ fun x hc => ?_
  extract_lets m
  split
  · exact hc
  · exact (hc.setRadio x _).calBegin x 2

/-- What is left to do once Full is reached from Doze with nothing held. -/
theorem State.fullFromDoze_eq {s : State} (hheld : s.pw.held = []) (lost : List Nat) : s.fullFromDoze true lost =
    (((s.fullAgain.copiesBack.radiosOn.reclaim).updatePool).finishMode 3 stOK).drainEvents := by
  have heq : s.fullFromDoze true lost =
      ((((s.fullAgain.copiesBack.radiosOn.reclaim).each s.pw.held State.replay).updatePool).finishMode 3 stOK).drainEvents := by
    unfold State.fullFromDoze State.fullAgain
    rw [if_pos rfl]
  rw [heq, hheld]
  rfl

theorem State.fullFromDoze_leaves {s : State} (lost : List Nat) (hmode : s.pw.mode = .doze) (htr : s.pw.trans = some .fromDoze)
    (href : s.ck.refFailed = false) (hheld : s.pw.held = []) (ha : Alone s) : let u := s.fullReached true lost
    u.pw.mode = .full ∧ u.pw.prevMode = 1 ∧ u.pw.held = [] ∧ u.fld F.CLK_STAT_timebase_src = 0 := by
  have heq : s.fullReached true lost = s.fullFromDoze true lost := by
    unfold State.fullReached
    rw [if_neg (by rw [href]; decide), if_neg (by rw [hmode]; simp), if_pos ⟨hmode, htr⟩]
  rw [heq, State.fullFromDoze_eq hheld]
  obtain ⟨hfull, hprev, hnone, htime, halone⟩ := s.fullAgain_leaves
  have hva := halone ha
  generalize s.fullAgain = v at *
  have hst : Steady v (((v.copiesBack.radiosOn.reclaim).updatePool).finishMode 3 stOK).drainEvents :=
    ((((Steady.refl v).copiesBack.radiosOn.reclaim hva 1).updatePool).finishKey _ _ _ _).drainEvents
  refine ⟨(congrArg Pw.mode hst.pw).trans hfull, ?_, (congrArg Pw.held hst.pw).trans hnone, (hst.fld rfl).trans htime⟩
  rw [hst.pw, hprev, hmode]
  rfl

/-! ### Hibernate and a requested Dawn (R51, R56) -/

theorem State.hibernateEntry_leaves {s : State} (htr : s.pw.trans = some .toHibernate) : let u := s.hibernateEntry
    Restarted u ∧ u.pw.mode = .hibernate ∧ u.pw.stage = .off ∧ u.fld F.PWR_STAT_hib_source = 1 := by
  have heq : s.hibernateEntry = (s.writeSnap.finishMode 0 stOK).enterHib 1 := if_neg (by simp [htr])
  rw [heq]
  generalize s.writeSnap.finishMode 0 stOK = v
  exact ⟨v.enterHib_restarted 1, (v.enterHib_mode 1).1, (v.enterHib_mode 1).2, v.enterHib_source (by decide)⟩

/-- The requested Dawn serves. -/
def State.dawnShown (s : State) : State :=
  let s : State := { s with pw := { s.pw with requestedDawn := true }, up := { s.up with trialAt := none } }
  s.setFld F.TPL_STAT_dawn_active 1

theorem State.dawnEntry_leaves {s : State} (htr : s.pw.trans = some .toDawn) (ha : Alone s) : let u := s.dawnEntry
    u.pw.mode = .dawn ∧ u.pw.requestedDawn = true ∧ u.pw.stage = .onAir ∧ u.fld F.TPL_STAT_dawn_active = 1 ∧
      u.fld F.HIF_GEN_gen = (s.fld F.HIF_GEN_gen + 1) % 256 ∧ u.pt.mac = [] ∧ u.wl.clients = [] ∧ u.up.copyA = false ∧
      u.up.copyB = false := by
  have heq : s.dawnEntry = (((((s.discard 0x7 fun d => d.opcode == 0x0003 && d.key == 2).dataLost false
      true).toDawn).dawnShown.opStart.reclaim).finishMode 2 stOK) := by
    unfold State.dawnEntry
    rw [if_neg (by simp [htr])]
    unfold State.dawnShown
    with_reducible rfl
  have hfell := s.fallsToDawn 0x7 (fun d => d.opcode == 0x0003 && d.key == 2) true
  rw [heq]
  generalize ((s.discard 0x7 fun d => d.opcode == 0x0003 && d.key == 2).dataLost false true).toDawn = d at *
  have hda : Alone d := hfell.alone ha
  have hshown : d.dawnShown.pw = { d.pw with requestedDawn := true } ∧ d.dawnShown.pt = d.pt ∧ d.dawnShown.wl = d.wl ∧
      d.dawnShown.up.copyA = d.up.copyA ∧ d.dawnShown.up.copyB = d.up.copyB ∧ d.dawnShown.tw = d.tw ∧
      d.dawnShown.fld F.TPL_STAT_dawn_active = 1 ∧ d.dawnShown.fld F.HIF_GEN_gen = d.fld F.HIF_GEN_gen :=
    ⟨rfl, rfl, rfl, rfl, rfl, rfl, State.fld_setFld_eq _ (by decide) (by decide), State.fld_setFld_off _ _ _ _ (by decide)⟩
  generalize d.dawnShown = v at *
  obtain ⟨hpw, hpt, hwl, hA, hB, htw, hactive, hgen⟩ := hshown
  have hva : Alone v := by
    unfold Alone State.peerAlive at *
    rw [htw]
    exact hda
  have hop := v.opStart_points
  generalize v.opStart = o at *
  have hc := State.reclaim_leaves (hop.alone hva) 1
  generalize o.reclaim = c at *
  have hkey := c.finishKey_leaves 0x0003 2 stOK 0
  have hcalm : CalmIo c.io (c.finishMode 2 stOK).io := by
    unfold State.finishMode State.finishKey
    split
    · exact c.finish_calm _ _ _
    · exact .refl _
  change { c.finishMode 2 stOK with io := c.io } = c ∧ _ at hkey
  generalize c.finishMode 2 stOK = u at *
  have hparts : { u with io := c.io } = c := hkey.1
  have hword (off : Nat) (hoff : off ∈ calmRegs) : u.word off = v.word off :=
    (hcalm.word off hoff).trans ((hc.word off).trans (hop.io.word off hoff))
  have hupw : u.pw = v.pw := ((congrArg State.pw hparts :).trans (hc.part State.pw fun _ _ _ _ _ => rfl)).trans
    (hop.part State.pw fun _ _ _ => rfl)
  have hupt : u.pt = v.pt := ((congrArg State.pt hparts :).trans (hc.part State.pt fun _ _ _ _ _ => rfl)).trans
    (hop.part State.pt fun _ _ _ => rfl)
  have huwl : u.wl = v.wl := ((congrArg State.wl hparts :).trans (hc.part State.wl fun _ _ _ _ _ => rfl)).trans
    (hop.part State.wl fun _ _ _ => rfl)
  have huup : u.up = v.up := ((congrArg State.up hparts :).trans (hc.part State.up fun _ _ _ _ _ => rfl)).trans
    (hop.part State.up fun _ _ _ => rfl)
  refine ⟨?_, ?_, ?_, ?_, ?_, ?_, ?_, ?_, ?_⟩
  · rw [hupw, hpw]; exact hfell.mode
  · rw [hupw, hpw]
  · rw [hupw, hpw]; exact hfell.stage
  · exact (State.fld_of_word (hword 0x040000 (by decide))).trans hactive
  · exact (State.fld_of_word (hword 0x050004 (by decide))).trans (hgen.trans hfell.gen)
  · rw [hupt, hpt]; exact hfell.mac
  · rw [huwl, hwl]; exact hfell.clients
  · rw [huup, hA]; exact hfell.copies.1
  · rw [huup, hB]; exact hfell.copies.2

/-! ### The periodic snapshot (R64, R65) -/

/-- The snapshot that is written now. -/
def State.snapNow (s : State) : Snap :=
  { seq := max ((s.nv.snap0.map (·.seq)).getD 0) ((s.nv.snap1.map (·.seq)).getD 0) + 1
    at_rtc := s.rtc, pers := (s.io.eWord 0x010004).toNat % 16,
    conns := s.ml.conns.filterMap (fun p => if p.2.state = 3 then none else some (p.2.snap p.1)),
    addrs := s.ml.conns.map (fun p => (p.1, p.2.addr, p.2.radioL)),
    sfLen := s.ml.sfLen, sfMap := s.ml.sfMap, phase := s.now - s.ml.slotAt, slot := s.ml.slot,
    journal := s.ml.conns.filterMap fun p => p.2.upd.map fun u => (p.1, u.ctr, s.snapUpd p.1 u) }

theorem State.writeSnap_leaves (s : State) : let u := s.writeSnap
    (u.nv.snap0 = some s.snapNow ∨ u.nv.snap1 = some s.snapNow) ∧ u.pw.snapAt = s.now ∧
      (u.nv.snap0 = s.nv.snap0 ∨ u.nv.snap1 = s.nv.snap1) := by
  unfold State.writeSnap
  extract_lets seq sn pw v older nv u
  have hsn : sn = s.snapNow := rfl
  rw [← hsn]
  unfold u
  split
  · exact ⟨.inl rfl, rfl, .inr rfl⟩
  · exact ⟨.inr rfl, rfl, .inl rfl⟩

/-- A write of the snapshot that failed. -/
def State.snapFails (s : State) : State :=
  State.setFld { s with pw := { s.pw with snapAt := s.now } } F.PWR_SNAP_STAT_write_err 1

section
variable {s : State} (hon : s.flag F.PWR_SNAP_CFG_enable = true) (hmode : s.pw.mode = .full ∨ s.pw.mode = .doze)
  (hdue : s.pw.snapAt + 1000000000 * clamp 10 3600 (s.eFld F.PWR_SNAP_CFG_interval_s) ≤ s.now)
include hon hmode hdue

theorem State.periodicSnap_eq (ok : Bool) : s.periodicSnap ok = if ok then (s.latchFld F.PWR_SNAP_CFG_interval_s).writeSnap
    else (s.latchFld F.PWR_SNAP_CFG_interval_s).snapFails := by
  refine if_neg ?_
  have hlate : ¬ s.now < s.pw.snapAt + secNs (clamp 10 3600 (s.eFld F.PWR_SNAP_CFG_interval_s)) := by
    unfold secNs
    omega
  rcases hmode with h | h
  all_goals simp [hon, h, hlate]

end

/-- Settles O23: each move between modes that was begun is completed. -/
theorem movesBetweenModes : Obligations.MovesBetweenModes := by
  intro t s ha
  have hat : Alone (s.at t) := ha
  refine ⟨fun htr hwork hmode => ?doze, fun hmode htr => ⟨fun hfull => ?hold, fun hoff href => ?slot⟩,
    fun hmode htr href hheld lost => ?full, fun htr => ?hib, fun htr hmode => ?dawn, fun hon hmode hdue => ⟨?snap, ?fails⟩⟩
  case doze => exact ⟨_, rfl, State.dozeEntry_leaves (s := s.at t) htr hwork hmode hat⟩
  case hold =>
    have hw := State.dozeHold_woken (s := s.at t) hmode htr hfull
    exact ⟨_, run_eq_next (f := State.dozeHold) rfl hw.pending, hw.at⟩
  case slot => exact ⟨_, rfl, State.slotWake_leaves (s := s.at t) hmode hoff href⟩
  case full => exact ⟨_, rfl, State.fullFromDoze_leaves (s := s.at t) lost hmode htr href hheld hat⟩
  case hib => exact ⟨_, rfl, State.hibernateEntry_leaves (s := s.at t) htr⟩
  case dawn => exact ⟨_, rfl, State.dawnEntry_leaves (s := s.at t) htr hat⟩
  case snap =>
    have heq : (s.at t).periodicSnap true = ((s.at t).latchFld F.PWR_SNAP_CFG_interval_s).writeSnap :=
      State.periodicSnap_eq (s := s.at t) hon hmode hdue true
    obtain ⟨hput, hsnap, hkeep⟩ := ((s.at t).latchFld F.PWR_SNAP_CFG_interval_s).writeSnap_leaves
    rw [← heq] at hput hsnap hkeep
    exact ⟨_, _, rfl, hput, rfl, rfl, rfl, rfl, rfl, hsnap, hkeep⟩
  case fails =>
    have heq : (s.at t).periodicSnap false = ((s.at t).latchFld F.PWR_SNAP_CFG_interval_s).snapFails :=
      State.periodicSnap_eq (s := s.at t) hon hmode hdue false
    exact ⟨_, run_eq_next (f := fun s => s.periodicSnap false) heq rfl, rfl, State.fld_setFld_eq _ (by decide) (by decide)⟩

end Sys2Proof.Machine
end
